-- ==== Sys2Proof/Word.lean ====
section
/-! DEFINITION. The word types of the UCM-9640: bytes, the 32-bit words of BAR0 (R6) and the 64-bit
values of process image entries and formats (R11, R63). -/

namespace Sys2Proof

/-- One byte of a format, record or frame (R11). -/
abbrev Byte := BitVec 8

/-- One register word of BAR0 (R6). -/
abbrev Word := BitVec 32

/-- One 64-bit value field (R63). -/
abbrev DWord := BitVec 64

/-- A table keyed by an address, index or number: sorted, each key once, no entry equal to what an
unlisted key reads as. -/
abbrev Tab (α : Type) := List (Nat × α)

end Sys2Proof
end

