-- ==== Sys2Proof/Types.lean ====
section
/-! DEFINITION. The named values and small records that commands carry and State holds: the mode
tuple (Table 2.1), point types (Table 3.2), completion statuses (Table 13.10), grants (Table 13.6),
the call context of a host command, and what leaves the module (`Out`). -/

namespace Sys2Proof

/-- Role component of the mode tuple (Table 2.1). -/
inductive Role where
  | solo | active | standby | syncing | retired
deriving DecidableEq, Repr, Inhabited

/-- Run state component (Table 2.1). -/
inductive RunState where
  | boot | idle | run | hold | safe
deriving DecidableEq, Repr, Inhabited

/-- Change state component (Table 2.1). -/
inductive ChangeState where
  | none | staged | trial | confirmed
deriving DecidableEq, Repr, Inhabited

/-- ILE state component (Table 2.1). -/
inductive IleState where
  | lane3 | ab | ac | bc | withdrawn
deriving DecidableEq, Repr, Inhabited

/-- Network state component (Table 2.1). -/
inductive NetState where
  | listen | coldLead | integrating | synced | narrow | passive
deriving DecidableEq, Repr, Inhabited

/-- Firmware state component (Table 2.1). -/
inductive FwState where
  | confirmed | trial | fallback
deriving DecidableEq, Repr, Inhabited

/-- Self-test mode component (Table 2.1). -/
inductive BstMode where
  | native | compat
deriving DecidableEq, Repr, Inhabited

/-- Heat tier component (Table 2.1). -/
inductive Tier where
  | t0 | t1 | t2 | t3
deriving DecidableEq, Repr, Inhabited

/-- The mode tuple of R28: nine components, each with exactly one value. -/
structure ModeTuple where
  role : Role
  run : RunState
  change : ChangeState
  forced : Bool
  ile : IleState
  net : NetState
  tier : Tier
  fw : FwState
  bst : BstMode
deriving DecidableEq, Repr, Inhabited

/-- Retirement causes, MOD_STATUS.RETIRE_CAUSE (Table 2.14). -/
inductive RetireCause where
  | none | fault | judged | command | ejector | self | resync
deriving DecidableEq, Repr, Inhabited

/-- Refusal reasons, MOD_REFUSE.REASON (Table 2.16). -/
inductive Reason where
  | notLegal | guard | busy | role
deriving DecidableEq, Repr, Inhabited

/-- Point types (Table 3.2). -/
inductive PType where
  | unused | bool | int64 | uint64 | real64 | current | bits64 | ile
deriving DecidableEq, Repr, Inhabited

/-- A process image entry (Table 3.2); `age` is AGE in the input image and WRITTEN in the output
image. -/
structure Entry where
  value : DWord
  ty : PType
  qual : Byte
  forced : Bool
  changed : Bool
  overrun : Bool
  safety : Bool
  age : Word
deriving DecidableEq, Repr, Inhabited

/-- The entry that reads as all zeros: an address that the I/O map does not assign to the image. -/
def Entry.zero : Entry := ⟨0, .unused, 0, false, false, false, false, 0⟩

/-- Completion status codes (Table 13.10). -/
inductive Status where
  | ok | refused | notReady | aborted
  | grantMissing | grantFormat | grantKey | grantSerial | grantAction | grantRole | grantExpired
  | grantTarget | grantSignature | grantReplay | nonceFull | slotEmpty
  | badFormat | badSignature | badDigest | badGen | badLimit | badIleTable | notOnline | storeFull
  | partnerFail
  | forceFull | notAssigned | notForceable | badValue | notHost
  | ccvMismatch | keyLockout | legacyWrite | fwNoImage
  | voidKey | voidType | voidState
  | badOpcode | badArgs | badBuffer | dmaTimeout | dmaError | hartFail
deriving DecidableEq, Repr, Inhabited

/-- A grant: its 196 bytes (Table 13.6). -/
structure Grant where
  raw : List Byte
deriving DecidableEq, Repr, Inhabited

/-- How a host command presents its authorisation (descriptor FLAGS, Table 13.2). -/
inductive Auth where
  | none
  | grant (g : Grant)
  | standing (slot : Nat)
  /-- FLAGS.GRANT is set and the transfer of the grant has failed -/
  | lost
deriving DecidableEq, Repr, Inhabited

/-- The call context of a host command: the ring it is fetched from, its descriptor's TAG, IRQ and buffer fields and
its authorisation. `doorbell` is its doorbell time (R332), which the fetch takes from the ring. -/
structure Call where
  ring : Nat
  tag : Nat
  irq : Bool
  doorbell : Nat
  auth : Auth
  bufAddr : Nat
  bufLen : Nat
deriving DecidableEq, Repr, Inhabited

/-- A POINT_WRITE record (Table 13.5); its reserved bytes are ignored (R12). -/
structure PointRec where
  addr : Nat
  ty : Nat
  value : DWord
deriving DecidableEq, Repr, Inhabited

/-- A key record (R349), its reserved bytes 0; `qx` and `qy` are the coordinates as numbers. -/
structure KeyRec where
  slot : Nat
  roles : Nat
  qx : Nat
  qy : Nat
deriving DecidableEq, Repr, Inhabited

/-- The ILE operator command body (Table 5.8), less its CMD byte. -/
structure OpBody where
  index : Nat
  key : Nat
  reservedZero : Bool
deriving DecidableEq, Repr, Inhabited

/-- A completion entry (Table 13.3), less PHASE, HEAD and GT, which are set when it is posted. -/
structure Completion where
  tag : Nat
  opcode : Nat
  status : Status
  reason : Option Reason
  bytes : Nat
  result : DWord
  irq : Bool
deriving DecidableEq, Repr, Inhabited

/-- Kinds of event entries (Table 13.11). -/
inductive EventKind where
  | mode | record | lost | ringError
deriving DecidableEq, Repr, Inhabited

/-- An event entry (Table 13.11), less PHASE and CYCLE, which are set when it is posted. -/
structure Event where
  kind : EventKind
  code : Nat
  source : Nat
  gt : Nat
  data : Nat
  data2 : Nat
deriving DecidableEq, Repr, Inhabited

/-- The three ILE lanes (Table 6.1). -/
inductive Lane where
  | a | b | c
deriving DecidableEq, Repr, Inhabited

/-- The two Oxuger channels. -/
inductive Chan where
  | a | b
deriving DecidableEq, Repr, Inhabited

/-- Oxuger plans (PLAN_NOW, Table 7.6). -/
inductive Plan where
  | full | narrowA | narrowB
deriving DecidableEq, Repr, Inhabited

/-- Causes of arbitration (Table 9.4). -/
inductive ArbCause where
  | none | signature | sigMissing | silent | ileMismatch | dualDrive
deriving DecidableEq, Repr, Inhabited

/-- A Plovlink packet (Table 9.1) as received on a port: its fields, its payload bytes and its PCRC. What a payload
means whose layout the manual does not give stands beside it, as the operand of its command (log entry 4). -/
structure PktHdr where
  port : Nat
  ptype : Nat
  hops : Nat
  origin : Nat
  dest : Nat
  seq : Nat
  len : Nat
  rsvd : Nat
  pay : List Byte
  pcrc : Nat
deriving DecidableEq, Repr, Inhabited

/-- An Oxuger frame as received: the channel, the GT of its start-of-frame and end-of-frame
characters on the receiver's clock, and the bytes of Table 7.2. -/
structure RxFrame where
  chan : Chan
  sof : Nat
  eof : Nat
  bytes : List Byte
deriving DecidableEq, Repr, Inhabited

/-- What leaves the module. The list of these in State is the model's own record of its outputs. -/
inductive Out where
  /-- Answer to a BAR0 access: Unsupported Request. -/
  | barUr
  /-- Answer to a BAR0 read. -/
  | barData (w : Word)
  /-- A DMA write of data into a command's host buffer. -/
  | dma (ring tag : Nat) (bytes : List Byte)
  /-- A completion entry written at `index` of completion ring `ring` (32 bytes of Table 13.3). -/
  | completion (ring index : Nat) (bytes : List Byte)
  /-- An event entry written at `index` of the event ring (32 bytes of Table 13.11). -/
  | event (index : Nat) (bytes : List Byte)
  /-- An MSI-X message on a vector (R336). -/
  | msix (vec : Nat)
  /-- An Oxuger frame (Table 7.2). -/
  | oxnFrame (chan : Chan) (bytes : List Byte)
  /-- A Plovlink packet of a type (Table 9.2) with its header fields, its payload as numbers (log entry 4), and the
  packet as it goes out, byte for byte (Table 9.1). -/
  | packet (port ptype hops origin dest seq : Nat) (payload : List Nat) (bytes : List Byte)
  /-- A frame on the J4 service line (Table 20.5). -/
  | service (bytes : List Byte)
  /-- A CAN frame put on the bus of a port, with its IDE, FDF, BRS and ESI. -/
  | can (port id : Nat) (ide fdf brs esi : Bool) (data : List Byte)
  /-- A HART request or response on a channel, in a long or a short frame (R305). -/
  | hart (ch : Nat) (long : Bool) (cmd : Nat) (data : List Byte)
  /-- Read data returned to the debug master; `err` is the error response. -/
  | debug (err : Bool) (bytes : List Byte)
deriving DecidableEq, Repr, Inhabited

end Sys2Proof
end

