-- ==== Sys2Proof/Generation.lean ====
section
/-! DEFINITION. A configuration generation (R92): the program's variable layout, the I/O map, cycle
parameters, MOD_CFG, schedule and narrow plan, interlocking table, gate setup, trip I/O parameters,
analog and CAN configuration, and the container that carries it (Table 4.1). -/

namespace Sys2Proof

/-- What an I/O map entry is tied to: the source of an input point or the destination of an output
point. -/
inductive Link where
  | none | net | safety | host
  | ti (i : Nat) | tqCmd (q : Nat) | tqStatus (q : Nat) | fnStatus
  | alI (x : Nat) | alV (x : Nat) | alSet (x : Nat) | alStatus (x : Nat) | hart (x : Nat)
  | canRx (p : Nat) | canTx (p : Nat) | canCtl (p : Nat) | canStatus (p : Nat)
  | ile | signal (pair idx : Nat)
  | clvT | clvId | clvEcho (station : Nat) | clover (station pos : Nat)
deriving DecidableEq, Repr, Inhabited

/-- An assigned point of the I/O map: direction, TYPE, freshness limit in ns (0 = not checked, R66),
substitute value, declared safe value (R44), and its tie. -/
structure Point where
  addr : Nat
  isOut : Bool
  ty : PType
  freshNs : Nat
  subst : Option DWord
  safe : DWord
  link : Link
deriving DecidableEq, Repr, Inhabited

/-- Cycle parameters of Tables 3.4, 6.2 and 17.3, times in ns. -/
structure CycleParams where
  minCycle : Nat
  scanWdt : Nat
  agreeTimeout : Nat
  anaTolUa : Nat
  laneRetireAt : Nat
  bndTimeout : Nat
  retAtCell : Nat
  retAtPlv : Nat
  retAtAlp : Nat
  retAtCan : Nat
deriving DecidableEq, Repr, Inhabited

/-- The MOD_CFG fields (Table 2.15). -/
structure ModCfg where
  autostart : Bool
  ileHandover : Bool
  pairWaitS : Nat
deriving DecidableEq, Repr, Inhabited

/-- A slot entry of a schedule (Table 7.10); START and LEN in units of 100 ns. -/
structure SlotEntry where
  slot : Nat
  chan : Chan
  owner : Nat
  start : Nat
  essential : Bool
  len : Nat
  ftype : Nat
  payload : Nat
  reservedZero : Bool
deriving DecidableEq, Repr, Inhabited

/-- A pack entry (Table 7.11); `rsvd` holds its reserved bits. -/
structure PackEntry where
  addr : Nat
  code : Nat
  q : Bool
  rsvd : Nat
deriving DecidableEq, Repr, Inhabited

/-- A schedule or narrow plan section (Table 7.9); `voteOfsUs` is VOTE_OFS of Table 6.2. -/
structure Sched where
  magic : Nat
  format : Nat
  narrow : Bool
  reservedZero : Bool
  gen : Nat
  tOc : Nat
  nitUs : Nat
  apOfsNs : Nat
  crcLimit : Nat
  voteOfsUs : Nat
  nCs : Nat
  syncList : List Nat
  judgeList : List Nat
  slots : List SlotEntry
deriving DecidableEq, Repr, Inhabited

/-- A safety connection (R187); the point lists map bit or word positions of S_DATA to point addresses. The I/O map may
leave S_TIMEOUT to its default. -/
structure SafetyConn where
  conn : Nat
  station : Nat
  toPair : Bool
  sLen : Nat
  sTimeout : Option Nat
  slot : Nat
  bitPoints : List (Nat × Nat)
  wordPoints : List (Nat × Nat)
deriving DecidableEq, Repr, Inhabited

/-- A source or binding reference (Table 5.14). -/
structure Ref where
  kind : Nat
  node : Nat
  pos : Nat
deriving DecidableEq, Repr, Inhabited

/-- Element types (Table 5.1). -/
inductive ElemType where
  | breaker | disconnector | selector | earthing | node
deriving DecidableEq, Repr, Inhabited

/-- Node detection modes (R127). -/
inductive Detect where
  | none | bin | ana
deriving DecidableEq, Repr, Inhabited

/-- An element record (Table 5.10); TRAVEL in ns, node indices absent where the record holds 0xFFFF. -/
structure Elem where
  key : Nat
  ty : ElemType
  detect : Detect
  travel : Nat
  node1 : Option Nat
  node2 : Option Nat
  node3 : Option Nat
  srcA : Ref
  srcB : Ref
  deadUa : Nat
  liveUa : Nat
  status : Option Nat
deriving DecidableEq, Repr, Inhabited

/-- A required or flank entry of a path: an element index and the position reserved (1 A, 2 B). -/
structure Posn where
  elem : Nat
  pos : Nat
deriving DecidableEq, Repr, Inhabited

/-- A path record (Table 5.11) with its lists, which stand at `listOff` of the pool. -/
structure PathDef where
  key : Nat
  src : Nat
  dst : Nat
  closer : Nat
  required : List Posn
  flank : List Posn
  conflicts : List Nat
  setTimeoutS : Nat
  releaseMs : Nat
  emergS : Nat
  listOff : Nat
  reqAddr : Nat
  status : Option Nat
deriving DecidableEq, Repr, Inhabited

/-- Permissive kinds (Table 5.4). -/
inductive PermKind where
  | close | move | earth | pathState
deriving DecidableEq, Repr, Inhabited

/-- A permissive record (Table 5.12); its path entries stand at `listOff` of the pool. -/
structure PermDef where
  kind : PermKind
  unreserved : Bool
  target : Nat
  pos : Nat
  mask : Nat
  paths : List Nat
  listOff : Nat
  bind : Ref
  status : Option Nat
deriving DecidableEq, Repr, Inhabited

/-- The interlocking table (R147): the header fields of Table 5.9 with the outcomes of its signature and digest
checks, the records, and in `raw` the bytes that they are read from. -/
structure IleTable where
  magic : Nat
  format : Nat
  gen : Nat
  bytes : Nat
  nElem : Nat
  nPath : Nat
  nPerm : Nat
  elemOff : Nat
  pathOff : Nat
  permOff : Nat
  poolOff : Nat
  poolBytes : Nat
  keySlot : Nat
  sigOk : Bool
  digestOk : Bool
  reservedZero : Bool
  raw : List Byte
  elems : List Elem
  paths : List PathDef
  perms : List PermDef
deriving DecidableEq, Repr, Inhabited

/-- A region descriptor (Table 14.4). -/
structure Region where
  baseG : Nat
  limitG : Nat
  masters : Nat
  colour : Nat
  secure : Bool
  lock : Nat
  rights : Nat
  reservedZero : Bool
deriving DecidableEq, Repr, Inhabited

/-- One entry of the generation's gate setup section (R361). -/
structure GateEntry where
  gate : Nat
  index : Nat
  reservedZero : Bool
  desc : Region
deriving DecidableEq, Repr, Inhabited

/-- Analog channel modes (Table 11.1). -/
inductive AlMode where
  | off | source | sink | input
deriving DecidableEq, Repr, Inhabited

/-- A HART poll list entry (R306). -/
structure PollEntry where
  cmd : Nat
  data : List Byte
  points : List Nat
deriving DecidableEq, Repr, Inhabited

/-- Analog parameters of one channel (Table 11.2); AL_SAFE in nA, AL_TIMEOUT in ns; PV limits as
binary32 bits. -/
structure AlParam where
  mode : AlMode
  inputPwr : Bool
  namur : Bool
  safeNa : Nat
  timeout : Nat
  poll : List PollEntry
  pvLow : Word
  pvHigh : Word
  pvUnit : Nat
  identity : List Byte
deriving DecidableEq, Repr, Inhabited

/-- When a CAN transmit object queues an entry (R314). -/
inductive TxTrigger where
  | every | change | everyN (n : Nat)
deriving DecidableEq, Repr, Inhabited

/-- A CAN transmit object (R314). -/
structure TxObj where
  id : Nat
  ide : Bool
  fdf : Bool
  brs : Bool
  len : Nat
  points : List Nat
  trigger : TxTrigger
deriving DecidableEq, Repr, Inhabited

/-- A CAN receive object (R318). -/
structure RxObj where
  id : Nat
  mask : Nat
  ide : Bool
  points : List Nat
deriving DecidableEq, Repr, Inhabited

/-- CAN port parameters (Table 12.1), TX_STALE in ns. -/
structure CanParam where
  en : Bool
  fd : Bool
  nom : List Nat
  data : List Nat
  tdc : Bool
  tdcOfs : Nat
  txDepth : Nat
  txStale : Nat
  wakeFrame : Bool
  wakeId : Nat
  wakeMask : Nat
  wakeIde : Bool
  wakeDlc : Nat
  wakeData : DWord
  wakeDmask : DWord
  tx : List TxObj
  rx : List RxObj
  ctl : Option Nat
  status : Option Nat
deriving DecidableEq, Repr, Inhabited

/-- Types of a keyed instance (Table 4.5). -/
inductive VType where
  | bool
  | int (bits : Nat) (signed : Bool)
  | lreal | real
  /-- a bit string, a time or a date of the given width -/
  | word (bits : Nat) (kind : Nat)
  | arr (elem : VType) (lo hi : Int)
  | str (n : Nat)
  | struct (name : Nat)
  | ton | tof | tp
  /-- CTU, CTD or CTUD: whether it has a count-up and a count-down input -/
  | counter (up down : Bool)
  | rtrig | ftrig
  | fb (name : Nat)
deriving DecidableEq, Repr, Inhabited

/-- The value of a keyed instance: plain bits, the elements of an array (each as its 64-bit cells: one of a
simple type, the characters of a string, the members of a structure or block in order), the characters of a
string, or the state of a standard function block (R82, R83). -/
inductive VVal where
  | bits (v : DWord)
  | elems (vs : List (Int × List DWord))
  | chars (cs : List Byte)
  | timer (prevIn q running : Bool) (start et : Nat)
  /-- The memories of its inputs; none where the first evaluation takes the input as memory (R111). -/
  | count (prevUp prevDown : Option Bool) (cv : Int) (qu qd : Bool)
  | edge (mem : Option Bool) (q : Bool)
deriving DecidableEq, Repr, Inhabited

/-- A declared instance of the variable layout with its 64-bit instance key (R108). `parent` is the
key of the structure or function block that it is a member of. -/
structure VarDecl where
  key : Nat
  parent : Option Nat
  ty : VType
  init : VVal
  retained : Bool
deriving DecidableEq, Repr, Inhabited

/-- A generation: everything R92 lists. -/
structure Gen where
  num : Nat
  offline : Bool
  trialS : Nat
  codeBytes : Nat
  varBytes : Nat
  retainBytes : Nat
  storeBytes : Nat
  codeId : Nat
  vars : List VarDecl
  points : List Point
  params : CycleParams
  modCfg : ModCfg
  sched : Sched
  narrow : Sched
  packs : List (Nat × List PackEntry)
  conns : List SafetyConn
  delays : List (Nat × Nat)
  ile : IleTable
  gates : List GateEntry
  tio : List Byte
  alp : List AlParam
  can : List CanParam
  signals : List Nat
  digest : Nat
deriving DecidableEq, Repr, Inhabited

/-- An entry of a container's section table (Table 4.1). -/
structure SectEntry where
  ty : Nat
  offset : Nat
  size : Nat
  reserved : Nat
deriving DecidableEq, Repr, Inhabited

/-- A generation container as the STAGE buffer holds it (Table 4.1), with the outcomes of its
signature and content digest checks. -/
structure Container where
  magic : Nat
  format : Nat
  flags : Nat
  sections : Nat
  keySlot : Nat
  reservedZero : Bool
  bytes : Nat
  table : List SectEntry
  sigOk : Bool
  digestOk : Bool
  gen : Gen
deriving DecidableEq, Repr, Inhabited

/-- A firmware image header (Table 20.1) with the outcomes of the checks that need the image's
bytes, and the firmware's gate descriptors (gate, index, descriptor) of component 0x01. -/
structure ImageHdr where
  magic : Nat
  format : Nat
  raiseFloor : Bool
  reservedZero : Bool
  ver : Nat
  secVersion : Nat
  hwMin : Nat
  keyIndex : Nat
  xferVer : Nat
  xferMin : Nat
  cfgFormat : Nat
  cfgMin : Nat
  bytes : Nat
  sigOk : Bool
  manifestOk : Bool
  compsOk : Bool
  digest : Nat
  gates : List (Nat × Nat × Region)
deriving DecidableEq, Repr, Inhabited

end Sys2Proof
end

