-- ==== Sys2Proof/Events.lean ====
section
/-! DEFINITION. What the module's surroundings hand it with a command: the results of program
execution, measurements of the field, received messages whose payload layout the manual does not
give, boot results; and the interlocking engine's dynamic state, which travels in ILE_STATE. -/

namespace Sys2Proof

/-- The inputs of one evaluation of a standard function block in a scan (R82, R83). PT in ns. -/
inductive FbIn where
  | timer (input : Bool) (pt : Nat)
  | count (cu cd reset load : Bool) (pv : Int)
  | edge (clk : Bool)
deriving DecidableEq, Repr, Inhabited

/-- One evaluation of the instance with this key. -/
structure FbCall where
  key : Nat
  input : FbIn
deriving DecidableEq, Repr, Inhabited

/-- A force entry (R86). -/
structure Force where
  addr : Nat
  ty : Nat
  value : DWord
deriving DecidableEq, Repr, Inhabited

/-- The inputs that the results of an executing cycle depend on (R71). -/
structure ExecIn where
  img : Tab Entry
  tCommit : Nat
  cycle : Nat
  vars : Tab VVal
  forces : List Force
  gen : Gen
deriving DecidableEq, Repr, Inhabited

/-- What the program computes in phase 3 of one cycle: the pending output writes, the block evaluations of
the scan, the variables written and the lines for the change digest (R78). -/
structure ExecResult where
  writes : List (Nat × DWord)
  calls : List FbCall
  vars : List (Nat × VVal)
  lines : List (Nat × List Byte)
deriving DecidableEq, Repr, Inhabited

/-- The measurements of R396 on an executed cycle: N, P and W, and the execution time in µs that R400 adds to N. -/
structure ExecMeas where
  nUs : Nat
  pCyc : Nat
  wCyc : Nat
  xUs : Nat
deriving DecidableEq, Repr, Inhabited

/-- An agreed or lane reading of a source: a bit (0 or 1) or a current in nA, and its valid bit. -/
structure Reading where
  val : Int
  valid : Bool
deriving DecidableEq, Repr, Inhabited

/-- A reading of one lane that differs from what the shared buffers hold (a lane fault, or the D14
synchroniser of R156). -/
structure LaneDev where
  lane : Lane
  ref : Ref
  rd : Reading
deriving DecidableEq, Repr, Inhabited

/-- How a lane's presentation differs from its evaluation because of a fault in the lane: permissive
bits inverted and a value XORed into its state digest. -/
structure LaneFault where
  permFlips : List Nat
  digestXor : Nat
deriving DecidableEq, Repr, Inhabited

/-- Path states (Table 5.6). -/
inductive PathSt where
  | free | requested | set | locked | energised | releasing
deriving DecidableEq, Repr, Inhabited

/-- Detected position of an element (Table 5.2). -/
inductive Pos where
  | unknown | a | b
deriving DecidableEq, Repr, Inhabited

/-- Dynamic state of one path: its state, the cycles in which its timers started with their starts in GT, its
latches, and the two notes that Table 5.7 needs. -/
structure PathDyn where
  st : PathSt
  setStart : Nat
  setN : Nat
  relStart : Nat
  relN : Nat
  emerg : Bool
  adopted : Bool
  timeout : Bool
  lost : Bool
  afterSet : Bool
deriving DecidableEq, Repr, Inhabited

/-- Dynamic state of one element: detected position, agreed contacts, and the cycle in which the present
contact combination was first found, with its start in GT. -/
structure ElemDyn where
  pos : Pos
  ca : Bool
  cb : Bool
  invalid : Bool
  combo : Nat
  since : Nat
  sinceN : Nat
  fault : Bool
deriving DecidableEq, Repr, Inhabited

/-- A path carried under a former table's definition (R115): its index there and its state. -/
structure Carried where
  idx : Nat
  dyn : PathDyn
deriving DecidableEq, Repr, Inhabited

/-- The dynamic state of the interlocking model (Table 6.3, state digest): path and element states
in table order, the blocked element keys, and the carried paths. -/
structure IleDyn where
  paths : List PathDyn
  elems : List ElemDyn
  blocked : List Nat
  carried : List Carried
  oldElems : List ElemDyn
deriving DecidableEq, Repr, Inhabited

/-- The active's snapshot as it reaches the standby (R172): the presence map of the safety frames that
it holds, its trip input samples and local analog readings, and the frames sent verbatim. -/
structure SnapSent where
  map : List (Chan × Nat)
  readings : List (Ref × Reading)
  frames : List RxFrame
deriving DecidableEq, Repr, Inhabited

/-- A snapshot with the ILE cycle that it is of. -/
structure SnapMsg extends SnapSent where
  cycle : Nat
deriving DecidableEq, Repr, Inhabited

/-- The dynamic state that ILE_STATE carries, with the digest of the tables it belongs to and the old table (R165). -/
structure IleCopy where
  tables : Nat
  dyn : IleDyn
  old : Option IleTable
deriving DecidableEq, Repr, Inhabited

/-- A word with an uncorrectable error (R411): its row, its place in the row, and the master that read it, 0 to 3 a
cell. -/
structure BadWord where
  row : Nat
  word : Nat
  master : Nat
deriving DecidableEq, Repr, Inhabited

/-- The phase 2 message (R68). -/
structure AgreeMsg where
  tCommit : Nat
  cycle : Nat
  forceVer : Nat
  digests : List (Nat × DWord)
  fnState : DWord
deriving DecidableEq, Repr, Inhabited

/-- An AUTH packet (R253): identity fields and the outcomes of the two verifications. -/
structure AuthMsg where
  serial : Nat
  certSerial : Nat
  certOk : Bool
  answerOk : Bool
  nonce : Nat
  keyDigest : Nat
  xferVer : Nat
  xferMin : Nat
  isAnswer : Bool
deriving DecidableEq, Repr, Inhabited

/-- RESYNC bulk data by step of Table 9.7a. -/
inductive ResyncData where
  /-- step 3: the source's generations, GEN_HIGH, change state, that before staging, trial window end and
  the confirmations of the CCVs (bit 0 current, 1 previous, 2 staged) -/
  | gens (cur : Gen) (prev staged : Option Gen) (genHigh : Nat) (change before : ChangeState)
      (trialEnd ccvConf : Nat) (checksOk : Bool)
  /-- step 5: variables, retained journal position (granules since the newer checkpoint), force table, blocked set, heat
  tier and Clover arm -/
  | bulk (vars : List (Nat × VVal)) (jpos : Nat) (forces : List Force) (forceVer : Nat) (blocked : List Nat)
      (tier : Tier) (clvId clvT : Nat)
  /-- step 6: one pass, with the MiB it left dirty and the variables it copied -/
  | dirty (mib : Nat) (vars : List (Nat × VVal))
  /-- step 7: the remaining variables, the output image, force table version and cycle number -/
  | final (vars : List (Nat × VVal)) (img : List (Nat × Entry)) (forceVer cycle : Nat)
deriving DecidableEq, Repr, Inhabited

/-- Commands that the active relays over P0 (R348, Table 9.2). -/
inductive Relay where
  | run (req : Nat)
  | stage (c : Container)
  | genSelect (g : Gen)
  | staged
  | abandon
  | stagedIs (num digest : Nat)
  | stateReq
  | switch (s : Nat)
  | switchNow
  | cancelSwitch (cause : Nat)
  | confirm
  | revert (cause : Nat)
  | discard
  | ccv (ccv : Nat)
  | key (k : KeyRec)
  | readmitChan (ch : Chan)
  | ileOp (cmd : Nat) (body : OpBody) (cycle : Nat) (void : Bool)
  | snapArm (id t : Nat)
  /-- whether the sender carries paths (R118) -/
  | carriedIs (yes : Bool)
  /-- what the partner asks for once more: a step of Table 9.7a, and for step 2 the offset of an image chunk (R238) -/
  | again (step off : Nat)
deriving DecidableEq, Repr, Inhabited

/-- Measurements of one trip I/O sample window: sink currents in µA and terminal voltages in mV per
input, test pulse line voltages in mV, and per output Q+ and Q− in mV and the high-side current in
µA; `iTp` the current each test pulse source delivers, in µA (R269). `sinks` says whether the driving module's sinks
were enabled in the window (R290). -/
structure TioMeas where
  cur : List Nat
  vTerm : List Nat
  tpLine : List Nat
  qPlus : List Nat
  qMinus : List Nat
  iq : List Int
  iTp : List Int
  sinks : Bool
deriving DecidableEq, Repr, Inhabited

/-- Sensor readings at the end of a dark test (R279, R280): the two current sensors in µA, Q+ in mV,
each other output's current rise in µA, and the outputs that are off whose Q+ fell during the test. -/
structure DarkMeas where
  hiCur : Nat
  loCur : Nat
  qPlus : Nat
  rises : List (Nat × Nat)
  falls : List Nat
deriving DecidableEq, Repr, Inhabited

/-- A failed window comparison: the cell, and whether a window of it compared equal since its last mismatch (R75). -/
structure CellMiss where
  cell : Nat
  equal : Bool
deriving DecidableEq, Repr, Inhabited

/-- A HART request on a SINK channel's loop (R305, R307): its format, in a short frame the polling address, in a long
frame whether its address is the channel's own (log entry 193), and its data bytes. -/
structure HartReq where
  long : Bool
  poll : Nat
  own : Bool
  data : List Byte
deriving DecidableEq, Repr, Inhabited

/-- A port that enters error passive, with its error counters then (R325, ISO 11898-1). -/
structure CanErr where
  port : Nat
  tec : Nat
  rec_ : Nat
deriving DecidableEq, Repr, Inhabited

/-- A bus-off: whether the internal loopback check passed, and the error counters (R325). -/
structure CanOff where
  loopOk : Bool
  tec : Nat
  rec_ : Nat
deriving DecidableEq, Repr, Inhabited

/-- A host exchange transfer that DMA_TIMEOUT or DMA_ERROR ends (R338). -/
inductive Xfer where
  | fetch (ring : Nat)
  | post (ring : Nat)
  | event
  | data (ring tag op : Nat) (irq : Bool)
deriving DecidableEq, Repr, Inhabited

/-- What the module reads from host memory for a descriptor: the grant, and the input buffer as the
opcode reads it. -/
inductive HostBuf where
  | none
  | points (rs : List PointRec)
  | container (c : Container)
  | bytes (bs : List Byte) (hdr : Option ImageHdr)
  | key (k : KeyRec)
  | grant (g : Grant)
deriving DecidableEq, Repr, Inhabited

/-- A CAN frame as received, and the receive error count that ISO 11898-1 leaves after it. -/
structure CanFrame where
  id : Nat
  ide : Bool
  rtr : Bool
  fdf : Bool
  dlc : Nat
  data : List Byte
  errs : Nat
deriving DecidableEq, Repr, Inhabited

/-- A HART reply (R306). -/
structure HartReply where
  respCode : Nat
  devStatus : Nat
  data : List Byte
  commErr : Bool
deriving DecidableEq, Repr, Inhabited

/-- One gated access (R358, R362): master, address, length, kind (0 read, 1 write, 2 fetch), key,
world, privilege, the bytes of a write, and the granules whose tag reads with an uncorrectable ECC
error. -/
structure Access where
  master : Nat
  addr : Nat
  len : Nat
  kind : Nat
  key : Nat
  secure : Bool
  priv : Bool
  data : List Byte
  tagErr : List Nat
deriving DecidableEq, Repr, Inhabited

/-- What stands on the module's contacts and in its boot header at the release of power-on reset:
the slot straps, STM_ELIG, the variant, the module serial, RECOVER_N held low, and the boot header
values with the outcomes of its two checks (R453). -/
structure PorIn where
  slot : Nat
  stmElig : Bool
  variantX : Bool
  serial : Nat
  recover : Bool
  xaSettle : Nat
  hdrOk : Bool
  hdrSigOk : Bool
deriving DecidableEq, Repr, Inhabited

/-- What a boot step found: failed tests as (kind of Table 18.1, source number, or row for a memory kind), for step 3
the check of the role keys (R425), and for step 9 whether each of the two checkpoints reads valid and how many of
the journal records after them are complete (R27). -/
structure BootIn where
  fails : List (Nat × Nat)
  keyDigestOk : Bool
  ckAOk : Bool
  ckBOk : Bool
  records : Nat
deriving DecidableEq, Repr, Inhabited

/-- The outcome of a Teasel slice: kind, unit source number, whether it passed, and for memory kinds
the failing rows. -/
structure SliceRes where
  kind : Nat
  unit : Nat
  pass : Bool
  rows : List Nat
deriving DecidableEq, Repr, Inhabited

end Sys2Proof
end

