-- ==== Sys2Proof/BlocksA.lean ====
section
/-! DEFINITION. State of the mode logic (chapter 2), the host exchange (13), fault handling (17), the
self-test engine (18), the event recorder (19) and the firmware slots (20): the parts that reset, and
the parts that MRAM and NAND keep. -/

namespace Sys2Proof

/-- Units with a fault bucket or a retirement record (Table 17.3). Engines carry their number of
Table 17.2; memory rows the memory (0 SRAM, 1 DRAM, 2 MRAM) and the row. -/
inductive UnitId where
  | cell (n : Nat) | lane (l : Lane) | oxn (c : Chan) | plv (p : Nat)
  | ti (i : Nat) | tp (i : Nat) | tq (i : Nat) | al (x : Nat) | can (p : Nat)
  | engine (n : Nat) | row (mem r : Nat)
deriving DecidableEq, Repr, Inhabited

/-- MOD block state (Tables 2.9 to 2.17). `scanRisk`, `ejector` and the presence contact follow their
rules; the LEDs are computed. `partner` is the partner's tuple as the module's rules take it, `reported` as the
partner last reported it (R29). -/
structure ModS where
  variantX : Bool
  serial : Nat
  slot : Nat
  stmElig : Bool
  tup : ModeTuple
  partner : ModeTuple
  reported : ModeTuple
  present : Bool
  valid : Bool
  arb : Bool
  scanRisk : Bool
  adopted : Bool
  ejector : Bool
  retireCause : RetireCause
  refReq : Nat
  refReason : Nat
  refCount : Nat
  transCount : Nat
deriving DecidableEq, Repr, Inhabited

/-- One command ring with its completion ring (Tables 13.14, 13.18). `times` holds the doorbell time
of each valid descriptor from HEAD on; `out` counts completions the host has not consumed; `busy`
says that a fetched descriptor's completion has not been posted; `queue` holds completions waiting
to be posted. -/
structure RingS where
  cmdLo : Word
  cmdHi : Word
  cplLo : Word
  cplHi : Word
  cfg : Word
  head : Nat
  tail : Nat
  times : List Nat
  cplTail : Nat
  out : Nat
  phase : Bool
  halted : Bool
  busy : Bool
  queue : List Completion
deriving DecidableEq, Repr, Inhabited

/-- The event ring (Table 13.17). -/
structure EvqS where
  lo : Word
  hi : Word
  cfg : Word
  tail : Nat
  out : Nat
  phase : Bool
  halted : Bool
deriving DecidableEq, Repr, Inhabited

/-- Arguments of a REC_READ whose continuation a ring holds (R446) and the key (EPOCH_START, CODE,
SOURCE) of the last record returned. -/
structure RecCursor where
  ring : Nat
  codeFirst : Nat
  codeLast : Nat
  store : Nat
  from_ : Nat
  to_ : Nat
  last : Nat × Nat × Nat
deriving DecidableEq, Repr, Inhabited

/-- MSI-X coalescing of one vector (R336): when its last message was sent and whether a merged
message waits. -/
structure VecS where
  last : Nat
  waiting : Bool
deriving DecidableEq, Repr, Inhabited

/-- PCI Express state of the endpoint (R328, R336): the link's rate (1 to 4 for 2.5, 5, 8 and 16 GT/s) and width, 0 with the
link down; MSI-X enable and function mask; maximum payload size (128 bytes times 2 to the power) and maximum read request size, in the
encoding of PCI Express; and the AER registers (uncorrectable status, mask and severity, correctable status and mask). -/
structure PcieS where
  rate : Nat
  width : Nat
  msixEn : Bool
  msixMask : Bool
  mps : Nat
  mrrs : Nat
  aer : List Word
deriving DecidableEq, Repr, Inhabited

/-- HXP block state (chapter 13). `linkUp`, `perst` and `trained` are the PCIe link of R491
(`perst` while PCIE_PERST_N is low, `trained` from the first completed training on); `rr` the ring whose turn is next; `era` counts
resets of the block, so that the completion of a command accepted before one is lost (R329). `msixTab` is BAR2's table,
four words a vector, and `pba` the vectors whose pending bit is set (Table 13.1, R336). -/
structure HxpS where
  armed : Bool
  disarming : Bool
  cfg : Word
  rings : List RingS
  evq : EvqS
  errRing : Nat
  errEvq : Bool
  errCode : Nat
  errIndex : Nat
  lostEvents : Nat
  lostPending : Nat
  grantsRefused : Nat
  events : List Event
  vecs : Tab VecS
  msixTab : List Word
  pba : List Nat
  slots : Tab Grant
  cursors : List RecCursor
  era : Nat
  rr : Nat
  pcie : PcieS
  linkUp : Bool
  perst : Bool
  trained : Bool
deriving DecidableEq, Repr, Inhabited

/-- A Sorrel record (Table 19.2), also used as an accumulator (R435). CRC is computed from the
fields; `lastSrc` is the source of the latest occurrence, which R434 compares on equal stamps. -/
structure Rec where
  code : Nat
  isSealed : Bool
  ovr : Bool
  clear : Bool
  store : Nat
  source : Nat
  epoch : Nat
  count : Nat
  supp : Nat
  min : Int
  max : Int
  first : Nat
  last : Nat
  hist : List Nat
  lastVal : Int
  seq : Nat
  lastSrc : Nat
deriving DecidableEq, Repr, Inhabited

/-- EVR block state that a reset clears (chapter 19). `lastWrite` holds each code's last write. -/
structure EvrS where
  accs : List Rec
  lastWrite : Tab Nat
  pf : Bool
  mramFull : Bool
  archFull : Bool
  writes : Nat
  suppressed : Nat
  clears : Nat
  bad : Nat
  lastCode : Nat
deriving DecidableEq, Repr, Inhabited

/-- A retirement record (R412). -/
structure RetRec where
  unit : UnitId
  code : Nat
  gt : Nat
  level : Nat
deriving DecidableEq, Repr, Inhabited

/-- FLT block state that a reset clears (Tables 17.8, 17.9). `l0Last` holds, per target source, its
last L0 expiry (R404); `l5Served`
its last L5 service (R406), `restarted` the engines' last restarts (R405), `appendFails` that the journal append under way
has failed (Table 17.2), `poison` the addresses of the poisoned words (R411), `lastDrain` the last drain tick. -/
structure FltS where
  hwSafe : Bool
  l0 : Nat
  l1 : Nat
  l2 : Nat
  l3 : Nat
  l4 : Nat
  l5 : Nat
  lastEngine : Nat
  lastSrc : Nat
  lastLevel : Nat
  lastGt : Nat
  uncorr : Nat
  l0Last : Tab Nat
  l5Served : Nat
  restarted : Tab Nat
  appendFails : Bool
  poison : List Nat
  lastDrain : Nat
  retiredAt : Nat
deriving DecidableEq, Repr, Inhabited

/-- BST block state (Tables 18.5, 18.6): the running test, progress of the round as slices done per
kind 1 to 6, its start, and the tests that a READMIT awaits (unit and slices left). `compatRun` says that the running
slice began under COMPAT. -/
structure BstS where
  cfg : Word
  armed : Bool
  bootDone : Bool
  late : Bool
  running : Option (Nat × Nat)
  compatRun : Bool
  startedAt : Nat
  done : List Nat
  roundStart : Nat
  rounds : Nat
  roundS : Nat
  passed : Nat
  failed : Nat
  flags : Nat
  lastSrc : Nat
  lastKind : Nat
  slices : Nat
  fails : Nat
  timeouts : Nat
  awaited : List (UnitId × Nat)
  laneTest : Nat × Nat
deriving DecidableEq, Repr, Inhabited

/-- Fallback causes (R455). -/
inductive FbCause where
  | none | reset | verify | boot | window | corrupt | xfer
deriving DecidableEq, Repr, Inhabited

/-- Trial phase of the pointer record (R454). -/
inductive PtrPhase where
  | none | pending | booted
deriving DecidableEq, Repr, Inhabited

/-- One copy of the pointer record (R454); slots are 0 A, 1 B. `valid` is the outcome of its CRC. -/
structure PtrRec where
  seq : Nat
  valid : Bool
  conf : Nat
  try_ : Option Nat
  phase : PtrPhase
  fallback : Bool
  cause : FbCause
deriving DecidableEq, Repr, Inhabited

/-- An image slot: TOTAL of its chunks, the bytes stored of each 4 KiB block, the header once its first block is
stored, the image digest once computed (R458), and whether the slot was stored by adoption (R255). -/
structure ImgSlot where
  total : Nat
  blocks : Tab Nat
  hdr : Option ImageHdr
  complete : Bool
  digest : Nat
  adopted : Bool
deriving DecidableEq, Repr, Inhabited

/-- Firmware state that a reset clears (chapter 20). `bootStep` is the step of Table 20.3 now due,
`bootStart` its reference, `hdrOk` whether the boot header passed (R453), `cause` the fallback cause in force,
`auto` that an AUTOSTART waits for its guards, `bstOk` the first
condition of R461, `trialEnd` the end of the trial window in GT, `netSince` the
start of the present unbroken SYNCED or NARROW, `speedGrant` the grant of a J4 GRANT frame and `speedUsed`
whether it has been accepted, `resetAt`
the latest reset instant of R459. -/
structure FwuS where
  speedwell : Bool
  runSlot : Nat
  run : Option ImageHdr
  hashing : Bool
  bootStep : Nat
  bootStart : Nat
  hdrOk : Bool
  cause : FbCause
  auto : Bool
  bstOk : Bool
  trialEnd : Nat
  netSince : Option Nat
  bootMs : Nat
  speedGrant : Option Grant
  speedUsed : Bool
  speedTotal : Nat
  resetAt : Option Nat
  windowFall : Bool
  ownTrial : Bool
deriving DecidableEq, Repr, Inhabited

/-- What MRAM, NAND and the fuses keep across resets and power cycles (Table 1.5). -/
structure NvA where
  recCur : List Rec
  recHour : List Rec
  recDay : List Rec
  recMon : List Rec
  recSeq : Nat
  marks : List Nat
  rollWait : List (Nat × Nat)
  keys : Tab KeyRec
  nonces : List (Nat × Nat)
  buckets : List (UnitId × Nat)
  retired : List RetRec
  remaps : List (Nat × Nat)
  sparesOut : List Nat
  nandOut : List Nat
  ptrA : PtrRec
  ptrB : PtrRec
  slotA : ImgSlot
  slotB : ImgSlot
  secFloor : Nat
  boots : Nat
  xaSettle : Nat
  cfgFormat : Nat
  oldFormat : Nat
  modRetired : Option RetireCause
  recovered : Nat
deriving DecidableEq, Repr, Inhabited

end Sys2Proof
end

