-- ==== Sys2Proof/Syntax.lean ====
section
/-! DEFINITION. The commands of the block: one constructor per row of the opcode table, in the table's
order. `t` is the GT stamp of the command (R211, log entry 1). A host opcode carries its call context
`c` and its ARGS and buffer (Table 13.5); an event carries what the outside world presents. -/

namespace Sys2Proof

/-- A command. -/
inductive Instr where
  /-- UNSUPPORTED_ACCESS (R6): A BAR0 access that is not a naturally aligned 32-bit read or write
      completes with Unsupported Request and changes no register. -/
  | unsupportedAccess (t : Nat) (off size : Nat) (write : Bool)
  /-- REG_WRITE (R9): A host write to a BAR0 register with no row of its own sets RW fields, sets
      RWA fields only while the block is unarmed, and is ignored at undefined offsets. -/
  | regWrite (t : Nat) (off : Nat) (val : Word)
  /-- TIME_GT_LO_READ (R234): A read of TIME_GT_LO latches GT so that a later read of TIME_GT_HI
      returns the upper half of the same value. -/
  | timeGtLoRead (t : Nat)
  /-- HXP_CMDQ_DB (R332): A write to a command ring doorbell sets the ring's tail and stamps the
      doorbell time of the descriptors it makes valid, or halts the ring with BAD_DOORBELL. -/
  | hxpCmdqDb (t : Nat) (n : Nat) (val : Word)
  /-- HXP_CPLQ_DB (R332): A write to a completion ring doorbell sets the host's head in that ring. -/
  | hxpCplqDb (t : Nat) (n : Nat) (val : Word)
  /-- HXP_EVQ_DB (R332): A write to the event ring doorbell sets the host's head in the event
      ring. -/
  | hxpEvqDb (t : Nat) (val : Word)
  /-- ARM (R331): The ARM bit of HXP_CTL_DB checks the ring setup and arms the host exchange, or
      leaves it unarmed with ARM_FAIL. -/
  | arm (t : Nat) (val : Word)
  /-- DISARM (R331): The DISARM bit of HXP_CTL_DB stops descriptor fetching and sets
      DISARM_PENDING. -/
  | disarm (t : Nat) (val : Word)
  /-- DISARM_COMPLETE (R331): Once every fetched descriptor has completed after a DISARM, ARMED
      clears. -/
  | disarmComplete (t : Nat)
  /-- RING_RESET (R338): The RING_RESET bit of HXP_CTL_DB resets a halted command ring's indices
      and phase and clears HALTED. -/
  | ringReset (t : Nat) (val : Word)
  /-- EVQ_RESET (R338): The EVQ_RESET bit of HXP_CTL_DB resets a halted event ring. -/
  | evqReset (t : Nat) (val : Word)
  /-- GATE_CLR_DB (R366): A write to GATE_CLR_DB clears the violation latch and COUNT of each gate
      whose bit is set. -/
  | gateClrDb (t : Nat) (val : Word)
  /-- CLK_MON_DB (R386): A write to CLK_MON_DB selects the source or domain and divider output on
      CLKMON. -/
  | clkMonDb (t : Nat) (val : Word)
  /-- DESCRIPTOR_FETCH (R333): The module fetches a valid descriptor round-robin and checks its
      format, its acceptance by role and run state, and its grant before executing its opcode. -/
  | descriptorFetch (t : Nat) (ring : Nat) (desc : List Byte) (buf : HostBuf) (grant : Option Grant) (held : Bool)
  /-- NOP (R339): NOP completes at once on any module. -/
  | nop (t : Nat) (c : Call)
  /-- POINT_READ (R341): POINT_READ copies entries from one commit or one publication of the named
      image into the host buffer. -/
  | pointRead (t : Nat) (c : Call) (image first count : Nat)
  /-- POINT_WRITE (R341): POINT_WRITE holds host values for input points for the next commit, or
      refuses the whole write with NOT_HOST or BAD_VALUE. -/
  | pointWrite (t : Nat) (c : Call) (count : Nat) (recs : List PointRec)
  /-- FORCE_SET (R86): FORCE_SET adds or changes a force entry that takes effect at the next
      program cycle boundary, or is refused. -/
  | forceSet (t : Nat) (c : Call) (addr ty : Nat) (value : DWord)
  /-- FORCE_CLEAR (R86): FORCE_CLEAR removes one force, or every force, at the next program cycle
      boundary. -/
  | forceClear (t : Nat) (c : Call) (addr : Nat)
  /-- FORCE_LIST (R339): FORCE_LIST copies the force table and its version to the host. -/
  | forceList (t : Nat) (c : Call)
  /-- START (R43): The MODE request START takes the module from IDLE or HOLD to RUN at the next
      boundary when its guards hold. -/
  | start (t : Nat) (c : Call)
  /-- HOLD (R43): The MODE request HOLD takes the module from RUN to HOLD at the next boundary. -/
  | hold (t : Nat) (c : Call)
  /-- STOP (R43): The MODE request STOP takes the module from RUN or HOLD to IDLE, publishing the
      safe image. -/
  | stop (t : Nat) (c : Call)
  /-- HANDOVER (R259): The MODE request HANDOVER swaps the ACTIVE and STANDBY roles at a common
      boundary once its checks hold. -/
  | handover (t : Nat) (c : Call)
  /-- RETIRE (R41): The MODE request RETIRE retires the module with cause COMMAND. -/
  | retire (t : Nat) (c : Call)
  /-- READMIT (R413): The MODE request READMIT ends the retirement of the unit named by source
      number when its re-admission condition holds. -/
  | readmit (t : Nat) (c : Call) (arg source : Nat) (testOk : Bool)
  /-- BST_MODE (R46): The MODE request BST_MODE switches the self-test mode between NATIVE and
      COMPAT. -/
  | bstMode (t : Nat) (c : Call) (arg : Nat)
  /-- FW_ACK (R463): The MODE request FW_ACK ends FALLBACK and makes the running slot the
      confirmed slot. -/
  | fwAck (t : Nat) (c : Call)
  /-- STAGE (R97): STAGE checks a generation container in order and, with the partner's agreement,
      makes it STAGED at a common boundary. -/
  | stage (t : Nat) (c : Call) (box : Container)
  /-- SWITCH (R101): SWITCH names the cycle S at which both modules switch to the staged
      generation and sets SWITCH_PENDING. -/
  | switch (t : Nat) (c : Call) (cycle : Nat)
  /-- CONFIRM (R120): CONFIRM accepted before the trial window ends confirms the trial generation
      at the next boundary. -/
  | confirm (t : Nat) (c : Call) (gen : Nat)
  /-- REVERT (R122): REVERT switches back from the trial generation to the previous one at the
      next boundary. -/
  | revert (t : Nat) (c : Call) (gen : Nat)
  /-- DISCARD (R100): DISCARD removes the staged generation and cancels any pending switch. -/
  | discard (t : Nat) (c : Call) (gen : Nat)
  /-- GEN_SELECT (R94): GEN_SELECT stages a copy of the current or previous generation under the
      number GEN_HIGH + 1. -/
  | genSelect (t : Nat) (c : Call) (gen : Nat)
  /-- CCV_CONFIRM (R289): CCV_CONFIRM confirms the commissioning check value on both modules at a
      common boundary, or is refused with CCV_MISMATCH. -/
  | ccvConfirm (t : Nat) (c : Call) (ccv gen : Nat)
  /-- FW_CHUNK (R458): FW_CHUNK stores a chunk of a firmware image in the inactive slot,
      restarting the slot when required. -/
  | fwChunk (t : Nat) (c : Call) (offset total : Nat) (data : List Byte) (hdr : Option ImageHdr)
  /-- FW_ACTIVATE (R459): FW_ACTIVATE marks the inactive slot for a trial boot, posts its
      completion and sends LEAVING when in a pair. -/
  | fwActivate (t : Nat) (c : Call)
  /-- FW_STATUS (R472): FW_STATUS returns the firmware status record. -/
  | fwStatus (t : Nat) (c : Call)
  /-- REC_READ (R445): REC_READ returns the Sorrel records of a store that match a code and epoch
      range, continuing a previous read when ARGS are identical. -/
  | recRead (t : Nat) (c : Call) (codeFirst codeLast store fromGt toGt : Nat) (bad : List Nat)
  /-- REC_CLEAR (R447): REC_CLEAR removes matching records from a store and writes a clear record. -/
  | recClear (t : Nat) (c : Call) (codeFirst codeLast store fromGt toGt : Nat)
  /-- SNAP_ARM (R230): SNAP_ARM arms a Clover snapshot for time T and forwards the arm to the
      standby. -/
  | snapArm (t : Nat) (c : Call) (id at_ : Nat)
  /-- SNAP_READ (R233): SNAP_READ returns the Clover result header and entries. -/
  | snapRead (t : Nat) (c : Call) (first count : Nat)
  /-- BLOCK (R145): The ILE operator command BLOCK blocks an element from the second ILE cycle
      after acceptance. -/
  | block (t : Nat) (c : Call) (body : OpBody)
  /-- UNBLOCK (R145): The ILE operator command UNBLOCK unblocks an element from the second ILE
      cycle after acceptance. -/
  | unblock (t : Nat) (c : Call) (body : OpBody)
  /-- EMERG_RELEASE (R137): The ILE operator command EMERG_RELEASE moves a path to RELEASING with
      EMERG set when its conditions hold in the cycle of effect. -/
  | emergRelease (t : Nat) (c : Call) (body : OpBody)
  /-- ILE_READ (R339): ILE_READ returns status values of paths, elements or permissives from the
      last voter update. -/
  | ileRead (t : Nat) (c : Call) (kind first count : Nat)
  /-- TIME_SET (R214): TIME_SET steps GT on a LISTEN or PASSIVE module or is slewed in on the
      station time master. -/
  | timeSet (t : Nat) (c : Call) (gt : Nat)
  /-- CYCLE_STATUS (R91): CYCLE_STATUS returns the cycle status record taken at the last T_commit. -/
  | cycleStatus (t : Nat) (c : Call) (options : Nat)
  /-- CHANGE_STATUS (R123): CHANGE_STATUS returns the change status record. -/
  | changeStatus (t : Nat) (c : Call)
  /-- HART_PASS (R306): HART_PASS queues one HART transaction on a channel after the poll entry in
      progress and returns the reply. -/
  | hartPass (t : Nat) (c : Call) (ch cmd len : Nat) (data : List Byte)
  /-- DEBUG_UNLOCK (R368): DEBUG_UNLOCK sets the debug unlock mask when R58 allows it. -/
  | debugUnlock (t : Nat) (c : Call) (mask : Nat)
  /-- KEY_PROVISION (R349): KEY_PROVISION writes or empties a key slot, on both modules at a
      common boundary in a pair. -/
  | keyProvision (t : Nat) (c : Call) (rec : KeyRec)
  /-- GRANT_HOLD (R346): GRANT_HOLD checks a standing grant and places it in a slot. -/
  | grantHold (t : Nat) (c : Call) (slot : Nat) (g : Grant)
  /-- GRANT_DROP (R346): GRANT_DROP empties one or every standing grant slot. -/
  | grantDrop (t : Nat) (c : Call) (slot : Nat)
  /-- IDENTITY (R339): IDENTITY returns the serial, identity certificate and key store digest. -/
  | identity (t : Nat) (c : Call)
  /-- L_READ (R353): L_READ returns legacy 8-byte entries of the input image. -/
  | lRead (t : Nat) (c : Call) (window first count : Nat)
  /-- L_STATUS (R339): L_STATUS returns the 16-byte legacy status. -/
  | lStatus (t : Nat) (c : Call)
  /-- LEGACY_WRITE (R339): A legacy write opcode 0x88–0x8F completes at once with LEGACY_WRITE. -/
  | legacyWrite (t : Nat) (c : Call) (opcode : Nat)
  /-- BAD_OPCODE (R339): An opcode not in the table, or a disabled legacy read, completes with
      BAD_OPCODE. -/
  | badOpcode (t : Nat) (c : Call) (opcode : Nat)
  /-- COMPLETION_POST (R335): The module writes a completion at the ring's tail once an entry is
      free, with the current phase, and sends MSI-X when IRQ is set. -/
  | completionPost (t : Nat) (ring : Nat)
  /-- EVENT_POST (R352): The module posts an event entry, or counts it lost and later posts a LOST
      entry. -/
  | eventPost (t : Nat)
  /-- COALESCE_EXPIRY (R336): At the end of COALESCE_US the merged MSI-X message for a vector is
      sent. -/
  | coalesceExpiry (t : Nat) (vec : Nat)
  /-- DMA_TIMEOUT (R338): A DMA transfer not complete within 10 ms halts its ring or completes its
      command with DMA_TIMEOUT. -/
  | dmaTimeout (t : Nat) (x : Xfer)
  /-- DMA_ERROR (R338): A DMA transfer that ends in an error completion or poisoned data halts its
      ring or completes its command with DMA_ERROR. -/
  | dmaError (t : Nat) (x : Xfer)
  /-- PCIE_RESET (R329): A Function Level Reset, hot reset, conventional reset or link loss resets
      the endpoint and the HXP block only. -/
  | pcieReset (t : Nat) (linkLoss : Bool)
  /-- PCIE_PERST_CHANGE (R491): A change of PCIE_PERST_N holds the endpoint in reset or allows
      link training. -/
  | pciePerstChange (t : Nat) (high : Bool)
  /-- LINK_TRAINED (R491): The PCIe link completes training and the endpoint is served. -/
  | linkTrained (t : Nat)
  /-- T_COMMIT (R16): At T_commit the module commits inputs, snapshots the force table and, as
      active, sends the AGREE message. -/
  | tCommit (t : Nat)
  /-- MIN_CYCLE_ELAPSED (R61): The wait for MIN_CYCLE since the previous T_commit ends and the
      next cycle may commit. -/
  | minCycleElapsed (t : Nat)
  /-- AGREE_TIMEOUT (R70): The active begins execution when AGREE_TIMEOUT passes without
      AGREE_DONE. -/
  | agreeTimeout (t : Nat)
  /-- EXECUTE_DONE (R72): Phase 3 ends when every cell in service has compared its last window
      equal, and publication begins. -/
  | executeDone (t : Nat) (m : ExecMeas)
  /-- LOCKSTEP_MISMATCH (R74): A failed window comparison stops the cells, restores the undo log
      and restarts phase 3. -/
  | lockstepMismatch (t : Nat) (m : CellMiss)
  /-- SCAN_WDT (R79): The scan watchdog expiry aborts the attempt and retries once, then takes
      HOLD under R53. -/
  | scanWdt (t : Nat)
  /-- SIGNATURE_WAIT_BOUND (R78): No partner signature by T_commit + 2 × SCAN_WDT starts
      arbitration with cause SIG_MISSING. -/
  | signatureWaitBound (t : Nat)
  /-- PROGRAM_CYCLE_BOUNDARY (R36): At the end of housekeeping the pending role, run, change,
      force, tier and self-test transitions take effect in order. -/
  | programCycleBoundary (t : Nat)
  /-- MIGRATION_DONE (R109): The migration and other switch steps complete, allowing T_commit of
      cycle S. -/
  | migrationDone (t : Nat)
  /-- STAGING_CHECKS_DONE (R98): Background verification of a staged container completes on a
      module, and both modules then take STAGED at a common boundary. -/
  | stagingChecksDone (t : Nat) (partner : Option Bool)
  /-- TRIAL_WINDOW_END (R119): The change trial window ends without a CONFIRM, and the module
      reverts with cause WINDOW at the next boundary. -/
  | trialWindowEnd (t : Nat)
  /-- OXUGER_CYCLE_START (R180): At C_n the Oxuger and ILE cycle begins: transmit buffers load,
      plan or schedule switches apply and the lanes take their snapshot. -/
  | oxugerCycleStart (t : Nat) (n : Nat) (devs : List LaneDev)
  /-- OXN_ACTION_POINT (R181): At a slot's action point the node transmits its frame for that
      slot. -/
  | oxnActionPoint (t : Nat) (chan : Chan) (slot : Nat)
  /-- DATA_FRAME (R186): A received DATA frame is checked and delivers its fields as new input
      values. -/
  | dataFrame (t : Nat) (f : RxFrame)
  /-- SAFETY_FRAME (R189): A received SAFETY frame is checked under the safety layer and accepted
      as the connection's data. -/
  | safetyFrame (t : Nat) (f : RxFrame)
  /-- SYNC_FRAME (R216): A received SYNC frame yields a deviation measurement or, in LISTEN,
      integration. -/
  | syncFrame (t : Nat) (f : RxFrame)
  /-- COLDSTART_FRAME (R203): A received COLDSTART frame starts integration or makes a leader
      abandon leadership. -/
  | coldstartFrame (t : Nat) (f : RxFrame)
  /-- VIEW_FRAME (R193): A received VIEW frame is checked and its view words passed to the pair
      logic. -/
  | viewFrame (t : Nat) (f : RxFrame)
  /-- OXN_IDLE_PHASE (R196): In the idle phase each node judges its channels, corrects its clock,
      evaluates plan triggers and counts arbitration votes. -/
  | oxnIdlePhase (t : Nat) (lostA lostB : Bool)
  /-- OXN_SAFETY_TIMEOUT (R190): A connection's data turn invalid when S_TIMEOUT cycles pass
      without an accepted frame. -/
  | oxnSafetyTimeout (t : Nat) (conn : Nat)
  /-- LISTEN_TIMEOUT (R202): A cold-start node's listen timeout expires and it takes COLDSTART-
      LEAD. -/
  | listenTimeout (t : Nat)
  /-- COLDSTART_ALONE (R205): A leader still alone after 64 cycles returns to LISTEN. -/
  | coldstartAlone (t : Nat)
  /-- INTEGRATION_FAIL (R206): An integrating node with 16 failed cycles returns to LISTEN. -/
  | integrationFail (t : Nat)
  /-- OXN_SYNC_LOST (R208): Four cycles without a valid sync frame, or two out-of-bounds
      corrections, lose synchronisation. -/
  | oxnSyncLost (t : Nat)
  /-- OXN_READMIT_FAIL (R200): A channel READMIT without 64 good cycles within 10 s leaves the
      channel retired. -/
  | oxnReadmitFail (t : Nat) (chan : Chan)
  /-- LANE_PRESENT (R153): A lane finishes agreement and evaluation and latches its permissive
      vector and state digest into the voter. -/
  | lanePresent (t : Nat) (lane : Lane) (fault : LaneFault)
  /-- PRESENTATION_DEADLINE (R153): At VOTE_OFS − 20 µs a lane that has not presented has a LATE
      disagreement. -/
  | presentationDeadline (t : Nat)
  /-- VOTER_UPDATE (R157): At C_n + VOTE_OFS the voter compares voting lanes, grants permissives
      and drives gated outputs, safety bits and boundary frames. -/
  | voterUpdate (t : Nat) (sweep : List (Lane × Bool))
  /-- RESEED_TABLE_PHASE_DONE (R160): The table phase of a re-seed ends and the state copy follows
      the next update. -/
  | reseedTablePhaseDone (t : Nat) (lane : Lane) (ok : Bool)
  /-- PATH_SET_TIMEOUT (R134): A REQUESTED path whose set timer reaches SET_TIMEOUT_S returns to
      FREE with the TIMEOUT latch set. -/
  | pathSetTimeout (t : Nat) (path : Nat)
  /-- RELEASE_DELAY_ELAPSED (R134): A RELEASING path whose delay has elapsed becomes FREE. -/
  | releaseDelayElapsed (t : Nat) (path : Nat)
  /-- ILE_DETECT_FAULT (R125): An element's contact combination lasting its TRAVEL time raises
      ILE_DETECT_FAULT. -/
  | ileDetectFault (t : Nat) (elem : Nat)
  /-- COLD_HOLD_END (R166): The COLD_HOLD time ends and EARTH and unreserved MOVE permissives may
      return. -/
  | coldHoldEnd (t : Nat)
  /-- ILE_BND_TIMEOUT (R170): A producer's boundary elements turn invalid when no frame lies
      within BND_TIMEOUT. -/
  | ileBndTimeout (t : Nat) (pair : Nat)
  /-- P0_LINK_UP (R253): When P0 comes up the module sends its AUTH packet. -/
  | p0LinkUp (t : Nat)
  /-- AUTH (R253): A received AUTH packet is answered and the partner authenticated or refused. -/
  | auth (t : Nat) (h : PktHdr) (m : AuthMsg)
  /-- HEARTBEAT_SEND (R240): Every 1 ms the module sends a HEARTBEAT on P0. -/
  | heartbeatSend (t : Nat)
  /-- HEARTBEAT (R240): A received HEARTBEAT updates PARTNER_VALID and MOD_PARTNER_STATE. -/
  | heartbeat (t : Nat) (h : PktHdr) (data : List Byte)
  /-- PARTNER_SILENT (R240): No counted heartbeat for 3 ms makes the partner silent, starting
      arbitration or muting the active. -/
  | partnerSilent (t : Nat)
  /-- AGREE (R69): The standby receives the AGREE message, computes its slice digests and requests
      differing slices. -/
  | agree (t : Nat) (h : PktHdr) (m : AgreeMsg)
  /-- SLICE_REQ (R69): The active receives a slice request and sends the requested slices. -/
  | sliceReq (t : Nat) (h : PktHdr) (slices : List Nat)
  /-- SLICE_DATA (R69): The standby receives a slice and, when all are held, returns AGREE_DONE. -/
  | sliceData (t : Nat) (h : PktHdr) (slice : Nat) (entries : List (Nat × Entry))
  /-- AGREE_DONE (R70): The active receives AGREE_DONE and begins execution. -/
  | agreeDone (t : Nat) (h : PktHdr) (cycle : Nat)
  /-- SIGNATURE (R78): The partner's cycle signature arrives and is compared, starting arbitration
      on inequality. -/
  | signature (t : Nat) (h : PktHdr) (cycle sig : Nat)
  /-- FORCE_TABLE (R51): The standby receives the active's force table to apply at the same
      boundary. -/
  | forceTable (t : Nat) (h : PktHdr) (version boundary : Nat) (forces : List Force)
  /-- ILE_SNAP (R172): The standby receives the active's ILE readings for its lanes. -/
  | ileSnap (t : Nat) (h : PktHdr) (cycle : Nat) (m : SnapSent)
  /-- ILE_DIGEST (R173): The ILE digests of the pair are compared and a mismatch takes the
      active's state. -/
  | ileDigest (t : Nat) (h : PktHdr) (cycle digest : Nat)
  /-- ILE_STATE (R165): Received ILE dynamic state seeds the module's lanes at the next ILE cycle
      boundary. -/
  | ileState (t : Nat) (h : PktHdr) (gen cycle : Nat) (m : IleCopy)
  /-- RELEASE (R259): A standby receiving RELEASE takes ACTIVE and applies its last publication. -/
  | release (t : Nat) (h : PktHdr) (cycle : Nat)
  /-- LEAVING (R460): An ACTIVE module receiving LEAVING takes SOLO at its next boundary without
      arbitration. -/
  | leaving (t : Nat) (h : PktHdr)
  /-- ARB_START (R242): A received ARB_START sets ARBITRATION with the sender's cause and t_d. -/
  | arbStart (t : Nat) (h : PktHdr) (cause : ArbCause) (td : Nat)
  /-- TIER_AGREE (R395): A received tier agreement names the common boundary at which both modules
      change tier. -/
  | tierAgree (t : Nat) (h : PktHdr) (tier boundary : Nat)
  /-- RELAYED_COMMAND (R348): A command relayed by the active over P0 is applied at its stated
      boundary without a grant check. -/
  | relayedCommand (t : Nat) (h : PktHdr) (r : Relay) (boundary : Nat)
  /-- RESYNC (R255): Received resync bulk data are stored as a step of resynchronisation. -/
  | resync (t : Nat) (h : PktHdr) (d : ResyncData)
  /-- IMAGE (R255): A received firmware image chunk is stored for adoption. -/
  | image (t : Nat) (h : PktHdr) (offset total : Nat) (data : List Byte) (hdr : Option ImageHdr)
  /-- RESYNC_STEP_DONE (R255): A resync step completes and the next step of Table 9.7a starts. -/
  | resyncStepDone (t : Nat) (ok : Bool)
  /-- RESYNC_STEP_TIMEOUT (R256): A resync step exceeding its bound fails the attempt. -/
  | resyncStepTimeout (t : Nat)
  /-- RESYNC_ATTEMPT_TIMEOUT (R256): An attempt not reaching STANDBY within 120 s fails. -/
  | resyncAttemptTimeout (t : Nat)
  /-- PAIR_NO_QUORUM (R246): No quorum by t_d + 500 ms retires the standby and keeps the active. -/
  | pairNoQuorum (t : Nat)
  /-- PAIR_WAIT_EXPIRY (R41): The partner wait PAIR_WAIT_S ends at the end of BOOT and the module
      takes SOLO. -/
  | pairWaitExpiry (t : Nat)
  /-- HANDOVER_RELEASE (R259): Once no Oxuger boundary lies within 50 µs, the active sends RELEASE
      and takes STANDBY. -/
  | handoverRelease (t : Nat)
  /-- PLV_LANE_FAIL (R236): A Plovlink lane failing alignment makes its port retrain on two lanes. -/
  | plvLaneFail (t : Nat) (port lane : Nat)
  /-- PLV_DISCARD_LIMIT (R239): More than 16 discarded packets within 1 ms count a port fault. -/
  | plvDiscardLimit (t : Nat) (port : Nat)
  /-- BEACON_SEND (R263): Every 1 ms the driving module sends a BEACON. -/
  | beaconSend (t : Nat)
  /-- BEACON (R264): A received beacon is recorded for station time master evaluation. -/
  | beacon (t : Nat) (h : PktHdr) (data : List Byte)
  /-- STM_EVALUATION (R264): Each millisecond a driving module evaluates the station time master
      from recent beacons. -/
  | stmEvaluation (t : Nat)
  /-- TIME_MESSAGE_SEND (R225): Every 1 ms the station time master sends a time message on P1 and
      P2. -/
  | timeMessageSend (t : Nat)
  /-- TIME (R225): A received time message gives the station error E to slew out. -/
  | time (t : Nat) (h : PktHdr) (data : List Byte)
  /-- DELAY (R225): A DELAY packet measures a hop's round-trip delay. -/
  | delay (t : Nat) (h : PktHdr) (data : List Byte)
  /-- STATION_HOLD (R226): No time message for 10 ms sets TIME_STATION.HOLD. -/
  | stationHold (t : Nat)
  /-- RING_LOST (R262): A pair's beacons absent for 10 ms write RING_LOST. -/
  | ringLost (t : Nat) (pair : Nat)
  /-- SIGNALS (R266): A received SIGNALS packet delivers published signals to mapped input points. -/
  | signals (t : Nat) (h : PktHdr) (data : List Byte)
  /-- SIGNALS_FORGET (R266): No SIGNALS packet from a pair for 1 s forgets its last CYCLE. -/
  | signalsForget (t : Nat) (pair : Nat)
  /-- BOUNDARY (R170): A received boundary frame is checked by each consuming lane. -/
  | boundary (t : Nat) (h : PktHdr) (data : List Byte)
  /-- EJECTOR_OPEN (R260): An ejector opening is latched and acted on by handover, retirement or
      later action. -/
  | ejectorOpen (t : Nat)
  /-- PRES_SENSE_OPEN (R493): The own presence contact opens: the module retires, opens its main
      path and runs the safe-state sequence on hold-up. -/
  | presSenseOpen (t : Nat)
  /-- PRES_SENSE_CLOSE (R490): PRES_SENSE low for 20 ms starts the power-up sequence. -/
  | presSenseClose (t : Nat)
  /-- PAIR_PRES_OPEN (R251): The partner's presence contact opens and the module takes SOLO. -/
  | pairPresOpen (t : Nat)
  /-- PAIR_PRES_CLOSE (R476): The partner's presence contact closes and PARTNER_PRESENT rises. -/
  | pairPresClose (t : Nat)
  /-- TIO_SAMPLE_WINDOW (R271): Every 500 µs the trip I/O samples inputs, classifies them, runs
      test pulse checks and re-evaluates outputs. -/
  | tioSampleWindow (t : Nat) (m : TioMeas)
  /-- TIO_REFRESH (R286): A refresh from the logic side carries commands, permissives and the
      driving state to the controller. -/
  | tioRefresh (t : Nat) (ok : Bool)
  /-- TIO_LINK_SILENT (R286): No valid refresh for TQ_TIMEOUT makes the logic side silent and
      latches interlocks. -/
  | tioLinkSilent (t : Nat)
  /-- PAIR_DISC (R276): Paired inputs disagreeing for longer than TI_DISC have a PAIR_DISC fault. -/
  | pairDisc (t : Nat) (pair : Nat)
  /-- SINK_CHECK (R281): Every 100 ms each sink is checked against an internal reference. -/
  | sinkCheck (t : Nat) (ti : Nat) (ok : Bool)
  /-- TIO_READBACK (R278): A readback breach lasting 2 ms is a READBACK fault and the output is
      latched off. -/
  | tioReadback (t : Nat) (q : Nat)
  /-- OVERCURRENT (R278): A current above 0.65 A for 5 ms, or above 2.5 A at once, latches the
      output off. -/
  | overcurrent (t : Nat) (q : Nat) (short : Bool)
  /-- GROUP_OVERLOAD (R278): A group current above 4 A for 5 ms latches every output of the group
      off. -/
  | groupOverload (t : Nat) (group : Nat)
  /-- DARK_TEST_START (R279): A scheduled dark test opens one switch of an energised output. -/
  | darkTestStart (t : Nat) (q : Nat)
  /-- DARK_TEST_END (R279): The dark test ends, the switch closes and its result is judged. -/
  | darkTestEnd (t : Nat) (q : Nat) (m : DarkMeas)
  /-- SHORT_TO_SUPPLY (R280): Q+ held up with no partner over a full DT_PERIOD round retires the
      output. -/
  | shortToSupply (t : Nat) (q : Nat)
  /-- TIO_SUPPLY_MEASURE (R282): Every 100 µs each field supply is measured. -/
  | tioSupplyMeasure (t : Nat) (group mV : Nat)
  /-- TIO_SUPPLY_DOWN (R282): A supply below a falling threshold for 1 ms moves its group to a
      lower level. -/
  | tioSupplyDown (t : Nat) (group : Nat)
  /-- TIO_SUPPLY_UP (R282): A supply at or above a rising threshold for 50 ms moves its group up. -/
  | tioSupplyUp (t : Nat) (group : Nat)
  /-- TIO_OVERLAP_END (R291): 200 µs after RELEASE the outgoing module opens its trip I/O
      switches. -/
  | tioOverlapEnd (t : Nat)
  /-- ALP_CONVERSION (R296): A conversion completes with current and voltage, classified under NE
      43 and compliance rules. -/
  | alpConversion (t : Nat) (ch : Nat) (na raw mv : Int) (noHeadroom : Bool)
  /-- ALP_REFRESH (R302): A refresh from the logic side updates a channel's setpoint and enable. -/
  | alpRefresh (t : Nat) (ch : Nat) (ok : Bool)
  /-- ALP_LOGIC_SILENT (R302): No valid refresh for AL_TIMEOUT sends the channel to AL_SAFE or
      removes its enable. -/
  | alpLogicSilent (t : Nat) (ch : Nat)
  /-- ALP_READBACK (R301): A readback difference above 200 µA for 100 ms is a READBACK fault. -/
  | alpReadback (t : Nat) (ch : Nat)
  /-- OVERRANGE (R301): The INPUT current limiter active for 100 ms is OVERRANGE. -/
  | overrange (t : Nat) (ch : Nat)
  /-- FE_SILENT (R301): No conversion for 4 conversion times is FE_SILENT, or LOOP_LOST in SINK. -/
  | feSilent (t : Nat) (ch : Nat)
  /-- FE_CHECK (R301): Every 1 s the front end's reference check runs. -/
  | feCheck (t : Nat) (ch : Nat) (ok : Bool)
  /-- AL_COMPLIANCE (R300): COMPLIANCE held for 2 s writes AL_COMPLIANCE once. -/
  | alCompliance (t : Nat) (ch : Nat)
  /-- ALP_CLOCK_STEP_UP (R304): After 50 ms of fitting draw the SINK front-end clock steps up. -/
  | alpClockStepUp (t : Nat) (ch : Nat)
  /-- ALP_RAMP_END (R310): The 2 ms complementary handover ramp ends. -/
  | alpRampEnd (t : Nat)
  /-- HART_RESPONSE (R306): A HART response fills the poll entry's points or the pass-through
      reply. -/
  | hartResponse (t : Nat) (ch : Nat) (r : HartReply)
  /-- HART_TIMEOUT (R306): No HART response within 500 ms retries or sets BAD_NO_COMM. -/
  | hartTimeout (t : Nat) (ch : Nat)
  /-- HART_REQUEST (R307): A SINK channel receives a HART request and answers as a field device. -/
  | hartRequest (t : Nat) (ch cmd : Nat) (req : HartReq)
  /-- CAN_FRAME_RECEIVED (R318): A received CAN frame is matched to a receive object and fills its
      points. -/
  | canFrameReceived (t : Nat) (port : Nat) (f : CanFrame)
  /-- CAN_ARBITRATION_START (R315): At an arbitration start the head FIFO entry is sent, or
      discarded as stale. -/
  | canArbitrationStart (t : Nat) (port : Nat)
  /-- CAN_ARBITRATION_LOST (R315): An entry that loses arbitration is retried. -/
  | canArbitrationLost (t : Nat) (port : Nat)
  /-- CAN_TX_COMPLETE (R315): A frame completes transmission and leaves the FIFO. -/
  | canTxComplete (t : Nat) (port tec rec : Nat)
  /-- CAN_BUS_OFF (R325): Bus-off runs a loopback check and starts recovery. -/
  | canBusOff (t : Nat) (port : Nat) (e : CanOff)
  /-- CAN_BUS_OFF_RECOVERED (R325): After 128 occurrences of 11 recessive bits the port recovers
      from bus-off. -/
  | canBusOffRecovered (t : Nat) (port : Nat)
  /-- CAN_ERROR_PASSIVE (R325): The port enters error passive state. -/
  | canErrorPassive (t : Nat) (e : CanErr)
  /-- STUCK_DOMINANT (R325): The bus dominant for 1 ms while not transmitting is STUCK_DOMINANT. -/
  | stuckDominant (t : Nat) (port : Nat)
  /-- TXD_TIMEOUT (R325): The transceiver dominant time-out holds the port in restricted
      operation. -/
  | txdTimeout (t : Nat) (port : Nat)
  /-- LOOPBACK_RETRY (R325): A held port repeats its loopback check 1 s later. -/
  | loopbackRetry (t : Nat) (port : Nat) (ok : Bool)
  /-- CAN_WAKE (R323): A sleeping port wakes on an edge or a wake frame. -/
  | canWake (t : Nat) (port : Nat) (frame : Option CanFrame)
  /-- SOURCE_SETTLED (R372): A source's settle delay ends and its frequency check begins. -/
  | sourceSettled (t : Nat) (xb : Bool)
  /-- FREQ_WINDOW_END (R373): Each 1 ms window judges XA and XB against compensated FIRC. -/
  | freqWindowEnd (t : Nat) (xaPpm xbPpm xbXa : Int)
  /-- SOURCE_EDGE_LOSS (R373): No edge of a source for 2 µs judges it not good at once. -/
  | sourceEdgeLoss (t : Nat) (xb : Bool)
  /-- PLL_LOCKED (R376): A PLL locks to its reference. -/
  | pllLocked (t : Nat) (n : Nat)
  /-- PLL_LOCK_LOSS (R382): A PLL losing lock with a good reference has failed and acts under
      Table 15.5. -/
  | pllLockLoss (t : Nat) (n : Nat)
  /-- CLK_SWITCH_DONE (R380): A glitch-free multiplexer switch completes. -/
  | clkSwitchDone (t : Nat) (dom : Nat)
  /-- CLK_FORCED (R381): A switch not completed within 64 SIRC cycles is forced to FIRC and resets
      the domain. -/
  | clkForced (t : Nat) (dom : Nat)
  /-- QUIESCE_ACK (R385): A block acknowledges quiesce and its clock gate closes. -/
  | quiesceAck (t : Nat) (blk : Nat)
  /-- CLK_QUIESCE_TIMEOUT (R385): No quiesce acknowledge within 50 µs terminates outstanding
      accesses and closes the gate. -/
  | clkQuiesceTimeout (t : Nat) (blk : Nat)
  /-- GATE_RESET_RELEASE (R385): 16 cycles after a gate opens, the block is released from reset. -/
  | gateResetRelease (t : Nat) (blk : Nat)
  /-- FEED_LOW (R388): A feed below 19.2 V for 10 ms is judged not OK. -/
  | feedLow (t : Nat) (vb : Bool) (mv : Nat)
  /-- FEED_RECOVERED (R388): A feed reading at or above 19.2 V is judged OK again. -/
  | feedRecovered (t : Nat) (vb : Bool) (mv : Nat)
  /-- PFW (R389): The bus below 18.0 V for 200 µs is a power-fail warning that halts background
      work and writes POWER_FAIL. -/
  | pfw (t : Nat)
  /-- HL_FEED_DIP (R389): The bus back at or above 19.2 V for 5 ms before PFW + 12 ms rides
      through. -/
  | hlFeedDip (t : Nat)
  /-- PFW_STOP (R389): At PFW + 12 ms the module de-energises outputs, stops transmitting and
      holds reset. -/
  | pfwStop (t : Nat)
  /-- MGT_ALLOW (R390): An ALLOW management frame sets the slot allowance in force. -/
  | mgtAllow (t : Nat) (frame : List Byte)
  /-- ALLOW_STALE (R390): No allowance message for 5 s sets ALLOW_STALE. -/
  | allowStale (t : Nat)
  /-- POWER_SAMPLE (R391): Every 1 ms input power is sampled and averaged. -/
  | powerSample (t : Nat) (mw : Nat)
  /-- DIE_TEMP_READ (R391): Every 10 ms the die sensors are read. -/
  | dieTempRead (t : Nat) (temps : List Int)
  /-- INLET_READ (R391): Every 1 s the slot inlet sensor is read. -/
  | inletRead (t : Nat) (temp : Int)
  /-- TIER_RULE2 (R393): P_IN above the allowance for 1 s without background work wants one tier
      towards T3. -/
  | tierRule2 (t : Nat)
  /-- TIER_RULE3 (R393): T_DIE at or above 105 °C for 1 s, then every 5 s, wants one tier towards
      T3. -/
  | tierRule3 (t : Nat)
  /-- TIER_RULE5 (R393): Recovery conditions met for 60 s want one tier towards T0. -/
  | tierRule5 (t : Nat)
  /-- HOT (R394): T_DIE at or above 115 °C for 1 s halts background work and sets HOT. -/
  | hot (t : Nat)
  /-- HL_OVERTEMP (R394): T_DIE at or above 120 °C for 1 s retires the module. -/
  | hlOvertemp (t : Nat)
  /-- BACKGROUND_ADMIT (R400): The ledger admits one unit of waiting background work once headroom
      allows. -/
  | backgroundAdmit (t : Nat) (kind : Nat)
  /-- BACKGROUND_UNIT_DONE (R401): A started unit of background work completes. -/
  | backgroundUnitDone (t : Nat) (kind : Nat) (bad : List Nat)
  /-- HL_DEFER (R401): A kind waiting 60 s without admission writes HL_DEFER. -/
  | hlDefer (t : Nat) (kind : Nat)
  /-- HL_RAIL (R431): Once per minute of GT the heat ledger writes HL_RAIL for each rail. -/
  | hlRail (t : Nat) (rails : List Nat)
  /-- FLT_L0 (R404): An interconnect access not complete within 2 µs is completed by the
      terminator with an error. -/
  | fltL0 (t : Nat) (target master : Nat)
  /-- ENGINE_WATCHDOG_EXPIRY (R405): An engine watchdog expiry resets and reloads the engine and
      adds 8 to its bucket. -/
  | engineWatchdogExpiry (t : Nat) (engine : Nat) (digestOk : Bool)
  /-- L5_SERVICE (R406): The supervisor answers the AON challenge when its conditions hold. -/
  | l5Service (t : Nat)
  /-- FLT_L5 (R407): The module watchdog expires and AON asserts the hardware safe line and resets
      the module. -/
  | fltL5 (t : Nat)
  /-- DRAIN_TICK (R408): At each 125 ms multiple of GT every fault bucket falls by 1. -/
  | drainTick (t : Nat)
  /-- PERSISTENCE_EXPIRY (R408): A fault present without a break for the unit's persistence limit
      retires the unit. -/
  | persistenceExpiry (t : Nat) (unit : UnitId) (code : Nat)
  /-- ECC_CORRECTED (R410): A corrected ECC error adds 8 to the row's bucket. -/
  | eccCorrected (t : Nat) (mem row : Nat)
  /-- ECC_UNCORRECTABLE (R411): An uncorrectable ECC error returns an error response and adds 32
      to the row's bucket. -/
  | eccUncorrectable (t : Nat) (mem : Nat) (x : BadWord)
  /-- NAND_PROGRAM_FAIL (R411): A NAND block failing to program or erase is replaced from the wear
      reserve. -/
  | nandProgramFail (t : Nat) (blk : Nat)
  /-- BST_SLICE_DONE (R418): A Teasel slice completes and restores its unit. -/
  | bstSliceDone (t : Nat) (r : SliceRes)
  /-- BST_TIMEOUT (R421): A slice running beyond twice its nominal length is stopped and counted
      as a fault. -/
  | bstTimeout (t : Nat)
  /-- BST_ROUND_LATE (R423): A round incomplete after ROUND_LIMIT_H hours sets ROUND_LATE. -/
  | bstRoundLate (t : Nat)
  /-- SORREL_RATE_WRITE (R436): At the code's last write + 1 s, the code's accumulators are merged
      into records in one write. -/
  | sorrelRateWrite (t : Nat) (code : Nat)
  /-- SORREL_SEAL (R441): An hourly epoch is sealed at its end + 2 s and becomes a roll-up unit. -/
  | sorrelSeal (t : Nat) (epoch : Nat)
  /-- POWER_ON_RESET_RELEASE (R456): The release of power-on reset starts clocks, the boot ROM and
      the boot sequence. -/
  | powerOnResetRelease (t : Nat) (p : PorIn)
  /-- BOOT_STEP_DONE (R456): A boot step completes and the next step of Table 20.3 begins. -/
  | bootStepDone (t : Nat) (b : BootIn)
  /-- BOOT_OVERRUN (R456): A boot step overrunning its time fails the boot. -/
  | bootOverrun (t : Nat)
  /-- IMAGE_HASH_DONE (R458): The digest of a complete inactive slot is computed and ALT_COMPLETE
      is set. -/
  | imageHashDone (t : Nat) (digest : Nat)
  /-- FW_ACTIVATE_RESET (R459): Within 100 ms of FW_ACTIVATE the module stops and resets. -/
  | fwActivateReset (t : Nat)
  /-- FW_TRIAL_WINDOW_END (R463): A trial window ending without confirmation records a fallback
      and resets, after a handover when possible. -/
  | fwTrialWindowEnd (t : Nat)
  /-- SERVICE_HELLO (R470): A HELLO service frame on J4 is answered with the HELLO reply. -/
  | serviceHello (t : Nat) (frame : List Byte)
  /-- SERVICE_GRANT (R470): A GRANT service frame supplies the grant for following frames. -/
  | serviceGrant (t : Nat) (frame : List Byte) (g : Grant)
  /-- SERVICE_CHUNK (R470): A CHUNK service frame stores image data as FW_CHUNK does. -/
  | serviceChunk (t : Nat) (frame : List Byte) (hdr : Option ImageHdr)
  /-- SERVICE_ACTIVATE (R469): An ACTIVATE service frame verifies slot A and installs it as
      FW_ACTIVATE does under Speedwell. -/
  | serviceActivate (t : Nat) (frame : List Byte)
  /-- SERVICE_STATUS (R487): A STATUS service frame is answered with the STATUS reply. -/
  | serviceStatus (t : Nat) (frame : List Byte)
  /-- MGT_IDENTITY (R478): An IDENTITY management frame supplies XB_SETTLE. -/
  | mgtIdentity (t : Nat) (frame : List Byte)
  /-- IDENTITY_TIMEOUT (R478): No valid IDENTITY within 2 s makes XB_SETTLE default to 1,000 ms. -/
  | identityTimeout (t : Nat)
  /-- MGT_TOD (R213): A TOD management frame states the GT of the next PPS edge. -/
  | mgtTod (t : Nat) (frame : List Byte)
  /-- PPS_EDGE (R479): A PPS rising edge applies the pending time-of-day value. -/
  | ppsEdge (t : Nat)
  /-- TOD_PPS_TIMEOUT (R479): A TOD message whose PPS edge does not arrive within 1 s is
      discarded. -/
  | todPpsTimeout (t : Nat)
  /-- CLOVER_LATCH (R231): At snapshot time T each unit latches its counters. -/
  | cloverLatch (t : Nat)
  /-- CLOVER_DEADLINE (R233): At T + 1 s the snapshot completes with remaining units MISSING. -/
  | cloverDeadline (t : Nat)
  /-- DEBUG_UNLOCK_EXPIRY (R368): The debug unlock ends at its grant's EXPIRY. -/
  | debugUnlockExpiry (t : Nat)
  /-- DEBUG_ACCESS (R362): A TAP access by the debug master is checked by the gate. -/
  | debugAccess (t : Nat) (a : Access)
  /-- GATE_PROGRAM_FAULT (R365): An access by a master other than the debug master is denied by
      its gate, and the denial is latched and acted on by master (cell user mode aborts to HOLD,
      privileged cell rolls back, other masters fault). -/
  | gateProgramFault (t : Nat) (a : Access)
  /-- PLV_READMIT_SECOND (R413): A Plovlink port named in a READMIT that has trained and discarded
      no packet for 1 s returns to service at the end of that second. -/
  | plvReadmitSecond (t : Nat) (port : Nat)
  /-- CAN_RECESSIVE_BITS (R413): A CAN port whose READMIT loopback check passed returns to service
      after the bus shows 11 consecutive recessive bits. -/
  | canRecessiveBits (t : Nat) (port : Nat)
  /-- HOLD_UP_CHARGED (R490): The hold-up store finishes charging after power-up, after which a
      power-fail warning gives the 20 ms hold-up instead of stopping the module at once. -/
  | holdUpCharged (t : Nat)
  /-- PLV_PORT_TRAINED (R236): A Plovlink port completes training, either a ring port P1 or P2
      coming up or any port retraining on two lanes after a lane failure, and starts carrying
      packets. -/
  | plvPortTrained (t : Nat) (port lanes : Nat)
deriving DecidableEq, Repr

end Sys2Proof
end

