-- ==== Sys2Proof/Config.lean ====
section
/-! DEFINITION. Values that the manual leaves open. Each constant has no body, so nothing can be proved
of its value; State's counter `free` or the operands index it (log entry 2). -/

namespace Sys2Proof

/-- A byte that the manual leaves open: content of a region whose layout it does not give, or a
corrupted CRC byte. -/
opaque Config.freeByte : Nat → Byte

/-- The program of a generation: what an executing cycle computes from the inputs of R71 and from nothing else.
The cells, the tier and the assignment of segments do not appear. -/
opaque Config.program : ExecIn → ExecResult

/-- Byte i of the signature that the identity key, which never leaves the crypto engine, gives a nonce (R253). -/
opaque Config.identitySign : Nat → Nat → Byte

/-- Byte i of the container of the generation with a digest; the formats of its sections are not all given (log 203). -/
opaque Config.genByte : Nat → Nat → Byte

/-- The lane build 0 to 2 (A to C) that the firmware image with a digest holds (R150, Table 20.1). -/
opaque Config.laneBuild : Nat → Nat → List Byte

/-- A number that the manual leaves open. -/
opaque Config.freeNat : Nat → Nat

/-- A bit that the manual leaves open. -/
opaque Config.freeBit : Nat → Bool

end Sys2Proof
end

