-- ==== Sys2Proof/Machine/Bits.lean ====
section
/-! DEFINITION. Bit fields, byte order, saturating counts, the CRCs of the manual's formats and
SHA-512. Everything is Nat arithmetic, so the kernel evaluates it on numerals. -/

namespace Sys2Proof.Machine

/-- Bits [lo + n - 1 : lo] of a number. -/
def bits (w lo n : Nat) : Nat := (w >>> lo) % 2 ^ n

/-- A flag as a number. -/
def b2n (b : Bool) : Nat := if b then 1 else 0

/-- A count that saturates at a bound. -/
def satInc (max n : Nat) : Nat := if n < max then n + 1 else max

/-- A count that saturates at a bound, raised by k. -/
def satAdd (max n k : Nat) : Nat := min max (n + k)

/-- The n bytes of a number, least significant first (R11). -/
def le : Nat → Nat → List Byte
  | 0, _ => []
  | n + 1, v => BitVec.ofNat 8 v :: le n (v / 256)

/-- The number that bytes spell, least significant first (R11). -/
def ofLe : List Byte → Nat
  | [] => 0
  | b :: bs => b.toNat + 256 * ofLe bs

/-- The number that bytes spell, most significant first. -/
def ofBe (bs : List Byte) : Nat := bs.foldl (fun a b => a * 256 + b.toNat) 0

/-- The n bytes of a number, most significant first. -/
def be (n v : Nat) : List Byte := (le n v).reverse

/-- Field of `size` bytes at `off` of a format (R11). -/
def field (bs : List Byte) (off size : Nat) : Nat := ofLe ((bs.drop off).take size)

/-- Whether every byte of a range is zero. -/
def zeros (bs : List Byte) (off size : Nat) : Bool := ((bs.drop off).take size).all (· == 0)

/-- n zero bytes. -/
def pad (n : Nat) : List Byte := List.replicate n 0

/-- A number as a signed 32-bit value (R430). -/
def sgn32 (v : Nat) : Int :=
  let w : Nat := v % 2 ^ 32
  if w < 2 ^ 31 then (w : Int) else (w : Int) - 2 ^ 32

/-- The 32 bits of an integer, two's complement. -/
def wrap32 (v : Int) : Nat := (v % (2 ^ 32 : Int)).toNat

/-- The 64 bits of an integer, two's complement. -/
def wrap64 (v : Int) : Nat := (v % (2 ^ 64 : Int)).toNat

/-- A 64-bit number as signed. -/
def sgn64 (v : Nat) : Int :=
  let w : Nat := v % 2 ^ 64
  if w < 2 ^ 63 then (w : Int) else (w : Int) - 2 ^ 64

/-- k steps of a reflected CRC register. -/
def crcBits (poly : Nat) : Nat → Nat → Nat
  | 0, c => c
  | k + 1, c => crcBits poly k (if c % 2 = 1 then (c / 2) ^^^ poly else c / 2)

/-- A reflected CRC of bytes: initial value and final XOR all ones of the given width. -/
def crc (poly width : Nat) (bs : List Byte) : Nat :=
  (bs.foldl (fun c b => crcBits poly 8 (c ^^^ b.toNat)) (2 ^ width - 1)) ^^^ (2 ^ width - 1)

/-- CRC-32C with an initial register value of its own (Tables 7.5 and 7.7), final XOR all ones. -/
def crc32cFrom (init : Nat) (bs : List Byte) : Nat :=
  (bs.foldl (fun c b => crcBits 0x82F63B78 8 (c ^^^ b.toNat)) (init % 2 ^ 32)) ^^^ (2 ^ 32 - 1)

/-- CRC-32C, initial 0xFFFF_FFFF and final XOR 0xFFFF_FFFF (R434). -/
def crc32c (bs : List Byte) : Nat := crc 0x82F63B78 32 bs

/-- The IEEE CRC-32. -/
def crc32 (bs : List Byte) : Nat := crc 0xEDB88320 32 bs

/-- CRC-64 with the ECMA-182 polynomial in reflected form (R68, log entry 5). -/
def crc64 (bs : List Byte) : Nat := crc 0xC96C5795D7870F42 64 bs

/-- The integer e-th root of v: k bits from the top, `lo` the bits found so far. -/
def rootBits (e v : Nat) : Nat → Nat → Nat
  | 0, lo => lo
  | k + 1, lo => rootBits e v k (if (lo + 2 ^ k) ^ e ≤ v then lo + 2 ^ k else lo)

/-- The first 64 bits of the fraction of the e-th root of a number below 512. -/
def fracRoot (e p : Nat) : Nat := rootBits e (p * 2 ^ (64 * e)) 70 0 % 2 ^ 64

/-- The primes below 410: there are eighty. -/
def smallPrimes : List Nat :=
  (List.range 410).filter fun n => 2 ≤ n && (List.range 21).all fun d => d < 2 || n ≤ d || n % d ≠ 0

/-- The round constants of SHA-512: fractions of the cube roots of the first eighty primes. -/
def shaK : List Nat := smallPrimes.map (fracRoot 3)

/-- 64-bit rotation to the right. -/
def rotr (x n : Nat) : Nat := (x >>> n) ||| ((x <<< (64 - n)) % 2 ^ 64)

/-- One round of SHA-512 on (a, b, c, d, e, f, g, h) with its constant and message word. -/
def shaRound (v : List Nat) (kw : Nat × Nat) : List Nat :=
  match v with
  | [a, b, c, d, e, f, g, h] =>
    let s1 := rotr e 14 ^^^ rotr e 18 ^^^ rotr e 41
    let ch := (e &&& f) ^^^ ((e ^^^ (2 ^ 64 - 1)) &&& g)
    let t1 := h + s1 + ch + kw.1 + kw.2
    let s0 := rotr a 28 ^^^ rotr a 34 ^^^ rotr a 39
    let mj := (a &&& b) ^^^ (a &&& c) ^^^ (b &&& c)
    [(t1 + s0 + mj) % 2 ^ 64, a, b, c, (d + t1) % 2 ^ 64, e, f, g]
  | _ => v

/-- Message schedule, newest word first, extended k times. -/
def shaExtend : Nat → List Nat → List Nat
  | 0, w => w
  | k + 1, w =>
    let x2 := w.getD 1 0
    let x15 := w.getD 14 0
    let s1 := rotr x2 19 ^^^ rotr x2 61 ^^^ (x2 >>> 6)
    let s0 := rotr x15 1 ^^^ rotr x15 8 ^^^ (x15 >>> 7)
    shaExtend k ((s1 + w.getD 6 0 + s0 + w.getD 15 0) % 2 ^ 64 :: w)

/-- Big-endian 64-bit words of n blocks of eight bytes. -/
def shaWords : Nat → List Byte → List Nat
  | 0, _ => []
  | n + 1, bs => ofBe (bs.take 8) :: shaWords n (bs.drop 8)

/-- The compression of one block. -/
def shaBlock (h : List Nat) (blk : List Byte) : List Nat :=
  let w := (shaExtend 64 (shaWords 16 blk).reverse).reverse
  let v := (shaK.zip w).foldl shaRound h
  (h.zip v).map fun p => (p.1 + p.2) % 2 ^ 64

/-- n blocks of 128 bytes. -/
def shaRun : Nat → List Nat → List Byte → List Nat
  | 0, h, _ => h
  | n + 1, h, bs => shaRun n (shaBlock h (bs.take 128)) (bs.drop 128)

/-- The initial hash value of SHA-512: fractions of the square roots of the first eight primes. -/
def shaInit : List Nat := (smallPrimes.take 8).map (fracRoot 2)

/-- SHA-512 of bytes, 64 bytes. -/
def sha512 (bs : List Byte) : List Byte :=
  let n := bs.length
  let z := (239 - n % 128) % 128
  let m := bs ++ [0x80] ++ pad z ++ be 16 (n * 8)
  ((shaRun (m.length / 128) shaInit m).map (be 8)).flatten

/-- Value of a key in a table, or a default. -/
def Tab.getD {α : Type} (t : Tab α) (k : Nat) (d : α) : α :=
  match t with
  | [] => d
  | (j, v) :: r => if j = k then v else Tab.getD r k d

/-- An element put into a sorted list, before its equals. -/
def insertBy {α : Type} (le : α → α → Bool) (x : α) : List α → List α
  | [] => [x]
  | y :: r => if le x y then x :: y :: r else y :: insertBy le x r

/-- A list in order; elements that compare equal keep theirs. -/
def sortBy {α : Type} (le : α → α → Bool) : List α → List α
  | [] => []
  | x :: r => insertBy le x (sortBy le r)

/-- Entry of a key, if listed. -/
def Tab.find? {α : Type} (t : Tab α) (k : Nat) : Option α :=
  match t with
  | [] => none
  | (j, v) :: r => if j = k then some v else Tab.find? r k

/-- A table without a key. -/
def Tab.erase {α : Type} (t : Tab α) (k : Nat) : Tab α := t.filter fun p => p.1 != k

/-- A sorted table with a key set. -/
def Tab.set {α : Type} (t : Tab α) (k : Nat) (v : α) : Tab α :=
  match t with
  | [] => [(k, v)]
  | (j, w) :: r =>
    if k < j then (k, v) :: (j, w) :: r
    else if k = j then (k, v) :: r
    else (j, w) :: Tab.set r k v

/-- A sorted table with a key set, holding no entry equal to the default. -/
def Tab.put {α : Type} [DecidableEq α] (t : Tab α) (k : Nat) (v d : α) : Tab α :=
  if v = d then Tab.erase t k else Tab.set t k v

/-- Apply a function to one position of a list. -/
def updAt {α : Type} (l : List α) (i : Nat) (f : α → α) : List α :=
  match l, i with
  | [], _ => []
  | x :: xs, 0 => f x :: xs
  | x :: xs, i + 1 => x :: updAt xs i f

end Sys2Proof.Machine
end

