-- ==== Sys2Proof/Machine/Codes.lean ====
section
/-! DEFINITION. Numbers that the manual gives: Sorrel codes (Table 19.1, R432, Table 20.6), source
numbers (Table 8.3), completion status codes (Table 13.10), and opcodes (Table 13.4). -/

namespace Sys2Proof.Code

/-- EVR_CLEAR -/
def evrClear : Nat := 0x0001
/-- EVR_UNFLUSHED -/
def evrUnflushed : Nat := 0x0002
/-- EVR_MRAM_FULL -/
def evrMramFull : Nat := 0x0003
/-- EVR_ARCHIVE_FULL -/
def evrArchiveFull : Nat := 0x0004
/-- EVR_RECORD_BAD -/
def evrRecordBad : Nat := 0x0005
/-- MODE_REFUSED -/
def modeRefused : Nat := 0x0101
/-- EJECT_UNSAFE -/
def ejectUnsafe : Nat := 0x0102
/-- SCAN_RISK -/
def scanRisk : Nat := 0x0103
/-- RETAIN_LAG -/
def retainLag : Nat := 0x0104
/-- LOCKSTEP_ROLLBACK -/
def lockstepRollback : Nat := 0x0105
/-- CELL_RETIRED -/
def cellRetired : Nat := 0x0106
/-- SCAN_WDT -/
def scanWdt : Nat := 0x0107
/-- STAGE_REFUSED -/
def stageRefused : Nat := 0x0201
/-- SWITCH_CANCELLED -/
def switchCancelled : Nat := 0x0202
/-- CHANGE_SWITCHED -/
def changeSwitched : Nat := 0x0203
/-- CHANGE_CONFIRMED -/
def changeConfirmed : Nat := 0x0204
/-- CHANGE_REVERTED -/
def changeReverted : Nat := 0x0205
/-- MIGRATE_DROP -/
def migrateDrop : Nat := 0x0206
/-- MIGRATE_RESET -/
def migrateReset : Nat := 0x0207
/-- FORCE_DROPPED -/
def forceDropped : Nat := 0x0208
/-- ADOPT_FAIL -/
def adoptFail : Nat := 0x0209
/-- ILE_DETECT_FAULT -/
def ileDetectFault : Nat := 0x0301
/-- ILE_PATH_ADOPTED -/
def ilePathAdopted : Nat := 0x0302
/-- ILE_SET_TIMEOUT -/
def ileSetTimeout : Nat := 0x0303
/-- ILE_POSITION_LOST -/
def ilePositionLost : Nat := 0x0304
/-- ILE_REQ_MALFORMED -/
def ileReqMalformed : Nat := 0x0305
/-- ILE_OPERATOR -/
def ileOperator : Nat := 0x0306
/-- ILE_BLOCK_DROPPED -/
def ileBlockDropped : Nat := 0x0307
/-- PATH_CARRIED -/
def pathCarried : Nat := 0x0308
/-- ILE_WITHDRAWN -/
def ileWithdrawn : Nat := 0x0309
/-- ILE_LANE_DISAGREE -/
def ileLaneDisagree : Nat := 0x030a
/-- ILE_LANE_RESEED -/
def ileLaneReseed : Nat := 0x030b
/-- ILE_LANE_RETIRED -/
def ileLaneRetired : Nat := 0x030c
/-- ILE_READMIT -/
def ileReadmit : Nat := 0x030d
/-- ILE_BND_TIMEOUT -/
def ileBndTimeout : Nat := 0x030e
/-- ILE_PAIR_MISMATCH -/
def ilePairMismatch : Nat := 0x030f
/-- OXN_SAFETY_TIMEOUT -/
def oxnSafetyTimeout : Nat := 0x0401
/-- OXN_CH_RETIRED -/
def oxnChRetired : Nat := 0x0402
/-- OXN_NARROW -/
def oxnNarrow : Nat := 0x0403
/-- OXN_PLAN_CONFLICT -/
def oxnPlanConflict : Nat := 0x0404
/-- OXN_READMIT_FAIL -/
def oxnReadmitFail : Nat := 0x0405
/-- OXN_COLDSTART -/
def oxnColdstart : Nat := 0x0406
/-- OXN_SYNC_LOST -/
def oxnSyncLost : Nat := 0x0407
/-- PAIR_DECISION -/
def pairDecision : Nat := 0x0501
/-- PAIR_NO_QUORUM -/
def pairNoQuorum : Nat := 0x0502
/-- PAIR_FAILOVER -/
def pairFailover : Nat := 0x0503
/-- PAIR_HANDOVER -/
def pairHandover : Nat := 0x0504
/-- PAIR_AUTH_FAIL -/
def pairAuthFail : Nat := 0x0505
/-- RESYNC_FAIL -/
def resyncFail : Nat := 0x0506
/-- RESYNC_DONE -/
def resyncDone : Nat := 0x0507
/-- RING_LOST -/
def ringLost : Nat := 0x0508
/-- STM_CHANGE -/
def stmChange : Nat := 0x0509
/-- TIO_FAULT -/
def tioFault : Nat := 0x0601
/-- TIO_SUPPLY -/
def tioSupply : Nat := 0x0602
/-- TIO_RESET -/
def tioReset : Nat := 0x0603
/-- TIO_RESET_REJECTED -/
def tioResetRejected : Nat := 0x0604
/-- TIO_LINK_SILENT -/
def tioLinkSilent : Nat := 0x0605
/-- TIO_CCV_CONFIRMED -/
def tioCcvConfirmed : Nat := 0x0606
/-- ALP_FAULT -/
def alpFault : Nat := 0x0701
/-- AL_COMPLIANCE -/
def alCompliance : Nat := 0x0702
/-- CAN_FAULT -/
def canFault : Nat := 0x0801
/-- CAN_TX_DROP -/
def canTxDrop : Nat := 0x0802
/-- CAN_WAKE -/
def canWake : Nat := 0x0803
/-- HXP_GRANT_REFUSED -/
def hxpGrantRefused : Nat := 0x0901
/-- GATE_ARM_FAIL -/
def gateArmFail : Nat := 0x0902
/-- GATE_PROGRAM_FAULT -/
def gateProgramFault : Nat := 0x0903
/-- GATE_VIOLATION -/
def gateViolation : Nat := 0x0904
/-- GATE_UNLOCK -/
def gateUnlock : Nat := 0x0905
/-- CLK_SRC_LOST -/
def clkSrcLost : Nat := 0x0a01
/-- CLK_SRC_GOOD -/
def clkSrcGood : Nat := 0x0a02
/-- CLK_REF_SWITCH -/
def clkRefSwitch : Nat := 0x0a03
/-- CLK_FORCED -/
def clkForced : Nat := 0x0a04
/-- CLK_PLL_FAULT -/
def clkPllFault : Nat := 0x0a05
/-- CLK_QUIESCE_TIMEOUT -/
def clkQuiesceTimeout : Nat := 0x0a06
/-- HL_FEED -/
def hlFeed : Nat := 0x0b01
/-- HL_FEED_DIP -/
def hlFeedDip : Nat := 0x0b02
/-- POWER_FAIL -/
def powerFail : Nat := 0x0b03
/-- HL_ALLOW -/
def hlAllow : Nat := 0x0b04
/-- HL_TIER -/
def hlTier : Nat := 0x0b05
/-- HL_OVERTEMP -/
def hlOvertemp : Nat := 0x0b06
/-- SCAN_NEAR -/
def scanNear : Nat := 0x0b07
/-- ALLOW_RISK -/
def allowRisk : Nat := 0x0b08
/-- T3_RISK -/
def t3Risk : Nat := 0x0b09
/-- HL_DEFER -/
def hlDefer : Nat := 0x0b0a
/-- HL_RAIL -/
def hlRail : Nat := 0x0b0b
/-- FLT_L0 -/
def fltL0 : Nat := 0x0c01
/-- FLT_L5 -/
def fltL5 : Nat := 0x0c02
/-- MEM_REMAP -/
def memRemap : Nat := 0x0c03
/-- MEM_SPARE_OUT -/
def memSpareOut : Nat := 0x0c04
/-- UNIT_RETIRED -/
def unitRetired : Nat := 0x0c05
/-- UNIT_READMITTED -/
def unitReadmitted : Nat := 0x0c06
/-- BST_TIMEOUT -/
def bstTimeout : Nat := 0x0c07
/-- BST_ROUND_LATE -/
def bstRoundLate : Nat := 0x0c08
/-- BST_FAIL -/
def bstFail : Nat := 0x0c09
/-- FW_VERIFY_FAIL -/
def fwVerifyFail : Nat := 0x0d01
/-- FW_BOOT -/
def fwBoot : Nat := 0x0d02
/-- FW_CHUNK_RESTART -/
def fwChunkRestart : Nat := 0x0d03
/-- FW_TRIAL -/
def fwTrial : Nat := 0x0d04
/-- FW_CONFIRMED -/
def fwConfirmed : Nat := 0x0d05
/-- FW_FLOOR_RAISED -/
def fwFloorRaised : Nat := 0x0d06
/-- FW_FALLBACK -/
def fwFallback : Nat := 0x0d07
/-- FW_CFG_CONVERT -/
def fwCfgConvert : Nat := 0x0d08
/-- FW_XFER_MISMATCH -/
def fwXferMismatch : Nat := 0x0d09
/-- FW_RECOVERED -/
def fwRecovered : Nat := 0x0d0a

end Sys2Proof.Code

namespace Sys2Proof.Src

/-- SV -/
def sv : Nat := 0
/-- Cell Cn. -/
def cell (n : Nat) : Nat := 0x100 * (n + 1)
/-- Heat ledger. -/
def heat : Nat := 0x001000
/-- Clocks. -/
def clocks : Nat := 0x001100
/-- Gate n. -/
def gate (n : Nat) : Nat := 0x001200 + n
/-- Teasel. -/
def teasel : Nat := 0x001300
/-- Sorrel. -/
def sorrel : Nat := 0x001400
/-- Firmware and boot. -/
def fw : Nat := 0x001500
/-- Global time unit. -/
def gtu : Nat := 0x001600
/-- Fault handling. -/
def flt : Nat := 0x001700
/-- Oxuger node and channel sub-index (0xFF neither or both). -/
def oxn (node sub : Nat) : Nat := 0x100000 + 0x100 * node + sub
/-- TIi. -/
def ti (i : Nat) : Nat := 0x200000 + i
/-- TPi. -/
def tp (i : Nat) : Nat := 0x200020 + i
/-- TQi. -/
def tq (i : Nat) : Nat := 0x200040 + i
/-- Field supply group g. -/
def fs (g : Nat) : Nat := 0x200060 + g
/-- The trip I/O controller as a whole. -/
def tio : Nat := 0x2000FF
/-- ALx. -/
def al (x : Nat) : Nat := 0x300000 + x
/-- CNp. -/
def can (p : Nat) : Nat := 0x400000 + p
/-- Voter. -/
def voter : Nat := 0x500000
/-- Lane. -/
def lane (l : Lane) : Nat :=
  match l with
  | .a => 0x500100
  | .b => 0x500200
  | .c => 0x500300
/-- Boundary elements. -/
def boundary : Nat := 0x500400
/-- Pair logic, with a judge position for judge events. -/
def pair (j : Nat) : Nat := 0x600000 + j
/-- Plovlink port p. -/
def plv (p : Nat) : Nat := 0x600100 + 0x100 * p
/-- Command ring n. -/
def ring (n : Nat) : Nat := 0x700000 + 0x100 * n
/-- Event ring. -/
def evq : Nat := 0x700800

end Sys2Proof.Src

namespace Sys2Proof.Machine

/-- Status codes (Table 13.10). -/
def statusCode : Status → Nat
  | .ok => 0x0000
  | .refused => 0x0010
  | .notReady => 0x0011
  | .aborted => 0x0012
  | .grantMissing => 0x0020
  | .grantFormat => 0x0021
  | .grantKey => 0x0022
  | .grantSerial => 0x0023
  | .grantAction => 0x0024
  | .grantRole => 0x0025
  | .grantExpired => 0x0026
  | .grantTarget => 0x0027
  | .grantSignature => 0x0028
  | .grantReplay => 0x0029
  | .nonceFull => 0x002a
  | .slotEmpty => 0x002b
  | .badFormat => 0x0030
  | .badSignature => 0x0031
  | .badDigest => 0x0032
  | .badGen => 0x0033
  | .badLimit => 0x0034
  | .badIleTable => 0x0035
  | .notOnline => 0x0036
  | .storeFull => 0x0037
  | .partnerFail => 0x0038
  | .forceFull => 0x0040
  | .notAssigned => 0x0041
  | .notForceable => 0x0042
  | .badValue => 0x0043
  | .notHost => 0x0044
  | .ccvMismatch => 0x0050
  | .keyLockout => 0x0051
  | .legacyWrite => 0x0052
  | .fwNoImage => 0x0053
  | .voidKey => 0x0060
  | .voidType => 0x0061
  | .voidState => 0x0062
  | .badOpcode => 0x0070
  | .badArgs => 0x0071
  | .badBuffer => 0x0072
  | .dmaTimeout => 0x0073
  | .dmaError => 0x0074
  | .hartFail => 0x0075

/-- MOD_REFUSE reasons (Table 2.16). -/
def reasonCode : Reason → Nat
  | .notLegal => 1
  | .guard => 2
  | .busy => 3
  | .role => 4

/-- Role encoding (Table 2.1). -/
def roleCode : Role → Nat
  | .solo => 0
  | .active => 1
  | .standby => 2
  | .syncing => 3
  | .retired => 4

/-- Run state encoding. -/
def runCode : RunState → Nat
  | .boot => 0
  | .idle => 1
  | .run => 2
  | .hold => 3
  | .safe => 4

/-- Change state encoding. -/
def changeCode : ChangeState → Nat
  | .none => 0
  | .staged => 1
  | .trial => 2
  | .confirmed => 3

/-- ILE state encoding. -/
def ileCode : IleState → Nat
  | .lane3 => 0
  | .ab => 1
  | .ac => 2
  | .bc => 3
  | .withdrawn => 4

/-- Network state encoding. -/
def netCode : NetState → Nat
  | .listen => 0
  | .coldLead => 1
  | .integrating => 2
  | .synced => 3
  | .narrow => 4
  | .passive => 5

/-- Firmware state encoding. -/
def fwCode : FwState → Nat
  | .confirmed => 0
  | .trial => 1
  | .fallback => 2

/-- Heat tier number. -/
def tierNum : Tier → Nat
  | .t0 => 0
  | .t1 => 1
  | .t2 => 2
  | .t3 => 3

/-- Heat tier of a number. -/
def tierOf : Nat → Tier
  | 0 => .t0
  | 1 => .t1
  | 2 => .t2
  | _ => .t3

/-- Retirement cause encoding (Table 2.14). -/
def causeCode : RetireCause → Nat
  | .none => 0
  | .fault => 1
  | .judged => 2
  | .command => 3
  | .ejector => 4
  | .self => 5
  | .resync => 6

/-- The nine components as MOD_STATE shows them (Table 2.13). -/
def tupleWord (m : ModeTuple) : Nat :=
  roleCode m.role + 8 * runCode m.run + 64 * changeCode m.change + 256 * (if m.forced then 1 else 0)
    + 512 * ileCode m.ile + 4096 * netCode m.net + 32768 * tierNum m.tier + 131072 * fwCode m.fw
    + 524288 * (match m.bst with | .native => 0 | .compat => 1)

end Sys2Proof.Machine
end

