-- ==== Sys2Proof/BlocksB.lean ====
section
/-! DEFINITION. State of the access gates (chapter 14), the clocks (15), the power feeds and heat
ledger (16) and the backplane contacts (21). -/

namespace Sys2Proof

/-- A latched violation (Tables 14.9 and 14.10). -/
structure Viol where
  addr : Nat
  master : Nat
  key : Nat
  tag : Nat
  kind : Nat
  ty : Nat
  partialHit : Bool
  secure : Bool
  priv : Bool
  region : Nat
  gt : Nat
deriving DecidableEq, Repr, Inhabited

/-- One gate (chapter 14): its two descriptor banks, each a table of used indices; `nowV` is the first violation of the
last instant that had one, and how many it had (R366). -/
structure Gate where
  armed : Bool
  armFail : Bool
  bank : Bool
  bank0 : Tab Region
  bank1 : Tab Region
  latched : Option Viol
  count : Nat
  total : Nat
  nowV : Option (Viol × Nat)
deriving DecidableEq, Repr, Inhabited

/-- GATE block state. `fw` holds the firmware's descriptors (gate, index, descriptor) of the running image; `expiry`
is the EXPIRY of the grant of the unlock in force. `varsB` tells which of the two variable windows of Table 1.4 the
running generation has, the second when it is true (R357). -/
structure GateS where
  gates : List Gate
  fw : List (Nat × Nat × Region)
  mask : Nat
  expiry : Nat
  varsB : Bool
deriving DecidableEq, Repr, Inhabited

/-- Judgement of XA or XB (R372, R373): `st` as in CLK_SRC, `since` when its present stage began (the settle delay, or
the frequency check), whether the settle delay has ended, windows in a row outside ±1 % and outside ±200 ppm of XA, and the times it was judged not good. -/
structure SrcS where
  st : Nat
  since : Nat
  checking : Bool
  outPct : Nat
  outPpm : Nat
  lostAt : List Nat
  barred : Bool
deriving DecidableEq, Repr, Inhabited

/-- One PLL (CLK_PLL): reference 0 none, 1 XA, 2 XB, 3 FIRC. -/
structure PllS where
  ref : Nat
  lock : Bool
  fault : Bool
deriving DecidableEq, Repr, Inhabited

/-- Input of a domain's multiplexer (R378): FIRC, its source of Table 15.3, or PLL1, the third input of D0. -/
inductive MuxIn where
  | firc
  | source
  | pll1
deriving DecidableEq, Repr, Inhabited

/-- A multiplexer switch in progress on a domain: its target and request time. -/
structure Switch where
  dom : Nat
  dst : MuxIn
  at_ : Nat
deriving DecidableEq, Repr, Inhabited

/-- CLK block state (Tables 15.9 to 15.11). `quiesce` holds blocks whose gate request is pending,
with its time; `held` the blocks held in reset after their gate opened or timed out. `d0Pll1` says that D0, off FIRC,
runs on PLL1; `vco` is the tier of PLL0's frequency; `gapFrom` is since when D0 has been changing its tier (R383). -/
structure ClkS where
  on : Bool
  xa : SrcS
  xb : SrcS
  xbSettle : Option Nat
  plls : List PllS
  domFirc : Nat
  d0Pll1 : Bool
  vco : Nat
  gapFrom : Option Nat
  gated : Nat
  forced : Nat
  forcedLast : Nat
  quTimeouts : Nat
  quLast : Nat
  losses : Nat
  xaDev : Int
  xbDev : Int
  monSel : Nat
  monDiv : Nat
  switching : List Switch
  quiesce : List (Nat × Nat)
  held : List Nat
deriving DecidableEq, Repr, Inhabited

/-- HL block state (Tables 16.8 to 16.10). Powers in 0.1 W, feeds in 10 mV. The `Option Nat` fields
hold since when a condition of Table 16.2 or R394 has held without a break. `bgWait` holds each
waiting kind of Table 16.4 with the start of its wait, `bgRun` the running
kinds, `bgDefer` the last HL_DEFER of each kind, `bgUsed` the nominal time in ns of the slices that this cycle's
housekeeping has admitted (R400). -/
structure HlS where
  cfg : Word
  armed : Bool
  va : Nat
  vb : Nat
  vaOk : Bool
  vbOk : Bool
  allow : Nat
  msgs : Nat
  lastMsg : Nat
  allowLow : Bool
  stale : Bool
  hot : Bool
  t3Held : Bool
  pfw : Option Nat
  charged : Bool
  want : Nat
  partnerWant : Nat
  lastChange : Nat
  nMax : Nat
  pMax : Nat
  wMax : Nat
  cycles : Nat
  samples : List (Nat × Nat)
  pIn : Nat
  pPeak : Nat
  tDie : Int
  hottest : Nat
  inlet : Int
  inletMax : Option Int
  near : Bool
  allowRisk : Bool
  t3Risk : Bool
  overPower : Option Nat
  over105 : Option Nat
  last3 : Option Nat
  over115 : Option Nat
  over120 : Option Nat
  under95 : Option Nat
  bgRun : List Nat
  bgUsed : Nat
  bgWait : Tab Nat
  bgDefer : Tab Nat
  overBound : Bool
  railMin : Option Nat
  rule : Nat
  hotSteps : Nat
  dips : Nat
  changes : Nat
deriving DecidableEq, Repr, Inhabited

/-- Contacts and power of the module (R476, R490): `sense` while PRES_SENSE is closed, `powered`
while the main path is on, `inReset` while it is held in reset, `recover` as RECOVER_N was sampled,
`identity` whether a valid IDENTITY frame has arrived, `porAt` the release of power-on reset. -/
structure ConS where
  sense : Bool
  powered : Bool
  inReset : Bool
  recover : Bool
  identity : Bool
  porAt : Nat
  ejectPending : Bool
  ejectRetire : Bool
deriving DecidableEq, Repr, Inhabited

end Sys2Proof
end

