-- ==== Sys2Proof/BlocksC.lean ====
section
/-! DEFINITION. State of the field I/O: arrivals on their way to a commit (R16), CAN ports (chapter 12), analog loop
channels (11), and trip I/O (10). -/

namespace Sys2Proof

/-- A value on its way to the next commit (R16): its point, the instant its arrival completed, the
instant AGE counts from where it has one (R65), the QUAL it carries, and the producer's FORCED (R266). -/
structure Arr where
  addr : Nat
  at_ : Nat
  value : DWord
  born : Option Nat
  qual : Nat
  forced : Bool
deriving DecidableEq, Repr, Inhabited

/-- An entry of a CAN transmit FIFO (R315); `begun` says that its transmission has begun before, so that it is sent. -/
structure CanEntry where
  id : Nat
  ide : Bool
  fdf : Bool
  brs : Bool
  data : List Byte
  at_ : Nat
  begun : Bool
deriving DecidableEq, Repr, Inhabited

/-- One CAN port. `sending` says that the head entry's transmission has begun; `sleepAfter` that the
port sleeps when the frame in transmission ends, `wakeAfter` that a wake waits for that; `held` since
when a failed loopback check or a dominant time-out holds it in restricted operation; `badObjs` the
receive objects whose points are BAD_NO_COMM until their next frame (R319); `counts` the publications
seen by each transmit object; `readmit` that a READMIT waits for recessive bits (Table 17.5). -/
structure CanPortS where
  fifo : List CanEntry
  sending : Bool
  sleep : Bool
  sleepAfter : Bool
  wakeAfter : Option (Option CanFrame)
  sleepReq : Bool
  woke : Bool
  wakeCause : Bool
  err : Nat
  tec : Nat
  recv : Nat
  held : Option Nat
  stuck : Bool
  badObjs : List Nat
  counts : List Nat
  readmit : Bool
  sent : Nat
  dropped : Nat
  received : Nat
  unmatched : Nat
deriving DecidableEq, Repr, Inhabited

/-- CAN block state; `regs` holds the registers as the last commit left them (R327); `pubExec` that the last
publication was an executing cycle's, which triggers objects (R37, R321). -/
structure CanS where
  par : List CanParam
  ports : List CanPortS
  lastSub : Nat
  lastCode : Nat
  faults : Nat
  regs : List (Nat × Nat)
  pubExec : Bool
deriving DecidableEq, Repr, Inhabited

/-- What a channel's HART transaction is: identification with command 0, a poll entry, or a
pass-through of the host (R306). -/
inductive HartJob where
  | identify
  | poll (k : Nat)
  | pass (c : Call) (era cmd : Nat) (data : List Byte)
deriving DecidableEq, Repr, Inhabited

/-- One analog channel (chapter 11), currents in nA. `cmd` is the setpoint of the last publication,
`set` the one in force in the front end; `faults` holds the active faults of Table 11.3 with the
instant each began; `job` is the HART transaction in progress with its start and its retries,
`passQ` pass-throughs that wait, `badPts` HART points left BAD_NO_COMM, `ilePrev` what the channel read as a source
of the interlocking engine before its last conversion (R13), `safe` the AL_SAFE that the front end holds (R302). -/
structure AlChS where
  en : Bool
  cmd : Nat
  set : Nat
  clamped : Bool
  clamps : Nat
  atSafe : Bool
  silent : Bool
  lastRefresh : Nat
  i : Int
  raw : Int
  v : Int
  lastConv : Nat
  limit : Bool
  compl : Option Nat
  complNoted : Bool
  readback : Option Nat
  faults : List (Nat × Nat)
  clk : Nat
  convs : List (Nat × Int)
  fit : Option Nat
  known : Bool
  job : Option (HartJob × Nat × Nat)
  nextPoll : Nat
  passQ : List HartJob
  badPts : List Nat
  unassigned : Bool
  ilePrev : Reading
  safe : Nat
deriving DecidableEq, Repr, Inhabited

/-- ALP block state; `ramp` is the handover ramp in progress: true on the module taking ACTIVE, and its start. -/
structure AlpS where
  par : List AlParam
  ch : List AlChS
  ramp : Option (Bool × Nat)
  transactions : Nat
  errors : Nat
  suppressed : Nat
  lastSub : Nat
  lastCode : Nat
  count : Nat
  regs : List (Nat × Nat)
deriving DecidableEq, Repr, Inhabited

/-- A trip input (chapter 10). `cls` is the class of the last sample that was no test sample: 0 none,
1 WIRE_BREAK, 2 BAND, 3 OFF, 4 ON; `run` counts ON samples in a row, `wb` WIRE_BREAK samples; `pend` a
source whose second check awaits the next sample; `fails` and `passes` count checks in a row per source;
`cross` the sources with a CROSS_SHORT; on an even input `discSince` and `disc` are the pair's. -/
structure TiS where
  cls : Nat
  run : Nat
  val : Bool
  wb : Nat
  wbBad : Bool
  pend : Option (Nat × Bool)
  fails : Tab Nat
  passes : Tab Nat
  cross : List Nat
  sinkFault : Option Nat
  discSince : Option Nat
  disc : Bool
  rise : Option Nat
  goodAll : Bool
deriving DecidableEq, Repr, Inhabited

/-- A test pulse source: line checks failed since the last pulse, and failed or passed pulses in a row. -/
structure TpS where
  bad : Bool
  fails : Nat
  passes : Nat
  fault : Bool
deriving DecidableEq, Repr, Inhabited

/-- A trip output. `faults` holds latched codes with the instant each began; `breach` since when a
READBACK breach, `ovr` a current above 0.65 A, `live` one of 2 mA or more, and `heldUp` Q+ held up with no
partner, have lasted; `dark` is the dark test running: high side, its start, and the output's current before it;
`lastHigh` and `lastLow` are the starts of the last high-side and low-side tests (R279). -/
structure TqS where
  on : Bool
  cmd : Bool
  il : Bool
  ilAt : Option Nat
  faults : List (Nat × Nat)
  openLoad : Bool
  breach : Option Nat
  ovr : Option Nat
  live : Option Nat
  heldUp : Option Nat
  dark : Option (Bool × Nat × Nat)
  nextLow : Bool
  lastHigh : Option Nat
  lastLow : Option Nat
  current : Int
  qUp : Bool
deriving DecidableEq, Repr, Inhabited

/-- A field supply group: reading in mV, level 0 OK to 3 OFF, since when the reading has been below and
at or above each threshold of Table 10.5, the group current in µA, and `rising` after OFF until WARN. -/
structure FsS where
  mv : Nat
  level : Nat
  below : List (Option Nat)
  above : List (Option Nat)
  current : Int
  ovr : Option Nat
  rising : Bool
deriving DecidableEq, Repr, Inhabited

/-- TIO block state. `section_` is the 256-byte parameter section in use, empty before one is loaded; `perms` the
bound permissives of the last refresh per output; `overlap` the end of a handover overlap; `quiet` the end of the
suspension of test pulses and dark tests (R291); `lastDark` the start of the last dark test; `ileAt` the last sample
window's end, `ilePrev` what the inputs read before it for the interlocking engine (R13); `win` is the number of the
last sample window that was taken (R271). -/
structure TioS where
  section_ : List Byte
  ccvOk : Bool
  ti : List TiS
  tp : List TpS
  tq : List TqS
  fs : List FsS
  perms : List (Option Bool)
  drive : Bool
  lastRefresh : Nat
  refreshSeq : Nat
  silent : Bool
  overlap : Option Nat
  quiet : Nat
  lastDark : Option Nat
  resets : Nat
  rejected : Nat
  lastSub : Nat
  lastCode : Nat
  count : Nat
  regs : List (Nat × Nat)
  ileAt : Nat
  ilePrev : List Reading
  win : Option Nat
deriving DecidableEq, Repr, Inhabited

end Sys2Proof
end

