-- ==== Sys2Proof/BlocksD.lean ====
section
/-! DEFINITION. State of the program cycle (chapter 3), of generations and online change (4), and what
the stores keep of them. -/

namespace Sys2Proof

/-- Where a program cycle stands: waiting for T_commit, or in phase 2, 3, 5 or 6 of Table 3.1. Phases 1
and 4 take no time of their own in the model. -/
inductive CycPhase where
  | boundary | agree | execute | sig | house
deriving DecidableEq, Repr, Inhabited

/-- What the store of a point holds besides its image entry: the newest value, when its arrival
completed, the instant AGE counts from, its QUAL, whether any has arrived since BOOT or the assignment,
whether the source has lost it (R186, R190), and the producer's FORCED. -/
structure RawPt where
  value : DWord
  at_ : Nat
  born : Option Nat
  qual : Nat
  got : Bool
  lost : Bool
  forced : Bool
deriving DecidableEq, Repr, Inhabited

/-- A generation with the confirmation of its CCV (R289). -/
structure Stored where
  g : Gen
  ccv : Bool
deriving DecidableEq, Repr, Inhabited

/-- Effects that wait for a boundary. `unit` is a READMIT of a unit whose test has passed,
`unitWait` one that awaits the tests of units, with the lane mask of a READMIT of lanes. -/
inductive Pend where
  | start | hold | stop | handover
  | unit (u : UnitId)
  | unitWait (us : List UnitId) (mask : Nat)
  | bstMode (compat : Bool)
  | fwAck
  | stage (g : Gen)
  | switch (cycle : Nat)
  | confirm (gen : Nat)
  | revert (gen : Nat)
  | discard (gen : Nat)
  | force (addr ty : Nat) (value : DWord)
  | forceClear (addr : Nat)
  | forceTable (version : Nat) (forces : List Force)
  | ccv (ccv gen : Nat)
  | key (k : KeyRec)
  | pairSwitch
  | pairRevert (cause : Nat)
  | pairCancel (cause : Nat)
deriving DecidableEq, Repr, Inhabited

/-- A command that waits: its host call with the era it was accepted in, its opcode and request code, the
later of doorbell and acceptance, its effect, and the boundary it names when the active relayed it. -/
structure PendCmd where
  call : Option Call
  era : Nat
  op : Nat
  req : Nat
  db : Nat
  body : Pend
  at_ : Option Nat
deriving DecidableEq, Repr, Inhabited

/-- Program cycle state (chapter 3). `img` and `outImg` are the images, `base` the output image without
forces (R37), `prevOut` the publication before the last (R17). `houseEnd` is the end of housekeeping, `readyAt` that
of the steps of R103 after it (R61), `gapNs` the time that tier changes have added to the present gap (R383). `rec91` holds the fields of the cycle status
record of the last T_commit (R91). -/
structure CycS where
  cycle : Nat
  par : CycleParams
  inbox : List Arr
  phase : CycPhase
  tc : Nat
  executing : Bool
  img : Tab Entry
  raw : Tab RawPt
  base : Tab Entry
  outImg : Tab Entry
  prevOut : Tab Entry
  pubAt : Nat
  pubGen : Nat
  prevPubGen : Nat
  forces : List Force
  forceVer : Nat
  snap : List Force
  snapVer : Nat
  attempt : Nat
  retried : Bool
  cellFails : Tab Nat
  mySig : Option (Nat × Nat)
  partnerSig : Option (Nat × Nat)
  sigEqual : Bool
  changeDigest : Nat
  asked : List Nat
  fetched : Nat
  vars : Tab VVal
  lag : List Nat
  pend : List PendCmd
  houseEnd : Nat
  readyAt : Nat
  minDone : Bool
  gapNs : Nat
  rec91 : List Nat
  cycleMax : Nat
  rollbacks : Nat
  wdtExpiries : Nat
  sigMissed : Nat
  holdNext : Bool
  compatOk : Bool
deriving DecidableEq, Repr, Inhabited

/-- A staging in progress (R97, R98): the command, the generation, the outcome of the module's own
checks and of the partner's, and the kinds of background work of which a unit has been done for it (R99). -/
structure StageJob where
  call : Option Call
  era : Nat
  op : Nat
  box : Container
  own : Option (Option Status)
  partner : Option Bool
  units : List Nat
deriving DecidableEq, Repr, Inhabited

/-- Online change state (chapter 4). `before` is the change state before staging, `mig` the switch or
revert in progress: its start, whether it is a revert, and its cause; `firstDue` that the first T_commit
under the generation is still to come, and `oldMap` the I/O map before it, for the force commands of that commit (R114); `older` the generation previous to
the previous one while a trial runs. -/
structure ChgS where
  loaded : Bool
  cur : Gen
  curCcv : Bool
  prev : Option Stored
  older : Option Stored
  staged : Option Stored
  genHigh : Nat
  before : ChangeState
  job : Option StageJob
  switchAt : Option Nat
  firstDue : Bool
  oldMap : List Point
  mig : Option (Nat × Bool × Nat)
  trialEnd : Nat
  migEst : Nat
  migLast : Nat
  carriedN : Nat
  resetN : Nat
  droppedN : Nat
  forcesDropped : Nat
  lastCancel : Nat
  lastRevert : Nat
  record : List Nat
deriving DecidableEq, Repr, Inhabited

/-- A NAND checkpoint of the retained variables (R25): its number, whether it reads valid, and the generation
whose layout it has. -/
structure Ckpt where
  seq : Nat
  valid : Bool
  gen : Nat
  vars : List (Nat × VVal)
deriving DecidableEq, Repr, Inhabited

/-- A record of the MRAM journal (R25): the 4 KiB granules of one cycle, with the retained variables of them that
the cycle changed and the generation whose layout they have. -/
structure JRec where
  granules : Nat
  gen : Nat
  vars : List (Nat × VVal)
deriving DecidableEq, Repr, Inhabited

/-- What NAND and MRAM keep of generations, retained variables (two checkpoints and the journal since the newer,
R25) and the blocked set. -/
structure NvB where
  cur : Option Stored
  prev : Option Stored
  older : Option Stored
  genHigh : Nat
  trial : Bool
  wasConfirmed : Bool
  ckA : Ckpt
  ckB : Ckpt
  records : List JRec
  blocked : List Nat
deriving DecidableEq, Repr, Inhabited

/-- Clover snapshot state (R229 to R233): entries latched on the module (source, counter, value and latch time, 0
when MISSING), on completion those of the stations (station, position, latch time and value), the times, and the
values that the transmit buffer holds for CLV_T and CLV_ID (R232). -/
structure ClvS where
  st : Nat
  id : Nat
  at_ : Nat
  doneGt : Nat
  latched : List (Nat × Nat × Nat × Nat)
  stations : List (Nat × Nat × Nat × Nat)
  sending : Bool
  txT : Nat
  txId : Nat
deriving DecidableEq, Repr, Inhabited

/-- Global time unit state (chapter 8). Deviations are in ns; `aCorr` in 1/8 ns; `rate` in 10^-12, `rateNext` a
value that applies from the next double cycle (R221). `slewLeft` is a correction being spread, in 2^-32 ns, with its
ticks left; `station` is what is left of a station error, in the same unit. `stmSince` is when the module became
station time master (R264), `todAt` when the last time-of-day message came (R224). -/
structure TimS where
  cfg : Word
  armed : Bool
  rate : Int
  rateNext : Option Int
  slewLeft : Int
  slewTicks : Nat
  devs : List (Nat × Chan × Int)
  prevDevs : List (Nat × Int)
  prevA : Int
  aCorr : Int
  spread : Nat
  nVals : Nat
  kVals : Nat
  split : Nat
  steering : Bool
  oob : Bool
  oobRun : Nat
  losses : Nat
  epochSrc : Nat
  valid : Bool
  latch : Nat
  stm : Bool
  stmPair : Option Nat
  stmSince : Nat
  lastTime : Option Nat
  hold : Bool
  err : Int
  lastErr : Option (Nat × Int)
  station : Int
  within : Option Nat
  tod : Option (Nat × Nat)
  todAt : Option Nat
  bootEnd : Option Nat
  clv : ClvS
deriving DecidableEq, Repr, Inhabited

end Sys2Proof
end

