-- ==== Sys2Proof/BlocksE.lean ====
section
/-! DEFINITION. State of the Oxuger network (chapter 7), the interlocking engine (5, 6) and the pair and
stack (9). -/

namespace Sys2Proof

/-- A valid sync frame of the cycle in progress: sender, channel, and the payload fields of Table 7.6
that decisions need. -/
structure SyncSeen where
  node : Nat
  chan : Chan
  vote : Nat
  srcState : Nat
  planNext : Plan
  planAt : Nat
  schedNext : Nat
  schedAt : Nat
  probe : Bool
deriving DecidableEq, Repr, Inhabited

/-- An accepted VIEW frame of the cycle in progress (R193). -/
structure ViewSeen where
  judge : Nat
  v0 : Nat
  v1 : Nat
  jflags : Nat
deriving DecidableEq, Repr, Inhabited

/-- A consumed safety connection (R189, R190): cycle of the last accepted frame, its data and flags, and
whether the data are invalid. -/
structure ConnS where
  conn : Nat
  last : Option Nat
  data : List Byte
  flags : Nat
  invalid : Bool
deriving DecidableEq, Repr, Inhabited

/-- One channel as the module holds it (R196, R200): LCRC failures and lost alignment in the cycle,
cycles in a row without any sync frame, loss in the last cycle, the counts of Table 7.18, and an
observation for READMIT: its start and its run of good cycles; `heard` a valid frame of another sync node
in the cycle. -/
structure ChanS where
  lcrcNow : Nat
  deadRun : Nat
  loss : Bool
  faultCycles : Nat
  lcrc : Nat
  observe : Option (Nat × Nat)
  heard : Bool
deriving DecidableEq, Repr, Inhabited

/-- What a frame of a cycle is checked against (R183): the cycle's number and start, the plan and the generation whose
schedule runs, and whether the network state is SYNCED or NARROW. -/
structure RxCtx where
  n : Nat
  cn : Nat
  plan : Plan
  run : Option Gen
  up : Bool
deriving DecidableEq, Repr, Inhabited

/-- Oxuger protocol engine state (chapter 7). `lastCtx` is what frames of the last cycle were checked against,
`lead` the first cycle of a leadership to come (R204), `sent` the slots of the cycle in which the module has sent,
`arbTx` the ARB bit of the cycle's sync frames (R242). `run` is the generation whose schedule runs, `mayDrive`
whether R179 held at C_n, `announce` a generation whose switch awaits the next C_n (R105); `hearNow` and
`predOk` note a frame within ±1 µs and ±2 µs of prediction in the cycle (R205, R206); `netNext` a network
state to take at the next cycle boundary. -/
structure OxnS where
  n : Nat
  cn : Nat
  lastCtx : RxCtx
  plan : Plan
  planNext : Option (Plan × Nat)
  run : Option Gen
  mayDrive : Bool
  schedNext : Option (Nat × Nat)
  announce : Option Nat
  chA : ChanS
  chB : ChanS
  syncs : List SyncSeen
  lastSyncs : List SyncSeen
  views : List ViewSeen
  lastViews : List ViewSeen
  judged : Bool
  noSync : Nat
  listenAt : Nat
  leadCycles : Nat
  leadRun : Nat
  intRun : Nat
  intFails : Nat
  leader : Nat
  coldstarts : Nat
  hearNow : Bool
  predOk : Bool
  conns : List ConnS
  rejected : Nat
  timedOut : Nat
  txImg : Tab Entry
  txGen : Nat
  netNext : Option NetState
  lead : Option Nat
  sent : List (Chan × Nat)
  arbTx : Bool
  regs : List (Nat × Nat)
deriving DecidableEq, Repr, Inhabited

/-- What an accepted boundary frame says (Table 6.8): GT_VOTE, FIRST and the elements. -/
structure BndFrame where
  gtVote : Nat
  first : Nat
  states : List (Bool × Bool)
deriving DecidableEq, Repr, Inhabited

/-- Incoming boundary elements of one producing pair (R170): last accepted SEQ, the accepted frames that BND_TIMEOUT
still covers, oldest first, and whether the elements are invalid. -/
structure BndS where
  pair : Nat
  seq : Option Nat
  frames : List BndFrame
  invalid : Bool
deriving DecidableEq, Repr, Inhabited

/-- An operator command that waits for its cycle of effect (R144); `void` that it was accepted as EMERG_RELEASE while
the ILE state was WITHDRAWN (R146). -/
structure IleOp where
  call : Option Call
  era : Nat
  cmd : Nat
  body : OpBody
  cycle : Nat
  void : Bool
  relayed : Bool
deriving DecidableEq, Repr, Inhabited

/-- A lane's own lane set (R150): its copies of the table in use, of the table whose definitions carried paths keep,
and of a staged table (R117), its model state with the permissive vector it gives, its reading vector, and the state
of its safety-layer checks (R154, R170); `events` and `done` are the codes and the results of operator commands that its
evaluation gives, until an update takes them (R504); `build` the lane's own firmware (R150). -/
structure LaneSet where
  table : Option IleTable
  old : Option IleTable
  next : Option IleTable
  dyn : IleDyn
  vec : List Bool
  rd : List (Ref × Reading)
  conns : List ConnS
  bnd : List BndS
  events : List (Nat × Nat)
  done : List (IleOp × Status)
  build : List Byte
deriving DecidableEq, Repr, Inhabited

/-- One ILE lane (chapter 6). `reseed` is 0 none, 1 table phase, 2 waiting for the state copy, 3 trial
cycle; `pres` its presentation in the cycle; `joining` that the ILE
state counts it only once the lanes have been seeded (R165); `sweep` the table digests of its last sweep slice, `fwSum` the
slice and the digest of its build in that sweep, `built` the digests of the build's slices as recorded at boot (R167),
and `disNow` that it has had a disagreement in the cycle (R159). -/
structure LaneS where
  admitted : Bool
  voting : Bool
  odd : Bool
  reseed : Nat
  pres : Option LaneFault
  late : Bool
  reseeds : Nat
  disagree : Nat
  joining : Bool
  sweep : List Nat
  built : List Nat
  fwSum : Option (Nat × Nat)
  disNow : Bool
  set : LaneSet
deriving DecidableEq, Repr, Inhabited

/-- ILE state (chapters 5 and 6). `table` and `old` are the table in use and that whose definitions carried paths
keep, `dyn` and `vec` the outcome of the last evaluation as the voter takes it, `granted` the vector the voter drives;
`driven` what each destination of a permissive gets from the last update, at `drivenAt`, and `drivenOld` what it got
before (R19, R188); `evald` whether this cycle was evaluated; `noAgree` whether some source had no agreed
reading; `rxNow` and `bndNow` the safety and boundary frames received in the cycle, `rx` those of the snapshot;
`adopt` dynamic state to take at the next cycle boundary, with the last cycle whose operator commands it reflects;
`stateAsked` that a partner in WITHDRAWN waits for the module's; `upDyn`, `upOld`, `upAt` and `upVec` what the last
update outside a withdrawal voted, which the status points show; `hold` the end of COLD_HOLD; `carriedThere` that the
partner carries paths, and `carriedTold` what it was last told of the module's (R118); `readmits` the lanes that a READMIT has brought back whose change of the ILE state is still
to come, with whether each was retired before (R39). -/
structure IleS where
  n : Nat
  cn : Nat
  table : Option IleTable
  old : Option IleTable
  dyn : IleDyn
  vec : List Bool
  granted : List Bool
  driven : List (Ref × Bool)
  drivenOld : List (Ref × Bool)
  drivenAt : Nat
  lanes : List LaneS
  latch : Bool
  evald : Bool
  noAgree : Bool
  rxNow : List RxFrame
  rx : List RxFrame
  bndNow : List (Nat × List Byte)
  snap : Option SnapMsg
  pairStep : Bool
  adopt : Option (IleDyn × Option IleTable × Nat)
  stateAsked : Bool
  hold : Option Nat
  holdPending : Bool
  ops : List IleOp
  doneOps : List (IleOp × Status)
  finished : List (IleOp × Status)
  reqs : Tab Nat
  bnd : List BndS
  bndReg : Nat
  mismatches : List Nat
  digest : Nat
  stNext : Option IleState
  lastLane : Nat
  lastKind : Nat
  latest : Nat
  upDyn : IleDyn
  upOld : Option IleTable
  upAt : Nat
  upVec : List Bool
  upN : Nat
  events : List (Nat × Nat)
  withdrawnNow : Bool
  carriedThere : Bool
  carriedTold : Bool
  readmits : List (Lane × Bool)
  regs : List (Nat × Nat)
deriving DecidableEq, Repr, Inhabited

/-- One Plovlink port: trained lanes, discards in all and the instants of those of the last 1 ms, and a READMIT in
progress. -/
structure PortS where
  lanes : Nat
  discards : Nat
  recent : List Nat
  readmit : Option Nat
deriving DecidableEq, Repr, Inhabited

/-- A beacon received or sent (Table 9.7). -/
structure BeaconS where
  pair : Nat
  at_ : Nat
  elig : Bool
  held : Bool
  timeValid : Bool
deriving DecidableEq, Repr, Inhabited

/-- Pair and stack state (chapter 9). `tH` is the GT_SEND of the partner's last counted heartbeat, `arbTh` that of the
silence that an arbitration is about (R244), `hbSent` the module's own last heartbeat; `won` whether the last
arbitration decided against the partner; `waitSolo` outcome 2 or an end without quorum, after which R250 applies, and
`silenceDone` that an arbitration has ended since the partner was last heard; `partnerStaged` the number and digest of
the generation that the partner reports staged; `agreeWait` a phase 2 message that came before the module reached its
boundary; `hop` the delay measured on each ring port (R225). -/
structure PlvS where
  ports : List PortS
  authOk : Bool
  authFail : Bool
  nonce : Nat
  seqs : Tab Nat
  hbSeq : Nat
  lastHb : Option Nat
  tH : Nat
  arbTh : Nat
  hbSent : Option Nat
  silenceDone : Bool
  partnerGen : Nat
  partnerGenHigh : Nat
  partnerFw : Nat
  partnerXfer : Nat
  partnerXferMin : Nat
  silent : Bool
  mute : Bool
  missed : Nat
  silences : Nat
  arbCause : Nat
  arbOutcome : Nat
  arbCount : Nat
  arbTd : Nat
  views : Nat
  against0 : Nat
  against1 : Nat
  won : Bool
  waitSolo : Bool
  soloNext : Bool
  handoverAt : Option (Option Call × Nat)
  step : Nat
  source : Bool
  failed : Nat
  passes : Nat
  dirtyMib : Nat
  sentVars : Tab VVal
  stepStart : Nat
  attemptStart : Nat
  got : List Nat
  forwarded : List (Nat × Nat × Nat × Nat)
  reached : Tab Nat
  beacons : List BeaconS
  ringLost : List Nat
  sigCycle : Tab (Nat × Nat)
  failovers : Nat
  handovers : Nat
  pairWait : Option Nat
  tierAt : Option (Nat × Nat)
  leaving : Bool
  partnerStaged : Option (Nat × Nat)
  agreeWait : Option AgreeMsg
  hop : Tab Nat
deriving DecidableEq, Repr, Inhabited

end Sys2Proof
end

