-- ==== Sys2Proof/Machine/State.lean ====
section
/-! DEFINITION. The module's state as plain data, its reset, and the reasons a step can stop. -/

namespace Sys2Proof.Machine

/-- Why a command can stop the machine with a fault. No rule of the manual stops the module's model:
every condition it calls a fault (chapter 17) is an effect on State. No command raises one. -/
inductive Fault where
deriving DecidableEq, Repr

/-- Why a command has no meaning. -/
inductive Refusal where
  /-- Raised by a Dispatch arm whose command has no meaning yet; safe, nothing happens. -/
  | notModelled (mnemonic : String)
deriving DecidableEq, Repr

/-- The whole state of the module. `gt` is the D11 count (R210) in ns with `gtFrac` its fraction;
`nva` is what MRAM, NAND and fuses keep; `out` is the model's record of what left the module; `free`
indexes free values; `pending` is the queue of commands. -/
structure State where
  gt : Nat
  gtFrac : Nat
  clvPre : Option (List (Nat × Nat × Nat))
  nva : NvA
  mod : ModS
  hxp : HxpS
  evr : EvrS
  flt : FltS
  bst : BstS
  fwu : FwuS
  gate : GateS
  clk : ClkS
  hl : HlS
  con : ConS
  cyc : CycS
  chg : ChgS
  nvb : NvB
  tim : TimS
  oxn : OxnS
  ile : IleS
  plv : PlvS
  tio : TioS
  can : CanS
  alp : AlpS
  mem : List Host.Cell
  out : List Out
  free : Nat
  pending : List Instr
deriving DecidableEq, Repr

/-- MOD_STATE 0x0000_0800 (Table 2.13). -/
def tupleReset : ModeTuple :=
  ⟨.solo, .boot, .none, false, .withdrawn, .listen, .t0, .confirmed, .native⟩

/-- Table 2.9; the serial and straps come with the release of power-on reset (log entry 6). -/
def modReset : ModS where
  variantX := false
  serial := 0
  slot := 0
  stmElig := false
  tup := tupleReset
  partner := tupleReset
  reported := tupleReset
  present := false
  valid := false
  arb := false
  scanRisk := false
  adopted := false
  ejector := false
  retireCause := .none
  refReq := 0
  refReason := 0
  refCount := 0
  transCount := 0

/-- A command ring at reset: HEAD 0, CPLQn_TAIL 0x1000 (Table 13.14). -/
def ringReset : RingS where
  cmdLo := 0
  cmdHi := 0
  cplLo := 0
  cplHi := 0
  cfg := 0
  head := 0
  tail := 0
  times := []
  cplTail := 0
  out := 0
  phase := true
  halted := false
  busy := false
  queue := []

/-- The event ring at reset: HXP_EVQ_TAIL 0x1000. -/
def evqReset : EvqS := ⟨0, 0, 0, 0, 0, true, false⟩

/-- The MSI-X table at reset: every vector masked, as PCI Express has it (log entry 154). -/
def msixReset : List Word := (List.replicate 16 [(0 : Word), 0, 0, 1]).flatten

/-- The endpoint's PCI Express state at reset, with the link down (log entry 154). -/
def pcieReset : PcieS := ⟨0, 0, false, false, 0, 2, [0, 0x00400000, 0x00462030, 0, 0x0000E000]⟩

/-- Table 13.14. -/
def hxpReset : HxpS where
  armed := false
  disarming := false
  cfg := 0xF0
  rings := List.replicate 8 ringReset
  evq := evqReset
  errRing := 0
  errEvq := false
  errCode := 0
  errIndex := 0
  lostEvents := 0
  lostPending := 0
  grantsRefused := 0
  events := []
  vecs := []
  msixTab := msixReset
  pba := []
  slots := []
  cursors := []
  era := 0
  rr := 0
  pcie := pcieReset
  linkUp := false
  perst := false
  trained := false

/-- Table 19.5. -/
def evrReset : EvrS := ⟨[], [], false, false, false, 0, 0, 0, 0, 0⟩

/-- Table 17.7. -/
def fltReset : FltS := ⟨false, 0, 0, 0, 0, 0, 0, 0, 0, 0, 0, 0, [], 0, [], false, [], 0, 0⟩

/-- Table 18.4. -/
def bstReset : BstS where
  cfg := 0x18
  armed := false
  bootDone := false
  late := false
  running := none
  compatRun := false
  startedAt := 0
  done := [0, 0, 0, 0, 0, 0]
  roundStart := 0
  rounds := 0
  roundS := 0
  passed := 0
  failed := 0
  flags := 0
  lastSrc := 0
  lastKind := 0
  slices := 0
  fails := 0
  timeouts := 0
  awaited := []
  laneTest := (0, 0)

/-- Table 20.8. -/
def fwuReset : FwuS where
  speedwell := false
  runSlot := 0
  run := none
  hashing := false
  bootStep := 0
  bootStart := 0
  hdrOk := false
  cause := .none
  auto := false
  bstOk := false
  trialEnd := 0
  netSince := none
  bootMs := 0
  speedGrant := none
  speedUsed := false
  speedTotal := 0
  resetAt := none
  windowFall := false
  ownTrial := false

/-- A gate at reset: unarmed (R356). -/
def gateReset1 : Gate := ⟨false, false, false, [], [], none, 0, 0, none⟩

/-- Table 14.7. -/
def gateReset : GateS := ⟨List.replicate 16 gateReset1, [], 0, 0, false⟩

/-- A source that is off. -/
def srcReset : SrcS := ⟨0, 0, false, 0, 0, [], false⟩

/-- Table 15.8. -/
def clkReset : ClkS where
  on := false
  xa := srcReset
  xb := srcReset
  xbSettle := none
  plls := List.replicate 7 ⟨0, false, false⟩
  domFirc := 0xB87F
  d0Pll1 := false
  vco := 0
  gapFrom := none
  gated := 0x1FF
  forced := 0
  forcedLast := 0x1F
  quTimeouts := 0
  quLast := 0xF
  losses := 0
  xaDev := 0
  xbDev := 0
  monSel := 0x1F
  monDiv := 0
  switching := []
  quiesce := []
  held := []

/-- Table 16.7; the allowance is 28 W until the first message (R390). -/
def hlReset : HlS where
  cfg := 0x1F4
  armed := false
  va := 0
  vb := 0
  vaOk := false
  vbOk := false
  allow := 280
  msgs := 0
  lastMsg := 0
  allowLow := false
  stale := false
  hot := false
  t3Held := false
  pfw := none
  charged := false
  want := 0
  partnerWant := 0
  lastChange := 0
  nMax := 0
  pMax := 0
  wMax := 0
  cycles := 0
  samples := []
  pIn := 0
  pPeak := 0
  tDie := 0
  hottest := 0
  inlet := 0
  inletMax := none
  near := false
  allowRisk := false
  t3Risk := false
  overPower := none
  over105 := none
  last3 := none
  over115 := none
  over120 := none
  under95 := none
  bgRun := []
  bgUsed := 0
  bgWait := []
  bgDefer := []
  overBound := false
  railMin := none
  rule := 0
  hotSteps := 0
  dips := 0
  changes := 0

/-- Contacts before insertion. -/
def conReset : ConS := ⟨false, false, true, false, false, 0, false, false⟩

/-- Default cycle parameters (Tables 3.4, 6.2, 17.3). -/
def paramsDefault : CycleParams :=
  ⟨0, 100000000, 500000, 50, 32, 6200000, 32, 32, 32, 32⟩

/-- The program cycle at reset. -/
def cycReset : CycS where
  cycle := 0
  par := paramsDefault
  inbox := []
  phase := .boundary
  tc := 0
  executing := false
  img := []
  raw := []
  base := []
  outImg := []
  prevOut := []
  pubAt := 0
  pubGen := 0
  prevPubGen := 0
  forces := []
  forceVer := 0
  snap := []
  snapVer := 0
  attempt := 0
  retried := false
  cellFails := []
  mySig := none
  partnerSig := none
  sigEqual := false
  changeDigest := 0
  asked := []
  fetched := 0
  vars := []
  lag := []
  pend := []
  houseEnd := 0
  readyAt := 0
  minDone := true
  gapNs := 0
  rec91 := List.replicate 14 0
  cycleMax := 0
  rollbacks := 0
  wdtExpiries := 0
  sigMissed := 0
  holdNext := false
  compatOk := false

/-- MOD_CFG 0x0000_0A02 until a generation is loaded (Table 2.15). -/
def modCfgDefault : ModCfg := ⟨false, true, 10⟩

/-- An empty schedule section. -/
def schedNone : Sched := ⟨0, 0, false, true, 0, 0, 0, 0, 0, 0, 0, [], [], []⟩

/-- An empty interlocking table. -/
def tableNone : IleTable :=
  ⟨0, 0, 0, 0, 0, 0, 0, 0, 0, 0, 0, 0, 0, true, true, true, [], [], [], []⟩

/-- No generation: number 0, nothing assigned. -/
def genNone : Gen where
  num := 0
  offline := false
  trialS := 60
  codeBytes := 0
  varBytes := 0
  retainBytes := 0
  storeBytes := 0
  codeId := 0
  vars := []
  points := []
  params := paramsDefault
  modCfg := modCfgDefault
  sched := schedNone
  narrow := schedNone
  packs := []
  conns := []
  delays := []
  ile := tableNone
  gates := []
  tio := []
  alp := []
  can := []
  signals := []
  digest := 0

/-- No generation loaded. -/
def chgReset : ChgS where
  loaded := false
  cur := genNone
  curCcv := false
  prev := none
  older := none
  staged := none
  genHigh := 0
  before := .none
  job := none
  switchAt := none
  firstDue := false
  oldMap := []
  mig := none
  trialEnd := 0
  migEst := 0
  migLast := 0
  carriedN := 0
  resetN := 0
  droppedN := 0
  forcesDropped := 0
  lastCancel := 0
  lastRevert := 0
  record := List.replicate 16 0

/-- A checkpoint never written. -/
def ckptReset : Ckpt := ⟨0, false, 0, []⟩

/-- Empty stores (log entry 6). -/
def nvbReset : NvB := ⟨none, none, none, 0, false, false, ckptReset, ckptReset, [], []⟩

/-- No snapshot. -/
def clvReset : ClvS := ⟨0, 0, 0, 0, [], [], false, 0, 0⟩

/-- Table 8.7; GT is 0 at power-on (R212). -/
def timReset : TimS where
  cfg := 0xA01
  armed := false
  rate := 0
  rateNext := none
  slewLeft := 0
  slewTicks := 0
  devs := []
  prevDevs := []
  prevA := 0
  aCorr := 0
  spread := 0
  nVals := 0
  kVals := 0
  split := 0
  steering := false
  oob := false
  oobRun := 0
  losses := 0
  epochSrc := 0
  valid := false
  latch := 0
  stm := false
  stmPair := none
  stmSince := 0
  lastTime := none
  hold := false
  err := 0
  lastErr := none
  station := 0
  within := none
  tod := none
  todAt := none
  bootEnd := none
  clv := clvReset

/-- A channel at reset. -/
def chanReset : ChanS := ⟨0, 0, false, 0, 0, none, false⟩

/-- Table 7.14; OXN_STATUS's NODE comes from the slot. -/
def oxnReset : OxnS where
  n := 0
  cn := 0
  lastCtx := ⟨0, 0, .full, none, false⟩
  plan := .full
  planNext := none
  run := none
  mayDrive := false
  schedNext := none
  announce := none
  chA := chanReset
  chB := chanReset
  syncs := []
  lastSyncs := []
  views := []
  lastViews := []
  judged := false
  noSync := 0
  listenAt := 0
  leadCycles := 0
  leadRun := 0
  intRun := 0
  intFails := 0
  leader := 0
  coldstarts := 0
  hearNow := false
  predOk := false
  conns := []
  rejected := 0
  timedOut := 0
  txImg := []
  txGen := 0
  netNext := none
  lead := none
  sent := []
  arbTx := false
  regs := []

/-- No dynamic state. -/
def dynNone : IleDyn := ⟨[], [], [], [], []⟩

/-- A lane set that holds nothing. -/
def laneSetReset : LaneSet := ⟨none, none, none, dynNone, [], [], [], [], [], [], []⟩

/-- A lane in reset. -/
def laneReset : LaneS := ⟨false, false, false, 0, none, false, 0, 0, false, [], [], none, false, laneSetReset⟩

/-- Table 6.9: ILE_STATUS 4, ILE_LAST_DISAGREE 3. -/
def ileReset : IleS where
  n := 0
  cn := 0
  table := none
  old := none
  dyn := dynNone
  vec := []
  granted := []
  driven := []
  drivenOld := []
  drivenAt := 0
  lanes := [laneReset, laneReset, laneReset]
  latch := true
  evald := false
  noAgree := false
  rxNow := []
  rx := []
  bndNow := []
  snap := none
  pairStep := false
  adopt := none
  stateAsked := false
  hold := none
  holdPending := false
  ops := []
  doneOps := []
  finished := []
  reqs := []
  bnd := []
  bndReg := 0
  mismatches := []
  digest := 0
  stNext := none
  lastLane := 3
  lastKind := 0
  latest := 0
  upDyn := dynNone
  upOld := none
  upVec := []
  upAt := 0
  upN := 0
  events := []
  withdrawnNow := true
  carriedThere := false
  carriedTold := false
  readmits := []
  regs := [(0x00, 4), (0x18, 3)]

/-- A port that is not trained. -/
def portReset : PortS := ⟨0, 0, [], none⟩

/-- Table 9.9. -/
def plvReset : PlvS where
  ports := [portReset, portReset, portReset]
  authOk := false
  authFail := false
  nonce := 0
  seqs := []
  hbSeq := 0
  lastHb := none
  tH := 0
  arbTh := 0
  hbSent := none
  silenceDone := false
  partnerGen := 0
  partnerGenHigh := 0
  partnerFw := 0
  partnerXfer := 0
  partnerXferMin := 0
  silent := false
  mute := false
  missed := 0
  silences := 0
  arbCause := 0
  arbOutcome := 0
  arbCount := 0
  arbTd := 0
  views := 0
  against0 := 0
  against1 := 0
  won := false
  waitSolo := false
  soloNext := false
  handoverAt := none
  step := 0
  source := false
  failed := 0
  passes := 0
  dirtyMib := 0
  sentVars := []
  stepStart := 0
  attemptStart := 0
  got := []
  forwarded := []
  reached := []
  beacons := []
  ringLost := []
  sigCycle := []
  failovers := 0
  handovers := 0
  pairWait := none
  tierAt := none
  leaving := false
  partnerStaged := none
  agreeWait := none
  hop := []

/-- A trip input at reset. -/
def tiReset : TiS := ⟨0, 0, false, 0, false, none, [], [], [], none, none, false, none, false⟩

/-- A test pulse source at reset. -/
def tpReset : TpS := ⟨false, 0, 0, false⟩

/-- A trip output at reset: both switches open. -/
def tqReset : TqS :=
  ⟨false, false, false, none, [], false, none, none, none, none, none, false, none, none, 0, false⟩

/-- A field supply group holds OFF from the start of sampling (R282). -/
def fsReset : FsS := ⟨0, 3, [none, none, none], [none, none, none], 0, none, true⟩

/-- Table 10.7. -/
def tioReset : TioS where
  section_ := []
  ccvOk := false
  ti := List.replicate 24 tiReset
  tp := List.replicate 4 tpReset
  tq := List.replicate 12 tqReset
  fs := List.replicate 2 fsReset
  perms := List.replicate 12 none
  drive := false
  lastRefresh := 0
  refreshSeq := 0
  silent := false
  overlap := none
  quiet := 0
  lastDark := none
  resets := 0
  rejected := 0
  lastSub := 0
  lastCode := 0
  count := 0
  regs := []
  ileAt := 0
  ilePrev := []
  win := none

/-- A channel that is OFF (Table 11.2 defaults). -/
def alParamOff : AlParam := ⟨.off, false, true, 3600000, 20000000, [], 0, 0x42C80000, 57, []⟩

/-- An analog channel at reset: its enable absent (R303). -/
def alChReset : AlChS :=
  ⟨false, 0, 0, false, 0, false, false, 0, 0, 0, 0, 0, false, none, false, none, [], 0, [], none, false, none, 0,
   [], [], false, ⟨0, false⟩, 3600000⟩

/-- Table 11.6. -/
def alpReset : AlpS :=
  ⟨List.replicate 4 alParamOff, List.replicate 4 alChReset, none, 0, 0, 0, 0, 0, 0, []⟩

/-- A CAN port that is not enabled (Table 12.1 defaults). -/
def canParamOff : CanParam :=
  ⟨false, true, [1, 127, 32, 32], [1, 31, 8, 8], true, 32, 64, 0, false, 0, 0, false, 0, 0, 0, [], [], none, none⟩

/-- A CAN port at reset. -/
def canPortReset : CanPortS :=
  ⟨[], false, false, false, none, false, false, false, 0, 0, 0, none, false, [], [], false, 0, 0, 0, 0⟩

/-- CAN registers at reset: CAN_PORTx 3 (Table 12.3). -/
def canReset : CanS :=
  ⟨List.replicate 4 canParamOff, List.replicate 4 canPortReset, 0, 0, 0,
   [(0x10, 3), (0x14, 3), (0x18, 3), (0x1C, 3)], false⟩

/-- A pointer record copy that does not hold (R454). -/
def ptrReset : PtrRec := ⟨0, false, 0, none, .none, false, .none⟩

/-- An empty image slot. -/
def slotReset : ImgSlot := ⟨0, [], none, false, 0, false⟩

/-- MRAM, NAND and fuses of a module with empty stores (log entry 6). -/
def nvaReset : NvA where
  recCur := []
  recHour := []
  recDay := []
  recMon := []
  recSeq := 0
  marks := []
  rollWait := []
  keys := []
  nonces := []
  buckets := []
  retired := []
  remaps := []
  sparesOut := []
  nandOut := []
  ptrA := ptrReset
  ptrB := ptrReset
  slotA := slotReset
  slotB := slotReset
  secFloor := 0
  boots := 0
  xaSettle := 0
  cfgFormat := 0
  oldFormat := 0
  modRetired := none
  recovered := 0

/-- The module right after reset. -/
def State.reset : State where
  gt := 0
  gtFrac := 0
  clvPre := none
  nva := nvaReset
  mod := modReset
  hxp := hxpReset
  evr := evrReset
  flt := fltReset
  bst := bstReset
  fwu := fwuReset
  gate := gateReset
  clk := clkReset
  hl := hlReset
  con := conReset
  cyc := cycReset
  chg := chgReset
  nvb := nvbReset
  tim := timReset
  oxn := oxnReset
  ile := ileReset
  plv := plvReset
  tio := tioReset
  can := canReset
  alp := alpReset
  mem := []
  out := []
  free := 0
  pending := []

end Sys2Proof.Machine
end

