-- ==== Sys2Proof/Machine/Counters.lean ====
section
/-! DEFINITION. The counters of a Clover snapshot (R229), and what they were before the present instant (R13, R231). -/

namespace Sys2Proof.Machine

/-- One second in ns. -/
def sec : Nat := 1000000000

/-- One millisecond in ns. -/
def ms : Nat := 1000000

/-- One microsecond in ns. -/
def us : Nat := 1000

/-- The module's node number (Table 7.1). -/
def ownNode (s : State) : Nat := 0x400 + s.mod.slot % 2

/-- A gate of the state. -/
def gateOf (s : State) (n : Nat) : Gate := s.gate.gates.getD n gateReset1

/-- Heartbeats that did not come since the last: one is due every 1 ms (Table 9.11). -/
def hbMissed (s : State) : Nat :=
  match s.plv.lastHb with
  | some l => (s.gt - l + 500 * us) / ms - 1
  | none => 0

/-- PLV_HB.MISSED now: what has been counted, and the heartbeats missed since the last (Table 9.11). -/
def missedNow (s : State) : Nat := Min.min 0xFFFF (s.plv.missed + if s.plv.authOk then hbMissed s else 0)

/-- Counters of the module's units: source, counter number and value, over the counts that State holds (R229, Tables
2.16 to 20.9, log entry 16). -/
def unitCounters (s : State) : List (Nat × Nat × Nat) :=
  [(Src.sv, 0, s.mod.transCount), (Src.sv, 1, s.mod.refCount), (Src.sv, 2, s.cyc.cycle),
   (Src.sv, 3, s.cyc.rollbacks), (Src.sv, 4, s.cyc.wdtExpiries), (Src.sv, 5, s.cyc.sigMissed),
   (Src.heat, 0, s.hl.msgs), (Src.heat, 1, s.hl.hotSteps), (Src.heat, 2, s.hl.dips), (Src.heat, 3, s.hl.changes),
   (Src.clocks, 0, s.clk.losses), (Src.clocks, 1, s.clk.forced), (Src.clocks, 2, s.clk.quTimeouts)]
  ++ ((List.range 16).map fun n => (Src.gate n, 0, (gateOf s n).total))
  ++ [(Src.teasel, 0, s.bst.rounds), (Src.teasel, 1, s.bst.slices), (Src.teasel, 2, s.bst.fails),
      (Src.teasel, 3, s.bst.timeouts),
      (Src.sorrel, 0, s.evr.writes), (Src.sorrel, 1, s.evr.suppressed), (Src.sorrel, 2, s.evr.clears),
      (Src.sorrel, 3, s.evr.bad), (Src.gtu, 0, s.tim.split), (Src.gtu, 1, s.tim.losses),
      (Src.flt, 0, s.flt.l0), (Src.flt, 1, s.flt.l1), (Src.flt, 2, s.flt.l2), (Src.flt, 3, s.flt.l3),
      (Src.flt, 4, s.flt.l4), (Src.flt, 5, s.flt.l5), (Src.flt, 6, s.flt.uncorr),
      (Src.oxn (ownNode s) 0, 0, s.oxn.chA.faultCycles), (Src.oxn (ownNode s) 0, 1, s.oxn.chA.lcrc),
      (Src.oxn (ownNode s) 1, 0, s.oxn.chB.faultCycles), (Src.oxn (ownNode s) 1, 1, s.oxn.chB.lcrc),
      (Src.oxn (ownNode s) 0xFF, 0, s.oxn.n), (Src.oxn (ownNode s) 0xFF, 1, s.oxn.coldstarts),
      (Src.oxn (ownNode s) 0xFF, 2, s.oxn.rejected),
      (Src.tio, 0, s.tio.count), (Src.tio, 1, s.tio.resets), (Src.tio, 2, s.tio.rejected),
      (0x300000, 0, s.alp.transactions), (0x300000, 1, s.alp.errors), (0x300000, 2, s.alp.suppressed),
      (0x300000, 3, s.alp.count)]
  ++ ((List.range 4).flatMap fun x =>
    let p := s.can.ports.getD x canPortReset
    [(Src.can x, 0, p.sent), (Src.can x, 1, p.dropped), (Src.can x, 2, p.received), (Src.can x, 3, p.unmatched)])
  ++ [(0x400000, 4, s.can.faults), (Src.voter, 0, s.ile.n)]
  ++ ((([Lane.a, Lane.b, Lane.c].zip s.ile.lanes).flatMap fun p =>
    [(Src.lane p.1, 0, p.2.reseeds), (Src.lane p.1, 1, p.2.disagree)]))
  ++ [(Src.pair 0, 0, missedNow s), (Src.pair 0, 1, s.plv.silences), (Src.pair 0, 2, s.plv.arbCount),
      (Src.pair 0, 3, s.plv.failovers), (Src.pair 0, 4, s.plv.handovers)]
  ++ ((List.range 3).map fun p => (Src.plv p, 0, (s.plv.ports.getD p portReset).discards))
  ++ [(Src.evq, 0, s.hxp.lostEvents), (Src.evq, 1, s.hxp.grantsRefused)]

/-- The Sorrel counts held in RAM (R229, R435): COUNT, SUPPRESSED and the 16 bins of each accumulator, under its source,
numbered from 1,024 on by its place among the accumulators of that source (DESIGN CHOICE, log 196). -/
def ramCounts : List Rec → List Rec → List (Nat × Nat × Nat)
  | _, [] => []
  | before, a :: r =>
    let base := 1024 + 18 * (before.filter (·.source = a.source)).length
    ((a.source, base, a.count) :: (a.source, base + 1, a.supp)
      :: (List.range 16).map fun i => (a.source, base + 2 + i, a.hist.getD i 0)) ++ ramCounts (before ++ [a]) r

/-- Every counter of the module in a snapshot. -/
def cloverCounters (s : State) : List (Nat × Nat × Nat) := unitCounters s ++ ramCounts [] s.evr.accs

/-- While a snapshot waits for a latch, the counters as every increment stamped before `t` leaves them (R13, R231). -/
def clvBefore (t : Nat) (s : State) : Option (List (Nat × Nat × Nat)) :=
  if s.tim.clv.st = 1 ∨ s.tim.clv.st = 2 then some (cloverCounters { s with gt := t - 1 }) else none

end Sys2Proof.Machine
end

