-- ==== Sys2Proof/Machine/Ops.lean ====
section
/-! DEFINITION. The shared operations of every family: time, emissions, MOD_STATE transitions, Sorrel
occurrences (R430 to R438), host events (R352), MSI-X (R336), completions (R335), refusals (R34),
fault buckets and retirement records (R408, R412). -/

namespace Sys2Proof.Machine

/-- The command's stamp is taken: GT moves to it and never decreases (R211). -/
def atT (t : Nat) (s : State) : State :=
  { s with
    gt := max s.gt t
    clvPre := if s.gt < t then clvBefore t s else s.clvPre }

/-- Something leaves the module. -/
def emit (o : Out) (s : State) : State := { s with out := s.out ++ [o] }

/-- The order of events: GT, then source number (R14). -/
def eventLe (a b : Event) : Bool := decide (a.gt < b.gt) || (a.gt = b.gt && decide (a.source ≤ b.source))

/-- An event takes its place among those that wait, after its equals. -/
def eventPut (e : Event) (l : List Event) : List Event :=
  (l.filter fun x => eventLe x e) ++ e :: l.filter fun x => !eventLe x e

/-- Queue a host event while the event ring is enabled and armed (R352). -/
def pushEvent (e : Event) (s : State) : State :=
  if s.hxp.armed && s.hxp.evq.cfg.getLsbD 0 then
    { s with hxp := { s.hxp with events := eventPut e s.hxp.events } }
  else s

/-- How many components of the tuple differ. -/
def tupleDiff (a b : ModeTuple) : Nat :=
  b2n (a.role != b.role) + b2n (a.run != b.run) + b2n (a.change != b.change) + b2n (a.forced != b.forced)
    + b2n (a.ile != b.ile) + b2n (a.net != b.net) + b2n (a.tier != b.tier) + b2n (a.fw != b.fw)
    + b2n (a.bst != b.bst)

/-- A transition of the mode tuple (R28): MOD_TRANS_COUNT counts each component that changed, a MODE
event is queued (R352), and a change of role empties the standing grant slots (R346). -/
def setTuple (f : ModeTuple → ModeTuple) (s : State) : State :=
  let a := s.mod.tup
  let b := f a
  if a = b then s else
    let s1 := { s with
      mod := { s.mod with tup := b, transCount := satAdd 0xFFFFFFFF s.mod.transCount (tupleDiff a b) },
      hxp := { s.hxp with slots := if a.role = b.role then s.hxp.slots else [] } }
    pushEvent ⟨.mode, 0, Src.sv, s1.gt, tupleWord b, tupleWord a⟩ s1

/-- Set the role component. -/
def setRole (r : Role) (s : State) : State := setTuple (fun m => { m with role := r }) s
/-- Set the run state component. -/
def setRun (r : RunState) (s : State) : State := setTuple (fun m => { m with run := r }) s
/-- Set the change state component. -/
def setChange (c : ChangeState) (s : State) : State := setTuple (fun m => { m with change := c }) s
/-- Set the force state component. -/
def setForced (b : Bool) (s : State) : State := setTuple (fun m => { m with forced := b }) s
/-- Set the ILE state component. -/
def setIleState (i : IleState) (s : State) : State := setTuple (fun m => { m with ile := i }) s
/-- Table 2.3: a STANDBY module whose network is neither SYNCED nor NARROW takes SYNCING and IDLE at the
same instant. It resynchronises from step 3; a cycle that waits for the active ends. DEDUCED (log 180): it
ends an arbitration. -/
def dropShadow (s : State) : State :=
  { s with
    mod := { s.mod with arb := false }
    plv := { s.plv with
      step := 3, source := false, got := [], passes := 0, stepStart := s.gt, attemptStart := s.gt,
      soloNext := false, agreeWait := none }
    cyc := { s.cyc with
      phase := if s.cyc.phase = .agree ∨ s.cyc.phase = .sig then .house else s.cyc.phase } }

/-- Set the network state component; `netSince` follows an unbroken SYNCED or NARROW (R461), and LISTEN starts
its timeout and its counts afresh (R202). -/
def setNet (n : NetState) (s : State) : State :=
  let good := n = .synced || n = .narrow
  let was := s.mod.tup.net = .synced || s.mod.tup.net = .narrow
  let since := if good then (if was then s.fwu.netSince else some s.gt) else none
  let o := if n = .listen then { s.oxn with
      listenAt := s.gt, netNext := none, leadCycles := 0, leadRun := 0, intRun := 0, intFails := 0, noSync := 0,
      planNext := none, plan := .full, lead := none }
    else s.oxn
  let s1 := { s with fwu := { s.fwu with netSince := since }, oxn := o }
  if s.mod.tup.role = .standby && !good then
    setTuple (fun m => { m with net := n, role := .syncing, run := .idle }) (dropShadow s1)
  else setTuple (fun m => { m with net := n }) s1
/-- Set the heat tier component. -/
def setTier (k : Tier) (s : State) : State := setTuple (fun m => { m with tier := k }) s
/-- Set the firmware state component. -/
def setFw (f : FwState) (s : State) : State := setTuple (fun m => { m with fw := f }) s
/-- Set the self-test mode component. -/
def setBst (b : BstMode) (s : State) : State := setTuple (fun m => { m with bst := b }) s

/-! ### Sorrel -/

/-- Length of an hourly, daily or monthly epoch in ns (R433). -/
def epochLen : Nat → Nat
  | 1 => 3600 * sec
  | 2 => 86400 * sec
  | _ => 2592000 * sec

/-- Start of the epoch of a store that contains a time (R433, R13). -/
def epochOf (store t : Nat) : Nat := t / epochLen store * epochLen store

/-- The merge rule of R436: `a` is the record, `b` what is merged into it. -/
def mergeRec (a b : Rec) : Rec :=
  if b.count = 0 then a else
  if a.count = 0 then { a with
    count := b.count, supp := b.supp, min := b.min, max := b.max, first := b.first, last := b.last,
    hist := b.hist, lastVal := b.lastVal, lastSrc := b.lastSrc } else
  let later := a.last < b.last || (a.last = b.last && a.lastSrc ≤ b.lastSrc)
  { a with
    count := satAdd 0xFFFFFFFF a.count b.count
    supp := satAdd 0xFFFFFFFF a.supp b.supp
    min := Min.min a.min b.min
    max := Max.max a.max b.max
    first := Min.min a.first b.first
    last := Max.max a.last b.last
    hist := (a.hist.zip b.hist).map fun p => satAdd 0xFFFFFFFF p.1 p.2
    lastVal := if later then b.lastVal else a.lastVal
    lastSrc := if later then b.lastSrc else a.lastSrc }

/-- An empty record of a code, source and epoch. -/
def newRec (code store source epoch : Nat) (ovr : Bool) : Rec :=
  ⟨code, false, ovr, false, store, source, epoch, 0, 0, 0, 0, 0, 0, List.replicate 16 0, 0, 0, 0⟩

/-- One occurrence as a record of count 1. -/
def occRec (store code src t : Nat) (val : Int) (supp : Nat) : Rec :=
  let e := epochOf store t
  let bin := (t - e) * 16 / epochLen store
  { newRec code store src e false with
    count := 1, supp := supp, min := val, max := val, first := t, last := t,
    hist := (List.range 16).map fun i => if i = bin then 1 else 0, lastVal := val, lastSrc := src }

/-- Order of records in a store (R445): EPOCH_START, CODE, SOURCE; a clear record after others. -/
def recLt (a b : Rec) : Bool :=
  a.epoch < b.epoch || (a.epoch = b.epoch && (a.code < b.code || (a.code = b.code && a.source < b.source)))

/-- Whether a record holds a key. -/
def recIs (code src epoch : Nat) (r : Rec) : Bool :=
  r.code = code && r.source = src && r.epoch = epoch && !r.clear

/-- Insert a record in its place. -/
def recInsert (r : Rec) : List Rec → List Rec
  | [] => [r]
  | x :: xs => if recLt r x then r :: x :: xs else x :: recInsert r xs

/-- Merge `b` into the record of its key in a store, making the record when there is none. -/
def recMerge (store : Nat) (b : Rec) (seq : Nat) (l : List Rec) : List Rec :=
  if l.any (recIs b.code b.source b.epoch) then
    l.map fun r => if recIs b.code b.source b.epoch r then { mergeRec r b with seq := seq } else r
  else
    recInsert { mergeRec (newRec b.code store b.source b.epoch b.ovr) b with seq := seq } l

/-- The overflow source (R437). -/
def overSrc : Nat := 0xF00000

/-- Capacity of the current store (R438). -/
def curMax : Nat := 65536

/-- Number of accumulators (R435). -/
def accMax : Nat := 8192

/-- Write one accumulator into the current store (R436), or into its code's OVERFLOW record when the
store is full and holds no record of its key (R438). -/
def writeAcc (seq : Nat) (st : List Rec × List (Nat × Nat × Nat) × Bool) (a : Rec) :
    List Rec × List (Nat × Nat × Nat) × Bool :=
  let full := curMax ≤ st.1.length
  let has := st.1.any (recIs a.code a.source a.epoch)
  let b := if full && !has then { a with source := overSrc, ovr := true } else a
  let key := (b.epoch, b.code, b.source)
  (recMerge 1 b seq st.1, if key ∈ st.2.1 then st.2.1 else st.2.1 ++ [key], st.2.2 || (full && !has))

/-- Post one RECORD event for a record that a write changed (R437). -/
def recEvent (s : State) (key : Nat × Nat × Nat) : State :=
  match s.nva.recCur.find? (recIs key.2.1 key.2.2 key.1) with
  | some r => pushEvent ⟨.record, r.code, r.source, r.last, 0, 0⟩ s
  | none => s

/-- One write of a code: every non-empty accumulator of it is merged and emptied (R436). -/
def flushCode (code : Nat) (s : State) : State :=
  let mine := s.evr.accs.filter (·.code = code)
  if mine.isEmpty then s else
    let seq := s.nva.recSeq + 1
    let w := mine.foldl (writeAcc seq) (s.nva.recCur, [], false)
    let s1 := { s with
      nva := { s.nva with recCur := w.1, recSeq := seq, marks := s.nva.marks.filter (· ≠ code) },
      evr := { s.evr with
        accs := s.evr.accs.filter (·.code ≠ code)
        lastWrite := Tab.set s.evr.lastWrite code s.gt
        writes := satInc 0xFFFFFFFF s.evr.writes
        lastCode := code
        mramFull := s.evr.mramFull || w.2.2 } }
    w.2.1.foldl recEvent s1

/-- Whether a unit is retired (R412). -/
def isRetired (s : State) (u : UnitId) : Bool := s.nva.retired.any (·.unit = u)

/-- Whether a code may be written now: never written, or its last write 1 s or more ago (R436); with the storage
engine retired, writes wait (Table 17.2). -/
def codeDue (code : Nat) (s : State) : Bool :=
  !isRetired s (.engine 6) && match Tab.find? s.evr.lastWrite code with
  | none => true
  | some w => w + sec ≤ s.gt

/-- Put an occurrence into its accumulator, or into the overflow accumulator (R435, R437). -/
def accumulate (r : Rec) (l : List Rec) : List Rec :=
  if l.any (recIs r.code r.source r.epoch) then
    l.map fun a => if recIs r.code r.source r.epoch a then mergeRec a r else a
  else if (l.filter fun a => !a.ovr).length < accMax then l ++ [r]
  else if l.any (recIs r.code overSrc r.epoch) then
    l.map fun a => if recIs r.code overSrc r.epoch a then mergeRec a r else a
  else l ++ [{ r with source := overSrc, ovr := true }]

/-- One occurrence without the note that the store filled. -/
def occurCore (code src : Nat) (val : Int) (s : State) : State :=
  let due := codeDue code s
  let r := occRec 1 code src s.gt val (if due then 0 else 1)
  let s1 := { s with
    evr := { s.evr with
      accs := accumulate r s.evr.accs
      suppressed := if due then s.evr.suppressed else satInc 0xFFFFFFFF s.evr.suppressed }
    nva := { s.nva with marks := if code ∈ s.nva.marks then s.nva.marks else s.nva.marks ++ [code] } }
  if due then flushCode code s1 else s1

/-- A rule writes a Sorrel code (R430), and EVR_MRAM_FULL once when the store fills (R438). -/
def occur (code src : Nat) (val : Int) (s : State) : State :=
  let s1 := occurCore code src val s
  if s1.evr.mramFull && !s.evr.mramFull then occurCore Code.evrMramFull Src.sorrel 0 s1 else s1

/-- A rule writes a code with one detail, as an unsigned 32-bit number (R430). -/
def occurU (code src val : Nat) (s : State) : State := occur code src (sgn32 val) s

/-- A rule writes a code with two details (R430): the first fills [15:0], the second [31:16]. -/
def occur2 (code src a b : Nat) (s : State) : State := occurU code src (a % 65536 + 65536 * (b % 65536)) s

/-! ### MSI-X, HXP errors, completions -/

/-- COALESCE_US in ns (Table 13.16). -/
def coalesceNs (s : State) : Nat := Min.min 1000 (bits s.hxp.cfg.toNat 8 10) * us

/-- The host has cleared the function mask and the vector's mask bit. -/
def vecOpen (s : State) (vec : Nat) : Bool :=
  !s.hxp.pcie.msixMask && !(s.hxp.msixTab.getD (4 * vec + 3) 1).getLsbD 0

/-- A message goes out now; a masked vector's stays pending, and while MSI-X is not enabled there is none (R336, log entry
154). -/
def msixNow (vec : Nat) (s : State) : State :=
  if !s.hxp.pcie.msixEn then s else
  let h := { s.hxp with vecs := Tab.set s.hxp.vecs vec ⟨s.gt, false⟩ }
  if vecOpen s vec then emit (.msix vec) { s with hxp := h }
  else { s with hxp := { h with pba := vec :: h.pba.filter (· ≠ vec) } }

/-- Send an MSI-X message on a vector, or merge it (R336). -/
def msix (vec : Nat) (s : State) : State :=
  match Tab.find? s.hxp.vecs vec with
  | some v =>
    if s.gt < v.last + coalesceNs s then
      { s with hxp := { s.hxp with vecs := Tab.set s.hxp.vecs vec { v with waiting := true } } }
    else msixNow vec s
  | none => msixNow vec s

/-- HXP_ERR as a word (Table 13.17). -/
def hxpErrWord (h : HxpS) : Nat :=
  h.errRing + 8 * b2n h.errEvq + 256 * h.errCode + 65536 * h.errIndex

/-- HXP_ERR takes a value: a RING_ERROR event and a message on ERR_VEC at a change (R336, R352). -/
def setHxpErr (ring : Nat) (evq : Bool) (code index : Nat) (s : State) : State :=
  let h := { s.hxp with errRing := ring, errEvq := evq, errCode := code, errIndex := index }
  if hxpErrWord h = hxpErrWord s.hxp then s else
    msix (bits s.hxp.cfg.toNat 4 4)
      (pushEvent ⟨.ringError, code, if evq then Src.evq else Src.ring ring, s.gt, hxpErrWord h, 0⟩
        { s with hxp := h })

/-- Change one command ring. -/
def updRing (n : Nat) (f : RingS → RingS) (s : State) : State :=
  { s with hxp := { s.hxp with rings := updAt s.hxp.rings n f } }

/-- Command ring n, or an idle one outside 0 to 7. -/
def ringOf (s : State) (n : Nat) : RingS := s.hxp.rings.getD n ringReset

/-- Queue a completion on a command's ring (R334, R335). -/
def complete (c : Call) (op : Nat) (st : Status) (rs : Option Reason) (bytes result : Nat) (s : State) :
    State :=
  updRing c.ring (fun r => { r with
    queue := r.queue ++ [⟨c.tag, op, st, rs, bytes, BitVec.ofNat 64 result, c.irq⟩] }) s

/-- A command completes OK. -/
def done (c : Call) (op result : Nat) (s : State) : State := complete c op .ok none 0 result s

/-- A command completes OK with data in its buffer. -/
def doneBuf (c : Call) (op : Nat) (data : List Byte) (result : Nat) (s : State) : State :=
  complete c op .ok none data.length result (emit (.dma c.ring c.tag data) s)

/-- A command completes with a status. -/
def fail (c : Call) (op : Nat) (st : Status) (s : State) : State := complete c op st none 0 0 s

/-- MOD_REFUSE takes a refusal (Table 2.16), and Sorrel the code MODE_REFUSED (R34, log entry 7). -/
def noteRefusal (req : Nat) (rs : Reason) (s : State) : State :=
  occur Code.modeRefused Src.sv 0 { s with mod := { s.mod with
    refReq := req, refReason := reasonCode rs, refCount := satInc 0xFFFF s.mod.refCount } }

/-- A command is refused with a reason; `req` is its request code of Table 2.18, 0 when it has none. -/
def refuse (c : Call) (op req : Nat) (rs : Reason) (s : State) : State :=
  complete c op .refused (some rs) 0 0 (if req = 0 then s else noteRefusal req rs s)

/-! ### Faults -/

/-- Source number of a unit (Table 8.3); engines and rows have no row of their own (log entry 8). -/
def unitSrc (s : State) : UnitId → Nat
  | .cell n => Src.cell n
  | .lane l => Src.lane l
  | .oxn .a => Src.oxn (ownNode s) 0
  | .oxn .b => Src.oxn (ownNode s) 1
  | .plv p => Src.plv p
  | .ti i => Src.ti i
  | .tp i => Src.tp i
  | .tq i => Src.tq i
  | .al x => Src.al x
  | .can p => Src.can p
  | .engine 1 => Src.oxn (ownNode s) 0xFF
  | .engine 2 => Src.pair 0
  | .engine 3 => Src.tio
  | .engine _ => Src.flt
  | .row _ _ => Src.flt

/-- The bucket level of a unit (R408). -/
def bucket (s : State) (u : UnitId) : Nat :=
  match s.nva.buckets.find? (·.1 = u) with
  | some p => p.2
  | none => 0

/-- A bucket list with one level set; level 0 is not listed. -/
def bucketSet (u : UnitId) (v : Nat) (l : List (UnitId × Nat)) : List (UnitId × Nat) :=
  let r := l.filter (·.1 ≠ u)
  if v = 0 then r else r ++ [(u, v)]

/-- FLT_LAST_SRC and FLT_LAST_GT take a fault (Table 17.8). -/
def noteFault (src level : Nat) (s : State) : State :=
  { s with flt := { s.flt with lastSrc := src, lastLevel := level, lastGt := s.gt } }

/-- Add to a unit's bucket, saturating at 63; a retired unit's level stays as it was (R408). -/
def bucketAdd (u : UnitId) (amt : Nat) (s : State) : State :=
  let s1 := noteFault (unitSrc s u) 7 s
  if isRetired s u then s1
  else { s1 with nva := { s1.nva with buckets := bucketSet u (satAdd 63 (bucket s u) amt) s1.nva.buckets } }

/-- Write a unit's retirement record and UNIT_RETIRED (R412). -/
def retireRecord (u : UnitId) (code : Nat) (s : State) : State :=
  if isRetired s u then s else
    occur Code.unitRetired (unitSrc s u) 0
      { s with nva := { s.nva with retired := s.nva.retired ++ [⟨u, code, s.gt, bucket s u⟩] } }

/-- Remove a unit's retirement record: level 0 and UNIT_READMITTED (R413). -/
def readmitRecord (u : UnitId) (s : State) : State :=
  occur Code.unitReadmitted (unitSrc s u) 0
    { s with nva := { s.nva with
      retired := s.nva.retired.filter (·.unit ≠ u)
      buckets := bucketSet u 0 s.nva.buckets } }

/-! ### Arrivals -/

/-- GOOD (Table 3.3). -/
def qGood : Nat := 0xC0
/-- UNCERTAIN. -/
def qUncertain : Nat := 0x40
/-- UNCERTAIN_LIMITED. -/
def qLimited : Nat := 0x44
/-- UNCERTAIN_STALE. -/
def qStale : Nat := 0x48
/-- UNCERTAIN_SUPPLY. -/
def qSupply : Nat := 0x4C
/-- BAD. -/
def qBad : Nat := 0x00
/-- BAD_NO_COMM. -/
def qNoComm : Nat := 0x04
/-- BAD_WIRE_BREAK. -/
def qWireBreak : Nat := 0x08
/-- BAD_CHANNEL_RETIRED. -/
def qRetired : Nat := 0x0C
/-- BAD_SUPPLY. -/
def qBadSupply : Nat := 0x10
/-- BAD_SUBSTITUTED. -/
def qSubst : Nat := 0x14
/-- BAD_NAMUR. -/
def qNamur : Nat := 0x18

/-- A value arrives for an input point (R16). -/
def deliver (addr : Nat) (v : DWord) (born : Option Nat) (qual : Nat) (s : State) : State :=
  { s with cyc := { s.cyc with inbox := s.cyc.inbox ++ [⟨addr, s.gt, v, born, qual, false⟩] } }

/-- A register of a block that is updated at fixed instants. -/
def latched (regs : List (Nat × Nat)) (off : Nat) : Nat := Tab.getD regs off 0

/-- Addresses of the current I/O map's points with a link. -/
def linked (pts : List Point) (l : Link) : List Nat := (pts.filter fun p => p.link = l).map (·.addr)

/-! ### Background work -/

/-! ### Clock gates -/

/-- The time that the present gap has added for tier changes (R383). -/
def gapNow (s : State) : Nat :=
  s.cyc.gapNs + match s.clk.gapFrom with
    | some t => s.gt - t
    | none => 0

/-- Request that a block's clock gate closes (R385). -/
def gateClose (blk : Nat) (s : State) : State :=
  if s.clk.gated.testBit blk || s.clk.quiesce.any (·.1 = blk) then s
  else { s with clk := { s.clk with quiesce := s.clk.quiesce ++ [(blk, s.gt)] } }

/-- Open a block's clock gate: it is held in reset for 16 cycles (R385). -/
def gateOpen (blk : Nat) (s : State) : State :=
  let q := { s.clk with quiesce := s.clk.quiesce.filter (·.1 ≠ blk) }
  if s.clk.gated.testBit blk then
    { s with clk := { q with gated := s.clk.gated - 2 ^ blk, held := q.held ++ [blk] } }
  else { s with clk := q }

/-- A block's clock is gated, or the block is held in reset after its gate opened or timed out (R385). -/
def blkClosed (s : State) (blk : Nat) : Bool := s.clk.gated.testBit blk || decide (blk ∈ s.clk.held)

/-- A block accepts no access as a target: it is closed, or its gate request has been made (R385). -/
def blkShut (s : State) (blk : Nat) : Bool := blkClosed s blk || s.clk.quiesce.any (·.1 = blk)

/-- Bit of CLK_GATED of a lane. -/
def laneBlk : Lane → Nat
  | .a => 4
  | .b => 5
  | .c => 6

/-! ### Background work -/

/-- A kind of background work starts to wait for admission (R400). -/
def bgWant (kind : Nat) (s : State) : State :=
  match Tab.find? s.hl.bgWait kind with
  | some _ => s
  | none => { s with hl := { s.hl with bgWait := Tab.set s.hl.bgWait kind s.gt } }

/-- A running self-test slice is stopped and its unit restored; it runs again later (R421). -/
def sliceStop (s : State) : State :=
  if s.bst.running.isSome then
    bgWant 4 (gateClose 8 { s with
      bst := { s.bst with running := none }
      hl := { s.hl with bgRun := s.hl.bgRun.filter (· ≠ 4) } })
  else s

/-- A kind no longer waits. -/
def bgUnwant (kind : Nat) (s : State) : State :=
  { s with hl := { s.hl with bgWait := Tab.erase s.hl.bgWait kind } }

/-! ### Conditions that last -/

/-- A since-when mark: kept while a condition holds, started when it begins, dropped when it ends. -/
def mark (cond : Bool) (since : Option Nat) (now : Nat) : Option Nat :=
  if cond then some (since.getD now) else none

/-- A condition has held for a time without a break. -/
def held (since : Option Nat) (d now : Nat) : Bool :=
  match since with
  | some t => decide (t + d ≤ now)
  | none => false

/-! ### Clock sources -/

/-- XA or XB. -/
def srcOf (s : State) (xb : Bool) : SrcS := if xb then s.clk.xb else s.clk.xa

/-- Replace XA or XB. -/
def setSrc (xb : Bool) (v : SrcS) (s : State) : State :=
  if xb then { s with clk := { s.clk with xb := v } } else { s with clk := { s.clk with xa := v } }

/-- Whether a source is judged good. -/
def srcGood (s : State) (xb : Bool) : Bool := (srcOf s xb).st = 2

/-- Domain of a block of CLK_GATED (Table 15.3): the cells', a lane's, the CAN controller's, Teasel's. -/
def blkDom : Nat → Nat
  | 4 => 2
  | 5 => 3
  | 6 => 4
  | 7 => 12
  | 8 => 16
  | _ => 0

/-- FIRC_ONLY: neither XA nor XB is judged good (R375). -/
def fircOnly (s : State) : Bool := !srcGood s false && !srcGood s true

end Sys2Proof.Machine
end

