-- ==== Sys2Proof/Machine/Defer.lean ====
section
/-! DEFINITION. Commands that complete after the descriptor that carried them: those that wait for a program
cycle boundary (R36, R38), a staging in progress (R97), and commands relayed from the active, which have no
call of their own. -/

namespace Sys2Proof.Machine

/-- Answer a waiting command, unless a reset of the host exchange has lost it since (R329). -/
def answer (call : Option Call) (era : Nat) (f : Call → State → State) (s : State) : State :=
  match call with
  | some c => if era = s.hxp.era then f c s else s
  | none => s

/-- A waiting command completes OK with RESULT. -/
def answerOk (p : PendCmd) (result : Nat) (s : State) : State :=
  answer p.call p.era (fun c s => done c p.op result s) s

/-- A waiting command is refused at its instant of effect (R38, R39): MOD_REFUSE takes a host command's. -/
def answerRefuse (p : PendCmd) (rs : Reason) (s : State) : State :=
  answer p.call p.era (fun c s => refuse c p.op p.req rs s) s

/-- A waiting command completes with a status. -/
def answerFail (p : PendCmd) (st : Status) (s : State) : State :=
  answer p.call p.era (fun c s => fail c p.op st s) s

/-- A command waits for the next boundary. -/
def pushPend (p : PendCmd) (s : State) : State := { s with cyc := { s.cyc with pend := s.cyc.pend ++ [p] } }

/-- A waiting command ends with ABORTED, reason ROLE (R348). -/
def abortRole (call : Option Call) (era op : Nat) (s : State) : State :=
  answer call era (fun c s => complete c op .aborted (some .role) 0 0 s) s

/-- Request code of STAGE or GEN_SELECT (Table 2.18). -/
def stageReq (op : Nat) : Nat := if op = 0x25 then 0x15 else 0x10

/-- The staging in progress fails a check: its command completes, STAGE_REFUSED is written, and nothing of
the generation remains (R97). -/
def stageFail (st : Status) (s : State) : State :=
  match s.chg.job with
  | none => s
  | some j => occur Code.stageRefused Src.sv 0
      (answer j.call j.era (fun c s => fail c j.op st s) { s with chg := { s.chg with job := none } })

/-- Every command that waits ends with ABORTED; those relayed already stay (R348). -/
def abortWaiting (s : State) : State :=
  let stay := s.cyc.pend.filter (·.at_.isSome)
  let go := s.cyc.pend.filter (!·.at_.isSome)
  go.foldl (fun s p => abortRole p.call p.era p.op s) { s with cyc := { s.cyc with pend := stay } }

end Sys2Proof.Machine
end

