-- ==== Sys2Proof/Machine/Float.lean ====
section
/-! DEFINITION. IEEE 754 binary32 and binary64 numbers as exact ratios, and rounding to nearest, ties to
even (R307, R353). -/

namespace Sys2Proof.Machine

/-- An IEEE number: NaN, an infinity, or num / 2^scale. -/
inductive FVal where
  | nan
  | inf (neg : Bool)
  | fin (num : Int) (scale : Nat)
deriving DecidableEq, Repr, Inhabited

/-- A binary number with e exponent and m fraction bits. -/
def fDecode (e m w : Nat) : FVal :=
  let neg := w.testBit (e + m)
  let x := bits w m e
  let f := bits w 0 m
  let bias := 2 ^ (e - 1) - 1
  let scale := bias + m - 1
  let sg (n : Nat) : Int := if neg then -(n : Int) else n
  if x = 2 ^ e - 1 then (if f = 0 then .inf neg else .nan)
  else if x = 0 then .fin (sg f) scale
  else .fin (sg ((2 ^ m + f) * 2 ^ (x - 1))) scale

/-- n / d to the nearest whole number, ties to even. -/
def roundEven (n d : Nat) : Nat :=
  let q := n / d
  let r := n % d
  if 2 * r < d then q else if d < 2 * r then q + 1 else if q % 2 = 0 then q else q + 1

/-- num / den as a binary number with e exponent and m fraction bits. -/
def fRound (e m : Nat) (num : Int) (den : Nat) : Nat :=
  let neg := num < 0
  let a := num.natAbs
  let bias := 2 ^ (e - 1) - 1
  let sign := if neg then 2 ^ (e + m) else 0
  if a = 0 || den = 0 then (if den = 0 then 0 else sign) else
  let scale := bias + m - 1
  let t := a * 2 ^ scale / den
  let k := if t < 2 ^ (m + 1) then 0 else Nat.log2 t - m
  let q := roundEven (a * 2 ^ scale) (den * 2 ^ k)
  let bitsUp := if k = 0 then q else q + k * 2 ^ m
  sign + Min.min bitsUp ((2 ^ e - 1) * 2 ^ m)

/-- num / den as binary32. -/
def toF32 (num : Int) (den : Nat) : Nat := fRound 8 23 num den

/-- A binary64 word rounded to binary32, ties to even. -/
def f64to32 (w : Nat) : Nat :=
  match fDecode 11 52 w with
  | .nan => 0x7FC00000
  | .inf neg => if neg then 0xFF800000 else 0x7F800000
  | .fin n sc => if n = 0 then (if w.testBit 63 then 0x80000000 else 0) else toF32 n (2 ^ sc)

end Sys2Proof.Machine
end

