-- ==== Sys2Proof/Machine/Image.lean ====
section
/-! DEFINITION. Points and the process image: entries, safe image, forces, arrivals and links
(R63 to R67, R44, R86). -/

namespace Sys2Proof.Machine

/-- An output image entry; an address not assigned reads as all zeros. -/
def outEntry (s : State) (a : Nat) : Entry := Tab.getD s.cyc.outImg a Entry.zero

/-- An input image entry. -/
def inEntry (s : State) (a : Nat) : Entry := Tab.getD s.cyc.img a Entry.zero

/-- The point of an address and direction in a map. -/
def pointAt (pts : List Point) (a : Nat) : Option Point := pts.find? (·.addr = a)

/-- The I/O map's points of one link receive a value. -/
def deliverLink (pts : List Point) (l : Link) (v : DWord) (born : Option Nat) (qual : Nat) (s : State) : State :=
  (linked pts l).foldl (fun s a => deliver a v born qual s) s

/-- TYPE code of a point type (Table 3.2). -/
def typeCode : PType → Nat
  | .unused => 0
  | .bool => 1
  | .int64 => 2
  | .uint64 => 3
  | .real64 => 4
  | .current => 5
  | .bits64 => 6
  | .ile => 7

/-- A value's encoding is valid for a TYPE (Table 3.2): bits above bit 0 of a BOOL are 0. -/
def valueOk (ty : PType) (v : DWord) : Bool :=
  match ty with
  | .bool => decide (v.toNat < 2)
  | .unused => false
  | _ => true

/-- The safe value of an output point in the generation's safe image (R44). -/
def safeValue (alp : List AlParam) (p : Point) : DWord :=
  match p.link with
  | .tqCmd _ => 0
  | .alSet x => BitVec.ofNat 64 ((alp.getD x alParamOff).safeNa)
  | .net => p.safe
  | .safety => p.safe
  | _ => 0

/-- FLAGS.SAFETY of an input point (R292, R308, Table 3.2). -/
def safetyFlag (g : Gen) (p : Point) : Bool :=
  match p.link with
  | .safety => true
  | .ile => true
  | .ti i => field g.tio (16 + 4 * i) 1 ≠ 1
  | .tqStatus _ => true
  | .fnStatus => true
  | .alI x => decide ((g.alp.getD x alParamOff).mode = .input)
  | _ => false

/-- The force on an address in a table. -/
def forceOn (fs : List Force) (a : Nat) : Option Force := fs.find? (·.addr = a)

/-- AGE in µs from an arrival to T_commit (Table 3.2). -/
def ageOf (born : Option Nat) (tc : Nat) : Word :=
  match born with
  | some b => BitVec.ofNat 32 (Min.min 0xFFFFFFFE ((tc - b) / 1000))
  | none => 0xFFFFFFFF

/-- The 16 bytes of an entry (Table 3.2). -/
def entryBytes (e : Entry) : List Byte :=
  le 8 e.value.toNat ++ le 1 (typeCode e.ty) ++ [e.qual]
    ++ le 1 (b2n e.forced + 2 * b2n e.changed + 4 * b2n e.overrun + 8 * b2n e.safety) ++ le 1 0
    ++ le 4 e.age.toNat

/-- Entries of one slice, with their addresses (R68). -/
def sliceEntries (img : Tab Entry) (k : Nat) : Tab Entry := img.filter fun p => p.1 / 256 = k

/-- The content of a slice: 256 entries of 16 bytes. -/
def sliceBytes (img : Tab Entry) (k : Nat) : List Byte :=
  let es := sliceEntries img k
  ((List.range 256).map fun i => entryBytes (Tab.getD es (256 * k + i) Entry.zero)).flatten

/-- CRC-64 of a slice of zeros, the digest of every slice that assigns nothing. -/
def zeroSliceDigest : Nat := crc64 (pad 4096)

/-- Numbers of the slices that hold an entry. -/
def usedSlices (img : Tab Entry) : List Nat := (img.map fun p => p.1 / 256).eraseDups

/-- Digests of the slices that hold an entry; every other slice's is `zeroSliceDigest`. -/
def digests (img : Tab Entry) : Tab DWord :=
  (usedSlices img).foldl (fun t k => Tab.put t k (BitVec.ofNat 64 (crc64 (sliceBytes img k)))
    (BitVec.ofNat 64 zeroSliceDigest)) []

/-- The 8,192 bytes of the 1,024 slice digests. -/
def digestBytes (img : Tab Entry) : List Byte :=
  let d := digests img
  ((List.range 1024).map fun k => le 8 (Tab.getD d k (BitVec.ofNat 64 zeroSliceDigest)).toNat).flatten

end Sys2Proof.Machine
end

