-- ==== Sys2Proof/Machine/Alp.lean ====
section
/-! DEFINITION. Bidirectional analog loop channels and their HART modems (chapter 11). Currents in nA. -/

namespace Sys2Proof.Machine

/-- Channel x. -/
def alCh (s : State) (x : Nat) : AlChS := s.alp.ch.getD x alChReset

/-- Parameters of channel x. -/
def alPar (s : State) (x : Nat) : AlParam := s.alp.par.getD x alParamOff

/-- Change one channel. -/
def updAl (x : Nat) (f : AlChS → AlChS) (s : State) : State :=
  { s with alp := { s.alp with ch := updAt s.alp.ch x f } }

/-- SOURCE or SINK: the modes with a setpoint. -/
def alDrives (m : AlMode) : Bool := m = .source || m = .sink

/-- Only a SOLO or ACTIVE module in IDLE, RUN or HOLD enables its channels (R309); FIRC_ONLY, it does so no more than an
absent one (R375). -/
def alDriver (s : State) : Bool :=
  let m := s.mod.tup
  !fircOnly s &&
  (m.role = .solo || m.role = .active) && (m.run = .idle || m.run = .run || m.run = .hold)

/-- Range of a mode's setpoint (Table 11.1). -/
def alRange : AlMode → Nat × Nat
  | .sink => (3600000, 22000000)
  | _ => (0, 24000000)

/-- A setpoint clamped to its mode's range (R299), and whether it was. -/
def alClamp (m : AlMode) (v : Int) : Nat × Bool :=
  let r := alRange m
  if v < r.1 then (r.1, true) else if (r.2 : Int) < v then (r.2, true) else (v.toNat, false)

/-- Whether a channel has a fault of Table 11.3. -/
def alHas (c : AlChS) (code : Nat) : Bool := c.faults.any (·.1 = code)

/-- The active fault code shown: the lowest of those present (log entry 12). -/
def alCode (c : AlChS) : Nat := ((List.range 7).find? fun k => k ≠ 0 && alHas c k).getD 0

/-- Whether the enable from the module side is present (R302, R303, R309, R310). At a handover a channel with a setpoint
stays enabled through the ramp, and the sense of an INPUT channel for 20 µs. FIRC_ONLY, the module enables no channel,
as an absent one (R375, R303). -/
def alEnable (s : State) (x : Nat) : Bool :=
  let c := alCh s x
  let m := (alPar s x).mode
  m ≠ .off && !fircOnly s && (
    if alDriver s then !(alDrives m && c.silent && s.mod.present)
    else if s.mod.tup.role = .retired then alDrives m && c.en && !s.mod.present
    else c.en && match s.alp.ramp with
      | some (false, t0) => m ≠ .input || decide (s.gt < t0 + 20 * us)
      | _ => false)

/-- Whether the front end holds AL_SAFE while enabled (R302). -/
def alSafeNow (s : State) (x : Nat) : Bool :=
  let c := alCh s x
  alDrives (alPar s x).mode && (!(alDriver s || s.alp.ramp.isSome) || s.mod.tup.run = .idle || alHas c 1
    || c.unassigned || c.silent || isRetired s (.al x))

/-- A HART transaction begins (R306): identification in a short frame at polling address 0, every other in a long
frame (PRESUMED, log entry 193). -/
def hartStart (x : Nat) (j : HartJob) (s : State) : State :=
  let s1 := updAl x (fun c => { c with job := some (j, s.gt, 0) }) s
  match j with
  | .identify => emit (.hart x false 0 []) s1
  | .poll k => match (alPar s x).poll[k]? with
    | some p => emit (.hart x true p.cmd p.data) s1
    | none => s1
  | .pass _ _ cmd d => emit (.hart x true cmd d) s1

/-- The next transaction of a primary master: a waiting pass-through, else the next poll entry (R306). -/
def hartNext (x : Nat) (s : State) : State :=
  let c := alCh s x
  let p := alPar s x
  if !c.en || alDrives p.mode && p.mode = .sink || c.job.isSome then s
  else if !c.known then hartStart x .identify s
  else match c.passQ with
    | j :: r => hartStart x j (updAl x (fun c => { c with passQ := r }) s)
    | [] =>
      if p.poll.isEmpty then s
      else
        let k := c.nextPoll % p.poll.length
        hartStart x (.poll k) (updAl x (fun c => { c with nextPoll := k + 1 }) s)

/-- Pass-through transactions of a channel that is no longer enabled get no reply (Table 13.10). -/
def hartDrop (x : Nat) (s : State) : State :=
  let js := ((alCh s x).job.map (·.1)).toList ++ (alCh s x).passQ
  js.foldl (fun s j => match j with
    | .pass c era _ _ => if era = s.hxp.era then complete c 0x62 .hartFail none 0 0 s else s
    | _ => s) (updAl x (fun c => { c with job := none, passQ := [] }) s)

/-- Pass-through transactions end with the driving role (R348). -/
def hartAbort (s : State) : State :=
  (List.range 4).foldl (fun s x =>
    let isPass (j : HartJob) : Bool := match j with
      | .pass _ _ _ _ => true
      | _ => false
    let now := ((alCh s x).job.map (·.1)).toList.filter isPass
    let js := now ++ (alCh s x).passQ
    js.foldl (fun s j => match j with
      | .pass c era _ _ => abortRole (some c) era 0x62 s
      | _ => s) (updAl x (fun c => { c with job := if now.isEmpty then c.job else none, passQ := [] }) s)) s

/-- The enable and the setpoint in force follow R302, R303 and R309. A SINK front end whose enable rises
starts at 0.25 MHz (Table 11.5); other modes run at 8 MHz (R304). -/
def alSettle (x : Nat) (s : State) : State :=
  let c := alCh s x
  let p := alPar s x
  let en := alEnable s x
  let safe := alSafeNow s x
  let rise := en && !c.en
  let s := if en then s else hartDrop x s
  hartNext x (updAl x (fun c => { c with
    en := en
    atSafe := en && safe
    set := if en && alDrives p.mode then (if safe then c.safe else c.cmd) else 0
    clk := if p.mode = .off then 0 else if p.mode = .sink then (if rise then 0 else c.clk) else 5
    convs := if rise then [] else c.convs
    fit := if rise then none else c.fit
    readback := if rise then none else c.readback
    compl := if en then c.compl else none
    complNoted := en && c.complNoted
    limit := en && c.limit
    known := en && c.known
    lastConv := if rise then s.gt else c.lastConv
    i := if en then c.i else 0
    raw := if en then c.raw else 0 }) s)

/-- Every channel settles. -/
def alSettleAll (s : State) : State := (List.range 4).foldl (fun s x => alSettle x s) s

/-- A publication applies the setpoints at its flip (R21, R299), and the safe values that the generation gives (R103);
the flip is a refresh (R302). -/
def alPublish (cmd : Nat → Option Int) (s : State) : State :=
  (List.range 4).foldl (fun s x =>
    let m := (alPar s x).mode
    let s1 := if !alDrives m then s else match cmd x with
      | none => updAl x (fun c => { c with unassigned := true }) s
      | some v =>
        let k := alClamp m v
        updAl x (fun c => { c with
          unassigned := false, cmd := k.1, clamped := k.2, clamps := if k.2 then c.clamps + 1 else c.clamps }) s
    alSettle x (updAl x (fun c => { c with
      lastRefresh := s1.gt, silent := false, safe := (alPar s x).safeNa }) s1)) s

/-- A channel is retired (R301, R412). -/
def retireAl (x code : Nat) (s : State) : State :=
  if isRetired s (.al x) then s else alSettle x (retireRecord (.al x) code s)

/-- A channel fault of Table 11.3 (R301); codes 1, 4 and 6 feed the bucket. -/
def alFault (x code : Nat) (s : State) : State :=
  let s1 := updAl x (fun c => if alHas c code then c else { c with faults := c.faults ++ [(code, s.gt)] }) s
  let s2 := occurU Code.alpFault (Src.al x) code { s1 with alp := { s1.alp with
    lastSub := x, lastCode := code, count := satInc 0xFFFF s1.alp.count } }
  let s3 := if code = 1 ∨ code = 4 ∨ code = 6 then
      let s3 := bucketAdd (.al x) 8 s2
      if s3.cyc.par.retAtAlp ≤ bucket s3 (.al x) then retireAl x code s3 else s3
    else s2
  alSettle x s3

/-- A fault's condition has ended. -/
def alClear (x code : Nat) (s : State) : State :=
  if alHas (alCh s x) code then
    alSettle x (updAl x (fun c => { c with faults := c.faults.filter (·.1 ≠ code) }) s)
  else s

/-- ALP_CHx (Table 11.8). -/
def alChReg (s : State) (x : Nat) : Nat :=
  let c := alCh s x
  (match (alPar s x).mode with | .off => 0 | .source => 1 | .sink => 2 | .input => 3)
    + 4 * c.clk + 32 * b2n c.limit + 64 * b2n c.atSafe + 128 * b2n c.clamped + 256 * alCode c
    + 4096 * bucket s (.al x)

/-- The status input point of R308. -/
def alStatusPoint (s : State) (x : Nat) : Nat :=
  let c := alCh s x
  (match (alPar s x).mode with | .off => 0 | .source => 1 | .sink => 2 | .input => 3)
    + 4 * c.clk + 32 * b2n c.compl.isSome + 64 * b2n c.atSafe + 128 * b2n c.clamped + 256 * alCode c

/-- The block's registers as they stand (Tables 11.7 to 11.9); CURRENT in units of 10 nA. -/
def alRegsNow (s : State) : List (Nat × Nat) :=
  let each (k : Nat) (f : Nat → Bool) : Nat := ((List.range 4).map fun x => 2 ^ (k + x) * b2n (f x)).sum
  [(0x00, each 0 (fun x => (alCh s x).en)
      + each 4 (fun x => (alPar s x).mode ≠ .off && !(alCh s x).en)
      + each 8 (fun x => isRetired s (.al x)) + each 12 (fun x => (alCh s x).compl.isSome)
      + each 16 (fun x => (alCh s x).silent))]
  ++ ((List.range 4).map fun x => (0x10 + 4 * x, alChReg s x))
  ++ ((List.range 4).map fun x => (0x20 + 4 * x, wrap32 ((alCh s x).i / 10)))
  ++ ((List.range 4).map fun x => (0x30 + 4 * x, wrap32 (alCh s x).v))
  ++ [(0x40, s.alp.transactions + 65536 * s.alp.errors + 2 ^ 24 * s.alp.suppressed),
      (0x44, s.alp.lastSub + 256 * s.alp.lastCode + 65536 * s.alp.count)]

/-- Draw above the floor of each clock step, in nA (Table 11.4). -/
def alDraw : Nat → Nat
  | 0 => 200000
  | 1 => 400000
  | 2 => 800000
  | 3 => 1600000
  | 4 => 3200000
  | _ => 4800000

/-- The highest step whose draw fits the available current, or 0. -/
def alFit (avail : Int) : Nat :=
  ((List.range 6).reverse.find? fun k => decide ((alDraw k : Int) ≤ avail)).getD 0

/-- The current available to a SINK front end: the mean over [t − 10 ms, t) less 3.2 mA (R304). -/
def alAvail (now : Nat) (convs : List (Nat × Int)) : Int :=
  let w := convs.filter fun p => decide (now ≤ p.1 + 10 * ms ∧ p.1 < now)
  if w.isEmpty then 0 else (w.map (·.2)).foldl (· + ·) 0 / w.length - 3200000

/-- The clock at a conversion (R304): down at once to a step that fits; `fit` marks since when the next
step has fitted. -/
def alClock (x : Nat) (s : State) : State :=
  updAl x (fun c =>
    let avail := alAvail s.gt c.convs
    let clk := if (alDraw c.clk : Int) ≤ avail then c.clk else Min.min c.clk (alFit avail)
    { c with
      clk := clk
      fit := if clk = c.clk then mark (decide (clk < 5 ∧ (alDraw (clk + 1) : Int) ≤ avail)) c.fit s.gt else none }) s

/-- Compliance voltage of SOURCE at a setpoint, in mV: 22 V to 20 mA, 21 V at 24 mA, linear between
(Table 11.1, log entry 13). -/
def alComplMv (setNa : Nat) : Int :=
  if setNa ≤ 20000000 then 22000 else 22000 - ((setNa : Int) - 20000000) / 4000

/-- QUAL of a measured current (R298, R300). -/
def alReadQual (p : AlParam) (c : AlChS) : Nat :=
  if c.compl.isSome then qLimited
  else if p.mode = .input && p.namur then
    if c.i ≤ 3600000 || 21000000 ≤ c.i then qNamur
    else if c.i < 3800000 || 20500000 < c.i then qUncertain
    else qGood
  else qGood

/-- The current that a channel with a setpoint is to carry now: on a ramp, the share of the setpoint that the 2 ms have
reached on the module taking ACTIVE, or have left on the other (R310). -/
def alSetNow (s : State) (x : Nat) : Nat :=
  let c := alCh s x
  match s.alp.ramp with
  | some (taking, t0) =>
    let d := Min.min (s.gt - t0) (2 * ms)
    c.set * (if taking then d else 2 * ms - d) / (2 * ms)
  | none => c.set

/-- The compliance, open loop, readback and limiter conditions at a conversion (R300, R301). For an INPUT channel
`noHeadroom` says that its limiter is active. -/
def alJudge (x : Nat) (noHeadroom : Bool) (s : State) : State :=
  let p := alPar s x
  let c := alCh s x
  let set := alSetNow s x
  let limit := c.en && noHeadroom && (match p.mode with
    | .source => decide (alComplMv set - 1000 ≤ c.v)
    | .sink => decide (c.v ≤ 11000)
    | _ => false)
  let short := limit && decide (c.i + 50000 < set)
  let off := c.en && (if p.mode = .input then noHeadroom
    else alDrives p.mode && !limit && decide (200000 < ((c.i - set).natAbs)))
  let s1 := updAl x (fun c => { c with
    limit := limit
    compl := mark short c.compl s.gt
    complNoted := short && c.complNoted
    readback := mark off c.readback s.gt }) s
  let s2 := if off then s1 else alClear x (if p.mode = .input then 3 else 1) s1
  if p.mode = .source && limit && decide (c.i < 50000) then
    if alHas c 2 then s2 else alFault x 2 s2
  else alClear x 2 s2

/-- QUAL override at a commit of a channel's current point (`isI`) or voltage point (R300, R301). -/
def alQual (s : State) (x : Nat) (isI : Bool) : Option Nat :=
  let c := alCh s x
  if isRetired s (.al x) then some qRetired
  else if alHas c 4 || alHas c 6 then some qBad
  else if alHas c 5 then some qNoComm
  else if isI && (alHas c 1 || alHas c 3) then some qBad
  else if isI && alHas c 2 then some qNoComm
  else if isI && c.compl.isSome then some qLimited
  else none

/-- Reading of a local analog source (R126, R308): the newest conversion of an INPUT channel, unfiltered. A current
outside the NAMUR limits is a valid value, which R127 judges (log entry 160). -/
def readAnalog (s : State) (x : Nat) : Reading :=
  let c := alCh s x
  let bad := match alQual s x true with
    | some q => decide (q < 0x40)
    | none => decide (alReadQual (alPar s x) c < 0x40 ∧ alReadQual (alPar s x) c ≠ qNamur)
  if (alPar s x).mode = .input && c.en && !bad then ⟨c.raw, true⟩ else ⟨0, false⟩

/-- A local analog source as the conversions completed before an ILE cycle's start `cn` read it (R13, Table 6.3). -/
def alAtStart (s : State) (cn x : Nat) : Reading :=
  if (alCh s x).lastConv < cn then readAnalog s x else (alCh s x).ilePrev

/-- A conversion completes: what the channel read before it stays known to a cycle that starts at this instant. -/
def alKeep (x : Nat) (s : State) : State :=
  if (alCh s x).lastConv = s.gt then s else updAl x (fun c => { c with ilePrev := readAnalog s x }) s

/-- The largest current that a channel measures: an INPUT channel's limiter holds it at 30 mA, or at 25 mA with
INPUT_PWR (Table 11.1). -/
def alLimitNa (p : AlParam) (na : Int) : Int :=
  if p.mode = .input then Min.min (if p.inputPwr then 25000000 else 30000000) na else na

/-- An INPUT channel's limiter is active: its front end says so, or the current stands at the limit (Table 11.1,
R301). -/
def alLimiter (p : AlParam) (noHeadroom : Bool) (na : Int) : Bool :=
  noHeadroom || (p.mode = .input && decide ((if p.inputPwr then 25000000 else 30000000) ≤ na))

/-- The length of a conversion in ns: 2,000 cycles of the channel's clock (R296, Table 11.4). -/
def alConvTime (clk : Nat) : Nat := 250 * us * 2 ^ (5 - clk)

/-- The readings of a conversion: voltage, and current and raw current of an enabled channel; a SINK channel keeps those
of the last 10 ms and settles its clock. -/
def alMeasure (x : Nat) (na raw mv : Int) (s : State) : State :=
  let s1 := updAl x (fun c => { c with
    v := mv
    i := if c.en then alLimitNa (alPar s x) na else 0
    raw := if c.en then alLimitNa (alPar s x) raw else 0
    lastConv := s.gt
    convs := if (alPar s x).mode = .sink && c.en then
        (c.convs.filter fun q => decide (s.gt ≤ q.1 + 10 * ms)) ++ [(s.gt, na)] else c.convs
    faults := c.faults.filter fun f => f.1 ≠ 4 && f.1 ≠ 5 }) s
  if (alPar s x).mode = .sink && (alCh s1 x).en then alClock x s1 else s1

/-- The loop of a SINK channel has returned: Teasel is to test its front end (R301, Table 18.1 row 8). -/
def feTest (x : Nat) (s : State) : State :=
  if (alPar s x).mode = .sink && alHas (alCh s x) 5 && decide ((UnitId.al x, 1) ∉ s.bst.awaited) then
    bgWant 4 { s with bst := { s.bst with awaited := s.bst.awaited ++ [(.al x, 1)] } }
  else s

/-- The points linked to a channel take its voltage and, when it is enabled, its current. -/
def alDeliver (x : Nat) (mv : Int) (s : State) : State :=
  deliverLink s.chg.cur.points (.alV x) (BitVec.ofNat 64 (wrap64 mv)) (some s.gt) qGood
    (if (alCh s x).en then
      deliverLink s.chg.cur.points (.alI x) (BitVec.ofNat 64 (wrap64 (alCh s x).i)) (some s.gt)
        (alReadQual (alPar s x) (alCh s x)) s
    else s)

/-- The ALP registers show the channels as they now are. -/
def alRegsTake (s : State) : State := { s with alp := { s.alp with regs := alRegsNow s } }

/-- ALP_CONVERSION (R296, R298): one conversion time after the last; a module that does not enable its channel measures
voltage only (R309). -/
def execAlpConversion (t x : Nat) (na raw mv : Int) (noHeadroom : Bool) (s0 : State) :
    Host.Outcome State Fault Refusal :=
  let s := atT t s0
  let p := alPar s x
  .next (if p.mode = .off || 4 ≤ x || fircOnly s || s.gt < (alCh s x).lastConv + alConvTime (alCh s x).clk then s
    else alRegsTake (alDeliver x mv (alSettle x (alJudge x (alLimiter p noHeadroom na) (alMeasure x na raw mv
      (alSettle x (alKeep x (feTest x s))))))))

/-- ALP_REFRESH (R302): a valid refresh ends silence. -/
def execAlpRefresh (t x : Nat) (ok : Bool) (s0 : State) : Host.Outcome State Fault Refusal :=
  let s := atT t s0
  .next (if ok then alSettle x (updAl x (fun c => { c with lastRefresh := s.gt, silent := false }) s) else s)

/-- ALP_LOGIC_SILENT (R302): no valid refresh for AL_TIMEOUT. -/
def execAlpLogicSilent (t x : Nat) (s0 : State) : Host.Outcome State Fault Refusal :=
  let s := atT t s0
  .next (if (alPar s x).mode ≠ .off && decide ((alCh s x).lastRefresh + (alPar s x).timeout ≤ s.gt) then
    alSettle x (updAl x (fun c => { c with silent := true }) s) else s)

/-- ALP_READBACK (R301): a breach that has lasted 100 ms. -/
def execAlpReadback (t x : Nat) (s0 : State) : Host.Outcome State Fault Refusal :=
  let s := atT t s0
  .next (if alDrives (alPar s x).mode && held (alCh s x).readback (100 * ms) s.gt && !alHas (alCh s x) 1 then
      alFault x 1 s
    else s)

/-- OVERRANGE (R301): the limiter of an INPUT channel active for 100 ms. -/
def execOverrange (t x : Nat) (s0 : State) : Host.Outcome State Fault Refusal :=
  let s := atT t s0
  .next (if (alPar s x).mode = .input && held (alCh s x).readback (100 * ms) s.gt && !alHas (alCh s x) 3 then
      alFault x 3 s
    else s)

/-- FE_SILENT or LOOP_LOST (R301): no conversion for four conversion times. -/
def execFeSilent (t x : Nat) (s0 : State) : Host.Outcome State Fault Refusal :=
  let s := atT t s0
  let c := alCh s x
  .next (match (alPar s x).mode with
    | .off => s
    | .sink => if c.en && decide (c.lastConv + 32 * ms ≤ s.gt) && !alHas c 5 then
        alFault x 5 (updAl x (fun c => { c with clk := 0, fit := none, convs := [] }) s) else s
    | _ => if decide (c.lastConv + ms ≤ s.gt) && !alHas c 4 && !fircOnly s then alFault x 4 s else s)

/-- FE_CHECK (R301): the front end's reference check, every 1 s. -/
def execFeCheck (t x : Nat) (ok : Bool) (s0 : State) : Host.Outcome State Fault Refusal :=
  let s := atT t s0
  .next (if (alPar s x).mode = .off || fircOnly s then s else if ok then alClear x 6 s else alFault x 6 s)

/-- AL_COMPLIANCE (R300): COMPLIANCE held for 2 s, once for the episode. -/
def execAlCompliance (t x : Nat) (s0 : State) : Host.Outcome State Fault Refusal :=
  let s := atT t s0
  .next (if held (alCh s x).compl (2 * sec) s.gt && !(alCh s x).complNoted then
    occur Code.alCompliance (Src.al x) 0 (updAl x (fun c => { c with complNoted := true }) s) else s)

/-- ALP_CLOCK_STEP_UP (R304): the next step has fitted for 50 ms. -/
def execAlpClockStepUp (t x : Nat) (s0 : State) : Host.Outcome State Fault Refusal :=
  let s := atT t s0
  .next (if (alPar s x).mode = .sink && held (alCh s x).fit (50 * ms) s.gt && decide ((alCh s x).clk < 5) then
    updAl x (fun c => { c with
      clk := c.clk + 1
      fit := if c.clk + 1 < 5 ∧ (alDraw (c.clk + 2) : Int) ≤ alAvail s.gt c.convs then some s.gt else none }) s
    else s)

/-! ### HART -/

/-- A transaction has ended and is counted (R306). -/
def hartCount (x : Nat) (failed : Bool) (s : State) : State :=
  let s1 := updAl x (fun c => { c with job := none }) s
  { s1 with alp := { s1.alp with
    transactions := satInc 0xFFFF s.alp.transactions
    errors := if failed then satInc 0xFF s.alp.errors else s.alp.errors } }

/-- A transaction has ended: counted, and the next begins (R306). -/
def hartEnd (x : Nat) (failed : Bool) (s : State) : State := hartNext x (hartCount x failed s)

/-- No device answers the identification: a pass-through that waits takes its turn, else it is repeated (R306). -/
def hartUnknown (x : Nat) (s : State) : State :=
  let s1 := hartCount x true s
  match (alCh s1 x).passQ with
  | j :: r => hartStart x j (updAl x (fun c => { c with passQ := r }) s1)
  | [] => hartNext x s1

/-- An attempt fails: two retries, then the entry's points turn BAD_NO_COMM, or the pass-through completes
HART_FAIL (R306, Table 13.10). -/
def hartFailed (x : Nat) (s : State) : State :=
  match (alCh s x).job with
  | none => s
  | some (j, _, n) =>
    if n < 2 then
      let s1 := hartStart x j s
      updAl x (fun c => { c with job := some (j, s.gt, n + 1) }) s1
    else match j with
      | .identify => hartUnknown x s
      | .poll k =>
        let pts := ((alPar s x).poll[k]?.map (·.points)).getD []
        hartEnd x true (updAl x (fun c => { c with badPts := (c.badPts ++ pts).eraseDups }) s)
      | .pass c era _ _ =>
        hartEnd x true (if era = s.hxp.era then complete c 0x62 .hartFail none 0 0 s else s)

/-- HART_RESPONSE (R306): the response data bytes fill the entry's points in order, padded with zeros. -/
def execHartResponse (t x : Nat) (r : HartReply) (s0 : State) : Host.Outcome State Fault Refusal :=
  let s := atT t s0
  .next (match (alCh s x).job with
    | none => s
    | some (j, _, _) =>
      if r.commErr then hartFailed x s
      else match j with
        | .identify => hartEnd x false (updAl x (fun c => { c with known := true }) s)
        | .poll k =>
          let pts := ((alPar s x).poll[k]?.map (·.points)).getD []
          let s1 := (pts.zip (List.range pts.length)).foldl (fun s q =>
            deliver q.1 (BitVec.ofNat 64 (field r.data (8 * q.2) 8)) (some s.gt) qGood s) s
          hartEnd x false (updAl x (fun c => { c with badPts := c.badPts.filter fun a => !(a ∈ pts) }) s1)
        | .pass c era _ _ =>
          hartEnd x false (if era = s.hxp.era then
            doneBuf c 0x62 (r.data.take (Min.min 256 c.bufLen)) (r.respCode % 256 + 256 * (r.devStatus % 256)) s
                else s))

/-- HART_TIMEOUT (R306): no response within 500 ms. -/
def execHartTimeout (t x : Nat) (s0 : State) : Host.Outcome State Fault Refusal :=
  let s := atT t s0
  .next (match (alCh s x).job with
    | none => s
    | some (_, at_, _) => if at_ + 500 * ms ≤ s.gt then hartFailed x s else s)

/-- The write commands of the HART universal and common practice sets (log entry 14). -/
def hartWrites : List Nat :=
  [6, 17, 18, 19, 22, 34, 35, 36, 37, 38, 40, 41, 42, 43, 44, 45, 46, 47, 49, 51, 53, 54, 55, 56, 58, 59]

/-- A binary32 of an exact ratio, or a free value where the configured limits are not numbers. -/
def hartPv (free lo hi set : Nat) : Nat :=
  match fDecode 8 23 lo, fDecode 8 23 hi with
  | .fin a sc, .fin b _ => toF32 (a * 16000000 + (b - a) * ((set : Int) - 4000000)) (16000000 * 2 ^ sc)
  | _, _ => Config.freeNat free

/-- The data of a field device's answer (R307): commands 0, 1, 2, 3 and 48; floats most significant byte
first (log entry 14). -/
def hartAnswer (s : State) (x cmd : Nat) : Option (List Byte) :=
  let p := alPar s x
  let c := alCh s x
  let pv := be 4 (hartPv s.free p.pvLow.toNat p.pvHigh.toNat c.set)
  let i := be 4 (toF32 c.set 1000000)
  match cmd with
  | 0 => some p.identity
  | 1 => some (le 1 p.pvUnit ++ pv)
  | 2 => some (i ++ be 4 (toF32 (((c.set : Int) - 4000000) * 100) 16000000))
  | 3 => some (i ++ le 1 p.pvUnit ++ pv)
  | 48 => some (le 1 (b2n c.compl.isSome) ++ le 1 c.clk ++ le 1 (alCode c))
  | _ => none

/-- A request is addressed to the channel (R305, R307): polling address 0 in a short frame, its own address in a long
one. -/
def hartMine (r : HartReq) : Bool := if r.long then r.own else r.poll = 0

/-- HART_REQUEST (R307): a SINK channel answers as a field device, in the request's format, unless its clock is below
1 MHz. -/
def execHartRequest (t x cmd : Nat) (r : HartReq) (s0 : State) : Host.Outcome State Fault Refusal :=
  let s := atT t s0
  let c := alCh s x
  .next (if (alPar s x).mode ≠ .sink || !c.en || 4 ≤ x || !hartMine r then s
    else if c.clk < 2 then { s with alp := { s.alp with suppressed := satInc 0xFF s.alp.suppressed } }
    else
      let s1 := { s with alp := { s.alp with transactions := satInc 0xFFFF s.alp.transactions }, free := s.free + 1 }
      match hartAnswer s x cmd with
      | some d => emit (.hart x r.long cmd ([0, 0] ++ d)) s1
      | none => emit (.hart x r.long cmd [if cmd ∈ hartWrites then 7 else 64, 0]) s1)

/-- QUAL override of a HART point at a commit (R306). -/
def hartQual (s : State) (x addr : Nat) : Option Nat :=
  if isRetired s (.al x) then some qRetired else if addr ∈ (alCh s x).badPts then some qNoComm else none

/-- A channel's mode or a parameter that restarts it changes between two configurations. -/
def alRestarts (o n : AlParam) : Bool :=
  !(o.mode = n.mode && o.inputPwr = n.inputPwr && o.namur = n.namur && o.timeout = n.timeout)

/-- The analog configuration of a generation takes effect (R295): a changed channel mode restarts its
channel (it comes in IDLE only, Table 4.2). A new AL_SAFE waits for the first publication (R103). -/
def alConfigure (par : List AlParam) (s0 : State) : State :=
  let s := (List.range 4).foldl (fun s x =>
    if alRestarts (alPar s x) (par.getD x alParamOff) then hartDrop x s else s) s0
  alSettleAll { s with alp := { s.alp with
    par := par
    ch := (List.range 4).map fun x =>
      if alRestarts (alPar s x) (par.getD x alParamOff) then
        { alChReset with lastRefresh := s.gt, lastConv := s.gt, safe := (par.getD x alParamOff).safeNa }
      else alCh s x } }

end Sys2Proof.Machine
end

