-- ==== Sys2Proof/Machine/Bounds.lean ====
section
/-! DEFINITION. Tier ceilings and clocks, scan bounds, their flags and the wanted tier (R392, R393, R396 to R398). -/

namespace Sys2Proof.Machine

/-- Power ceiling of a tier in 0.1 W (Table 16.1). -/
def ceiling : Nat → Nat
  | 0 => 280
  | 1 => 230
  | 2 => 190
  | _ => 150

/-- D0 clock of a tier in MHz (Table 16.1). -/
def tierMhz : Nat → Nat
  | 0 => 1200
  | 1 => 1000
  | 2 => 800
  | _ => 600

/-- t_allow (R393). -/
def tAllow (s : State) : Nat :=
  if 280 ≤ s.hl.allow then 0 else if 230 ≤ s.hl.allow then 1 else if 190 ≤ s.hl.allow then 2 else 3

/-- Cells in service (R396). -/
def cellsIn (s : State) : Nat := ((List.range 4).filter fun c => !isRetired s (.cell c)).length

/-- Scan bound B_t in µs, rounded up (R396, log entry 10). -/
def scanBound (s : State) (t : Nat) : Nat :=
  let n := Max.max 1 (cellsIn s)
  let x := 22 * Max.max (s.hl.pMax * n) s.hl.wMax
  let d := 10 * n * tierMhz t
  s.hl.nMax + (x + d - 1) / d

/-- The wanted tier the pair runs at next (R47): the higher-numbered of the two in ACTIVE and STANDBY.
A partner's want is held in `partnerWant`. -/
def wantPair (s : State) : Nat :=
  if s.mod.tup.role = .active ∨ s.mod.tup.role = .standby then Max.max s.hl.want s.hl.partnerWant
  else s.hl.want

/-- The published bound of a tier: none stands before the first executing cycle (Table 16.10). -/
def boundNow (s : State) (t : Nat) : Nat :=
  if s.hl.cycles = 0 then 0xFFFFFFFF else Min.min 0xFFFFFFFF (scanBound s t)

/-- A bound exceeds a limit once an executing cycle has run. -/
def boundOver (s : State) (t limitNs : Nat) : Bool := s.hl.cycles ≠ 0 && decide (limitNs < scanBound s t * us)

/-- Write a code when a flag rises. -/
def onRise (was now : Bool) (code : Nat) (s : State) : State :=
  if now && !was then occur code Src.heat 0 s else s

/-- The flags of Table 16.3 (R398), each rise writing its code; SCAN_RISK is MOD_STATUS's (R52). -/
def hlFlags (s : State) : State :=
  let w := s.cyc.par.scanWdt
  let k := tierNum s.mod.tup.tier
  let near := s.hl.cycles ≠ 0 && decide (8 * w < 10 * (scanBound s k * us))
  let ar := boundOver s (tAllow s) w
  let t3 := boundOver s 3 w
  let risk := boundOver s k w || boundOver s (wantPair s) w
  let s1 := { s with
    hl := { s.hl with near := near, allowRisk := ar, t3Risk := t3 }
    mod := { s.mod with scanRisk := risk } }
  onRise s.mod.scanRisk risk Code.scanRisk
    (onRise s.hl.t3Risk t3 Code.t3Risk
      (onRise s.hl.allowRisk ar Code.allowRisk (onRise s.hl.near near Code.scanNear s1)))

/-- A rule of Table 16.2 sets the wanted tier (R393): HL_TIER with the rule at a change. -/
def wantTier (rule k : Nat) (s : State) : State :=
  if s.hl.want = k then s
  else hlFlags (occurU Code.hlTier Src.heat rule
    { s with hl := { s.hl with want := k, rule := rule, lastChange := s.gt } })

/-- The largest values restart (R397). -/
def hlRestart (s : State) : State :=
  hlFlags { s with hl := { s.hl with nMax := 0, pMax := 0, wMax := 0, cycles := 0 } }

end Sys2Proof.Machine
end

