-- ==== Sys2Proof/Machine/Can.lean ====
section
/-! DEFINITION. CAN FD ports (chapter 12). -/

namespace Sys2Proof.Machine

/-- Port x. -/
def canPort (s : State) (x : Nat) : CanPortS := s.can.ports.getD x canPortReset

/-- Parameters of port x. -/
def canPar (s : State) (x : Nat) : CanParam := s.can.par.getD x canParamOff

/-- Change one port. -/
def updCan (x : Nat) (f : CanPortS → CanPortS) (s : State) : State :=
  { s with can := { s.can with ports := updAt s.can.ports x f } }

/-- The module participates in its CAN buses (R320): SOLO or ACTIVE in IDLE, RUN or HOLD. -/
def canDriver (s : State) : Bool :=
  let m := s.mod.tup
  (m.role = .solo || m.role = .active) && (m.run = .idle || m.run = .run || m.run = .hold) && !fircOnly s

/-- Port x participates: enabled, not retired and not held in restricted operation (R320, R325). -/
def canLive (s : State) (x : Nat) : Bool :=
  canDriver s && !blkClosed s 7 && (canPar s x).en && !isRetired s (.can x) && (canPort s x).held = none

/-- An entry is discarded with a cause: 1 FULL, 2 STALE, 3 SLEEP, 4 DRIVER, 5 RETIRED (R315). -/
def canDrop (x cause : Nat) (s : State) : State :=
  occurU Code.canTxDrop (Src.can x) cause (updCan x (fun p => { p with dropped := satInc 0xFFFF p.dropped }) s)

/-- The head entry's transmission has begun: it is completed or retried, whatever becomes of the port (R315). -/
def canBegun (s : State) (x : Nat) : Bool := ((canPort s x).fifo.head?.map (·.begun)).getD false

/-- Every entry of the FIFO but a frame whose transmission has begun is discarded with a cause (R315). -/
def canFlush (x cause : Nat) (s : State) : State :=
  let p := canPort s x
  let keep := if canBegun s x then p.fifo.take 1 else []
  let n := p.fifo.length - keep.length
  (List.range n).foldl (fun s _ => canDrop x cause s) (updCan x (fun p => { p with fifo := keep }) s)

/-- Every CAN port disabled or retired: the controller's clock is gated (R385). -/
def canGate (s : State) : State :=
  if (List.range 4).all fun x => !(canPar s x).en || isRetired s (.can x) then gateClose 7 s else gateOpen 7 s

/-- A port is retired (R326): its FIFO is discarded with cause RETIRED. -/
def retireCan (x code : Nat) (s : State) : State :=
  if isRetired s (.can x) then s
  else canGate (canFlush x 5 (updCan x (fun p => { p with sleepAfter := false, wakeAfter := none, readmit := false })
    (retireRecord (.can x) code s)))

/-- A fault of Table 12.2 (R325): CAN_FAULT with its code; CHANNEL faults (4, 5) feed the bucket. -/
def canFault (x code : Nat) (s : State) : State :=
  let s1 := occurU Code.canFault (Src.can x) code { s with can := { s.can with
    lastSub := x, lastCode := code, faults := satInc 0xFFFF s.can.faults } }
  if code = 4 ∨ code = 5 then
    let s2 := bucketAdd (.can x) 8 s1
    if s2.cyc.par.retAtCan ≤ bucket s2 (.can x) then retireCan x code s2 else s2
  else s1

/-- Enter sleep (R322): the FIFO is discarded, WOKE clears. -/
def canSleepNow (x : Nat) (s : State) : State :=
  updCan x (fun p => { p with sleep := true, sleepAfter := false, woke := false }) (canFlush x 3 s)

/-- SLEEP_REQ rises: sleep at once, or when the frame whose transmission has begun ends. -/
def canSleepReq (x : Nat) (s : State) : State :=
  if canBegun s x then
    updCan x (fun p => { p with sleepAfter := true, wakeAfter := none, woke := false }) (canFlush x 3 s)
  else canSleepNow x s

/-- The data bytes of a transmit object from its points' VALUEs, in order (R314). Bytes that its points do not reach
have no value that the manual gives (log entry 167); `free` names them. -/
def canData (img : Nat → Entry) (o : TxObj) (free : Nat) : List Byte :=
  let b := (o.points.map fun a => le 8 (img a).value.toNat).flatten
  b.take o.len ++ (List.range (o.len - b.length)).map fun i => Config.freeByte (2 ^ 45 + 64 * free + i)

/-- One entry arrives at a port's FIFO (R315). -/
def canQueue (x : Nat) (e : CanEntry) (s : State) : State :=
  let p := canPort s x
  if isRetired s (.can x) then canDrop x 5 s
  else if p.sleep || p.sleepAfter then canDrop x 3 s
  else if (canPar s x).txDepth ≤ p.fifo.length then canDrop x 1 s
  else updCan x (fun p => { p with fifo := p.fifo ++ [e] }) s

/-- Whether an object's trigger fires at a publication (R314); k counts executing publications. -/
def canTriggered (img : Nat → Entry) (o : TxObj) (k : Nat) : Bool :=
  match o.trigger with
  | .every => true
  | .change => o.points.any fun a => (img a).changed
  | .everyN n => decide (k % Max.max 1 n = 0)

/-- Transmit objects with their indices in ascending address of their first point. -/
def canOrder (os : List TxObj) : List (Nat × TxObj) :=
  sortBy (fun a b => decide (a.2.points.headD 0 ≤ b.2.points.headD 0)) ((List.range os.length).zip os)

/-- Queue the entries of one publication on one port. -/
def canQueueAll (img : Nat → Entry) (x : Nat) (s : State) : State :=
  (canOrder (canPar s x).tx).foldl (fun s o =>
    let k := (canPort s x).counts.getD o.1 1
    if canTriggered img o.2 k then
      canQueue x ⟨o.2.id, o.2.ide, o.2.fdf, o.2.brs, canData img o.2 (1024 * k + 256 * x + o.1), s.gt, false⟩ s
    else s) s

/-- The control output point at a publication (R322, R324). -/
def canControl (img : Nat → Entry) (x : Nat) (s : State) : State :=
  match (canPar s x).ctl with
  | none => s
  | some a =>
    let req := (img a).value.getLsbD 0
    let was := (canPort s x).sleepReq
    let s1 := updCan x (fun p => { p with sleepReq := req }) s
    if req && !was then canSleepReq x s1
    else if !req && was then
      updCan x (fun p => { p with sleep := false, sleepAfter := false, wakeAfter := none, woke := p.woke && !p.sleep }) s1
    else s1

/-- What a publication does at the CAN ports (R21, R314): the control point, then the triggered
entries of an executing publication on the driving module. -/
def canPublish (img : Nat → Entry) (executing : Bool) (s0 : State) : State :=
  let s := { s0 with can := { s0.can with pubExec := executing } }
  (List.range 4).foldl (fun s x =>
    if !(canPar s x).en then s else
    let s1 := canControl img x s
    if !executing then s1 else
      let n := (canPar s1 x).tx.length
      let s2 := updCan x (fun p => { p with counts := (List.range n).map fun i => p.counts.getD i 0 + 1 }) s1
      if canDriver s2 then canQueueAll img x s2 else s2) s

/-- The module takes ACTIVE or SOLO: it queues the entries of its last publication, those of the objects that it
triggered (R321); one of a cycle in IDLE or HOLD triggers none (R314, R37). -/
def canTakeOver (img : Nat → Entry) (s : State) : State :=
  (List.range 4).foldl (fun s x => if (canPar s x).en && s.can.pubExec then canQueueAll img x s else s) s

/-- The module leaves ACTIVE: remaining entries are discarded with cause DRIVER (R321). -/
def canRelease (s : State) : State := (List.range 4).foldl (fun s x => canFlush x 4 s) s

/-- An entry that has not begun within TX_STALE of its queuing (R315). -/
def canStale (s : State) (x : Nat) (e : CanEntry) : Bool :=
  !e.begun && decide ((canPar s x).txStale ≠ 0 ∧ e.at_ + (canPar s x).txStale < s.gt)

/-- The FIFO at an arbitration start: entries gone stale at its head are discarded, and the one behind them begins. -/
def canBegin (x : Nat) : List CanEntry → State → State
  | [], s => updCan x (fun p => { p with fifo := [] }) s
  | e :: r, s =>
    if canStale s x e then canBegin x r (canDrop x 2 s)
    else updCan x (fun p => { p with fifo := { e with begun := true } :: r, sending := true }) s

/-- CAN_ARBITRATION_START (R315): the head entry begins, or is discarded as stale. A frame that has begun is retried
even by a port that participates no more. -/
def execCanArbitrationStart (t x : Nat) (s0 : State) : Host.Outcome State Fault Refusal :=
  let s := atT t s0
  let p := canPort s x
  .next (if p.sending || p.sleep || p.err = 2 || p.held.isSome || !(canLive s x || canBegun s x) then s
    else canBegin x p.fifo s)

/-- CAN_ARBITRATION_LOST (R315): the entry stays and is retried. -/
def execCanArbitrationLost (t x : Nat) (s : State) : Host.Outcome State Fault Refusal :=
  .next (updCan x (fun p => { p with sending := false }) (atT t s))

/-- Deliver a frame to the first matching object (R318). -/
def canTake (x : Nat) (f : CanFrame) (s : State) : State :=
  let os := (canPar s x).rx
  let hit (o : RxObj) : Bool := decide (f.id &&& o.mask = o.id &&& o.mask) && f.ide = o.ide
  match ((List.range os.length).zip os).find? fun o => hit o.2 with
  | none => updCan x (fun p => { p with unmatched := satInc 0xFFFF p.unmatched }) s
  | some o =>
    let s1 := ((List.range o.2.points.length).zip o.2.points).foldl (fun s q =>
      deliver q.2 (BitVec.ofNat 64 (field f.data (8 * q.1) 8)) none qGood s) s
    updCan x (fun p => { p with
      received := satInc 0xFFFF p.received, badObjs := p.badObjs.filter (· ≠ o.1) }) s1

/-- A wake frame of FRAME mode (R323). -/
def canWakeFrame (q : CanParam) (f : CanFrame) : Bool :=
  let d := ofLe (f.data.take 8)
  !f.fdf && !f.rtr && decide (f.id &&& q.wakeMask = q.wakeId &&& q.wakeMask) && f.ide = q.wakeIde && f.dlc = q.wakeDlc
    && decide (d &&& q.wakeDmask.toNat = q.wakeData.toNat &&& q.wakeDmask.toNat)

/-- What the bus shows wakes a sleeping port (R323): a dominant level in EDGE mode, a wake frame in FRAME mode. -/
def canWakes (q : CanParam) (f : Option CanFrame) : Bool := !q.wakeFrame || f.any (canWakeFrame q)

/-- A port's wake (R323): WOKE, the cause, CAN_WAKE, and the wake frame delivered in FRAME mode. -/
def canWakeNow (x : Nat) (f : Option CanFrame) (s : State) : State :=
  let q := canPar s x
  if !canWakes q f then s else
    let s1 := occur Code.canWake (Src.can x) 0
      (updCan x (fun p => { p with sleep := false, woke := true, wakeCause := q.wakeFrame }) s)
    match f with
    | some f => if q.wakeFrame then canTake x f s1 else s1
    | none => s1

/-- CAN_TX_COMPLETE (R315): the head entry leaves the FIFO; the error counters are ISO 11898-1's. A sleep
or wake that waited for the frame follows (R322, R324). -/
def execCanTxComplete (t x tec rec : Nat) (s0 : State) : Host.Outcome State Fault Refusal :=
  let s := atT t s0
  let p := canPort s x
  .next (match p.fifo with
    | [] => s
    | e :: r =>
      if !p.sending then s else
        let s1 := emit (.can x e.id e.ide e.fdf e.brs (p.err = 1) e.data) (updCan x (fun p => { p with
          fifo := r
          sending := false
          sent := satInc 0xFFFF p.sent
          tec := tec
          recv := rec
          err := if p.err = 1 ∧ tec < 128 ∧ rec < 128 then 0 else p.err }) s)
        if p.sleepAfter then
          let s2 := canSleepNow x s1
          match p.wakeAfter with
          | none => s2
          | some f => canWakeNow x f (updCan x (fun p => { p with wakeAfter := none }) s2)
        else s1)

/-- CAN_FRAME_RECEIVED (R318). Remote frames are ignored (R312), and FD frames in CLASSIC mode. The error count is ISO
11898-1's (R325). -/
def execCanFrameReceived (t x : Nat) (f : CanFrame) (s0 : State) : Host.Outcome State Fault Refusal :=
  let s := atT t s0
  let p := canPort s x
  .next (if !(canPar s x).en || isRetired s (.can x) || p.sleep || (f.fdf && !(canPar s x).fd)
      || p.err = 2 || fircOnly s || 4 ≤ x then s
    else
      let s1 := updCan x (fun p => { p with
        stuck := false
        recv := f.errs
        err := if p.err = 1 ∧ p.tec < 128 ∧ f.errs < 128 then 0 else p.err }) s
      if f.rtr then s1 else canTake x f s1)

/-- CAN_BUS_OFF (R325): a transmit error count above 255; the loopback check decides between BUS_OFF and
LOOPBACK_FAIL. -/
def execCanBusOff (t x : Nat) (e : CanOff) (s0 : State) : Host.Outcome State Fault Refusal :=
  let s := atT t s0
  .next (if !canLive s x || e.tec ≤ 255 then s else
    let s1 := updCan x (fun p => { p with
      err := 2, sending := false, tec := e.tec, recv := e.rec_, held := if e.loopOk then none else some s.gt }) s
    canFault x (if e.loopOk then 1 else 4) s1)

/-- CAN_BUS_OFF_RECOVERED (R325): after 128 occurrences of 11 recessive bits. -/
def execCanBusOffRecovered (t x : Nat) (s0 : State) : Host.Outcome State Fault Refusal :=
  let s := atT t s0
  .next (if (canPort s x).err = 2 then updCan x (fun p => { p with err := 0, tec := 0, recv := 0 }) s else s)

/-- CAN_ERROR_PASSIVE (R325): an error count of 128 or more. -/
def execCanErrorPassive (t : Nat) (e : CanErr) (s0 : State) : Host.Outcome State Fault Refusal :=
  let s := atT t s0
  let x := e.port
  .next (if canLive s x && (canPort s x).err = 0 && decide (128 ≤ e.tec ∨ 128 ≤ e.rec_) then
    canFault x 2 (updCan x (fun p => { p with err := 1, tec := e.tec, recv := e.rec_ }) s) else s)

/-- STUCK_DOMINANT (R325): the bus dominant for 1 ms while the port is not transmitting. -/
def execStuckDominant (t x : Nat) (s0 : State) : Host.Outcome State Fault Refusal :=
  let s := atT t s0
  .next (if (canPar s x).en && !isRetired s (.can x) && !fircOnly s && !(canPort s x).sending then
    canFault x 3 (updCan x (fun p => { p with stuck := true }) s) else s)

/-- TXD_TIMEOUT (R325): held in restricted operation. -/
def execTxdTimeout (t x : Nat) (s0 : State) : Host.Outcome State Fault Refusal :=
  let s := atT t s0
  .next (if canLive s x then
    canFault x 5 (updCan x (fun p => { p with held := some s.gt, sending := false }) s) else s)

/-- LOOPBACK_RETRY (R325): a held port repeats its loopback check 1 s later. -/
def execLoopbackRetry (t x : Nat) (ok : Bool) (s0 : State) : Host.Outcome State Fault Refusal :=
  let s := atT t s0
  .next (match (canPort s x).held with
    | none => s
    | some h =>
      if h + sec ≤ s.gt then
        if ok then updCan x (fun p => { p with held := none }) s
        else canFault x 4 (updCan x (fun p => { p with held := some s.gt }) s)
      else s)

/-- CAN_WAKE (R323, R324): the first wake during the completion of the last frame before sleep waits for the sleep. -/
def execCanWake (t x : Nat) (frame : Option CanFrame) (s0 : State) : Host.Outcome State Fault Refusal :=
  let s := atT t s0
  let p := canPort s x
  .next (if isRetired s (.can x) || fircOnly s then s
    else if p.sleep then canWakeNow x frame s
    else if p.sleepAfter && p.wakeAfter = none && canWakes (canPar s x) frame then
      updCan x (fun p => { p with wakeAfter := some frame }) s
    else s)

/-- CAN_RECESSIVE_BITS (R413): a port whose READMIT loopback check passed returns. -/
def execCanRecessiveBits (t x : Nat) (s0 : State) : Host.Outcome State Fault Refusal :=
  let s := atT t s0
  .next (if (canPort s x).readmit && isRetired s (.can x) then
    canGate (updCan x (fun p => { p with
      readmit := false, held := none, err := 0, tec := 0, recv := 0, sleep := false, sleepAfter := false
      wakeAfter := none })
      (readmitRecord (.can x) s)) else s)

/-- CAN_PORTx's ERR_STATE (Table 12.5). -/
def canErrState (s : State) (x : Nat) : Nat := if canLive s x then (canPort s x).err else 3

/-- A port's status input point (R322). -/
def canStatusPoint (s : State) (x : Nat) : Nat :=
  let p := canPort s x
  canErrState s x + 4 * b2n p.sleep + 8 * b2n p.woke + 16 * b2n p.wakeCause
    + 32 * b2n (isRetired s (.can x)) + 64 * p.fifo.length

/-- The receive points' condition at a commit (R319): a port that is bus-off, sleeping, stuck, not enabled or retired
marks every object until its next frame. -/
def canCommitBad (s : State) : State :=
  (List.range 4).foldl (fun s x =>
    let p := canPort s x
    if p.err = 2 || p.sleep || p.stuck || !(canPar s x).en || isRetired s (.can x) then
      updCan x (fun p => { p with badObjs := List.range (canPar s x).rx.length }) s
    else s) s

/-- QUAL override of a CAN receive point at a commit: 0 none, else BAD_NO_COMM or BAD_CHANNEL_RETIRED
with the codes given. -/
def canQual (s : State) (x addr noComm retired : Nat) : Nat :=
  if isRetired s (.can x) then retired
  else
    let os := (canPar s x).rx
    if ((List.range os.length).zip os).any fun o => addr ∈ o.2.points && o.1 ∈ (canPort s x).badObjs then noComm
    else 0

/-- CAN registers as they stand (Tables 12.4 to 12.6). -/
def canRegsNow (s : State) : List (Nat × Nat) :=
  let each (f : Nat → Nat) : Nat := ((List.range 4).map f).sum
  [(0x00, each fun x => 2 ^ x * b2n (canPar s x).en + 2 ^ (4 + x) * b2n (canPort s x).sleep
      + 2 ^ (8 + x) * b2n (isRetired s (.can x))
      + 2 ^ (12 + x) * b2n ((canPar s x).en && !isRetired s (.can x) && !canLive s x))]
  ++ ((List.range 4).map fun x =>
    let p := canPort s x
    (0x10 + 4 * x, canErrState s x + 4 * bucket s (.can x) + 256 * p.fifo.length + 2 ^ 15 * b2n p.woke
      + 2 ^ 16 * Min.min 255 p.tec + 2 ^ 24 * Min.min 255 p.recv))
  ++ ((List.range 4).map fun x => (0x20 + 4 * x, (canPort s x).sent + 65536 * (canPort s x).dropped))
  ++ ((List.range 4).map fun x => (0x30 + 4 * x, (canPort s x).received + 65536 * (canPort s x).unmatched))
  ++ [(0x40, s.can.lastSub + 256 * s.can.lastCode + 65536 * s.can.faults)]

end Sys2Proof.Machine
end

