-- ==== Sys2Proof/Machine/Gates.lean ====
section
/-! DEFINITION. Access gates and memory colours (chapter 14): ranges, the check of R362, violations,
arming, the generation's gate setup, and the debug unlock. -/

namespace Sys2Proof.Machine

/-- The regions of the on-die SRAM (Table 1.3) with their sizes and their colour and lock (Table 14.2), in the order of
their addresses: the images, the force table, the three lane sets, the Oxuger and Plovlink buffers, and what stands
under colour 13 (recorder working space, gate tags, supervisor and housekeeping). -/
def sramRegions : List (Nat × Nat × Nat) :=
  [(0x400000, 4, 1), (0x400000, 5, 2), (0x100000, 6, 3), (0x600000, 7, 4), (0x600000, 8, 5), (0x600000, 9, 6),
    (0x400000, 10, 0), (0x200000, 11, 0), (0x100000, 13, 0), (0x100000, 13, 0), (0xD00000, 13, 0)]

/-- The windows of the tagged DRAM (Table 1.4): program code of the current, staged and previous generation, program
variables of the current and staged generation, configuration working copies, resync and missed-slice buffers, firmware
staging, and the working store. They stand in the order of the table (log entry 153). -/
def dramWindows : List Nat :=
  [0x10000000, 0x10000000, 0x10000000, 0x40000000, 0x40000000, 0x20000000, 0x10000000, 0x10000000, 0x10000000]

/-- Where the on-die SRAM and the DRAM begin. -/
def sramBase : Nat := 0x10000000
def dramBase : Nat := 0x100000000

/-- The region i of the SRAM, from and to. -/
def sramRegion (i : Nat) : Nat × Nat :=
  let sizes := sramRegions.map (·.1)
  (sramBase + (sizes.take i).sum, sramBase + (sizes.take (i + 1)).sum)

/-- The window i of the tagged DRAM, from and to. -/
def dramWindow (i : Nat) : Nat × Nat := (dramBase + (dramWindows.take i).sum, dramBase + (dramWindows.take (i + 1)).sum)

/-- The 10 GiB behind the tagged DRAM: 14 of the 16 GiB are addressable (R24). -/
def secureStore : Nat × Nat := (dramBase + dramWindows.sum, dramBase + 14 * 2 ^ 30)

/-- Only the supervisor and Teasel reach the secure-world store: every other master stops at the check of the world
(R24, R367, log entry 153). -/
def storeMaster (m : Nat) : Bool := m = 4 || m = 15

/-- Address ranges of gates 0 to 15 (Table 14.1). -/
def gateRange : Nat → Nat × Nat
  | 0 => (sramBase, sramBase + (sramRegions.map (·.1)).sum)
  | 1 => (dramBase, secureStore.1)
  | 2 => secureStore
  | 3 => (0x20000000, 0x24000000)
  | n => (0x30000000 + (n - 4) * 0x100000, 0x30000000 + (n - 3) * 0x100000)

/-- Tagged gates (Table 14.1). -/
def gateTagged (n : Nat) : Bool := n = 0 || n = 1 || n = 3

/-- The gate whose range holds an address. -/
def gateAt (a : Nat) : Option Nat :=
  (List.range 16).find? fun n => decide ((gateRange n).1 ≤ a ∧ a < (gateRange n).2)

/-- Colour keys a master issues (Table 14.3). -/
def masterKeys : Nat → List Nat
  | 4 => List.range 15
  | 5 => [7, 5, 10, 11]
  | 6 => [8, 5, 10, 11]
  | 7 => [9, 5, 10, 11]
  | 8 => [4, 5, 6, 10, 13, 14]
  | 9 => [10]
  | 10 => [2, 3, 4, 5, 6, 11, 14]
  | 11 => [4, 5, 14]
  | 12 => [13]
  | 13 => [13]
  | 14 => [13]
  | 15 => List.range 15
  | 16 => [2, 12, 13, 14]
  | 17 => [15]
  | n => if n < 4 then [1, 2, 4, 5, 6, 13] else []

/-- Descriptors of the active bank. -/
def activeBank (g : Gate) : Tab Region := if g.bank then g.bank1 else g.bank0

/-- Lowest-index used region that contains a granule (Table 14.5, check 3). -/
def regionOf (t : Tab Region) (granule : Nat) : Option (Nat × Region) :=
  t.find? fun p => decide (p.2.limitG ≠ 0 ∧ p.2.baseG ≤ granule ∧ granule < p.2.limitG)

/-- Tag of a granule: the colour of the regions that cover it, colour 0 where none does (R357). -/
def tagOf (t : Tab Region) (granule : Nat) : Nat :=
  match regionOf t granule with
  | some p => p.2.colour
  | none => 0

/-- RIGHTS bit of a transaction: UR, UW, UX, PR, PW, PX (Table 14.4). -/
def rightBit (priv : Bool) (kind : Nat) : Nat := kind + 3 * b2n priv

/-- Checks 3 to 8 of Table 14.5 on one granule: the failing check, with the region index (0x3F none). -/
def checkGranule (s : State) (n : Nat) (a : Access) (granule : Nat) : Option (Nat × Nat) :=
  let bank := activeBank (gateOf s n)
  let tag := tagOf bank granule
  let tagBad := gateTagged n && (granule ∈ a.tagErr || (a.key ≠ tag && a.key ≠ 15))
  match regionOf bank granule with
  | none =>
    if !a.priv then some (3, 0x3F)
    else if (a.master = 4 || a.master = 15) && a.kind < 2 then (if tagBad then some (8, 0x3F) else none)
    else if a.kind = 0 && (n = 12 || n = 13) then none
    else some (3, 0x3F)
  | some (i, r) =>
    let dbg := a.master = 17
    if !dbg && !r.masters.testBit a.master then some (4, i)
    else if (r.secure && !a.secure) || (n = 2 && !storeMaster a.master) then some (5, i)
    else if !(if dbg && a.kind = 0 then true else if dbg && a.kind = 1 then s.gate.mask ≠ 0
        else r.rights.testBit (rightBit a.priv a.kind)) then some (6, i)
    else if r.lock ≠ 0 && dbg && !(a.kind = 0 && s.gate.mask.testBit (r.lock - 1)) then some (7, i)
    else if tagBad then some (8, i)
    else none

/-- The granules an access touches. -/
def granules (a : Access) : List Nat :=
  let f := a.addr / 4096
  let l := (a.addr + a.len - 1) / 4096
  if f = l then [f] else [f, l]

/-- The check of R362: the failing check, its granule, region index, and whether an earlier granule
passed. -/
def gateCheck (s : State) (n : Nat) (a : Access) : Option (Nat × Nat × Nat × Bool) :=
  let g0 := a.addr / 4096
  if !(decide ((gateRange n).1 ≤ a.addr ∧ a.addr + a.len ≤ (gateRange n).2)) then some (1, g0, 0x3F, false)
  else if !(a.key ∈ masterKeys a.master) then some (2, g0, 0x3F, false)
  else
    match granules a with
    | [g] => (checkGranule s n a g).map fun k => (k.1, g, k.2, false)
    | g :: h :: _ =>
      match checkGranule s n a g with
      | some k => some (k.1, g, k.2, false)
      | none => (checkGranule s n a h).map fun k => (k.1, h, k.2, true)
    | [] => none

/-- Replace one gate. -/
def updGate (n : Nat) (f : Gate → Gate) (s : State) : State :=
  { s with gate := { s.gate with gates := updAt s.gate.gates n f } }

/-- The first violation decided at the instant `now`, and how many there were (R366). -/
def nowOf (now : Nat) (g : Gate) : Option (Viol × Nat) := g.nowV.filter fun x => x.1.gt = now

/-- A denied access is a violation of its gate (R366): the first is latched and writes GATE_VIOLATION. -/
def violate (n : Nat) (a : Access) (k : Nat × Nat × Nat × Bool) (s : State) : State :=
  let g := gateOf s n
  let tag := if !gateTagged n then 0 else if k.2.1 ∈ a.tagErr then 15 else tagOf (activeBank g) k.2.1
  let v : Viol := ⟨a.addr, a.master, a.key, tag, k.1, a.kind, k.2.2.2, a.secure, a.priv, k.2.2.1, s.gt⟩
  let up (g : Gate) : Gate := { g with
    count := satInc 0xFFFF g.count
    total := satInc 0xFFFF g.total
    nowV := match nowOf s.gt g with
      | some x => some (x.1, x.2 + 1)
      | none => some (v, 1) }
  match g.latched with
  | some _ => updGate n up s
  | none => occur Code.gateViolation (Src.gate n) 0 (updGate n (fun g => { up g with latched := some v }) s)

/-- The block of DRAM that a running slice marches: the round's next eight of 4 KiB (R418, R423). -/
def marched (s : State) (a : Nat) : Bool :=
  match s.bst.running with
  | some (5, _) => decide ((a - dramBase) / 32768 = s.bst.done.getD 4 0 ∧ dramBase ≤ a)
  | _ => false

/-- An address of program code in the block that a slice marches. -/
def codeUnder (s : State) (a : Nat) : Bool :=
  marched s a && decide ((dramWindow 0).1 ≤ a ∧ a < (dramWindow 2).2)

/-- Program code under test in COMPAT is isolated: an access is answered with an error, which is no violation (R427). -/
def isolated (s : State) (a : Access) : Bool :=
  s.bst.compatRun && (codeUnder s a.addr || codeUnder s (a.addr + a.len - 1))

/-- The block behind a gate takes no access, which is no violation (R385): the CAN controller. The self-test engine
shares its gate with the crypto engine, and cells and lanes are no targets of Table 14.1 (log entry 199). -/
def targetShut (s : State) (n : Nat) : Bool := n = 10 && blkShut s 7

/-- What a gate decides: allowed, or an error response with its effects. An unarmed gate answers every
master but SV with an error response, which is no violation (R356). -/
def gateDecide (a : Access) (s : State) : Bool × State :=
  match gateAt a.addr with
  | none => (false, s)
  | some n =>
    if !(gateOf s n).armed then (decide (a.master = 4), s)
    else if isolated s a || targetShut s n then (false, s)
    else match gateCheck s n a with
      | none => (true, s)
      | some k => (false, violate n a k s)

/-- Gate n's latch and COUNT are cleared; violations decided at the instant of the clear are the first after it, and the
latched one among them is written if it was not (R366). -/
def gateClear (n : Nat) (s : State) : State :=
  let g := gateOf s n
  let now := nowOf s.gt g
  let s1 := updGate n (fun g => { g with latched := now.map (·.1), count := (now.map (·.2)).getD 0 }) s
  if now.isSome && g.latched ≠ now.map (·.1) then occur Code.gateViolation (Src.gate n) 0 s1 else s1

/-- A write to GATE_CLR_DB (R366). -/
def gateClrEff (val : Word) (s : State) : State :=
  (List.range 16).foldl (fun s n => if val.getLsbD n then gateClear n s else s) s

/-- GATE_CLR_DB. -/
def execGateClrDb (t : Nat) (val : Word) (s : State) : Host.Outcome State Fault Refusal :=
  .next (gateClrEff val (atT t s))

/-! ### Arming -/

/-- A used region passes R360 on its own. -/
def regionOk (n : Nat) (r : Region) : Bool :=
  let lo := (gateRange n).1 / 4096
  let hi := (gateRange n).2 / 4096
  decide (lo ≤ r.baseG ∧ r.baseG < r.limitG ∧ r.limitG ≤ hi) && decide (r.colour ≤ 14) && decide (r.lock ≤ 7)

/-- What R360 asks of every descriptor, used or not: its reserved bits are 0, and so are COLOUR and LOCK on an untagged
gate. -/
def descBitsOk (n : Nat) (r : Region) : Bool :=
  r.reservedZero && decide (r.masters < 2 ^ 17) && decide (r.rights < 64) && (gateTagged n || (r.colour = 0 && r.lock = 0))

/-- Two regions share no granule or agree in COLOUR, SECURE and LOCK (R360). -/
def regionsAgree (a b : Region) : Bool :=
  decide (a.limitG ≤ b.baseG) || decide (b.limitG ≤ a.baseG)
    || (a.colour = b.colour && a.secure = b.secure && a.lock = b.lock)

/-- A bank passes R360. -/
def bankOk (n : Nat) (t : Tab Region) : Bool :=
  let used := (t.filter fun p => p.2.limitG ≠ 0).map (·.2)
  (t.all fun p => decide (p.1 < 32) && descBitsOk n p.2) && used.all (regionOk n) && used.all fun a => used.all (regionsAgree a)

/-- A region lies inside window i of Table 1.4. -/
def inDram (i : Nat) (r : Region) : Bool :=
  decide ((dramWindow i).1 ≤ 4096 * r.baseG ∧ 4096 * r.limitG ≤ (dramWindow i).2)

/-- A region of a variable window takes colour 2 where the window is the running generation's and colour 3 where it is
the other (R357, log entry 156). -/
def windowColour (varsB : Bool) (r : Region) : Region :=
  if inDram 3 r then { r with colour := if varsB then 3 else 2 }
  else if inDram 4 r then { r with colour := if varsB then 2 else 3 }
  else r

/-- The bank of a gate from the firmware's descriptors and, for gate 1's indices 0 to 7, the
generation's gate setup (R361), with the colours of the variable windows as their roles stand. -/
def gateBank (fw : List (Nat × Nat × Region)) (gen : List GateEntry) (varsB : Bool) (n : Nat) : Tab Region :=
  let base := (fw.filter fun d => d.1 = n && !(n = 1 && d.2.1 < 8)).foldl
    (fun t d => Tab.set t d.2.1 d.2.2) ([] : Tab Region)
  if n = 1 then (gen.foldl (fun t e => Tab.set t e.index e.desc) base).map fun p => (p.1, windowColour varsB p.2)
  else base

/-- The used descriptors of a generation agree as they stand, before the variable windows' colours are put in
(R360). -/
def entriesAgree (gen : List GateEntry) : Bool :=
  let used := (gen.map (·.desc)).filter fun r => r.limitG ≠ 0
  used.all fun a => used.all (regionsAgree a)

/-- The setup of gate n passes R360. -/
def setupOk (gen : List GateEntry) (n : Nat) (b : Tab Region) : Bool := bankOk n b && (n ≠ 1 || entriesAgree gen)

/-- Arm every gate at the end of BOOT (R356); a gate that refuses sets ARM_FAIL and writes
GATE_ARM_FAIL. -/
def armGates (gen : List GateEntry) (s : State) : State :=
  (List.range 16).foldl (fun s n =>
    let b := gateBank s.gate.fw gen s.gate.varsB n
    if setupOk gen n b then
      updGate n (fun g => { g with armed := true, bank := false, bank0 := b, bank1 := [] }) s
    else occur Code.gateArmFail (Src.gate n) 0 (updGate n (fun g => { g with armFail := true }) s)) s

/-- Whether every gate armed. -/
def allArmed (s : State) : Bool := s.gate.gates.all (·.armed)

/-- Re-arming of gate 1 at a switch or a revert (R369): the inactive bank takes the new setup, and the variable windows
change their roles and colours (R357); a bank that fails R360 leaves the gate as it was and sets ARM_FAIL. -/
def rearmGate1 (gen : List GateEntry) (s : State) : State :=
  let b := gateBank s.gate.fw gen (!s.gate.varsB) 1
  if setupOk gen 1 b then
    updGate 1 (fun g => if g.bank then { g with bank := false, bank0 := b } else { g with bank := true, bank1 := b })
      { s with gate := { s.gate with varsB := !s.gate.varsB } }
  else updGate 1 (fun g => { g with armFail := true }) s

/-- A region lies inside the windows of program code and variables (Table 1.4), which stand side by side. -/
def inProgWindow (r : Region) : Bool :=
  decide ((dramWindow 0).1 ≤ 4096 * r.baseG ∧ 4096 * r.limitG ≤ (dramWindow 4).2)

/-- A generation descriptor satisfies R361 against the firmware's descriptors of gate 1. -/
def genGateOk (fw : List (Nat × Nat × Region)) (e : GateEntry) : Bool :=
  let base := gateBank fw [] false 1
  e.gate = 1 && decide (e.index < 8) && e.reservedZero && decide (e.desc.masters < 16)
    && (e.desc.colour = 1 || e.desc.colour = 2 || e.desc.colour = 3) && !e.desc.secure && e.desc.lock = 0
    && inProgWindow e.desc
    && base.all fun p =>
      decide (p.2.limitG ≤ e.desc.baseG) || decide (e.desc.limitG ≤ p.2.baseG)
        || decide (e.desc.rights &&& p.2.rights = e.desc.rights)

/-- The gate setup section of a generation passes R360 and R361. -/
def gateSectionOk (fw : List (Nat × Nat × Region)) (gen : List GateEntry) : Bool :=
  decide (gen.length ≤ 8) && gen.all (genGateOk fw) && setupOk gen 1 (gateBank fw gen false 1)

/-! ### Debug unlock -/

/-- R58: SOLO in IDLE or HOLD, or RETIRED. -/
def unlockLegal (s : State) : Bool :=
  let m := s.mod.tup
  m.role = .retired || (m.role = .solo && (m.run = .idle || m.run = .hold))

/-- The unlock mask takes a value; each start and end writes GATE_UNLOCK with the mask (R368). -/
def setUnlock (mask expiry : Nat) (s : State) : State :=
  if mask = 0 ∧ s.gate.mask = 0 then s
  else occurU Code.gateUnlock (Src.gate 0) mask
    { s with gate := { s.gate with mask := mask, expiry := if mask = 0 then 0 else expiry } }

/-- An unlock ends at the boundary at which R58 would refuse it (R368). -/
def unlockCheck (s : State) : State := if unlockLegal s then s else setUnlock 0 0 s

/-- DEBUG_UNLOCK_EXPIRY (R368): at the EXPIRY of its grant. -/
def execDebugUnlockExpiry (t : Nat) (s0 : State) : Host.Outcome State Fault Refusal :=
  let s := atT t s0
  .next (if s.gate.mask ≠ 0 ∧ s.gate.expiry ≤ s.gt then setUnlock 0 0 s else s)

/-! ### Registers -/

/-- A descriptor's 16 bytes (Table 14.4). -/
def regionBytes (r : Region) : List Byte :=
  le 4 r.baseG ++ le 4 r.limitG ++ le 4 r.masters ++ le 1 (r.colour + 16 * b2n r.secure + 32 * r.lock)
    ++ le 1 r.rights ++ le 2 0

/-- CRC-32C over the 512 bytes of a bank in index order (Table 14.10). -/
def bankDigest (t : Tab Region) : Nat :=
  crc32c ((List.range 32).map fun i => match Tab.find? t i with
    | some r => regionBytes r
    | none => pad 16).flatten

/-- GATE_Gn_INFO of a violation (Table 14.9). -/
def violInfo (v : Viol) : Nat :=
  v.master + 2 ^ 5 * v.key + 2 ^ 9 * v.tag + 2 ^ 13 * v.kind + 2 ^ 17 * v.ty + 2 ^ 19 * b2n v.partialHit
    + 2 ^ 20 * b2n v.secure + 2 ^ 21 * b2n v.priv + 2 ^ 22 * v.region

/-- One gate's registers by offset within its 0x20 block. GATE_Gn_DIGEST reads 0 until the gate arms. -/
def gateReg1 (s : State) (n off : Nat) : Nat :=
  let g := gateOf s n
  match off with
  | 0x00 => match g.latched with | some v => v.addr % 2 ^ 32 | none => 0
  | 0x04 => match g.latched with | some v => v.addr / 2 ^ 32 | none => 0
  | 0x08 => match g.latched with | some v => violInfo v | none => 0
  | 0x0C => match g.latched with | some v => v.gt % 2 ^ 32 | none => 0
  | 0x10 => match g.latched with | some v => v.gt / 2 ^ 32 | none => 0
  | 0x14 => g.count + 65536 * g.total
  | 0x18 => ((activeBank g).filter fun p => p.2.limitG ≠ 0).length + 64 * b2n (gateTagged n) + 128 * b2n g.bank
  | 0x1C => if g.armed then bankDigest (activeBank g) else 0
  | _ => 0

/-- GATE registers (Tables 14.8 to 14.10). -/
def gateReg (s : State) (off : Nat) : Nat :=
  match off with
  | 0x000 => ((List.range 16).map fun n => 2 ^ n * b2n (gateOf s n).armed
      + 2 ^ (16 + n) * b2n (gateOf s n).latched.isSome).sum
  | 0x004 => s.gate.mask
  | 0x008 => ((List.range 16).map fun n => 2 ^ n * b2n (gateOf s n).armFail).sum
  | _ => if 0x100 ≤ off ∧ off < 0x300 then gateReg1 s ((off - 0x100) / 0x20) (off % 0x20) else 0

end Sys2Proof.Machine
end

