-- ==== Sys2Proof/Machine/Migrate.lean ====
section
/-! DEFINITION. Program variables: initial values (R84), the migration of Table 4.5 (R108 to R111), and
the standard function blocks at a scan (R82, R83). -/

namespace Sys2Proof.Machine

/-- A declared instance of a layout. -/
def declOf (vs : List VarDecl) (key : Nat) : Option VarDecl := vs.find? (·.key = key)

/-- Whether an instance holds a value of its own; a structure or a function block holds members. -/
def hasValue : VType → Bool
  | .struct _ => false
  | .fb _ => false
  | _ => true

/-- A block whose inputs' memories hold a value: FALSE where they were to take the input (R83). -/
def withMemory : VVal → VVal
  | .count u d cv qu qd => .count (some (u.getD false)) (some (d.getD false)) cv qu qd
  | .edge m q => .edge (some (m.getD false)) q
  | v => v

/-- A block whose first evaluation takes its inputs as memory (R111). -/
def takesInput : VVal → VVal
  | .count _ _ cv qu qd => .count none none cv qu qd
  | .edge _ q => .edge none q
  | v => v

/-- Every instance at its declared initial value. -/
def initVars (vs : List VarDecl) : Tab VVal :=
  vs.foldl (fun t d => if hasValue d.ty then Tab.set t d.key (withMemory d.init) else t) []

/-- R84: a START from IDLE initialises every variable that is not retained; no block takes its input as memory any
more. -/
def startVars (vs : List VarDecl) (cur : Tab VVal) : Tab VVal :=
  vs.foldl (fun t d => if hasValue d.ty && !d.retained then Tab.set t d.key (withMemory d.init) else t)
    (cur.map fun v => (v.1, withMemory v.2))

/-- Values of the retained variables. -/
def retainedOf (vs : List VarDecl) (cur : Tab VVal) : List (Nat × VVal) :=
  cur.filter fun p => match declOf vs p.1 with
    | some d => d.retained
    | none => false

/-! ### The stores of retained variables (R25, R27) -/

/-- The newer valid checkpoint. -/
def newerCk (n : NvB) : Ckpt := if n.ckA.valid && (!n.ckB.valid || decide (n.ckB.seq ≤ n.ckA.seq)) then n.ckA else n.ckB

/-- Values put over others, key by key. -/
def putVars (base new : List (Nat × VVal)) : List (Nat × VVal) := new.foldl (fun t v => Tab.set t v.1 v.2) base

/-- What the newer valid checkpoint and the records of its layout after it restore (R27). -/
def storedVars (n : NvB) : List (Nat × VVal) :=
  (n.records.filter (·.gen = (newerCk n).gen)).foldl (fun t r => putVars t r.vars) (newerCk n).vars

/-- Granules that the journal holds. -/
def journalUse (n : NvB) : Nat := (n.records.map (·.granules)).sum

/-- A checkpoint of some values takes the place of the older one, and the journal starts anew. -/
def checkpoint (gen : Nat) (vars : List (Nat × VVal)) (n : NvB) : NvB :=
  let c : Ckpt := ⟨(newerCk n).seq + 1, true, gen, vars⟩
  if newerCk n = n.ckA && n.ckA.valid then { n with ckB := c, records := [] } else { n with ckA := c, records := [] }

/-- The journal folds into the older checkpoint (R25). -/
def foldJournal (n : NvB) : NvB := checkpoint (newerCk n).gen (storedVars n) n

/-- Retained values that differ from those the stores restore. -/
def changedVars (n : NvB) (now : List (Nat × VVal)) : List (Nat × VVal) :=
  let old := storedVars n
  now.filter fun v => Tab.find? old v.1 ≠ some v.2

/-- The value of an integer held in 64 bits. -/
def intOf (bits : Nat) (signed : Bool) (v : DWord) : Int :=
  let w := v.toNat % 2 ^ bits
  if signed && decide (2 ^ (bits - 1) ≤ w) then (w : Int) - ((2 ^ bits : Nat) : Int) else (w : Int)

/-- Array elements at the indices that both bounds hold, the rest initial; and the count of elements
dropped. -/
def carryArr (lo hi : Int) (init vs : List (Int × List DWord)) : List (Int × List DWord) × Nat :=
  (init.map fun p => match vs.find? (·.1 = p.1) with
      | some q => q
      | none => p,
   (vs.filter fun p => decide (p.1 < lo ∨ hi < p.1)).length)

/-- The value that Table 4.5 carries from a type to another, with the elements dropped; none for any
other pair of types. -/
def carryVal (a b : VType) (init v : VVal) : Option (VVal × Nat) :=
  if a = b then some (v, 0) else
  match a, b, v with
  | .int n sg, .int m sh, .bits x =>
    if n < m ∧ (sg = sh ∨ (sg = false ∧ sh = true)) then
      some (.bits (BitVec.ofNat 64 (wrap64 (intOf n sg x))), 0)
    else none
  | .int n sg, .lreal, .bits x => some (.bits (BitVec.ofNat 64 (fRound 11 52 (intOf n sg x) 1)), 0)
  | .arr e _ _, .arr f lo hi, .elems vs =>
    if e = f then
      match init with
      | .elems is => let r := carryArr lo hi is vs; some (.elems r.1, r.2)
      | _ => none
    else none
  | .str n, .str m, .chars cs => if n ≤ m then some (.chars cs, 0) else none
  | _, _, _ => none

/-- Containers match by kind and type name. -/
def sameBlock (a b : VType) : Bool :=
  match a, b with
  | .struct n, .struct m => n = m
  | .fb n, .fb m => n = m
  | _, _ => false

/-- No instance that this one is a member of (at most k of them) is one that Table 4.5 resets: a member of a
reset block starts from its initial value with it (log entry 44). -/
def parentsOk (old new : List VarDecl) : Nat → VarDecl → Bool
  | 0, _ => true
  | k + 1, d => match d.parent with
    | none => true
    | some p => match declOf old p, declOf new p with
      | some a, some b => sameBlock a.ty b.ty && parentsOk old new k b
      | none, some b => parentsOk old new k b
      | _, none => true

/-- What a migration gives: the variables, and the counts and codes of R108 (key, whether dropped) in ascending key. -/
structure Migrated where
  vars : Tab VVal
  carried : Nat
  resets : Nat
  dropped : Nat
  codes : List (Nat × Bool)
deriving DecidableEq, Repr, Inhabited

/-- A migrated instance is initial: reset with MIGRATE_RESET when it was in both layouts (R108). An edge detector or a
counter takes its input as memory at its first evaluation (R111). -/
def migInit (d : VarDecl) (reset note : Bool) (m : Migrated) : Migrated :=
  { m with
    vars := if hasValue d.ty then Tab.set m.vars d.key (takesInput d.init) else m.vars
    resets := if reset then m.resets + 1 else m.resets
    codes := if note then m.codes ++ [(d.key, false)] else m.codes }

/-- One key of the migration plan. -/
def migKey (old new : List VarDecl) (vars : Tab VVal) (m : Migrated) (key : Nat) : Migrated :=
  match declOf old key, declOf new key with
  | some _, none => { m with dropped := m.dropped + 1, codes := m.codes ++ [(key, true)] }
  | none, some b => migInit b false false m
  | some a, some b =>
    if !parentsOk old new 16 b then migInit b true false m
    else if !hasValue a.ty || !hasValue b.ty then
      if sameBlock a.ty b.ty then { m with carried := m.carried + 1 } else migInit b true true m
    else match carryVal a.ty b.ty b.init (Tab.getD vars key a.init) with
      | some (v, k) => { m with
        vars := Tab.set m.vars key v, carried := m.carried + 1, dropped := m.dropped + k
        codes := m.codes ++ List.replicate k (key, true) }
      | none => migInit b true true m
  | none, none => m

/-- The migration plan carried out, in ascending order of instance key (R99, R108). -/
def migrate (old new : List VarDecl) (vars : Tab VVal) : Migrated :=
  let keys := ((old ++ new).foldl (fun (t : Tab Unit) d => Tab.set t d.key ()) []).map (·.1)
  keys.foldl (migKey old new vars) ⟨[], 0, 0, 0, []⟩

/-- Bytes of an instance; the manual gives none for the standard blocks (log entry 22). -/
def typeBytes : VType → Nat
  | .bool => 1
  | .int n _ => n / 8
  | .lreal => 8
  | .real => 4
  | .word n _ => n / 8
  | .arr e lo hi => (hi - lo + 1).toNat * typeBytes e
  | .str n => n
  | .struct _ => 0
  | .fb _ => 0
  | .counter _ _ => 8
  | .rtrig => 1
  | .ftrig => 1
  | _ => 16

/-- Bytes that Table 4.5 carries from a type to another. -/
def carryBytes (a b : VType) : Nat :=
  if a = b then typeBytes a else
  match a, b with
  | .int n sg, .int m sh => if n < m ∧ (sg = sh ∨ (sg = false ∧ sh = true)) then n / 8 else 0
  | .int n _, .lreal => n / 8
  | .arr e lo hi, .arr f lo2 hi2 =>
    if e = f then (Min.min hi hi2 - Max.max lo lo2 + 1).toNat * typeBytes e else 0
  | .str n, .str m => if n ≤ m then n else 0
  | _, _ => 0

/-- MIG_EST_US (R109): the bytes to carry at 8 GB/s, rounded up to a microsecond (log entry 141), plus 1 ms. -/
def migEstUs (old new : List VarDecl) : Nat :=
  let b := (old.map fun a => match declOf new a.key with
    | some d => if parentsOk old new 16 d then carryBytes a.ty d.ty else 0
    | none => 0).sum
  (b + 7999) / 8000 + 1000

/-! ### Standard function blocks -/

/-- A timer at a scan (Table 3.5). `tc` is T_commit of the scan. ET while no timing runs is the model's choice (log
entry 142). -/
def evalTimer (ty : VType) (tc pt : Nat) (input prev q running : Bool) (start et : Nat) : VVal :=
  match ty with
  | .ton =>
    let st := if input && !prev then tc else start
    let el := tc - st
    .timer input (input && ((prev && q) || decide (pt ≤ el))) input st (if input then Min.min el pt else 0)
  | .tof =>
    if input then .timer true true false start 0
    else
      let st := if prev then tc else start
      let run := prev || running
      let el := tc - st
      if run then .timer false (decide (el < pt)) (decide (el < pt)) st (Min.min el pt)
      else .timer false q false start et
  | _ =>
    let begins := input && !prev && !q
    let st := if begins then tc else start
    let el := tc - st
    if begins || running then .timer input (decide (el < pt)) (decide (el < pt)) st (Min.min el pt)
    else .timer input false false start (if input then et else 0)

/-- A counter at a scan (R83) with the memories of its inputs: a reset wins over a load, and a load over counts; a
count up and a count down in one scan cancel (log entry 143). -/
def evalCounter (up down : Bool) (cu cd reset load memUp memDown : Bool) (pv cv : Int) : VVal :=
  let inc := up && cu && !memUp
  let dec := down && cd && !memDown
  let c := if up && reset then 0 else if down && load then pv
    else if inc && !dec then cv + 1 else if dec && !inc then cv - 1 else cv
  .count (some cu) (some cd) c (decide (pv ≤ c)) (decide (c ≤ 0))

/-- One evaluation of a standard block (R82, R83); without a memory it takes its input as memory (R111). -/
def evalBlock (ty : VType) (tc : Nat) (i : FbIn) (v : VVal) : VVal :=
  match i, v with
  | .timer input pt, .timer prev q running start et => evalTimer ty tc pt input prev q running start et
  | .count cu cd reset load pv, .count prevUp prevDown cv _ _ =>
    match ty with
    | .counter up down => evalCounter up down cu cd reset load (prevUp.getD cu) (prevDown.getD cd) pv cv
    | _ => v
  | .edge clk, .edge mem _ =>
    let m := mem.getD clk
    .edge (some clk) (if ty = .ftrig then !clk && m else clk && !m)
  | _, _ => v

/-- The evaluations of one executing scan. -/
def runBlocks (vs : List VarDecl) (tc : Nat) (calls : List FbCall) (vars : Tab VVal) : Tab VVal :=
  calls.foldl (fun a c => match declOf vs c.key, Tab.find? a c.key with
    | some d, some v => Tab.set a c.key (evalBlock d.ty tc c.input v)
    | _, _ => a) vars

/-- The 4 KiB granules of the retained variables that differ between the start and the end of a cycle (R25). Each
variable has granules of its own (log entry 166), all of which count as changed with it. -/
def changedGranules (vs : List VarDecl) (old new : Tab VVal) : List Nat :=
  ((retainedOf vs new).filter fun v => Tab.find? old v.1 ≠ some v.2).flatMap fun v => match declOf vs v.1 with
    | some d => (List.range ((typeBytes d.ty + 4095) / 4096)).map (32768 * v.1 + ·)
    | none => []

end Sys2Proof.Machine
end

