-- ==== Sys2Proof/Machine/Tio.lean ====
section
/-! DEFINITION. Trip I/O and safety functions (chapter 10). -/

namespace Sys2Proof.Machine

/-! ### The parameters section (R503) -/

/-- TI_MODE of input i: 0 OFF, 1 STD, 2 SAFETY, 3 RESET. -/
def tiMode (b : List Byte) (i : Nat) : Nat := field b (16 + 4 * i) 1
/-- TI_TP of input i. -/
def tiTp (b : List Byte) (i : Nat) : Nat := field b (17 + 4 * i) 1
/-- TI_FILTER of input i. -/
def tiFilter (b : List Byte) (i : Nat) : Nat := field b (18 + 4 * i) 1
/-- TI_PAIR of the pair j: 0 NONE, 1 EQUIV, 2 ANTIV. -/
def tiPair (b : List Byte) (j : Nat) : Nat := field b (112 + 4 * j) 1
/-- TI_DISC of the pair j, in ms. -/
def tiDisc (b : List Byte) (j : Nat) : Nat := field b (114 + 4 * j) 2
/-- TQ_MODE of output q: 0 OFF, 1 STD, 2 SAFETY. -/
def tqMode (b : List Byte) (q : Nat) : Nat := field b (160 + 8 * q) 1
/-- TQ_HOLD of output q. -/
def tqHold (b : List Byte) (q : Nat) : Bool := field b (161 + 8 * q) 1 = 1
/-- TQ_OPEN_LOAD of output q. -/
def tqOpenLoad (b : List Byte) (q : Nat) : Bool := field b (162 + 8 * q) 1 = 1
/-- FN_RESET of output q. -/
def fnReset (b : List Byte) (q : Nat) : Nat := field b (163 + 8 * q) 1
/-- FN_DEMAND of output q. -/
def fnDemand (b : List Byte) (q : Nat) : Nat := field b (164 + 8 * q) 4

/-- CCV of a section: its CRC-32C (R288); 0 for none. -/
def ccvOf (b : List Byte) : Nat := if b.isEmpty then 0 else crc32c b

/-- An input entry keeps the rules of R503. -/
def tiEntryOk (b : List Byte) (i : Nat) : Bool :=
  decide (tiMode b i ≤ 3) && decide (1 ≤ tiFilter b i ∧ tiFilter b i ≤ 16) && zeros b (19 + 4 * i) 1
    && (decide (tiTp b i ≤ 3) || (tiTp b i = 0xFF && tiMode b i = 1))

/-- A pair entry keeps the rules of R503. -/
def pairEntryOk (b : List Byte) (j : Nat) : Bool :=
  decide (tiPair b j ≤ 2) && zeros b (113 + 4 * j) 1 && decide (10 ≤ tiDisc b j ∧ tiDisc b j ≤ 2000)

/-- An output entry keeps the rules of R503. -/
def tqEntryOk (b : List Byte) (q : Nat) : Bool :=
  let m := tqMode b q
  let r := fnReset b q
  let d := fnDemand b q
  decide (m ≤ 2) && decide (field b (161 + 8 * q) 1 ≤ 1) && decide (field b (162 + 8 * q) 1 ≤ 1)
    && (if m = 2 then decide (r < 24) && tiMode b r = 3 else r = 0xFF)
    && decide (d < 2 ^ 24) && (m = 2 || d = 0)
    && decide (((List.range 24).filter fun i => d.testBit i).length ≤ 8)
    && (List.range 24).all fun i => !d.testBit i
        || (tiMode b i = 2 && (tiPair b (i / 2) = 0 || (i % 2 = 0 && tiMode b (i + 1) = 2)))

/-- The section passes R503 (check 7 of Table 4.3). -/
def tioSectionOk (b : List Byte) : Bool :=
  b.length = 256 && field b 0 4 = 0x314F4954 && field b 4 2 = 1 && field b 6 2 = 0
    && decide (10 ≤ field b 8 2 ∧ field b 8 2 ≤ 1000) && field b 8 2 % 2 = 0
    && decide (1 ≤ field b 10 2 ∧ field b 10 2 ≤ 60)
    && decide (50 ≤ field b 12 2 ∧ field b 12 2 ≤ 300)
    && decide (5 ≤ field b 14 2 ∧ field b 14 2 ≤ 200)
    && (List.range 24).all (tiEntryOk b) && (List.range 12).all (pairEntryOk b)
    && (List.range 12).all (tqEntryOk b)

/-! ### Accessors -/

/-- Input i. -/
def tiOf (s : State) (i : Nat) : TiS := s.tio.ti.getD i tiReset
/-- Output q. -/
def tqOf (s : State) (q : Nat) : TqS := s.tio.tq.getD q tqReset
/-- Test pulse source p. -/
def tpOf (s : State) (p : Nat) : TpS := s.tio.tp.getD p tpReset
/-- Field supply group g. -/
def fsOf (s : State) (g : Nat) : FsS := s.tio.fs.getD g fsReset

/-- Change one input. -/
def updTi (i : Nat) (f : TiS → TiS) (s : State) : State := { s with tio := { s.tio with ti := updAt s.tio.ti i f } }
/-- Change one output. -/
def updTq (q : Nat) (f : TqS → TqS) (s : State) : State := { s with tio := { s.tio with tq := updAt s.tio.tq q f } }
/-- Change one source. -/
def updTp (p : Nat) (f : TpS → TpS) (s : State) : State := { s with tio := { s.tio with tp := updAt s.tio.tp p f } }
/-- Change one group. -/
def updFs (g : Nat) (f : FsS → FsS) (s : State) : State := { s with tio := { s.tio with fs := updAt s.tio.fs g f } }

/-- Group of output q. -/
def tqGroup (q : Nat) : Nat := q / 6
/-- Group of source p. -/
def tpGroup (p : Nat) : Nat := p / 2

/-- The role and run state in which the trip I/O drives (R290), never FIRC_ONLY (R375). -/
def tioDriver (s : State) : Bool :=
  let m := s.mod.tup
  !fircOnly s &&
  (m.role = .solo || m.role = .active) && (m.run = .idle || m.run = .run || m.run = .hold)

/-- The module is driving: by the last refresh, or during a handover overlap (R277, R290, R291). -/
def tioDriving (s : State) : Bool := s.tio.drive || s.tio.overlap.isSome

/-- The parameters are loaded. -/
def tioLoaded (s : State) : Bool := !s.tio.section_.isEmpty

/-! ### Inputs -/

/-- The supply level that applies to an input: its source's group, or OK for TI_TP NONE. -/
def tiLevel (s : State) (i : Nat) : Nat :=
  let p := tiTp s.tio.section_ i
  if p ≤ 3 then (fsOf s (tpGroup p)).level else 0

/-- An input reads BAD by a fault of Table 10.4 or its group's level OFF. -/
def tiBadFault (s : State) (i : Nat) : Bool :=
  let c := tiOf s i
  let p := tiTp s.tio.section_ i
  !c.cross.isEmpty || c.sinkFault.isSome || (tiOf s (i / 2 * 2)).disc || (decide (p ≤ 3) && (tpOf s p).fault)
    || tiLevel s i = 3

/-- QUAL of an input (R273, R275, R281, R282). -/
def tiQual (s : State) (i : Nat) : Nat :=
  let c := tiOf s i
  if isRetired s (.ti i) then qRetired
  else if tiBadFault s i then qBad
  else if c.cls = 0 then qNoComm
  else if tiMode s.tio.section_ i = 1 then (if tiLevel s i ≠ 0 then qSupply else qGood)
  else if c.wbBad then qWireBreak
  else if c.cls ≤ 2 then qUncertain
  else if tiLevel s i ≠ 0 then qSupply
  else qGood

/-- Value that an input reads: FALSE under a fault or when retired. -/
def tiVal (s : State) (i : Nat) : Bool := (tiOf s i).val && !tiBadFault s i && !isRetired s (.ti i)

/-- Class BAD of a quality code (R64). -/
def isBadQual (q : Nat) : Bool := decide (q < 0x40)

/-- The pair that TI2j begins shows a demand (R276). -/
def pairDemand (s : State) (j : Nat) : Bool :=
  let a := tiVal s (2 * j)
  let b := tiVal s (2 * j + 1)
  !(a && (if tiPair s.tio.section_ j = 1 then b else !b)) || (tiOf s (2 * j)).disc
    || isBadQual (tiQual s (2 * j)) || isBadQual (tiQual s (2 * j + 1))

/-- A demand is present on output q's safety function (R283). -/
def tqDemand (s : State) (q : Nat) : Bool :=
  let b := s.tio.section_
  (List.range 24).any fun i => (fnDemand b q).testBit i &&
    (if i % 2 = 0 && tiPair b (i / 2) ≠ 0 then pairDemand s (i / 2)
     else !tiVal s i || isBadQual (tiQual s i))

/-- A reading of a trip input for the ILE: its last unfiltered class (R273). -/
def tiReading (s : State) (i : Nat) : Reading :=
  let c := tiOf s i
  let bad := isRetired s (.ti i) || tiBadFault s i || (c.cls ≠ 3 && c.cls ≠ 4) || c.wbBad
  ⟨if c.cls = 4 && !bad then 1 else 0, !bad⟩

/-- A trip input as the sample windows completed before an ILE cycle's start `cn` read it (R13, R18). -/
def tiAtStart (s : State) (cn i : Nat) : Reading :=
  if s.tio.ileAt < cn then tiReading s i else s.tio.ilePrev.getD i ⟨0, false⟩

/-- A sample window completes at `e`: what the inputs read before it stays known to a cycle that starts by then. -/
def tiKeep (e : Nat) (s : State) : State :=
  if s.tio.ileAt = e then s
  else { s with tio := { s.tio with ilePrev := (List.range 24).map (tiReading s), ileAt := e } }

/-- A trip I/O fault is recorded (R281): TIO_FAULT with its code, TIO_LAST_FAULT and its count. -/
def tioFault (sub code : Nat) (s : State) : State :=
  occurU Code.tioFault (0x200000 + sub) code { s with tio := { s.tio with
    lastSub := sub, lastCode := code, count := satInc 0xFFFF s.tio.count } }

/-! ### Outputs -/

/-- The test of R277 for output q. -/
def tqEnergised (s : State) (q : Nat) : Bool :=
  let b := s.tio.section_
  let c := tqOf s q
  let g := fsOf s (tqGroup q)
  let m := tqMode b q
  !(isRetired s (.tq q) || m = 0) && tioDriving s && !(g.level = 3 || g.rising)
    && !(s.tio.silent && !(m = 1 && tqHold b q)) && c.faults.isEmpty
    && !(m = 2 && (!s.tio.ccvOk || tqDemand s q || c.il))
    && (match s.tio.perms.getD q none with | some g => g | none => true) && c.cmd

/-- Every output takes the outcome of R277. A module that does not drive checks no output, so what its checks
have counted ends (R290). -/
def tioDecide (s : State) : State :=
  let d := tioDriving s
  { s with tio := { s.tio with
    tq := (List.range 12).map fun q =>
      let c := tqOf s q
      let e := tqEnergised s q
      let c1 := { c with on := e, dark := if e then c.dark else none, openLoad := e && c.openLoad }
      if d then c1 else { c1 with breach := none, ovr := none, live := none, heldUp := none }
    fs := if d then s.tio.fs else s.tio.fs.map fun f => { f with ovr := none } } }

/-- The restart interlocks of SAFETY outputs latch (R284). -/
def latchAll (qs : List Nat) (s : State) : State :=
  qs.foldl (fun s q => if tqMode s.tio.section_ q = 2 then updTq q (fun c => { c with il := true }) s else s) s

/-- The restart interlocks of some outputs latch on a demand, now (R284, R291). -/
def latchDemand (qs : List Nat) (s : State) : State :=
  qs.foldl (fun s q =>
    if tqMode s.tio.section_ q = 2 then updTq q (fun c => { c with il := true, ilAt := some s.gt }) s else s) s

/-- An output's fault is latched (R281). -/
def tqLatch (q code : Nat) (s : State) : State :=
  updTq q (fun c => { c with
    faults := if c.faults.any (·.1 = code) then c.faults else c.faults ++ [(code, s.gt)] }) s

/-- The condition of a latched fault is gone (Table 10.4). -/
def tqGone (s : State) (q code : Nat) : Bool :=
  let c := tqOf s q
  match code with
  | 6 => decide (c.current ≤ 650000)
  | 7 => decide ((fsOf s (tqGroup q)).current ≤ 4000000)
  | 8 => !c.qUp
  | 11 => decide (c.current < 2000)
  | 12 => c.breach = none
  | _ => true

/-- Latched faults whose condition is gone are cleared. -/
def tqClearGone (q : Nat) (s : State) : State :=
  updTq q (fun c => { c with faults := c.faults.filter fun f => !tqGone s q f.1 }) s

/-- A trip I/O unit is retired (R281, R412). -/
def retireTq (q code : Nat) (s : State) : State := tioDecide (retireRecord (.tq q) code s)

/-- A FIELD fault of an output is latched and written, unless it is latched already (R281). -/
def tqFieldFault (q code : Nat) (s : State) : State :=
  if (tqOf s q).faults.any (·.1 = code) then s else tioFault (0x40 + q) code (tqLatch q code s)

/-- A CHANNEL fault of an output: 8 into its bucket, retirement at 32 (R281, Table 17.3). A retired output's
fault is latched and written only (R408). -/
def tqChannelFault (q code : Nat) (s : State) : State :=
  if (fsOf s (tqGroup q)).level = 2 then s else
    let s0 := tioFault (0x40 + q) code (tqLatch q code s)
    if isRetired s (.tq q) then s0 else
      let s1 := bucketAdd (.tq q) 8 s0
      tioDecide (if 32 ≤ bucket s1 (.tq q) then retireRecord (.tq q) code s1 else s1)

/-! ### The logic side's refresh -/

/-- A permissive bound to output q: whether the newest voter update granted it (R20). The binding is that of the table
that the update voted under (R106). -/
def tqPermit (s : State) (q : Nat) : Option Bool := (s.ile.driven.find? fun x => x.1 = ⟨5, 0, q⟩).map (·.2)

/-- What a refresh carries (R286): commands of the last publication, voted permissives and whether the
module drives. During the overlap the last refresh's stand (R277). -/
def tioTake (published : Bool) (s : State) : State :=
  let s0 := { s with tio := { s.tio with
    lastRefresh := s.gt, refreshSeq := (s.tio.refreshSeq + 1) % 2 ^ 32, silent := false } }
  if s.tio.overlap.isSome || !tioLoaded s then s0 else
    let pts := s.chg.cur.points
    let cmd (q : Nat) : Bool := (linked pts (.tqCmd q)).any fun a => (outEntry s a).value.getLsbD 0
    let s1 := { s0 with tio := { s0.tio with
      drive := tioDriver s
      perms := (List.range 12).map (tqPermit s)
      tq := (List.range 12).map fun q => { tqOf s q with cmd := if published then cmd q else (tqOf s q).cmd }
      fs := s.tio.fs.map fun g => { g with rising := g.rising && decide (2 ≤ g.level) } } }
    if published then
      (List.range 12).foldl (fun s q =>
        if tqMode s.tio.section_ q = 1 && !(tqOf s q).cmd then tqClearGone q s else s) s1
    else s1

/-- A refresh arrives and the outputs are decided within 100 µs (R277). -/
def tioRefreshNow (published : Bool) (s : State) : State := tioDecide (tioTake published s)

/-- The parameters section of a generation takes effect: a changed section latches every interlock, as
the end of BOOT does (R284). `ccvOk` is the generation's confirmation (R289). -/
def tioConfigure (sect : List Byte) (ccvOk boot : Bool) (s : State) : State :=
  let changed := decide (sect ≠ s.tio.section_)
  let s1 := { s with tio := { s.tio with section_ := sect, ccvOk := ccvOk && !sect.isEmpty } }
  tioDecide (if changed || boot then latchAll (List.range 12) s1 else s1)

/-- The CCV is confirmed (R289): the interlocks latch (R284) and TIO_CCV_CONFIRMED is written. -/
def tioConfirm (s : State) : State :=
  let s1 := latchAll (List.range 12) { s with tio := { s.tio with ccvOk := true } }
  tioDecide (occurU Code.tioCcvConfirmed Src.tio (ccvOf s.tio.section_) s1)

/-- TIO_REFRESH (R286). -/
def execTioRefresh (t : Nat) (ok : Bool) (s0 : State) : Host.Outcome State Fault Refusal :=
  let s := atT t s0
  .next (if ok then tioRefreshNow false s else s)

/-- TIO_LINK_SILENT (R286, R284): no valid refresh for TQ_TIMEOUT. -/
def execTioLinkSilent (t : Nat) (s0 : State) : Host.Outcome State Fault Refusal :=
  let s := atT t s0
  .next (if tioLoaded s && !s.tio.silent && decide (s.tio.lastRefresh + field s.tio.section_ 14 2 * ms ≤ s.gt) then
    tioDecide (latchAll (List.range 12)
      (occur Code.tioLinkSilent Src.tio 0 { s with tio := { s.tio with silent := true } })) else s)

/-! ### The 500 µs sample window -/

/-- HANDOVER. -/
def isHandover : Pend → Bool
  | .handover => true
  | _ => false

/-- Test pulses and dark tests are suspended around a handover: from its acceptance to 1 ms after it (R291).
DEDUCED (log 177). -/
def tioQuiet (s : State) : Bool :=
  decide (s.gt < s.tio.quiet) || s.plv.handoverAt.isSome || s.cyc.pend.any fun p => isHandover p.body

/-- A dark test of output q runs: a switch stays open for at most DARK_US (R279). -/
def darkRuns (s : State) (q : Nat) : Bool :=
  match (tqOf s q).dark with
  | some (_, at_, _) => decide (s.gt ≤ at_ + field s.tio.section_ 12 2 * us)
  | none => false

/-- The source whose pulse covers window w (R274), unless test pulses are suspended (R291). -/
def testSource (s : State) (w : Nat) : Option Nat :=
  let m := 2 * field s.tio.section_ 8 2
  if tioQuiet s || m = 0 then none
  else (List.range 4).find? fun x => w % m = x * m / 4

/-- Class of a current in µA (Table 10.3): 1 WIRE_BREAK, 2 BAND, 3 OFF, 4 ON. -/
def curClass (std : Bool) (ua : Nat) : Nat :=
  if 2200 < ua then 4 else if 1600 < ua then 2 else if std then 3
  else if 500 ≤ ua then 3 else if 350 ≤ ua then 2 else 1

/-- Class of a terminal voltage in monitor mode (R290); `line` is the feeding line's voltage. -/
def monClass (line : Option Nat) (mv : Nat) : Nat :=
  let von := match line with
    | some l => Min.min 15000 (l * 60 / 100)
    | none => 15000
  if von ≤ mv then 4 else if mv ≤ 5000 then 3 else 2

/-- One sample of input i (R273): its value, quality state and WIRE_BREAK fault. -/
def tiSample (i cls : Nat) (s : State) : State :=
  let c := tiOf s i
  let b := s.tio.section_
  let run := if cls = 4 then c.run + 1 else 0
  let wb := if cls = 1 then c.wb + 1 else 0
  let bad := decide (2 ≤ wb) || (c.wbBad && cls ≠ 3 && cls ≠ 4)
  let s1 := updTi i (fun c => { c with
    cls := cls, run := run, wb := wb, wbBad := bad,
    val := if cls = 4 then c.val || decide (tiFilter b i ≤ run) else false }) s
  if wb = 2 && !c.wbBad then tioFault i 1 s1 else s1

/-- A pulse of source x at which input i has no check: neither failures nor passes around it are at consecutive
pulses (R275). -/
def tiNoCheck (i x : Nat) (s : State) : State :=
  updTi i (fun c => { c with fails := Tab.set c.fails x 0, passes := Tab.set c.passes x 0 }) s

/-- One check of input i at a pulse of source x (R275): two in a row set or clear CROSS_SHORT. -/
def tiCheck (i x : Nat) (pass : Bool) (s : State) : State :=
  let c := tiOf s i
  let f := if pass then 0 else Tab.getD c.fails x 0 + 1
  let p := if pass then Tab.getD c.passes x 0 + 1 else 0
  let had := decide (x ∈ c.cross)
  let cross := if 2 ≤ f ∧ !had then c.cross ++ [x] else if 2 ≤ p then c.cross.filter (· ≠ x) else c.cross
  let s1 := updTi i (fun c => { c with
    fails := Tab.set c.fails x (Min.min 2 f), passes := Tab.set c.passes x (Min.min 2 p), cross := cross }) s
  if 2 ≤ f && !had then tioFault i 2 s1 else s1

/-- One input in a window of the driving module. -/
def tiDriveWindow (m : TioMeas) (x : Option Nat) (s : State) (i : Nat) : State :=
  let b := s.tio.section_
  if tiMode b i = 0 || isRetired s (.ti i) then s else
    let ua := m.cur.getD i 0
    let own := decide (x = some (tiTp b i))
    if own then
      tiCheck i (tiTp b i) (decide (ua < 350)) (updTi i (fun c => { c with pend := none }) s)
    else
      let cls := curClass (tiMode b i = 1) ua
      let before := (tiOf s i).cls
      let clear (k : Nat) : Bool := k = 3 || k = 4
      let s1 := match (tiOf s i).pend with
        | some y => (fun s => if clear cls then tiCheck i y.1 y.2 s else tiNoCheck i y.1 s)
            (updTi i (fun c => { c with pend := none }) s)
        | none => s
      let s2 := match x with
        | some y =>
          if decide (tiTp b i ≤ 3) && clear before then updTi i (fun c => { c with pend := some (y, decide (350 ≤ ua)) }) s1
          else tiNoCheck i y s1
        | none => s1
      tiSample i cls s2

/-- One input in a window of monitor mode (R290). -/
def tiMonWindow (m : TioMeas) (x : Option Nat) (s : State) (i : Nat) : State :=
  let b := s.tio.section_
  let p := tiTp b i
  if tiMode b i = 0 || isRetired s (.ti i) || !m.sinks || decide (x = some p) then s
  else tiSample i (monClass (if p ≤ 3 then some (m.tpLine.getD p 0) else none) (m.vTerm.getD i 0)) s

/-- One source's line check (R275): low at or below 2 V in its pulse, else at or above the supply less
1.5 V. -/
def tpWindow (m : TioMeas) (x : Option Nat) (s : State) (p : Nat) : State :=
  let c := tpOf s p
  let mv := m.tpLine.getD p 0
  if isRetired s (.tp p) then s
  else if x = some p then
    let bad := c.bad || decide (2000 < mv)
    let f := if bad then Min.min 2 (c.fails + 1) else 0
    let k := if bad then 0 else Min.min 2 (c.passes + 1)
    let fault := decide (2 ≤ f) || (c.fault && decide (k < 2))
    let s1 := updTp p (fun _ => ⟨false, f, k, fault⟩) s
    if fault && !c.fault then tioFault (0x20 + p) 4 s1 else s1
  else updTp p (fun c => { c with bad := c.bad || decide (mv + 1500 < (fsOf s (tpGroup p)).mv) }) s

/-- Whether a pair's inputs disagree with the pairing, and whether both show their demand value. -/
def pairState (s : State) (j : Nat) : Bool × Bool :=
  let a := (tiOf s (2 * j)).val
  let b := (tiOf s (2 * j + 1)).val
  if tiPair s.tio.section_ j = 1 then (a != b, !a && !b) else (a == b, !a && b)

/-- One pair at a window (R276). -/
def pairWindow (s : State) (j : Nat) : State :=
  if tiPair s.tio.section_ j = 0 then s else
    let k := pairState s j
    updTi (2 * j) (fun c => { c with discSince := mark k.1 c.discSince s.gt, disc := c.disc && !k.2 }) s

/-- The readback checks of one output at a window (R278). A running dark test suspends all but those of the
current. -/
def tqWindow (m : TioMeas) (s : State) (q : Nat) : State :=
  let c := tqOf s q
  let g := fsOf s (tqGroup q)
  let i := m.iq.getD q 0
  let qp := m.qPlus.getD q 0
  let qm := m.qMinus.getD q 0
  let up := decide (8000 ≤ qp)
  let s0 := updTq q (fun c => { c with
    ovr := mark (decide (650000 < i)) c.ovr s.gt
    live := mark (decide (2000 ≤ i) && g.level ≠ 2) c.live s.gt
    current := i }) s
  if darkRuns s q then s0 else
    let breach := if c.on then
        decide (i < 0) || (decide (i ≤ 650000) && (decide (qp + 1500 < g.mv) || decide (1500 < qm)))
      else decide (2000 ≤ i ∧ i ≤ 650000)
    let low := c.on && tqOpenLoad s.tio.section_ q && decide (i < 5000) && g.level ≠ 2
    let s1 := updTq q (fun c => { c with
      breach := mark (breach && g.level ≠ 2) c.breach s.gt
      heldUp := if c.on then c.heldUp else mark up c.heldUp s.gt
      qUp := up
      openLoad := low }) s0
    if low && !c.openLoad then tioFault (0x40 + q) 13 s1 else s1

/-- A group's summed current: its outputs and its test pulse sources together (R269). -/
def groupCurrent (m : TioMeas) (g : Nat) : Int :=
  let outs := ((List.range 12).filter fun q => tqGroup q = g).map fun q => m.iq.getD q 0
  let tps := ((List.range 4).filter fun p => tpGroup p = g).map fun p => m.iTp.getD p 0
  (outs ++ tps).foldl (· + ·) 0

/-- A reset edge of input i judged for output q's function (R285). -/
def fnEdge (i h : Nat) (good : Bool) (s : State) (q : Nat) : State :=
  let b := s.tio.section_
  if tqMode b q ≠ 2 || fnReset b q ≠ i then s
  else if decide (100 * ms ≤ h ∧ h ≤ 5 * sec) && good && !tqDemand s q
      && decide ((fsOf s (tqGroup q)).level ≤ 1) && s.tio.ccvOk then
    let s1 := tqClearGone q (updTq q (fun c => { c with il := false }) s)
    occurU Code.tioReset (Src.tq q) i { s1 with tio := { s1.tio with resets := satInc 0xFFFF s1.tio.resets } }
  else occurU Code.tioResetRejected (Src.tq q) i
    { s with tio := { s.tio with rejected := satInc 0xFFFF s.tio.rejected } }

/-- A RESET input at a window of the driving module (R285). -/
def resetWindow (s : State) (i : Nat) : State :=
  if tiMode s.tio.section_ i ≠ 3 then s else
    let c := tiOf s i
    let v := tiVal s i
    let good := tiQual s i = qGood
    match c.rise with
    | none => if v then updTi i (fun c => { c with rise := some s.gt, goodAll := good }) s else s
    | some r =>
      if v then updTi i (fun c => { c with goodAll := c.goodAll && good }) s
      else
        let s1 := updTi i (fun c => { c with rise := none }) s
        if tioDriving s then (List.range 12).foldl (fnEdge i (s.gt - r) c.goodAll) s1 else s1

/-- The function status word (R292), which is also the function state of R68. -/
def fnStatus (s : State) : Nat :=
  ((List.range 12).map fun q =>
    2 ^ q * b2n (tqOf s q).il + 2 ^ (12 + q) * b2n (tqMode s.tio.section_ q = 2 && tqDemand s q)
      + 2 ^ (24 + q) * b2n (!(tqOf s q).faults.isEmpty)).sum
    + 2 ^ 36 * b2n s.tio.ccvOk + 2 ^ 37 * b2n (!s.tio.silent)

/-- QUAL of an output's status point (R282, Table 10.4). -/
def tqQual (s : State) (q : Nat) : Nat :=
  let l := (fsOf s (tqGroup q)).level
  if isRetired s (.tq q) then qRetired else if l = 3 then qBadSupply
  else if (tqOf s q).openLoad then qUncertain else if l ≠ 0 then qSupply else qGood

/-- The points of R292 at a window that ends at `e`; a monitor classifies no input where no module drives the sinks
(R290). A retired input reads FALSE, whatever its mode (R281). -/
def tioPoints (e : Nat) (live : Bool) (x : Option Nat) (s : State) : State :=
  let pts := s.chg.cur.points
  let b := s.tio.section_
  let s1 := (List.range 24).foldl (fun s' i =>
    if !isRetired s (.ti i)
        && (tiMode b i = 0 || !live || decide (x = some (tiTp b i)) || (tiOf s i).cls = 0) then s'
    else deliverLink pts (.ti i) (if tiVal s i then 1 else 0) (some e) (tiQual s i) s') s
  let s2 := (List.range 12).foldl (fun s' q =>
    deliverLink pts (.tqStatus q) (if (tqOf s q).on && (tqOf s q).qUp then 1 else 0) (some e) (tqQual s q) s') s1
  deliverLink pts .fnStatus (BitVec.ofNat 64 (fnStatus s)) (some e) qGood s2

/-- TIO registers as they stand (Tables 10.8 to 10.10). -/
def tioRegsNow (s : State) : List (Nat × Nat) :=
  let m24 (f : Nat → Bool) : Nat := ((List.range 24).map fun i => 2 ^ i * b2n (f i)).sum
  let m12 (f : Nat → Bool) : Nat := ((List.range 12).map fun q => 2 ^ q * b2n (f q)).sum
  let d := tioDriving s
  [(0x00, b2n (tioLoaded s) + 2 * b2n s.tio.ccvOk + 4 * b2n (!s.tio.silent) + 8 * b2n d + 16 * b2n (!d)
      + 32 * b2n s.tio.overlap.isSome),
   (0x04, ccvOf s.tio.section_), (0x08, if s.tio.ccvOk then ccvOf s.tio.section_ else 0),
   (0x0C, m24 (tiVal s)),
   (0x10, m24 fun i => isRetired s (.ti i) || (tiMode s.tio.section_ i ≠ 0 && isBadQual (tiQual s i))),
   (0x14, m12 (fun q => (tqOf s q).on) + 65536 * m12 fun q => isRetired s (.tq q)),
   (0x18, m12 (fun q => (tqOf s q).il) + 65536 * m12 fun q => !(tqOf s q).faults.isEmpty)]
  ++ ((List.range 2).map fun g =>
    (0x1C + 4 * g, Min.min 0xFFFF (fsOf s g).mv + 65536 * (fsOf s g).level
      + 2 ^ 18 * Min.min 1023 ((fsOf s g).current.toNat / 10000)))
  ++ [(0x24, ((List.range 4).map fun p => 4 ^ p *
        (if isRetired s (.tp p) then 3 else if (tpOf s p).fault then 2 else if d then 1 else 0)).sum),
      (0x28, s.tio.lastSub + 256 * s.tio.lastCode + 65536 * s.tio.count),
      (0x2C, s.tio.resets + 65536 * s.tio.rejected)]

/-- What one sample window does (R271 to R285): inputs, checks, demands, resets, outputs, points and registers. -/
def sampleWindow (m : TioMeas) (s0 : State) : State :=
  let w := s0.gt / (500 * us)
  let e := 500 * us * w + 20 * us
  let s := tiKeep e { s0 with tio := { s0.tio with win := some w } }
  if !tioLoaded s || fircOnly s then { s with tio := { s.tio with regs := tioRegsNow s } } else
    let x := testSource s w
    let drv := tioDriving s
    let s1 := if drv then
        (List.range 4).foldl (tpWindow m x) ((List.range 24).foldl (tiDriveWindow m x) s)
      else (List.range 24).foldl (tiMonWindow m x) s
    let s2 := (List.range 12).foldl pairWindow s1
    let s3 := latchDemand ((List.range 12).filter (tqDemand s2)) s2
    let s4 := (List.range 24).foldl resetWindow s3
    let s5 := (List.range 2).foldl (fun s g =>
      let i := groupCurrent m g
      updFs g (fun f => { f with current := i, ovr := mark (decide (4000000 < i)) f.ovr s.gt }) s)
      (if drv then (List.range 12).foldl (tqWindow m) s4 else s4)
    let s6 := tioPoints e (drv || m.sinks) x (tioDecide s5)
    { s6 with tio := { s6.tio with regs := tioRegsNow s6 } }

/-- TIO_SAMPLE_WINDOW: in or at the end of a window, which is taken once (R271). -/
def execTioSampleWindow (t : Nat) (m : TioMeas) (s0 : State) : Host.Outcome State Fault Refusal :=
  let s := atT t s0
  .next (if s.gt % (500 * us) ≤ 20 * us && s.tio.win ≠ some (s.gt / (500 * us)) then sampleWindow m s else s)

/-- PAIR_DISC (R276): the inputs have disagreed for longer than TI_DISC. `pair` is j of TI2j. -/
def execPairDisc (t pair : Nat) (s0 : State) : Host.Outcome State Fault Refusal :=
  let s := atT t s0
  let c := tiOf s (2 * pair)
  .next (if tiPair s.tio.section_ pair ≠ 0 && !c.disc
      && held c.discSince (tiDisc s.tio.section_ pair * ms + 1) s.gt then
    tioDecide (latchDemand ((List.range 12).filter fun q => tqDemand s q)
      (tioFault (2 * pair) 3 (updTi (2 * pair) (fun c => { c with disc := true }) s))) else s)

/-- SINK_CHECK (R281): a sink against its internal reference, every 100 ms. The fault is detected when its effect
begins; while it stays, its persistence counts (R408). -/
def execSinkCheck (t i : Nat) (ok : Bool) (s0 : State) : Host.Outcome State Fault Refusal :=
  let s := atT t s0
  .next (if !tioDriving s || tiMode s.tio.section_ i = 0 || isRetired s (.ti i) || 24 ≤ i then s
    else if ok then updTi i (fun c => { c with sinkFault := none }) s
    else if (tiOf s i).sinkFault.isSome then s
    else
      let s1 := bucketAdd (.ti i) 8 (tioFault i 5 (updTi i (fun c => { c with sinkFault := some s.gt }) s))
      tioDecide (if 32 ≤ bucket s1 (.ti i) then retireRecord (.ti i) 5 s1 else s1))

/-- TIO_READBACK (R278): a breach that has lasted 2 ms. -/
def execTioReadback (t q : Nat) (s0 : State) : Host.Outcome State Fault Refusal :=
  let s := atT t s0
  .next (if tioDriving s && held (tqOf s q).breach (2 * ms) s.gt && !((tqOf s q).faults.any (·.1 = 12)) then
      tqChannelFault q 12 s else s)

/-- OVERCURRENT (R278): above 0.65 A for longer than 5 ms, or `short` above 2.5 A at any instant, on or off. -/
def execOvercurrent (t q : Nat) (short : Bool) (s0 : State) : Host.Outcome State Fault Refusal :=
  let s := atT t s0
  .next (if tioDriving s && (short || held (tqOf s q).ovr (5 * ms + 1) s.gt) then tioDecide (tqFieldFault q 6 s)
    else s)

/-- The outputs of group g that an overload latches (Table 10.4). -/
def overloads (s : State) (g : Nat) : List Nat :=
  (List.range 12).filter fun q => tqGroup q = g && tqMode s.tio.section_ q ≠ 0 && !((tqOf s q).faults.any (·.1 = 7))

/-- GROUP_OVERLOAD (R278): above 4 A for 5 ms latches every output of the group off; it is written when that effect
begins (R281). -/
def execGroupOverload (t g : Nat) (s0 : State) : Host.Outcome State Fault Refusal :=
  let s := atT t s0
  .next (if tioDriving s && held (fsOf s g).ovr (5 * ms) s.gt && !(overloads s g).isEmpty then
    tioDecide (tioFault (0x60 + g) 7 ((overloads s g).foldl (fun s q => tqLatch q 7 s) s)) else s)

/-- Output q's next dark test is due: it has had none of that side in the current DT_PERIOD (R279). The periods
are the whole multiples of DT_PERIOD of GT (DESIGN CHOICE, log 192). -/
def darkDue (s : State) (q : Nat) : Bool :=
  let c := tqOf s q
  let p := field s.tio.section_ 10 2 * sec
  match if c.nextLow then c.lastLow else c.lastHigh with
  | some l => decide (l / p ≠ s.gt / p)
  | none => true

/-- DARK_TEST_START (R279): one switch of an energised output opens; not in LOW or OFF (Table 10.5), not
around a handover (R291), 1 ms or more after the last, and once per side in a DT_PERIOD. -/
def execDarkTestStart (t q : Nat) (s0 : State) : Host.Outcome State Fault Refusal :=
  let s := atT t s0
  let c := tqOf s q
  .next (if c.on && !darkRuns s q && decide ((fsOf s (tqGroup q)).level ≤ 1) && !tioQuiet s
      && (s.tio.lastDark = none || held s.tio.lastDark ms s.gt) && darkDue s q then
    updTq q (fun c => { c with
      dark := some (!c.nextLow, s.gt, c.current.toNat)
      lastHigh := if c.nextLow then c.lastHigh else some s.gt
      lastLow := if c.nextLow then some s.gt else c.lastLow
      nextLow := !c.nextLow })
      { s with tio := { s.tio with lastDark := some s.gt } } else s)

/-- Another output whose current rose by half the tested output's, or by 20 mA while it was off (R280). -/
def darkPartner (s : State) (q prior : Nat) (m : DarkMeas) : Option Nat :=
  match m.rises.find? fun r => decide (r.1 < 12) && r.1 ≠ q && (
      decide (prior ≤ 2 * r.2 ∧ 0 < r.2) || (!(tqOf s r.1).on && decide (20000 ≤ r.2))) with
  | some r => some r.1
  | none => none

/-- DARK_TEST_END (R279, R280). A sensor reads no current below 2 mA (R278, log entry 15). After DARK_US the switch
has closed, and readings taken then judge nothing. -/
def execDarkTestEnd (t q : Nat) (m : DarkMeas) (s0 : State) : Host.Outcome State Fault Refusal :=
  let s := atT t s0
  .next (match (tqOf s q).dark with
    | none => s
    | some (high, _, prior) =>
      let s0 := updTq q (fun c => { c with dark := none }) s
      if !darkRuns s q then s0 else
      let s1 := if high then
          (m.falls.filter fun r => r ≠ q && !(tqOf s r).on && (tqOf s r).qUp).foldl (fun s r =>
            tqFieldFault r 8 (tqFieldFault q 8 s)) s0
        else s0
      let hi := decide (2000 ≤ m.hiCur)
      let lo := decide (2000 ≤ m.loCur)
      tioDecide (
        if high then
          if hi then tqChannelFault q 11 s1
          else if 8000 ≤ m.qPlus then
            match darkPartner s q prior m with
            | some r => tqFieldFault r 8 (tqFieldFault q 8 s1)
            | none => updTq q (fun c => { c with heldUp := some (c.heldUp.getD s.gt) }) s1
          else updTq q (fun c => { c with heldUp := none }) s1
        else if lo then tqChannelFault q 11 s1
        else if hi then retireRecord (.tq q) 10 (tioFault (0x40 + q) 10 s1)
        else s1))

/-- SHORT_TO_SUPPLY (R280): Q+ held up with no partner over one full DT_PERIOD round. -/
def execShortToSupply (t q : Nat) (s0 : State) : Host.Outcome State Fault Refusal :=
  let s := atT t s0
  .next (if tioDriving s && held (tqOf s q).heldUp (field s.tio.section_ 10 2 * sec) s.gt && !isRetired s (.tq q)
      && !((tqOf s q).faults.any fun f => f.1 = 8) then
    retireTq q 9 (tioFault (0x40 + q) 9 s) else s)

/-- Falling thresholds of WARN, LOW and OFF in mV (Table 10.5). -/
def fallMv : List Nat := [18000, 16000, 12000]
/-- Rising thresholds of OK, WARN and LOW in mV. -/
def riseMv : List Nat := [18500, 16500, 12500]

/-- TIO_SUPPLY_MEASURE (R282). -/
def execTioSupplyMeasure (t g mv : Nat) (s0 : State) : Host.Outcome State Fault Refusal :=
  let s := atT t s0
  .next (updFs g (fun f => { f with
    mv := mv
    below := (fallMv.zip f.below).map fun p => mark (decide (mv < p.1)) p.2 s.gt
    above := (riseMv.zip f.above).map fun p => mark (decide (p.1 ≤ mv)) p.2 s.gt }) s)

/-- A group takes a level (R282 to R284). -/
def fsTake (g level : Nat) (s : State) : State :=
  let off := decide (level = 3)
  let s1 := occur Code.tioSupply (Src.fs g) 0 (updFs g (fun f => { f with level := level, rising := f.rising || off }) s)
  tioDecide (if off then latchAll ((List.range 12).filter fun q => tqGroup q = g) s1 else s1)

/-- TIO_SUPPLY_DOWN (R282): below a falling threshold for 1 ms. -/
def execTioSupplyDown (t g : Nat) (s0 : State) : Host.Outcome State Fault Refusal :=
  let s := atT t s0
  let f := fsOf s g
  .next (match [3, 2, 1].find? fun l => held (f.below.getD (l - 1) none) ms s.gt with
    | some l => if f.level < l then fsTake g l s else s
    | none => s)

/-- TIO_SUPPLY_UP (R282): at or above a rising threshold for 50 ms. -/
def execTioSupplyUp (t g : Nat) (s0 : State) : Host.Outcome State Fault Refusal :=
  let s := atT t s0
  let f := fsOf s g
  .next (match [0, 1, 2].find? fun l => held (f.above.getD l none) (50 * ms) s.gt with
    | some l => if l < f.level then fsTake g l s else s
    | none => s)

/-- A handover begins (R291): overlap on the module leaving ACTIVE, test pulses and dark tests suspended, one that
runs ended. -/
def tioHandover (leaving : Bool) (s : State) : State :=
  { s with tio := { s.tio with
    overlap := if leaving then some (s.gt + 200 * us) else s.tio.overlap
    quiet := s.gt + ms
    tq := s.tio.tq.map fun c => { c with dark := none } } }

/-- The module stops driving at once (retirement, PFW stop). -/
def tioStop (s : State) : State := tioDecide { s with tio := { s.tio with drive := tioDriver s, overlap := none } }

/-- The standby takes interlocks and latched faults from the active's function state at its commit `tc`, and keeps the
interlocks that it has latched on a demand since (R291). -/
def tioFromActive (tc w : Nat) (s : State) : State :=
  { s with tio := { s.tio with tq := (List.range 12).map fun q =>
      let c := tqOf s q
      { c with
        il := w.testBit q || (match c.ilAt with | some a => decide (tc ≤ a) | none => false)
        faults := if w.testBit (24 + q) then (if c.faults.isEmpty then [(0, s.gt)] else c.faults) else [] } } }

end Sys2Proof.Machine
end

