-- ==== Sys2Proof/Machine/Switch.lean ====
section
/-! DEFINITION. The exchange of one generation for another (R103 steps 1 to 5, R104, R108 to R113), what the
stores keep of generations (R94, R112), and the change status record (R123). -/

namespace Sys2Proof.Machine

/-- The stores take the generations, GEN_HIGH and the change state (R93, R94, R112). -/
def saveGens (s : State) : State :=
  { s with nvb := { s.nvb with
    cur := if s.chg.loaded then some ⟨s.chg.cur, s.chg.curCcv⟩ else none
    prev := s.chg.prev
    older := s.chg.older
    genHigh := s.chg.genHigh
    trial := s.mod.tup.change = .trial
    wasConfirmed := s.mod.tup.change = .confirmed || (s.mod.tup.change = .staged && s.chg.before = .confirmed) } }

/-- Whether a point assigns an address newly (R104): not assigned in that direction with that TYPE before. -/
def newlyAssigned (old : List Point) (p : Point) : Bool :=
  !old.any fun q => q.addr = p.addr && q.isOut = p.isOut && q.ty = p.ty

/-- The entry that an output point holds in the safe image (R44). -/
def safeEntry (alp : List AlParam) (p : Point) (written : Word) : Entry :=
  ⟨safeValue alp p, p.ty, 0xC0, false, false, false, false, written⟩

/-- The base image under a new I/O map: entries kept, newly assigned outputs safe with WRITTEN 0, others
gone (R104). -/
def rebase (old : List Point) (g : Gen) (base : Tab Entry) : Tab Entry :=
  g.points.foldl (fun t p =>
    if !p.isOut then t
    else if newlyAssigned old p then Tab.set t p.addr (safeEntry g.alp p 0)
    else Tab.set t p.addr (Tab.getD base p.addr (safeEntry g.alp p 0))) []

/-- Step 3 of R103: the I/O map of the generation, with its points (R104). -/
def loadMap (old g : Gen) (s : State) : State :=
  let fresh := (g.points.filter fun p => !p.isOut && newlyAssigned old.points p).map (·.addr)
  let ins := (g.points.filter fun p => !p.isOut).map (·.addr)
  { s with cyc := { s.cyc with
    raw := s.cyc.raw.filter fun p => decide (p.1 ∈ ins) && decide (p.1 ∉ fresh)
    inbox := s.cyc.inbox.filter fun a => decide (a.addr ∉ fresh)
    base := rebase old.points g s.cyc.base } }

/-- The CAN configuration of a generation: entries already in a FIFO are sent (R107). -/
def canConfigure (old new : List CanParam) (s : State) : State :=
  canGate { s with can := { s.can with
    par := new
    ports := (List.range 4).map fun x =>
      let o := old.getD x canParamOff
      let n := new.getD x canParamOff
      let p := canPort s x
      { p with
        counts := if o.tx = n.tx then p.counts else []
        badObjs := if o.rx = n.rx then p.badObjs else [] } } }

/-- Step 5 of R103: a force on an address that the generation does not assign, or assigns with another TYPE
or direction, is dropped (R113). -/
def dropForces (old g : Gen) (s : State) : State :=
  let gone (f : Force) : Bool := match pointAt old.points f.addr, pointAt g.points f.addr with
    | some a, some b => !(a.ty = b.ty && a.isOut = b.isOut)
    | _, none => true
    | none, some _ => true
  let out := s.cyc.forces.filter gone
  let s1 := { s with
    cyc := { s.cyc with
      forces := s.cyc.forces.filter fun f => !gone f
      forceVer := (s.cyc.forceVer + out.length) % 2 ^ 32 }
    chg := { s.chg with forcesDropped := out.length } }
  let s2 := out.foldl (fun s f => occur2 Code.forceDropped Src.sv f.addr f.value.toNat s) s1
  setForced (s2.mod.tup.forced && !s2.cyc.forces.isEmpty) s2

/-- The Sorrel codes of a migration, in ascending key (R108). -/
def migCodes (codes : List (Nat × Bool)) (s : State) : State :=
  codes.foldl (fun s k => occurU (if k.2 then Code.migrateDrop else Code.migrateReset) Src.sv (k.1 % 2 ^ 32) s) s

/-- The migration (step 1 of R103) with its codes and counts; the checkpoint in the layout of the generation is
written before its first journal record (R112). -/
def runMigration (old g : Gen) (s : State) : State :=
  let m := migrate old.vars g.vars s.cyc.vars
  let s1 := { s with
    cyc := { s.cyc with vars := m.vars }
    chg := { s.chg with carriedN := m.carried, resetN := m.resets, droppedN := m.dropped } }
  let s2 := migCodes m.codes s1
  { s2 with nvb := checkpoint g.num (retainedOf g.vars m.vars) s2.nvb }

/-- R103 steps 1 to 5: the module goes from the current generation to another; the wait for MIN_CYCLE is that of
the parameters now in force (R61, R80). -/
def exchangeGen (g : Stored) (s : State) : State :=
  let old := s.chg.cur
  let s1 := runMigration old g.g s
  let s2 := rearmGate1 g.g.gates s1
  let s3 := loadMap old g.g s2
  let s4 := { s3 with
    cyc := { s3.cyc with
      par := g.g.params, minDone := s3.cyc.minDone && decide (s3.cyc.tc + g.g.params.minCycle + gapNow s3 ≤ s3.gt) }
    chg := { s3.chg with cur := g.g, curCcv := g.ccv, firstDue := true, oldMap := old.points } }
  let s5 := alConfigure g.g.alp (canConfigure old.can g.g.can (hlRestart s4))
  dropForces old g.g (tioConfigure g.g.tio g.ccv false s5)

/-- Causes of CHANGE_REVERTED (Table 4.7). -/
def revCommand : Nat := 1
/-- WINDOW -/
def revWindow : Nat := 2
/-- REBOOT -/
def revReboot : Nat := 3
/-- RETIRE -/
def revRetire : Nat := 4

/-- The lane sets hold a further table beside that in use: one that is to come into use, or none (R117). -/
def holdTable (t : Option IleTable) (s : State) : State :=
  let k := if t = s.ile.table then none else t
  { s with ile := { s.ile with lanes := s.ile.lanes.map fun x => { x with set := { x.set with next := k } } } }

/-- The table of a reverted generation stays held while the engine has yet to change to it: the ILE cycle that selects
an image of that generation may begin after the revert's boundary (R106). -/
def revertHold (cur : Gen) (prev : Option Stored) (s : State) : State :=
  if s.ile.table.isSome && s.ile.table ≠ some cur.ile then s else holdTable (prev.map (·.g.ile)) s

/-- A revert's registers, store and code (R122, Table 4.4). The first generation of a module reverts to none. -/
def revertTake (cause : Nat) (s : State) : State :=
  let s1 := exchangeGen (s.chg.prev.getD ⟨genNone, false⟩) s
  let s2 := setChange .none { s1 with chg := { s1.chg with
    loaded := s.chg.prev.isSome, prev := s1.chg.older, older := none, trialEnd := 0, lastRevert := cause } }
  occurU Code.changeReverted Src.sv cause (saveGens (revertHold s.chg.cur s.chg.prev s2))

/-- A switch's registers, store and code (R103 steps 6 and 7). -/
def switchTake (s : State) : State :=
  match s.chg.staged with
  | none => s
  | some g =>
    let was := if s.chg.loaded then some (Stored.mk s.chg.cur s.chg.curCcv) else none
    let s1 := exchangeGen g s
    let s2 := setChange .trial { s1 with chg := { s1.chg with
      loaded := true, older := s.chg.prev, prev := was, staged := none, switchAt := none, trialEnd := 0 } }
    occur Code.changeSwitched Src.sv 0 (saveGens s2)

/-- A staged generation is removed; the change state before staging returns (R100). -/
def dropStaged (s : State) : State :=
  holdTable none (setChange s.chg.before { s with chg := { s.chg with staged := none, switchAt := none } })

/-- A pending switch is cancelled with a cause (R102). -/
def cancelSwitch (cause : Nat) (s : State) : State :=
  if s.chg.switchAt.isNone then s
  else occurU Code.switchCancelled Src.sv cause
    { s with chg := { s.chg with switchAt := none, lastCancel := cause } }

/-- Paths carried at present. -/
def carriedPaths (s : State) : Nat := s.ile.dyn.carried.length

/-- MOD_GEN_CUR. -/
def genCur (s : State) : Nat := if s.chg.loaded then s.chg.cur.num else 0
/-- MOD_GEN_STAGED: the staged generation shows once the change state is STAGED. -/
def genStaged (s : State) : Nat := match s.chg.staged with
  | some g => g.g.num
  | none => 0
/-- MOD_GEN_PREV. -/
def genPrev (s : State) : Nat := match s.chg.prev with
  | some g => g.g.num
  | none => 0

/-- The highest generation number ever staged on the pair (R93). -/
def genHighPair (s : State) : Nat := Max.max s.chg.genHigh s.plv.partnerGenHigh

/-- The fields of the change status record in the order of Table 4.7. -/
def changeRecord (s : State) : List Nat :=
  [genCur s, genStaged s, genPrev s, genHighPair s, s.chg.switchAt.getD 0,
   if s.mod.tup.change = .trial then s.chg.trialEnd else 0, if s.chg.staged.isSome then s.chg.migEst else 0,
   s.chg.migLast, s.chg.carriedN, s.chg.resetN, s.chg.droppedN, s.chg.forcesDropped, carriedPaths s,
   changeCode s.mod.tup.change, s.chg.lastCancel, s.chg.lastRevert]

/-- The record is taken at a program cycle boundary (R123). -/
def takeRecord (s : State) : State := { s with chg := { s.chg with record := changeRecord s } }

end Sys2Proof.Machine
end

