-- ==== Sys2Proof/Machine/Retire.lean ====
section
/-! DEFINITION. The module safe state (R414): the one operation every cause of retirement runs. -/

namespace Sys2Proof.Machine

/-- The cause as MOD_STATUS and, unless it is EJECTOR, the MRAM keep it (R42); `kept` is what an EJECTOR leaves
there. -/
def setCause (cause : RetireCause) (kept : Option RetireCause) (s : State) : State :=
  { s with
    mod := { s.mod with retireCause := cause }
    nva := { s.nva with modRetired := if cause = .ejector then kept else some cause } }

/-- A staging ends with the driving role: one that was relayed fails because its pair is gone (R98), another is aborted. -/
def retireJob (was : Role) (s : State) : State :=
  if was = .active then stageFail .partnerFail s else
  match s.chg.job with
  | some j => abortRole j.call j.era j.op { s with chg := { s.chg with job := none } }
  | none => s

/-- Operator commands that wait end with the driving role but for those relayed (R144, R348). -/
def opsAbort (s : State) : State :=
  (s.ile.ops.filter fun o => !o.relayed).foldl (fun s o => abortRole o.call o.era 0x50 s)
    { s with ile := { s.ile with ops := s.ile.ops.filter (·.relayed) } }

/-- A handover in progress ends with the driving role: its command is aborted. -/
def retireHandover (s : State) : State :=
  match s.plv.handoverAt with
  | some (c, e) => abortRole c e 0x10 { s with plv := { s.plv with handoverAt := none } }
  | none => s

/-- The change state that a retirement leaves (Table 2.3): that before the staging, or that before the trial. -/
def retiredChange (s : State) : ChangeState :=
  match s.mod.tup.change with
  | .staged => s.chg.before
  | .trial => .none
  | c => c

/-- With the driving role a generation that was staged is dropped and a trial reverted. -/
def retireChange (was : ChangeState) (s : State) : State :=
  match was with
  | .staged => saveGens (dropStaged s)
  | .trial => revertTake revRetire s
  | _ => s

/-- A REVERT that was relayed has its effect in the revert of the retirement, and completes (R348). -/
def retireReverts (s : State) : State :=
  s.cyc.pend.foldl (fun s p => answer p.call p.era (fun c s => done c p.op (genCur s) s) s)
    { s with cyc := { s.cyc with pend := [] } }

/-- Step 5 of Table 17.6 (Table 2.3): the force table is cleared, a STAGED generation discarded, a TRIAL
generation reverted; waiting commands end with ABORTED but for those relayed (R348). `was` is the state before. -/
def retireData (was : ModeTuple) (s : State) : State :=
  let s1 := opsAbort (retireHandover (retireJob was.role (abortWaiting { s with cyc := { s.cyc with
    forces := [], snap := [], phase := .boundary, executing := false, holdNext := false } })))
  let s2 := retireReverts (retireChange was.change s1)
  { s2 with chg := { s2.chg with mig := none, switchAt := none } }

/-- Steps 2 and 3 of Table 17.6 on the pair, the network and the interlocking engine: heartbeats and
transfers stop, the withdraw latch is set and every permissive is absent. -/
def retireLinks (s : State) : State :=
  { s with
    mod := { s.mod with arb := false }
    fwu := { s.fwu with netSince := none }
    ile := { s.ile with
      latch := true, granted := s.ile.granted.map fun _ => false, driven := s.ile.driven.map fun x => (x.1, false)
      drivenOld := s.ile.drivenOld.map fun x => (x.1, false), stNext := none, withdrawnNow := true, hold := none }
    oxn := { s.oxn with netNext := none, planNext := none, mayDrive := false, announce := none }
    plv := { s.plv with
      mute := false, waitSolo := false, soloNext := false, step := 0,
      source := false, tierAt := none, pairWait := none } }

/-- Steps 3, 4 and 6: trip outputs off, analog outputs safe or without enable, CAN ports in restricted
operation with their entries discarded (R277, R302, R321). -/
def retireOutputs (s : State) : State := canRelease (alSettleAll (tioStop (hartAbort s)))

/-- Retirement (R414, R35). A cause that arrives while the sequence runs changes nothing; of several
decided at one instant the lowest code stands (R415). An EJECTOR that opens during BOOT leaves a retirement that
MRAM keeps (R42). -/
def retireModule (cause : RetireCause) (s : State) : State :=
  if s.mod.tup.role = .retired then
    if s.flt.retiredAt = s.gt ∧ causeCode cause < causeCode s.mod.retireCause then
      setCause cause (if s.nva.modRetired = some s.mod.retireCause then none else s.nva.modRetired) s
    else s
  else
    let s1 := setTuple (fun m => { m with
      role := .retired, run := .safe, change := retiredChange s, ile := .withdrawn, net := .passive, forced := false })
      { s with flt := { s.flt with retiredAt := s.gt } }
    retireData s.mod.tup (retireOutputs (retireLinks (occur Code.unitRetired Src.sv 0 (setCause cause s.nva.modRetired s1))))

end Sys2Proof.Machine
end

