-- ==== Sys2Proof/Machine/Eject.lean ====
section
/-! DEFINITION. The ends of the overlaps of a handover (R291, R310), after which a module whose ejector asked for
the handover retires (R260). -/

namespace Sys2Proof.Machine

/-- After both overlaps have ended, a module whose ejector opened retires with cause EJECTOR (R260). -/
def ejectFinish (s : State) : State :=
  if s.con.ejectRetire && s.tio.overlap.isNone && s.alp.ramp.isNone then
    retireModule .ejector { s with con := { s.con with ejectRetire := false } }
  else s

/-- TIO_OVERLAP_END (R291): 200 µs after RELEASE the switches open. -/
def execTioOverlapEnd (t : Nat) (s0 : State) : Host.Outcome State Fault Refusal :=
  let s := atT t s0
  .next (match s.tio.overlap with
    | some e => if e ≤ s.gt then
        ejectFinish (tioDecide { s with tio := { s.tio with overlap := none, drive := tioDriver s } }) else s
    | none => s)

/-- ALP_RAMP_END (R310): the complementary ramp ends 2 ms after its start. -/
def execAlpRampEnd (t : Nat) (s0 : State) : Host.Outcome State Fault Refusal :=
  let s := atT t s0
  .next (match s.alp.ramp with
    | some (_, t0) => if t0 + 2 * ms ≤ s.gt then
        ejectFinish (alSettleAll { s with alp := { s.alp with ramp := none } }) else s
    | none => s)

end Sys2Proof.Machine
end

