-- ==== Sys2Proof/Machine/HostLink.lean ====
section
/-! DEFINITION. The host exchange's rings, doorbells, completions, events, DMA failures and PCIe link
(chapter 13 and R491). -/

namespace Sys2Proof.Machine

/-- EN of a ring configuration word. -/
def cfgEn (w : Word) : Bool := w.getLsbD 0
/-- LOG2 of a ring configuration word. -/
def cfgLog2 (w : Word) : Nat := bits w.toNat 1 4
/-- VEC of a ring configuration word. -/
def cfgVec (w : Word) : Nat := bits w.toNat 5 4
/-- Entries of a ring. -/
def ringLen (w : Word) : Nat := 2 ^ cfgLog2 w

/-- A base address whose bits [11:0] are 0 (R331). -/
def baseOk (lo : Word) : Bool := lo.toNat % 4096 = 0

/-- LOG2 in 4–12 (R331). -/
def log2Ok (w : Word) : Bool := decide (4 ≤ cfgLog2 w ∧ cfgLog2 w ≤ 12)

/-- An enabled command ring passes the checks of R331. -/
def ringSetupOk (r : RingS) : Bool := !cfgEn r.cfg || (baseOk r.cmdLo && baseOk r.cplLo && log2Ok r.cfg)

/-- The event ring passes the checks of R331. -/
def evqSetupOk (e : EvqS) : Bool := !cfgEn e.cfg || (baseOk e.lo && log2Ok e.cfg)

/-- The checks of R331 over the whole ring setup. -/
def armOk (h : HxpS) : Bool :=
  h.rings.all ringSetupOk && evqSetupOk h.evq && h.rings.any fun r => cfgEn r.cfg

/-- Which bit of HXP_CTL_DB [3:0] a word sets; none when it sets more than one (Table 13.19). -/
def ctlBit (val : Word) : Option Nat :=
  match bits val.toNat 0 4 with
  | 1 => some 0
  | 2 => some 1
  | 4 => some 2
  | 8 => some 3
  | _ => none

/-- ARM (R331); with the host exchange engine retired the block stays in reset (Table 17.2). -/
def armEff (s : State) : State :=
  if s.hxp.armed || isRetired s (.engine 5) then s
  else if armOk s.hxp then
    { s with hxp := { s.hxp with
      armed := true
      disarming := false
      rings := s.hxp.rings.map fun r => { r with
        head := 0, tail := 0, times := [], cplTail := 0, out := 0, phase := true, halted := false,
        busy := false, queue := [] }
      evq := { s.hxp.evq with tail := 0, out := 0, phase := true, halted := false } } }
  else
    let bad := s.hxp.rings.findIdx fun r => !ringSetupOk r
    setHxpErr (if bad < 8 then bad else 0) (decide (8 ≤ bad) && !evqSetupOk s.hxp.evq) 4 0 s

/-- DISARM (R331). -/
def disarmEff (s : State) : State :=
  if s.hxp.armed then { s with hxp := { s.hxp with disarming := true } } else s

/-- RING_RESET on a halted ring (R338). A ring reset ends a continued REC_READ (R446). -/
def ringResetEff (n : Nat) (s : State) : State :=
  if (ringOf s n).halted then
    updRing n (fun r => { r with
      head := 0, tail := 0, times := [], cplTail := 0, out := 0, phase := true, halted := false,
      busy := false, queue := [] })
      { s with hxp := { s.hxp with cursors := s.hxp.cursors.filter (·.ring ≠ n) } }
  else s

/-- EVQ_RESET on a halted event ring (R338). -/
def evqResetEff (s : State) : State :=
  if s.hxp.evq.halted then
    { s with hxp := { s.hxp with evq := { s.hxp.evq with tail := 0, out := 0, phase := true, halted := false } } }
  else s

/-- A write to HXP_CTL_DB (Table 13.19). -/
def ctlDb (val : Word) (s : State) : State :=
  match ctlBit val with
  | some 0 => armEff s
  | some 1 => disarmEff s
  | some 2 => ringResetEff (bits val.toNat 4 3) s
  | some 3 => evqResetEff s
  | _ => s

/-- A write to HXP_CMDQn_DB (R332). -/
def cmdqDb (n : Nat) (val : Word) (s : State) : State :=
  let r := ringOf s n
  let v := bits val.toNat 0 12
  if !s.hxp.armed || !cfgEn r.cfg || 8 ≤ n then s
  else if ringLen r.cfg ≤ v then
    setHxpErr n false 1 v (updRing n (fun r => { r with halted := true }) s)
  else
    let k := (v + ringLen r.cfg - r.head) % ringLen r.cfg
    updRing n (fun r => { r with
      tail := v
      times := r.times.take k ++ List.replicate (k - r.times.length) s.gt }) s

/-- A write to HXP_CPLQn_DB (R332). -/
def cplqDb (n : Nat) (val : Word) (s : State) : State :=
  let r := ringOf s n
  let v := bits val.toNat 0 12
  if !s.hxp.armed || !cfgEn r.cfg || 8 ≤ n then s
  else if ringLen r.cfg ≤ v then
    setHxpErr n false 1 v (updRing n (fun r => { r with halted := true }) s)
  else updRing n (fun r => { r with out := (r.cplTail + ringLen r.cfg - v) % ringLen r.cfg }) s

/-- A write to HXP_EVQ_DB (R332). -/
def evqDb (val : Word) (s : State) : State :=
  let e := s.hxp.evq
  let v := bits val.toNat 0 12
  if !s.hxp.armed || !cfgEn e.cfg then s
  else if ringLen e.cfg ≤ v then
    setHxpErr 0 true 1 v { s with hxp := { s.hxp with evq := { e with halted := true } } }
  else { s with hxp := { s.hxp with evq := { e with out := (e.tail + ringLen e.cfg - v) % ringLen e.cfg } } }

/-- A completion entry's 32 bytes (Table 13.3). -/
def cplBytes (k : Completion) (phase : Bool) (head gt : Nat) : List Byte :=
  le 2 k.tag ++ le 1 k.opcode ++ le 1 (b2n phase) ++ le 2 (statusCode k.status)
    ++ le 1 (match k.reason with | some r => reasonCode r | none => 0) ++ le 1 0
    ++ le 2 head ++ le 2 0 ++ le 4 k.bytes ++ le 8 k.result.toNat ++ le 8 gt

/-- COMPLETION_POST (R335): the oldest completion of a ring is written once an entry is free. -/
def postCompletion (n : Nat) (s : State) : State :=
  let r := ringOf s n
  match r.queue with
  | [] => s
  | k :: q =>
    if !s.hxp.armed || r.halted || ringLen r.cfg ≤ r.out || 8 ≤ n then s else
      let wrap := decide (r.cplTail + 1 = ringLen r.cfg)
      let s1 := emit (.completion n r.cplTail (cplBytes k r.phase r.head s.gt))
        (updRing n (fun r => { r with
          queue := q
          busy := false
          out := r.out + 1
          cplTail := if wrap then 0 else r.cplTail + 1
          phase := if wrap then !r.phase else r.phase }) s)
      if k.irq then msix (cfgVec r.cfg) s1 else s1

/-- Number of an event kind (Table 13.11). -/
def kindCode : EventKind → Nat
  | .mode => 1
  | .record => 2
  | .lost => 3
  | .ringError => 4

/-- An event entry's 32 bytes (Table 13.11). -/
def eventBytes (e : Event) (phase : Bool) (cycle : Nat) : List Byte :=
  le 1 (kindCode e.kind) ++ le 1 (b2n phase) ++ le 2 e.code ++ le 3 e.source ++ le 1 0 ++ le 8 e.gt
    ++ le 4 e.data ++ le 4 e.data2 ++ le 8 cycle

/-- Write one event entry at the tail of the event ring. -/
def writeEvent (e : Event) (s : State) : State :=
  let q := s.hxp.evq
  let wrap := decide (q.tail + 1 = ringLen q.cfg)
  msix (cfgVec q.cfg) (emit (.event q.tail (eventBytes e q.phase s.cyc.cycle))
    { s with hxp := { s.hxp with evq := { q with
      out := q.out + 1
      tail := if wrap then 0 else q.tail + 1
      phase := if wrap then !q.phase else q.phase } } })

/-- EVENT_POST (R352): the oldest waiting event is posted, after a LOST entry when events were lost; with
no free entry it is counted lost. -/
def postEvent (s : State) : State :=
  let q := s.hxp.evq
  match s.hxp.events with
  | [] => s
  | e :: es =>
    if !s.hxp.armed || !cfgEn q.cfg || q.halted then s
    else if ringLen q.cfg ≤ q.out then
      { s with hxp := { s.hxp with
        events := es
        lostEvents := satInc 0xFFFF s.hxp.lostEvents
        lostPending := s.hxp.lostPending + 1 } }
    else if s.hxp.lostPending ≠ 0 then
      writeEvent ⟨.lost, 0, Src.evq, s.gt, s.hxp.lostPending, 0⟩
        { s with hxp := { s.hxp with lostPending := 0 } }
    else writeEvent e { s with hxp := { s.hxp with events := es } }

/-- The end of COALESCE_US for a vector (R336). -/
def coalesceEff (vec : Nat) (s : State) : State :=
  match Tab.find? s.hxp.vecs vec with
  | some v =>
    if v.waiting && decide (v.last + coalesceNs s ≤ s.gt) then msixNow vec s else s
  | none => s

/-- A pending message of a vector that is open goes out. -/
def msixSend (v : Nat) (s : State) : State :=
  if s.hxp.pcie.msixEn && vecOpen s v && decide (v ∈ s.hxp.pba) then
    emit (.msix v) { s with hxp := { s.hxp with pba := s.hxp.pba.filter (· ≠ v) } }
  else s

/-- A write to word i of the MSI-X table; a vector unmasked with its pending bit set sends its message (R336, log entry
154). -/
def msixWrite (i : Nat) (val : Word) (s : State) : State :=
  let v := i / 4
  let word := if i % 4 = 0 then val &&& 0xFFFFFFFC else if i % 4 = 3 then val &&& 1 else val
  let s1 := { s with hxp := { s.hxp with msixTab := updAt s.hxp.msixTab i fun _ => word } }
  msixSend v s1

/-- The configuration registers that the model holds, in the order of `PcieS` (log entry 154): MSI-X control with its enable
and function mask in bits 31 and 30, device control with the payload size in bits 7 to 5 and the read request size in bits
14 to 12, the link's rate and width, and AER, whose status bits are cleared by writing 1. -/
def pcieWrite (i : Nat) (val : Word) (s : State) : State :=
  let p := s.hxp.pcie
  let put (q : PcieS) : State := { s with hxp := { s.hxp with pcie := q } }
  match i with
  | 0 => (List.range 16).foldl (fun s v => msixSend v s)
      (put { p with msixEn := val.getLsbD 31, msixMask := val.getLsbD 30 })
  | 1 => put { p with
      mps := if bits val.toNat 5 3 ≤ 2 then bits val.toNat 5 3 else p.mps
      mrrs := if bits val.toNat 12 3 ≤ 5 then bits val.toNat 12 3 else p.mrrs }
  | 2 => s
  | k => put { p with aer := updAt p.aer (k - 3) fun w => if k = 3 ∨ k = 6 then w &&& ~~~val else val }

/-- A read of a configuration register. -/
def pcieRead (s : State) (i : Nat) : Word :=
  let p := s.hxp.pcie
  match i with
  | 0 => BitVec.ofNat 32 (2 ^ 31 * b2n p.msixEn + 2 ^ 30 * b2n p.msixMask + 2 ^ 16 * 15)
  | 1 => BitVec.ofNat 32 (2 ^ 5 * p.mps + 2 ^ 12 * p.mrrs)
  | 2 => BitVec.ofNat 32 (2 ^ 16 * p.rate + 2 ^ 20 * p.width)
  | k => p.aer.getD (k - 3) 0

/-- A 32-bit read of BAR2 (Table 13.1): the table from 0x000, the pending bits at 0x800. -/
def bar2Read (s : State) (off : Nat) : Word :=
  if off = 0x800 then BitVec.ofNat 32 ((List.range 16).map fun v => 2 ^ v * b2n (decide (v ∈ s.hxp.pba))).sum
  else if off % 4 = 0 then s.hxp.msixTab.getD (off / 4) 0
  else 0

/-- A reset of the HXP block (R329, R501): every register but HXP_LOST; the link state is the
endpoint's own. -/
def hxpBlockReset (s : State) : State :=
  { s with hxp := { hxpReset with
    lostEvents := s.hxp.lostEvents
    grantsRefused := s.hxp.grantsRefused
    era := s.hxp.era + 1
    pcie := { pcieReset with rate := s.hxp.pcie.rate, width := s.hxp.pcie.width }
    linkUp := s.hxp.linkUp
    perst := s.hxp.perst
    trained := s.hxp.trained } }

/-- The link is down. -/
def linkDown (s : State) : State := { s with hxp := { s.hxp with linkUp := false, pcie := pcieReset } }

/-- A ring hands over its next descriptor: the block is armed and not disarming (R331), the ring enabled and not
halted (R338), a doorbell has made a descriptor valid (R332), and the one before has completed (R334). -/
def fetchable (s : State) (n : Nat) : Bool :=
  let r := ringOf s n
  decide (n < 8) && s.hxp.armed && !s.hxp.disarming && cfgEn r.cfg && !r.halted && !r.busy && !r.times.isEmpty

/-- The descriptor at HEAD has been fetched. -/
def fetchOne (n : Nat) (s : State) : State :=
  updRing n (fun r => { r with head := (r.head + 1) % ringLen r.cfg, times := r.times.drop 1, busy := true })
    { s with hxp := { s.hxp with rr := (n + 1) % 8 } }

/-- A failed grant or buffer transfer: the completion that waits takes the status, or the command that was being fetched
completes with it. -/
def dataFail (n tag op : Nat) (irq : Bool) (st : Status) (s : State) : State :=
  if (ringOf s n).busy then
    updRing n (fun r => { r with queue := r.queue.map fun k =>
      if k.tag = tag && k.opcode = op then { k with status := st, bytes := 0 } else k }) s
  else if fetchable s n then
    updRing n (fun r => { r with queue := r.queue ++ [⟨tag, op, st, none, 0, 0, irq⟩] }) (fetchOne n s)
  else s

/-- A DMA transfer fails (R338). -/
def dmaFail (x : Xfer) (st : Status) (s : State) : State :=
  if !s.hxp.armed then s else
  match x with
  | .fetch n => setHxpErr n false 2 (ringOf s n).head (updRing n (fun r => { r with halted := true }) s)
  | .post n => setHxpErr n false 3 (ringOf s n).cplTail (updRing n (fun r => { r with halted := true }) s)
  | .event => setHxpErr 0 true 3 s.hxp.evq.tail
      { s with hxp := { s.hxp with evq := { s.hxp.evq with halted := true } } }
  | .data n tag op irq => dataFail n tag op irq st s

/-- Source number of the ring a transfer serves. -/
def xferSrc : Xfer → Nat
  | .fetch n => Src.ring n
  | .post n => Src.ring n
  | .event => Src.evq
  | .data n _ _ _ => Src.ring n

/-- HXP_CMDQ_DB. -/
def execHxpCmdqDb (t n : Nat) (val : Word) (s : State) : Host.Outcome State Fault Refusal :=
  .next (cmdqDb n val (atT t s))

/-- HXP_CPLQ_DB. -/
def execHxpCplqDb (t n : Nat) (val : Word) (s : State) : Host.Outcome State Fault Refusal :=
  .next (cplqDb n val (atT t s))

/-- HXP_EVQ_DB. -/
def execHxpEvqDb (t : Nat) (val : Word) (s : State) : Host.Outcome State Fault Refusal :=
  .next (evqDb val (atT t s))

/-- ARM: a write of HXP_CTL_DB with bit 0 alone of [3:0]. -/
def execArm (t : Nat) (val : Word) (s : State) : Host.Outcome State Fault Refusal :=
  .next (if ctlBit val = some 0 then armEff (atT t s) else atT t s)

/-- DISARM: a write of HXP_CTL_DB with bit 1 alone of [3:0]. -/
def execDisarm (t : Nat) (val : Word) (s : State) : Host.Outcome State Fault Refusal :=
  .next (if ctlBit val = some 1 then disarmEff (atT t s) else atT t s)

/-- DISARM_COMPLETE: every fetched descriptor has completed (R331). -/
def execDisarmComplete (t : Nat) (s0 : State) : Host.Outcome State Fault Refusal :=
  let s := atT t s0
  .next (if s.hxp.armed && s.hxp.disarming && s.hxp.rings.all fun r => !r.busy && r.queue.isEmpty then
    { s with hxp := { s.hxp with armed := false, disarming := false } } else s)

/-- RING_RESET: a write of HXP_CTL_DB with bit 2 alone of [3:0], for ring RING. -/
def execRingReset (t : Nat) (val : Word) (s : State) : Host.Outcome State Fault Refusal :=
  .next (if ctlBit val = some 2 then ringResetEff (bits val.toNat 4 3) (atT t s) else atT t s)

/-- EVQ_RESET: a write of HXP_CTL_DB with bit 3 alone of [3:0]. -/
def execEvqReset (t : Nat) (val : Word) (s : State) : Host.Outcome State Fault Refusal :=
  .next (if ctlBit val = some 3 then evqResetEff (atT t s) else atT t s)

/-- COMPLETION_POST. -/
def execCompletionPost (t n : Nat) (s : State) : Host.Outcome State Fault Refusal :=
  .next (postCompletion n (atT t s))

/-- EVENT_POST. -/
def execEventPost (t : Nat) (s : State) : Host.Outcome State Fault Refusal := .next (postEvent (atT t s))

/-- COALESCE_EXPIRY. -/
def execCoalesceExpiry (t vec : Nat) (s : State) : Host.Outcome State Fault Refusal :=
  .next (coalesceEff vec (atT t s))

/-- DMA_TIMEOUT: level L2 (R403) and R338. -/
def execDmaTimeout (t : Nat) (x : Xfer) (s0 : State) : Host.Outcome State Fault Refusal :=
  let s := atT t s0
  .next (if s.hxp.armed then
    dmaFail x .dmaTimeout (noteFault (xferSrc x) 2
      { s with flt := { s.flt with l2 := satInc 0xFFFF s.flt.l2 } }) else s)

/-- DMA_ERROR: an error completion or poisoned data (R338). -/
def execDmaError (t : Nat) (x : Xfer) (s : State) : Host.Outcome State Fault Refusal :=
  .next (dmaFail x .dmaError (atT t s))

/-- PCIE_RESET: Function Level Reset, hot reset, conventional reset or loss of link (R329). -/
def execPcieReset (t : Nat) (linkLoss : Bool) (s0 : State) : Host.Outcome State Fault Refusal :=
  let s := hxpBlockReset (atT t s0)
  .next (if linkLoss then linkDown s else s)

/-- PCIE_PERST_CHANGE: PCIE_PERST_N low holds the endpoint in reset (R481, R329). -/
def execPciePerstChange (t : Nat) (high : Bool) (s0 : State) : Host.Outcome State Fault Refusal :=
  let s := atT t s0
  .next (if high then { s with hxp := { s.hxp with perst := false } }
    else
      let s1 := linkDown (hxpBlockReset s)
      { s1 with hxp := { s1.hxp with perst := true } })

/-- LINK_TRAINED (R491): PERST_N high, SEC_LBIST passed (step 3 of Table 20.3), PLL6 locked, and not
FIRC_ONLY. The rate and the width that the link trains at are free values (Table 13.1, log entry 154). -/
def execLinkTrained (t : Nat) (s0 : State) : Host.Outcome State Fault Refusal :=
  let s := atT t s0
  .next (if !s.hxp.perst && (decide (4 ≤ s.fwu.bootStep) || decide (s.mod.tup.run ≠ .boot))
      && (s.clk.plls.getD 6 ⟨0, false, false⟩).lock && (s.clk.xa.st = 2 || s.clk.xb.st = 2) then
    { s with
      hxp := { s.hxp with
        linkUp := true, trained := true
        pcie := { s.hxp.pcie with rate := 1 + Config.freeNat s.free % 4, width := 1 + Config.freeNat (s.free + 1) % 2 } }
      free := s.free + 2 } else s)

end Sys2Proof.Machine
end

