-- ==== Sys2Proof/Machine/Clocks.lean ====
section
/-! DEFINITION. Clock sources, PLLs, domain switches, gating and the clock monitor (chapter 15). -/

namespace Sys2Proof.Machine

/-- A PLL, or an absent one. -/
def pllOf (s : State) (n : Nat) : PllS := s.clk.plls.getD n ⟨0, false, false⟩

/-- The network reference is good (R375): PLL6 locked to XA or XB and that source judged good. -/
def refGood (s : State) : Bool :=
  let p := pllOf s 6
  p.lock && ((p.ref = 1 && srcGood s false) || (p.ref = 2 && srcGood s true))

/-- The first reference in a PLL's order that is judged good (R376, Table 15.2). -/
def pllWant (s : State) (n : Nat) : Nat :=
  if n = 6 then (if srcGood s true then 2 else if srcGood s false then 1 else 3)
  else (if srcGood s false then 1 else if srcGood s true then 2 else 3)

/-- One PLL follows its order (R377); every reference change writes CLK_REF_SWITCH. -/
def pllFollow (s : State) (n : Nat) : State :=
  let p := pllOf s n
  let w := pllWant s n
  if p.fault || p.ref = w then s
  else
    let s1 := { s with clk := { s.clk with plls := updAt s.clk.plls n fun p => { p with ref := w } } }
    if p.ref = 0 then s1 else occur Code.clkRefSwitch Src.clocks 0 s1

/-- Every PLL follows its order, once the start-up has judged XA (Table 15.4 step 4). -/
def pllsFollow (s : State) : State := (List.range 7).foldl pllFollow s

/-- Domains with a multiplexer (Table 15.3). -/
def muxedDoms : List Nat := [0, 1, 2, 3, 4, 5, 6, 11, 12, 13, 15]

/-- PLL that is a domain's source in Table 15.3; for D0 the one of T0 to T2. -/
def srcPll : Nat → Nat
  | 0 => 0
  | 1 => 1
  | 2 => 3
  | 3 => 4
  | 4 => 5
  | 5 => 1
  | 11 => 6
  | _ => 2

/-- The input that a domain's multiplexer connects. -/
def muxNow (s : State) (dom : Nat) : MuxIn :=
  if s.clk.domFirc.testBit dom then .firc else if dom = 0 && s.clk.d0Pll1 then .pll1 else .source

/-- PLL behind an input of a domain's multiplexer; none behind FIRC. -/
def muxPll (dom : Nat) : MuxIn → Option Nat
  | .firc => none
  | .pll1 => some 1
  | .source => some (srcPll dom)

/-- The clock behind an input runs: FIRC always; a PLL until it fails (R381), and PLL0, while D0 is away from it on PLL1,
once it has locked again (R383). -/
def muxRuns (s : State) (dom : Nat) (i : MuxIn) : Bool :=
  match muxPll dom i with
  | none => true
  | some n => !(pllOf s n).fault && (n ≠ 0 || !s.clk.d0Pll1 || (pllOf s 0).lock)

/-- Domains that a PLL feeds now. -/
def pllFeeds (s : State) (n : Nat) : List Nat := muxedDoms.filter fun d => muxPll d (muxNow s d) = some n

/-- The input to which a domain leaves FIRC: D0 goes to PLL1 in T3, and where PLL0 has failed (Tables 15.3 and 15.5). -/
def muxHome (s : State) (dom : Nat) : MuxIn :=
  if dom = 0 && (decide (s.mod.tup.tier = .t3) || (pllOf s 0).fault) then .pll1 else .source

/-- Domains on FIRC that a PLL's lock lets go to it (Table 15.4 step 5). -/
def pllTakes (s : State) (n : Nat) : List Nat :=
  muxedDoms.filter fun d => muxNow s d = .firc && muxPll d (muxHome s d) = some n

/-- Request a glitch-free switch of a domain (R380). A request made while another is pending waits behind it. -/
def switchReq (inp : MuxIn) (s : State) (dom : Nat) : State :=
  if muxNow s dom = inp || s.clk.switching.any (fun w => w.dom = dom && w.dst = inp) then s
  else { s with clk := { s.clk with switching := s.clk.switching ++ [⟨dom, inp, s.gt⟩] } }

/-- A FIRC_ONLY module has Plovlink down and its PCIe endpoint held in reset (R375). -/
def fircDown (s : State) : State :=
  let s1 := linkDown (hxpBlockReset s)
  { s1 with
    plv := { s1.plv with ports := s1.plv.ports.map fun p => { p with lanes := 0 } } }

/-- Network reference lost or FIRC_ONLY: network PASSIVE; outside BOOT a FIRC_ONLY module retires
(R375, R212, Table 2.7). -/
def refLost (s : State) : State :=
  let s1 := if refGood s then s else if s.mod.tup.net = .passive then s else setNet .passive s
  if !fircOnly s1 then s1
  else if s1.mod.tup.run = .boot then fircDown s1
  else fircDown (retireModule .fault s1)

/-- A source is judged not good (R373, R374): CLK_SRC_LOST, the third time within an hour bars it. A source whose edges
go on settles again from here; one that has lost them reads not good until its settle delay is over (log entry 198). -/
def srcLost (xb edges : Bool) (s : State) : State :=
  let v := srcOf s xb
  let recent := v.lostAt.filter fun t => decide (s.gt ≤ t + 3600 * sec)
  let barred := v.barred || decide (2 ≤ recent.length)
  let v1 := { v with
    st := if edges && !barred then 1 else 3, since := s.gt, checking := false, outPct := 0, outPpm := 0
    lostAt := recent ++ [s.gt], barred := barred }
  let s1 := setSrc xb v1 { s with clk := { s.clk with losses := satInc 0xFFFF s.clk.losses } }
  refLost (pllsFollow (occur Code.clkSrcLost Src.clocks 0 s1))

/-- LISTEN is taken at the next cycle boundary (R36). -/
def netListen (s : State) : State := { s with oxn := { s.oxn with netNext := some .listen, lead := none } }

/-- A good network reference takes a PASSIVE network that is not RETIRED to LISTEN (Table 2.7), unless both channels are
held retired (R199). -/
def netWake (s : State) : State :=
  if refGood s && s.mod.tup.net = .passive && s.mod.tup.role ≠ .retired && s.mod.tup.run ≠ .boot
      && !(isRetired s (.oxn .a) && isRetired s (.oxn .b)) then netListen s
  else s

/-- The driving module of the station time master's pair (R264). -/
def isStm (s : State) : Bool :=
  s.tim.stm && (s.mod.tup.role = .solo || s.mod.tup.role = .active) && decide (s.mod.tup.run ≠ .boot)

/-- While the module is the station time master and XB is good, its RATE is 0 (R224). -/
def stmRate (s : State) : State :=
  if isStm s && srcGood s true then { s with tim := { s.tim with rate := 0, rateNext := none } } else s

/-- A source is judged good (R372): CLK_SRC_GOOD, and every PLL follows its order. -/
def srcFound (xb : Bool) (s : State) : State :=
  let s1 := setSrc xb { srcOf s xb with st := 2, checking := false, outPct := 0, outPpm := 0 } s
  stmRate (netWake (pllsFollow (occur Code.clkSrcGood Src.clocks 0 s1)))

/-- Within ±1 % of nominal. -/
def pctOk (ppm : Int) : Bool := decide (-10000 ≤ ppm ∧ ppm ≤ 10000)

/-- Within ±200 ppm of XA (R373). -/
def ppmOk (ppm : Int) : Bool := decide (-200 ≤ ppm ∧ ppm ≤ 200)

/-- One source in one window (R372, R373). XB is also held to XA while XA is good. The check needs a window that began
once the settle delay was over; a source that fails it settles again. -/
def judgeSrc (xb : Bool) (ppm : Int) (vsXa : Option Int) (s : State) : State :=
  let v := srcOf s xb
  if v.checking then
    if s.gt < v.since + ms then s
    else if pctOk ppm then srcFound xb s
    else
      let s1 := setSrc xb { v with st := 1, since := s.gt, checking := false } s
      if xb then s1 else pllsFollow s1
  else if v.st = 2 then
    let a := if pctOk ppm then 0 else v.outPct + 1
    let b := match vsXa with
      | some d => if ppmOk d then 0 else v.outPpm + 1
      | none => 0
    if 2 ≤ a || 2 ≤ b then srcLost xb true s else setSrc xb { v with outPct := a, outPpm := b } s
  else s

/-- The settle delay of XA or XB in ns (R372); none while XB_SETTLE is not known. -/
def settleNs (s : State) (xb : Bool) : Option Nat :=
  if xb then s.clk.xbSettle.map (· * ms) else some (s.nva.xaSettle * (500 * us))

/-- A source's settle delay is over: it is neither good nor barred nor in its check, and the delay has passed since the
earliest instant of its first edge (log entry 198). -/
def settleOver (s : State) (xb : Bool) : Bool :=
  let v := srcOf s xb
  s.clk.on && v.st ≠ 2 && !v.barred && !v.checking && (match settleNs s xb with
    | some d => decide (v.since + d ≤ s.gt)
    | none => false)

/-- SOURCE_SETTLED (R372): the settle delay ends and the frequency check begins. -/
def execSourceSettled (t : Nat) (xb : Bool) (s0 : State) : Host.Outcome State Fault Refusal :=
  let s := atT t s0
  .next (if settleOver s xb then setSrc xb { srcOf s xb with st := 1, since := s.gt, checking := true } s else s)

/-- FREQ_WINDOW_END (R372, R373): one 1 ms window of XA against FIRC, XB against FIRC and XB against XA,
in ppm. -/
def execFreqWindowEnd (t : Nat) (xaPpm xbPpm xbXa : Int) (s0 : State) : Host.Outcome State Fault Refusal :=
  let s := atT t s0
  let s1 := judgeSrc false xaPpm none s
  let s2 := judgeSrc true xbPpm (if srcGood s1 false then some xbXa else none) s1
  .next { s2 with clk := { s2.clk with
    xaDev := if s.clk.xa.checking || s.clk.xa.st = 2 then xaPpm else s2.clk.xaDev
    xbDev := if srcGood s2 false then xbXa else 0 } }

/-- SOURCE_EDGE_LOSS: no edge of a good source for 2 µs (R373). -/
def execSourceEdgeLoss (t : Nat) (xb : Bool) (s0 : State) : Host.Outcome State Fault Refusal :=
  let s := atT t s0
  .next (if srcGood s xb then srcLost xb false s else s)

/-- A module that drops what it hears listens afresh: from the next cycle boundary, where it has left LISTEN, and not
at all while it is PASSIVE, which only the triggers of Table 2.7 end. -/
def relisten (s : State) : State :=
  match s.mod.tup.net with
  | .passive => s
  | .listen => setNet .listen s
  | _ => netListen s

/-- A PLL has locked (R376): the domains on FIRC that it feeds leave FIRC (Table 15.4 step 5), and D0 goes back to PLL0
at the end of a tier change (R383). PLL0 is gated in T3. -/
def pllLocks (n : Nat) (s : State) : State :=
  let p := pllOf s n
  if p.ref = 0 || p.fault || 7 ≤ n || (n = 0 && decide (s.mod.tup.tier = .t3)) then s else
    let s1 := { s with clk := { s.clk with
      plls := updAt s.clk.plls n fun p => { p with lock := true }
      vco := if n = 0 then tierNum s.mod.tup.tier else s.clk.vco } }
    let s2 := (pllTakes s1 n).foldl (fun s d => switchReq (muxHome s d) s d) s1
    netWake (if n = 0 && decide (muxNow s2 0 = .pll1) then switchReq .source s2 0 else s2)

/-- PLL_LOCKED (R376). -/
def execPllLocked (t n : Nat) (s0 : State) : Host.Outcome State Fault Refusal := .next (pllLocks n (atT t s0))

/-- D0's tier change is over: what it added to the gap counts towards neither MIN_CYCLE nor the scan watchdog (R383). -/
def gapEnd (s : State) : State :=
  { s with cyc := { s.cyc with gapNs := gapNow s }, clk := { s.clk with gapFrom := none } }

/-- D0 has switched within a tier change (R383): on PLL1 it lets PLL0 relock, or has ended in T3 or with PLL0 failed; back
on PLL0 it has ended. -/
def gapStep (inp : MuxIn) (s : State) : State :=
  if s.clk.gapFrom.isNone then s else match inp with
    | .firc => s
    | .source => gapEnd s
    | .pll1 =>
      let s1 := { s with clk := { s.clk with plls := updAt s.clk.plls 0 fun p => { p with lock := false } } }
      if s.mod.tup.tier = .t3 || (pllOf s 0).fault then gapEnd s1 else s1

/-- A domain's multiplexer connects an input. A gate request on a block of the domain has waited for it (R384). -/
def switched (dom : Nat) (inp : MuxIn) (s : State) : State :=
  let s1 := { s with clk := { s.clk with
    domFirc := if s.clk.domFirc.testBit dom = decide (inp = .firc) then s.clk.domFirc
      else if inp = .firc then s.clk.domFirc + 2 ^ dom else s.clk.domFirc - 2 ^ dom
    d0Pll1 := if dom = 0 then decide (inp = .pll1) else s.clk.d0Pll1
    quiesce := s.clk.quiesce.map fun q => if blkDom q.1 = dom then (q.1, s.gt) else q } }
  if dom = 0 then gapStep inp s1 else s1

/-- A pending switch is done: it completes only off a clock that runs, and onto one that runs (R380). -/
def switchDone (dom : Nat) (s : State) : State :=
  match s.clk.switching.find? (·.dom = dom) with
  | none => s
  | some w =>
    if muxRuns s dom (muxNow s dom) && muxRuns s dom w.dst then
      switched dom w.dst { s with clk := { s.clk with switching := s.clk.switching.erase w } }
    else s

/-- A tier change of D0 begins (R383): D0 goes to PLL1; already there, PLL0 relocks. -/
def d0Tier (s : State) : State :=
  match muxNow s 0 with
  | .firc => s
  | .source => switchReq .pll1 { s with clk := { s.clk with gapFrom := some s.gt } } 0
  | .pll1 =>
    if s.mod.tup.tier = .t3 || (pllOf s 0).fault then s
    else { s with clk := { s.clk with gapFrom := some s.gt } }

/-- CLKMON's frequency of a selection, in Hz; 0 where it has none that the tables give. -/
def monHz (s : State) (sel : Nat) : Nat :=
  if s.clk.domFirc.testBit sel && decide (sel < 18) then 200000000 else
  match sel with
  | 0 => if s.clk.d0Pll1 then 600000000 else 1200000000 - 200000000 * s.clk.vco
  | 1 => 600000000
  | 2 => 800000000
  | 3 => 768000000
  | 4 => 832000000
  | 5 => 600000000
  | 6 => 800000000
  | 7 => 312500000
  | 8 => 312500000
  | 9 => 161130000
  | 10 => 250000000
  | 11 => 250000000
  | 12 => 80000000
  | 13 => 40000000
  | 14 => 8000000
  | 15 => 100000000
  | 16 => 200000000
  | 17 => 1000000
  | 18 => 200000000
  | 19 => 1000000
  | 20 => 25000000
  | 21 => 10000000
  | _ => 0

/-- A write to CLK_MON_DB (R386). -/
def clkMonEff (val : Word) (s : State) : State :=
  let sel := bits val.toNat 0 5
  if 22 ≤ sel ∧ sel ≤ 30 then s
  else { s with clk := { s.clk with monSel := sel, monDiv := bits val.toNat 16 16 } }

/-- The divider less 1 as applied: raised until the output is at most 50 MHz (R386). -/
def monDivNow (s : State) : Nat := Max.max s.clk.monDiv ((monHz s s.clk.monSel + 49999999) / 50000000 - 1)

/-- CLK_MON_DB. -/
def execClkMonDb (t : Nat) (val : Word) (s : State) : Host.Outcome State Fault Refusal :=
  .next (clkMonEff val (atT t s))

/-- A gate request on a block waits while its domain switches (R384). -/
def gateWaits (s : State) (blk : Nat) : Bool := s.clk.switching.any (·.dom = blkDom blk)

/-- QUIESCE_ACK (R385): the block acknowledges and its gate closes. -/
def execQuiesceAck (t blk : Nat) (s0 : State) : Host.Outcome State Fault Refusal :=
  let s := atT t s0
  .next (if s.clk.quiesce.any (·.1 = blk) && !gateWaits s blk then
    { s with clk := { s.clk with
      quiesce := s.clk.quiesce.filter (·.1 ≠ blk)
      gated := if s.clk.gated.testBit blk then s.clk.gated else s.clk.gated + 2 ^ blk } }
    else s)

/-- CLK_QUIESCE_TIMEOUT (R385, level L1): 50 µs without acknowledge. -/
def execClkQuiesceTimeout (t blk : Nat) (s0 : State) : Host.Outcome State Fault Refusal :=
  let s := atT t s0
  .next (if s.clk.quiesce.any (fun q => q.1 = blk && decide (q.2 + 50 * us ≤ s.gt)) && !gateWaits s blk then
    let s1 := { s with
      clk := { s.clk with
        quiesce := s.clk.quiesce.filter (·.1 ≠ blk)
        gated := if s.clk.gated.testBit blk then s.clk.gated else s.clk.gated + 2 ^ blk
        held := s.clk.held.filter (· ≠ blk) ++ [blk]
        quTimeouts := satInc 0xFFFF s.clk.quTimeouts
        quLast := blk }
      flt := { s.flt with l1 := satInc 0xFFFF s.flt.l1 } }
    occur Code.clkQuiesceTimeout Src.clocks 0 (noteFault Src.clocks 1 s1)
    else s)

/-- GATE_RESET_RELEASE (R385): 16 cycles after its gate opened, the block leaves reset. -/
def execGateResetRelease (t blk : Nat) (s0 : State) : Host.Outcome State Fault Refusal :=
  let s := atT t s0
  .next (if s.clk.gated.testBit blk then s
    else { s with clk := { s.clk with held := s.clk.held.filter (· ≠ blk) } })

/-- REF code of CLK_STATUS from a PLL reference (Tables 15.9 and 15.10). -/
def refCode : Nat → Nat
  | 1 => 2
  | 2 => 1
  | 3 => 3
  | _ => 0

/-- CLK registers (Tables 15.9 to 15.11). -/
def clkReg (s : State) : Nat → Nat
  | 0x00 => refCode (pllOf s 6).ref + 4 * b2n (refGood s) + 8 * b2n (fircOnly s) + 65536 * s.clk.losses
  | 0x04 => (if s.clk.on then 2 + 8 else 0) + 16 * s.clk.xa.st + 64 * s.clk.xb.st
      + 256 * b2n s.clk.xa.barred + 512 * b2n s.clk.xb.barred
  | 0x08 => (if s.clk.on then s.nva.xaSettle % 256 else 0) + 256 * (s.clk.xbSettle.getD 0)
  | 0x0C => ((List.range 7).map fun n => (pllOf s n).ref * 2 ^ (3 * n) + b2n (pllOf s n).lock * 2 ^ (3 * n + 2)
      + b2n (pllOf s n).fault * 2 ^ (21 + n)).sum
  | 0x10 => s.clk.domFirc
  | 0x14 => s.clk.gated
  | 0x18 => s.clk.forced + 65536 * s.clk.forcedLast
  | 0x1C => s.clk.quTimeouts + 65536 * s.clk.quLast
  | 0x20 => (wrap32 s.clk.xaDev) % 65536 + 65536 * ((wrap32 s.clk.xbDev) % 65536)
  | 0x28 => s.clk.monSel + 65536 * monDivNow s
  | _ => 0

end Sys2Proof.Machine
end

