-- ==== Sys2Proof/Machine/Heat.lean ====
section
/-! DEFINITION. Feeds, slot allowance, temperatures, heat tiers, scan bounds and the admission test of
background work (chapter 16), and management frames (R477). -/

namespace Sys2Proof.Machine

/-- The tier in force changes in the gap of R22 (R395): HL_TIER with the rule, and the flags of R398. D0 follows under
R383. -/
def tierTake (k : Nat) (s : State) : State :=
  if tierNum s.mod.tup.tier = k then s
  else
    let s1 := d0Tier (setTier (tierOf k) s)
    hlFlags (occurU Code.hlTier Src.heat s1.hl.rule
      { s1 with hl := { s1.hl with lastChange := s1.gt, changes := satInc 0xFFFF s1.hl.changes } })

/-- The payload of a valid management frame for this slot (R477, Table 21.2). -/
def mgtPayload (s : State) (ty len : Nat) (f : List Byte) : Option (List Byte) :=
  if field f 0 2 = 0xC33C ∧ field f 2 1 = ty ∧ (field f 3 1 = 0xFF ∨ field f 3 1 = s.mod.slot)
      ∧ field f 4 2 = len ∧ f.length = len + 10
      ∧ field f (6 + len) 4 = crc32c ((f.drop 2).take (4 + len)) then
    some ((f.drop 6).take len)
  else none

/-- ALLOW_STALE: no message for 5 s (R390). -/
def execAllowStale (t : Nat) (s0 : State) : Host.Outcome State Fault Refusal :=
  let s := atT t s0
  .next (if s.hl.lastMsg + 5 * sec ≤ s.gt then { s with hl := { s.hl with stale := true } } else s)

/-- XB_SETTLE is known, in ms: XB's settle delay begins (Table 15.4 step 6). -/
def xbSettles (v : Nat) (s : State) : State :=
  { s with clk := { s.clk with xbSettle := some v, xb := { s.clk.xb with st := 1, since := s.gt } } }

/-- MGT_IDENTITY (R478): the first valid IDENTITY frame supplies XB_SETTLE; outside 1–5,000 the identity
memory counts as holding no valid value (R372). -/
def execMgtIdentity (t : Nat) (frame : List Byte) (s0 : State) : Host.Outcome State Fault Refusal :=
  let s := atT t s0
  .next (match mgtPayload s 0x10 16 frame with
    | none => s
    | some p =>
      if s.con.identity || s.clk.xbSettle.isSome then s else
        let v := field p 8 2
        xbSettles (if 1 ≤ v ∧ v ≤ 5000 then v else 1000) { s with con := { s.con with identity := true } })

/-- IDENTITY_TIMEOUT (R478): none within 2 s of the release of power-on reset. -/
def execIdentityTimeout (t : Nat) (s0 : State) : Host.Outcome State Fault Refusal :=
  let s := atT t s0
  .next (if !s.con.identity && s.clk.xbSettle = none && decide (s.con.porAt + 2 * sec ≤ s.gt) then
    xbSettles 1000 s else s)

/-- One feed's judgement and reading, in mV (R388). -/
def feedSet (vb ok : Bool) (mv : Nat) (s : State) : State :=
  let was := if vb then s.hl.vbOk else s.hl.vaOk
  let s1 := if vb then { s with hl := { s.hl with vb := Min.min 4095 (mv / 10), vbOk := ok } }
    else { s with hl := { s.hl with va := Min.min 4095 (mv / 10), vaOk := ok } }
  if was = ok then s1 else occur Code.hlFeed Src.heat 0 s1

/-- FEED_LOW: a feed below 19.2 V for 10 ms is not OK (R388). -/
def execFeedLow (t : Nat) (vb : Bool) (mv : Nat) (s0 : State) : Host.Outcome State Fault Refusal :=
  let s := atT t s0
  .next (if mv < 19200 then feedSet vb false mv s else s)

/-- FEED_RECOVERED: a feed reading at or above 19.2 V is OK (R388). -/
def execFeedRecovered (t : Nat) (vb : Bool) (mv : Nat) (s0 : State) : Host.Outcome State Fault Refusal :=
  let s := atT t s0
  .next (if 19200 ≤ mv then feedSet vb true mv s else s)

/-- POWER_SAMPLE (R391): input power in mW, averaged over [t − 1 s, t) as P_IN in 0.1 W. -/
def execPowerSample (t mw : Nat) (s0 : State) : Host.Outcome State Fault Refusal :=
  let s := atT t s0
  let win := s.hl.samples.filter fun p => decide (s.gt ≤ p.1 + sec)
  let sum := (win.map (·.2)).sum
  let p := if win.isEmpty then s.hl.pIn else sum / win.length / 100
  .next { s with hl := { s.hl with
    samples := win ++ [(s.gt, mw)]
    pIn := p
    pPeak := Max.max s.hl.pPeak p
    overPower := mark (decide (s.hl.allow < p) && s.hl.bgRun.isEmpty) s.hl.overPower s.gt } }

/-- The highest of the die temperatures and its sensor. -/
def hottestOf (l : List Int) : Int × Nat :=
  (l.zip (List.range l.length)).foldl
    (fun a p => if a.2 = 12 ∨ a.1 < p.1 then p else a) ((0 : Int), 12)

/-- DIE_TEMP_READ (R391): the twelve sensors, in °C, and the marks that R393 and R394 time. -/
def execDieTempRead (t : Nat) (temps : List Int) (s0 : State) : Host.Outcome State Fault Refusal :=
  let s := atT t s0
  let h := hottestOf (temps.take 12)
  .next (if temps.isEmpty then s else { s with hl := { s.hl with
    tDie := h.1
    hottest := h.2
    over105 := mark (decide (105 ≤ h.1)) s.hl.over105 s.gt
    last3 := if 105 ≤ h.1 then s.hl.last3 else none
    over115 := mark (decide (115 ≤ h.1)) s.hl.over115 s.gt
    over120 := mark (decide (120 ≤ h.1)) s.hl.over120 s.gt
    under95 := mark (decide (h.1 ≤ 95)) s.hl.under95 s.gt
    hot := s.hl.hot && decide (115 ≤ h.1) } })

/-- INLET_READ (R391). -/
def execInletRead (t : Nat) (temp : Int) (s0 : State) : Host.Outcome State Fault Refusal :=
  let s := atT t s0
  .next { s with hl := { s.hl with
    inlet := temp
    inletMax := some (match s.hl.inletMax with
      | some m => Max.max m temp
      | none => temp) } }

/-- The condition of rule 5 (R393, R397). -/
def rule5Ok (s : State) : Bool :=
  let k := tierNum s.mod.tup.tier
  let lower := s.hl.want - 1
  decide (1 ≤ s.hl.want) && !s.hl.t3Held && held s.hl.under95 (60 * sec) s.gt
    && decide (s.hl.lastChange + 60 * sec ≤ s.gt)
    && decide (s.hl.pIn + ceiling lower + 10 ≤ s.hl.allow + ceiling k)
    && decide (tAllow s ≤ lower) && decide (64 ≤ s.hl.cycles)

/-- HOT (R394): T_DIE ≥ 115 °C for 1 s halts background work. -/
def execHot (t : Nat) (s0 : State) : Host.Outcome State Fault Refusal :=
  let s := atT t s0
  .next (if held s.hl.over115 sec s.gt then { s with hl := { s.hl with hot := true } } else s)

/-- HL_OVERTEMP (R394): T_DIE ≥ 120 °C for 1 s retires the module. -/
def execHlOvertemp (t : Nat) (s0 : State) : Host.Outcome State Fault Refusal :=
  let s := atT t s0
  .next (if held s.hl.over120 sec s.gt && s.mod.tup.role ≠ .retired then
    retireModule .fault (occur Code.hlOvertemp Src.heat 0 s) else s)

/-- HL_RAIL (R431): once per minute of GT, the mean power in mW of each rail 0–15. -/
def execHlRail (t : Nat) (rails : List Nat) (s0 : State) : Host.Outcome State Fault Refusal :=
  let s := atT t s0
  let m := s.gt / (60 * sec)
  .next (if s.hl.railMin = some m then s else
    ((rails.take 16).zip (List.range 16)).foldl (fun s p => occurU Code.hlRail (Src.heat + p.2) p.1 s)
      { s with hl := { s.hl with railMin := some m } })

/-- HL_DEFER (R401): a kind has waited 60 s; once per hour for that kind. -/
def execHlDefer (t kind : Nat) (s0 : State) : Host.Outcome State Fault Refusal :=
  let s := atT t s0
  .next (if held (Tab.find? s.hl.bgWait kind) (60 * sec) s.gt
      && (Tab.find? s.hl.bgDefer kind = none || held (Tab.find? s.hl.bgDefer kind) (3600 * sec) s.gt) then
    occur Code.hlDefer Src.heat 0 { s with hl := { s.hl with bgDefer := Tab.set s.hl.bgDefer kind s.gt } }
  else s)

/-- HOLD_UP_CHARGED (R490). -/
def execHoldUpCharged (t : Nat) (s0 : State) : Host.Outcome State Fault Refusal :=
  let s := atT t s0
  .next (if s.con.powered then { s with hl := { s.hl with charged := true } } else s)

/-- Cost of a unit of background work in 0.1 W (Table 16.4). -/
def bgCost : Nat → Nat
  | 1 => 15
  | 2 => 10
  | 3 => 10
  | 4 => 8
  | _ => 3

/-- H plus P_IN: the smaller of the tier's ceiling and the allowance (R400). -/
def bgBudget (s : State) : Nat := Min.min (ceiling (tierNum s.mod.tup.tier)) s.hl.allow

/-- A kind may be admitted for one unit (R400). -/
def bgAdmitOk (kind : Nat) (s : State) : Bool :=
  (Tab.find? s.hl.bgWait kind).isSome
    && (s.hl.bgWait.all fun p => decide (kind ≤ p.1))
    && decide (s.hl.pIn + bgCost kind + 5 ≤ bgBudget s)
    && s.hl.pfw = none && !s.hl.hot && !s.mod.scanRisk && !s.hl.overBound

/-- BG_SLICE_US, at most 5,000 (Table 16.8). -/
def bgSliceUs (s : State) : Nat := Min.min 5000 (bits s.hl.cfg.toNat 0 13)

/-- The N, P, W of an executing cycle (R396): largest values and the bound check of R400. -/
def hlCycle (m : ExecMeas) (s : State) : State :=
  let h := s.hl
  hlFlags { s with hl := { h with
    nMax := Max.max h.nMax m.nUs
    pMax := Max.max h.pMax m.pCyc
    wMax := Max.max h.wMax m.wCyc
    cycles := h.cycles + 1
    overBound := h.cycles ≠ 0 && decide (scanBound s (tierNum s.mod.tup.tier) < m.nUs + m.xUs) } }

/-- A signed value in n bits. -/
def sbits (n : Nat) (v : Int) : Nat := (v % ((2 ^ n : Nat) : Int)).toNat

/-- HL registers (Tables 16.8 to 16.10). -/
def hlReg (s : State) : Nat → Nat
  | 0x00 => tierNum s.mod.tup.tier + 4 * s.hl.want + 16 * b2n (decide (64 ≤ s.hl.cycles))
      + 32 * b2n s.mod.scanRisk + 64 * b2n s.hl.near + 128 * b2n s.hl.allowRisk + 256 * b2n s.hl.t3Risk
      + 512 * b2n s.hl.allowLow + 1024 * b2n s.hl.stale + 2048 * b2n s.hl.hot + 4096 * b2n s.hl.t3Held
      + 8192 * b2n s.hl.pfw.isSome
  | 0x04 => s.hl.cfg.toNat
  | 0x08 => s.hl.allow + 65536 * s.hl.msgs
  | 0x0C => s.hl.va + 4096 * s.hl.vb + 2 ^ 24 * b2n s.hl.vaOk + 2 ^ 25 * b2n s.hl.vbOk
  | 0x10 => Min.min 1023 s.hl.pIn + 1024 * Min.min 1023 s.hl.pPeak
      + 2 ^ 20 * (if s.con.inReset then 0 else Min.min 1023 (bgBudget s - s.hl.pIn))
  | 0x14 => sbits 8 s.hl.tDie + 256 * (s.hl.hottest % 16) + 4096 * sbits 8 s.hl.inlet
      + 2 ^ 20 * sbits 8 (s.hl.inletMax.getD 0)
  | 0x20 => boundNow s 0
  | 0x24 => boundNow s 1
  | 0x28 => boundNow s 2
  | 0x2C => boundNow s 3
  | 0x30 => (s.hl.bgRun.eraseDups.map fun k => 2 ^ (k - 1)).sum + (s.hl.bgWait.map fun p => 2 ^ (4 + p.1)).sum
      + 65536 * Min.min 0xFFFF ((s.hl.bgWait.map fun p => (s.gt - p.2) / sec).foldl Max.max 0)
  | 0x34 => s.hl.hotSteps + 256 * s.hl.dips + 65536 * s.hl.changes
  | _ => 0

end Sys2Proof.Machine
end

