-- ==== Sys2Proof/Machine/Tim.lean ====
section
/-! DEFINITION. Global time (chapter 8): the tick, cluster corrections, station discipline, TIME_SET,
time of day and Clover snapshots. Corrections are in units of 2^-32 ns (R210). -/

namespace Sys2Proof.Machine

/-- One ns in units of 2^-32 ns. -/
def ns32 : Int := 4294967296

/-- A value held within bounds. -/
def clampI (lo hi v : Int) : Int := Max.max lo (Min.min hi v)

/-- The correction's share of one tick: an even part, at most 1 ns either way (R210, R211). -/
def slewShare (t : TimS) : Int :=
  if t.slewTicks = 0 then 0 else clampI (-ns32) ns32 (t.slewLeft / t.slewTicks)

/-- One D11 tick (R210): GT and its fraction rise by 4 ns × (1 + RATE) and the slew's share, held within
3 to 5 ns (R211). -/
def gtTick (s : State) : State :=
  let share := slewShare s.tim
  let inc := clampI (3 * ns32) (5 * ns32) (4 * ns32 + 4 * ns32 * s.tim.rate / 1000000000000 + share)
  let sum := (s.gtFrac : Int) + inc
  { s with
    clvPre := clvBefore (s.gt + (sum / ns32).toNat) s
    gt := s.gt + (sum / ns32).toNat
    gtFrac := (sum % ns32).toNat
    tim := { s.tim with slewLeft := s.tim.slewLeft - share, slewTicks := s.tim.slewTicks - 1 } }

/-- A correction to spread over a time (R219, R224). -/
def slewOver (amount : Int) (overNs : Nat) (s : State) : State :=
  { s with tim := { s.tim with slewLeft := s.tim.slewLeft + amount, slewTicks := Max.max 1 (overNs / 4) } }

/-- SLEW_PPM, 1–20; other values act as 20 (Table 8.8). -/
def slewPpm (s : State) : Nat :=
  let v := bits s.tim.cfg.toNat 8 8
  if 1 ≤ v ∧ v ≤ 20 then v else 20

/-- TOD_EN. -/
def todEn (s : State) : Bool := s.tim.cfg.getLsbD 0

/-! ### Fault-tolerant average -/

/-- k of Table 8.1. -/
def ftaK (n : Nat) : Nat := if n ≤ 2 then 0 else if n ≤ 6 then 1 else 2

/-- The values that Table 8.1 keeps of a set. -/
def ftaKept (d : List Int) : List Int :=
  let k := ftaK d.length
  ((sortBy (fun a b => decide (a ≤ b)) d).drop k).take (d.length - 2 * k)

/-- The fault-tolerant average; none for fewer than two values. -/
def fta (d : List Int) : Option Int :=
  if d.length < 2 then none
  else
    let r := ftaKept d
    some (r.foldl (· + ·) 0 / r.length)

/-- Deviation of each sender in a cycle (R216), in 2^-32 ns, and the senders left out for a split of more
than 200 ns. -/
def devOf (devs : List (Nat × Chan × Int)) (node : Nat) : Option Int × Bool :=
  match devs.filter (·.1 = node) with
  | [] => (none, false)
  | [d] => (some (d.2.2 * ns32), false)
  | d :: e :: _ =>
    if (d.2.2 - e.2.2).natAbs ≤ 200 then (some ((d.2.2 + e.2.2) * ns32 / 2), false) else (none, true)

/-- Every sender with a deviation. -/
def devSet (devs : List (Nat × Chan × Int)) : List (Nat × Int) :=
  ((devs.map (·.1)).eraseDups.filterMap fun n => (devOf devs n).1.map fun d => (n, d))

/-- Senders left out under R216. -/
def splitCount (devs : List (Nat × Chan × Int)) : Nat :=
  ((devs.map (·.1)).eraseDups.filter fun n => (devOf devs n).2).length

/-- The cycle's clock correction (R218 to R222). `drv` is the driving module's node, `self` whether this
module is it, `syncNode` whether this module is a sync node. -/
def timCorrect (n tOc nit : Nat) (drv : Option Nat) (self syncNode : Bool) (s : State) : State :=
  let ds := devSet s.tim.devs
  let d := (if syncNode then [0] else []) ++ ds.map (·.2)
  let m := fta d
  let kept := ftaKept d
  let spread := if d.length < 2 then 0
    else ((kept.foldl Max.max (kept.headD 0) - kept.foldl Min.min (kept.headD 0)) / ns32).toNat
  let dDrv := drv.bind fun k => (ds.find? (·.1 = k)).map (·.2)
  let a := match m with
    | none => 0
    | some m =>
      if self then 0
      else match dDrv with
        | some v => m + clampI (-20 * ns32) (20 * ns32) ((v - m) / 8)
        | none => m
  let oobM := match m with
    | some m => decide (2000 * ns32 < m.natAbs)
    | none => false
  -- rate, at the end of an odd cycle
  let rs := ds.filterMap fun p => (s.tim.prevDevs.find? (·.1 = p.1)).map fun q =>
    (p.1, (p.2 + s.tim.prevA - q.2) * 1000000000000 / ((Max.max 1 tOc : Nat) * ns32))
  let rho := (fta ((if syncNode then [0] else []) ++ rs.map (·.2))).getD 0
  let rDrv := drv.bind fun k => (rs.find? (·.1 = k)).map (·.2)
  let sigma := match rDrv with
    | some v => clampI (-20000000) 20000000 ((v - rho) / 4)
    | none => 0
  let odd := n % 2 = 1 && !self
  let rateNew := if odd then s.tim.rate - (rho + sigma) / 2 else s.tim.rate
  let oobR := decide (500000000 < rateNew.natAbs)
  let oob := oobM || oobR
  slewOver (-a) nit { s with tim := { s.tim with
    rateNext := if odd && !oobR then some rateNew else none
    prevDevs := if n % 2 = 0 then ds else []
    prevA := if n % 2 = 0 then a else 0
    devs := []
    aCorr := a * 8 / ns32
    spread := Min.min 0xFFFF spread
    nVals := Min.min 16 d.length
    kVals := if d.length < 2 then 0 else ftaK d.length
    split := satAdd 0xFF s.tim.split (splitCount s.tim.devs)
    steering := !self && dDrv.isSome && m.isSome
    oob := oob
    oobRun := if oob then s.tim.oobRun + 1 else 0 } }

/-- A station error is removed in the idle phase, at most SLEW_PPM of the cycle (R224, R225). -/
def stationSlew (tOc nit : Nat) (s : State) : State :=
  let lim : Int := tOc * slewPpm s * ns32 / 1000000
  let e := clampI (-lim) lim s.tim.station
  slewOver e nit { s with tim := { s.tim with station := s.tim.station - e } }

/-- A station error E in ns is measured (R224, R225): on the master while XB is not good, RATE is servoed
from successive values, within ±500 ppm. -/
def stationError (e : Int) (servo : Bool) (s : State) : State :=
  let rate := if servo then match s.tim.lastErr with
      | some (t, e0) => if t < s.gt then
          clampI (-500000000) 500000000 (s.tim.rate + (e - e0) * 1000000000000 / ((s.gt - t : Nat) : Int))
        else s.tim.rate
      | none => s.tim.rate
    else if s.tim.stm then 0 else s.tim.rate
  { s with tim := { s.tim with station := e * ns32, err := e, lastErr := some (s.gt, e), rate := rate } }

/-! ### Epoch -/

/-- The stamp `x` of a timer that does not run on GT, after GT has stepped to `v`: the time since it stays. -/
def moved (v : Nat) (s : State) (x : Nat) : Nat := x + v - s.gt

/-- GT takes a value (R212, R214): every later stamp counts from it. What is measured on the tick count, on SIRC or by a
watchdog of its own moves with the step: the firmware trial window's end (R461), the module watchdog's and the engines'
last services (R405, R406) and the heartbeats sent and heard (R240). -/
def gtStep (v src : Nat) (valid : Bool) (s : State) : State :=
  { s with
    clvPre := clvBefore v s
    gt := v
    gtFrac := 0
    fwu := { s.fwu with trialEnd := if s.fwu.trialEnd = 0 then 0 else moved v s s.fwu.trialEnd }
    flt := { s.flt with l5Served := moved v s s.flt.l5Served, restarted := s.flt.restarted.map fun e => (e.1, moved v s e.2) }
    plv := { s.plv with hbSent := s.plv.hbSent.map (moved v s), lastHb := s.plv.lastHb.map (moved v s) }
    tim := { s.tim with epochSrc := src, valid := valid, slewLeft := 0, slewTicks := 0 } }

/-- HOLD (R226) is of a driving module other than the master. -/
def holdNow (s : State) : Bool :=
  s.tim.hold && (s.mod.tup.role = .solo || s.mod.tup.role = .active) && decide (s.mod.tup.run ≠ .boot) && !isStm s

/-- MGT_TOD (R213, R477): the GT of the next PPS edge, while TOD_EN is 1. -/
def execMgtTod (t : Nat) (frame : List Byte) (s0 : State) : Host.Outcome State Fault Refusal :=
  let s := atT t s0
  .next (match mgtPayload s 0x12 8 frame with
    | none => s
    | some p => if todEn s then { s with tim := { s.tim with tod := some (ofLe p, s.gt), todAt := some s.gt } } else s)

/-- The module has led no cold start since power-on, so that it may still take a first GT value by a step (R212). -/
def firstEpoch (s : State) : Bool := s.oxn.coldstarts = 0

/-- PPS_EDGE (R479): the pending value is applied: a station error on the station time master, a first GT
value on a module that has none, when its message arrived within 2 s of the end of BOOT (R212). -/
def execPpsEdge (t : Nat) (s0 : State) : Host.Outcome State Fault Refusal :=
  let s := atT t s0
  .next (match s.tim.tod with
    | none => s
    | some (v, at_) =>
      let s1 := { s with tim := { s.tim with tod := none } }
      if s.gt < at_ + sec then
        if isStm s then stationError ((v : Int) - s.gt) (!srcGood s true) { s1 with tim := { s1.tim with valid := true } }
        else if s.tim.epochSrc = 0 && firstEpoch s && (s.mod.tup.net = .listen || s.mod.tup.net = .passive)
            && (match s.tim.bootEnd with | some b => decide (at_ ≤ b + 2 * sec) | none => false) then
          gtStep v 3 true s1
        else s1
      else s1)

/-- TOD_PPS_TIMEOUT (R479): no edge within 1 s discards the message. -/
def execTodPpsTimeout (t : Nat) (s0 : State) : Host.Outcome State Fault Refusal :=
  let s := atT t s0
  .next (match s.tim.tod with
    | some (_, at_) => if at_ + sec ≤ s.gt then { s with tim := { s.tim with tod := none } } else s
    | none => s)

/-- STATION_HOLD (R226): a driving module other than the master has had no time message for 10 ms. -/
def execStationHold (t : Nat) (s0 : State) : Host.Outcome State Fault Refusal :=
  let s := atT t s0
  let m := s.mod.tup
  .next (if !isStm s && (m.role = .solo || m.role = .active) && decide (m.run ≠ .boot)
      && (match s.tim.lastTime with | some l => decide (l + 10 * ms ≤ s.gt) | none => true) then
    { s with tim := { s.tim with hold := true, within := none } } else s)

/-! ### Clover (R229 to R233) -/

/-- Stations with Clover points in the I/O map, and the number of their points. -/
def cloverStations (s : State) : List (Nat × Nat) :=
  let st := (s.chg.cur.points.filterMap fun p => match p.link with | .clover k _ => some k | _ => none).eraseDups
  st.map fun k => (k, (s.chg.cur.points.filter fun p => match p.link with
    | .clover j _ => j = k
    | _ => false).length)

/-- The echo of a station in the committed image: whether it names the snapshot, LATE, and t_L − T. -/
def cloverEcho (s : State) (k : Nat) : Option (Bool × Nat) :=
  match (linked s.chg.cur.points (.clvEcho k)).map fun a => (inEntry s a).value.toNat with
  | v :: _ => if bits v 0 16 = s.tim.clv.id && s.tim.clv.id ≠ 0 then some (v.testBit 16, bits v 32 32) else none
  | [] => none

/-- Every unit has latched and every station has returned its echo (R233). -/
def cloverAllIn (s : State) : Bool := (cloverStations s).all fun k => (cloverEcho s k.1).isSome

/-- A snapshot is armed (R230). -/
def cloverArm (id at_ : Nat) (s : State) : State :=
  { s with clvPre := none, tim := { s.tim with clv := ⟨1, id, at_, 0, [], [], true, s.tim.clv.txT, s.tim.clv.txId⟩ } }

/-- The bit of CLK_GATED of the block that holds a unit's counters. -/
def srcBlk (src : Nat) : Option Nat :=
  if src = Src.lane .a then some 4 else if src = Src.lane .b then some 5 else if src = Src.lane .c then some 6
  else if src = 0x400000 || (List.range 4).any fun p => src = Src.can p then some 7
  else if src = Src.teasel then some 8
  else none

/-- A unit cannot latch now (R231): its block is gated or in reset. -/
def latchBarred (s : State) (src : Nat) : Bool :=
  match srcBlk src with
  | some b => blkClosed s b
  | none => false

/-- A unit has latched in the present snapshot. -/
def hasLatched (c : ClvS) (src : Nat) : Bool := c.latched.any fun k => k.1 = src && decide (k.2.1 < 1024)

/-- A counter's unit has not latched yet. The Sorrel counts held in RAM are latched with Sorrel itself, so one that begins
to be held later belongs to no present snapshot. -/
def notLatched (c : ClvS) (k : Nat × Nat × Nat) : Bool := !hasLatched c (if k.2.1 < 1024 then k.1 else Src.sorrel)

/-- CLOVER_LATCH (R231): every unit that can latches its counters, with the increments stamped before this instant and
none stamped at it (R13); a latch after T is LATE with its time, and so is that of a unit which could not latch then and
can now. DEDUCED (log 140): a unit armed at this very instant takes them as they stand. -/
def execCloverLatch (t : Nat) (s0 : State) : Host.Outcome State Fault Refusal :=
  let s := atT t s0
  let c := s.tim.clv
  .next (if (c.st = 1 ∨ c.st = 2) ∧ c.at_ ≤ s.gt then
    { s with tim := { s.tim with clv := { c with
      st := 2
      latched := c.latched ++ (((s.clvPre.getD (cloverCounters s)).filter fun k => notLatched c k
        && !(k.2.1 < 1024 && latchBarred s k.1)).map fun k => (k.1, k.2.1, k.2.2, Max.max c.at_ s.gt)) } } } else s)

/-- Units that a retirement record names and that have counters of their own in the snapshot. -/
def cloverUnits : List UnitId :=
  [.lane .a, .lane .b, .lane .c, .oxn .a, .oxn .b] ++ ((List.range 3).map .plv) ++ (List.range 4).map .can

/-- A counter is one of a unit held retired: those of a unit are numbered below 4, a block's total from there on. -/
def srcRetired (s : State) (k : Nat × Nat × Nat × Nat) : Bool :=
  decide (k.2.1 < 4) && cloverUnits.any fun u => unitSrc s u = k.1 && isRetired s u

/-- The module's entries of a completed snapshot (R231): a unit that has not latched, or is retired at the deadline, is
MISSING, with latch time 0. -/
def ownLatched (deadline : Bool) (s : State) : List (Nat × Nat × Nat × Nat) :=
  let c := s.tim.clv
  (c.latched.map fun k => if deadline && srcRetired s k then (k.1, k.2.1, 0, 0) else k)
    ++ ((cloverCounters s).filter (notLatched c)).map fun k => (k.1, k.2.1, 0, 0)

/-- The stations' entries of a completed snapshot, from the committed image (R231, R232). -/
def stationLatched (s : State) : List (Nat × Nat × Nat × Nat) :=
  (cloverStations s).flatMap fun k => (List.range k.2).map fun i =>
    match cloverEcho s k.1 with
    | some e => (k.1, i, if e.1 then s.tim.clv.at_ + e.2 else s.tim.clv.at_,
        ((linked s.chg.cur.points (.clover k.1 i)).map fun a => (inEntry s a).value.toNat).headD 0)
    | none => (k.1, i, 0, 0)

/-- The snapshot becomes COMPLETE (R233): its entries stand from now on as they are, whatever is in use later. -/
def cloverComplete (deadline : Bool) (s : State) : State :=
  { s with tim := { s.tim with clv := { s.tim.clv with
    st := 3
    doneGt := s.gt
    latched := ownLatched deadline s
    stations := stationLatched s } } }

/-- At a program cycle boundary (R233): every unit of the module has latched and every station has returned its echo. -/
def cloverBoundary (s : State) : State :=
  if s.tim.clv.st = 2 && ((cloverCounters s).all fun k => !notLatched s.tim.clv k) && cloverAllIn s then
    cloverComplete false s
  else s

/-- CLOVER_DEADLINE (R233): T + 1 s. -/
def execCloverDeadline (t : Nat) (s0 : State) : Host.Outcome State Fault Refusal :=
  let s := atT t s0
  .next (if (s.tim.clv.st = 1 ∨ s.tim.clv.st = 2) ∧ s.tim.clv.at_ + sec ≤ s.gt then cloverComplete true s else s)

/-- One result entry (Table 8.6). -/
def clvEntry (src flags counter latch val : Nat) : List Byte :=
  le 3 src ++ le 1 flags ++ le 2 counter ++ pad 2 ++ le 8 latch ++ le 8 val

/-- The result entries: the module's, then the stations' (R233). -/
def clvEntries (s : State) : List (Nat × List Byte) :=
  let c := s.tim.clv
  let own := c.latched.map fun k => if k.2.2.2 = 0 then (2, clvEntry k.1 2 k.2.1 0 0) else
      let late := decide (c.at_ < k.2.2.2)
      (b2n late, clvEntry k.1 (b2n late) k.2.1 k.2.2.2 k.2.2.1)
  let st := c.stations.map fun k => if k.2.2.1 = 0 then (2, clvEntry (Src.oxn k.1 0xFF) 6 k.2.1 0 0) else
      let late := decide (c.at_ < k.2.2.1)
      (b2n late, clvEntry (Src.oxn k.1 0xFF) (4 + b2n late) k.2.1 k.2.2.1 k.2.2.2)
  (own ++ st).take 65536

/-- Entries marked LATE and MISSING. -/
def clvCounts (s : State) : Nat × Nat :=
  let e := clvEntries s
  ((e.filter (·.1 = 1)).length, (e.filter (·.1 = 2)).length)

/-- The result header (Table 8.5). -/
def clvHeader (s : State) : List Byte :=
  let c := s.tim.clv
  le 2 c.id ++ le 1 c.st ++ le 1 0 ++ le 4 (clvEntries s).length ++ le 8 c.at_ ++ le 8 c.doneGt
    ++ le 4 (clvCounts s).1 ++ le 4 (clvCounts s).2

/-- A signed value in units of 10 ns in 16 bits, saturating. -/
def err16 (e : Int) : Nat := wrap32 (clampI (-32768) 32767 (e / 10)) % 65536

/-- TIME registers (Tables 8.8 to 8.10) but for the latched GT. -/
def timReg (s : State) (driver : Bool) : Nat → Nat
  | 0x00 => b2n s.tim.valid + 2 * b2n (decide ((s.clk.plls.getD 6 ⟨0, false, false⟩).ref = 2)) + 4 * b2n driver
      + 8 * b2n s.tim.steering + 16 * b2n s.tim.oob + 32 * s.tim.epochSrc + 65536 * s.tim.losses
  | 0x04 => s.tim.cfg.toNat
  | 0x08 => s.gt % 2 ^ 32
  | 0x0C => s.tim.latch / 2 ^ 32 % 2 ^ 32
  | 0x10 => wrap32 s.tim.aCorr
  | 0x14 => wrap32 s.tim.rate
  | 0x18 => s.tim.spread + 2 ^ 16 * s.tim.nVals + 2 ^ 21 * s.tim.kVals + 2 ^ 24 * s.tim.split
  | 0x1C => b2n (isStm s) + 2 * (s.tim.stmPair.getD 0)
      + 16 * b2n (isStm s || (match s.tim.lastTime with | some l => decide (s.gt < l + 10 * ms) | none => false))
      + 32 * b2n (holdNow s) + 65536 * err16 s.tim.err
  | 0x20 => s.tim.clv.id + 65536 * s.tim.clv.st
  | 0x24 => s.tim.clv.at_ % 2 ^ 32
  | 0x28 => s.tim.clv.at_ / 2 ^ 32
  | 0x2C => Min.min 0xFFFF (clvCounts s).1 + 65536 * Min.min 0xFFFF (clvCounts s).2
  | _ => 0

/-- TIME_GT_LO_READ (R234): GT is latched for TIME_GT_HI. -/
def execTimeGtLoRead (t : Nat) (s0 : State) : Host.Outcome State Fault Refusal :=
  let s := atT t s0
  .next (emit (.barData (BitVec.ofNat 32 s.gt)) { s with tim := { s.tim with latch := s.gt } })

end Sys2Proof.Machine
end

