-- ==== Sys2Proof/Machine/Frames.lean ====
section
/-! DEFINITION. Oxuger frames (chapter 7): slots of the running plan, the checks of R183, packing of DATA
fields (Table 7.4), safety PDUs (Table 7.5), and the frames the module sends. -/

namespace Sys2Proof.Machine

/-- The other channel. -/
def otherChan : Chan → Chan
  | .a => .b
  | .b => .a

/-- Channel number: 0 A, 1 B. -/
def chanNum : Chan → Nat
  | .a => 0
  | .b => 1

/-- One channel's record. -/
def chanOf (s : State) : Chan → ChanS
  | .a => s.oxn.chA
  | .b => s.oxn.chB

/-- Change one channel's record. -/
def updChan (c : Chan) (f : ChanS → ChanS) (s : State) : State :=
  match c with
  | .a => { s with oxn := { s.oxn with chA := f s.oxn.chA } }
  | .b => { s with oxn := { s.oxn with chB := f s.oxn.chB } }

/-- The module holds a channel retired. -/
def chRetired (s : State) (c : Chan) : Bool := isRetired s (.oxn c)

/-- A channel carries a plan. -/
def inPlan (p : Plan) (c : Chan) : Bool := p = .full || (p = .narrowA && c = .a) || (p = .narrowB && c = .b)

/-- The narrow plan on a channel. -/
def narrowOn : Chan → Plan
  | .a => .narrowA
  | .b => .narrowB

/-- PLAN_NOW encoding (Table 7.6). -/
def planCode : Plan → Nat
  | .full => 0
  | .narrowA => 1
  | .narrowB => 2

/-- Plan of an encoding. -/
def planOf : Nat → Plan
  | 1 => .narrowA
  | 2 => .narrowB
  | _ => .full

/-- Network state SYNCED or NARROW. -/
def netUp (s : State) : Bool := s.mod.tup.net = .synced || s.mod.tup.net = .narrow

/-- A node in LISTEN has accepted a frame and takes INTEGRATING at the next cycle boundary (R203, R36). -/
def joins (s : State) : Bool := s.mod.tup.net = .listen && s.oxn.netNext = some .integrating

/-- Network states in which a node keeps a cycle (R196), and the rest of the cycle in which it has accepted one. -/
def keepsCycle (s : State) : Bool :=
  netUp s || s.mod.tup.net = .coldLead || s.mod.tup.net = .integrating || joins s

/-- The generation whose schedule runs. -/
def runGen (s : State) : Gen := s.oxn.run.getD genNone

/-- The section of the running schedule for the plan running. DESIGN CHOICE (log 189): all header values of
the plan in force. -/
def planSched (s : State) : Sched := if s.oxn.plan = .full then (runGen s).sched else (runGen s).narrow

/-- T_oc in ns. -/
def tOcNs (s : State) : Nat := (planSched s).tOc * 10000

/-- The idle phase in ns. -/
def nitNs (s : State) : Nat := (planSched s).nitUs * us

/-- Sync nodes of the running schedule. -/
def syncNodes (s : State) : List Nat := (runGen s).sched.syncList.filter (· ≠ 0xFFFF)

/-- Position of a node among the first N_CS sync nodes (R202). -/
def rankOf (s : State) (node : Nat) : Option Nat :=
  let l := (syncNodes s).take (runGen s).sched.nCs
  let k := l.findIdx (· = node)
  if k < l.length then some k else none

/-- What frames of the present cycle are checked against. -/
def rxCtx (s : State) : RxCtx := ⟨s.oxn.n, s.oxn.cn, s.oxn.plan, s.oxn.run, netUp s⟩

/-- The generation whose schedule a cycle runs. -/
def ctxGen (k : RxCtx) : Gen := k.run.getD genNone

/-- Slot entry of a number on a channel in the plan of a cycle (R183, R192 for probes). -/
def slotIn (k : RxCtx) (c : Chan) (slot : Nat) : Option SlotEntry :=
  if k.plan = .full then (ctxGen k).sched.slots.find? fun e => e.slot = slot && e.chan = c
  else (ctxGen k).narrow.slots.find? fun e => e.slot = slot

/-- Slot entry of a number on a channel in the plan running. -/
def slotAt (s : State) (c : Chan) (slot : Nat) : Option SlotEntry := slotIn (rxCtx s) c slot

/-- Pack entries of a slot, keyed by channel and slot number in the I/O map; a slot of the narrow plan uses
the list of the schedule's slot of its number. -/
def packsOf (s : State) (c : Chan) (slot : Nat) : List PackEntry :=
  let g := runGen s
  let c' := if s.oxn.plan = .full then c
    else match g.sched.slots.find? fun e => e.slot = slot && e.essential with
      | some e => e.chan
      | none => c
  Tab.getD g.packs (slot + 0x8000 * chanNum c') []

/-- The delay recorded for a sender on a channel, ns (R216); keyed by node and channel. -/
def delayOf (s : State) (node : Nat) (c : Chan) : Nat := Tab.getD (runGen s).delays (node + 0x1000 * chanNum c) 0

/-- The header of a frame (Table 7.2). -/
structure FrameHdr where
  ftype : Nat
  flags : Nat
  src : Nat
  slot : Nat
  len : Nat
  cycle : Nat
  sched : Nat
deriving DecidableEq, Repr, Inhabited

/-- Read a header. -/
def frameHdr (b : List Byte) : FrameHdr :=
  ⟨field b 0 1, field b 1 1, field b 2 2, field b 4 2, field b 6 2, field b 8 4, field b 12 4⟩

/-- Payload of a frame. -/
def framePay (b : List Byte) : List Byte := (b.drop 16).take (field b 6 2)

/-- LCRC is correct over a frame of the length it states (Table 7.2). -/
def lcrcOk (b : List Byte) : Bool :=
  let n := field b 6 2
  b.length = 20 + n && field b (16 + n) 4 = crc32 (b.take (16 + n))

/-- A frame lies within its slot on the receiver's clock (R181, R13). -/
def inSlot (k : RxCtx) (e : SlotEntry) (f : RxFrame) : Bool :=
  let a := k.cn + e.start * 100
  decide (a ≤ f.sof ∧ f.eof < a + e.len * 100)

/-- The FTYPE a slot admits: while the network is not up, a leader's COLDSTART frame travels in its sync slot
(R204). -/
def ftypeOk (up : Bool) (e : SlotEntry) (t : Nat) : Bool := e.ftype = t || (!up && e.ftype = 0x30 && t = 0x31)

/-- R183 but for the payload, against what a cycle runs: the slot entry of a valid frame. -/
def frameIn (k : RxCtx) (f : RxFrame) : Option SlotEntry :=
  let h := frameHdr f.bytes
  match slotIn k f.chan h.slot with
  | none => none
  | some e =>
    if lcrcOk f.bytes && inSlot k e f && ftypeOk k.up e h.ftype && h.src = e.owner && h.len = e.payload
        && h.flags / 16 = 0 && decide (h.flags / 8 % 2 = chanNum f.chan)
        && decide (h.flags / 4 % 2 = b2n (k.plan ≠ .full)) && h.cycle = k.n % 2 ^ 32
        && h.sched = (ctxGen k).num then some e else none

/-- R183 in the present cycle. -/
def frameOk (s : State) (f : RxFrame) : Option SlotEntry := frameIn (rxCtx s) f

/-- GT at the end of a slot, where a frame's arrival completes (R181, R16). -/
def slotEnd (s : State) (e : SlotEntry) : Nat := s.oxn.cn + (e.start + e.len) * 100

/-- The module receives frames of the plan on a channel: it carries the plan and is not held retired
(R196). -/
def hears (s : State) (c : Chan) : Bool := inPlan s.oxn.plan c && !chRetired s c

/-- What a node in LISTEN, which keeps no cycle, can test of R183 on a frame that is no sync frame: its bytes and its
slot's entry in either plan (log entry 158). -/
def looksValid (s : State) (f : RxFrame) : Bool :=
  let h := frameHdr f.bytes
  lcrcOk f.bytes && h.flags / 16 = 0 && decide (h.flags / 8 % 2 = chanNum f.chan) && h.sched = (runGen s).num
    && ((runGen s).sched.slots ++ (runGen s).narrow.slots).any fun e =>
      e.slot = h.slot && e.ftype = h.ftype && e.owner = h.src && e.payload = h.len

/-- In LISTEN an invalid frame restarts the timeout (R202). -/
def listenAgain (s : State) : State :=
  if s.mod.tup.net = .listen then { s with oxn := { s.oxn with listenAt := s.gt } } else s

/-- A frame that fails LCRC is counted (Table 7.18); it is invalid. -/
def noteLcrc (f : RxFrame) (s : State) : State :=
  if lcrcOk f.bytes then s
  else listenAgain (updChan f.chan (fun k => { k with lcrc := satInc 0xFFFF k.lcrc, lcrcNow := k.lcrcNow + 1 }) s)

/-- A frame that is no sync frame arrives: one that fails LCRC is counted, and in LISTEN an invalid one restarts the
timeout. -/
def noteFrame (f : RxFrame) (s : State) : State :=
  if lcrcOk f.bytes && !looksValid s f then listenAgain s else noteLcrc f s

/-- A valid frame from another sync node was heard on a channel; one of a slot that the pair owns comes from the partner,
which is a sync node (R178). -/
def noteHeard (s : State) (f : RxFrame) : State :=
  if (frameHdr f.bytes).src = 0xFFE || decide ((frameHdr f.bytes).src ∈ syncNodes s) then updChan f.chan (fun k => { k with heard := true }) s else s

/-! ### DATA fields -/

/-- Bytes of a pack code's field (Table 7.4); BIT takes none here. -/
def packBytes : Nat → Nat
  | 0 => 0
  | 1 => 1
  | 2 => 2
  | 3 => 2
  | 4 => 4
  | 5 => 4
  | 6 => 4
  | 7 => 8
  | 8 => 2
  | _ => 4

/-- Bytes of the BIT fields of a list. -/
def bitBytes (es : List PackEntry) : Nat := ((es.filter (·.code = 0)).length + 7) / 8

/-- Each entry of a packing list with its place: bit number of a BIT field, byte offset of another
(R184 items 1 and 2). -/
def packPlaces (es : List PackEntry) : List (PackEntry × Nat) :=
  (es.foldl (fun (a : Nat × Nat × List (PackEntry × Nat)) e =>
    if e.code = 0 then (a.1 + 1, a.2.1, a.2.2 ++ [(e, a.1)])
    else (a.1, a.2.1 + packBytes e.code, a.2.2 ++ [(e, a.2.1)])) (0, bitBytes es, [])).2.2

/-- Offset of the quality bytes. -/
def qualOff (es : List PackEntry) : Nat := bitBytes es + (es.map fun e => packBytes e.code).sum

/-- Offset of the forced map. -/
def forcedOff (es : List PackEntry) : Nat := qualOff es + (es.filter (·.q)).length

/-- Packed size of a list (R184). -/
def packedSize (es : List PackEntry) : Nat := (forcedOff es + (es.length + 7) / 8 + 3) / 4 * 4

/-- Bit n of a byte string. -/
def bitAt (b : List Byte) (n : Nat) : Bool := (b.getD (n / 8) 0).getLsbD (n % 8)

/-- The padding of a DATA payload is zero (R184 items 1, 4 and 5, R183): after the BIT fields, after the forced map,
and up to PAYLOAD. -/
def dataPadOk (es : List PackEntry) (pay : List Byte) : Bool :=
  let nb := (es.filter (·.code = 0)).length
  let fo := forcedOff es
  let fl := (es.length + 7) / 8
  ((List.range (8 * bitBytes es)).all fun i => decide (i < nb) || !bitAt pay i)
    && ((List.range (8 * fl)).all fun i => decide (i < es.length) || !bitAt (pay.drop fo) i)
    && (pay.drop (fo + fl)).all (· == 0)

/-- A number of n bits as signed. -/
def signExt (n v : Nat) : Int := if v < 2 ^ (n - 1) then (v : Int) else (v : Int) - ((2 ^ n : Nat) : Int)

/-- A binary32 word as binary64, exact (Table 7.4). -/
def f32to64 (w : Nat) : Nat :=
  let sg := 2 ^ 63 * b2n (w.testBit 31)
  if bits w 23 8 = 255 then sg + 0x7FF * 2 ^ 52 + bits w 0 23 * 2 ^ 29
  else match fDecode 8 23 (w % 2 ^ 31) with
    | .fin n sc => sg + fRound 11 52 n (2 ^ sc)
    | _ => sg

/-- The VALUE of a field received at its place (Table 7.4). -/
def unpackField (b : List Byte) (code place : Nat) : DWord :=
  match code with
  | 0 => BitVec.ofNat 64 (b2n (bitAt b place))
  | 2 => BitVec.ofInt 64 (signExt 16 (field b place 2))
  | 4 => BitVec.ofInt 64 (signExt 32 (field b place 4))
  | 6 => BitVec.ofNat 64 (f32to64 (field b place 4))
  | 8 => BitVec.ofNat 64 (field b place 2 * 1000)
  | 9 => BitVec.ofInt 64 (signExt 32 (field b place 4))
  | c => BitVec.ofNat 64 (field b place (packBytes c))

/-- The nearest value of a signed field of n bits. -/
def clampS (n : Nat) (v : Int) : Nat :=
  let k : Int := ((2 ^ (n - 1) : Nat) : Int)
  (clampI (-k) (k - 1) v % ((2 ^ n : Nat) : Int)).toNat

/-- A REAL64 as a REAL32 field: rounded to nearest, ties to even; a finite value outside the range as the
largest of its sign (R185). -/
def packReal (w : Nat) : Nat :=
  let r := f64to32 w
  if r % 2 ^ 31 = 0x7F800000 ∧ bits w 52 11 ≠ 0x7FF then r - 1 else r

/-- The wire field of a VALUE, as a number (R185). PRESUMED (log 191): CUR16 is rounded to the nearest, ties
to even. -/
def packField (code : Nat) (v : DWord) : Nat :=
  match code with
  | 0 => v.toNat % 2
  | 1 => Min.min 0xFF v.toNat
  | 2 => clampS 16 v.toInt
  | 3 => Min.min 0xFFFF v.toNat
  | 4 => clampS 32 v.toInt
  | 5 => Min.min 0xFFFFFFFF v.toNat
  | 6 => packReal v.toNat
  | 7 => v.toNat
  | 8 => if v.toInt < 0 then 0 else Min.min 0xFFFF (roundEven v.toNat 1000)
  | _ => clampS 32 v.toInt

/-- Bits packed from bit 0 upwards and padded to a whole byte. -/
def bitsToBytes (l : List Bool) : List Byte :=
  (List.range ((l.length + 7) / 8)).map fun k =>
    BitVec.ofNat 8 (((List.range 8).map fun i => b2n (l.getD (8 * k + i) false) * 2 ^ i).sum)

/-- A field value arrives, at its slot's end (R186). -/
def deliverAt (addr at_ : Nat) (v : DWord) (qual : Nat) (s : State) : State :=
  { s with cyc := { s.cyc with inbox := s.cyc.inbox ++ [⟨addr, at_, v, some at_, qual, false⟩] } }

/-- Every field of a valid DATA frame is delivered (R186). DESIGN CHOICE (log 190): the forced map is not
used. -/
def deliverData (es : List PackEntry) (pay : List Byte) (at_ : Nat) (s : State) : State :=
  ((packPlaces es).foldl (fun (a : State × Nat) p =>
    let q := if p.1.q then field pay (qualOff es + a.2) 1 else qGood
    (deliverAt p.1.addr at_ (unpackField pay p.1.code p.2) q a.1, a.2 + b2n p.1.q)) (s, 0)).1

/-- A stored generation of a number. -/
def genByNum (s : State) (n : Nat) : Option Gen :=
  if s.chg.cur.num = n then some s.chg.cur
  else (([s.chg.prev, s.chg.older, s.chg.staged].filterMap id).find? fun k => k.g.num = n).map (·.g)

/-- What a DATA field of the module carries: VALUE, QUAL, forced, and whether it is a declared safe value
because the publishing generation lacks the point: then its image has no entry of its TYPE there (R105). The Clover
points come straight from the snapshot unit (R232). -/
def txField (s : State) (addr : Nat) : DWord × Nat × Bool × Bool :=
  let c := s.tim.clv
  match pointAt (runGen s).points addr with
  | none => (0, 0, false, false)
  | some p =>
    match p.link with
    | .clvT => (BitVec.ofNat 64 c.txT, qGood, false, false)
    | .clvId => (BitVec.ofNat 64 c.txId, qGood, false, false)
    | _ =>
      match Tab.find? s.oxn.txImg addr with
      | some e => if e.ty = p.ty then (e.value, e.qual.toNat, e.forced, false) else (p.safe, qGood, false, true)
      | none => (p.safe, qGood, false, true)

/-- The payload of a DATA slot, with FLAGS bits 0 and 1 (R184, R185). -/
def dataPayload (s : State) (es : List PackEntry) (len : Nat) : List Byte × Nat :=
  let fs := es.map fun e => (e, txField s e.addr)
  let bit := bitsToBytes ((fs.filter (·.1.code = 0)).map fun p => p.2.1.getLsbD 0)
  let oth := ((fs.filter (·.1.code ≠ 0)).map fun p => le (packBytes p.1.code) (packField p.1.code p.2.1)).flatten
  let q := (fs.filter (·.1.q)).map fun p => BitVec.ofNat 8 p.2.2.1
  let fm := bitsToBytes (fs.map (·.2.2.2.1))
  let b := bit ++ oth ++ q ++ fm
  ((b ++ pad (len - b.length)).take len,
   b2n (fs.any (·.2.2.2.1)) + 2 * b2n (fs.any (·.2.2.2.2)))

/-! ### Safety PDUs -/

/-- Connections the module consumes. -/
def rxConns (s : State) : List SafetyConn := (runGen s).conns.filter (·.toPair)

/-- What a receiver holds of a consumed connection. -/
def connIn (cs : List ConnS) (conn : Nat) : ConnS := (cs.find? (·.conn = conn)).getD ⟨conn, none, [], 0, true⟩

/-- S_TIMEOUT: 3 cycles where the I/O map gives none (R187). -/
def connTimeout (c : SafetyConn) : Nat := c.sTimeout.getD 3

/-- Data of a connection are valid at the start of cycle n (R190). -/
def connLive (n : Nat) (cs : List ConnS) (c : SafetyConn) : Bool :=
  match (connIn cs c.conn).last with
  | some r => decide (n ≤ r + connTimeout c)
  | none => false

/-- What the protocol engine holds of a consumed connection. -/
def connOf (s : State) (conn : Nat) : ConnS := connIn s.oxn.conns conn

/-- Data of a connection are valid at the present cycle start (R190). -/
def connValid (s : State) (c : SafetyConn) : Bool := connLive s.oxn.n s.oxn.conns c

/-- Connection fed by a field station. -/
def stationConn (s : State) (node : Nat) : Option SafetyConn := (rxConns s).find? (·.station = node)

/-- SCRC is correct (Table 7.5). -/
def scrcOk (pdu : List Byte) (sLen : Nat) : Bool :=
  field pdu (16 + sLen) 4 = crc32cFrom (field pdu 0 4) (pdu.take (16 + sLen))

/-- A PDU that arrived in cycle n passes R189 against a connection it names. -/
def pduOk (n : Nat) (pdu : List Byte) (c : SafetyConn) : Bool :=
  pdu.length = 20 + c.sLen && scrcOk pdu c.sLen && field pdu 0 4 = c.conn && field pdu 4 2 = c.station
    && field pdu 6 2 = 0xFFE && field pdu 8 4 = n % 2 ^ 32 && field pdu 12 2 = c.sLen
    && decide (field pdu 14 2 < 4)

/-- The connection that a PDU is accepted for (R189), among those that the running generation's I/O map has towards
the pair. -/
def pduConn (g : Gen) (n : Nat) (pdu : List Byte) : Option SafetyConn :=
  (g.conns.filter (·.toPair)).find? fun c => c.conn = field pdu 0 4 && pduOk n pdu c

/-- A PDU of cycle n is a second copy (R189). -/
def pduSeen (n : Nat) (cs : List ConnS) (c : SafetyConn) : Bool := (connIn cs c.conn).last = some n

/-- A receiver keeps an accepted PDU. -/
def pduKeep (n : Nat) (pdu : List Byte) (c : SafetyConn) (cs : List ConnS) : List ConnS :=
  cs.filter (·.conn ≠ c.conn) ++ [⟨c.conn, some n, (pdu.drop 16).take c.sLen, field pdu 14 2, false⟩]

/-- A receiver of its own makes every check of R183 and R189 on a frame of a cycle (R154). -/
def safetyCheck (k : RxCtx) (f : RxFrame) (cs : List ConnS) : List ConnS :=
  if (frameHdr f.bytes).ftype ≠ 0x20 || (frameIn k f).isNone then cs
  else match pduConn (ctxGen k) k.n (framePay f.bytes) with
    | none => cs
    | some c => if pduSeen k.n cs c then cs else pduKeep k.n (framePay f.bytes) c cs

/-- The points of a connection take its data (R187). -/
def deliverSafety (c : SafetyConn) (data : List Byte) (at_ : Nat) (s : State) : State :=
  let s1 := c.bitPoints.foldl (fun s p =>
    deliverAt p.2 at_ (BitVec.ofNat 64 (b2n (bitAt data p.1))) qGood s) s
  c.wordPoints.foldl (fun s p =>
    deliverAt p.2 at_ (BitVec.ofInt 64 (signExt 32 (field data (4 * p.1) 4))) qGood s) s1

/-- A SAFETY PDU arrives in a valid frame (R189): rejected and counted, discarded as a second copy, or
accepted. -/
def takePdu (pdu : List Byte) (at_ : Nat) (s : State) : State :=
  match pduConn (runGen s) s.oxn.n pdu with
  | none => { s with oxn := { s.oxn with rejected := satInc 0xFFFF s.oxn.rejected } }
  | some c =>
    if pduSeen s.oxn.n s.oxn.conns c then s
    else deliverSafety c ((pdu.drop 16).take c.sLen) at_
      { s with oxn := { s.oxn with conns := pduKeep s.oxn.n pdu c s.oxn.conns } }

/-- What the permissives' destinations get from the newest voter update at or before an instant (R19, R188). -/
def drivenBy (s : State) (at_ : Nat) : List (Ref × Bool) :=
  if s.ile.drivenAt ≤ at_ then s.ile.driven else s.ile.drivenOld

/-- Bits of a connection from the pair in a slot: the granted permissives bound to them (R187, R188). -/
def pairBits (s : State) (e : SlotEntry) (c : SafetyConn) : List Bool :=
  let d := drivenBy s (s.oxn.cn + e.start * 100)
  (List.range (8 * c.sLen)).map fun p =>
    d.any fun x => x.2 && x.1.kind = 1 && x.1.node = c.station && x.1.pos = p

/-- The PDU of a connection from the pair in its slot (Table 7.5). -/
def pairPdu (s : State) (e : SlotEntry) (c : SafetyConn) : List Byte :=
  let b := le 4 c.conn ++ le 2 0xFFE ++ le 2 c.station ++ le 4 (s.oxn.n % 2 ^ 32) ++ le 2 c.sLen
    ++ le 2 (b2n (s.mod.tup.ile = .withdrawn)) ++ bitsToBytes (pairBits s e c)
  b ++ le 4 (crc32cFrom c.conn b)

/-! ### Sync frames -/

/-- SELF_OK (Table 7.6): no permanent safety-class fault, and the L5 watchdog is served (R406). -/
def selfOk (s : State) : Bool :=
  !(s.mod.tup.role = .retired && (s.mod.retireCause = .fault || s.mod.retireCause = .self)) && !s.flt.hwSafe

/-- SRC_STATE of the module; ARB is the bit of the cycle (R242). -/
def srcState (s : State) : Nat := roleCode s.mod.tup.role + 8 * b2n s.oxn.arbTx + 16 * b2n (selfOk s)

/-- VOTE of the module. -/
def voteBits (s : State) : Nat := b2n (chRetired s .a) + 2 * b2n (chRetired s .b)

/-- Distinct other sync nodes with a valid sync frame in a list, probes left out. -/
def syncSeen (l : List SyncSeen) : List Nat := ((l.filter fun x => !x.probe).map (·.node)).eraseDups

/-- The sync payload (Table 7.6). -/
def syncPayload (s : State) : List Byte :=
  le 8 s.oxn.n ++ le 8 s.oxn.cn ++ le 1 (planCode s.oxn.plan)
    ++ le 1 (match s.oxn.planNext with | some p => planCode p.1 | none => planCode s.oxn.plan)
    ++ le 1 (voteBits s) ++ le 1 (srcState s)
    ++ le 4 (match s.oxn.planNext with | some p => p.2 | none => 0)
    ++ le 4 (match s.oxn.schedNext with | some p => p.1 | none => 0)
    ++ le 4 (match s.oxn.schedNext with | some p => p.2 | none => 0)
    ++ le 1 ((rankOf s (ownNode s)).getD 0xFF) ++ le 1 (Min.min 16 (syncSeen s.oxn.lastSyncs).length) ++ le 2 0
    ++ le 4 (wrap32 s.tim.rate) ++ pad 8

/-- A frame's bytes (Table 7.2). -/
def frameBytes (s : State) (c : Chan) (e : SlotEntry) (ftype flags : Nat) (pay : List Byte) : List Byte :=
  let b := le 1 ftype ++ le 1 (flags + 4 * b2n (s.oxn.plan ≠ .full) + 8 * chanNum c) ++ le 2 e.owner ++ le 2 e.slot
    ++ le 2 pay.length ++ le 4 (s.oxn.n % 2 ^ 32) ++ le 4 (runGen s).num ++ pay
  b ++ le 4 (crc32 b)

/-- What the module sends in a slot (R179, R185, R188, R192, R204); none when it sends nothing. -/
def txFrame (s : State) (c : Chan) (e : SlotEntry) : Option (List Byte) :=
  let stopping := s.oxn.netNext = some .listen
  if e.owner = ownNode s && e.ftype = 0x30 then
    if netUp s && !stopping && (hears s c || (s.oxn.plan ≠ .full && !inPlan s.oxn.plan c)) then
      some (frameBytes s c e 0x30 0 (syncPayload s))
    else if s.mod.tup.net = .coldLead && hears s c && s.oxn.netNext ≠ some .integrating then
      some (frameBytes s c e 0x31 0 (syncPayload s))
    else none
  else if e.owner = 0xFFE && s.oxn.mayDrive && netUp s && !stopping && hears s c then
    if e.ftype = 0x10 then
      let d := dataPayload s (packsOf s c e.slot) e.payload
      some (frameBytes s c e 0x10 d.2 d.1)
    else if e.ftype = 0x20 then
      match (runGen s).conns.find? fun k => !k.toPair && k.slot = e.slot with
      | some k => some (frameBytes s c e 0x20 0 (pairPdu s e k))
      | none => none
    else none
  else none

end Sys2Proof.Machine
end

