-- ==== Sys2Proof/Machine/Oxn.lean ====
section
/-! DEFINITION. The Oxuger cycle of the module (chapter 7): cycle start, slots, received frames, channel
judgement, plans, cold start and integration. -/

namespace Sys2Proof.Machine

/-- Source number of the engine as a whole. -/
def oxnSrc (s : State) : Nat := Src.oxn (ownNode s) 0xFF

/-- Retire a channel (R196, R199, R207): with both retired the network is PASSIVE; a leader or integrating
node goes on with the other. -/
def retireOxn (c : Chan) (code : Nat) (s : State) : State :=
  if chRetired s c then s else
    let s1 := occur Code.oxnChRetired (Src.oxn (ownNode s) (chanNum c)) 0 (retireRecord (.oxn c) code s)
    if chRetired s1 (otherChan c) then
      (if s1.mod.tup.net = .passive then s1
       else setNet .passive { s1 with oxn := { s1.oxn with netNext := none, lead := none } })
    else
      let s2 := { s1 with oxn := { s1.oxn with netNext := s1.oxn.netNext.map fun k => if k = .synced then .narrow else k } }
      if s2.mod.tup.net = .coldLead then { s2 with oxn := { s2.oxn with plan := narrowOn (otherChan c) } }
      else if s2.mod.tup.net = .integrating then { s2 with oxn := { s2.oxn with intRun := 0 } }
      else s2

/-- A fault cycle on a channel (R196). -/
def faultCycle (c : Chan) (s : State) : State :=
  if chRetired s c then s else
    let s1 := bucketAdd (.oxn c) 8 (updChan c (fun k => { k with faultCycles := satInc 0xFF k.faultCycles }) s)
    if 32 ≤ bucket s1 (.oxn c) then retireOxn c 0 s1 else s1

/-- Other sync nodes with a valid sync frame on a channel in the cycle. -/
def syncOn (s : State) (c : Chan) : Nat :=
  ((s.oxn.syncs.filter fun x => x.chan = c).map (·.node)).eraseDups.length

/-- Other sync nodes of the schedule. -/
def otherSyncs (s : State) : Nat := ((syncNodes s).filter (· ≠ ownNode s)).length

/-- Judgement of one channel in the idle phase (R196). -/
def judgeChan (lost : Bool) (c : Chan) (s : State) : State :=
  let k := chanOf s c
  let s0 := updChan c (fun k => { k with loss := !k.heard, deadRun := if k.heard then 0 else k.deadRun + 1 }) s
  if chRetired s c || !keepsCycle s then s0 else
    let onPlan := inPlan s.oxn.plan c
    let few := netUp s && onPlan && decide (2 * syncOn s c < otherSyncs s)
    let bad := few || decide ((planSched s).crcLimit < k.lcrcNow) || lost
    let s1 := if bad then faultCycle c s0 else s0
    if netUp s && onPlan && decide (2 ≤ (chanOf s1 c).deadRun) then retireOxn c 0 s1 else s1

/-- Every channel is judged, both on the counts of the cycle that ends. -/
def judgeChans (lostA lostB : Bool) (s : State) : State := judgeChan lostB .b (judgeChan lostA .a s)

/-- Senders whose sync frame sets the VOTE bit of a channel, and all senders, the module among them when it
is a sync node (R197). -/
def voteCount (s : State) (c : Chan) : Nat × Nat :=
  let l := s.oxn.syncs.filter fun x => !x.probe
  let nodes := (l.map (·.node)).eraseDups
  let self := b2n (decide (ownNode s ∈ syncNodes s))
  ((nodes.filter fun n => l.any fun x => x.node = n && x.vote.testBit (chanNum c)).length
    + self * b2n (chRetired s c), nodes.length + self)

/-- A SOLO or ACTIVE module. -/
def driverRole (s : State) : Bool := s.mod.tup.role = .solo || s.mod.tup.role = .active

/-- The trigger of R197 for a narrow switch away from a channel. -/
def narrowTrigger (s : State) (c : Chan) : Bool :=
  let v := voteCount s c
  (driverRole s && chRetired s c) || decide (v.2 < 2 * v.1)

/-- Plans that valid sync frames of the cycle announce (R197, R200). -/
def announced (s : State) : List (Plan × Nat) :=
  ((s.oxn.syncs.filter fun x => !x.probe && x.planAt ≠ 0 && x.planNext ≠ s.oxn.plan).map
    fun x => (x.planNext, x.planAt)).eraseDups

/-- Whether a list of announcements names a plan. -/
def names (l : List (Plan × Nat)) (p : Plan) : Bool := l.any (·.1 = p)

/-- Plan decisions in the idle phase (R197, R198; the module's own announcement is one of those that R198 compares,
log entry 138; an integrating node or a leader adopts an announcement and makes none of its own). PLAN_AT is compared in 32 bits,
and the full cycle number is the next that has those bits. -/
def planDecide (s : State) : State :=
  if !netUp s && s.mod.tup.net ≠ .integrating && s.mod.tup.net ≠ .coldLead then s else
  let ann := announced s
  let told := ann ++ s.oxn.planNext.toList
  let own := if s.oxn.plan = .full && netUp s then
      (if narrowTrigger s .a then [Plan.narrowB] else []) ++ (if narrowTrigger s .b then [Plan.narrowA] else [])
    else []
  let both := (names told .narrowA && names told .narrowB) || own.length = 2
  if both && s.oxn.plan = .full then
    occur Code.oxnPlanConflict (oxnSrc s) 0 (faultCycle .b (faultCycle .a
      { s with oxn := { s.oxn with planNext := none } }))
  else if s.oxn.planNext.isSome then s
  else match ann with
    | (p, at_) :: _ =>
      { s with oxn := { s.oxn with planNext := some (p, s.oxn.n + (at_ + 2 ^ 32 - s.oxn.n % 2 ^ 32) % 2 ^ 32) } }
    | [] => match own with
      | p :: _ => { s with oxn := { s.oxn with planNext := some (p, s.oxn.n + 2) } }
      | [] => s

/-- A schedule switch that a module of the pair announces is adopted (R105). -/
def schedAdopt (s : State) : State :=
  match s.oxn.schedNext, s.oxn.syncs.find? fun x => !x.probe && x.schedNext ≠ 0 && x.schedNext ≠ (runGen s).num with
  | none, some x => if (genByNum s x.schedNext).isSome then
      { s with oxn := { s.oxn with
        schedNext := some (x.schedNext, s.oxn.n + (x.schedAt + 2 ^ 32 - s.oxn.n % 2 ^ 32) % 2 ^ 32) } } else s
  | _, _ => s

/-- A plan switch to FULL is announced, or, where the cluster runs FULL, the module itself returns to SYNCED (R200,
Table 2.7). -/
def fullAgain (s : State) : State :=
  if s.oxn.plan ≠ .full then
    if s.oxn.planNext = none then { s with oxn := { s.oxn with planNext := some (.full, s.oxn.n + 2) } } else s
  else if s.mod.tup.net = .narrow && !chRetired s .a && !chRetired s .b then
    { s with oxn := { s.oxn with netNext := some .synced } }
  else s

/-- The observation of a channel ends, and it stays retired; a node that holds both retired and observes neither takes
PASSIVE (R199). -/
def observeEnd (c : Chan) (s : State) : State :=
  let s1 := updChan c (fun k => { k with observe := none }) s
  if chRetired s1 .a && chRetired s1 .b && (chanOf s1 (otherChan c)).observe.isNone && s1.mod.tup.net ≠ .passive then
    setNet .passive { s1 with oxn := { s1.oxn with netNext := none, lead := none } }
  else s1

/-- Observation of a channel for READMIT (R200); a readmission that would fall in an arbitration is refused with BUSY,
and the channel stays retired (R39, log entry 178). -/
def observeChan (c : Chan) (s : State) : State :=
  match (chanOf s c).observe with
  | none => s
  | some (t0, run) =>
    let run1 := if (syncNodes s).length < 2 * syncOn s c then run + 1 else 0
    if run1 < 64 then updChan c (fun k => { k with observe := some (t0, run1) }) s
    else if s.mod.arb then
      let s1 := observeEnd c s
      if driverRole s1 then noteRefusal 6 .busy s1 else s1
    else fullAgain (readmitRecord (.oxn c) (updChan c (fun k => { k with observe := none, deadRun := 0 }) s))

/-- Counts of R205, R206 and R208 at the end of a cycle; SYNCED or NARROW is taken at the next cycle
boundary. -/
def syncCounts (s : State) : State :=
  let o := s.oxn
  let up : NetState := if o.plan ≠ .full || chRetired s .a || chRetired s .b then .narrow else .synced
  match s.mod.tup.net with
  | .coldLead =>
    let run := if o.hearNow then o.leadRun + 1 else 0
    let lead : NetState := if o.plan ≠ .full then .narrow else .synced
    { s with oxn := { o with
      leadCycles := o.leadCycles + 1, leadRun := run,
      netNext := if 4 ≤ o.leadCycles + 1 ∧ 2 ≤ run then some lead else o.netNext } }
  | .integrating =>
    { s with oxn := { o with
      intRun := if o.predOk then o.intRun + 1 else 0
      intFails := if o.predOk then o.intFails else o.intFails + 1
      netNext := if o.predOk && decide (2 ≤ o.intRun + 1) then some up else o.netNext } }
  | .synced => { s with oxn := { o with noSync := if (syncSeen o.syncs).isEmpty then o.noSync + 1 else 0 } }
  | .narrow => { s with oxn := { o with noSync := if (syncSeen o.syncs).isEmpty then o.noSync + 1 else 0 } }
  | _ => s

/-- The driving module of the cycle (R215): the one node of the pair whose SRC_STATE names SOLO or ACTIVE,
the module's own state among them. -/
def drivingNode (s : State) : Option Nat :=
  let claim (st : Nat) : Bool := st % 8 = 0 || st % 8 = 1
  let others := ((s.oxn.syncs.filter fun x => !x.probe && (x.node = 0x400 || x.node = 0x401)
    && claim x.srcState).map (·.node)).eraseDups
  let all := others ++ (if netUp s && driverRole s then [ownNode s] else [])
  match all with
  | [n] => some n
  | _ => none

/-- Clock correction of the idle phase (R218 to R222); a driving module also removes its station error (R224,
R225), and the station time master's RATE is 0 while XB is good. -/
def clockStep (s : State) : State :=
  if !keepsCycle s then s else
    let self := decide (drivingNode s = some (ownNode s))
    let s1 := timCorrect s.oxn.n (tOcNs s) (nitNs s) (drivingNode s) self (decide (ownNode s ∈ syncNodes s)) s
    stmRate (if self then stationSlew (tOcNs s) (nitNs s) s1 else s1)

/-- One channel's register (Table 7.18). -/
def chReg (s : State) (c : Chan) : Nat :=
  let k := chanOf s c
  bucket s (.oxn c) + 64 * b2n (chRetired s c) + 128 * b2n k.loss + 256 * k.faultCycles + 65536 * k.lcrc

/-- OXN registers as the idle phase leaves them (Tables 7.15 to 7.19). -/
def oxnRegsNow (s : State) : List (Nat × Nat) :=
  let o := s.oxn
  [(0x00, netCode s.mod.tup.net + 8 * planCode o.plan + 32 * b2n (!chRetired s .a) + 64 * b2n (!chRetired s .b)
      + 128 * b2n (netUp s && o.plan = .full && (chRetired s .a || chRetired s .b))
      + 256 * ((rankOf s (ownNode s)).getD 0) + 1024 * b2n (rankOf s (ownNode s)).isSome
      + 2048 * b2n (decide (ownNode s ∈ syncNodes s)) + 65536 * ownNode s),
   (0x04, o.n % 2 ^ 32), (0x08, o.n / 2 ^ 32 % 2 ^ 32), (0x0C, (runGen s).num),
   (0x10, (match o.planNext with | some p => planCode p.1 + 4 | none => 0) + 8 * b2n o.schedNext.isSome),
   (0x14, match o.planNext with | some p => p.2 % 2 ^ 32 | none => 0),
   (0x18, match o.schedNext with | some p => p.2 % 2 ^ 32 | none => 0),
   (0x1C, (planSched s).tOc + 65536 * (planSched s).nitUs),
   (0x20, chReg s .a), (0x24, chReg s .b),
   (0x28, Min.min 16 (syncSeen o.syncs).length + 256 * o.coldstarts + 65536 * o.leader),
   (0x2C, o.timedOut + 65536 * o.rejected),
   (0x30, Min.min 7 o.views.length)]

/-- OXN_STATUS before the first idle phase shows the node number alone (Table 7.14). -/
def oxnReg (s : State) (off : Nat) : Nat :=
  if s.oxn.regs.isEmpty then (if off = 0 then 65536 * ownNode s else 0) else latched s.oxn.regs off

/-- The module's part of an idle phase: judgement, correction, plans, observation, counts, registers. -/
def oxnIdle (lostA lostB : Bool) (s : State) : State :=
  let s1 := observeChan .b (observeChan .a (schedAdopt (planDecide (clockStep (judgeChans lostA lostB s)))))
  let s2 := syncCounts { s1 with oxn := { s1.oxn with judged := true } }
  { s2 with oxn := { s2.oxn with regs := oxnRegsNow s2 } }

/-- The idle phase of the cycle has begun and has not been judged yet. -/
def idleDue (s : State) : Bool :=
  !s.oxn.judged && s.mod.tup.run ≠ .boot && decide (s.oxn.cn + tOcNs s ≤ s.gt + nitNs s)

/-- A plan switch due at cycle n (R197, R200, R201): NARROW writes OXN_NARROW, FULL returns to SYNCED. -/
def planSwitch (n : Nat) (s : State) : State :=
  match s.oxn.planNext with
  | some (p, at_) =>
    if at_ ≤ n then
      let s1 := { s with oxn := { s.oxn with plan := p, planNext := none } }
      if !netUp s1 then s1
      else if p = .full then (if chRetired s1 .a || chRetired s1 .b then s1 else setNet .synced s1)
      else occur Code.oxnNarrow (oxnSrc s1) 0 (setNet .narrow s1)
    else s
  | none => s

/-- A schedule switch due at cycle n, and a switch that the program cycle has made since (R105): the first
cycle that begins at or after its T_commit is a, and the schedule runs from a + 2. -/
def schedSwitch (n : Nat) (s : State) : State :=
  let s1 := match s.oxn.schedNext with
    | some (g, at_) => if at_ ≤ n then
        { s with oxn := { s.oxn with
          run := match genByNum s g with | some k => some k | none => s.oxn.run
          schedNext := none } } else s
    | none => s
  match s1.oxn.announce with
  | some g => { s1 with oxn := { s1.oxn with announce := none, schedNext := some (g, n + 2) } }
  | none => s1

/-- The network state that the cycle before decided is taken (R36, R202 to R208): PASSIVE is left only for LISTEN,
with a good reference and a role other than RETIRED, and nothing but LISTEN is taken without one (Table 2.7). -/
def takeNet (s : State) : State :=
  match s.oxn.netNext with
  | some k =>
    let s1 := { s with oxn := { s.oxn with netNext := none, lead := none } }
    if s.mod.tup.net = .passive && (k ≠ .listen || s.mod.tup.role = .retired || !refGood s) then s1
    else if (k = .coldLead || k = .integrating) && !refGood s then s1
    else setNet k s1
  | none => s

/-- Start of the cycle that follows the last one kept, or that a coming leadership begins with (R204); none where the
module keeps no cycle. -/
def nextStart (s : State) : Option (Nat × Nat) :=
  if keepsCycle s then some (s.oxn.n + 1, s.oxn.cn + tOcNs s)
  else s.oxn.lead.map fun k => (k, k * tOcNs s)

/-- C_n is due: the cycle follows the last, or, where the module keeps no cycle, any later number. -/
def cycleDue (n : Nat) (s : State) : Bool :=
  s.mod.tup.run ≠ .boot && match nextStart s with
    | some k => decide (n = k.1 ∧ k.2 ≤ s.gt)
    | none => decide (s.oxn.n < n)

/-- What the snapshot unit has in the transmit buffer from C_n on (R232): from the cycle after acceptance until the
cycle after T the arm stands, then ARMED is 0. `prev` is the start of the cycle that ends. -/
def clvSend (prev : Nat) (s : State) : State :=
  let c := s.tim.clv
  let on := c.sending && decide (prev ≤ c.at_)
  if c.id = 0 then s
  else { s with tim := { s.tim with clv := { c with sending := on, txT := c.at_, txId := c.id + 65536 * b2n on } } }

/-- What a new cycle begins for the clock (R219, R221, R216): the last correction is complete, a RATE_new of the double
cycle that ends applies, and no deviation is held. -/
def timCycle (s : State) : State :=
  { s with tim := { s.tim with
    slewLeft := 0, slewTicks := 0, rate := s.tim.rateNext.getD s.tim.rate, rateNext := none, devs := [] } }

/-- The cycle start on the network side (R17, R179, R180): the state, plan and schedule of the cycle, and the
output image completed before C_n. -/
def oxnStart (n : Nat) (s : State) : State :=
  let cn := match nextStart s with
    | some k => k.2
    | none => s.gt
  let ctx := rxCtx s
  let s1 := schedSwitch n (planSwitch n (takeNet (clvSend s.oxn.cn (timCycle s))))
  let new := decide (s1.cyc.pubAt < cn)
  let s2 := { s1 with oxn := { s1.oxn with n := n } }
  { s1 with oxn := { s1.oxn with
    n := n
    cn := cn
    lastCtx := ctx
    sent := []
    arbTx := s1.mod.arb
    mayDrive := driverRole s1 && netUp s1
      && (s1.mod.tup.run = .idle || s1.mod.tup.run = .run || s1.mod.tup.run = .hold)
    lastSyncs := s1.oxn.syncs
    lastViews := s1.oxn.views
    syncs := []
    views := []
    judged := false
    hearNow := false
    predOk := false
    timedOut := ((rxConns s2).filter fun c => !connValid s2 c).length
    chA := { s1.oxn.chA with lcrcNow := 0, heard := false }
    chB := { s1.oxn.chB with lcrcNow := 0, heard := false }
    txImg := if new then s1.cyc.outImg else s1.cyc.prevOut
    txGen := if new then s1.cyc.pubGen else s1.cyc.prevPubGen } }

/-- A frame of a slot may begin now (R181): the action point has come, the frame ends in time, PAYLOAD + 22 byte times
of 3.2 ns each on the wire (R182), and the module has not sent in the slot in this cycle. -/
def mayBegin (s : State) (c : Chan) (e : SlotEntry) : Bool :=
  let ap := (planSched s).apOfsNs
  decide (s.oxn.cn + e.start * 100 + ap ≤ s.gt)
    && decide (5 * s.gt + 16 * (e.payload + 22) ≤ 5 * (s.oxn.cn + (e.start + e.len) * 100 - ap))
    && decide ((c, e.slot) ∉ s.oxn.sent)

/-- OXN_ACTION_POINT (R181): the module sends its frame of the slot. -/
def execOxnActionPoint (t : Nat) (c : Chan) (slot : Nat) (s0 : State) : Host.Outcome State Fault Refusal :=
  let s := atT t s0
  .next (match slotAt s c slot with
    | none => s
    | some e =>
      if mayBegin s c e then
        match txFrame s c e with
        | some b => emit (.oxnFrame c b) { s with oxn := { s.oxn with sent := s.oxn.sent ++ [(c, e.slot)] } }
        | none => s
      else s)

/-- DATA_FRAME (R186). -/
def execDataFrame (t : Nat) (f : RxFrame) (s0 : State) : Host.Outcome State Fault Refusal :=
  let s := atT t s0
  .next (if chRetired s f.chan then s else
    let s1 := noteFrame f s
    if !(keepsCycle s && hears s f.chan && (frameHdr f.bytes).ftype = 0x10) then s1 else
      match (frameOk s f).filter fun e => dataPadOk (packsOf s f.chan e.slot) (framePay f.bytes) with
      | none => s1
      | some e => deliverData (packsOf s f.chan e.slot) (framePay f.bytes) (slotEnd s e) (noteHeard s1 f))

/-- Reserved bits of a safety PDU are 0 (Table 7.5). -/
def pduZeros (p : List Byte) : Bool :=
  decide (field p 4 2 < 4096) && decide (field p 6 2 < 4096) && decide (field p 14 2 < 4)

/-- SAFETY_FRAME (R189): a frame that fails R183 or the safety checks is counted as rejected. The buffer that the
lanes read holds its bytes whatever the protocol engine finds (R154). -/
def execSafetyFrame (t : Nat) (f : RxFrame) (s0 : State) : Host.Outcome State Fault Refusal :=
  let s := atT t s0
  .next (if chRetired s f.chan then s else
    let s1 := noteFrame f s
    if !(keepsCycle s && hears s f.chan && (frameHdr f.bytes).ftype = 0x20) then s1 else
      let s1 := { s1 with ile := { s1.ile with rxNow := s1.ile.rxNow ++ [f] } }
      match (frameOk s f).filter fun _ => pduZeros (framePay f.bytes) with
      | none => { s1 with oxn := { s1.oxn with rejected := satInc 0xFFFF s1.oxn.rejected } }
      | some e => takePdu (framePay f.bytes) (slotEnd s e) (noteHeard s1 f))

/-- Reserved fields of a sync payload are 0 and its codes are legal (Table 7.6). -/
def syncPayOk (p : List Byte) : Bool :=
  p.length = 48 && decide (field p 16 1 < 3) && decide (field p 17 1 < 3) && decide (field p 18 1 < 4)
    && decide (field p 19 1 < 32) && zeros p 34 2 && zeros p 40 8

/-- A sync frame's fields. -/
def syncRead (node : Nat) (c : Chan) (probe : Bool) (p : List Byte) : SyncSeen :=
  ⟨node, c, field p 18 1, field p 19 1, planOf (field p 17 1), field p 20 4, field p 24 4, field p 28 4, probe⟩

/-- The frame a node in LISTEN or COLDSTART-LEAD accepts (R203): its slot entry. -/
def startOk (s : State) (f : RxFrame) : Option SlotEntry :=
  let h := frameHdr f.bytes
  match (runGen s).sched.slots.find? fun e => e.slot = h.slot && e.chan = f.chan with
  | none => none
  | some e =>
    if lcrcOk f.bytes && h.flags / 16 = 0 && e.ftype = 0x30 && e.owner = h.src && decide (h.src ∈ syncNodes s)
        && h.sched = (runGen s).num && (h.ftype = 0x30 || h.ftype = 0x31) && syncPayOk (framePay f.bytes)
    then some e else none

/-- What a node takes of an accepted frame (R203): C_n from the arrival, GT from CYCLE_GT, with where its epoch comes
from, the cycle and the plan from the frame. No deviation measured before counts any more. -/
def takeRef (f : RxFrame) (e : SlotEntry) (src : Nat) (valid : Bool) (s : State) : State :=
  let p := framePay f.bytes
  let cn := f.sof - (e.start * 100 + (runGen s).sched.apOfsNs + delayOf s (frameHdr f.bytes).src f.chan)
  let s1 := gtStep (field p 8 8 + (s.gt - cn)) src valid s
  { s1 with
    oxn := { s1.oxn with n := field p 0 8, cn := field p 8 8, plan := planOf (field p 16 1), planNext := none, judged := true }
    tim := { s1.tim with devs := [], prevDevs := [], prevA := 0, rateNext := none } }

/-- INTEGRATING towards a sender (R203, R212 item 1), from the next cycle boundary on (R36). Whether the cluster's epoch
is valid time of day the frame does not say. -/
def integrate (f : RxFrame) (e : SlotEntry) (s : State) : State :=
  if !refGood s then s else
  let h := frameHdr f.bytes
  let s1 := takeRef f e 1 (Config.freeBit s.free) { s with free := s.free + 1 }
  { s1 with oxn := { s1.oxn with
    netNext := some .integrating
    lead := none
    intRun := 0
    intFails := 0
    leader := if h.ftype = 0x31 then h.src else s1.oxn.leader } }

/-- A leader accepts a SYNC frame (R203): where its cycle, its C_n or its plan is not the leader's own, the leader takes
them; where they are, nothing differs but the deviation, which R216 to R219 correct (log entry 159). -/
def leadRef (f : RxFrame) (e : SlotEntry) (s : State) : State :=
  let p := framePay f.bytes
  if field p 0 8 = s.oxn.n && field p 8 8 = s.oxn.cn && planOf (field p 16 1) = s.oxn.plan then s
  else takeRef f e s.tim.epochSrc s.tim.valid s

/-- With both channels held retired, one that is observed for READMIT carries the plan's frames to the module, which
integrates on it (R200, Table 2.7). -/
def onlyObserved (s : State) (c : Chan) : Bool :=
  chRetired s .a && chRetired s .b && (chanOf s c).observe.isSome && inPlan s.oxn.plan c

/-- A valid sync or cold-start frame while the module keeps a cycle (R205, R206, R216): its deviation, its
fields, and whether it came as predicted. -/
def takeSync (f : RxFrame) (e : SlotEntry) (s : State) : State :=
  let probe := !hears s f.chan && !onlyObserved s f.chan
  let node := (frameHdr f.bytes).src
  let dev : Int := (f.sof : Int) - (s.oxn.cn + e.start * 100 + (planSched s).apOfsNs + delayOf s node f.chan : Nat)
  let isSync := (frameHdr f.bytes).ftype = 0x30
  let s1 := { s with oxn := { s.oxn with
    syncs := s.oxn.syncs ++ [syncRead node f.chan probe (framePay f.bytes)]
    hearNow := s.oxn.hearNow || (isSync && !probe && decide (dev.natAbs ≤ 1000))
    predOk := s.oxn.predOk || (!probe && decide (dev.natAbs ≤ 2000)) } }
  if probe || !isSync then s1
  else { s1 with tim := { s1.tim with devs := s1.tim.devs ++ [(node, f.chan, dev)] } }

/-- An integrating node adopts the plan of the frame it is about to accept, and its count restarts (R207). -/
def planFollow (f : RxFrame) (s : State) : State :=
  let p := planOf (field (framePay f.bytes) 16 1)
  if s.mod.tup.net ≠ .integrating || p = s.oxn.plan then s
  else { s with oxn := { s.oxn with plan := p, intRun := 0 } }

/-- A sync frame's payload is one of the present cycle from another node. -/
def syncOk (f : RxFrame) (s : State) : Bool :=
  syncPayOk (framePay f.bytes) && field (framePay f.bytes) 0 8 = s.oxn.n && (frameHdr f.bytes).src ≠ ownNode s

/-- The module listens for sync frames on a channel: it carries the plan and is in service, is observed for
READMIT, or carries probes (R192, R200). -/
def syncHears (s : State) (c : Chan) : Bool :=
  hears s c || (chanOf s c).observe.isSome || (!inPlan s.oxn.plan c && !chRetired s c)

/-- A sync or cold-start frame. -/
def rxSync (ftype : Nat) (f : RxFrame) (s : State) : State :=
  if !syncHears s f.chan then s else
  let s1 := noteLcrc f s
  let h := frameHdr f.bytes
  if h.ftype ≠ ftype || joins s then s1 else
  match s.mod.tup.net with
  | .passive => s1
  | .listen =>
    match startOk s f with
    | some e => integrate f e s1
    | none => listenAgain s1
  | .coldLead =>
    match startOk s f with
    | none => s1
    | some e =>
      if h.ftype = 0x31 then
        match rankOf s h.src, rankOf s (ownNode s) with
        | some a, some b => if a < b then integrate f e s1 else s1
        | _, _ => s1
      else leadRef f e (if (frameOk s f).isSome && syncOk f s then takeSync f e (noteHeard s1 f) else s1)
  | _ =>
    let s2 := planFollow f s
    match frameOk s2 f with
    | some e => if e.ftype = 0x30 && syncOk f s2 then takeSync f e (noteHeard (planFollow f s1) f) else s1
    | none => s1

/-- SYNC_FRAME (R203, R216). -/
def execSyncFrame (t : Nat) (f : RxFrame) (s : State) : Host.Outcome State Fault Refusal :=
  .next (rxSync 0x30 f (atT t s))

/-- COLDSTART_FRAME (R203, R204). -/
def execColdstartFrame (t : Nat) (f : RxFrame) (s : State) : Host.Outcome State Fault Refusal :=
  .next (rxSync 0x31 f (atT t s))

/-- Reserved bits of a VIEW payload are 0 (Tables 7.7 and 7.8). -/
def viewZeros (p : List Byte) : Bool :=
  zeros p 9 3 && decide (field p 8 1 < 4) && decide (field p 4 2 < 4096) && decide (field p 6 2 < 4096)

/-- VIEW_FRAME (R193): accepted when valid, VCRC is correct and VIEW_CYCLE names the previous cycle. -/
def execViewFrame (t : Nat) (f : RxFrame) (s0 : State) : Host.Outcome State Fault Refusal :=
  let s := atT t s0
  .next (if chRetired s f.chan then s else
    let s1 := noteFrame f s
    if !(keepsCycle s && hears s f.chan && (frameHdr f.bytes).ftype = 0x40) then s1 else
      match (frameOk s f).filter fun _ => viewZeros (framePay f.bytes) with
      | none => s1
      | some e =>
        let p := framePay f.bytes
        let s2 := noteHeard s1 f
        if p.length = 16 && field p 12 4 = crc32cFrom (0x56490000 + e.owner) (p.take 12)
            && decide (e.owner ∈ (runGen s).sched.judgeList)
            && field p 0 4 = (s.oxn.n + 2 ^ 32 - 1) % 2 ^ 32 && !(s.oxn.views.any (·.judge = e.owner)) then
          { s2 with oxn := { s2.oxn with
            views := s2.oxn.views ++ [⟨e.owner, field p 4 2, field p 6 2, field p 8 1⟩] } }
        else s2)

/-- OXN_SAFETY_TIMEOUT (R190): the connection's data turn invalid; written once for the transition. -/
def execOxnSafetyTimeout (t conn : Nat) (s0 : State) : Host.Outcome State Fault Refusal :=
  let s := atT t s0
  .next (match (rxConns s).find? (·.conn = conn) with
    | none => s
    | some c =>
      let k := connOf s conn
      if !connValid s c && !k.invalid then
        occur Code.oxnSafetyTimeout (Src.oxn c.station 0xFF) 0 { s with oxn := { s.oxn with
          conns := s.oxn.conns.map fun x => if x.conn = conn then { x with invalid := true } else x } }
      else s)

/-- LISTEN_TIMEOUT (R202, R204): a cold-start node takes COLDSTART-LEAD at the start of its first cycle,
⌊GT / T_oc⌋ + 2, unless it has accepted a frame by then. -/
def execListenTimeout (t : Nat) (s0 : State) : Host.Outcome State Fault Refusal :=
  let s := atT t s0
  .next (match rankOf s (ownNode s) with
    | none => s
    | some r =>
      if s.mod.tup.net = .listen && refGood s && s.mod.tup.run ≠ .boot && decide (0 < tOcNs s)
          && decide (s.oxn.listenAt + (4 + 2 * r) * tOcNs s ≤ s.gt) && !(chRetired s .a && chRetired s .b)
          && s.oxn.netNext = none then
        occur Code.oxnColdstart (oxnSrc s) 0 { s with oxn := { s.oxn with
          netNext := some .coldLead
          lead := some (s.gt / tOcNs s + 2)
          plan := if chRetired s .a then .narrowB else if chRetired s .b then .narrowA else .full
          leadCycles := 0
          leadRun := 0
          leader := ownNode s
          coldstarts := satInc 0xFF s.oxn.coldstarts } }
      else s)

/-- COLDSTART_ALONE (R205): still alone after 64 cycles. -/
def execColdstartAlone (t : Nat) (s0 : State) : Host.Outcome State Fault Refusal :=
  let s := atT t s0
  .next (if s.mod.tup.net = .coldLead && decide (64 ≤ s.oxn.leadCycles) && s.oxn.netNext = none then
    netListen s else s)

/-- INTEGRATION_FAIL (R206): 16 failed cycles in all. -/
def execIntegrationFail (t : Nat) (s0 : State) : Host.Outcome State Fault Refusal :=
  let s := atT t s0
  .next (if s.mod.tup.net = .integrating && decide (16 ≤ s.oxn.intFails) then netListen s else s)

/-- OXN_SYNC_LOST (R208, R222; LOSSES counts those under R222, Table 8.8): the module stops transmitting at once and
takes LISTEN at the next cycle boundary. -/
def execOxnSyncLost (t : Nat) (s0 : State) : Host.Outcome State Fault Refusal :=
  let s := atT t s0
  .next (if netUp s && (decide (4 ≤ s.oxn.noSync) || decide (2 ≤ s.tim.oobRun)) && s.oxn.netNext ≠ some .listen then
    occur Code.oxnSyncLost (oxnSrc s) 0 { s with
      oxn := { s.oxn with netNext := some .listen }
      tim := { s.tim with
        losses := if 2 ≤ s.tim.oobRun then satInc 0xFFFF s.tim.losses else s.tim.losses
        prevDevs := [], prevA := 0, rateNext := none } }
    else s)

/-- OXN_READMIT_FAIL (R200): no run of 64 cycles within 10 s. -/
def execOxnReadmitFail (t : Nat) (c : Chan) (s0 : State) : Host.Outcome State Fault Refusal :=
  let s := atT t s0
  .next (match (chanOf s c).observe with
    | some (t0, _) => if t0 + 10 * sec ≤ s.gt then
        occur Code.oxnReadmitFail (Src.oxn (ownNode s) (chanNum c)) 0
          (observeEnd c s) else s
    | none => s)

/-- A READMIT of a channel begins its observation (R200); a module PASSIVE for both retired listens again
(Table 2.7, R36). -/
def observeStart (c : Chan) (s : State) : State :=
  let s1 := updChan c (fun k => { k with observe := some (s.gt, 0) }) s
  if s1.mod.tup.net = .passive && s1.mod.tup.role ≠ .retired && refGood s1 then netListen s1 else s1

/-- An input point fed by a DATA slot can be received: its slot is in the plan that runs, on a channel in
service (R186). -/
def netReachable (s : State) (addr : Nat) : Bool :=
  (planSched s).slots.any fun e =>
    let cs := if s.oxn.plan = .full then [e.chan] else if s.oxn.plan = .narrowA then [.a] else [.b]
    e.ftype = 0x10 && e.owner ≠ 0xFFE && cs.any fun c => !chRetired s c
      && (packsOf s c e.slot).any (·.addr = addr)

/-- A point of a safety connection whose data are invalid (R190). -/
def safetyDead (s : State) (addr : Nat) : Bool :=
  (rxConns s).any fun c => (c.bitPoints.any (·.2 = addr) || c.wordPoints.any (·.2 = addr)) && !connValid s c

end Sys2Proof.Machine
end

