-- ==== Sys2Proof/Machine/Table.lean ====
section
/-! DEFINITION. The signed interlocking table as bytes (R147, Tables 5.9 to 5.14): what its records say. -/

namespace Sys2Proof.Machine

/-- Every member of a list that has them all. -/
def allSome {α : Type} : List (Option α) → Option (List α)
  | [] => some []
  | none :: _ => none
  | some a :: l => (allSome l).map (a :: ·)

/-- A source or binding reference (Table 5.14). -/
def refOf (w : Nat) : Ref := ⟨bits w 28 4, bits w 16 12, bits w 0 16⟩

/-- A number, absent where the field holds the code for none. -/
def orNone (none_ v : Nat) : Option Nat := if v = none_ then none else some v

/-- Element type of a code (Table 5.1). -/
def elemTypeOf : Nat → Option ElemType
  | 1 => some .breaker
  | 2 => some .disconnector
  | 3 => some .selector
  | 4 => some .earthing
  | 5 => some .node
  | _ => none

/-- Detection mode of an element's FLAGS (Table 5.10). -/
def detectOf : Nat → Option Detect
  | 0 => some .none
  | 1 => some .bin
  | 2 => some .ana
  | _ => none

/-- Permissive kind of a code (Table 5.4). -/
def permKindOf : Nat → Option PermKind
  | 1 => some .close
  | 2 => some .move
  | 3 => some .earth
  | 4 => some .pathState
  | _ => none

/-- An element record (Table 5.10); none where a field that must be 0 is not, or a code names nothing. -/
def elemRead (b : List Byte) : Option Elem :=
  match elemTypeOf (field b 8 1), detectOf (field b 9 1) with
  | some ty, some det =>
    let par := field b 24 4
    let ana := decide (det = .ana)
    let sel := decide (ty = .selector)
    if (ty ≠ .node && det ≠ .none) || (sel && decide (65536 ≤ par)) || (!sel && !ana && par ≠ 0) then none
    else some {
      key := field b 0 8
      ty := ty
      detect := det
      travel := field b 10 2 * 10000000
      node1 := orNone 0xFFFF (field b 12 2)
      node2 := orNone 0xFFFF (field b 14 2)
      node3 := if sel then some par else none
      srcA := refOf (field b 16 4)
      srcB := refOf (field b 20 4)
      deadUa := if ana then bits par 0 16 else 0
      liveUa := if ana then bits par 16 16 else 0
      status := orNone 0xFFFFFFFF (field b 28 4) }
  | _, _ => none

/-- n entries of the pool at an offset (Table 5.13), as index and position; none where one lies outside the pool or
its reserved byte is not 0. -/
def poolRead (pool : List Byte) (off n : Nat) : Option (List (Nat × Nat)) :=
  if pool.length < off + 4 * n then none
  else allSome ((List.range n).map fun i =>
    let b := (pool.drop (off + 4 * i)).take 4
    if zeros b 3 1 then some (field b 0 2, field b 2 1) else none)

/-- Entries that name paths; their POS is 0. -/
def pathEntries (l : List (Nat × Nat)) : Option (List Nat) :=
  if l.all fun e => e.2 = 0 then some (l.map (·.1)) else none

/-- A path record (Table 5.11) with its lists. -/
def pathRead (pool b : List Byte) : Option PathDef :=
  let nr := field b 14 1
  let nf := field b 15 1
  let off := field b 28 4
  match poolRead pool off (nr + nf + field b 16 1) with
  | none => none
  | some l =>
    match pathEntries (l.drop (nr + nf)) with
    | none => none
    | some cs =>
      if !(zeros b 17 1 && zeros b 26 2) then none
      else some {
        key := field b 0 8
        src := field b 8 2
        dst := field b 10 2
        closer := field b 12 2
        required := (l.take nr).map fun e => ⟨e.1, e.2⟩
        flank := ((l.drop nr).take nf).map fun e => ⟨e.1, e.2⟩
        conflicts := cs
        setTimeoutS := field b 18 2
        releaseMs := field b 20 4
        emergS := field b 24 2
        listOff := off
        reqAddr := field b 32 4
        status := orNone 0xFFFFFFFF (field b 36 4) }

/-- A permissive record (Table 5.12) with its list. -/
def permRead (pool b : List Byte) : Option PermDef :=
  let n := field b 6 1
  let off := field b 8 4
  match permKindOf (field b 0 1), (poolRead pool (if n = 0 then 0 else off) n).bind pathEntries with
  | some k, some l =>
    if !(decide (field b 1 1 < 2) && zeros b 7 1 && zeros b 20 4) then none
    else some {
      kind := k
      unreserved := decide (field b 1 1 = 1)
      target := field b 2 2
      pos := field b 4 1
      mask := field b 5 1
      paths := l
      listOff := off
      bind := refOf (field b 12 4)
      status := orNone 0xFFFFFFFF (field b 16 4) }
  | _, _ => none

/-- n records of a size at an offset. -/
def records (raw : List Byte) (off size n : Nat) : List (List Byte) :=
  (List.range n).map fun i => (raw.drop (off + size * i)).take size

/-- The table that bytes spell (Tables 5.9 to 5.14), with the outcome of its signature check; none where a record is
outside its table, or an array or the pool outside TABLE_BYTES. -/
def decodeTable (sigOk : Bool) (raw : List Byte) : Option IleTable :=
  let nE := field raw 16 2
  let nP := field raw 18 2
  let nM := field raw 20 2
  let eo := field raw 24 4
  let po := field raw 28 4
  let mo := field raw 32 4
  let lo := field raw 36 4
  let lb := field raw 40 4
  let n := field raw 12 4
  let within (off len : Nat) : Bool := decide (len = 0 ∨ (272 ≤ off ∧ off + len ≤ n))
  let pool := (raw.drop lo).take lb
  if raw.length ≠ n || !(within eo (32 * nE) && within po (40 * nP) && within mo (24 * nM) && within lo lb) then none
  else match allSome ((records raw eo 32 nE).map elemRead), allSome ((records raw po 40 nP).map (pathRead pool)),
      allSome ((records raw mo 24 nM).map (permRead pool)) with
    | some es, some ps, some ms => some {
        magic := field raw 0 4
        format := field raw 4 2
        gen := field raw 8 4
        bytes := n
        nElem := nE
        nPath := nP
        nPerm := nM
        elemOff := eo
        pathOff := po
        permOff := mo
        poolOff := lo
        poolBytes := lb
        keySlot := field raw 44 1
        sigOk := sigOk
        digestOk := decide (sha512 (raw.drop 272) = (raw.drop 64).take 64)
        reservedZero := zeros raw 6 2 && zeros raw 22 2 && zeros raw 45 19 && zeros raw 260 12
        raw := raw
        elems := es
        paths := ps
        perms := ms }
    | _, _, _ => none

/-- The bytes of a table under another generation number. -/
def rawNumber (num : Nat) (raw : List Byte) : List Byte := raw.take 8 ++ le 4 num ++ raw.drop 12

end Sys2Proof.Machine
end

