-- ==== Sys2Proof/Machine/Ile.lean ====
section
/-! DEFINITION. The interlocking model (chapter 5): detection, reservations, the path state machine,
permissives, operator commands, status values, and the table change of R115 and R116. It is evaluated on
agreed readings, as each lane does. -/

namespace Sys2Proof.Machine

/-- A path that is FREE with every latch clear. -/
def pathFree : PathDyn := ⟨.free, 0, 0, 0, 0, false, false, false, false, false⟩

/-- An element not yet detected. -/
def elemNone : ElemDyn := ⟨.unknown, false, false, true, 0, 0, 0, false⟩

/-- Dynamic state of a cold start (R165). -/
def dynCold (t : IleTable) (blocked : List Nat) : IleDyn :=
  ⟨t.paths.map fun _ => pathFree, t.elems.map fun _ => elemNone, blocked, [], []⟩

/-- An element record outside the table. -/
def elemAbsent : Elem := ⟨0, .node, .none, 0, none, none, none, ⟨0, 0, 0⟩, ⟨0, 0, 0⟩, 0, 0, none⟩

/-- Element i of a table. -/
def elemAt (t : IleTable) (i : Nat) : Elem := t.elems.getD i elemAbsent

/-! ### Detection -/

/-- The agreed reading of a source; a source without one is invalid. -/
def readOf (rs : List (Ref × Reading)) (r : Ref) : Reading :=
  match rs.find? (·.1 = r) with
  | some p => p.2
  | none => ⟨0, false⟩

/-- A contact's value: a boundary element carries contact a in bit 0 and contact b in bit 1 (R171). -/
def contact (rs : List (Ref × Reading)) (r : Ref) (isB : Bool) : Bool × Bool :=
  let x := readOf rs r
  if r.kind = 6 then (x.val.toNat.testBit (b2n isB), x.valid) else (decide (x.val ≠ 0), x.valid)

/-- One element's detected position and fault at the start `cn` of cycle n (R125, R127). `combo`: 0 proved,
1 both 0, 2 both 1, 3 invalid. DESIGN CHOICE (log 184): the contact bits of a node without contacts. -/
def detectElem (rs : List (Ref × Reading)) (n cn : Nat) (e : Elem) (d : ElemDyn) : ElemDyn :=
  if e.ty = .node && e.detect = .none then { elemNone with since := cn, sinceN := n }
  else if e.ty = .node && e.detect = .ana then
    let x := readOf rs e.srcA
    let ok := x.valid && decide (3800000 ≤ x.val ∧ x.val ≤ 20500000)
    let p : Pos := if !ok then .unknown else if x.val < (e.deadUa : Int) * 1000 then .a
      else if (e.liveUa : Int) * 1000 ≤ x.val then .b else .unknown
    ⟨p, p = .a, p = .b, !x.valid, 0, cn, n, false⟩
  else
    let a := contact rs e.srcA false
    let b := contact rs e.srcB true
    let inv := !a.2 || !b.2
    let combo := if inv then 3 else if a.1 && b.1 then 2 else if !a.1 && !b.1 then 1 else 0
    let since := if combo = d.combo then d.since else cn
    let fault := combo = 2 || (combo ≠ 0 && decide (since + e.travel ≤ cn))
    let p : Pos := if combo ≠ 0 then .unknown else if a.1 then .a else .b
    ⟨p, a.1, b.1, inv, combo, since, if combo = d.combo then d.sinceN else n, fault⟩

/-- Every element of a table. -/
def detectAll (rs : List (Ref × Reading)) (n cn : Nat) (es : List Elem) (ds : List ElemDyn) : List ElemDyn :=
  (es.zip (List.range es.length)).map fun p => detectElem rs n cn p.1 (ds.getD p.2 elemNone)

/-- The elements of a former table with the detection parameters that the table in use gives those it still has:
TRAVEL, DEAD_UA and LIVE_UA are of class ONLINE (Table 4.2) and no path carries them (R115). -/
def withParams (t old : IleTable) : List Elem :=
  old.elems.map fun e => match t.elems.find? fun x => x.key = e.key && x.ty = e.ty && x.detect = e.detect with
    | some x => { e with travel := x.travel, deadUa := x.deadUa, liveUa := x.liveUa }
    | none => e

/-- Detected position of element i. -/
def posOf (ds : List ElemDyn) (i : Nat) : Pos := (ds.getD i elemNone).pos

/-- Position of a reservation number: 1 A, 2 B. -/
def posNum : Pos → Nat
  | .unknown => 0
  | .a => 1
  | .b => 2

/-! ### Paths and reservations -/

/-- Nodes of an element. -/
def elemNodes (e : Elem) : List Nat := [e.node1, e.node2, e.node3].filterMap id

/-- Nodes of a path (R130): its ends and every node of its closer and required elements. -/
def pathNodes (t : IleTable) (p : PathDef) : List Nat :=
  (p.src :: p.dst :: elemNodes (elemAt t p.closer) ++ p.required.flatMap fun q => elemNodes (elemAt t q.elem)).eraseDups

/-- Earthing switches on a path's nodes, held OPEN (R130). -/
def implicitFlank (t : IleTable) (p : PathDef) : List Posn :=
  let ns := pathNodes t p
  (t.elems.zip (List.range t.elems.length)).filterMap fun q =>
    match q.1.ty, q.1.node1 with
    | .earthing, some n => if n ∈ ns then some ⟨q.2, 1⟩ else none
    | _, _ => none

/-- Elements a path reserves in a position. -/
def posReserved (t : IleTable) (p : PathDef) : List Posn := p.required ++ p.flank ++ implicitFlank t p

/-- A path's reservations as (element key, position), 0 for the closer's exclusive one. -/
def reservations (t : IleTable) (p : PathDef) : List (Nat × Nat) :=
  ((elemAt t p.closer).key, 0) :: (posReserved t p).map fun q => ((elemAt t q.elem).key, q.pos)

/-- Two reservations are compatible (R130). -/
def compat (a b : Nat × Nat) : Bool := a.1 ≠ b.1 || (a.2 = b.2 && a.2 ≠ 0)

/-- Positions proved (R130). -/
def provedBy (t : IleTable) (ds : List ElemDyn) (p : PathDef) : Bool :=
  (posReserved t p).all fun q => decide (posNum (posOf ds q.elem) = q.pos)

/-- Two paths conflict: listed, or by reservations (R131). -/
def pathsConflict (t : IleTable) (i j : Nat) (p q : PathDef) : Bool :=
  decide (j ∈ p.conflicts) || decide (i ∈ q.conflicts)
    || (reservations t p).any fun a => (reservations t q).any fun b => !compat a b

/-- Release delay of a path in RELEASING, ns. -/
def releaseNs (p : PathDef) (d : PathDyn) : Nat := if d.emerg then p.emergS * sec else p.releaseMs * ms

/-- One transition of Table 5.3, with the codes it writes. `req`: request present; `adm`: admissible;
`proved`: positions proved; `clo`: the closer's detected position; `dst`: the destination's; `n` and `cn` the cycle and
its start. -/
def pathMove (p : PathDef) (req adm proved : Bool) (clo dst : Pos) (n cn : Nat) (d0 : PathDyn) :
    PathDyn × List Nat :=
  let d := if req then d0 else { d0 with timeout := false }
  match d.st with
  | .free =>
    if req && !d.timeout && adm && proved && clo = .b then
      ({ d with st := .locked, adopted := true }, [Code.ilePathAdopted])
    else if req && !d.timeout && adm then ({ d with st := .requested, setStart := cn, setN := n, afterSet := false }, [])
    else (d, [])
  | .requested =>
    if !req then ({ d with st := .free }, [])
    else if d.setStart + p.setTimeoutS * sec ≤ cn then ({ d with st := .free, timeout := true }, [Code.ileSetTimeout])
    else if proved && clo = .a then ({ d with st := .set }, [])
    else (d, [])
  | .set =>
    if clo ≠ .a then ({ d with st := .locked }, [])
    else if !req then ({ d with st := .free }, [])
    else if !proved then
      ({ d with st := .requested, setStart := cn, setN := n, afterSet := true }, [Code.ilePositionLost])
    else (d, [])
  | .locked =>
    if dst ≠ .a then ({ d with st := .energised }, [])
    else if !req && clo = .a then ({ d with st := .releasing, relStart := cn, relN := n }, [])
    else (d, [])
  | .energised => if dst = .a then ({ d with st := .locked }, []) else (d, [])
  | .releasing =>
    if dst ≠ .a && !d.emerg then ({ d with st := .energised, emerg := false }, [])
    else if clo ≠ .a || req then ({ d with st := .locked, emerg := false }, [])
    else if d.relStart + releaseNs p d ≤ cn then ({ d with st := .free, emerg := false, adopted := false }, [])
    else (d, [])

/-- LOCKED or ENERGISED. -/
def holdsPath (st : PathSt) : Bool := st = .locked || st = .energised

/-- R135: positions first found unproved while the path is LOCKED or ENERGISED. -/
def noteLost (proved : Bool) (r : PathDyn × List Nat) : PathDyn × List Nat :=
  if holdsPath r.1.st && !proved then
    ({ r.1 with lost := true }, if r.1.lost then r.2 else r.2 ++ [Code.ilePositionLost])
  else ({ r.1 with lost := false }, r.2)

/-- One path's evaluation in a cycle. -/
def pathStep (t : IleTable) (ds : List ElemDyn) (p : PathDef) (req adm : Bool) (n cn : Nat) (d : PathDyn) :
    PathDyn × List Nat :=
  let pr := provedBy t ds p
  noteLost pr (pathMove p req adm pr (posOf ds p.closer) (posOf ds p.dst) n cn d)

/-- Path definition of a table, by index. -/
def pathAt (t : IleTable) (i : Nat) : PathDef :=
  t.paths.getD i ⟨0, 0, 0, 0, [], [], [], 1, 0, 10, 0, 0, none⟩

/-- Carried definition of a path key, with its state. -/
def carriedOf (old : IleTable) (d : IleDyn) (key : Nat) : Option (PathDef × PathDyn) :=
  (d.carried.find? fun c => (pathAt old c.idx).key = key).map fun c => (pathAt old c.idx, c.dyn)

/-- Reservations in force, each with the path that holds it: (key, position, state, closer open, path key). -/
structure Hold where
  key : Nat
  pos : Nat
  st : PathSt
  closerOpen : Bool
  path : Nat
deriving DecidableEq, Repr, Inhabited

/-- Reservations of one path that is not FREE. -/
def holdsOf (t : IleTable) (ds : List ElemDyn) (p : PathDef) (d : PathDyn) : List Hold :=
  if d.st = .free then []
  else (reservations t p).map fun r => ⟨r.1, r.2, d.st, posOf ds p.closer = .a, p.key⟩

/-- Every reservation in force (R130). -/
def allHolds (t old : IleTable) (d : IleDyn) : List Hold :=
  (d.carried.flatMap fun c => holdsOf old d.oldElems (pathAt old c.idx) c.dyn)
    ++ ((d.paths.zip (List.range d.paths.length)).flatMap fun q => holdsOf t d.elems (pathAt t q.2) q.1)

/-- A path conflicts with a carried path under either definition (R116). -/
def carriedConflict (t old : IleTable) (d : IleDyn) (i : Nat) : Bool :=
  let p := pathAt t i
  d.carried.any fun c =>
    let q := pathAt old c.idx
    q.key ≠ p.key &&
      (((reservations t p).any fun a => (reservations old q).any fun b => !compat a b)
        || ((t.paths.zip (List.range t.paths.length)).any fun x => x.1.key = q.key && pathsConflict t i x.2 p x.1)
        || ((old.paths.zip (List.range old.paths.length)).any fun x => x.1.key = p.key
            && pathsConflict old x.2 c.idx x.1 q))

/-- A path and a carried path conflict by the conflict set of either, in either table (R131, R116). -/
def carriedListed (t old : IleTable) (d : IleDyn) (i : Nat) : Bool :=
  let p := pathAt t i
  let lists (tb : IleTable) (a b : Nat) : Bool := (tb.paths.zip (List.range tb.paths.length)).any fun x =>
    x.1.key = a && x.1.conflicts.any fun j => (pathAt tb j).key = b
  d.carried.any fun c =>
    let k := (pathAt old c.idx).key
    k ≠ p.key && c.dyn.st ≠ .free && (lists t p.key k || lists t k p.key || lists old p.key k || lists old k p.key)

/-- Why a path is not admissible (R130, R116), as codes of Table 5.7: 1 conflict, 2 reserved, 3 blocked, 6
carried; empty when it is. DEDUCED (log 183): CONFLICT is the conflict set only. -/
def inadmissible (t old : IleTable) (d : IleDyn) (i : Nat) : List Nat :=
  let p := pathAt t i
  let rs := reservations t p
  let holds := (allHolds t old d).filter (·.path ≠ p.key)
  let conf := (d.paths.zip (List.range d.paths.length)).any fun q =>
    q.2 ≠ i && q.1.st ≠ .free && (decide (q.2 ∈ p.conflicts) || decide (i ∈ (pathAt t q.2).conflicts))
  (if conf || carriedListed t old d i then [1] else [])
    ++ (if holds.any fun h => rs.any fun r => !compat r (h.key, h.pos) then [2] else [])
    ++ (if rs.any fun r => decide (r.1 ∈ d.blocked) then [3] else [])
    ++ (if (carriedOf old d p.key).isSome || carriedConflict t old d i then [6] else [])

/-- Evaluate path i against the state as it stands (R132 step 3). A path whose key is carried does not run
under the table in use (R116). -/
def evalPath (t old : IleTable) (reqs : Nat → Bool) (n cn : Nat) (a : IleDyn × List (Nat × Nat)) (i : Nat) :
    IleDyn × List (Nat × Nat) :=
  let d := a.1
  if (carriedOf old d (pathAt t i).key).isSome then a
  else
    let r := pathStep t d.elems (pathAt t i) (reqs i) (inadmissible t old d i).isEmpty n cn (d.paths.getD i pathFree)
    ({ d with paths := updAt d.paths i fun _ => r.1 }, a.2 ++ r.2.map fun c => (c, i))

/-- A carried path's request: the request point that the table in use gives its key (R115). -/
def carriedReq (t : IleTable) (reqs : Nat → Bool) (key : Nat) : Bool :=
  let i := t.paths.findIdx (·.key = key)
  decide (i < t.paths.length) && reqs i

/-- Keys of the paths carried. -/
def carriedKeys (old : IleTable) (d : IleDyn) : List Nat := d.carried.map fun c => (pathAt old c.idx).key

/-- The table's path of a key takes over the TIMEOUT latch of the carried path that has reached FREE. -/
def handLatch (t : IleTable) (key : Nat) (timeout : Bool) (ps : List PathDyn) : List PathDyn :=
  let i := t.paths.findIdx (·.key = key)
  if i < t.paths.length then updAt ps i fun x => { x with timeout := timeout } else ps

/-- Evaluate the carried paths, in ascending index of their own table; one that reaches FREE is carried no
longer. -/
def evalCarried (t old : IleTable) (reqs : Nat → Bool) (n cn : Nat) (d : IleDyn) : IleDyn × List (Nat × Nat) :=
  let r := d.carried.map fun c =>
    let p := pathAt old c.idx
    (c.idx, pathStep old d.oldElems p (carriedReq t reqs p.key) false n cn c.dyn)
  let keep := (r.filter fun x => x.2.1.st ≠ .free).map fun x => (⟨x.1, x.2.1⟩ : Carried)
  let freed := r.filter fun x => x.2.1.st = .free
  ({ d with
     carried := keep
     paths := freed.foldl (fun ps x => handLatch t (pathAt old x.1).key x.2.1.timeout ps) d.paths },
   (r.flatMap fun x => x.2.2.map fun c => (c, x.1))
     ++ freed.map fun x => (Code.pathCarried, x.1))

/-! ### Permissives -/

/-- State of path i for permissives and status: its carried state under its own definition where it has
one. -/
def pathView (t old : IleTable) (d : IleDyn) (i : Nat) : PathDyn × Bool × Bool × Pos :=
  match carriedOf old d (pathAt t i).key with
  | some c => (c.2, true, provedBy old d.oldElems c.1, posOf d.oldElems c.1.closer)
  | none => (d.paths.getD i pathFree, false, provedBy t d.elems (pathAt t i), posOf d.elems (pathAt t i).closer)

/-- State code (Table 5.6). -/
def stCode : PathSt → Nat
  | .free => 0
  | .requested => 1
  | .set => 2
  | .locked => 3
  | .energised => 4
  | .releasing => 5

/-- An element isolates a node that it connects to (R129). -/
def isolates (e : Elem) (p : Pos) (node : Nat) : Bool :=
  match e.ty with
  | .breaker => p = .a
  | .disconnector => p = .a
  | .selector =>
    if e.node1 = some node then false
    else (e.node2 ≠ some node || p = .b) && (e.node3 ≠ some node || p = .a)
  | _ => true

/-- An element connects to a node (R129); a boundary element's dummy element connects none (R171). -/
def connects (e : Elem) (node : Nat) : Bool :=
  decide (node ∈ elemNodes e) && !(e.srcA.kind = 6 && e.node1 = e.node2)

/-- One permissive in a cycle (Table 5.4, R145, R166). -/
def permGranted (t old : IleTable) (reqs : Nat → Bool) (hold : Bool) (d : IleDyn) (holds : List Hold) (p : PermDef) :
    Bool :=
  let e := elemAt t p.target
  let at_ := posOf d.elems p.target
  let mine := holds.filter (·.key = e.key)
  let blocked := decide (e.key ∈ d.blocked)
  match p.kind with
  | .close => p.paths.any fun i =>
      let v := pathView t old d i
      (v.1.st = .set || holdsPath v.1.st) && reqs i && v.2.2.1
  | .pathState => p.paths.any fun i => p.mask.testBit (stCode (pathView t old d i).1.st)
  | .move =>
    !blocked && decide (posNum at_ ≠ p.pos) &&
      ((e.ty = .earthing && p.pos = 1)
        || (!mine.isEmpty && mine.all fun h => h.st = .requested && h.pos = p.pos && h.closerOpen)
        || (mine.isEmpty && p.unreserved && !hold && (elemNodes e).all fun n => posOf d.elems n = .a))
  | .earth =>
    !blocked && mine.isEmpty && !hold &&
      match e.node1 with
      | none => false
      | some n => posOf d.elems n = .a
        && (t.elems.zip (List.range t.elems.length)).all fun q =>
          !(q.1.ty = .breaker || q.1.ty = .disconnector || q.1.ty = .selector) || !connects q.1 n
            || isolates q.1 (posOf d.elems q.2) n

/-- Every permissive (R138). -/
def permVector (t old : IleTable) (reqs : Nat → Bool) (hold : Bool) (d : IleDyn) : List Bool :=
  let holds := allHolds t old d
  t.perms.map (permGranted t old reqs hold d holds)

/-! ### Operator commands -/

/-- INDEX and KEY of a command name an element of the table. -/
def namesElem (t : IleTable) (b : OpBody) : Bool :=
  decide (b.index < t.elems.length) && (elemAt t b.index).key = b.key

/-- INDEX and KEY of a command name a path of the table. -/
def namesPath (t : IleTable) (b : OpBody) : Bool :=
  decide (b.index < t.paths.length) && (pathAt t b.index).key = b.key

/-- The result of an operator command and the dynamic state after it (R137, R144, R145, R146). CMD: 1 BLOCK,
2 UNBLOCK, 3 EMERG_RELEASE, which is VOID_TYPE when its INDEX and KEY name an element and no path (log entry 157). -/
def opApply (t old : IleTable) (reqs : Nat → Bool) (n cn : Nat) (d : IleDyn) (o : IleOp) : IleDyn × Status :=
  let i := o.body.index
  if o.cmd = 3 then
    if o.void then (d, .voidState)
    else if !namesPath t o.body then (d, if namesElem t o.body then .voidType else .voidKey)
    else
      let v := pathView t old d i
      if holdsPath v.1.st && v.2.2.2 = .a && !reqs i then
        let go (x : PathDyn) : PathDyn := { x with st := .releasing, emerg := true, relStart := cn, relN := n }
        if v.2.1 then
          ({ d with carried := d.carried.map fun c =>
            if (pathAt old c.idx).key = o.body.key then { c with dyn := go c.dyn } else c }, .ok)
        else ({ d with paths := updAt d.paths i go }, .ok)
      else (d, .voidState)
  else
    if !namesElem t o.body then (d, .voidKey)
    else if (elemAt t i).ty = .node then (d, .voidType)
    else if o.cmd = 1 then
      ({ d with blocked := if o.body.key ∈ d.blocked then d.blocked else d.blocked ++ [o.body.key] }, .ok)
    else ({ d with blocked := d.blocked.filter (· ≠ o.body.key) }, .ok)

/-- Result code of a command for ILE_OPERATOR. -/
def opCode : Status → Nat
  | .voidKey => 1
  | .voidType => 2
  | .voidState => 3
  | _ => 0

/-! ### One cycle -/

/-- What one evaluation gives. -/
structure EvalOut where
  dyn : IleDyn
  vec : List Bool
  events : List (Nat × Nat)
  ops : List (IleOp × Status)
deriving DecidableEq, Repr, Inhabited

/-- Detection faults that rise in this cycle (R125): the element had none, or both contacts have closed upon another
combination, which is a fault of its own at once. -/
def newFaults (es : List Elem) (before after : List ElemDyn) (skip : Elem → Bool) : List (Nat × Nat) :=
  (es.zip (List.range es.length)).filterMap fun p =>
    let b := before.getD p.2 elemNone
    let a := after.getD p.2 elemNone
    if a.fault && (!b.fault || a.combo ≠ b.combo) && !skip p.1 then some (Code.ileDetectFault, p.2) else none

/-- Keys of the elements that a path uses: those it reserves and its nodes. -/
def usedKeys (t : IleTable) (p : PathDef) : List Nat :=
  (reservations t p).map (·.1) ++ (pathNodes t p).map fun n => (elemAt t n).key

/-- The old table's elements while paths are carried; one that the table in use has removed stays evaluated until no
carried path uses it (R115). -/
def detectOld (t old : IleTable) (rs : List (Ref × Reading)) (n cn : Nat) (d : IleDyn) : List ElemDyn :=
  let used := d.carried.flatMap fun c => usedKeys old (pathAt old c.idx)
  ((detectAll rs n cn (withParams t old) d.oldElems).zip old.elems).map fun x =>
    if t.elems.any (·.key = x.2.key) || used.contains x.2.key then x.1 else elemNone

/-- Steps 1 to 4 of R132 on agreed readings, in the cycle n that starts at `cn`. -/
def evaluate (t old : IleTable) (rs : List (Ref × Reading)) (reqs : Nat → Bool) (ops : List IleOp) (hold : Bool)
    (n cn : Nat) (d : IleDyn) : EvalOut :=
  let es := detectAll rs n cn t.elems d.elems
  let oes := if d.carried.isEmpty then [] else detectOld t old rs n cn d
  let d1 := { d with elems := es, oldElems := oes }
  let ev1 := newFaults t.elems d.elems es (fun _ => false)
    ++ newFaults old.elems d.oldElems oes (fun e => t.elems.any (·.key = e.key))
  let r := ops.foldl (fun (a : IleDyn × List (IleOp × Status)) o =>
    let x := opApply t old reqs n cn a.1 o
    (x.1, a.2 ++ [(o, x.2)])) (d1, [])
  let c := evalCarried t old reqs n cn r.1
  let p := ((List.range t.paths.length).filter fun i => !(carriedKeys old r.1).contains (pathAt t i).key).foldl
    (evalPath t old reqs n cn) c
  let d2 := { p.1 with oldElems := if p.1.carried.isEmpty then [] else p.1.oldElems }
  ⟨d2, permVector t old reqs hold d2, ev1 ++ p.2, r.2⟩

/-! ### Status points -/

/-- A value in the layout of Table 5.6. -/
def ileValue (kind index st reason flags remain : Nat) : DWord :=
  BitVec.ofNat 64 (kind + 2 ^ 8 * index + 2 ^ 24 * st + 2 ^ 32 * reason + 2 ^ 40 * flags + 2 ^ 48 * remain)

/-- A remaining time in units of 100 ms, rounded up, in 16 bits. -/
def remain100 (limit start now : Nat) : Nat := Min.min 0xFFFF ((start + limit - now + 99999999) / 100000000)

/-- Reason codes of a path that apply (Table 5.7). -/
def reasons (t old : IleTable) (reqs : Nat → Bool) (d : IleDyn) (i : Nat) (withdrawn : Bool) : List Nat :=
  let v := pathView t old d i
  let st := v.1.st
  let req := reqs i
  let inad := inadmissible t old d i
  (if st = .free && req then inad.filter (· ≠ 6) else [])
    ++ (if st = .free && v.1.timeout then [4] else [])
    ++ (if (st = .requested && v.1.afterSet) || (holdsPath st && !v.2.2.1) then [5] else [])
    ++ (if v.2.1 || (st = .free && req && decide (6 ∈ inad)) then [6] else [])
    ++ (if st = .requested && !v.2.2.1 then [7] else [])
    ++ (if st = .requested && v.2.2.1 && v.2.2.2 ≠ .a then [8] else [])
    ++ (if st = .energised && !req && v.2.2.2 = .a then [9] else [])
    ++ (if holdsPath st && !req && v.2.2.2 ≠ .a then [10] else [])
    ++ (if withdrawn then [11] else [])

/-- The lowest of a list, 0 when empty. -/
def lowest (l : List Nat) : Nat := l.foldl (fun a b => if a = 0 ∨ b < a then b else a) 0

/-- Status VALUE of path i (Tables 5.6 and 5.7). -/
def pathStatus (t old : IleTable) (reqs : Nat → Bool) (d : IleDyn) (now : Nat) (withdrawn : Bool) (i : Nat) : DWord :=
  let v := pathView t old d i
  let p := match carriedOf old d (pathAt t i).key with | some c => c.1 | none => pathAt t i
  let rem := match v.1.st with
    | .requested => remain100 (p.setTimeoutS * sec) v.1.setStart now
    | .releasing => remain100 (releaseNs p v.1) v.1.relStart now
    | _ => 0
  ileValue 2 i (stCode v.1.st) (if withdrawn then 11 else lowest (reasons t old reqs d i withdrawn))
    (2 * b2n v.2.1 + 4 * b2n v.1.emerg + 8 * b2n withdrawn + 16 * b2n v.1.timeout + 32 * b2n v.1.adopted) rem

/-- Status VALUE of element i. -/
def elemStatus (t : IleTable) (d : IleDyn) (withdrawn : Bool) (i : Nat) : DWord :=
  let x := d.elems.getD i elemNone
  ileValue 3 i (posNum x.pos) (b2n x.ca + 2 * b2n x.cb + 4 * b2n x.invalid + 8 * b2n x.fault)
    (b2n (decide ((elemAt t i).key ∈ d.blocked)) + 8 * b2n withdrawn) 0

/-- Status VALUE of permissive i. -/
def permStatus (granted : List Bool) (withdrawn : Bool) (i : Nat) : DWord :=
  ileValue 4 i (b2n (granted.getD i false)) 0 (8 * b2n withdrawn) 0

/-! ### Requests (R142) -/

/-- A request point's content: 0 absent, 1 present, 2 malformed. -/
def reqKind (v : DWord) (i : Nat) : Nat :=
  if v.toNat = 1 + 2 ^ 8 * i + 2 ^ 24 then 1
  else if v.toNat = 0 ∨ v.toNat = 1 + 2 ^ 8 * i then 0
  else 2

/-! ### State digest -/

/-- The definition of a path, as the carried definitions of the digest have it: its keys, lists and limits. -/
def pathDefBytes (t : IleTable) (p : PathDef) : List Byte :=
  let key (i : Nat) : List Byte := le 8 (elemAt t i).key
  le 8 p.key ++ key p.src ++ key p.dst ++ key p.closer
    ++ ((p.required ++ p.flank).map fun q => key q.elem ++ le 1 q.pos).flatten
    ++ (p.conflicts.map fun i => le 8 (pathAt t i).key).flatten
    ++ le 2 p.setTimeoutS ++ le 4 p.releaseMs ++ le 2 p.emergS

/-- The dynamic state in the model's canonical form, numbers in table order (log entry 18): path states, latches, and
timers as the cycles in which they started; detected positions; the blocked set; the carried paths with their
definitions; and the reservations in force. -/
def dynBytes (t old : IleTable) (d : IleDyn) : List Byte :=
  let path (p : PathDyn) : List Byte := le 1 (stCode p.st) ++ le 8 p.setN ++ le 8 p.relN
    ++ le 1 (b2n p.emerg + 2 * b2n p.adopted + 4 * b2n p.timeout + 8 * b2n p.lost + 16 * b2n p.afterSet)
  let elem (e : ElemDyn) : List Byte := le 1 (posNum e.pos) ++ le 1 e.combo ++ le 8 e.sinceN
  (d.paths.map path).flatten ++ (d.elems.map elem).flatten ++ (d.blocked.map (le 8)).flatten
    ++ (d.carried.map fun c => le 4 c.idx ++ path c.dyn ++ pathDefBytes old (pathAt old c.idx)).flatten
    ++ (d.oldElems.map elem).flatten
    ++ ((allHolds t old d).map fun h => le 8 h.key ++ le 1 h.pos ++ le 8 h.path).flatten

/-- The 64-bit state digest (Table 6.3). -/
def dynDigest (t old : IleTable) (d : IleDyn) : Nat := crc64 (dynBytes t old d)

/-! ### Table change (R106, R115) -/

/-- Two path definitions agree in what R115 compares: required and flank positions, explicit or implicit,
and conflict set, all by key. -/
def samePath (t old : IleTable) (p q : PathDef) : Bool :=
  let keyed (tb : IleTable) (l : List Posn) := l.map fun x => ((elemAt tb x.elem).key, x.pos)
  let sub (a b : List (Nat × Nat)) := a.all fun x => decide (x ∈ b)
  let eqv (a b : List (Nat × Nat)) := sub a b && sub b a
  let conf (tb : IleTable) (l : List Nat) := l.map fun i => ((pathAt tb i).key, 0)
  eqv (keyed t p.required) (keyed old q.required)
    && eqv (keyed t (p.flank ++ implicitFlank t p)) (keyed old (q.flank ++ implicitFlank old q))
    && eqv (conf t p.conflicts) (conf old q.conflicts)

/-- Path i of the old table is affected by the new one (R115). -/
def pathAffected (new old : IleTable) (q : PathDef) : Bool :=
  match new.paths.find? (·.key = q.key) with
  | none => true
  | some p => !samePath new old p q || (usedKeys old q).any fun k => !(new.elems.any (·.key = k))

/-- Dynamic state under the new table (R115, R145): affected paths that are not FREE are carried; others keep
their state; new ones are FREE; blocks on removed elements are dropped. A path that is carried under an earlier
table `prev` when the table changes again, which only a revert to `prev` can do (R118, R122), runs on as the
path of its key, and is carried no longer. The VALUE of PATH_CARRIED is the path's index in the table whose
definition it is carried under (log entry 155). -/
def tableSwitch (new old prev : IleTable) (d : IleDyn) : IleDyn × List (Nat × Nat) :=
  let ps := old.paths.zip (List.range old.paths.length)
  let carried := ps.filterMap fun q =>
    let x := d.paths.getD q.2 pathFree
    if x.st ≠ .free && pathAffected new old q.1 then some (⟨q.2, x⟩ : Carried) else none
  let idxOf (l : List Nat) (k : Nat) : Option Nat :=
    let i := l.findIdx (· = k)
    if i < l.length then some i else none
  let oldKeys := old.paths.map (·.key)
  let oldElem := old.elems.map (·.key)
  let prevElem := prev.elems.map (·.key)
  let paths := new.paths.map fun p =>
    match carriedOf prev d p.key, idxOf oldKeys p.key with
    | some c, _ => c.2
    | none, some i => if pathAffected new old (pathAt old i) then
        { pathFree with timeout := (d.paths.getD i pathFree).timeout }
      else d.paths.getD i pathFree
    | none, none => pathFree
  let elems := new.elems.map fun e =>
    match idxOf oldElem e.key, idxOf prevElem e.key with
    | some i, _ => d.elems.getD i elemNone
    | none, some i => d.oldElems.getD i elemNone
    | none, none => elemNone
  let kept := d.blocked.filter fun k => new.elems.any (·.key = k)
  let dropped := d.blocked.filter fun k => !(new.elems.any (·.key = k))
  (⟨paths, elems, kept, carried, if carried.isEmpty then [] else d.elems⟩,
   ((d.carried ++ carried).map fun c => (Code.pathCarried, c.idx))
     ++ dropped.map fun k => (Code.ileBlockDropped, (idxOf oldElem k).getD 0))

/-! ### Table checks (R148) -/

/-- Whether a list has no repeat. -/
def distinct (l : List Nat) : Bool := l.eraseDups.length = l.length

/-- A source reference is legal for its use: binary kinds 1, 2, 6; analog kinds 3, 4. -/
def refOk (ana : Bool) (r : Ref) : Bool :=
  if ana then (r.kind = 3 && decide (r.node < 1024 ∧ r.pos < 60)) || (r.kind = 4 && r.node = 0 && decide (r.pos < 4))
  else (r.kind = 1 && decide (r.node < 1024 ∧ r.pos < 1920)) || (r.kind = 2 && r.node = 0 && decide (r.pos < 24))
    || (r.kind = 6 && r.node = 0 && decide (r.pos < 65536))

/-- A node index names a NODE element. -/
def isNode (t : IleTable) (n : Option Nat) : Bool :=
  match n with
  | some i => decide (i < t.elems.length) && (elemAt t i).ty = .node
  | none => false

/-- An element record is within Table 5.10. -/
def elemOk (t : IleTable) (e : Elem) : Bool :=
  let noRef (r : Ref) := r = ⟨0, 0, 0⟩
  if e.ty = .node then
    e.travel = 0 && e.node1 = none && e.node2 = none && e.node3 = none &&
      match e.detect with
      | .none => noRef e.srcA && noRef e.srcB
      | .bin => refOk false e.srcA && refOk false e.srcB
      | .ana => refOk true e.srcA && noRef e.srcB
        && decide (3800 ≤ e.deadUa ∧ e.deadUa < e.liveUa ∧ e.liveUa ≤ 20500)
  else
    e.detect = .none && decide (100000000 ≤ e.travel ∧ e.travel ≤ 60000000000) && refOk false e.srcA
      && refOk false e.srcB && isNode t e.node1
      && (if e.ty = .earthing then e.node2 = none else isNode t e.node2)
      && (if e.ty = .selector then isNode t e.node3 else e.node3 = none)
      && (if e.srcA.kind = 6 || e.srcB.kind = 6 then e.ty = .disconnector && e.srcA = e.srcB && e.node1 = e.node2
          else true)

/-- A path record is within Table 5.11 and names elements of the right types. -/
def pathOk (t : IleTable) (p : PathDef) : Bool :=
  let named (q : Posn) : Bool := decide (q.elem < t.elems.length ∧ (q.pos = 1 ∨ q.pos = 2))
    && (elemAt t q.elem).ty ≠ .node
  let inL (l : List Posn) := l.any (·.elem = p.closer)
  isNode t (some p.src) && isNode t (some p.dst) && (elemAt t p.dst).detect ≠ .none
    && decide (p.closer < t.elems.length) && (elemAt t p.closer).ty = .breaker
    && !inL p.required && !inL p.flank && p.required.all named && p.flank.all named
    && decide (1 ≤ p.required.length ∧ p.required.length ≤ 64 ∧ p.flank.length ≤ 64 ∧ p.conflicts.length ≤ 64)
    && decide (1 ≤ p.setTimeoutS ∧ p.setTimeoutS ≤ 600 ∧ p.releaseMs ≤ 600000 ∧ 10 ≤ p.emergS ∧ p.emergS ≤ 3600)
    && decide (p.releaseMs ≤ p.emergS * 1000) && p.conflicts.all fun c => decide (c < t.paths.length)

/-- A permissive record is within Table 5.12. -/
def permOk (t : IleTable) (p : PermDef) : Bool :=
  let listOk := decide (1 ≤ p.paths.length ∧ p.paths.length ≤ 8) && p.paths.all fun i => decide (i < t.paths.length)
  let e := elemAt t p.target
  let inT := decide (p.target < t.elems.length)
  (match p.kind with
    | .close => listOk && !p.unreserved && p.target = 0 && p.pos = 0 && p.mask = 0
    | .pathState => listOk && !p.unreserved && p.target = 0 && p.pos = 0 && decide (p.mask < 256)
    | .move => inT && (e.ty = .disconnector || e.ty = .selector || e.ty = .earthing)
        && (p.pos = 1 || p.pos = 2) && p.mask = 0 && p.paths.isEmpty
    | .earth => inT && e.ty = .earthing && !p.unreserved && p.pos = 0 && p.mask = 0 && p.paths.isEmpty)
  && (p.bind = ⟨0, 0, 0⟩ || (p.bind.kind = 1 && decide (p.bind.node < 1024 ∧ p.bind.pos < 1920))
      || (p.bind.kind = 5 && p.bind.node = 0 && decide (p.bind.pos < 12))
      || (p.bind.kind = 6 && p.bind.node = 0 && decide (p.bind.pos < 65536)))

/-- Conflict sets are symmetric (R131). -/
def conflictsSym (t : IleTable) : Bool :=
  (t.paths.zip (List.range t.paths.length)).all fun p =>
    p.1.conflicts.all fun j => decide (p.2 ∈ (pathAt t j).conflicts)

/-- Points that a table names: requests as outputs, statuses as inputs, all of TYPE ILE, none twice. -/
def tablePointsOk (pts : List Point) (t : IleTable) : Bool :=
  let reqs := t.paths.map (·.reqAddr)
  let sts := (t.elems.filterMap (·.status)) ++ (t.paths.filterMap (·.status)) ++ (t.perms.filterMap (·.status))
  let ok (out : Bool) (a : Nat) : Bool := pts.any fun p => p.addr = a && p.isOut = out && p.ty = .ile
  reqs.all (ok true) && sts.all (ok false) && distinct (reqs ++ sts)

/-- R148 but for the key's role: every check of the table against Tables 5.9 to 5.14 and the I/O map, the last that
its records are what its bytes say. -/
def tableFormOk (t : IleTable) : Bool :=
  t.sigOk && t.digestOk && t.reservedZero && t.magic = 0x31544C49 && t.format = 1 && decide (t.bytes ≤ 2883584)
    && decide (t.poolBytes ≤ 1048576 ∧ t.poolBytes % 4 = 0) && decide (t.keySlot < 8)
    && decide (1 ≤ t.elems.length ∧ t.elems.length ≤ 16384 ∧ t.paths.length ≤ 8192 ∧ t.perms.length ≤ 32768)
    && distinct (t.elems.map (·.key)) && distinct (t.paths.map (·.key)) && t.elems.all (elemOk t)
    && t.paths.all (pathOk t) && t.perms.all (permOk t) && conflictsSym t
    && ((t.perms.map (·.bind)).filter fun b => b.kind = 1 || b.kind = 5).eraseDups.length
        = ((t.perms.map (·.bind)).filter fun b => b.kind = 1 || b.kind = 5).length
    && decide (decodeTable t.sigOk t.raw = some t)

/-- R148 with the I/O map of the table's generation. -/
def tableOk (pts : List Point) (t : IleTable) : Bool := tableFormOk t && tablePointsOk pts t

/-- Table 5.14: a local analog source names an AL channel that the generation runs in INPUT mode. -/
def alRefsOk (g : Gen) : Bool :=
  g.ile.elems.all fun e => [e.srcA, e.srcB].all fun r =>
    r.kind ≠ 4 || (decide (r.pos < 4) && (g.alp.getD r.pos alParamOff).mode = .input)

end Sys2Proof.Machine
end

