-- ==== Sys2Proof/Machine/Pair.lean ====
section
/-! DEFINITION. Plovlink packets as the module sends them (Tables 9.1 and 9.2), the partner as the module
knows it, and the start of an arbitration (R242). -/

namespace Sys2Proof.Machine

/-- Kinds of COMMAND packets: the request codes of Table 2.18, and above them the model's own (log entry 4). -/
def kRelease : Nat := 0x101
/-- LEAVING -/
def kLeaving : Nat := 0x102
/-- Tier agreement -/
def kTier : Nat := 0x103
/-- Request for the ILE dynamic state -/
def kStateReq : Nat := 0x104
/-- Both modules have passed the staging checks -/
def kStaged : Nat := 0x105
/-- A staging has failed -/
def kAbandon : Nat := 0x106
/-- Number and digest of the generation staged -/
def kStagedIs : Nat := 0x107
/-- The pending switch takes place -/
def kSwitchNow : Nat := 0x108
/-- The pending switch is cancelled -/
def kCancel : Nat := 0x109
/-- CCV_CONFIRM -/
def kCcv : Nat := 0x10A
/-- KEY_PROVISION -/
def kKey : Nat := 0x10B
/-- READMIT of a channel -/
def kChan : Nat := 0x10C
/-- ILE operator command -/
def kIleOp : Nat := 0x10D
/-- SNAP_ARM -/
def kSnap : Nat := 0x10E
/-- The partner's staging checks have ended -/
def kChecks : Nat := 0x10F
/-- Whether the sender carries paths -/
def kCarried : Nat := 0x110
/-- Request for a resync step once more -/
def kAgain : Nat := 0x111

/-- A port. -/
def portOf (s : State) (p : Nat) : PortS := s.plv.ports.getD p portReset

/-- Change a port. -/
def updPort (p : Nat) (f : PortS → PortS) (s : State) : State :=
  { s with plv := { s.plv with ports := updAt s.plv.ports p f } }

/-- A port carries packets: trained, and not retired unless a READMIT has named it (R239); under Speedwell, in reset and
FIRC_ONLY none does (R468, R375). -/
def portUp (s : State) (p : Nat) : Bool :=
  decide ((portOf s p).lanes ≠ 0) && (!isRetired s (.plv p) || (portOf s p).readmit.isSome) && !s.fwu.speedwell
    && !s.con.inReset && !fircOnly s

/-- The partner's slot. -/
def partnerSlot (s : State) : Nat := if s.mod.slot % 2 = 0 then s.mod.slot + 1 else s.mod.slot - 1

/-- Pair number (Table 2.12). -/
def pairNum (s : State) : Nat := s.mod.slot / 2

/-- SEQ of the next packet of a type: the first carries 0 (log entry 19). -/
def pktSeq (s : State) (ptype : Nat) : Nat := Tab.getD s.plv.seqs ptype 0

/-- Types of Table 9.2. -/
def pktTypes : List Nat := (List.range 14).map (· + 1) ++ (List.range 5).map (· + 0x10)

/-- Types whose payload goes out as bytes: the heartbeat, slice data, the signature and the ring's. -/
def pktLaidOut (ptype : Nat) : Bool := ptype = 0x01 || ptype = 0x04 || ptype = 0x06 || decide (0x10 ≤ ptype)

/-- A payload's bytes: its numbers are bytes where the type says so, and else 8 bytes each, the low one
first (log entry 4). -/
def payRaw (ptype : Nat) (pay : List Nat) : List Byte := pay.flatMap (le (if pktLaidOut ptype then 1 else 8))

/-- The packet of Table 9.1 but for its PCRC. -/
def pktBody (ptype hops origin dest seq len rsvd : Nat) (raw : List Byte) : List Byte :=
  le 1 ptype ++ le 1 hops ++ le 1 origin ++ le 1 dest ++ le 4 seq ++ le 4 len ++ le 4 rsvd ++ raw

/-- PCRC over the bytes before it. -/
def pktCrc (body : List Byte) : Nat := crc32cFrom 0xFFFFFFFF body

/-- A packet as it goes out (Table 9.1). -/
def pktBytes (ptype hops origin dest seq : Nat) (raw : List Byte) : List Byte :=
  let b := pktBody ptype hops origin dest seq raw.length 0 raw
  b ++ le 4 (pktCrc b)

/-- A received packet keeps to R237 and is of a type: LEN, the reserved word and PCRC (R238). -/
def pktOk (h : PktHdr) (ptype : Nat) : Bool :=
  h.ptype = ptype && h.len = h.pay.length && h.len % 4 = 0 && decide (h.len ≤ 65536) && h.rsvd = 0
    && h.pcrc = pktCrc (pktBody h.ptype h.hops h.origin h.dest h.seq h.len h.rsvd h.pay)

/-- The packet that a payload goes out in. -/
def pktOut (port ptype hops origin dest seq : Nat) (pay : List Nat) : Out :=
  .packet port ptype hops origin dest seq pay (pktBytes ptype hops origin dest seq (payRaw ptype pay))

/-- Put a packet on a port; SEQ rises by 1 per packet of the type. -/
def sendOn (ports : List Nat) (ptype dest : Nat) (pay : List Nat) (s : State) : State :=
  let up := ports.filter (portUp s)
  if up.isEmpty then s else
    let q := pktSeq s ptype
    let s1 := { s with plv := { s.plv with seqs := Tab.set s.plv.seqs ptype ((q + 1) % 2 ^ 32) } }
    up.foldl (fun s p => emit (pktOut p ptype 0 s.mod.slot dest q pay) s) s1

/-- A P0 packet to an authenticated partner; a muted module has ended its transfers (R241), and a RETIRED one
transmits nothing on P0 (R414). -/
def sendP0 (ptype : Nat) (pay : List Nat) (s : State) : State :=
  if portUp s 0 && s.plv.authOk && !s.plv.mute && s.mod.tup.role ≠ .retired
      then sendOn [0] ptype (partnerSlot s) pay s else s

/-- Numbers of a payload that fit a packet of the largest LEN. -/
def chunkLen : Nat := 8192

/-- A P0 transfer in as many packets as its payload needs (R237). -/
def sendBulk (ptype : Nat) (pay : List Nat) (s : State) : State :=
  (List.range (Max.max 1 ((pay.length + chunkLen - 1) / chunkLen))).foldl
    (fun s k => sendP0 ptype ((pay.drop (chunkLen * k)).take chunkLen) s) s

/-- A ring packet, on both ring ports. -/
def sendRing (ptype dest : Nat) (pay : List Nat) (s : State) : State := sendOn [0, 1, 2] ptype dest pay s

/-- Bytes as payload numbers. -/
def payBytes (b : List Byte) : List Nat := b.map (·.toNat)

/-- The partner, as last reported, is STANDBY or SYNCING, or STANDBY alone. -/
def partnerShadow (s : State) : Bool := s.mod.partner.role = .standby || s.mod.partner.role = .syncing

/-- An ACTIVE module with a STANDBY partner. -/
def pairRuns (s : State) : Bool := s.mod.tup.role = .active && s.mod.partner.role = .standby

/-- Cause codes of Table 9.4. -/
def arbCode : ArbCause → Nat
  | .none => 0
  | .signature => 1
  | .sigMissing => 2
  | .silent => 3
  | .ileMismatch => 4
  | .dualDrive => 5

/-- Arbitration may begin at the module (R242): an ACTIVE module and its STANDBY partner. -/
def arbMay (s : State) : Bool := pairRuns s || s.mod.tup.role = .standby

/-- ARBITRATION is set with a cause and t_d; while one runs, the earlier detection stands, and for equal t_d
the lower code (R242). A slice of the self-test engine is stopped and runs again later (R421). -/
def arbSet (cause : ArbCause) (td : Nat) (s : State) : State :=
  if !arbMay s then s
  else if s.mod.arb then
    if td < s.plv.arbTd ∨ (td = s.plv.arbTd ∧ arbCode cause < s.plv.arbCause) then
      { s with plv := { s.plv with arbCause := arbCode cause, arbTd := td, arbTh := s.plv.tH } }
    else s
  else sliceStop { s with
    mod := { s.mod with arb := true }
    plv := { s.plv with
      arbCause := arbCode cause, arbTd := td, arbTh := s.plv.tH, arbOutcome := 0, arbCount := satInc 0xFF s.plv.arbCount } }

/-- The module detects a cause: ARB_START goes to the partner at once (R242). -/
def arbDetect (cause : ArbCause) (s : State) : State :=
  if !arbMay s then s
  else arbSet cause s.gt (sendP0 0x0B [0x100, arbCode cause, s.gt] s)

end Sys2Proof.Machine
end

