-- ==== Sys2Proof/Machine/Snapshot.lean ====
section
/-! DEFINITION. The lanes of the interlocking engine up to their agreed readings (chapter 6): lane sets, boundary frames
as a lane accepts them, the reading vectors and their exchange (R153 steps 1 to 3, R154 to R156). -/

namespace Sys2Proof.Machine

/-- The lanes in order. -/
def lanes3 : List Lane := [.a, .b, .c]

/-- Number of a lane from 0. -/
def laneIx : Lane → Nat
  | .a => 0
  | .b => 1
  | .c => 2

/-- A lane. -/
def laneOf (s : State) (l : Lane) : LaneS := s.ile.lanes.getD (laneIx l) laneReset

/-- A lane's lane set. -/
def laneSetOf (s : State) (l : Lane) : LaneSet := (laneOf s l).set

/-- Change a lane. -/
def updLane (l : Lane) (f : LaneS → LaneS) (s : State) : State :=
  { s with ile := { s.ile with lanes := updAt s.ile.lanes (laneIx l) f } }

/-- Change the lane set of a lane. -/
def updSet (f : LaneSet → LaneSet) (s : State) (l : Lane) : State := updLane l (fun x => { x with set := f x.set }) s

/-- The voter update's offset in ns (Table 6.2). -/
def voteOfs (s : State) : Nat := (runGen s).sched.voteOfsUs * us

/-- The table in use. -/
def curTable (s : State) : IleTable := s.ile.table.getD tableNone

/-- The table whose definitions are carried. -/
def oldTable (s : State) : IleTable := s.ile.old.getD tableNone

/-- The table of a lane set. -/
def setTable (x : LaneSet) : IleTable := x.table.getD tableNone

/-- The table whose definitions a lane set carries. -/
def setOld (x : LaneSet) : IleTable := x.old.getD tableNone

/-- The tables that a lane set holds (R117, R149). -/
def setTables (x : LaneSet) : List IleTable := [x.table, x.old, x.next].filterMap id

/-- ILE state of a set of admitted lanes. -/
def ileOf (adm : List Lane) : IleState :=
  match decide (Lane.a ∈ adm), decide (Lane.b ∈ adm), decide (Lane.c ∈ adm) with
  | true, true, true => .lane3
  | true, true, false => .ab
  | true, false, true => .ac
  | false, true, true => .bc
  | _, _, _ => .withdrawn

/-- Lanes admitted. -/
def admitted (s : State) : List Lane := lanes3.filter fun l => (laneOf s l).admitted

/-- Lanes that evaluate in a cycle: admitted, their clock running and out of reset (R385), and not re-seeding but for a
trial cycle (R160). -/
def evaluating (s : State) : List Lane :=
  lanes3.filter fun l => (laneOf s l).admitted && !blkClosed s (laneBlk l) && ((laneOf s l).reseed = 0 || (laneOf s l).reseed = 3)

/-- Lanes that vote when they present: admitted, not re-seeding, and not odd (R157). -/
def votable (s : State) : List Lane :=
  lanes3.filter fun l => (laneOf s l).admitted && (laneOf s l).reseed = 0 && !(laneOf s l).odd

/-- A module whose lanes read the active's snapshot (R172). -/
def shadows (s : State) : Bool := s.mod.tup.role = .standby || s.mod.tup.role = .syncing

/-! ### Boundary frames (R168 to R171) -/

/-- Sources that the tables of a lane set reference. -/
def setRefs (x : LaneSet) : List Ref :=
  (((setTable x).elems ++ (if x.dyn.carried.isEmpty then [] else (setOld x).elems)).flatMap
    fun e => [e.srcA, e.srcB].filter (·.kind ≠ 0)).eraseDups

/-- Boundary elements among some sources. -/
def bndPoss (rs : List Ref) : List Nat := (rs.filter (·.kind = 6)).map (·.pos)

/-- A boundary frame passes R170's checks on its bytes; FLAGS are no part of them. -/
def boundaryOk (own : Nat) (poss : List Nat) (f : List Byte) : Bool :=
  let src := field f 1 1
  let n := field f 18 2
  let len := 4 * ((n + 15) / 16)
  f.length = 28 + len && field f 0 1 = 0xB5 && field f 2 1 = own && decide (1 ≤ n ∧ n ≤ 8192)
    && field f (24 + len) 4 = crc32cFrom (0x5A5A0000 + 256 * src + own) (f.take (24 + len))
    && (poss.any fun p => p / 8192 = src)
    && (List.range n).all fun i => bitAt (f.drop 24) (2 * i) != bitAt (f.drop 24) (2 * i + 1)

/-- A frame's SEQ lies 1 to 1,000 above the last accepted, or it is the first. -/
def bndSeqOk (last : Option Nat) (q : Nat) : Bool :=
  match last with
  | some l => let d := (q + 2 ^ 32 - l) % 2 ^ 32; decide (1 ≤ d ∧ d ≤ 1000)
  | none => true

/-- What a boundary frame says. -/
def bndRead (f : List Byte) : BndFrame :=
  ⟨field f 8 8, field f 16 2,
   (List.range (field f 18 2)).map fun i => (bitAt (f.drop 24) (2 * i), bitAt (f.drop 24) (2 * i + 1))⟩

/-- A receiver of boundary frames takes one (R170). The elements stay invalid until a snapshot finds them current. -/
def bndTake (own : Nat) (poss : List Nat) (bs : List BndS) (f : List Byte) : List BndS :=
  let b := (bs.find? (·.pair = field f 1 1)).getD ⟨field f 1 1, none, [], true⟩
  if boundaryOk own poss f && bndSeqOk b.seq (field f 4 4) then
    bs.filter (·.pair ≠ b.pair) ++ [⟨b.pair, some (field f 4 4), b.frames ++ [bndRead f], b.invalid⟩]
  else bs

/-- The newest accepted frame of a producer whose GT_VOTE lies in [C_n − BND_TIMEOUT, C_n). -/
def bndNewest (cn timeout : Nat) (b : BndS) : Option BndFrame :=
  (b.frames.filter fun f => decide (cn ≤ f.gtVote + timeout ∧ f.gtVote < cn)).getLast?

/-- At a snapshot: frames that BND_TIMEOUT no longer covers go, and a producer without a current one has turned invalid,
so that its next frame counts as the first. -/
def bndAge (cn timeout : Nat) (b : BndS) : BndS :=
  { b with
    frames := b.frames.filter fun f => decide (cn ≤ f.gtVote + timeout)
    seq := if (bndNewest cn timeout b).isSome then b.seq else none
    invalid := b.invalid && (bndNewest cn timeout b).isNone }

/-- The boundary frames received before C_n (R13, R171); those stamped at it belong to the next cycle's snapshot. -/
def bndDue (s : State) : List (List Byte) := (s.ile.bndNow.filter fun f => decide (f.1 < s.ile.cn)).map (·.2)

/-- The boundary frames of a cycle reach a receiver's snapshot at C_n. -/
def bndSnap (s : State) (rs : List Ref) (bs : List BndS) : List BndS :=
  ((bndDue s).foldl (bndTake (pairNum s) (bndPoss rs)) bs).map (bndAge s.ile.cn s.cyc.par.bndTimeout)

/-- Reading of a boundary element (R170, R171): contact a in bit 0, contact b in bit 1. -/
def readBoundary (cn timeout : Nat) (bs : List BndS) (pos : Nat) : Reading :=
  match (bs.find? (·.pair = pos / 8192)).bind (bndNewest cn timeout) with
  | none => ⟨0, false⟩
  | some f =>
    let i := pos % 8192
    if i < f.first then ⟨0, false⟩
    else match f.states[i - f.first]? with
      | some x => ⟨((b2n x.1 + 2 * b2n x.2 : Nat) : Int), true⟩
      | none => ⟨0, false⟩

/-! ### Reading vectors (R154) -/

/-- What a cycle's snapshot holds beside boundary frames: the safety frames, and the trip inputs and local analog
readings by source. -/
structure SnapIn where
  frames : List RxFrame
  local_ : List (Ref × Reading)
deriving DecidableEq, Repr, Inhabited

/-- Sources that the module itself samples: trip inputs and local analog channels. -/
def isLocal (r : Ref) : Bool := r.kind = 2 || r.kind = 4

/-- A local source at C_n. -/
def readLocal (s : State) (r : Ref) : Reading :=
  if r.kind = 2 then tiAtStart s s.ile.cn r.pos else alAtStart s s.ile.cn r.pos

/-- Sources that some lane's tables reference. -/
def allRefs (s : State) : List Ref := ((admitted s).flatMap fun l => setRefs (laneSetOf s l)).eraseDups

/-- The module's own snapshot. -/
def ownSnap (s : State) : SnapIn :=
  ⟨s.ile.rx, ((allRefs s).filter isLocal).map fun r => (r, readLocal s r)⟩

/-- The presence map of safety frames: channel and slot of each. -/
def snapMap (fs : List RxFrame) : List (Chan × Nat) := fs.map fun f => (f.chan, (frameHdr f.bytes).slot)

/-- A frame of the presence map among some frames. -/
def frameAt (fs : List RxFrame) (p : Chan × Nat) : Option RxFrame :=
  fs.find? fun f => f.chan = p.1 && (frameHdr f.bytes).slot = p.2

/-- The snapshot that the active's message gives a shadow, once every frame of the map is there: its own copy, else the
one sent (R172). -/
def shadowSnap (s : State) (m : SnapMsg) : Option SnapIn :=
  (allSome (m.map.map fun p => (frameAt s.ile.rx p).or (frameAt m.frames p))).map fun fs => ⟨fs, m.readings⟩

/-- A connection's word or bit as a lane's own checks found it. -/
def readConn (s : State) (x : LaneSet) (r : Ref) (f : List Byte → Int) : Reading :=
  match stationConn s r.node with
  | some c => if connLive s.ile.n x.conns c then ⟨f (connIn x.conns c.conn).data, true⟩ else ⟨0, false⟩
  | none => ⟨0, false⟩

/-- A lane's reading of a source at C_n (R154). -/
def readSource (s : State) (i : SnapIn) (x : LaneSet) (r : Ref) : Reading :=
  match r.kind with
  | 1 => readConn s x r fun d => ((b2n (bitAt d r.pos) : Nat) : Int)
  | 3 => readConn s x r fun d => signExt 32 (field d (4 * r.pos) 4)
  | 6 => readBoundary s.ile.cn s.cyc.par.bndTimeout x.bnd r.pos
  | _ => if isLocal r then readOf i.local_ r else ⟨0, false⟩

/-- What a disturbance makes of a lane's reading; an invalid reading has no value. -/
def disturbed (devs : List LaneDev) (l : Lane) (p : Ref × Reading) : Ref × Reading :=
  let x := match devs.find? fun d => d.lane = l && d.ref = p.1 with
    | some d => d.rd
    | none => p.2
  (p.1, if x.valid then x else ⟨0, false⟩)

/-- Steps 1 and 2 of a lane: every safety-layer check on the received bytes by itself, and its reading vector. -/
def laneReads (s : State) (i : SnapIn) (devs : List LaneDev) (l : Lane) (x : LaneSet) : LaneSet :=
  let x1 := { x with
    conns := i.frames.foldl (fun cs f => safetyCheck s.oxn.lastCtx f cs) x.conns }
  { x1 with rd := (setRefs x).map fun r => disturbed devs l (r, readSource s i x1 r) }

/-! ### Exchange and agreement (R155, R156) -/

/-- Readings of a 4 KiB slice of a reading vector: 16 bytes hold one (log entry 161). -/
def readSliceLen : Nat := 256

/-- Bytes of a slice. -/
def readSliceBytes (rs : List (Ref × Reading)) : List Byte :=
  rs.flatMap fun p => le 8 (wrap64 p.2.val) ++ le 8 (b2n p.2.valid)

/-- Slice k of a reading vector. -/
def readSlice (rs : List (Ref × Reading)) (k : Nat) : List (Ref × Reading) :=
  (rs.drop (k * readSliceLen)).take readSliceLen

/-- Another lane's reading vector as a lane knows it after the exchange (R155): of a slice whose digest equals its own
it has its own content, every other it has fetched. -/
def seenBy (mine theirs : List (Ref × Reading)) : List (Ref × Reading) :=
  (List.range ((theirs.length + readSliceLen - 1) / readSliceLen)).flatMap fun k =>
    if crc64 (readSliceBytes (readSlice theirs k)) = crc64 (readSliceBytes (readSlice mine k)) then readSlice mine k
        else readSlice theirs k

/-- Analog sources. -/
def isAna (r : Ref) : Bool := r.kind = 3 || r.kind = 4

/-- The middle of three. -/
def median3 (a b c : Int) : Int := Max.max (Min.min a b) (Min.min (Max.max a b) c)

/-- Agreement of one source (Table 6.4): the agreed reading, if any, and the lanes that are odd. -/
def agreeRef (tol : Nat) (ana : Bool) (xs : List (Lane × Reading)) : Option Reading × List Lane :=
  match xs with
  | [x, y, z] =>
    let base : Option Reading :=
      if ana && x.2.valid && y.2.valid && z.2.valid then some ⟨median3 x.2.val y.2.val z.2.val, true⟩
      else if x.2 = y.2 || x.2 = z.2 then some x.2
      else if y.2 = z.2 then some y.2
      else none
    match base with
    | none => (none, [])
    | some g =>
      let odd := (xs.filter fun l =>
        if ana then l.2.valid ≠ g.valid || (g.valid && decide (tol < (l.2.val - g.val).natAbs)) else l.2 ≠ g).map (·.1)
      if 2 ≤ odd.length then (none, []) else (some g, odd)
  | [x, y] =>
    if ana then
      if x.2.valid && y.2.valid && decide ((x.2.val - y.2.val).natAbs ≤ tol) then
        (some ⟨Max.max x.2.val y.2.val, true⟩, [])
      else if !x.2.valid && !y.2.valid then (some ⟨0, false⟩, [])
      else (none, [])
    else if x.2 = y.2 then (some x.2, []) else (none, [])
  | _ => (none, [])

/-- What a lane finds at agreement: the agreed readings, whether some source has none, and the odd lanes. -/
structure AgreeOut where
  rd : List (Ref × Reading)
  none_ : Bool
  odd : List Lane
deriving DecidableEq, Repr, Inhabited

/-- Agreement as a lane finds it, from its own vector and the others' after the exchange. -/
def laneAgree (s : State) (l : Lane) : AgreeOut :=
  let mine := (laneSetOf s l).rd
  let views := (votable s).map fun m => (m, if m = l then mine else seenBy mine (laneSetOf s m).rd)
  let r := mine.map fun p => (p.1, agreeRef (s.cyc.par.anaTolUa * 1000) (isAna p.1)
    (views.map fun v => (v.1, readOf v.2 p.1)))
  ⟨r.filterMap fun x => x.2.1.map fun g => (x.1, g), r.any fun x => x.2.1 = none, (r.flatMap fun x => x.2.2).eraseDups⟩

end Sys2Proof.Machine
end

