-- ==== Sys2Proof/Machine/Lanes.lean ====
section
/-! DEFINITION. The three lanes and the voter (chapter 6): the cycle start and the lanes' evaluation, presentation, the
voter update, re-seeding, retirement, recovery, the table sweep, and boundary frames sent. -/

namespace Sys2Proof.Machine

/-- A key in the store holds a role bit of Table 13.7. -/
def keyHas (s : State) (slot bit : Nat) : Bool :=
  match Tab.find? s.nva.keys slot with
  | some k => k.roles.testBit bit
  | none => false

/-- R148: a table of a generation's I/O map may be used; its key holds the STAGE role. -/
def tableUsable (s : State) (g : Gen) (t : IleTable) : Bool :=
  tableOk g.points t && t.gen = g.num && keyHas s t.keySlot 3 && alRefsOk { g with ile := t }

/-- Change what the voter drives (R19, R188): each destination of a permissive, from an instant on. -/
def drive (at_ : Nat) (ds : List (Ref × Bool)) (s : State) : State :=
  { s with ile := { s.ile with drivenOld := s.ile.driven, driven := ds, drivenAt := at_ } }

/-- The destinations of a table's permissives, none of them granted. -/
def drivenNone (t : IleTable) : List (Ref × Bool) :=
  (t.perms.filter (·.bind.kind ≠ 0)).map fun p => (p.bind, false)

/-- A lane set without tables and model state; the build stays in it. -/
def setEmpty (x : LaneSet) : LaneSet := { laneSetReset with build := x.build }

/-- A lane set as the supervisor loads it: the table in use and the staged one. -/
def setLoaded (s : State) (x : LaneSet) : LaneSet :=
  { setEmpty x with table := s.ile.table, next := s.chg.staged.map (·.g.ile) }

/-! ### Disagreement, retirement -/

/-- Withdrawal (R158): every permissive absent at once, the state at the next boundary. DESIGN CHOICE (log
187): KIND is kept. -/
def ileWithdraw (s : State) : State :=
  let s1 := { s with ile := { s.ile with granted := s.ile.granted.map fun _ => false } }
  if s.ile.latch && s.ile.stNext = some .withdrawn then s1 else
    occur Code.ileWithdrawn Src.voter 0 { s1 with ile := { s1.ile with
      latch := true
      stNext := some .withdrawn
      lastLane := 3 } }

/-- Retire a lane (R162, R164): held in reset, its lane set lost. With two lanes left the state follows at the next ILE
cycle boundary; with fewer the next update withdraws. -/
def retireLane (l : Lane) (code : Nat) (s : State) : State :=
  if isRetired s (.lane l) then s else
    let s1 := updLane l (fun x => { x with
      admitted := false, voting := false, reseed := 0, pres := none, joining := false, sweep := [], set := setEmpty x.set })
      (occur Code.ileLaneRetired (Src.lane l) 0 (retireRecord (.lane l) code s))
    let s2 := gateClose (laneBlk l) s1
    if s2.mod.tup.ile = .withdrawn || decide ((admitted s2).length < 2) then s2
    else { s2 with ile := { s2.ile with stNext := match s2.ile.stNext with
      | some .withdrawn => some .withdrawn
      | _ => some (ileOf (admitted s2)) } }

/-- A lane is reset and joins through a re-seed. -/
def laneAgain (l : Lane) (s : State) : State :=
  updLane l (fun x => { x with
    admitted := true, voting := false, odd := false, joining := true, set := setEmpty x.set
    reseed := 1, reseeds := satInc 0xFF x.reseeds, sweep := [] }) s

/-- A lane slice of the self-test engine is stopped (R422); in COMPAT the lane that it cut off is reset and re-seeded
(R427). -/
def laneSliceStop (s : State) : State :=
  match s.bst.running with
  | some (2, u) =>
    if s.bst.compatRun then
      (lanes3.filter fun l => Src.lane l = u && (laneOf s l).admitted).foldl (fun s l => laneAgain l s) (sliceStop s)
    else sliceStop s
  | _ => s

/-- A lane is re-seeded (R160), from its table phase on. -/
def reseedLane (l : Lane) (s : State) : State :=
  updLane l (fun x => { x with reseed := 1, reseeds := satInc 0xFF x.reseeds, sweep := [] }) (laneSliceStop s)

/-- A lane's disagreement (R159), at most one in a cycle: 8 into its bucket, ILE_LANE_DISAGREE, and in 3-LANE a re-seed
(R160). -/
def laneDisagree (l : Lane) (kind : Nat) (s : State) : State :=
  if (laneOf s l).disNow then s else
  let s1 := occur2 Code.ileLaneDisagree (Src.lane l) (laneIx l + 1) kind
    (bucketAdd (.lane l) 8 (updLane l (fun x => { x with disNow := true, disagree := satInc 0xFFFF x.disagree })
      { s with ile := { s.ile with lastLane := laneIx l, lastKind := kind } }))
  if s1.cyc.par.laneRetireAt ≤ bucket s1 (.lane l) then retireLane l kind s1
  else if s1.mod.tup.ile = .lane3 || (laneOf s1 l).joining then reseedLane l s1
  else s1

/-! ### Evaluation -/

/-- The request point's content for path i in the image of the cycle. -/
def reqValue (s : State) (t : IleTable) (i : Nat) : DWord :=
  (Tab.getD s.oxn.txImg (pathAt t i).reqAddr Entry.zero).value

/-- Request present for path i of a table (R142). -/
def reqIn (s : State) (t : IleTable) (i : Nat) : Bool := reqKind (reqValue s t i) i = 1

/-- Request present for path i of the table in use. -/
def reqPresent (s : State) (i : Nat) : Bool := reqIn s (curTable s) i

/-- Requests that have turned malformed since the last cycle (R142). -/
def newMalformed (s : State) (t : IleTable) : List (Nat × Nat) :=
  (List.range t.paths.length).filterMap fun i =>
    let v := (reqValue s t i).toNat
    if reqKind (reqValue s t i) i = 2 && decide (Tab.getD s.ile.reqs (pathAt t i).reqAddr 0 ≠ v) then
      some (Code.ileReqMalformed, i) else none

/-- The request contents as this cycle saw them. -/
def reqsNow (s : State) : Tab Nat :=
  let t := curTable s
  t.paths.foldl (fun a p => Tab.put a p.reqAddr (Tab.getD s.oxn.txImg p.reqAddr Entry.zero).value.toNat 0) []

/-- The longest release delay among the tables that the lanes hold (R166). -/
def maxRelease (s : State) : Nat :=
  ((s.ile.lanes.flatMap fun x => (setTables x.set).flatMap fun t => t.paths.map (·.releaseMs)).foldl Max.max 0) * ms

/-- COLD_HOLD is in force at a cycle start. -/
def holdOn (s : State) : Bool :=
  match s.ile.hold with
  | some h => decide (s.ile.cn < h)
  | none => false

/-- COLD_HOLD's time starts with the first evaluation. -/
def holdStart (s : State) : State :=
  if s.ile.holdPending then
    { s with ile := { s.ile with holdPending := false, hold := some (s.ile.cn + maxRelease s) } }
  else s

/-- Operator commands due in the cycle. -/
def opsDue (s : State) : List IleOp := s.ile.ops.filter fun o => decide (o.cycle ≤ s.ile.n)

/-- A lane's evaluation on its agreed readings (R132, R153 step 4). While the ILE state is still WITHDRAWN every
permissive is absent (R138). -/
def laneEval (s : State) (g : AgreeOut) (x : LaneSet) : LaneSet :=
  let t := setTable x
  let o := evaluate t (setOld x) g.rd (reqIn s t) (opsDue s) (holdOn s) s.ile.n s.ile.cn x.dyn
  { x with
    dyn := o.dyn
    vec := if s.mod.tup.ile = .withdrawn then o.vec.map fun _ => false else o.vec
    events := x.events ++ newMalformed s t ++ o.events
    done := x.done ++ o.ops
    old := if o.dyn.carried.isEmpty then none else x.old }

/-- The state of a lane is the module's: a lane that votes stands for all that vote (R157). -/
def mirror (l : Lane) (s : State) : State :=
  let x := laneSetOf s l
  { s with
    ile := { s.ile with dyn := x.dyn, vec := x.vec, old := x.old }
    nvb := { s.nvb with blocked := x.dyn.blocked } }

/-- The lane that stands for the module before an update. -/
def leadLane (s : State) : Option Lane := (votable s).head?

/-- The module's view follows the lead lane. -/
def mirrorLead (s : State) : State :=
  match leadLane s with
  | some l => mirror l s
  | none => s

/-- Codes and results of a lane's evaluation are the outcome of the update (R504); the lanes' own are done with. -/
def takeOutcome (l : Lane) (s : State) : State :=
  let x := laneSetOf s l
  { s with ile := { s.ile with
    events := s.ile.events ++ x.events
    doneOps := s.ile.doneOps ++ x.done
    lanes := s.ile.lanes.map fun y => { y with set := { y.set with events := [], done := [] } } } }

/-- A lane that is odd at agreement has an INPUT disagreement (R156). -/
def markOdd (s : State) (l : Lane) : State := laneDisagree l 1 (updLane l (fun x => { x with odd := true }) s)

/-- Steps 1 to 4 of every lane on a snapshot (Table 6.3). -/
def runEval (i : SnapIn) (devs : List LaneDev) (s0 : State) : State :=
  let s := holdStart s0
  let ls := evaluating s
  let s1 := ls.foldl (fun s l => updSet (laneReads s i devs l) s l) s
  let outs := ls.map fun l => (l, laneAgree s1 l)
  let s2 := outs.foldl (fun s o => updSet (laneEval s o.2) s o.1) s1
  let voters := outs.filter fun o => decide (o.1 ∈ votable s1)
  let s3 := { s2 with ile := { s2.ile with
    reqs := reqsNow s2
    ops := s2.ile.ops.filter fun o => !decide (o.cycle ≤ s2.ile.n)
    noAgree := voters.any (·.2.none_)
    evald := true } }
  mirrorLead (((voters.filter fun o => decide (o.1 ∈ o.2.odd)).map (·.1)).foldl markOdd s3)

/-- R146: while WITHDRAWN the supervisor applies BLOCK and UNBLOCK to the blocked set in MRAM, checked against the
current table; with no table no element answers to a key. -/
def opsWithdrawn (s : State) : State :=
  (opsDue s).foldl (fun s o =>
    let r : IleDyn × Status := if o.cmd = 3 then (dynNone, .voidState)
      else opApply (curTable s) tableNone (fun _ => false) 0 0 { dynNone with blocked := s.nvb.blocked } o
    { s with
      nvb := if o.cmd = 3 then s.nvb else { s.nvb with blocked := r.1.blocked }
      ile := { s.ile with doneOps := s.ile.doneOps ++ [(o, r.2)], ops := s.ile.ops.filter (· ≠ o) } }) s

/-! ### Tables -/

/-- A lane set changes to a table (R106, R115). -/
def setSwitch (t : IleTable) (x : LaneSet) : LaneSet :=
  let r := tableSwitch t (setTable x) (setOld x) x.dyn
  { x with
    table := some t
    old := if r.1.carried.isEmpty then none else x.table
    next := if x.next = some t then none else x.next
    dyn := r.1
    vec := List.replicate t.perms.length false
    events := x.events ++ r.2 }

/-- A lane set without model state changes to a table. -/
def setLoad (t : IleTable) (x : LaneSet) : LaneSet :=
  { x with table := some t, old := none, next := if x.next = some t then none else x.next }

/-- What the status points show follows the elements and paths to another table. DESIGN CHOICE (log 186):
the permissives start absent. -/
def upSwitch (t o : IleTable) (s : State) : State :=
  let r := tableSwitch t o (s.ile.upOld.getD tableNone) s.ile.upDyn
  { s with ile := { s.ile with
    upDyn := r.1
    upOld := if r.1.carried.isEmpty then none else some o
    upVec := List.replicate t.perms.length false } }

/-- Without model state only the blocked set follows to another table (R145). -/
def blockedLoad (t o : IleTable) (s : State) : State :=
  let gone := s.nvb.blocked.filter fun k => !(t.elems.any (·.key = k))
  { s with
    ile := { s.ile with
      events := s.ile.events ++ gone.map fun k => (Code.ileBlockDropped, o.elems.findIdx (·.key = k)) }
    nvb := { s.nvb with blocked := s.nvb.blocked.filter fun k => t.elems.any (·.key = k) } }

/-- Until the next vote a destination keeps the permissive that it had under the table before: what was granted follows
the bindings (R140). -/
def regrant (t o : IleTable) (granted : List Bool) : List Bool :=
  t.perms.map fun p => decide (p.bind.kind ≠ 0) && (o.perms.zip granted).any fun q => q.1.bind = p.bind && q.2

/-- The table of a generation comes into use (R106): with model state, under R115; without, alone. -/
def takeTable (t : IleTable) (s : State) : State :=
  let o := curTable s
  if s.ile.table.isNone || s.ile.withdrawnNow then
    let s1 := blockedLoad t o
      { s with ile := { s.ile with lanes := s.ile.lanes.map fun x => { x with set := setLoad t x.set } } }
    let s2 := upSwitch t o { s1 with ile := { s1.ile with table := some t, old := none } }
    { s2 with ile := { s2.ile with granted := List.replicate t.perms.length false } }
  else
    let s1 := { s with ile := { s.ile with
      table := some t
      granted := regrant t o s.ile.granted
      lanes := s.ile.lanes.map fun x => { x with set := setSwitch t x.set } } }
    mirrorLead (upSwitch t o s1)

/-- The lane sets hold the table of a generation that a revert has removed. -/
def heldTable (s : State) (gen : Nat) : Option IleTable :=
  (s.ile.lanes.filterMap (·.set.next)).find? (·.gen = gen)

/-- R106: the image selected for the cycle was published under another generation. A table that was refused at
boot stays refused (R148). While the engine runs the table of a generation that a revert has removed, the lanes hold that
of the current one beside it. -/
def tableDue (s : State) : State :=
  if s.oxn.txGen = 0 || (s.ile.table.isSome && (curTable s).gen = s.oxn.txGen) then s
  else match genByNum s s.oxn.txGen with
  | some g =>
    if s.ile.table.isSome || tableUsable s g g.ile then takeTable g.ile s else s
  | none =>
    match heldTable s s.oxn.txGen with
    | some t => if s.ile.table.isSome then holdTable (some s.chg.cur.ile) (takeTable t s) else s
    | none => s

/-! ### Seeding -/

/-- An admitted lane is seeded with a dynamic state, and counts boundary frames anew (R170). -/
def seedLane (d : IleDyn) (old : Option IleTable) (x : LaneS) : LaneS :=
  if x.admitted then { x with
    joining := false
    set := { x.set with dyn := d, old := old, vec := [], bnd := x.set.bnd.map fun b => { b with seq := none } } }
  else x

/-- The lanes are seeded with a dynamic state. -/
def seedLanes (d : IleDyn) (old : Option IleTable) (s : State) : State :=
  { s with
    ile := { s.ile with
      withdrawnNow := false
      dyn := d
      old := old
      vec := []
      lanes := s.ile.lanes.map (seedLane d old) }
    nvb := { s.nvb with blocked := d.blocked } }

/-- Dynamic state received from the partner seeds the lanes (R165, R172, R173). -/
def takeAdopt (s : State) : State :=
  match s.ile.adopt with
  | none => s
  | some d =>
    let s1 := seedLanes d.1 d.2.1 s
    { s1 with ile := { s1.ile with
      ops := s1.ile.ops.filter fun o => decide (d.2.2 < o.cycle)
      adopt := none, pairStep := false, holdPending := false, hold := none } }

/-- Seed the lanes by cold start (R165, R166). -/
def ileCold (s : State) : State :=
  let s1 := seedLanes (dynCold (curTable s) s.nvb.blocked) none s
  { s1 with ile := { s1.ile with
    holdPending := true
    granted := (curTable s).perms.map fun _ => false } }

/-- The partner can seed the module's lanes (R165); its tables are compared when its state arrives. -/
def partnerServes (s : State) : Bool :=
  s.mod.valid && (s.mod.partner.role = .active || s.mod.partner.role = .standby) && s.mod.partner.ile ≠ .withdrawn
    && s.plv.partnerGen = s.chg.cur.num

/-- Ask the partner for its dynamic state. -/
def askState (s : State) : State := sendP0 0x0B [kStateReq, s.ile.n] s

/-- Two admitted lanes with a table start cold (R165). -/
def coldSeed (s : State) : State :=
  if s.ile.table.isSome && decide (2 ≤ (admitted s).length) then ileCold s else s

/-- Lanes that READMIT has admitted wait for the partner's state, which is asked for anew in each cycle (R238); when it
can no longer serve they start cold. A SYNCING module gets it with its resync (R55). -/
def awaitSeed (s : State) : State :=
  if !s.ile.withdrawnNow || s.ile.adopt.isSome || s.mod.tup.role = .syncing || !(s.ile.lanes.any (·.joining)) then s
  else if partnerServes s then askState s
  else coldSeed s

/-! ### Cycle start -/

/-- The partner learns whether the module carries paths (R118). -/
def carriedTell (s : State) : State :=
  let now := !s.ile.dyn.carried.isEmpty
  if s.ile.carriedTold = now then s
  else sendP0 0x0B [kCarried, b2n now] { s with ile := { s.ile with carriedTold := now } }

/-- Digest of the interlocking table in use, by which a module compares its partner's with its own (R165). -/
def tableDigest (s : State) : Nat := crc64 (curTable s).raw

/-- The last cycle whose operator commands the dynamic state reflects. -/
def opsThrough (s : State) : Nat := (s.ile.ops.map fun o => o.cycle - 1).foldl Min.min s.ile.n

/-- ILE_STATE packet: generation, ILE cycle, the table in use by its digest, and the dynamic state with the
definitions it carries (R55, R165, R172, R173). DESIGN CHOICE (log 202): the cycle is the last whose operator commands
the state reflects, so that the receiver applies each of them once (R144). -/
def sendIleState (s : State) : State :=
  sendBulk 0x0A ([genCur s, opsThrough s, tableDigest s]
    ++ payBytes (dynBytes (curTable s) (oldTable s) s.ile.dyn) ++ payBytes (oldTable s).raw) s

/-- A request for the dynamic state is answered by a module whose lanes hold one. -/
def giveState (s : State) : State :=
  if (driverRole s || s.mod.tup.role = .standby) && s.mod.tup.ile ≠ .withdrawn && !s.ile.withdrawnNow then sendIleState s
  else s

/-- A partner that waits in WITHDRAWN gets the state at an ILE cycle boundary (R165). -/
def answerAsked (s : State) : State :=
  if s.ile.stateAsked then giveState { s with ile := { s.ile with stateAsked := false } } else s

/-- The ILE state that the last cycle decided is taken (R36, R158, R165); under WITHDRAWN the lanes discard their model
state. -/
def takeIle (s : State) : State :=
  match s.ile.stNext with
  | none => s
  | some k =>
    let s1 := setIleState (if s.mod.tup.role = .retired then .withdrawn else k)
      { s with ile := { s.ile with stNext := none } }
    if k = .withdrawn then
      { s1 with ile := { s1.ile with
        withdrawnNow := true
        readmits := []
        dyn := dynNone
        vec := []
        old := none
        hold := none
        holdPending := false
        lanes := s1.ile.lanes.map fun x => { x with
          reseed := 0, voting := false, pres := none, sweep := []
          set := { x.set with dyn := dynNone, vec := [], old := none, rd := [], conns := [] } } } }
    else s1

/-- Operator commands complete after their cycle of effect (R144, R146). -/
def opsComplete (s : State) : State :=
  s.ile.finished.foldl (fun s o =>
    match o.1.call with
    | some c => if o.1.era = s.hxp.era then complete c 0x50 o.2 none 0 o.1.cycle s else s
    | none => s) { s with ile := { s.ile with finished := [] } }

/-- One reading as payload numbers: reference, value and valid bit. -/
def payReading (p : Ref × Reading) : List Nat :=
  [p.1.kind, p.1.node, p.1.pos, wrap64 p.2.val, b2n p.2.valid]

/-- One frame as payload numbers: channel, start, end and bytes. -/
def payFrame (f : RxFrame) : List Nat := [chanNum f.chan, f.sof, f.eof, f.bytes.length] ++ payBytes f.bytes

/-- The active's snapshot goes to the standby (R172): the presence map, the local readings, and every safety frame,
since the active does not know which of them the standby lacks (log entry 162). -/
def sendSnap (i : SnapIn) (s : State) : State :=
  let m := snapMap i.frames
  sendBulk 0x08 ([s.ile.n, m.length, i.local_.length, i.frames.length] ++ (m.flatMap fun p => [chanNum p.1, p.2])
    ++ i.local_.flatMap payReading ++ i.frames.flatMap payFrame) s

/-- Incoming boundary elements that the table in use references. -/
def bndRefs (s : State) : List Nat :=
  bndPoss (((curTable s).elems.flatMap fun e => [e.srcA, e.srcB]).eraseDups)

/-- The boundary frames of the last cycle reach an admitted lane's snapshot. -/
def bndLane (s : State) (x : LaneS) : LaneS :=
  if x.admitted then { x with set := { x.set with bnd := bndSnap s (setRefs x.set) x.set.bnd } } else x

/-- The boundary frames of the last cycle reach the snapshot of every lane, and that of ILE_BND_STATUS (Table 6.15). -/
def bndTakeAll (s : State) : State :=
  let bnd := ((bndDue s).foldl (bndTake (pairNum s) (bndRefs s)) s.ile.bnd).map (bndAge s.ile.cn s.cyc.par.bndTimeout)
  let bad := (bndRefs s).filter fun p => !(readBoundary s.ile.cn s.cyc.par.bndTimeout bnd p).valid
  let pairs := ((bndRefs s).map (· / 8192)).eraseDups
  let silent := pairs.filter fun k => (bndRefs s).all fun p => p / 8192 ≠ k || decide (p ∈ bad)
  { s with ile := { s.ile with
    bnd := bnd
    bndReg := (silent.map (2 ^ ·)).sum + 256 * Min.min 0xFFFF bad.length
    bndNow := s.ile.bndNow.filter fun f => !decide (f.1 < s.ile.cn)
    lanes := s.ile.lanes.map (bndLane s) } }

/-- The cycle begins: its number and start, the safety frames of its snapshot (R18), no lane odd, late or presented. -/
def ileBegin (s : State) : State :=
  { s with ile := { s.ile with
    n := s.oxn.n, cn := s.oxn.cn, evald := false, noAgree := false, rx := s.ile.rxNow, rxNow := []
    lanes := s.ile.lanes.map fun x => { x with odd := false, late := false, pres := none, disNow := false } } }

/-- The shadow's lanes evaluate on the active's snapshot once it is complete (R172). -/
def runShadow (m : SnapMsg) (devs : List LaneDev) (s : State) : State :=
  match shadowSnap s m with
  | some i => if m.cycle = s.ile.n then runEval i devs s else s
  | none => s

/-- The cycle start on the interlocking side. -/
def ileStart (devs : List LaneDev) (s0 : State) : State :=
  let s := bndTakeAll (carriedTell (tableDue (takeAdopt (takeIle (opsComplete (ileBegin (answerAsked s0)))))))
  if s.ile.table = none || s.ile.withdrawnNow then awaitSeed (opsWithdrawn s)
  else if shadows s then
    match s.ile.snap with
    | some m => runShadow m devs s
    | none => s
  else
    let i := ownSnap s
    let s2 := runEval i devs s
    if s2.mod.tup.role = .active && partnerShadow s2 then sendSnap i s2 else s2

/-! ### Presentation -/

/-- The presentation deadline of the cycle has not passed (Table 6.3, R13). -/
def inTime (s : State) : Bool := decide (s.gt + 20 * us < s.ile.cn + voteOfs s)

/-- LANE_PRESENT (R153 step 5): a lane latches its vector and digest before the deadline. -/
def execLanePresent (t : Nat) (l : Lane) (fault : LaneFault) (s0 : State) : Host.Outcome State Fault Refusal :=
  let s := atT t s0
  .next (if s.ile.evald && decide (l ∈ evaluating s) && (laneOf s l).pres = none && inTime s then
    let s1 := updLane l (fun x => { x with pres := some fault }) s
    if (laneOf s l).reseed = 0 then
      { s1 with ile := { s1.ile with latest := Max.max s1.ile.latest (Min.min 0xFFFF ((s.gt - s.ile.cn) / us)) } }
    else s1
  else s)

/-- A lane that has not presented by the deadline is LATE (R159). -/
def markLate (s : State) (l : Lane) : State :=
  if (laneOf s l).pres = none && !(laneOf s l).late && !(laneOf s l).odd then
    laneDisagree l 2 (updLane l (fun x => { x with late := true, odd := true }) s)
  else s

/-- PRESENTATION_DEADLINE (R153, R159): an evaluating lane that has not presented is LATE; a shadow whose readings
have not come sets PAIR_STEP and asks for the active's state (R172). -/
def execPresentationDeadline (t : Nat) (s0 : State) : Host.Outcome State Fault Refusal :=
  let s := atT t s0
  .next (if !inTime s && s.ile.upN ≠ s.ile.n && !s.ile.withdrawnNow then
    if s.ile.evald then (evaluating s).foldl markLate s
    else if shadows s then askState { s with ile := { s.ile with pairStep := true } }
    else s
  else s)

/-! ### The voter -/

/-- The vector a lane presents. -/
def laneVec (s : State) (l : Lane) (f : LaneFault) : List Bool :=
  let v := (laneSetOf s l).vec
  (v.zip (List.range v.length)).map fun p => p.1 != decide ((f.permFlips.filter (· = p.2)).length % 2 = 1)

/-- The digest a lane presents. -/
def laneDig (s : State) (l : Lane) (f : LaneFault) : Nat :=
  let x := laneSetOf s l
  dynDigest (setTable x) (setOld x) x.dyn ^^^ f.digestXor

/-- What the voting lanes presented. -/
def presented (s : State) : List (Lane × List Bool × Nat) :=
  (votable s).filterMap fun l => (laneOf s l).pres.map fun f => (l, laneVec s l f, laneDig s l f)

/-- Table 6.5: the vector granted, or a withdrawal, and the lane that differs with its kind. -/
def vote (ps : List (Lane × List Bool × Nat)) : Option (List Bool × Nat) × Option (Lane × Nat) :=
  let kind (good bad : List Bool × Nat) : Nat := if good.1 = bad.1 then 4 else 3
  match ps with
  | [x, y, z] =>
    if x.2 = y.2 && y.2 = z.2 then (some x.2, none)
    else if x.2 = y.2 then (some x.2, some (z.1, kind x.2 z.2))
    else if x.2 = z.2 then (some x.2, some (y.1, kind x.2 y.2))
    else if y.2 = z.2 then (some y.2, some (x.1, kind y.2 x.2))
    else (none, none)
  | [x, y] => if x.2 = y.2 then (some x.2, none) else (none, none)
  | _ => (none, none)

/-- The voted outcome is the module's: that of the first lane that presented what was granted. -/
def mirrorVoted (good : List Bool × Nat) (ps : List (Lane × List Bool × Nat)) (s : State) : State :=
  match ps.find? fun p => p.2 = good with
  | some p => takeOutcome p.1 (mirror p.1 s)
  | none => s

/-- A trial lane's result (R160 step 4); OK is result 1 of ILE_LANE_RESEED. -/
def trialResult (good : List Bool × Nat) (s : State) (l : Lane) : State :=
  let x := laneOf s l
  if x.reseed ≠ 3 then s
  else match x.pres with
    | some f =>
      if (laneVec s l f, laneDig s l f) = good then
        occurU Code.ileLaneReseed (Src.lane l) 1 (updLane l (fun x => { x with reseed := 0 }) s)
      else laneDisagree l 6 s
    | none => s

/-- The lane that a lane is re-seeded from: the lower-lettered of the other two (R160). -/
def reseedFrom (s : State) (l : Lane) : Option Lane :=
  (lanes3.filter fun m => m ≠ l && (laneOf s m).admitted && (laneOf s m).reseed = 0).head?

/-- The state copy follows the first update after the table phase (R160 step 2): the source's dynamic state with the
definitions it carries, and what its safety-layer checks hold. -/
def stateCopy (s : State) (l : Lane) : State :=
  match reseedFrom s l with
  | some m =>
    if (laneOf s l).reseed = 2 then
      let y := laneSetOf s m
      updLane l (fun x => { x with
        reseed := 3
        set := { x.set with
          table := y.table, old := y.old, next := y.next, dyn := y.dyn, vec := y.vec, conns := y.conns
          bnd := y.bnd.map fun b => { b with seq := none } } }) s
    else s
  | none => s

/-- Slices of 64 KiB that hold a number of bytes, at least one. -/
def sliceCount (bytes : Nat) : Nat := Max.max 1 ((bytes + 65535) / 65536)

/-- CRC-64 of one slice. -/
def sliceSum (b : List Byte) (k : Nat) : Nat := crc64 ((b.drop (65536 * k)).take 65536)

/-- CRC-64 of every slice. -/
def sliceSums (b : List Byte) : List Nat := (List.range (sliceCount b.length)).map (sliceSum b)

/-- The CRC-64 of slice n mod k of each table that a lane set holds (R167). -/
def sweepDigests (n : Nat) (x : LaneSet) : List Nat :=
  (setTables x).map fun t => sliceSum t.raw (n % sliceCount t.raw.length)

/-- The idle phase's sweep of a lane's build: slice n mod m with its CRC-64 (R167). -/
def sweepFw (n : Nat) (x : LaneSet) : Nat × Nat :=
  let k := n % sliceCount x.build.length
  (k, sliceSum x.build k)

/-- The idle phase's sweep: each voting lane takes its digests (R167). -/
def sweepTake (s : State) : State :=
  { s with ile := { s.ile with lanes := s.ile.lanes.map fun x => { x with
    sweep := if x.voting then sweepDigests s.ile.n x.set else []
    fwSum := if x.voting then some (sweepFw s.ile.n x.set) else none } } }

/-- A lane's table digests as it finds them: a fault in its lane set, `(l, true)`, makes them differ. -/
def sweepSeen (faults : List (Lane × Bool)) (s : State) (l : Lane) : List Nat × Bool :=
  ((laneOf s l).sweep, decide ((l, true) ∈ faults))

/-- The slice of the build that a lane swept has the digest recorded at boot; a fault in its lane set, `(l, false)`, makes
it differ. -/
def buildSame (faults : List (Lane × Bool)) (s : State) (l : Lane) : Bool :=
  match (laneOf s l).fwSum with
  | some r => (laneOf s l).built.getD r.1 0 = r.2 && !decide ((l, false) ∈ faults)
  | none => true

/-- A lane whose firmware digest differs from its build's has a SWEEP disagreement in any state; in 2oo2 that withdraws
(R161, R162, R167). -/
def sweepBuild (faults : List (Lane × Bool)) (s : State) (l : Lane) : State :=
  if buildSame faults s l || !(decide (l ∈ votable s)) then s
  else if (admitted s).length = 3 then laneDisagree l 5 s
  else ileWithdraw (laneDisagree l 5 s)

/-- The lanes compare the table digests of the last idle phase (R167): the lane that differs from the other two has a
SWEEP disagreement, and a difference between two withdraws. -/
def sweepTables (faults : List (Lane × Bool)) (s : State) : State :=
  let ls := (votable s).filter fun l => !(laneOf s l).sweep.isEmpty
  let d (l : Lane) : List Nat × Bool := sweepSeen faults s l
  match ls with
  | [_, _, _] => (ls.filter fun l => ls.all fun m => m = l || d m ≠ d l).foldl (fun s l => laneDisagree l 5 s) s
  | [x, y] => if d x = d y then s else ileWithdraw s
  | _ => s

/-- What the sweep of the last idle phase leads to at an update. -/
def sweepJudge (faults : List (Lane × Bool)) (s : State) : State :=
  lanes3.foldl (sweepBuild faults) (sweepTables faults s)

/-- ILE_OPERATOR is written with the command and its result, and its completion follows the cycle (R144, R146). -/
def opsFinish (s : State) : State :=
  s.ile.doneOps.foldl (fun s o =>
    let s1 := occur2 Code.ileOperator Src.voter o.1.cmd (opCode o.2) s
    { s1 with ile := { s1.ile with finished := s1.ile.finished ++ [o] } }) { s with ile := { s.ile with doneOps := [] } }

/-- A status VALUE arrives at the update that produced it (R16, R65). -/
def deliverIle (addr : Option Nat) (v : DWord) (s : State) : State :=
  match addr with
  | some a => { s with cyc := { s.cyc with inbox := s.cyc.inbox ++ [⟨a, s.gt, v, some s.gt, qGood, false⟩] } }
  | none => s

/-- Every status point (R143). While WITHDRAWN they keep the values of the last update before, with FLAGS
bit 3 and, for paths, REASON WITHDRAWN (R158). -/
def statusPoints (wd : Bool) (s : State) : State :=
  let t := curTable s
  let o := s.ile.upOld.getD tableNone
  let d := s.ile.upDyn
  let s1 := (t.paths.zip (List.range t.paths.length)).foldl (fun s p =>
    deliverIle p.1.status (pathStatus t o (reqPresent s) d s.ile.upAt wd p.2) s) s
  let s2 := (t.elems.zip (List.range t.elems.length)).foldl (fun s p =>
    deliverIle p.1.status (elemStatus t d wd p.2) s) s1
  (t.perms.zip (List.range t.perms.length)).foldl (fun s p =>
    deliverIle p.1.status (permStatus s.ile.upVec wd p.2) s) s2

/-! ### Boundary frames sent (R169) -/

/-- The table's permissives that are granted, with their records; none while the ILE state is WITHDRAWN. -/
def grantedPerms (s : State) : List (PermDef × Bool) :=
  ((curTable s).perms.zip (List.range (curTable s).perms.length)).map fun p =>
    (p.1, s.ile.granted.getD p.2 false && s.mod.tup.ile ≠ .withdrawn)

/-- Numbers of the boundary elements that the module's permissives are bound to, with their state. -/
def boundaryOut (s : State) : List (Nat × Bool) :=
  (grantedPerms s).filterMap fun p =>
    if p.1.bind.kind = 6 && p.1.bind.pos / 8192 = pairNum s then some (p.1.bind.pos % 8192, p.2) else none

/-- A boundary frame for one consuming pair (Table 6.8). DESIGN CHOICE (log 188): numbers that nothing is
bound to are absent. -/
def boundaryFrame (s : State) (dst : Nat) : List Byte :=
  let bs := boundaryOut s
  let lo := (bs.map (·.1)).foldl Min.min 8191
  let hi := (bs.map (·.1)).foldl Max.max 0
  let n := hi + 1 - lo
  let sts := (List.range (16 * ((n + 15) / 16))).flatMap fun i =>
    if n ≤ i then [false, false] else
      let g := bs.any fun b => b.1 = lo + i && b.2
      [!g, g]
  let b := le 1 0xB5 ++ le 1 (pairNum s) ++ le 1 dst ++ le 1 (b2n (s.mod.tup.ile = .withdrawn))
    ++ le 4 (s.ile.n % 2 ^ 32) ++ le 8 (s.ile.cn + voteOfs s) ++ le 2 lo ++ le 2 n ++ le 4 (curTable s).gen
    ++ bitsToBytes sts
  b ++ le 4 (crc32cFrom (0x5A5A0000 + 256 * pairNum s + dst) b)

/-- Boundary frames of an update (R169): a SOLO or ACTIVE module sends one to each other pair (log
entry 20). -/
def sendBoundary (s : State) : State :=
  if !driverRole s || (boundaryOut s).isEmpty then s
  else ((List.range 8).filter (· ≠ pairNum s)).foldl (fun s k =>
    sendRing 0x13 0xFF (payBytes (boundaryFrame s k)) s) s

/-! ### Registers -/

/-- The ILE digest of R173. -/
def ileDigestNow (s : State) : Nat :=
  crc64 (bitsToBytes s.ile.granted ++ le 8 (dynDigest (curTable s) (oldTable s) s.ile.dyn))

/-- ILE_LANE_x (Table 6.15). -/
def laneReg (s : State) (l : Lane) : Nat :=
  let x := laneOf s l
  bucket s (.lane l) + 64 * b2n (isRetired s (.lane l)) + 128 * b2n (x.reseed ≠ 0) + 256 * x.reseeds + 65536 * x.disagree

/-- ILE registers as an update leaves them (Tables 6.10 to 6.15). -/
def ileRegsNow (s : State) : List (Nat × Nat) :=
  let three (k : Nat) (f : LaneS → Bool) : Nat := (lanes3.map fun l => 2 ^ (k + laneIx l) * b2n (f (laneOf s l))).sum
  [(0x00, ileCode s.mod.tup.ile + three 3 (·.admitted) + three 6 (·.voting) + three 9 (·.reseed ≠ 0)
      + 4096 * b2n (holdOn s) + 8192 * b2n s.ile.pairStep),
   (0x04, s.ile.n % 2 ^ 32), (0x08, s.ile.n / 2 ^ 32 % 2 ^ 32),
   (0x0C, (curTable s).gen), (0x10, if s.ile.dyn.carried.isEmpty then 0 else (oldTable s).gen),
   (0x14, (runGen s).sched.voteOfsUs % 65536 + 65536 * s.ile.latest),
   (0x18, s.ile.lastLane + 4 * s.ile.lastKind),
   (0x20, laneReg s .a), (0x24, laneReg s .b), (0x28, laneReg s .c),
   (0x30, s.ile.bndReg)]

/-! ### The update -/

/-- A lane that a READMIT had brought back is out again, and retired if it was. -/
def laneBack (s : State) (r : Lane × Bool) : State :=
  if !r.2 then s else
    gateClose (laneBlk r.1) (updLane r.1 (fun x => { x with
      admitted := false, voting := false, reseed := 0, pres := none, joining := false, sweep := [], set := setEmpty x.set })
      { s with nva := { s.nva with retired := s.nva.retired ++ [⟨.lane r.1, 0, s.gt, bucket s (.lane r.1)⟩] } })

/-- The change of the ILE state that a READMIT has brought about would fall in an arbitration: the command is refused with
BUSY and has no effect (R39, log entry 178). -/
def admitRefused (s : State) : State :=
  let s1 := noteRefusal 6 .busy (s.ile.readmits.foldl laneBack s)
  { s1 with ile := { s1.ile with
    readmits := [], stNext := if s.ile.latch then some .withdrawn else s1.ile.stNext } }

/-- The lanes that vote are admitted again (R163, R165): the latch clears at the first update at which two vote, and a
third lane that votes makes 3-LANE at that update (R163; log entry 201). -/
def voteAdmit (votes : Nat) (s : State) : State :=
  let back := s.ile.latch && s.ile.stNext ≠ some .withdrawn
  let full := votes = 3 && s.mod.tup.ile ≠ .lane3 && s.mod.tup.ile ≠ .withdrawn && s.ile.stNext = none
  if (back || full) && s.mod.arb && !s.ile.readmits.isEmpty then admitRefused s
  else if back then
    occur Code.ileReadmit Src.voter 0 { s with ile := { s.ile with
      latch := false, readmits := [], stNext := some (ileOf (admitted s)) } }
  else if full then
    setIleState .lane3 { s with ile := { s.ile with
      readmits := [], lanes := s.ile.lanes.map fun x => { x with joining := false } } }
  else s

/-- No vector is granted: operator commands end with the results of the lead lane, no code of the model is written, and
the ILE withdraws. -/
def voteNone (s : State) : State :=
  match leadLane s with
  | some l =>
    let s1 := takeOutcome l s
    ileWithdraw { s1 with ile := { s1.ile with events := s.ile.events } }
  | none => ileWithdraw s

/-- The vote of an update with model state: grants or withdrawal, disagreements, recovery. -/
def voteStep (faults : List (Lane × Bool)) (s : State) : State :=
  let ps := presented s
  let v := vote ps
  let s0 := { s with ile := { s.ile with
    lanes := (lanes3.map fun l => { laneOf s l with voting := ps.any (·.1 = l) }) } }
  match (if s.ile.noAgree || (s.ile.latch && s.ile.stNext = some .withdrawn) then none else v.1) with
  | none => voteNone s0
  | some good =>
    let s1 := mirrorVoted good ps { s0 with ile := { s0.ile with granted := good.1 } }
    let s2 := match v.2 with
      | some d => laneDisagree d.1 d.2 (updLane d.1 (fun x => { x with odd := true }) s1)
      | none => s1
    let s3 := lanes3.foldl stateCopy (lanes3.foldl (trialResult good) s2)
    let s4 := sweepJudge faults s3
    voteAdmit ps.length (if (admitted s4).length < 2 then ileWithdraw s4 else s4)

/-- The events of the evaluation are written from the voted outcome (R504). -/
def writeEvents (s : State) : State :=
  s.ile.events.foldl (fun s e => occurU e.1 Src.voter e.2 s) { s with ile := { s.ile with events := [] } }

/-- The update's outcome is what the status points show from now on. -/
def showOutcome (s : State) : State :=
  { s with ile := { s.ile with upDyn := s.ile.dyn, upOld := s.ile.old, upAt := s.ile.cn, upVec := s.ile.granted } }

/-- What the destinations of the permissives get from this update. -/
def driveNow (s : State) : State :=
  drive (s.ile.cn + voteOfs s) (((grantedPerms s).filter (·.1.bind.kind ≠ 0)).map fun p => (p.1.bind, p.2)) s

/-- What every update does after the vote (R153 steps 6 and 7). -/
def updateTail (s : State) : State :=
  let wd := s.mod.tup.ile = .withdrawn || s.ile.latch
  let s1 := if s.ile.evald && !wd then showOutcome s else s
  let s2 := driveNow (opsFinish (writeEvents s1))
  let s3 := statusPoints wd s2
  let s4 := { s3 with ile := { s3.ile with upN := s3.ile.n, digest := ileDigestNow s3 } }
  let s5 := sendBoundary (tioRefreshNow false s4)
  let s6 := if s5.ile.evald && (s5.mod.tup.role = .active || s5.mod.tup.role = .standby) then
      sendP0 0x09 [s5.ile.n, s5.ile.digest] s5 else s5
  sweepTake (carriedTell { s6 with ile := { s6.ile with regs := ileRegsNow s6 } })

/-- VOTER_UPDATE (R157): at C_n + VOTE_OFS. A shadow whose readings did not come votes nothing and keeps what
it had (R172). `faults` are what disturbs the sweep: in a lane's tables, or in its build (R167). -/
def execVoterUpdate (t : Nat) (faults : List (Lane × Bool)) (s0 : State) : Host.Outcome State Fault Refusal :=
  let s := atT t s0
  .next (if s.ile.upN = s.ile.n || decide (s.gt < s.ile.cn + voteOfs s) || s.mod.tup.run = .boot then s
    else if s.ile.table = none || s.ile.withdrawnNow || !s.ile.evald then updateTail s
    else updateTail (voteStep faults s))

/-- A table of a lane set passes R148 against its generation; for that of a generation no longer stored, which carried
paths keep, every check is made that needs nothing else of the generation. -/
def heldOk (s : State) (t : IleTable) : Bool :=
  match genByNum s t.gen with
  | some g => tableUsable s g t
  | none => tableFormOk t && keyHas s t.keySlot 3

/-- RESEED_TABLE_PHASE_DONE (R160 step 1): the source's tables are in the odd lane's set and the lane has checked them;
`ok` is whether the copy arrived whole. One that fails starts the phase anew (DEDUCED, log entry 21). -/
def execReseedTablePhaseDone (t : Nat) (l : Lane) (ok : Bool) (s0 : State) : Host.Outcome State Fault Refusal :=
  let s := atT t s0
  .next (if (laneOf s l).reseed ≠ 1 then s
    else match reseedFrom s l with
    | none => s
    | some m =>
      let y := laneSetOf s m
      if ok && (setTables y).all (heldOk s) then
        updLane l (fun x => { x with
          reseed := 2, set := { x.set with table := y.table, old := y.old, next := y.next } }) s
      else reseedLane l s)

/-! ### Events that an evaluation also finds -/

/-- The permissives that a dynamic state gives in the cycle (R132 step 4). -/
def vecOf (s : State) (t old : IleTable) (d : IleDyn) : List Bool := permVector t old (reqIn s t) (holdOn s) d

/-- The dynamic state changes in a lane, and the permissives with it. -/
def dynLane (f : IleDyn → IleDyn) (s : State) (x : LaneSet) : LaneSet :=
  { x with dyn := f x.dyn, vec := vecOf s (setTable x) (setOld x) (f x.dyn) }

/-- The dynamic state changes in every lane alike, and the permissives with it. -/
def eachDyn (f : IleDyn → IleDyn) (s : State) : State :=
  { s with ile := { s.ile with
    dyn := f s.ile.dyn
    vec := vecOf s (curTable s) (oldTable s) (f s.ile.dyn)
    lanes := s.ile.lanes.map fun x => if x.admitted then { x with set := dynLane f s x.set } else x } }

/-- PATH_SET_TIMEOUT (R133, R134): a REQUESTED path, its request still present, whose set timer has reached its limit in
the cycle that the lanes have evaluated; one that came to REQUESTED in that cycle has made its transition (R132). -/
def execPathSetTimeout (t i : Nat) (s0 : State) : Host.Outcome State Fault Refusal :=
  let s := atT t s0
  let d := s.ile.dyn.paths.getD i pathFree
  .next (if s.ile.evald && d.st = .requested && d.setN ≠ s.ile.n && reqPresent s i
      && decide (d.setStart + (pathAt (curTable s) i).setTimeoutS * sec ≤ s.ile.cn) then
    occurU Code.ileSetTimeout Src.voter i (eachDyn (fun y => { y with
      paths := updAt y.paths i fun x => { x with st := .free, timeout := true } }) s)
  else s)

/-- RELEASE_DELAY_ELAPSED (R133, R134): a RELEASING path whose delay has passed without a lapse in the cycle that the
lanes have evaluated; one that came to RELEASING in that cycle has made its transition (R132). -/
def execReleaseDelayElapsed (t i : Nat) (s0 : State) : Host.Outcome State Fault Refusal :=
  let s := atT t s0
  let d := s.ile.dyn.paths.getD i pathFree
  let p := pathAt (curTable s) i
  .next (if s.ile.evald && d.st = .releasing && d.relN ≠ s.ile.n && decide (d.relStart + releaseNs p d ≤ s.ile.cn)
      && (posOf s.ile.dyn.elems p.dst = .a || d.emerg) && posOf s.ile.dyn.elems p.closer = .a && !reqPresent s i then
    eachDyn (fun y => { y with
      paths := updAt y.paths i fun x => { x with st := .free, emerg := false, adopted := false } }) s
  else s)

/-- ILE_DETECT_FAULT (R125): a faulty contact combination has lasted its time in the cycle that the lanes have
evaluated. -/
def execIleDetectFault (t i : Nat) (s0 : State) : Host.Outcome State Fault Refusal :=
  let s := atT t s0
  let d := s.ile.dyn.elems.getD i elemNone
  .next (if s.ile.evald && decide (i < s.ile.dyn.elems.length) && !d.fault && decide (d.combo ≠ 0)
      && decide (d.combo = 2 ∨ d.since + (elemAt (curTable s) i).travel ≤ s.ile.cn) then
    occurU Code.ileDetectFault Src.voter i (eachDyn (fun y => { y with
      elems := updAt y.elems i fun x => { x with fault := true } }) s)
  else s)

/-- COLD_HOLD_END (R166). -/
def execColdHoldEnd (t : Nat) (s0 : State) : Host.Outcome State Fault Refusal :=
  let s := atT t s0
  .next (match s.ile.hold with
    | some h => if h ≤ s.gt then { s with ile := { s.ile with hold := none } } else s
    | none => s)

/-! ### Boundary elements -/

/-- The boundary record of a producing pair. -/
def bndOf (s : State) (pair : Nat) : Option BndS := s.ile.bnd.find? (·.pair = pair)

/-- ILE_BND_TIMEOUT (R170): at the snapshot no accepted frame is within BND_TIMEOUT; the code is written once. -/
def execIleBndTimeout (t pair : Nat) (s0 : State) : Host.Outcome State Fault Refusal :=
  let s := atT t s0
  .next (match bndOf s pair with
    | none => s
    | some b =>
      if !b.invalid && (bndNewest s.ile.cn s.cyc.par.bndTimeout b).isNone then
        occurU Code.ileBndTimeout Src.boundary pair { s with ile := { s.ile with
          bnd := s.ile.bnd.map fun x => if x.pair = pair then { x with invalid := true } else x } }
      else s)

/-- A boundary frame arrives: it waits for the next snapshot (R153 step 1). -/
def takeBoundary (f : List Byte) (s : State) : State :=
  { s with ile := { s.ile with bndNow := s.ile.bndNow ++ [(s.gt, f)] } }

/-! ### Admission -/

/-- A lane starts with its build of the running image, whose slice digests are recorded (R150, R167). -/
def laneStart (image : Nat) (l : Lane) : LaneS :=
  let b := Config.laneBuild image (laneIx l)
  { laneReset with built := sliceSums b, set := { laneSetReset with build := b } }

/-- Lanes are admitted at the end of BOOT (Table 2.7): those that are not retired. The supervisor loads the build of all
three of the running image. -/
def lanesBoot (image : Nat) (s : State) : State :=
  lanes3.foldl (fun s l => updLane l (fun _ =>
    let x := laneStart image l
    if isRetired s (.lane l) then x else { x with admitted := true, set := setLoaded s x.set }) s) s

/-- A READMIT of lanes under R165: named lanes that pass and lanes not retired are admitted, and seeded from
the partner when it can serve, else by cold start. -/
def ileRecover (s : State) : State :=
  let s1 := lanes3.foldl (fun s l => updLane l (fun x => { x with
    admitted := !isRetired s (.lane l), reseed := 0, odd := false, joining := !isRetired s (.lane l), sweep := []
    set := if isRetired s (.lane l) then setEmpty x.set else setLoaded s x.set }) s) s
  if (admitted s1).length < 2 then s1
  else if partnerServes s1 then askState s1
  else ileCold s1

/-- A lane readmitted while the ILE runs is re-seeded from the voting lanes (R163). -/
def laneRejoin (l : Lane) (s : State) : State := laneAgain l (laneSliceStop (gateOpen (laneBlk l) s))

end Sys2Proof.Machine
end

