-- ==== Sys2Proof/Machine/Forces.lean ====
section
/-! DEFINITION. Commands that wait for a boundary (R36, R38, R39), and the force state's part of one (R51, R86, R89,
R114), which a commit completes (R16). -/

namespace Sys2Proof.Machine

/-! ### Who is due -/

/-- A waiting command is due: its doorbell and acceptance lie before the boundary (R36, R86); one that the active
relayed, from the boundary that it names on. -/
def pendDue (s : State) (p : PendCmd) : Bool :=
  match p.at_ with
  | some n => decide (n ≤ s.cyc.cycle)
  | none => decide (p.db < s.cyc.houseEnd)

/-- The waiting commands that satisfy a condition take effect in the order of acceptance. -/
def takeSome (f : PendCmd → Bool) (eff : PendCmd → State → State) (s : State) : State :=
  let now := s.cyc.pend.filter f
  let rest := s.cyc.pend.filter fun p => !f p
  now.foldl (fun s p => eff p s) { s with cyc := { s.cyc with pend := rest } }

/-- The due commands of a class take effect. -/
def takeClass (f : Pend → Bool) (eff : PendCmd → State → State) (s : State) : State :=
  takeSome (fun p => pendDue s p && f p.body) eff s

/-- A relayed command, which has no call on this module. -/
def relayed (p : PendCmd) : Bool := p.call.isNone && p.at_.isSome

/-- R39 and a guard at the instant of effect; what a partner relays takes effect as it is. -/
def guarded (ok : State → Bool) (eff : PendCmd → State → State) (p : PendCmd) (s : State) : State :=
  if relayed p then eff p s
  else if s.mod.arb then answerRefuse p .busy s
  else if !ok s then answerRefuse p .guard s
  else eff p s

/-! ### Force state -/

/-- Status of a FORCE_SET that R86 refuses, in that rule's order. -/
def forceCheck (s : State) (addr ty : Nat) (v : DWord) : Option Status :=
  if 4096 ≤ s.cyc.forces.length ∧ (forceOn s.cyc.forces addr).isNone then some .forceFull
  else match pointAt s.chg.cur.points addr with
    | none => some .notAssigned
    | some p =>
      if p.ty = .ile then some .notForceable
      else if typeCode p.ty ≠ ty || !valueOk p.ty v then some .badValue
      else none

/-- A force entered in the table, sorted by address. -/
def forcePut (f : Force) : List Force → List Force
  | [] => [f]
  | x :: xs => if f.addr < x.addr then f :: x :: xs else if f.addr = x.addr then f :: xs else x :: forcePut f xs

/-- An address whose force R113 would drop between two generations (R114). -/
def wouldDrop (old : List Point) (s : State) (addr : Nat) : Bool :=
  match pointAt old addr, pointAt s.chg.cur.points addr with
  | some a, some b => !(a.ty = b.ty && a.isOut = b.isOut)
  | some _, none => true
  | _, _ => false

/-- The force table takes a content and a version, and the force state follows (R89). -/
def forcesTake (fs : List Force) (ver : Nat) (s : State) : State :=
  setForced (!fs.isEmpty) { s with cyc := { s.cyc with forces := fs, forceVer := ver } }

/-- The role and run states in which forces change (Table 2.7). -/
def forceGuard (s : State) : Bool :=
  driverRole s && (s.mod.tup.run = .idle || s.mod.tup.run = .run || s.mod.tup.run = .hold)

/-- A force command at its boundary; `old` is the I/O map before a switch at that boundary (R114). -/
def forceEff (old : List Point) (p : PendCmd) (s : State) : State :=
  let ver := (s.cyc.forceVer + 1) % 2 ^ 32
  match p.body with
  | .force a ty v => guarded (fun s => forceGuard s && !wouldDrop old s a)
      (fun p s => match forceCheck s a ty v with
        | some st => answerFail p st s
        | none => answerOk p ver (forcesTake (forcePut ⟨a, ty, v⟩ s.cyc.forces) ver s)) p s
  | .forceClear a => guarded (fun s => forceGuard s && !wouldDrop old s a)
      (fun p s => answerOk p ver (forcesTake
        (if a = 0xFFFFFFFF then [] else s.cyc.forces.filter (·.addr ≠ a)) ver s)) p s
  | .forceTable ver fs => forcesTake fs ver s
  | _ => s

/-- Force commands. -/
def isForce : Pend → Bool
  | .force _ _ _ => true
  | .forceClear _ => true
  | .forceTable _ _ => true
  | _ => false

/-- The FORCE_TABLE packet (R51). -/
def forcePay (s : State) : List Nat :=
  [s.cyc.forceVer, s.cyc.cycle] ++ (s.cyc.forces.map fun f => [f.addr, f.ty, f.value.toNat]).flatten

/-- The active's force table goes to a STANDBY, and to a new module that has had it with step 5 of its resynchronisation
(R51). -/
def forcesGo (s : State) : Bool :=
  pairRuns s || (s.mod.tup.role = .active && s.mod.partner.role = .syncing && s.plv.source && decide (6 ≤ s.plv.step))

/-- Force commands of a condition take effect; the active copies a changed table to its standby (R51). -/
def takeForces (f : PendCmd → Bool) (old : List Point) (s : State) : State :=
  let s1 := takeSome (fun p => f p && isForce p.body) (forceEff old) s
  if s1.cyc.forceVer ≠ s.cyc.forceVer && forcesGo s1 then sendBulk 0x07 (forcePay s1) s1 else s1

/-- The force state's part of a boundary. -/
def boundaryForce (old : List Point) (s : State) : State := takeForces (pendDue s) old s

/-- A force command whose doorbell and acceptance lie before a T_commit (R16). The boundary lasts from the end of
housekeeping to T_commit, so one that came in between still takes effect at it. -/
def commitDue (s : State) (tc : Nat) (p : PendCmd) : Bool :=
  match p.at_ with
  | some n => decide (n ≤ s.cyc.cycle)
  | none => decide (p.db < tc)

/-- The force commands that a commit finds waiting. -/
def commitForces (tc : Nat) (s : State) : State := takeForces (commitDue s tc) (if s.chg.firstDue then s.chg.oldMap else s.chg.cur.points) s

end Sys2Proof.Machine
end

