-- ==== Sys2Proof/Machine/Cyc.lean ====
section
/-! DEFINITION. The program cycle (chapter 3): commit, agreement, execution, publication, signature and
housekeeping. -/

namespace Sys2Proof.Machine

/-! ### Commit (R16, R65 to R67, R87) -/

/-- A point that has received nothing. -/
def rawNone : RawPt := ⟨0, 0, none, 0, false, false, false⟩

/-- The newest of some arrivals; of equal instants the later one. -/
def newestOf (l : List Arr) : Option Arr :=
  l.foldl (fun m a => match m with
    | some b => if b.at_ ≤ a.at_ then some a else some b
    | none => some a) none

/-- A point's source cannot reach it now (R186, R190). -/
def lostNow (s : State) (p : Point) : Bool :=
  match p.link with
  | .net => !netReachable s p.addr
  | .safety => safetyDead s p.addr
  | _ => false

/-- A point whose value is the module's own status at the commit (R308, R322). -/
def ownStatus (s : State) (p : Point) : Option Nat :=
  match p.link with
  | .alStatus x => some (alStatusPoint s x)
  | .canStatus x => some (canStatusPoint s x)
  | _ => none

/-- What the store of a point holds after the commit at `tc`, given its arrivals before it (R16). -/
def rawNext (s : State) (tc : Nat) (p : Point) (news : List Arr) : RawPt :=
  match ownStatus s p with
  | some v => ⟨BitVec.ofNat 64 v, tc, some tc, qGood, true, false, false⟩
  | none =>
    let old := Tab.getD s.cyc.raw p.addr rawNone
    let lost := lostNow s p || (old.lost && news.isEmpty)
    match newestOf news with
    | some a => ⟨a.value, a.at_, a.born, a.qual, true, lost, a.forced⟩
    | none => { old with lost := lost }

/-- A condition of the source that overrides the point's QUAL at the commit. -/
def qualOver (s : State) (p : Point) : Option Nat :=
  match p.link with
  | .alI x => alQual s x true
  | .alV x => alQual s x false
  | .alStatus x => if isRetired s (.al x) then some qRetired else none
  | .hart x => hartQual s x p.addr
  | .canRx x => let q := canQual s x p.addr qNoComm qRetired
    if q = 0 then none else some q
  | .ile => if s.mod.tup.ile = .withdrawn then some qUncertain else none
  | _ => none

/-- A status point whose path or element is new in the current generation's table, before that table is in
use (R104, R106). -/
def statusNew (s : State) (a : Nat) : Bool :=
  let n := s.chg.cur.ile
  let o := curTable s
  if o.gen = n.gen then false
  else (n.paths.any fun p => p.status = some a && !o.paths.any fun q => q.key = p.key)
    || (n.elems.any fun e => e.status = some a && !o.elems.any fun q => q.key = e.key)

/-- A QUAL of Table 3.3 (R64); a received code outside the table counts as its class without detail, and one of the
class that the table does not have as BAD (log entry 144). -/
def qualCode (q : Nat) : Nat :=
  if [0xC0, 0x40, 0x44, 0x48, 0x4C, 0x00, 0x04, 0x08, 0x0C, 0x10, 0x14, 0x18].contains q then q
  else if q / 64 = 3 then qGood
  else if q / 64 = 1 then qUncertain
  else qBad

/-- Value, QUAL and the instant AGE counts from, before forces (R65, R66, R186). A condition of the source stands over
staleness and a substitute (log entry 145). -/
def rawView (s : State) (tc : Nat) (p : Point) (r : RawPt) : DWord × Nat × Option Nat :=
  let fill := p.subst.getD 0
  if !r.got || (p.link = .ile && statusNew s p.addr) then
    (fill, if qualOver s p = some qRetired then qRetired else qNoComm, none)
  else if r.lost then (p.subst.getD r.value, qNoComm, r.born)
  else match qualOver s p with
    | some q => (r.value, q, r.born)
    | none =>
      if p.freshNs ≠ 0 ∧ r.at_ + p.freshNs ≤ tc then
        match p.subst with
        | some v => (v, qSubst, r.born)
        | none => (r.value, qStale, r.born)
      else (r.value, qualCode r.qual, r.born)

/-- The input entry of a point at a commit (R65, R67, R87). -/
def inputEntry (s : State) (tc : Nat) (p : Point) (r : RawPt) (count : Nat) : Entry :=
  let v := rawView s tc p r
  let f := forceOn s.cyc.forces p.addr
  let value := match f with
    | some x => x.value
    | none => v.1
  { value := value
    ty := p.ty
    qual := BitVec.ofNat 8 v.2.1
    forced := f.isSome || r.forced
    changed := value != (inEntry s p.addr).value
    overrun := decide (1 < count)
    safety := r.got && safetyFlag s.chg.cur p
    age := ageOf v.2.2 tc }

/-- The fields of the cycle status record of a T_commit, in the order of Table 3.8 (R91). Times are whole
microseconds, rounded down, and EXEC_US of a cycle that ended without a publication is 0 (log entry 146).
DESIGN CHOICE (log 181): the first record after an adopted count. -/
def cycleRecord (tc : Nat) (s : State) : List Nat :=
  let c := s.cyc
  let ran := c.tc ≠ 0
  let len := if ran then (tc - c.tc) / us else 0
  let ret := (List.range 4).filter fun n => isRetired s (.cell n)
  let wait := c.tc + c.par.minCycle - c.readyAt
  [if ran then c.cycle - 1 else 0, c.tc, Min.min 0xFFFFFFFF len, Min.min 0xFFFFFFFF (Max.max c.cycleMax len),
   if ran then (c.pubAt - c.tc) / us else 0, boundNow s (tierNum s.mod.tup.tier), c.rollbacks,
   c.wdtExpiries, (((List.range 4).map fun n => if n ∈ ret then 2 ^ (4 + n) else 2 ^ n).sum), c.forces.length,
   c.forceVer, c.fetched, c.sigMissed,
   if ran && s.mod.tup.run = .run && c.par.minCycle ≠ 0 then wait / us else 0]

/-- The first T_commit under a generation: the trial window starts and the schedule switch is due to be
announced (R105, R119). -/
def firstCommit (tc : Nat) (s : State) : State :=
  if !s.chg.firstDue then s else
    let e := if s.mod.tup.change = .trial then tc + s.chg.cur.trialS * sec else s.chg.trialEnd
    { s with
      chg := { s.chg with
        firstDue := false, trialEnd := e, oldMap := []
        record := if s.mod.tup.change = .trial then s.chg.record.set 5 e else s.chg.record }
      oxn := { s.oxn with announce := some s.chg.cur.num } }

/-- The module runs as the shadow of an active: STANDBY, or SYNCING in step 8 of Table 9.7a. -/
def follows (s : State) : Bool :=
  s.mod.tup.role = .standby || (s.mod.tup.role = .syncing && s.plv.step = 8 && !s.plv.source)

/-- The run state that the module's cycles follow: a shadow in step 8 takes its source's. -/
def cycleRun (s : State) : RunState :=
  if s.mod.tup.role = .syncing && follows s then s.mod.partner.run else s.mod.tup.run

/-- Whether the cycle about to commit executes (R37, R45). -/
def willExecute (s : State) : Bool :=
  cycleRun s = .run

/-- Phase 1 at T_commit `tc`: the forces that wait, the input image, the force snapshot, and the registers that
follow the commit. -/
def commitAt (tc : Nat) (s0 : State) : State :=
  let s := firstCommit tc (canCommitBad (commitForces tc s0))
  let now := s.cyc.inbox.filter fun a => decide (a.at_ < tc)
  let rows := (s.chg.cur.points.filter fun p => !p.isOut).map fun p =>
    let news := now.filter fun a => a.addr = p.addr
    (p, rawNext s tc p news, news.length)
  let s1 := { s with can := { s.can with regs := canRegsNow s } }
  { s1 with hl := { s1.hl with overBound := false }, cyc := { s.cyc with
    inbox := s.cyc.inbox.filter fun a => !decide (a.at_ < tc)
    raw := rows.foldl (fun t r => Tab.set t r.1.addr r.2.1) []
    img := rows.foldl (fun t r => Tab.set t r.1.addr (inputEntry s tc r.1 r.2.1 r.2.2)) []
    snap := s.cyc.forces
    snapVer := s.cyc.forceVer
    tc := tc
    executing := willExecute s
    phase := .agree
    attempt := tc
    retried := false
    mySig := none
    partnerSig := match s.cyc.partnerSig with
      | some p => if p.1 = s.cyc.cycle then some p else none
      | none => none
    sigEqual := false
    cellFails := []
    fetched := 0
    asked := []
    minDone := false
    gapNs := 0
    cycleMax := if s.cyc.tc = 0 then s.cyc.cycleMax else Max.max s.cyc.cycleMax ((tc - s.cyc.tc) / us)
    rec91 := cycleRecord tc s } }

/-! ### Publication and signature (R77, R78, R37) -/

/-- A driving module outside BOOT. -/
def driving (s : State) : Bool :=
  (s.mod.tup.role = .solo || s.mod.tup.role = .active) && s.mod.tup.run ≠ .boot

/-- A program write reaches its output point (R77 step 1). -/
def writeBase (s : State) (base : Tab Entry) (w : Nat × DWord) : Tab Entry :=
  match pointAt s.chg.cur.points w.1 with
  | some p =>
    if p.isOut then
      let v := if p.ty = .bool then BitVec.ofNat 64 (w.2.toNat % 2) else w.2
      Tab.set base w.1 { Tab.getD base w.1 (safeEntry s.chg.cur.alp p 0) with
        value := v, age := BitVec.ofNat 32 s.cyc.cycle }
    else base
  | none => base

/-- The base image in IDLE: the safe image, every WRITTEN as it was (R37, R44). -/
def idleBase (s : State) : Tab Entry :=
  (s.chg.cur.points.filter (·.isOut)).foldl (fun t p =>
    Tab.set t p.addr (safeEntry s.chg.cur.alp p (Tab.getD s.cyc.base p.addr Entry.zero).age)) []

/-- The output image over a base image (R77 step 2). -/
def overlay (s : State) (base : Tab Entry) : Tab Entry :=
  base.foldl (fun t e =>
    let f := forceOn s.cyc.snap e.1
    let v := match f with
      | some x => x.value
      | none => e.2.value
    Tab.set t e.1 { e.2 with value := v, forced := f.isSome, changed := v != (outEntry s e.1).value }) []

/-- The pointer flips: the image is published (R77 step 4). -/
def flip (base : Tab Entry) (s : State) : State :=
  { s with cyc := { s.cyc with
    base := base
    prevOut := s.cyc.outImg
    outImg := overlay s base
    prevPubGen := s.cyc.pubGen
    pubAt := s.gt
    pubGen := s.chg.cur.num } }

/-- The setpoint that the image gives channel x, where the map assigns one (R107). -/
def setpointOf (s : State) (x : Nat) : Option Int :=
  match linked s.chg.cur.points (.alSet x) with
  | [] => none
  | a :: _ => some (sgn64 (outEntry s a).value.toNat)

/-- Local outputs of a publication (R21). -/
def applyLocal (executing : Bool) (s : State) : State :=
  tioRefreshNow true (canPublish (outEntry s) executing (alPublish (setpointOf s) s))

/-- Signals in one packet (Table 9.8). -/
def signalBytes (s : State) (first : Nat) (addrs : List Nat) : List Byte :=
  le 1 (pairNum s) ++ pad 1 ++ le 2 first ++ le 2 addrs.length ++ pad 2 ++ le 4 s.cyc.pubGen ++ pad 4
    ++ le 8 s.cyc.cycle ++ le 8 s.cyc.pubAt
    ++ (addrs.map fun a =>
      let e := outEntry s a
      le 8 e.value.toNat ++ le 1 (typeCode e.ty) ++ [e.qual] ++ le 1 (b2n e.forced) ++ pad 1).flatten

/-- Packets of at most 1,024 signals, n of them at most. -/
def sendSignalsFrom : Nat → Nat → List Nat → State → State
  | 0, _, _, s => s
  | n + 1, first, l, s =>
    if l.isEmpty then s
    else sendSignalsFrom n (first + 1024) (l.drop 1024)
      (sendRing 0x12 0xFF (payBytes (signalBytes s first (l.take 1024))) s)

/-- The published signals leave the driving module (R265). -/
def sendSignals (s : State) : State :=
  if driving s then sendSignalsFrom 16 0 (s.chg.cur.signals.take 16384) s else s

/-- The change digest (R78): each written line once. -/
def changeDigestOf (lines : List (Nat × List Byte)) : Nat :=
  let once := lines.foldl (fun (t : Tab (List Byte)) l => Tab.set t l.1 l.2) []
  (once.map fun l => crc64 (le 8 l.1 ++ l.2)).sum % 2 ^ 64

/-- The cycle signature (R78), 16 bytes as a number. -/
def signatureOf (s : State) : Nat :=
  ofLe ((sha512 (le 8 s.cyc.cycle ++ le 8 s.cyc.tc ++ le 4 s.chg.cur.num ++ le 4 s.cyc.snapVer
    ++ digestBytes s.cyc.img ++ digestBytes s.cyc.outImg ++ le 8 s.cyc.changeDigest)).take 16)

/-- 4 KiB granules that the journal takes (Table 1.5). -/
def journalMax : Nat := 12288

/-- The journal append of housekeeping (R25, R26): one record of every changed granule, or RETAIN_LAG; a
journal past half full folds into the older checkpoint. -/
def journalAppend (s : State) : State :=
  let n := s.cyc.lag.length
  let fails := s.flt.appendFails
  let s := if fails then { s with flt := { s.flt with appendFails := false } } else s
  if n = 0 then s
  else if journalUse s.nvb + n ≤ journalMax && !isRetired s (.engine 6) && !fails then
    let new := changedVars s.nvb (retainedOf s.chg.cur.vars s.cyc.vars)
    let b := { s.nvb with records := s.nvb.records ++ [⟨n, s.chg.cur.num, new⟩] }
    { s with
      cyc := { s.cyc with lag := [] }
      nvb := if journalMax < 2 * journalUse b then foldJournal b else b }
  else occur Code.retainLag Src.sv 0 s

/-- Phase 6 begins (R79). -/
def toHouse (s : State) : State := journalAppend { s with cyc := { s.cyc with phase := .house } }

/-- Phase 5: both signatures are here and are compared (R78, R242). -/
def compareSigs (s : State) : State :=
  match s.cyc.mySig, s.cyc.partnerSig with
  | some a, some b =>
    if s.cyc.phase = .sig ∧ a.1 = b.1 then
      if a.2 = b.2 then toHouse { s with cyc := { s.cyc with sigEqual := true } }
      else toHouse (arbDetect .signature s)
    else s
  | _, _ => s

/-- The module exchanges signatures and waits for its partner's: an ACTIVE module that is not muted with its
STANDBY partner, or a shadow that has not found the active silent and is not to take SOLO at the next boundary (R241,
R247, R248, R251). -/
def sigWaits (s : State) : Bool :=
  (pairRuns s && !s.plv.mute) || (follows s && !s.plv.soloNext && !(s.mod.arb && s.plv.arbCause = 3))

/-- The source of a resynchronisation in step 8: it sends what a shadow needs and waits for nothing. -/
def feedsShadow (s : State) : Bool :=
  s.mod.tup.role = .active && s.mod.partner.role = .syncing && s.plv.source && s.plv.step = 8

/-- Phase 5 begins. -/
def toSig (s : State) : State :=
  if sigWaits s || feedsShadow s then
    let g := signatureOf s
    let s1 := sendP0 0x06 (payBytes (le 8 s.cyc.cycle ++ le 16 g))
      { s with cyc := { s.cyc with mySig := some (s.cyc.cycle, g) } }
    if sigWaits s then compareSigs { s1 with cyc := { s1.cyc with phase := .sig } } else toHouse s1
  else toHouse s

/-- Phase 4 without phase 3 (R37). -/
def publishIdle (s : State) : State :=
  let base := if cycleRun s = .idle then idleBase s else s.cyc.base
  toSig (sendSignals (applyLocal false (flip base { s with cyc := { s.cyc with changeDigest := 0 } })))

/-- Phase 2 has ended (R70). -/
def afterAgree (s : State) : State :=
  if s.cyc.executing then { s with cyc := { s.cyc with phase := .execute } } else publishIdle s

/-- The phase 2 message (R68): its payload as numbers. -/
def agreePayload (s : State) : List Nat :=
  [s.cyc.tc, s.cyc.cycle, s.cyc.snapVer, fnStatus s]
    ++ ((digests s.cyc.img).map fun d => [d.1, d.2.toNat]).flatten

/-- Phases 1 and 2 begin on a module with a T_commit of its own. -/
def beginCycle (s : State) : State :=
  let s1 := commitAt s.gt s
  if pairRuns s1 && !s1.plv.mute then sendP0 0x02 (agreePayload s1) s1
  else if feedsShadow s1 then afterAgree (sendP0 0x02 (agreePayload s1) s1)
  else afterAgree s1

/-- A handover in hand holds the next T_commit back (R259). -/
def handoverHolds (s : State) : Bool := s.plv.handoverAt.isSome && pairRuns s && !s.mod.arb

/-- MIN_CYCLE has passed since the last T_commit, what tier changes added to the gap not counted (R61, R383). -/
def minPassed (s : State) : Bool := decide (s.cyc.tc + s.cyc.par.minCycle + gapNow s ≤ s.gt)

/-- T_COMMIT (R16, R61): a SOLO or ACTIVE module in RUN, once MIN_CYCLE has passed and no tier change of D0 runs
(R383). -/
def execTCommit (t : Nat) (s0 : State) : Host.Outcome State Fault Refusal :=
  let s := atT t s0
  .next (if driving s && s.mod.tup.run = .run && s.cyc.phase = .boundary && s.chg.mig = none && !handoverHolds s
      && s.clk.gapFrom.isNone && (s.cyc.minDone || minPassed s) then beginCycle s else s)

/-- MIN_CYCLE_ELAPSED (R61). -/
def execMinCycleElapsed (t : Nat) (s0 : State) : Host.Outcome State Fault Refusal :=
  let s := atT t s0
  .next (if s.cyc.phase = .boundary && minPassed s then
    { s with cyc := { s.cyc with minDone := true } } else s)

/-- A non-executing cycle begins at C_n in IDLE and HOLD (R37); a shadow waits for its active's instead. -/
def idleCycle (s : State) : State :=
  if (driving s || (s.mod.tup.role = .syncing && !follows s)) && (s.mod.tup.run = .idle || s.mod.tup.run = .hold)
      && s.cyc.phase = .boundary && s.chg.mig = none && !handoverHolds s then
    beginCycle s
  else s

/-- OXUGER_CYCLE_START (R180, R153, R37): C_n. -/
def execOxugerCycleStart (t n : Nat) (devs : List LaneDev) (s0 : State) : Host.Outcome State Fault Refusal :=
  let s := atT t s0
  .next (if cycleDue n s then idleCycle (ileStart devs (oxnStart n s)) else s)

/-- AGREE_TIMEOUT (R70): on the active, since the end of phase 1. -/
def execAgreeTimeout (t : Nat) (s0 : State) : Host.Outcome State Fault Refusal :=
  let s := atT t s0
  .next (if s.mod.tup.role = .active && s.cyc.phase = .agree
      && decide (s.cyc.tc + s.cyc.par.agreeTimeout ≤ s.gt) then afterAgree s else s)

/-- What an executing cycle leaves: its variables with the blocks it evaluated, the granules of retained variables that
it changed, and its lines (R25, R71, R73, R82, R83). -/
def takeResult (r : ExecResult) (s : State) : State :=
  let vars := r.vars.foldl (fun t v => Tab.set t v.1 v.2) s.cyc.vars
  let b := runBlocks s.chg.cur.vars s.cyc.tc r.calls vars
  { s with cyc := { s.cyc with
    vars := b
    lag := s.cyc.lag ++ (changedGranules s.chg.cur.vars s.cyc.vars b).filter fun g => decide (g ∉ s.cyc.lag)
    changeDigest := changeDigestOf r.lines
    cellFails := [] } }

/-- The inputs of phase 3 (R71). -/
def execInputs (s : State) : ExecIn := ⟨s.cyc.img, s.cyc.tc, s.cyc.cycle, s.cyc.vars, s.cyc.snap, s.chg.cur⟩

/-- The cycle's results are taken over and published (R77). -/
def publishResult (r : ExecResult) (s : State) : State :=
  let s1 := takeResult r s
  sendSignals (applyLocal true (flip (r.writes.foldl (writeBase s1) s1.cyc.base) s1))

/-- EXECUTE_DONE (R72, R77): every cell in service has compared its last window equal, and the cycle publishes what
the program computes from its inputs. -/
def execExecuteDone (t : Nat) (m : ExecMeas) (s0 : State) : Host.Outcome State Fault Refusal :=
  let s := atT t s0
  .next (if s.cyc.phase = .execute then
    toSig (hlCycle m (publishResult (Config.program (execInputs s)) s))
  else s)

/-! ### Lockstep (R72 to R75) -/

/-- The rollback of R74 but for the bucket: phase 3 starts again on the same inputs. -/
def rollback (c : Nat) (s : State) : State :=
  occur Code.lockstepRollback (Src.cell c) 0
    { s with cyc := { s.cyc with rollbacks := satInc 0xFFFFFFFF s.cyc.rollbacks } }

/-- A cell is retired (R75): CELL_RETIRED, the bounds for the reduced set, and with the last cell the module. -/
def retireCell (c code : Nat) (s : State) : State :=
  if isRetired s (.cell c) then s else
    let s1 := gateClose c (hlFlags (occur Code.cellRetired (Src.cell c) 0 (retireRecord (.cell c) code s)))
    let s2 := { s1 with cyc := { s1.cyc with cellFails := Tab.erase s1.cyc.cellFails c } }
    if cellsIn s2 = 0 then retireModule .fault s2 else s2

/-- A cell is retired by another cause than a comparison: in phase 3 the cycle starts again on the cells left (R75). -/
def retireCellNow (c code : Nat) (s : State) : State :=
  let s1 := retireCell c code s
  if s.cyc.phase = .execute && !isRetired s (.cell c) && s1.mod.tup.role ≠ .retired then rollback c s1 else s1

/-- LOCKSTEP_MISMATCH (R74, R75). A window of the cell that has compared equal since its last mismatch starts the 1 s
again (R408). -/
def execLockstepMismatch (t : Nat) (m : CellMiss) (s0 : State) : Host.Outcome State Fault Refusal :=
  let s := atT t s0
  let c := m.cell
  .next (if s.cyc.phase = .execute && decide (c < 4) && !isRetired s (.cell c) then
    let since := if m.equal then s.gt else Tab.getD s.cyc.cellFails c s.gt
    let s1 := rollback c (bucketAdd (.cell c) 8
      { s with cyc := { s.cyc with cellFails := Tab.set s.cyc.cellFails c since } })
    if s1.cyc.par.retAtCell ≤ bucket s1 (.cell c) ∨ since + sec ≤ s1.gt then retireCell c 0 s1 else s1
  else s)

/-! ### Pacing (R53, R78, R79) -/

/-- The partner follows this module's boundaries: it is STANDBY, or in the last step of its resynchronisation, in which it
becomes STANDBY at one of them. -/
def partnerFollows (s : State) : Bool := pairRuns s || feedsShadow s

/-- A command relayed to a partner that follows, with the boundary that it names (R45, R101): a COMMAND packet. -/
def relay (kind : Nat) (args : List Nat) (s : State) : State :=
  if partnerFollows s then sendP0 0x0B (kind :: (s.cyc.cycle + 1) :: args) s else s

/-- A second expiry in one cycle: the cycle ends without a publication, housekeeping follows (R79, R25), and the module
takes HOLD, in a pair both at one boundary (R53). -/
def wdtHold (s : State) : State :=
  relay 0x02 [] (toHouse { s with cyc := { s.cyc with holdNext := driving s } })

/-- SCAN_WDT (R79, R53): from T_commit, or the retry's start, to the completion of publication. -/
def execScanWdt (t : Nat) (s0 : State) : Host.Outcome State Fault Refusal :=
  let s := atT t s0
  .next (if s.cyc.executing && (s.cyc.phase = .execute || s.cyc.phase = .agree)
      && decide (s.cyc.attempt + s.cyc.par.scanWdt ≤ s.gt) then
    let s1 := noteFault Src.sv 3 (occur Code.scanWdt Src.sv 0 { s with
      cyc := { s.cyc with wdtExpiries := satInc 0xFFFFFFFF s.cyc.wdtExpiries, attempt := s.gt, retried := true }
      flt := { s.flt with l3 := satInc 0xFFFF s.flt.l3 } })
    if s.cyc.retried then wdtHold s1 else s1
  else s)

/-- SIGNATURE_WAIT_BOUND (R78, R242): T_commit + 2 × SCAN_WDT without the partner's signature. -/
def execSignatureWaitBound (t : Nat) (s0 : State) : Host.Outcome State Fault Refusal :=
  let s := atT t s0
  .next (if s.cyc.phase = .sig && decide (s.cyc.tc + 2 * s.cyc.par.scanWdt ≤ s.gt) then
    let s1 := { s with cyc := { s.cyc with sigMissed := satInc 0xFFFFFFFF s.cyc.sigMissed } }
    toHouse (if s.mod.valid then arbDetect .sigMissing s1 else s1)
  else s)

end Sys2Proof.Machine
end

