-- ==== Sys2Proof/Machine/Stage.lean ====
section
/-! DEFINITION. The staging checks of Table 4.3 (R93, R95, R96, R97, R109), and the schedule rules of R178, R180,
R194 and R195 that check 7 applies. -/

namespace Sys2Proof.Machine

/-- A value lies in a closed range. -/
def within (lo hi v : Nat) : Bool := decide (lo ≤ v ∧ v ≤ hi)

/-- The section table of Table 4.1: its sections lie behind it in the container, apart from each other, with reserved
fields 0 (R12). -/
def sectionsOk (b : Container) : Bool :=
  b.table.length = b.sections
    && (b.table.all fun e => e.reserved = 0 && decide (272 + 16 * b.sections ≤ e.offset ∧ e.offset + e.size ≤ b.bytes))
    && (b.table.zip (List.range b.table.length)).all fun x => (b.table.drop (x.2 + 1)).all fun y =>
      decide (x.1.offset + x.1.size ≤ y.offset ∨ y.offset + y.size ≤ x.1.offset)

/-- Packing list of a plan's slot. -/
def packKey (e : SlotEntry) : Nat := e.slot + (if e.chan = .b then 0x8000 else 0)

/-! ### Change classes (Table 4.2) -/

/-- A slot that both plans hold keeps its channel, position, length and packing. -/
def slotKept (a b : Gen) (q : List SlotEntry) (e : SlotEntry) : Bool :=
  match q.find? fun f => f.slot = e.slot && f.chan = e.chan with
  | some f => f.start = e.start && f.len = e.len
      && Tab.getD a.packs (packKey e) [] = Tab.getD b.packs (packKey e) []
  | none => !q.any fun f => f.slot = e.slot

/-- One plan of a generation is compatible with the same plan of another. -/
def planCompatible (a b : Gen) (p q : Sched) : Bool :=
  p.tOc = q.tOc && p.nitUs = q.nitUs && p.apOfsNs = q.apOfsNs && p.nCs = q.nCs && p.syncList = q.syncList
    && p.judgeList = q.judgeList && p.slots.all (slotKept a b q.slots)

/-- The schedule of a generation and its narrow plan are compatible with another's. -/
def schedCompatible (a b : Gen) : Bool :=
  planCompatible a b a.sched b.sched && planCompatible a b a.narrow b.narrow

/-- Channel mode of R295. -/
def alModeSame (a b : AlParam) : Bool :=
  a.mode = b.mode && a.inputPwr = b.inputPwr && a.namur = b.namur && a.timeout = b.timeout

/-- Items of class IDLE of a port (R313). -/
def canIdleSame (a b : CanParam) : Bool :=
  a.en = b.en && a.fd = b.fd && a.nom = b.nom && a.data = b.data && a.tdc = b.tdc && a.tdcOfs = b.tdcOfs

/-- An item of class IDLE differs: the generation then needs IDLE (R96). -/
def needsIdle (a b : Gen) : Bool :=
  !schedCompatible a b || a.tio ≠ b.tio
    || (List.range 4).any fun x => !(alModeSame (a.alp.getD x alParamOff) (b.alp.getD x alParamOff)
      && canIdleSame (a.can.getD x canParamOff) (b.can.getD x canParamOff))

/-! ### The container -/

/-- FLAGS.OFFLINE is the generation's, and it says whether an item of class IDLE of the current generation is altered;
where no generation is loaded there is nothing to alter, and either value is taken. -/
def offlineOk (s : State) (b : Container) : Bool :=
  b.gen.offline = b.flags.testBit 0 && (!s.chg.loaded || b.gen.offline = needsIdle s.chg.cur b.gen)

/-- Check 3: the header of Table 4.1. -/
def headerOk (s : State) (b : Container) : Bool :=
  sectionsOk b && offlineOk s b && b.magic = 0x314E4547 && b.format = 3 && decide (b.flags < 2)
      && within 1 32 b.sections && decide (b.keySlot ≤ 7)
    && b.reservedZero && within 60 86400 b.gen.trialS && decide (b.gen.codeBytes ≤ 268435456)
    && decide (b.gen.varBytes ≤ 1073741824) && decide (b.gen.retainBytes ≤ 134217728)
    && decide (b.gen.retainBytes ≤ b.gen.varBytes)

/-- Cycle parameters within Tables 3.4, 6.2 and 17.3, and MIN_CYCLE below SCAN_WDT (R81). -/
def paramsOk (p : CycleParams) : Bool :=
  (p.minCycle = 0 || within (500 * us) (1000 * ms) p.minCycle) && decide (p.minCycle < p.scanWdt)
    && within (10 * ms) (2000 * ms) p.scanWdt && within (100 * us) (2000 * us) p.agreeTimeout
    && decide (p.anaTolUa ≤ 200) && within 16 32 p.laneRetireAt && within (1500 * us) (100 * ms) p.bndTimeout
    && within 16 32 p.retAtCell && within 16 32 p.retAtPlv && within 16 32 p.retAtAlp && within 16 32 p.retAtCan

/-- Points within Tables 3.2 and 3.4: addresses in the image, each once per direction, freshness in range. -/
def pointsOk (pts : List Point) : Bool :=
  distinct (pts.map (·.addr))
    && pts.all fun p => decide (p.addr < 262144) && (p.freshNs = 0 || within (500 * us) (60 * sec) p.freshNs)

/-- An address is assigned to a point of TYPE BITS64 in one direction. -/
def bitsPoint (pts : List Point) (out : Bool) (a : Nat) : Bool :=
  pts.any fun p => p.addr = a && p.isOut = out && p.ty = .bits64

/-- A poll entry within R306: a command number, 0 to 31 bytes and up to four input points of TYPE BITS64. -/
def pollOk (pts : List Point) (e : PollEntry) : Bool :=
  decide (e.cmd ≤ 255) && decide (e.data.length ≤ 31) && decide (e.points.length ≤ 4) && e.points.all (bitsPoint pts false)

/-- An analog channel within Table 11.2. -/
def alParamOk (pts : List Point) (p : AlParam) : Bool :=
  (match p.mode with
    | .source => decide (p.safeNa ≤ 24000000)
    | .sink => within 3600000 22000000 p.safeNa
    | _ => true)
    && within (5 * ms) (200 * ms) p.timeout && decide (p.poll.length ≤ 8) && p.poll.all (pollOk pts)
    && decide (p.pvUnit ≤ 255)

/-- A CAN FD data length. -/
def canLenOk (n : Nat) (fd : Bool) : Bool := decide (n ≤ 8) || (fd && [12, 16, 20, 24, 32, 48, 64].contains n)

/-- An identifier, or a mask over one, in 29 bits with IDE and in 11 without. -/
def canIdOk (ide : Bool) (n : Nat) : Bool := decide (n < (if ide then 2 ^ 29 else 2 ^ 11))

/-- A transmit object within R314. -/
def txObjOk (pts : List Point) (o : TxObj) : Bool :=
  canLenOk o.len o.fdf && canIdOk o.ide o.id && within 1 8 o.points.length && o.points.all (bitsPoint pts true)
    && (match o.trigger with
      | .everyN n => within 2 1000 n
      | _ => true)

/-- A receive object within R318. -/
def rxObjOk (pts : List Point) (o : RxObj) : Bool :=
  canIdOk o.ide o.id && canIdOk o.ide o.mask && within 1 8 o.points.length && o.points.all (bitsPoint pts false)

/-- The wake parameters fit a classical frame (Table 12.1); in FRAME mode the nominal rate is at most 500 kbit/s
(R323). -/
def canWakeOk (p : CanParam) : Bool :=
  canIdOk p.wakeIde p.wakeId && canIdOk p.wakeIde p.wakeMask && decide (p.wakeDlc ≤ 8)
    && (!p.wakeFrame || decide (160 ≤ p.nom.getD 0 0 * (1 + p.nom.getD 1 0 + p.nom.getD 2 0)))

/-- A CAN port within Table 12.1, R314, R318, R322 and R323. -/
def canParamOk (pts : List Point) (p : CanParam) : Bool :=
  let n (i : Nat) := p.nom.getD i 0
  let d (i : Nat) := p.data.getD i 0
  within 1 32 (n 0) && within 2 256 (n 1) && within 2 128 (n 2) && within 1 (n 2) (n 3)
    && within 1 2 (d 0) && within 1 32 (d 1) && within 1 16 (d 2) && within 1 (d 2) (d 3)
    && decide (p.tdcOfs ≤ 127) && within 1 64 p.txDepth && (p.txStale = 0 || within ms (1000 * ms) p.txStale)
    && canWakeOk p && p.ctl.all (bitsPoint pts true) && p.status.all (bitsPoint pts false)
    && decide (p.rx.length ≤ 256) && p.rx.all (rxObjOk pts)
    && decide (p.tx.length ≤ 256) && p.tx.all fun o => txObjOk pts o && (p.fd || !o.fdf)

/-- A safety connection within R187. -/
def connOk (c : SafetyConn) : Bool :=
  decide (c.conn < 2 ^ 32) && within 4 240 c.sLen && c.sLen % 4 = 0 && within 3 1000 (connTimeout c)

/-- The connections of R187: their numbers are unique, and each station has at most one to the pair and one from it. -/
def connsOk (cs : List SafetyConn) : Bool :=
  cs.all connOk && distinct (cs.map (·.conn)) && distinct (cs.map fun c => 2 * c.station + b2n c.toPair)

/-- The points that a field station serves (R2): those packed in its DATA slots and those of its safety connections. -/
def stationPoints (g : Gen) (node : Nat) : List Nat :=
  let slots := (g.sched.slots.filter fun e => e.owner = node && e.ftype = 0x10).map packKey
  let packed := (g.packs.filter fun p => decide (p.1 ∈ slots)).flatMap fun p => p.2.map (·.addr)
  let safe := (g.conns.filter (·.station = node)).flatMap fun c => (c.bitPoints ++ c.wordPoints).map (·.2)
  (packed ++ safe).eraseDups

/-- Up to 1,024 field stations of up to 4,096 points each (R2). -/
def stationsOk (g : Gen) : Bool :=
  let nodes := ((g.sched.slots.map (·.owner)) ++ g.conns.map (·.station)).eraseDups
  nodes.all fun n => decide (1024 ≤ n) || decide ((stationPoints g n).length ≤ 4096)

/-! ### Schedules -/

/-- Class of R194. -/
def essentialSlot (e : SlotEntry) : Bool := e.ftype ≠ 0x10 || e.essential

/-- One slot within Tables 7.1, 7.3 and 7.10, R180 and the minimum length of R195 (in 0.1 ns). -/
def slotOk (h : Sched) (e : SlotEntry) : Bool :=
  e.reservedZero && decide (e.slot < 4096) && decide (e.start < 2 ^ 24) && decide (e.len < 65536)
    && decide (e.owner ≤ 0x401 ∨ e.owner = 0xFFE) && decide (e.payload ≤ 8192)
        && [0x10, 0x20, 0x30, 0x31, 0x40].contains e.ftype
    && decide (2 * h.apOfsNs * 10 + (e.payload + 22) * 32 ≤ e.len * 1000)
    && decide ((e.start + e.len) * 100 + h.nitUs * us ≤ h.tOc * 10 * us)
    && (!h.narrow || e.chan = .a)

/-- Two slots do not overlap. -/
def slotsApart (a b : SlotEntry) : Bool := decide (a.start + a.len ≤ b.start) || decide (b.start + b.len ≤ a.start)

/-- No two slots of a channel overlap or share a number. -/
def slotsDisjoint : List SlotEntry → Bool
  | [] => true
  | e :: r => (r.all fun f => e.chan ≠ f.chan || (slotsApart e f && e.slot ≠ f.slot)) && slotsDisjoint r

/-- The members of R178: sync nodes with both modules first, cold-start nodes, judges. -/
def membersOk (h : Sched) : Bool :=
  within 4 16 h.syncList.length && within 2 4 h.nCs && decide (h.nCs ≤ h.syncList.length) && distinct h.syncList
    && h.syncList.take 2 = [0x400, 0x401] && (h.syncList.drop 2).all (fun n => decide (n < 1024))
    && [0, 3, 5, 7].contains h.judgeList.length && distinct h.judgeList && h.judgeList.all fun n => decide (n < 1024)

/-- The header of Table 7.9. -/
def schedHeadOk (g : Gen) (h : Sched) (narrow : Bool) : Bool :=
  h.magic = 0x48435358 && h.format = 1 && h.narrow = narrow && h.reservedZero && h.gen = g.num
    && within 50 1000 h.tOc && within 20 500 h.nitUs && within 200 2000 h.apOfsNs && within 1 64 h.crcLimit
    && decide (h.slots.length ≤ (if narrow then 4096 else 8192))
    && decide ((h.slots.filter (·.chan = .a)).length ≤ 4096) && decide ((h.slots.filter (·.chan = .b)).length ≤ 4096)
    && within 200 (h.tOc * 10 - 100) h.voteOfsUs && membersOk h && h.slots.all (slotOk h) && slotsDisjoint h.slots

/-- The same slot on the other channel (R194). -/
def mirrored (h : Sched) (e : SlotEntry) : Bool :=
  h.slots.any fun f => f.slot = e.slot && f.chan ≠ e.chan && f.owner = e.owner && f.ftype = e.ftype
    && f.payload = e.payload && (e.ftype ≠ 0x30 || (f.start = e.start && f.len = e.len))

/-- R194 over the schedule and its narrow plan. -/
def essentialOk (h n : Sched) : Bool :=
  (h.slots.all fun e => e.ftype = 0x10 || mirrored h e)
    && (h.slots.all fun e => !essentialSlot e || n.slots.any fun f => f.slot = e.slot && f.owner = e.owner
      && f.ftype = e.ftype && f.payload = e.payload && (e.ftype ≠ 0x30 || (f.start = e.start && f.len = e.len)))
    && n.slots.all fun f => h.slots.any fun e => f.slot = e.slot && essentialSlot e

/-- R195 over both sections. -/
def schedOk (g : Gen) : Bool :=
  let h := g.sched
  let n := g.narrow
  schedHeadOk g h false && schedHeadOk g n true && essentialOk h n
    && (h.slots.all fun e => e.ftype ≠ 0x10 || decide (packedSize (Tab.getD g.packs (packKey e) []) ≤ e.payload))
    && decide ((h.slots.map fun e => e.payload + 20).sum ≤ 2097152)
    && g.packs.all fun p => p.2.all fun e => decide (e.addr < 262144) && decide (e.code < 10) && e.rsvd = 0

/-- Check 7: the section limits (R81, R187, R195, R265, R361, R503). -/
def limitsOk (s : State) (g : Gen) : Bool :=
  paramsOk g.params && within 1 255 g.modCfg.pairWaitS && pointsOk g.points && decide (g.signals.length ≤ 16384)
    && gateSectionOk s.gate.fw g.gates && tioSectionOk g.tio && g.alp.length = 4 && g.alp.all (alParamOk g.points)
    && g.can.length = 4 && g.can.all (canParamOk g.points) && connsOk g.conns && stationsOk g && schedOk g

/-- An item of class NEVER differs: type, detection, contacts or input mapping of an element of one key. -/
def neverDiffers (a b : IleTable) : Bool :=
  a.elems.any fun e => b.elems.any fun f => e.key = f.key
    && !(e.ty = f.ty && e.detect = f.detect && e.srcA = f.srcA && e.srcB = f.srcB)

/-- Check 9 (R96). -/
def onlineOk (s : State) (b : Container) : Bool :=
  !s.chg.loaded || (!neverDiffers s.chg.cur.ile b.gen.ile
    && (!needsIdle s.chg.cur b.gen || s.mod.tup.run = .idle))

/-! ### The checks -/

/-- Capacity of the configuration store (Table 1.5). -/
def storeBytes : Nat := 536870912

/-- Bytes of a stored generation in the formats kept (R464). -/
def keptBytes (s : State) (g : Gen) : Nat := g.storeBytes * (if s.nva.oldFormat = 0 then 1 else 2)

/-- Check 8: the table and its signature (R148), under the generation's number. -/
def ileChecksOk (s : State) (g : Gen) : Bool :=
  tableUsable s g g.ile

/-- Generations fit the configuration store together (check 11). -/
def storeFits (s : State) (gs : List Gen) : Bool := decide ((gs.map (keptBytes s)).sum ≤ storeBytes)

/-- Checks 3 to 11 of Table 4.3, in order. `own` is a copy of one of the module's generations (R94), which
carries no header of its own. -/
def stageChecks (s : State) (own : Bool) (b : Container) : Option Status :=
  let g := b.gen
  if !own && !headerOk s b then some .badFormat
  else if !own && !(b.sigOk && keyHas s b.keySlot 3) then some .badSignature
  else if !own && !b.digestOk then some .badDigest
  else if 0xFFFFFFFF ≤ genHighPair s ∨ g.num ≠ genHighPair s + 1 then some .badGen
  else if !limitsOk s g then some .badLimit
  else if !ileChecksOk s g then some .badIleTable
  else if !onlineOk s b then some .notOnline
  else if Min.min s.cyc.par.scanWdt g.params.scanWdt < migEstUs s.chg.cur.vars g.vars * us then some .badLimit
  else if !storeFits s ([s.chg.cur, g] ++ (s.chg.prev.map (·.g)).toList) then some .storeFull
  else none

/-- Check 2: the guards of Table 2.7, R48, R97 and R118, and R39. -/
def stageGuard (s : State) : Option Reason :=
  if s.mod.arb then some .busy
  else if s.mod.tup.fw = .trial then some .notLegal
  else if !((s.mod.tup.run = .idle || s.mod.tup.run = .run || s.mod.tup.run = .hold)
      && (s.mod.tup.change = .none || s.mod.tup.change = .confirmed)
      && (s.mod.tup.role = .solo || pairRuns s) && s.chg.job.isNone && carriedPaths s = 0
      && !(pairRuns s && s.ile.carriedThere)) then some .guard
  else none

/-- A staged copy of a generation under a new number: its sections carry the number too (R94). -/
def renumber (n : Nat) (g : Gen) : Gen :=
  { g with
    num := n
    sched := { g.sched with gen := n }
    narrow := { g.narrow with gen := n }
    ile := { g.ile with gen := n, raw := rawNumber n g.ile.raw } }

/-- A container that holds a copy of a stored generation. -/
def copyBox (g : Gen) : Container :=
  ⟨0x314E4547, 3, b2n g.offline, 1, 0, true, 288 + g.storeBytes, [⟨0, 288, g.storeBytes, 0⟩], true, true, g⟩

/-- A staged generation's confirmation: it carries over from an earlier generation that the module keeps and whose
section is identical (R289). -/
def stagedCcv (s : State) (g : Gen) : Bool :=
  (s.chg.curCcv && s.chg.cur.tio = g.tio)
    || [s.chg.prev, s.chg.older].any fun x => x.any fun y => y.ccv && y.g.tio = g.tio

end Sys2Proof.Machine
end

