-- ==== Sys2Proof/Machine/Roles.lean ====
section
/-! DEFINITION. Changes of role (Tables 2.3 and 2.5, R248, R250, R256, R259), the judges' votes (R243 to R246,
R252), and what the modules of a pair send each other about them. -/

namespace Sys2Proof.Machine

/-- Source number of the pair logic. -/
def pairSrc : Nat := Src.pair 0

/-! ### The tuple as a partner reports it -/

/-- Role of an encoding. -/
def roleOfCode : Nat → Option Role
  | 0 => some .solo
  | 1 => some .active
  | 2 => some .standby
  | 3 => some .syncing
  | 4 => some .retired
  | _ => none

/-- Run state of an encoding. -/
def runOfCode : Nat → Option RunState
  | 0 => some .boot
  | 1 => some .idle
  | 2 => some .run
  | 3 => some .hold
  | 4 => some .safe
  | _ => none

/-- Change state of an encoding. -/
def changeOfCode : Nat → ChangeState
  | 0 => .none
  | 1 => .staged
  | 2 => .trial
  | _ => .confirmed

/-- ILE state of an encoding. -/
def ileOfCode : Nat → Option IleState
  | 0 => some .lane3
  | 1 => some .ab
  | 2 => some .ac
  | 3 => some .bc
  | 4 => some .withdrawn
  | _ => none

/-- Network state of an encoding. -/
def netOfCode : Nat → Option NetState
  | 0 => some .listen
  | 1 => some .coldLead
  | 2 => some .integrating
  | 3 => some .synced
  | 4 => some .narrow
  | 5 => some .passive
  | _ => none

/-- Firmware state of an encoding. -/
def fwOfCode : Nat → Option FwState
  | 0 => some .confirmed
  | 1 => some .trial
  | 2 => some .fallback
  | _ => none

/-- The tuple that a MOD_STATE word spells (Table 2.13). -/
def tupleOf (w : Nat) : Option ModeTuple :=
  match roleOfCode (bits w 0 3), runOfCode (bits w 3 3), ileOfCode (bits w 9 3), netOfCode (bits w 12 3),
      fwOfCode (bits w 17 2) with
  | some r, some k, some i, some n, some f =>
    if w < 2 ^ 20 then
      some ⟨r, k, changeOfCode (bits w 6 2), w.testBit 8, i, n, tierOf (bits w 15 2), f,
        if w.testBit 19 then .compat else .native⟩
    else none
  | _, _, _, _, _ => none

/-! ### Relays -/

/-- What takes effect at the present boundary is relayed to a partner that follows, which stands or will stand at the
same boundary (R45, R101, R122): STANDBY, or about to be (R30). -/
def relayNow (kind : Nat) (args : List Nat) (s : State) : State :=
  if partnerFollows s then sendP0 0x0B (kind :: s.cyc.cycle :: args) s else s

/-- A pending switch is cancelled on both modules (R102). -/
def cancelBoth (cause : Nat) (s : State) : State :=
  if s.chg.switchAt.isNone then s else cancelSwitch cause (relayNow kCancel [cause] s)

/-! ### Identity (R253, R465) -/

/-- FW_ID (Table 9.3). -/
def fwId (s : State) : Nat :=
  match s.fwu.run with
  | some h => h.digest % 2 ^ 64
  | none => 0

/-- XFER_VER of the running image. -/
def ownXfer (s : State) : Nat :=
  match s.fwu.run with
  | some h => h.xferVer
  | none => 0

/-- XFER_MIN of the running image. -/
def ownXferMin (s : State) : Nat :=
  match s.fwu.run with
  | some h => h.xferMin
  | none => 0

/-- R465: the lower XFER_VER is at least the XFER_MIN of the image with the higher one. -/
def xferCompatible (s : State) : Bool :=
  let a := ownXfer s
  let b := s.plv.partnerXfer
  if a < b then decide (s.plv.partnerXferMin ≤ a) else decide (ownXferMin s ≤ b)

/-- SHA-512 of the role keys in the store, by slot. -/
def keyDigest (s : State) : Nat :=
  ofLe (sha512 ((s.nva.keys.map fun k => le 2 k.1 ++ le 2 k.2.roles ++ be 66 k.2.qx ++ be 66 k.2.qy).flatten))

/-- The identity certificate's signature by the device root key: 132 bytes that the manual does not give (log entry
3). -/
def certBytes : List Byte := (List.range 132).map fun i => Config.freeByte (2 ^ 40 + i)

/-- An AUTH packet: the serial, the identity certificate, a fresh nonce, the digest of the role keys, and XFER_VER and
XFER_MIN (R253). -/
def sendAuth (s : State) : State :=
  if s.mod.tup.role = .retired then s else
    let n := (List.range 32).map fun i => (Config.freeByte (s.free + i)).toNat
    let pay := [s.mod.serial, 0] ++ payBytes certBytes ++ n ++ payBytes (le 64 (keyDigest s))
        ++ [ownXfer s, ownXferMin s]
    sendOn [0] 0x0E (partnerSlot s) pay { s with
      free := s.free + 32
      plv := { s.plv with nonce := ofLe (n.map (BitVec.ofNat 8)) } }

/-! ### Roles -/

/-- A cycle that waits for the active ends: without its image it ends as a non-executing cycle with a change
digest of 0, and in phase 5 without comparison (R247). -/
def unfollow (s : State) : State :=
  match s.cyc.phase with
  | .agree => publishIdle { s with cyc := { s.cyc with executing := false } }
  | .sig => toHouse s
  | _ => s

/-- SOLO by failover (R248, R49): the last internal publication reaches the outputs at once. -/
def takeSolo (s : State) : State :=
  let s1 := cancelSwitch 2 (setRole .solo { s with
    mod := { s.mod with arb := false }
    chg := { s.chg with job := none }
    plv := { s.plv with
      soloNext := false, waitSolo := false, mute := false, agreeWait := none, partnerStaged := none, tierAt := none,
      failovers := satInc 0xFFFF s.plv.failovers } })
  occur Code.pairFailover pairSrc 0
    (hlFlags (tioRefreshNow true (canTakeOver (outEntry s1) (alPublish (setpointOf s1) s1))))

/-- A standby takes SOLO: at once when it stands at a program cycle boundary, else at the next (R248). -/
def failover (s : State) : State :=
  if s.mod.tup.role ≠ .standby then s
  else if s.cyc.phase = .boundary then takeSolo s
  else unfollow { s with plv := { s.plv with soloNext := true } }

/-- An ACTIVE module takes SOLO (Table 2.5, R250, R251): a switch is cancelled with cause PARTNER, a staging
fails with PARTNER_FAIL. -/
def soloFromActive (s : State) : State :=
  let s1 := setRole .solo { s with
    mod := { s.mod with arb := false }
    plv := { s.plv with
      waitSolo := false, mute := false, soloNext := false, source := false, step := 0, partnerStaged := none,
      tierAt := none } }
  hlFlags (stageFail .partnerFail (cancelSwitch 1 s1))

/-- A resynchronisation begins on this module (R255, R256): step 1, which a partner authenticated before ends. -/
def beginResync (s : State) : State :=
  let s1 := { s with plv := { s.plv with
    step := 1
    source := false, got := [], passes := 0, dirtyMib := 0, stepStart := s.gt, attemptStart := s.gt } }
  if s.plv.authOk then s1 else sendAuth s1

/-- A resync attempt fails (R256): it starts again at step 5, or at step 1; the third in a row retires. -/
def resyncFail (auth : Bool) (s : State) : State :=
  if s.mod.tup.role ≠ .syncing then s else
    let n := s.plv.failed + 1
    let s1 := occur Code.resyncFail pairSrc 0 { s with plv := { s.plv with
      failed := n, step := if auth then 1 else 5, got := [], passes := 0, stepStart := s.gt
      attemptStart := s.gt, agreeWait := none } }
    if 3 ≤ n then retireModule .resync s1
    else
      let s2 := unfollow s1
      if auth then sendAuth { s2 with plv := { s2.plv with authOk := false } } else bgWant 1 s2

/-! ### Judges -/

/-- Judges of the running schedule. -/
def judges (s : State) : List Nat := (runGen s).sched.judgeList

/-- Q (R243). -/
def quorum (s : State) : Nat := (judges s).length / 2 + 1

/-- A view word votes against its module (R243, Table 7.8). -/
def votesAgainst (v : Nat) : Bool :=
  !(v.testBit 0 && v.testBit 1 && v.testBit 6) || (decide (bits v 2 3 ≤ 1) && !v.testBit 7)

/-- Votes against the module in slot 2k + b. -/
def against (s : State) (b : Nat) : Nat :=
  (s.oxn.views.filter fun w => votesAgainst (if b = 0 then w.v0 else w.v1)).length

/-- The judges' words of the cycle are a quorum. -/
def haveQuorum (s : State) : Bool := !(judges s).isEmpty && decide (quorum s ≤ s.oxn.views.length)

/-- At least Q view words of a list satisfy a condition. -/
def quorumOf (s : State) (l : List ViewSeen) (f : ViewSeen → Bool) : Bool :=
  !(judges s).isEmpty && decide (quorum s ≤ (l.filter f).length)

/-- A view shows the partner with HEARD 0. -/
def partnerUnheard (s : State) (w : ViewSeen) : Bool :=
  !(if s.mod.slot % 2 = 0 then w.v1 else w.v0).testBit 0

/-- The idle phase of the cycle is one in which R244 or R246 counts: a later cycle than a, the idle phase begins
at or after t_d, and no earlier one began at or after t_d + 500 ms. -/
def countDue (s : State) : Bool :=
  let idle := s.oxn.cn + tOcNs s - nitNs s
  decide (s.plv.arbTd ≤ idle ∧ idle < s.plv.arbTd + 500 * ms + tOcNs s)
    && (if s.plv.arbCause = 3 then decide (s.plv.arbTh + ms + tOcNs s ≤ s.oxn.cn) else decide (s.plv.arbTd < s.oxn.cn))

/-- PAIR_DECISION with its own packing of VALUE (R245). -/
def writeDecision (s : State) : State :=
  occurU Code.pairDecision pairSrc (s.plv.arbCause + 256 * s.plv.arbOutcome + 2 ^ 16 * against s 0 + 2 ^ 24 * against s 1) s

/-- The votes of a counted cycle (Table 9.11). -/
def noteVotes (s : State) : State :=
  { s with plv := { s.plv with
    views := Min.min 7 s.oxn.views.length, against0 := Min.min 7 (against s 0), against1 := Min.min 7 (against s 1) } }

/-- Table 9.5 at the decision. -/
def decideArb (s : State) : State :=
  let q := quorum s
  let own := against s (s.mod.slot % 2)
  let oth := against s (1 - s.mod.slot % 2)
  let active := s.mod.tup.role = .active
  let act := if active then own else oth
  let sb := if active then oth else own
  let outcome := if q ≤ act then (if q ≤ sb then 3 else 1) else 2
  let s1 := writeDecision { s with
    mod := { s.mod with arb := false }
    plv := { s.plv with arbOutcome := outcome, won := false, silenceDone := true } }
  if active then
    if q ≤ act then retireModule .judged s1
    else { s1 with plv := { s1.plv with won := true, waitSolo := true } }
  else if q ≤ sb then retireModule .judged s1
  else if q ≤ act then failover { s1 with plv := { s1.plv with won := true } }
  else retireModule .self s1

/-- The module that R252's test names is this one: it names a module that claims to drive and whose last arbitration did
not go against its partner; when it names both or neither, slot 2k+1 retires. A partner that a quorum of judges sees as
SOLO won its last arbitration, unless this module has won one since (DEDUCED, log entry 163). -/
def dualRetires (s : State) : Bool :=
  let mine := driverRole s && !s.plv.won
  let pv (w : ViewSeen) : Nat := bits (if s.mod.slot % 2 = 0 then w.v1 else w.v0) 2 3
  let pClaims := quorumOf s s.oxn.views fun w => decide (pv w ≤ 1)
  let pWon := !s.plv.won && quorumOf s s.oxn.views fun w => pv w = 0
  let theirs := pClaims && !pWon
  if mine ≠ theirs then mine else s.mod.slot % 2 = 1

/-- DUAL_DRIVE (R252): an arbitration that begins and ends in this idle phase and ends any other. -/
def dualDrive (s : State) : State :=
  let s1 := writeDecision { s with
    mod := { s.mod with arb := false }
    plv := { s.plv with arbCause := 5, arbOutcome := 6, arbCount := satInc 0xFF s.plv.arbCount } }
  if dualRetires s then retireModule .judged s1
  else { s1 with plv := { s1.plv with won := true } }

/-- The pair's part of an idle phase (R244 to R246, R250, R252), on the VIEW frames accepted in the cycle. -/
def pairIdle (s0 : State) : State :=
  let s := if s0.oxn.views.isEmpty then s0 else noteVotes s0
  if s.mod.tup.role = .retired then s
  else if quorumOf s s.oxn.views fun w => w.jflags.testBit 0 then dualDrive s
  else if s.mod.arb && countDue s && haveQuorum s then decideArb s
  else if s.mod.tup.role = .active && s.plv.waitSolo && quorumOf s s.oxn.views (partnerUnheard s) then
    { s with plv := { s.plv with soloNext := true } }
  else s

/-- OXN_IDLE_PHASE (R180, R196): the judges' votes are counted, then the channels are judged, the clock is
corrected and the plans are decided. -/
def execOxnIdlePhase (t : Nat) (lostA lostB : Bool) (s0 : State) : Host.Outcome State Fault Refusal :=
  let s := atT t s0
  .next (if idleDue s then oxnIdle lostA lostB (pairIdle s) else s)

/-- PAIR_NO_QUORUM (R246): the first idle phase that begins at or after t_d + 500 ms has brought no quorum. -/
def execPairNoQuorum (t : Nat) (s0 : State) : Host.Outcome State Fault Refusal :=
  let s := atT t s0
  .next (if s.mod.arb && s.oxn.judged && decide (s.plv.arbTd + 500 * ms + nitNs s ≤ s.oxn.cn + tOcNs s) then
    let s1 := occurU Code.pairNoQuorum pairSrc 4 { s with
      mod := { s.mod with arb := false }
      plv := { s.plv with arbOutcome := 4, won := false, silenceDone := true } }
    if s.mod.tup.role = .standby then retireModule .self s1
    else { s1 with plv := { s1.plv with waitSolo := true } }
  else s)

/-! ### Handover (R259) -/

/-- The checks of R259 that the module can make at a boundary: the guards of Table 2.5, the signature of the last
cycle equal, and so no cycle rolling back. -/
def handoverOk (s : State) : Bool :=
  pairRuns s && s.chg.switchAt.isNone && !s.mod.arb && s.cyc.sigEqual && s.chg.mig = none

/-- No Oxuger cycle boundary lies in [t, t + 50 µs). -/
def clearOfBoundary (s : State) : Bool :=
  decide (s.oxn.cn < s.gt) && decide (s.gt + 50 * us ≤ s.oxn.cn + tOcNs s)

/-- The handover in hand does not take place. -/
def handoverRefused (rs : Reason) (s : State) : State :=
  match s.plv.handoverAt with
  | none => s
  | some (c, e) => answer c e (fun c s => refuse c 0x10 0x04 rs s)
      { s with plv := { s.plv with handoverAt := none } }

/-- The active sends RELEASE and takes STANDBY (R259); with a network neither SYNCED nor NARROW it takes SYNCING
and IDLE (Table 2.3). The handover completes first; other commands that wait end with ABORTED (R348). -/
def releaseNow (s : State) : State :=
  let s1 := sendP0 0x0B [kRelease, s.cyc.cycle] s
  let s2 := setTuple (fun m => if netUp s then { m with role := .standby } else { m with role := .syncing, run := .idle })
    { s1 with
    mod := { s1.mod with partner := { s1.mod.partner with role := .active } }
    plv := { s1.plv with
      handovers := satInc 0xFFFF s1.plv.handovers, handoverAt := none, source := false, step := 0
      tierAt := none }
    con := { s1.con with ejectRetire := s1.con.ejectPending, ejectPending := false } }
  let s3 := canRelease (alSettleAll (tioHandover true { s2 with alp := { s2.alp with ramp := some (false, s2.gt) } }))
  let s4 := occur Code.pairHandover pairSrc 0 s3
  let s5 := match s.plv.handoverAt with
    | some (c, e) => answer c e (fun c s => done c 0x10 (tupleWord s.mod.tup) s) s4
    | none => s4
  let s6 := opsAbort (hartAbort (abortWaiting (stageFail .partnerFail s5)))
  if netUp s then s6 else dropShadow s6

/-- A standby that receives RELEASE at the common boundary takes ACTIVE and applies its last publication (R259,
R291, R310). -/
def takeActive (s : State) : State :=
  if s.mod.tup.role ≠ .standby then s else
    let s1 := setRole .active { s with
      mod := { s.mod with partner := { s.mod.partner with role := .standby } }
      alp := { s.alp with ramp := some (true, s.gt) }
      plv := { s.plv with handovers := satInc 0xFFFF s.plv.handovers, waitSolo := false } }
    let s2 := tioRefreshNow true (tioHandover false (canTakeOver (outEntry s1) (alPublish (setpointOf s1) s1)))
    occur Code.pairHandover pairSrc 0 s2

end Sys2Proof.Machine
end

