-- ==== Sys2Proof/Machine/Agree.lean ====
section
/-! DEFINITION. Phase 2 on a shadow (R68 to R70): the active's message, the slices that differ, and the answer. -/

namespace Sys2Proof.Machine

/-- The shadow holds the active's image: AGREE_DONE, and phase 2 ends (R69, R70). -/
def agreeHeld (s : State) : State := afterAgree (sendP0 0x05 [s.cyc.cycle] s)

/-- Slices whose digest the active's message gives otherwise than the module's own commit. -/
def sliceDiffs (m : AgreeMsg) (s : State) : List Nat :=
  let own := digests s.cyc.img
  let theirs : Tab DWord := m.digests.foldl (fun t d => Tab.set t d.1 d.2) []
  let z := BitVec.ofNat 64 zeroSliceDigest
  (((own ++ theirs).map (·.1)).eraseDups).filter fun k => Tab.getD own k z != Tab.getD theirs k z

/-- The shadow commits at the active's T_commit and compares (R68, R69). -/
def agreeTake (m : AgreeMsg) (s : State) : State :=
  let s1 := tioFromActive m.tCommit m.fnState.toNat
    (commitAt m.tCommit { s with plv := { s.plv with agreeWait := none } })
  let d := sliceDiffs m s1
  if d.isEmpty then agreeHeld s1
  else sendP0 0x03 d { s1 with cyc := { s1.cyc with asked := d } }

/-- The module stands at a program cycle boundary, ready for the next cycle. -/
def atBoundary (s : State) : Bool := s.cyc.phase = .boundary && s.chg.mig = none && s.clk.gapFrom.isNone

/-- A standby waits at its boundary while a silence is judged (R247). -/
def silentWait (s : State) : Bool := s.mod.arb && s.plv.arbCause = 3

/-- A message that came before the shadow reached its boundary is taken there; one of a past cycle is dropped. -/
def agreeReady (s : State) : State :=
  match s.plv.agreeWait with
  | none => s
  | some m =>
    if !follows s || decide (m.cycle < s.cyc.cycle) then { s with plv := { s.plv with agreeWait := none } }
    else if atBoundary s && !silentWait s && m.cycle = s.cyc.cycle then agreeTake m s
    else s

/-- An AGREE message arrives. -/
def agreeArrive (m : AgreeMsg) (s : State) : State :=
  if follows s then agreeReady { s with plv := { s.plv with agreeWait := some m } } else s

/-- Requested slices leave the active (R69): slice number and its 4,096 bytes. -/
def sendSlices (slices : List Nat) (s : State) : State :=
  if s.mod.tup.role = .active && s.cyc.tc ≠ 0 then
    slices.foldl (fun s k => sendP0 0x04 (payBytes (le 4 k ++ sliceBytes s.cyc.img k)) s) s
  else s

/-- A fetched slice replaces the shadow's own (R69). -/
def sliceTake (k : Nat) (entries : List (Nat × Entry)) (s : State) : State :=
  if follows s && s.cyc.phase = .agree && decide (k ∈ s.cyc.asked) then
    let kept := s.cyc.img.filter fun p => p.1 / 256 ≠ k
    let img := (entries.filter fun p => p.1 / 256 = k).foldl (fun t p => Tab.put t p.1 p.2 Entry.zero) kept
    let s1 := { s with cyc := { s.cyc with
      img := img, fetched := s.cyc.fetched + 1, asked := s.cyc.asked.filter (· ≠ k) } }
    if s1.cyc.asked.isEmpty then agreeHeld s1 else s1
  else s

/-- AGREE_DONE on the active (R70). -/
def agreeDone (cycle : Nat) (s : State) : State :=
  if s.mod.tup.role = .active && s.cyc.phase = .agree && cycle = s.cyc.cycle then afterAgree s else s

/-- The partner's signature (R78). -/
def signatureTake (cycle sig : Nat) (s : State) : State :=
  if s.cyc.cycle ≤ cycle then compareSigs { s with cyc := { s.cyc with partnerSig := some (cycle, sig) } } else s

end Sys2Proof.Machine
end

