-- ==== Sys2Proof/Machine/HeatCmds.lean ====
section
/-! DEFINITION. The allowance and the rules of Table 16.2, and the tier that the active names to its partner (R390, R393,
R395). -/

namespace Sys2Proof.Machine

/-- The boundary that an active names for a change of tier: the first at least 1 ms ahead, by the length of the
cycle that has ended. -/
def tierCycle (s : State) : Nat :=
  let r : Nat × Nat := if s.cyc.phase = .boundary then (s.cyc.houseEnd - s.cyc.tc, 0)
    else (s.cyc.rec91.getD 2 0 * us, s.gt - s.cyc.tc)
  let len := Max.max us r.1
  s.cyc.cycle + Max.max 1 ((r.2 + ms + len - 1) / len)

/-- A tier that the pair agreed takes effect at its boundary. -/
def tierAgreed (s : State) : State :=
  match s.plv.tierAt with
  | some (k, n) => if n ≤ s.cyc.cycle then tierTake k { s with plv := { s.plv with tierAt := none } } else s
  | none => s

/-- The tier is agreed over P0: with a standby, and with a new module that has taken the variables (Table 9.7a steps 6
to 8), so that it becomes STANDBY in the tier of its active (R47). -/
def tierPair (s : State) : Bool :=
  pairRuns s || (s.mod.tup.role = .active && s.mod.partner.role = .syncing && s.plv.source && decide (6 ≤ s.plv.step))

/-- The tier that the partner's last heartbeat gives differs, and that heartbeat is younger than this module's own last
change. -/
def tierApart (s : State) (k : Nat) : Bool :=
  tierNum s.mod.partner.tier ≠ k && (match s.plv.lastHb with
    | some h => decide (s.hl.lastChange < h)
    | none => false)

/-- The active names a boundary for a common tier that has changed, or that either module does not run at (R395). -/
def tierName (s : State) : State :=
  let k := wantPair s
  if !tierPair s || s.plv.tierAt.isSome || (tierNum s.mod.tup.tier = k && !tierApart s k) then s
  else
    let n := tierCycle s
    sendP0 0x0B [kTier, n, k] { s with plv := { s.plv with tierAt := some (k, n) } }

/-- The allowance in force takes a value in 0.1 W (R390): HL_ALLOW and rule 1 at a change. -/
def setAllow (v : Nat) (s : State) : State :=
  if s.hl.allow = v then s
  else
    let s1 := occur Code.hlAllow Src.heat 0 { s with hl := { s.hl with
      allow := v, overPower := if s.hl.pIn ≤ v then none else s.hl.overPower } }
    tierName (hlFlags (wantTier 1 (Max.max s1.hl.want (tAllow s1)) s1))

/-- MGT_ALLOW (R390): below 15 W counts as 15 W and sets ALLOW_LOW, above 60 W counts as 60 W. -/
def execMgtAllow (t : Nat) (frame : List Byte) (s0 : State) : Host.Outcome State Fault Refusal :=
  let s := atT t s0
  .next (match mgtPayload s 0x11 2 frame with
    | none => s
    | some p =>
      let v := ofLe p
      setAllow (Min.min 600 (Max.max 150 v)) { s with hl := { s.hl with
        msgs := satInc 0xFFFF s.hl.msgs, lastMsg := s.gt, stale := false, allowLow := decide (v < 150) } })

/-- TIER_RULE2 (R393): P_IN above the allowance for 1 s without background work: one step towards T3, repeated after a
further 1 s. -/
def execTierRule2 (t : Nat) (s0 : State) : Host.Outcome State Fault Refusal :=
  let s := atT t s0
  .next (if held s.hl.overPower sec s.gt && s.hl.bgRun.isEmpty && decide (s.hl.allow < s.hl.pIn) then
    tierName (wantTier 2 (Min.min 3 (s.hl.want + 1)) { s with hl := { s.hl with overPower := some s.gt } }) else s)

/-- TIER_RULE3 (R393): T_DIE ≥ 105 °C for 1 s, repeated every 5 s. -/
def execTierRule3 (t : Nat) (s0 : State) : Host.Outcome State Fault Refusal :=
  let s := atT t s0
  .next (if held s.hl.over105 sec s.gt && (s.hl.last3 = none || held s.hl.last3 (5 * sec) s.gt) then
    let s1 := { s with hl := { s.hl with last3 := some s.gt } }
    if s.hl.want < 3 then
      tierName (wantTier 3 (s.hl.want + 1) { s1 with hl := { s1.hl with hotSteps := satInc 0xFF s1.hl.hotSteps } })
    else s1 else s)

/-- TIER_RULE5 (R393). -/
def execTierRule5 (t : Nat) (s0 : State) : Host.Outcome State Fault Refusal :=
  let s := atT t s0
  .next (if rule5Ok s then tierName (wantTier 5 (s.hl.want - 1) s) else s)

end Sys2Proof.Machine
end

