-- ==== Sys2Proof/Machine/Grants.lean ====
section
/-! DEFINITION. The fields of a grant in its 196 bytes (Table 13.6), and its signature: ECDSA on P-521 with SHA-512
(R342), the curve and the verification as the standard that the rule names gives them. -/

namespace Sys2Proof

/-- MAGIC. -/
def Grant.magic (g : Grant) : Nat := Machine.field g.raw 0 4
/-- FORMAT. -/
def Grant.format (g : Grant) : Nat := Machine.field g.raw 4 1
/-- KEY_SLOT. -/
def Grant.keySlot (g : Grant) : Nat := Machine.field g.raw 5 1
/-- ACTION. -/
def Grant.action (g : Grant) : Nat := Machine.field g.raw 6 1
/-- FLAGS. -/
def Grant.flags (g : Grant) : Nat := Machine.field g.raw 7 1
/-- SERIAL. -/
def Grant.serial (g : Grant) : Nat := Machine.field g.raw 8 8
/-- EXPIRY. -/
def Grant.expiry (g : Grant) : Nat := Machine.field g.raw 16 8
/-- NONCE. -/
def Grant.nonce (g : Grant) : Nat := Machine.field g.raw 24 16
/-- TARGET. -/
def Grant.target (g : Grant) : List Byte := (g.raw.drop 40).take 16
/-- The reserved bytes are 0. -/
def Grant.reservedZero (g : Grant) : Bool := g.raw.length = 196 && Machine.zeros g.raw 56 8

end Sys2Proof

namespace Sys2Proof.Machine

/-! ### The curve P-521 -/

/-- Its prime, 2^521 − 1. -/
def p521 : Nat := 2 ^ 521 - 1

/-- The order of its base point. -/
def p521Order : Nat :=
  0x1fffffffffffffffffffffffffffffffffffffffffffffffffffffffffffffffffa51868783bf2f966b7fcc0148f709a5d03bb5c9b8899c47aebb6fb71e91386409

/-- Its coefficient b; a is −3. -/
def p521B : Nat :=
  0x51953eb9618e1c9a1f929a21a0b68540eea2da725b99b315f3b8b489918ef109e156193951ec7e937b1652c0bd3bb1bf073573df883d2c34f1ef451fd46b503f00

/-- The base point's coordinates. -/
def p521G : Nat × Nat :=
  (0xc6858e06b70404e9cd9e3ecb662395b4429c648139053fb521f828af606b4d3dbaa14b5e77efe75928fe1dc127a2ffa8de3348b3c1856a429bf97e7e31c2e5bd66,
   0x11839296a789a3bc0045c8a5fb42c7d1bd998f54449579b446817afbd17273e662c97ee72995ef42640c550b9013fad0761353c7086a272c24088be94769fd16650)

/-- Product of the field. -/
def fMul (a b : Nat) : Nat := a * b % p521
/-- Difference of the field. -/
def fSub (a b : Nat) : Nat := (a + (p521 - b % p521)) % p521

/-- A point in Jacobian coordinates (x / z², y / z³); z is 0 at infinity. -/
structure Jac where
  x : Nat
  y : Nat
  z : Nat
deriving DecidableEq, Repr, Inhabited

/-- The point at infinity. -/
def jacZero : Jac := ⟨1, 1, 0⟩

/-- Twice a point. -/
def jacDouble (p : Jac) : Jac :=
  let d := fMul p.z p.z
  let g := fMul p.y p.y
  let b := fMul p.x g
  let a := fMul 3 (fMul (fSub p.x d) (p.x + d))
  let x := fSub (fMul a a) (fMul 8 b)
  ⟨x, fSub (fMul a (fSub (fMul 4 b) x)) (fMul 8 (fMul g g)), fMul 2 (fMul p.y p.z)⟩

/-- The sum of two points. -/
def jacAdd (p q : Jac) : Jac :=
  if p.z = 0 then q else if q.z = 0 then p else
    let zp := fMul p.z p.z
    let zq := fMul q.z q.z
    let u := fMul p.x zq
    let s := fMul p.y (fMul q.z zq)
    let h := fSub (fMul q.x zp) u
    let r := fSub (fMul q.y (fMul p.z zp)) s
    if h = 0 then (if r = 0 then jacDouble p else jacZero) else
      let h2 := fMul h h
      let h3 := fMul h h2
      let v := fMul u h2
      let x := fSub (fSub (fMul r r) h3) (fMul 2 v)
      ⟨x, fSub (fMul r (fSub v x)) (fMul s h3), fMul h (fMul p.z q.z)⟩

/-- a·P + b·Q over the highest n of 521 bits, P + Q given. -/
def jacBoth (a b : Nat) (p q pq : Jac) : Nat → Jac
  | 0 => jacZero
  | n + 1 =>
    let d := jacDouble (jacBoth a b p q pq n)
    match a.testBit (520 - n), b.testBit (520 - n) with
    | true, true => jacAdd d pq
    | true, false => jacAdd d p
    | false, true => jacAdd d q
    | false, false => d

/-- The power a^k of a modulus, k of at most n bits. -/
def powMod (m a k : Nat) : Nat → Nat
  | 0 => 1
  | n + 1 =>
    let h := powMod m a (k / 2) n
    if k % 2 = 1 then h * h % m * a % m else h * h % m

/-- A public key is a point of the curve. -/
def onCurve (x y : Nat) : Bool :=
  decide (x < p521 ∧ y < p521) && fMul y y = fSub (fMul x (fMul x x) + p521B) (3 * x)

/-- The signature (r, s) over a message verifies against the public key (qx, qy). -/
def ecdsaOk (qx qy : Nat) (msg : List Byte) (r s : Nat) : Bool :=
  if !(decide (0 < r ∧ r < p521Order ∧ 0 < s ∧ s < p521Order) && onCurve qx qy) then false else
    let e := ofLe (sha512 msg).reverse
    let w := powMod p521Order s (p521Order - 2) 521
    let g : Jac := ⟨p521G.1, p521G.2, 1⟩
    let q : Jac := ⟨qx, qy, 1⟩
    let p := jacBoth (e * w % p521Order) (r * w % p521Order) g q (jacAdd g q) 521
    decide (p.z ≠ 0) &&
      [r, r + p521Order].any fun x => decide (x < p521) && p.x = fMul x (fMul p.z p.z)

/-- SIGNATURE of a grant, over its bytes 0 to 63, verifies against a key (Table 13.6). -/
def grantSigned (g : Grant) (k : KeyRec) : Bool :=
  ecdsaOk k.qx k.qy (g.raw.take 64) (ofLe ((g.raw.drop 64).take 66).reverse) (ofLe ((g.raw.drop 130).take 66).reverse)

end Sys2Proof.Machine
end

