-- ==== Sys2Proof/Machine/Reset.lean ====
section
/-! DEFINITION. A reset of the module: what MRAM, NAND, fuses and contacts keep (Table 1.5), everything else as
at power-on. -/

namespace Sys2Proof.Machine

/-- A reset of the module while its contacts stay mated. It is held in reset until POWER_ON_RESET_RELEASE. The
staged generation and every register "since power-on" are lost (DEDUCED). GT counts from 0 (R212). A debug unlock ends
with the reset and is written (R368). -/
def moduleReset (s0 : State) : State :=
  let s := setUnlock 0 0 s0
  { State.reset with
    nva := s.nva
    nvb := s.nvb
    mod := { modReset with
      variantX := s.mod.variantX, serial := s.mod.serial, slot := s.mod.slot, stmElig := s.mod.stmElig
      present := s.mod.present, ejector := s.mod.ejector }
    hxp := { hxpReset with era := s.hxp.era + 1, perst := s.hxp.perst }
    flt := { fltReset with l5 := s.flt.l5 }
    con := { conReset with sense := s.con.sense, powered := s.con.powered, inReset := true }
    hl := { hlReset with charged := s.hl.charged }
    out := s.out
    free := s.free
    pending := s.pending }

end Sys2Proof.Machine
end

