-- ==== Sys2Proof/Machine/Units.lean ====
section
/-! DEFINITION. Re-admission of units (R413, Table 17.5): which unit a source number names, the tests that a
READMIT awaits, and how each class returns to service. -/

namespace Sys2Proof.Machine

/-- Units that a READMIT's SOURCE names (R340, Table 8.3), but for lanes and the module. The source that the model
gives engines without a row of their own names those that are retired (log entry 8). -/
def unitsOfSrc (s : State) (src : Nat) : List UnitId :=
  let unit := bits src 8 12
  let sub := bits src 0 8
  match src / 2 ^ 20 with
  | 0 => if src = Src.flt then ([4, 5, 6].map UnitId.engine).filter (isRetired s)
    else if sub = 0 ∧ 1 ≤ unit ∧ unit ≤ 4 then [.cell (unit - 1)] else []
  | 1 => if unit ≠ ownNode s then [] else if sub = 0 then [.oxn .a] else if sub = 1 then [.oxn .b] else []
  | 2 => if unit ≠ 0 then [] else if sub < 24 then [.ti sub] else if 0x20 ≤ sub ∧ sub < 0x24 then [.tp (sub - 0x20)]
    else if 0x40 ≤ sub ∧ sub < 0x4C then [.tq (sub - 0x40)] else []
  | 3 => if unit = 0 ∧ sub < 4 then [.al sub] else []
  | 4 => if unit = 0 ∧ sub < 4 then [.can sub] else []
  | 6 => if sub = 0 ∧ 1 ≤ unit ∧ unit ≤ 3 then [.plv (unit - 1)] else []
  | _ => []

/-- Lanes of a mask. -/
def lanesOf (mask : Nat) : List Lane := lanes3.filter fun l => mask.testBit (laneIx l)

/-- A trip I/O channel returns at the next refresh; a SAFETY output waits for a reset edge (Table 17.5). -/
def tioReturn (u : UnitId) (s : State) : State :=
  let s1 := readmitRecord u s
  match u with
  | .ti i => updTi i (fun c => { c with
      fails := [], passes := [], cross := [], sinkFault := none, disc := false, discSince := none }) s1
  | .tp p => updTp p (fun _ => tpReset) s1
  | .tq q => latchAll [q] (updTq q (fun c => { c with
      faults := [], breach := none, ovr := none, heldUp := none, dark := none }) s1)
  | _ => s1

/-- An analog channel returns at the next refresh. -/
def alReturn (x : Nat) (s : State) : State := updAl x (fun c => { c with faults := [] }) (readmitRecord (.al x) s)

/-- A readmitted unit whose test passed returns at a boundary: a cell (R76), an engine, or the observation of an
Oxuger channel (R200). -/
def unitReturn (u : UnitId) (s : State) : State :=
  match u with
  | .oxn c => if isRetired s u then observeStart c s else s
  | .cell n => if isRetired s u then gateOpen n (hlFlags (readmitRecord u s)) else s
  | .engine 4 => if isRetired s u then canGate (readmitRecord u s) else s
  | .ti _ => if isRetired s u then tioReturn u s else s
  | .tp _ => if isRetired s u then tioReturn u s else s
  | .tq _ => if isRetired s u then tioReturn u s else s
  | _ => if isRetired s u then readmitRecord u s else s

/-- A READMIT of a unit that returns without waiting for a boundary. -/
def unitNow (u : UnitId) (s : State) : State :=
  match u with
  | .al x => alReturn x s
  | .can x => updCan x (fun p => { p with readmit := true }) s
  | .plv p => updPort p (fun x => { x with readmit := some s.gt }) s
  | _ => tioReturn u s

/-- A READMIT of lanes takes effect once their tests have ended (R163, R165): under WITHDRAWN every lane that is not
retired is admitted; else each named lane that passed is re-seeded. A RETIRED module stays WITHDRAWN (Table 2.2). `was`
are the lanes that were retired before. -/
def lanesReturn (was : List Lane) (mask : Nat) (s0 : State) : State :=
  if s0.mod.tup.role = .retired then s0 else
  let all := s0.mod.tup.ile = .withdrawn
  let ls := lanes3.filter fun l => !isRetired s0 (.lane l) && (all || (l ∈ lanesOf mask && !(laneOf s0 l).admitted))
  let s := { s0 with ile := { s0.ile with readmits := ls.map fun l => (l, decide (l ∈ was)) } }
  let opened := (lanesOf mask).foldl (fun s l => if isRetired s (.lane l) then s else gateOpen (laneBlk l) s) s
  if s.mod.tup.ile = .withdrawn then ileRecover opened
  else (lanesOf mask).foldl (fun s l =>
    if isRetired s (.lane l) || (laneOf s l).admitted then s else laneRejoin l s) s

/-- A trip I/O channel, which returns at the next refresh. -/
def isTrip : UnitId → Bool
  | .ti _ => true
  | .tp _ => true
  | .tq _ => true
  | _ => false

/-- A READMIT whose tests have passed waits for the boundary; a trip I/O channel, and a unit of a RETIRED module, which
has no boundary, take it at once. -/
def readmitPassed (u : UnitId) (p : PendCmd) (s : State) : State :=
  if isTrip u || s.mod.tup.role = .retired then
    let s1 := unitReturn u s
    answerOk p (tupleWord s1.mod.tup) s1
  else pushPend { p with body := .unit u } s

/-- A lane whose test failed leaves the mask of a waiting READMIT. -/
def laneOut (u : UnitId) (mask : Nat) : Nat :=
  match u with
  | .lane l => if mask.testBit (laneIx l) then mask - 2 ^ laneIx l else mask
  | _ => mask

/-- The lanes of a mask whose tests passed are no longer retired. -/
def lanesPassed (mask : Nat) (s : State) : State :=
  (lanesOf mask).foldl (fun s l => if isRetired s (.lane l) then readmitRecord (.lane l) s else s) s

/-- The waiting READMIT commands after the test of a unit has ended. The lanes of a READMIT return together, once the
last of their tests has ended; an arbitration that stands then refuses the command (R39). -/
def bistWait (u : UnitId) (ok : Bool) (s : State) (p : PendCmd) : State :=
  match p.body with
  | .unitWait us mask =>
    if u ∉ us then pushPend p s
    else
      let rest := us.filter (· ≠ u)
      if mask = 0 then
        if ok then (if rest.isEmpty then readmitPassed u p s else pushPend { p with body := .unitWait rest 0 } s)
        else answerRefuse p .guard s
      else
        let passed := if ok then mask else laneOut u mask
        if !rest.isEmpty then pushPend { p with body := .unitWait rest passed } s
        else if s.mod.arb then answerRefuse p .busy s
        else
        let s1 := lanesReturn ((lanesOf passed).filter fun l => isRetired s (.lane l)) passed (lanesPassed passed s)
        if (lanesOf passed).any fun l => !isRetired s1 (.lane l) then answerOk p (tupleWord s1.mod.tup) s1
        else answerRefuse p .guard s1
  | _ => pushPend p s

/-- The test that a READMIT awaits has ended (R76, R163, R165). -/
def bistDone (u : UnitId) (ok : Bool) (s : State) : State :=
  s.cyc.pend.foldl (bistWait u ok) { s with cyc := { s.cyc with pend := [] } }

/-- PLV_READMIT_SECOND (R413): the port has trained and discarded no packet for 1 s. -/
def execPlvReadmitSecond (t port : Nat) (s0 : State) : Host.Outcome State Fault Refusal :=
  let s := atT t s0
  .next (match (portOf s port).readmit with
    | some r =>
      if (portOf s port).lanes ≠ 0 ∧ r + sec ≤ s.gt ∧ isRetired s (.plv port) then
        let s1 := readmitRecord (.plv port) (updPort port (fun x => { x with readmit := none }) s)
        bistDone (.plv port) true s1
      else s
    | none => s)

end Sys2Proof.Machine
end

