-- ==== Sys2Proof/Machine/Slots.lean ====
section
/-! DEFINITION. The firmware slots and the pointer record (R452, R454), the trial's health and its confirmation
(R461, R462). -/

namespace Sys2Proof.Machine

/-- Slot 0 A, 1 B. -/
def slotOf (n : NvA) (b : Nat) : ImgSlot := if b = 0 then n.slotA else n.slotB

/-- Change a slot. -/
def updSlot (b : Nat) (f : ImgSlot → ImgSlot) (s : State) : State :=
  if b = 0 then { s with nva := { s.nva with slotA := f s.nva.slotA } }
  else { s with nva := { s.nva with slotB := f s.nva.slotB } }

/-- The inactive slot (R458); Speedwell writes slot A (R469). -/
def altSlot (s : State) : Nat := if s.fwu.speedwell then 0 else 1 - s.fwu.runSlot

/-- The record when neither copy is valid (R454). -/
def ptrNone : PtrRec := ⟨0, true, 0, none, .none, false, .none⟩

/-- The pointer record in force, and whether copy B holds it (R454). -/
def ptrCopy (n : NvA) : PtrRec × Bool :=
  match n.ptrA.valid, n.ptrB.valid with
  | true, true => if n.ptrA.seq < n.ptrB.seq then (n.ptrB, true) else (n.ptrA, false)
  | true, false => (n.ptrA, false)
  | false, true => (n.ptrB, true)
  | false, false => (ptrNone, true)

/-- The pointer record in force. -/
def ptrNow (s : State) : PtrRec := (ptrCopy s.nva).1

/-- A change of the pointer record goes into the other copy, its sequence number raised by 1 (R454). -/
def ptrPut (f : PtrRec → PtrRec) (s : State) : State :=
  let c := ptrCopy s.nva
  let r := { f c.1 with seq := c.1.seq + 1, valid := true }
  if c.2 then { s with nva := { s.nva with ptrA := r } } else { s with nva := { s.nva with ptrB := r } }

/-- A fallback is recorded with its cause (R455, R463). -/
def ptrFall (cause : FbCause) (s : State) : State :=
  ptrPut (fun r => { r with phase := .none, try_ := none, fallback := true, cause := cause }) s

/-- Number of a fallback cause (R455). -/
def fbCode : FbCause → Nat
  | .none => 0
  | .reset => 1
  | .verify => 2
  | .boot => 3
  | .window => 4
  | .corrupt => 5
  | .xfer => 6

/-- 60 s of unbroken SYNCED or NARROW (R461). -/
def trialNetOk (s : State) : Bool := held s.fwu.netSince (60 * sec) s.gt

/-- The third condition of R461. -/
def trialPairOk (s : State) : Bool :=
  !(s.mod.present && s.mod.partner.role ≠ .retired) || s.mod.tup.role = .standby || pairRuns s

/-- The image is healthy (R461). -/
def trialHealthy (s : State) : Bool := s.fwu.bstOk && trialNetOk s && trialPairOk s && selfOk s

/-- The running slot becomes the confirmed one (R462, R463). -/
def ptrConfirm (s : State) : State :=
  ptrPut (fun r => { r with
    conf := s.fwu.runSlot, try_ := none, phase := .none, fallback := false, cause := .none }) s

/-- Confirmation of a trial (R462, R464). -/
def fwConfirm (s : State) : State :=
  let s1 := setFw .confirmed (ptrConfirm { s with fwu := { s.fwu with trialEnd := 0, ownTrial := false } })
  let s2 := occur Code.fwConfirmed Src.fw 0 { s1 with nva := { s1.nva with oldFormat := 0 } }
  match s.fwu.run with
  | some h => if h.raiseFloor && decide (s.nva.secFloor < h.secVersion) then
      occur Code.fwFloorRaised Src.fw 0 { s2 with nva := { s2.nva with secFloor := Min.min 64 h.secVersion } }
    else s2
  | none => s2

/-- The boundary's part of a trial: confirmation within the window, or the reset that follows its end on a module
that hands nothing over (R462, R463). -/
def trialBoundary (s : State) : State :=
  if s.fwu.windowFall then (if pairRuns s then s else moduleReset s)
  else if s.mod.tup.fw = .trial && decide (s.gt < s.fwu.trialEnd) && trialHealthy s then fwConfirm s
  else s

/-- The reset of R459: within 100 ms; a STANDBY or SYNCING module sends LEAVING. -/
def leaveReset (s : State) : State :=
  let s1 := { s with fwu := { s.fwu with resetAt := some (s.gt + 100 * ms) } }
  if shadows s then sendP0 0x0B [kLeaving] s1 else s1

/-! ### Chunks (R458) -/

/-- Bytes stored in a slot. -/
def slotBytes (x : ImgSlot) : Nat := (x.blocks.map (·.2)).sum

/-- Bytes that a chunk of n bytes puts into the blocks from b on: each block holds a prefix, since OFFSET is a
multiple of 4,096. -/
def putBlocks : Nat → Nat → Nat → Tab Nat → Tab Nat
  | 0, _, _, t => t
  | k + 1, b, n, t =>
    let m := Min.min 4096 n
    putBlocks k (b + 1) (n - m) (Tab.set t b (Max.max m (Tab.getD t b 0)))

/-- A chunk restarts the slot: OFFSET 0, or another TOTAL than that of the slot's earlier chunks. -/
def chunkRestarts (x : ImgSlot) (off total : Nat) : Bool := off = 0 || (x.total ≠ 0 && x.total ≠ total)

/-- A chunk is stored in the inactive slot; the last one starts the digest as background work of priority 2, which
Speedwell does without the ledger. -/
def chunkStore (off total len : Nat) (hdr : Option ImageHdr) (s : State) : State :=
  let b := altSlot s
  let restart := chunkRestarts (slotOf s.nva b) off total
  let s1 := if restart then occur Code.fwChunkRestart Src.fw 0 (updSlot b (fun _ => slotReset) s) else s
  let s2 := updSlot b (fun x => { x with
    total := total
    blocks := putBlocks ((len + 4095) / 4096) (off / 4096) len x.blocks
    hdr := if off = 0 then hdr else x.hdr
    complete := false
    digest := 0 }) s1
  if slotBytes (slotOf s2.nva b) = total then
    bgWant 2 { s2 with fwu := { s2.fwu with hashing := true } }
  else { s2 with fwu := { s2.fwu with hashing := false } }

/-- IMAGE_HASH_DONE: the digest of a complete inactive slot is computed, and ALT_COMPLETE is set. -/
def execImageHashDone (t digest : Nat) (s0 : State) : Host.Outcome State Fault Refusal :=
  let s := atT t s0
  .next (if s.fwu.hashing then
    let s1 := updSlot (altSlot s) (fun x => { x with complete := true, digest := digest })
      { s with fwu := { s.fwu with hashing := false } }
    if s1.chg.job.isSome then s1 else bgUnwant 2 s1
  else s)

/-- FW_TRIAL_WINDOW_END (R463): the fallback is recorded; the module acts at its next boundary. -/
def execFwTrialWindowEnd (t : Nat) (s0 : State) : Host.Outcome State Fault Refusal :=
  let s := atT t s0
  .next (if s.mod.tup.fw = .trial && s.fwu.trialEnd ≠ 0 && decide (s.fwu.trialEnd ≤ s.gt) && !s.fwu.windowFall then
    ptrFall .window { s with fwu := { s.fwu with windowFall := true } } else s)

end Sys2Proof.Machine
end

