-- ==== Sys2Proof/Machine/Boundary.lean ====
section
/-! DEFINITION. The program cycle boundary (R36 to R39, R43 to R47, R86, R100 to R103, R119 to R122, R259): what
waits for it takes effect in the order of R38. -/

namespace Sys2Proof.Machine

/-! ### Run state (Table 2.6) -/

/-- Guard of START (Table 2.6). -/
def startGuard (s : State) : Bool :=
  driverRole s && (s.mod.tup.run = .idle || s.mod.tup.run = .hold) && genCur s ≠ 0 && netUp s
    && (s.mod.tup.role ≠ .solo || !s.mod.present || quorumOf s s.oxn.lastViews (partnerUnheard s))

/-- The result of START breaks R30 or R33. -/
def startIllegal (s : State) : Bool :=
  s.mod.tup.bst = .compat
    || (s.mod.valid && (s.mod.partner.role = .solo || s.mod.partner.role = .active)
      && (s.mod.partner.run = .run || s.mod.partner.run = .hold))

/-- START takes RUN; from IDLE the variables that are not retained start anew with the memories of their edge
detectors (R84), and so do the largest values of the scan bounds (R397). -/
def startTake (s : State) : State :=
  setRun .run (if s.mod.tup.run = .idle then
    hlRestart { s with cyc := { s.cyc with vars := startVars s.chg.cur.vars s.cyc.vars } } else s)

/-- A run request takes effect on the module. -/
def runTake (req : Nat) (s : State) : State :=
  match req with
  | 1 => startTake s
  | 2 => setRun .hold s
  | _ => setRun .idle s

/-- Request code of a run request. -/
def runReq : Pend → Nat
  | .start => 1
  | .hold => 2
  | _ => 3

/-- Guards of Table 2.6. STOP has its effect on a HOLD that the scan watchdog caused too (log entry 147). -/
def runGuard (req : Nat) (s : State) : Bool :=
  match req with
  | 1 => startGuard s
  | 2 => driverRole s && s.mod.tup.run = .run
  | _ => driverRole s && (s.mod.tup.run = .run || s.mod.tup.run = .hold)

/-- START, HOLD or STOP at its boundary, on both modules of a pair at one (R45). -/
def runEff (p : PendCmd) (s : State) : State :=
  let req := runReq p.body
  if !relayed p && req = 1 && !s.mod.arb && startIllegal s then answerRefuse p .notLegal s
  else guarded (runGuard req) (fun p s =>
    let s1 := runTake req (relayNow req [] s)
    answerOk p (tupleWord s1.mod.tup) s1) p s

/-- A second expiry of the scan watchdog in one cycle (R53). -/
def holdStep (s : State) : State :=
  let s1 := { s with cyc := { s.cyc with holdNext := false } }
  if s.cyc.holdNext && driverRole s && s.mod.tup.run = .run then setRun .hold s1 else s1

/-- A relayed command falls on a shadow that is no STANDBY yet: a run request says how the active's next cycle runs. -/
def relayDrop (body : Pend) (s : State) : State :=
  let runs (k : RunState) : State := { s with mod := { s.mod with partner := { s.mod.partner with run := k } } }
  match body with
  | .start => runs .run
  | .hold => runs .hold
  | .stop => runs .idle
  | _ => s

/-- Run requests. -/
def isRun : Pend → Bool
  | .start => true
  | .hold => true
  | .stop => true
  | _ => false

/-- AUTOSTART (Table 2.15): RUN at the first boundary after BOOT at which the guards of Table 2.6 hold. -/
def autoStep (s : State) : State :=
  if !s.fwu.auto then s
  else if !driverRole s || s.mod.tup.run ≠ .idle then { s with fwu := { s.fwu with auto := false } }
  else if s.mod.arb || startIllegal s || !startGuard s then s
  else runTake 1 (relayNow 1 [] { s with fwu := { s.fwu with auto := false } })

/-- The run state's part of a boundary. -/
def boundaryRun (s : State) : State := autoStep (takeClass isRun runEff (holdStep s))

/-! ### Change state -/

/-- SOLO, or ACTIVE with the partner STANDBY. -/
def changeRole (s : State) : Bool := s.mod.tup.role = .solo || pairRuns s

/-- Both modules have passed the staging checks: the change state becomes STAGED (R98, R100). -/
def stageTake (g : Gen) (s : State) : State :=
  let est := migEstUs s.chg.cur.vars g.vars
  let s1 := setChange .staged { s with chg := { s.chg with
    before := s.mod.tup.change, staged := some ⟨g, stagedCcv s g⟩, genHigh := g.num, migEst := est, switchAt := none } }
  sendP0 0x0B [kStagedIs, g.num, g.digest] (saveGens (holdTable (some g.ile) s1))

/-- STAGE at its boundary: on the active the last point at which the partner can have left STANDBY. -/
def stageEff (g : Gen) (p : PendCmd) (s : State) : State :=
  if relayed p then stageTake g { s with chg := { s.chg with job := none } }
  else match s.chg.job with
    | none => s
    | some j =>
      if s.mod.arb then
        occur Code.stageRefused Src.sv 0 (answer j.call j.era (fun c s => refuse c j.op (stageReq j.op) .busy s)
          (relayNow kAbandon [] { s with chg := { s.chg with job := none } }))
      else if !changeRole s then stageFail .partnerFail s
      else
        let s1 := stageTake g (relayNow kStaged [] { s with chg := { s.chg with job := none } })
        answer j.call j.era (fun c s => done c j.op g.num s) s1

/-- Cycle S that a SWITCH names, within the limits of R101; the cycle in which the command takes effect is the one
that begins at its boundary (log entry 152). -/
def switchCycle (s : State) (c : Nat) : Option Nat :=
  if c = 0 then some (s.cyc.cycle + 4)
  else if s.cyc.cycle + 4 ≤ c ∧ c ≤ s.cyc.cycle + 1000000 then some c
  else none

/-- The staged generation switches in IDLE only, and the module is not there (R96). -/
def switchBarred (s : State) : Bool :=
  match s.chg.staged with
  | some g => s.mod.tup.run ≠ .idle && needsIdle s.chg.cur g.g
  | none => false

/-- SWITCH (R101); outside IDLE a generation of class IDLE does not switch (R96, log entry 148). -/
def switchEff (c : Nat) (p : PendCmd) (s : State) : State :=
  guarded (fun s => s.mod.tup.change = .staged && s.chg.mig = none && changeRole s && !switchBarred s
      && (switchCycle s c).isSome)
    (fun p s =>
      let n := if relayed p then c else (switchCycle s c).getD 0
      answerOk p n (relayNow 0x11 [n] { s with chg := { s.chg with switchAt := some n } })) p s

/-- R505: after the guards, a command that names another generation completes with NOT_ASSIGNED. -/
def named (gen want : Nat) (eff : PendCmd → State → State) (p : PendCmd) (s : State) : State :=
  if !relayed p && gen ≠ want then answerFail p .notAssigned s else eff p s

/-- CONFIRM (R120). -/
def confirmTake (s : State) : State :=
  let s1 := setChange .confirmed { s with chg := { s.chg with older := none, trialEnd := 0 } }
  occur Code.changeConfirmed Src.sv 0 (saveGens s1)

/-- A CONFIRM was accepted before the trial window ended (R120). -/
def inWindow (s : State) (p : PendCmd) : Bool := s.chg.trialEnd = 0 || decide (p.db < s.chg.trialEnd)

/-- CONFIRM at its boundary. -/
def confirmEff (gen : Nat) (p : PendCmd) (s : State) : State :=
  guarded (fun s => s.mod.tup.change = .trial && s.chg.mig = none && inWindow s p)
    (fun p s => named gen (genCur s) (fun p s =>
      let s1 := confirmTake (relayNow 0x12 [] s)
      answerOk p (genCur s1) s1) p s) p s

/-- A revert begins: the migration back (R122). The command that asked for it completes with the migration. -/
def revertStart (cause : Nat) (s : State) : State :=
  { s with chg := { s.chg with mig := some (s.gt, true, cause) } }

/-- REVERT at its boundary. -/
def revertEff (gen : Nat) (p : PendCmd) (s : State) : State :=
  guarded (fun s => s.mod.tup.change = .trial && s.chg.mig = none)
    (fun p s => named gen (genCur s) (fun p s =>
      pushPend { p with at_ := some 0 } (revertStart revCommand (relayNow 0x13 [revCommand] s))) p s) p s

/-- DISCARD (R100). -/
def discardTake (s : State) : State := saveGens (dropStaged (cancelSwitch 5 s))

/-- DISCARD at its boundary. -/
def discardEff (gen : Nat) (p : PendCmd) (s : State) : State :=
  guarded (fun s => s.mod.tup.change = .staged && s.chg.mig = none)
    (fun p s => named gen (genStaged s) (fun p s =>
      let s1 := discardTake (relayNow 0x14 [] s)
      answerOk p (genCur s1) s1) p s) p s

/-- The switch begins: its migration (R103). -/
def switchStart (s : State) : State :=
  { s with chg := { s.chg with switchAt := none, mig := some (s.gt, false, 0) } }

/-- A command or relay of the change class. -/
def changeEff (p : PendCmd) (s : State) : State :=
  match p.body with
  | .stage g => stageEff g p s
  | .switch c => switchEff c p s
  | .confirm g => confirmEff g p s
  | .revert g => revertEff g p s
  | .discard g => discardEff g p s
  | .pairSwitch => switchStart s
  | .pairRevert c => revertStart c s
  | .pairCancel c => cancelSwitch c s
  | _ => s

/-- Change commands; a REVERT whose migration runs has begun already. -/
def isChange : Pend → Bool
  | .stage _ => true
  | .switch _ => true
  | .confirm _ => true
  | .revert _ => true
  | .discard _ => true
  | .pairSwitch => true
  | .pairRevert _ => true
  | .pairCancel _ => true
  | _ => false

/-- The guards of R102 before a switch: the cause that cancels it. An ACTIVE module whose partner it does not hear as
STANDBY at S has none to switch with. A generation of class IDLE outside IDLE is cancelled with cause 0 (log entry
148). -/
def cancelCause (s : State) (atS : Bool) : Option Nat :=
  if s.mod.tup.role = .active && s.mod.valid && s.mod.partner.role ≠ .standby then some 1
  else if !atS then none
  else if s.mod.arb then some 3
  else if s.mod.tup.role = .active && !(s.mod.valid && pairRuns s) then some 1
  else if switchBarred s then some 0
  else match s.plv.partnerStaged, s.chg.staged with
    | some d, some g => if pairRuns s && d ≠ (g.g.num, g.g.digest) then some 4 else none
    | _, _ => none

/-- The pending switch at a boundary of a driving module (R102, R103); the active tells its standby that it takes
place. -/
def switchStep (s : State) : State :=
  match s.chg.switchAt with
  | none => s
  | some n =>
    if !driverRole s then s
    else match cancelCause s (decide (n ≤ s.cyc.cycle)) with
      | some c => cancelBoth c s
      | none => if n ≤ s.cyc.cycle then switchStart (relayNow kSwitchNow [] s) else s

/-- A CONFIRM accepted in the window still waits (R120). -/
def confirmWaits (s : State) : Bool :=
  s.cyc.pend.any fun p => match p.body with
    | .confirm g => g = genCur s && inWindow s p
    | _ => false

/-- The end of the trial window without confirmation (R119). -/
def windowStep (s : State) : State :=
  if driverRole s && s.mod.tup.change = .trial && s.chg.mig = none && s.chg.trialEnd ≠ 0
      && decide (s.chg.trialEnd ≤ s.gt) && !confirmWaits s then
    revertStart revWindow (relayNow 0x13 [revWindow] s)
  else s

/-- The partner has left STANDBY before the boundary that ends a staging (R98). -/
def stageGone (s : State) : State :=
  if s.mod.tup.role = .active && s.mod.valid && s.mod.partner.role ≠ .standby then stageFail .partnerFail s else s

/-- What step 3 of a resynchronisation brought has changed on the source, which goes back to that step (log entry 149). -/
def backToGens (s : State) : State :=
  if s.plv.source && decide (3 < s.plv.step) then { s with plv := { s.plv with step := 3, stepStart := s.gt } } else s

/-- A change of the generations or of the change state after step 3 of a resynchronisation takes the source back to
that step, so that the new module's agree with its own before STANDBY (Table 2.5, log entry 149). -/
def regens (before : State) (s : State) : State :=
  if s.mod.tup.change ≠ before.mod.tup.change || genCur s ≠ genCur before || genPrev s ≠ genPrev before then backToGens s
  else s

/-- The change state's part of a boundary: commands, then a due switch, then the end of a window. -/
def boundaryChange (s : State) : State :=
  regens s (windowStep (switchStep (takeClass isChange changeEff (stageGone s))))

/-! ### Self-test mode and the rest -/

/-- COMPAT is legal (R30): RETIRED, or SOLO in IDLE. -/
def compatLegal (s : State) : Bool :=
  s.mod.tup.role = .retired || (s.mod.tup.role = .solo && s.mod.tup.run = .idle)

/-- BST_MODE (Table 2.7); COMPAT anywhere but in SOLO and IDLE would be illegal (R30, R34), and its guard is what an
earlier transition of the same boundary may have removed (R38). -/
def bstEff (compat : Bool) (p : PendCmd) (s : State) : State :=
  if s.mod.arb then answerRefuse p .busy s
  else if compat && !compatLegal s then answerRefuse p (if s.cyc.compatOk then .guard else .notLegal) s
  else
    let s1 := setBst (if compat then .compat else .native) s
    answerOk p (tupleWord s1.mod.tup) s1

/-- FW_ACK (R463): the running slot becomes the confirmed one. -/
def fwAckEff (p : PendCmd) (s : State) : State :=
  guarded (fun s => s.mod.tup.fw = .fallback)
    (fun p s =>
      let s1 := setFw .confirmed (ptrConfirm s)
      answerOk p (tupleWord s1.mod.tup) s1) p s

/-- The confirmation of the trip I/O section is stored with the generation (R289). -/
def ccvTake (s : State) : State :=
  saveGens (tioConfirm { s with chg := { s.chg with
    curCcv := true
    staged := s.chg.staged.map fun x => { x with ccv := x.ccv || x.g.tio = s.chg.cur.tio } } })

/-- CCV_CONFIRM at its boundary. -/
def ccvEff (ccv : Nat) (p : PendCmd) (s : State) : State :=
  if relayed p then ccvTake s
  else if !driverRole s then answerRefuse p .role s
  else if ccv ≠ ccvOf s.tio.section_ then answerFail p .ccvMismatch s
  else answerOk p ccv (backToGens (ccvTake (relayNow kCcv [ccv] s)))

/-- The key store with a record applied (R349). -/
def keysWith (k : KeyRec) (t : Tab KeyRec) : Tab KeyRec :=
  if k.qx = 0 ∧ k.qy = 0 then Tab.erase t k.slot else Tab.set t k.slot k

/-- A key store with a key that holds KEYS. -/
def keysHeld (t : Tab KeyRec) : Bool := t.any fun e => e.2.roles.testBit 11

/-- A key record is applied; standing grants that the slot's former key signed end (R346). -/
def keyTake (k : KeyRec) (s : State) : State :=
  { s with
    nva := { s.nva with keys := keysWith k s.nva.keys }
    hxp := { s.hxp with slots := s.hxp.slots.filter fun g => g.2.keySlot ≠ k.slot } }

/-- KEY_PROVISION at its boundary. -/
def keyEff (k : KeyRec) (p : PendCmd) (s : State) : State :=
  if relayed p then keyTake k s
  else if !changeRole s then answerRefuse p .guard s
  else if !keysHeld (keysWith k s.nva.keys) then answerFail p .keyLockout s
  else answerOk p k.slot (keyTake k (relayNow kKey ([k.slot, k.roles] ++ payBytes (le 66 k.qx ++ le 66 k.qy)) s))

/-- A READMIT of a unit at its boundary; that of an Oxuger channel takes both modules of a pair (R200). -/
def unitEff (u : UnitId) (p : PendCmd) (s : State) : State :=
  if !relayed p && s.mod.arb then answerRefuse p .busy s else
  let s1 := match u with
    | .oxn c => if relayed p then s else relayNow kChan [if c = .a then 0 else 1] s
    | _ => s
  let s2 := unitReturn u s1
  answerOk p (tupleWord s2.mod.tup) s2

/-- A command of the last class. -/
def restEff (p : PendCmd) (s : State) : State :=
  match p.body with
  | .bstMode c => bstEff c p s
  | .fwAck => fwAckEff p s
  | .ccv c _ => ccvEff c p s
  | .key k => keyEff k p s
  | .unit u => unitEff u p s
  | _ => s

/-- Commands of the last class. -/
def isRest : Pend → Bool
  | .bstMode _ => true
  | .fwAck => true
  | .ccv _ _ => true
  | .key _ => true
  | .unit _ => true
  | _ => false

/-! ### Heat tier (R47, R395) -/

/-- The heat tier's part of a boundary; while D0 runs on FIRC a change waits (R384). -/
def boundaryTier (s : State) : State :=
  if s.clk.domFirc.testBit 0 || s.clk.gapFrom.isSome then s
  else match s.mod.tup.role with
    | .active => if tierPair s then tierName (tierAgreed s) else tierTake s.hl.want s
    | .standby => tierAgreed s
    | .syncing => if s.plv.step < 6 && s.plv.tierAt.isNone then tierTake s.hl.want s else tierAgreed s
    | _ => tierTake s.hl.want s

/-! ### Roles at a boundary -/

/-- A due command of Table 2.18 after the module has retired at its boundary (R38, R39): its guard is gone, but for
BST_MODE, which is legal there. A staging that was ready is refused with the others. -/
def retiredEff (job : Option StageJob) (p : PendCmd) (s : State) : State :=
  match p.body, job with
  | .bstMode c, _ => bstEff c p s
  | .stage _, some j => occur Code.stageRefused Src.sv 0
      (answer j.call j.era (fun c s => refuse c j.op (stageReq j.op) .guard s) s)
  | _, _ => answerRefuse p .guard s

/-- The body of a staging that is ready. -/
def isStage : Pend → Bool
  | .stage _ => true
  | _ => false

/-- The staging job that a due STAGE waits with, back in `s1` as it was in `s`. -/
def jobBack (ready : Bool) (s s1 : State) : State :=
  { s1 with chg := { s1.chg with job := if ready then s.chg.job else s1.chg.job } }

/-- What may retire the module at a boundary: if it does, the commands due there follow (R38). -/
def retireDue (f : State → State) (s : State) : State :=
  let now (p : PendCmd) : Bool := pendDue s p && p.at_.isNone
  let due := s.cyc.pend.filter now
  let ready := due.any fun p => isStage p.body
  let s1 := f { s with
    cyc := { s.cyc with pend := s.cyc.pend.filter fun p => !now p }
    chg := { s.chg with job := if ready then none else s.chg.job } }
  if s1.mod.tup.role = .retired then due.foldl (fun s p => retiredEff s.chg.job p s) (jobBack ready s s1)
  else jobBack ready s { s1 with cyc := { s1.cyc with pend := due ++ s1.cyc.pend } }

/-- The ejector's latch (R260, R41): retirement in IDLE, unless a standby can take over. -/
def ejectStep (s : State) : State :=
  if !s.con.ejectPending then s
  else if pairRuns s then cancelBoth 6 s
  else if s.mod.tup.run = .idle then retireDue (retireModule .ejector) { s with con := { s.con with ejectPending := false } }
  else s

/-- A completed resynchronisation: STANDBY (R257, Table 2.5). -/
def takeStandby (s : State) : State :=
  let s1 := setTuple (fun m => { m with role := .standby, run := s.mod.partner.run })
    { s with plv := { s.plv with failed := 0, step := 0 } }
  occur Code.resyncDone pairSrc 0 s1

/-- The two firmware images are one, or the module's own trial is compatible with the source's (Table 2.5, R466). -/
def imagesAgree (s : State) : Bool :=
  fwId s = s.plv.partnerFw || (s.mod.tup.fw = .trial && s.fwu.ownTrial && xferCompatible s)

/-- The guards of Table 2.5 for STANDBY. -/
def standbyOk (s : State) : Bool :=
  netUp s && s.mod.valid && s.mod.partner.role = .active && s.plv.partnerGen = genCur s
    && s.mod.partner.change = s.mod.tup.change && imagesAgree s

/-- Step 8 of Table 9.7a at the end of its cycle. -/
def shadowStep (s : State) : State :=
  if s.mod.tup.role = .syncing && follows s && s.cyc.mySig.isSome then
    if !s.cyc.sigEqual then retireDue (resyncFail false) s
    else if standbyOk s then takeStandby s else s
  else s

/-- The module is the source of its partner's resynchronisation (R254), from step 3 on. -/
def beSource (s : State) : State :=
  { s with plv := { s.plv with
    source := true, step := 3, got := [], passes := 0, stepStart := s.gt, attemptStart := s.gt } }

/-- SOLO becomes ACTIVE when its partner takes SYNCING (Table 2.5); COMPAT ends first, once its running slice has ended
and its blocks are re-initialised (Table 2.3). An ACTIVE module whose partner is SYNCING is its source. -/
def activeStep (s : State) : State :=
  if !(s.mod.valid && s.mod.partner.role = .syncing) then s
  else match s.mod.tup.role with
    | .solo =>
      if s.mod.tup.bst = .compat && s.bst.running.isSome then s
      else setRole .active (setBst .native (beSource { s with plv := { s.plv with waitSolo := false } }))
    | .active => if s.plv.source then s else beSource s
    | _ => s

/-- SOLO that a decision, an opened contact or LEAVING has brought (R248, R250, R251, R460). -/
def soloStep (s : State) : State :=
  if !s.plv.soloNext then s
  else match s.mod.tup.role with
    | .standby => takeSolo s
    | .active => soloFromActive { s with plv := { s.plv with leaving := false } }
    | _ => { s with plv := { s.plv with soloNext := false } }

/-- A handover that no command asked for: PASSIVE (Table 2.3), the ejector (R260), a withdrawn ILE (R56), and the
end of a firmware trial (R463). -/
def autoHandover (s : State) : Bool :=
  s.mod.tup.net = .passive || s.con.ejectPending || s.fwu.windowFall
    || (s.mod.tup.ile = .withdrawn && s.chg.cur.modCfg.ileHandover && s.mod.partner.ile ≠ .withdrawn)

/-- HANDOVER at its boundary (R259); on the standby a RELEASE that came before it stood there. -/
def handoverEff (p : PendCmd) (s : State) : State :=
  if relayed p then takeActive s
  else if s.mod.arb then answerRefuse p .busy s
  else if s.plv.handoverAt.isSome || !handoverOk s then answerRefuse p .guard s
  else match p.call with
    | some c => { s with plv := { s.plv with handoverAt := some (some c, p.era) } }
    | none => s

/-- What was relayed to a shadow that is no STANDBY yet at its boundary falls to the resynchronisation, which goes on. -/
def relaysDrop (s : State) : State :=
  if s.mod.tup.role ≠ .syncing then s else
    let gone := s.cyc.pend.filter relayed
    gone.foldl (fun s p => relayDrop p.body s) { s with cyc := { s.cyc with pend := s.cyc.pend.filter fun p => !relayed p } }

/-- The role's part of a boundary. -/
def boundaryRole (s : State) : State :=
  let s1 := handoverRefused (if s.mod.arb then .busy else .guard) s
  let s2 := takeClass isHandover handoverEff (activeStep (relaysDrop (shadowStep (soloStep s1))))
  if pairRuns s2 && s2.plv.handoverAt.isNone && autoHandover s2 && handoverOk s2 then
    { s2 with plv := { s2.plv with handoverAt := some (none, 0) } }
  else s2

/-! ### The boundary -/

/-- What follows the change state at a boundary. -/
def boundaryLate (old : List Point) (s : State) : State :=
  let s1 := takeClass isRest restEff (boundaryForce old s)
  trialBoundary (takeRecord (unlockCheck (cloverBoundary (boundaryTier s1))))

/-- From the run state on; a migration holds the later classes back. -/
def boundaryTail (s : State) : State :=
  let s1 := boundaryChange (boundaryRun s)
  if s1.chg.mig.isSome || s1.mod.tup.role = .retired then s1 else boundaryLate s1.chg.cur.points s1

/-- The boundary that ends housekeeping: the next cycle number, then R38. A handover in hand holds the rest back. -/
def programBoundary (s : State) : State :=
  let s0 := { s with
    hl := { s.hl with bgUsed := 0 }
    cyc := { s.cyc with
      houseEnd := s.gt, readyAt := s.gt, cycle := (s.cyc.cycle + 1) % 2 ^ 64, phase := .boundary
      compatOk := compatLegal s } }
  let s1 := ejectStep s0
  let s2 := if s1.mod.tup.role = .retired then s1 else boundaryRole s1
  if s2.mod.tup.role = .retired || s2.plv.handoverAt.isSome then s2 else boundaryTail s2

/-- A housekeeping slice of the self-test engine runs (R422). -/
def sliceRuns (s : State) : Bool :=
  match s.bst.running with
  | some (k, _) => k = 1 || k = 4 || k = 5 || k = 6
  | none => false

/-- PROGRAM_CYCLE_BOUNDARY (R38): housekeeping ends. -/
def execProgramCycleBoundary (t : Nat) (s0 : State) : Host.Outcome State Fault Refusal :=
  let s := atT t s0
  .next (if s.cyc.phase = .house && !sliceRuns s then agreeReady (programBoundary s) else s)

/-! ### The end of a migration -/

/-- A Plovlink port is retired (R239). -/
def retirePlv (p code : Nat) (s : State) : State :=
  retireRecord (.plv p) code (updPort p (fun x => { x with readmit := none }) s)

/-- Units whose level a lowered RET_AT has reached are retired (R409). -/
def retLower (s : State) : State :=
  let c := s.cyc.par
  let s1 := (List.range 4).foldl (fun s n => if c.retAtCell ≤ bucket s (.cell n) then retireCell n 0 s else s) s
  let s2 := lanes3.foldl (fun s l =>
    if c.laneRetireAt ≤ bucket s (.lane l) && !isRetired s (.lane l) then retireLane l 0 s else s) s1
  let s3 := (List.range 3).foldl (fun s p => if c.retAtPlv ≤ bucket s (.plv p) then retirePlv p 0 s else s) s2
  let s4 := (List.range 4).foldl (fun s x =>
    if c.retAtAlp ≤ bucket s (.al x) && !isRetired s (.al x) then retireAl x 0 s else s) s3
  (List.range 4).foldl (fun s x =>
    if c.retAtCan ≤ bucket s (.can x) && !isRetired s (.can x) then retireCan x 0 s else s) s4

/-- A REVERT command whose migration has ended. -/
def isReverted (p : PendCmd) : Bool :=
  match p.body with
  | .revert _ => p.at_.isSome
  | _ => false

/-- The REVERT commands whose migration has ended complete with MOD_GEN_CUR. -/
def revertAnswer (s : State) : State :=
  (s.cyc.pend.filter isReverted).foldl (fun s p => answerOk p (genCur s) s)
    { s with cyc := { s.cyc with pend := s.cyc.pend.filter fun p => !isReverted p } }

/-- The migration ends (R103, R109): the generations change places, and the boundary goes on. -/
def migrationEnd (start : Nat) (revert : Bool) (cause : Nat) (s : State) : State :=
  let old := s.chg.cur.points
  let failed := (gateOf s 1).armFail
  let s1 := if revert then revertTake cause s else switchTake s
  let s2 := { s1 with
    chg := { s1.chg with mig := none, migLast := (s.gt - start) / us }
    cyc := { s1.cyc with readyAt := s.gt } }
  if (gateOf s2 1).armFail && !failed then retireDue (retireModule .fault) s2
  else
    let s3 := retireDue retLower (revertAnswer s2)
    if s3.mod.tup.role = .retired then s3 else boundaryLate old (regens s s3)

/-- MIGRATION_DONE. -/
def execMigrationDone (t : Nat) (s0 : State) : Host.Outcome State Fault Refusal :=
  let s := atT t s0
  .next (match s.chg.mig with
    | some (start, revert, cause) => if s.cyc.phase = .boundary then agreeReady (migrationEnd start revert cause s)
        else s
    | none => s)

/-- TRIAL_WINDOW_END (R119): the module reverts at the first boundary at or after the end; the boundary
tests it. DESIGN CHOICE (log 182): an end between the end of housekeeping and T_commit counts at that
boundary, which the module then takes at once. -/
def execTrialWindowEnd (t : Nat) (s0 : State) : Host.Outcome State Fault Refusal :=
  let s := atT t s0
  .next (if s.cyc.phase = .boundary && s.chg.mig = none then windowStep s else s)

/-! ### Release -/

/-- Requests of Table 2.18 that a handover at their boundary has deprived of the role they need (R38). -/
def losesGuard (s : State) (p : PendCmd) : Bool :=
  pendDue s p && p.at_.isNone && (isRun p.body || isChange p.body || isForce p.body || isHandover p.body)

/-- RELEASE is sent and the boundary's rest runs on the module that has released (R259, R260, R463). -/
def releaseAll (s : State) : State :=
  let lost := s.cyc.pend.filter (losesGuard s)
  let s1 := releaseNow { s with cyc := { s.cyc with pend := s.cyc.pend.filter fun p => !losesGuard s p } }
  let s2 := lost.foldl (fun s p => answerRefuse p .guard s) s1
  if s2.fwu.windowFall then leaveReset s2 else boundaryLate s2.chg.cur.points s2

/-- HANDOVER_RELEASE (R259). -/
def execHandoverRelease (t : Nat) (s0 : State) : Host.Outcome State Fault Refusal :=
  let s := atT t s0
  .next (if s.plv.handoverAt.isNone || s.cyc.phase ≠ .boundary then s
    else if s.mod.arb then boundaryTail (handoverRefused .busy s)
    else if !handoverOk s then boundaryTail (handoverRefused .guard s)
    else if keepsCycle s && !clearOfBoundary s then s
    else releaseAll s)

end Sys2Proof.Machine
end

