-- ==== Sys2Proof/Machine/Plv.lean ====
section
/-! DEFINITION. Plovlink (chapter 9): packet acceptance (R238, R261), heartbeats and silence (R240, R241), the pair's
messages of Table 9.2, the station ring (R262 to R266) and ring time (R224, R225). -/

namespace Sys2Proof.Machine

/-! ### Acceptance -/

/-- A port receives: trained, and not retired unless a READMIT has named it (R239). -/
def rxUp (s : State) (p : Nat) : Bool := portUp s p

/-- A packet is discarded (R238): it is counted, and the second that a READMIT awaits starts anew (Table 17.5). -/
def discardPkt (p : Nat) (s : State) : State :=
  updPort p (fun x => { x with
    discards := satInc 0xFFFF x.discards
    recent := (x.recent.filter fun i => decide (s.gt < i + ms)) ++ [s.gt]
    readmit := x.readmit.map fun _ => s.gt }) s

/-- A P0-only packet reaches the module's logic (R238): it keeps to R237, its type belongs to P0 and its partner is
authenticated, except for AUTH. A packet whose PTYPE is none of Table 9.2 is no packet of any type. -/
def onP0 (ptype : Nat) (h : PktHdr) (ok : Bool) (f : State → State) (s : State) : State :=
  if !rxUp s h.port then s
  else if !(h.port = 0 && pktOk h ptype && ok && (ptype = 0x0E || s.plv.authOk)) then discardPkt h.port s
  else f s

/-- The same packet was forwarded within the last 10 ms (R261). -/
def forwardedNow (s : State) (h : PktHdr) (ptype : Nat) : Bool :=
  s.plv.forwarded.any fun r => r.1 = h.origin && r.2.1 = ptype && r.2.2.1 = h.seq && decide (s.gt < r.2.2.2 + 10 * ms)

/-- A ring packet goes on to the other two ports with HOPS raised by 1 (R261); a RETIRED module uses no P0 lane
(R414). -/
def ringForward (ptype : Nat) (h : PktHdr) (pay : List Nat) (s : State) : State :=
  if h.origin = s.mod.slot ∨ 15 ≤ h.hops ∨ forwardedNow s h ptype = true then s
  else
    let ports := [0, 1, 2].filter fun p => p ≠ h.port && portUp s p && !(p = 0 && s.mod.tup.role = .retired)
    let s1 := { s with plv := { s.plv with
      forwarded := (s.plv.forwarded.filter fun r => decide (s.gt < r.2.2.2 + 10 * ms))
          ++ [(h.origin, ptype, h.seq, s.gt)] } }
    ports.foldl (fun s p => emit (pktOut p ptype (h.hops + 1) h.origin h.dest h.seq pay) s) s1

/-- A ring packet arrives (R238, R261): `pay` is what is passed on, and the module takes it when it is addressed. -/
def onRing (ptype : Nat) (h : PktHdr) (pay : List Nat) (ok : Bool) (f : State → State) (s : State) : State :=
  if !rxUp s h.port then s
  else if !(decide (h.port < 3) && pktOk h ptype && ok) then discardPkt h.port s
  else
    let s1 := ringForward ptype h pay { s with plv := { s.plv with reached := Tab.set s.plv.reached h.origin s.gt } }
    if h.origin ≠ s.mod.slot && (h.dest = s.mod.slot || h.dest = 0xFF) then f s1 else s1

/-! ### Heartbeats (R240) -/

/-- HEARTBEAT payload (Table 9.3). -/
def hbBytes (s : State) : List Byte :=
  le 4 (tupleWord s.mod.tup)
    ++ le 4 (b2n (selfOk s) + 2 * b2n s.mod.ejector + 4 * b2n s.mod.arb + 8 * b2n s.plv.mute)
    ++ le 8 s.cyc.cycle ++ le 8 s.gt ++ le 4 (genCur s) ++ le 4 s.chg.genHigh ++ le 4 s.cyc.forceVer ++ le 1 s.hl.want
    ++ le 1 (((admitted s).map fun l => 2 ^ laneIx l).sum) ++ le 2 s.plv.hbSeq ++ le 8 (fwId s)

/-- A received payload is valid: 48 bytes, reserved bits 0, every field in its range. -/
def hbOk (d : List Byte) : Bool :=
  d.length = 48 && (tupleOf (field d 0 4)).isSome && decide (field d 4 4 < 16) && decide (field d 36 1 < 4)
    && decide (field d 37 1 < 8)

/-- The first 4 KiB block of the source's image that the inactive slot lacks, as an offset. -/
def chunkWanted (s : State) : Nat :=
  let x := slotOf s.nva (altSlot s)
  4096 * (((List.range (x.total / 4096)).find? fun k => Tab.getD x.blocks k 0 = 0).getD 0)

/-- Whether the item of a resynchronisation step has not come (R255, R256). -/
def resyncLacks (s : State) : Bool :=
  match s.plv.step with
  | 2 => !(slotOf s.nva (altSlot s)).complete && !s.fwu.hashing
  | 3 => decide (3 ∉ s.plv.got)
  | 4 => decide (5 ∉ s.plv.got)
  | 5 => decide (5 ∉ s.plv.got)
  | 6 => s.plv.passes = 0
  | 7 => decide (7 ∉ s.plv.got)
  | _ => false

/-- What has been asked for and has not come is asked for again, with each heartbeat (R238, log entry 164). -/
def askAgain (s : State) : State :=
  if follows s && s.cyc.phase = .agree && !s.cyc.asked.isEmpty then sendP0 0x03 s.cyc.asked s
  else if s.mod.tup.role = .syncing && !s.plv.source && resyncLacks s then
    sendP0 0x0B [kAgain, s.plv.step, chunkWanted s] s
  else s

/-- HEARTBEAT_SEND (R240): in every role and run state outside BOOT and SAFE, once the partner is authenticated; a
module whose BOOT has ended but for its role sends them too, without which no module could find that both end BOOT
within PAIR_WAIT_S (log entry 24). Two heartbeats lie at least 990 µs apart. -/
def execHeartbeatSend (t : Nat) (s0 : State) : Host.Outcome State Fault Refusal :=
  let s := atT t s0
  .next (if (s.mod.tup.run ≠ .boot || s.plv.pairWait.isSome) && s.mod.tup.run ≠ .safe && s.plv.authOk && portUp s 0
      && (match s.plv.hbSent with | some l => decide (l + 990 * us ≤ s.gt) | none => true) then
    askAgain (sendOn [0] 0x01 (partnerSlot s) (payBytes (hbBytes s)) { s with plv := { s.plv with
      hbSeq := (s.plv.hbSeq + 1) % 2 ^ 16, hbSent := some s.gt } })
  else s)

/-- A counted heartbeat (R29, R240): it ends a silence and R241's mute, after which a new silence counts afresh
(R250); a partner that is SYNCING also ends a wait under R250. -/
def hbTake (d : List Byte) (s : State) : State :=
  let tup := (tupleOf (field d 0 4)).getD tupleReset
  tierName (hlFlags { s with
    mod := { s.mod with valid := true, partner := tup, reported := tup }
    hl := { s.hl with partnerWant := field d 36 1 }
    plv := { s.plv with
      missed := satAdd 0xFFFF s.plv.missed (hbMissed s)
      lastHb := some s.gt
      tH := field d 16 8
      partnerGen := field d 24 4
      partnerGenHigh := field d 28 4
      partnerFw := field d 40 8
      silent := false
      silenceDone := false
      mute := false
      source := s.plv.source && tup.role = .syncing
      step := if s.plv.source && tup.role ≠ .syncing then 0 else s.plv.step
      waitSolo := s.plv.waitSolo && tup.role ≠ .syncing } })

/-- An active whose partner is silent performs phases 2 and 5 as a SOLO module does (R241). -/
def passPhases (s : State) : State :=
  match s.cyc.phase with
  | .agree => afterAgree s
  | .sig => toHouse s
  | _ => s

/-- What the partner's silence does by role (R241, R242, R247, R256). -/
def silentRole (s : State) : State :=
  match s.mod.tup.role with
  | .active =>
    if !partnerShadow s then s
    else
      let s1 := if s.mod.partner.role = .standby && !s.plv.silenceDone && !s.plv.leaving then arbDetect .silent s else s
      passPhases { s1 with plv := { s1.plv with
        mute := true, waitSolo := s.plv.waitSolo || s.mod.partner.role = .syncing, source := false, step := 0 } }
  | .standby => unfollow (arbDetect .silent s)
  | .syncing => resyncFail true s
  | _ => s

/-- PARTNER_SILENT (R240, level L6): no counted heartbeat for 3 ms. -/
def execPartnerSilent (t : Nat) (s0 : State) : Host.Outcome State Fault Refusal :=
  let s := atT t s0
  .next (match s.plv.lastHb with
    | some l => if s.plv.silent || decide (s.gt < l + 3 * ms) then s else
        let s1 := silentRole (noteFault pairSrc 6 { s with plv := { s.plv with
          silent := true, silences := satInc 0xFFFF s.plv.silences } })
        { s1 with mod := { s1.mod with valid := false, partner := tupleReset } }
    | none => s)

/-! ### The cycle's messages (R68 to R70, R78) -/

/-- AGREE. -/
def execAgree (t : Nat) (h : PktHdr) (m : AgreeMsg) (s0 : State) : Host.Outcome State Fault Refusal :=
  let s := atT t s0
  .next (onP0 0x02 h true (agreeArrive m) s)

/-- SLICE_REQ. -/
def execSliceReq (t : Nat) (h : PktHdr) (slices : List Nat) (s0 : State) : Host.Outcome State Fault Refusal :=
  let s := atT t s0
  .next (onP0 0x03 h true (sendSlices slices) s)

/-- SLICE_DATA. -/
def execSliceData (t : Nat) (h : PktHdr) (slice : Nat) (entries : List (Nat × Entry)) (s0 : State) :
    Host.Outcome State Fault Refusal :=
  let s := atT t s0
  .next (onP0 0x04 h true (sliceTake slice entries) s)

/-- AGREE_DONE. -/
def execAgreeDone (t : Nat) (h : PktHdr) (cycle : Nat) (s0 : State) : Host.Outcome State Fault Refusal :=
  let s := atT t s0
  .next (onP0 0x05 h true (agreeDone cycle) s)

/-- SIGNATURE. -/
def execSignature (t : Nat) (h : PktHdr) (cycle sig : Nat) (s0 : State) : Host.Outcome State Fault Refusal :=
  let s := atT t s0
  .next (onP0 0x06 h true (signatureTake cycle sig) s)

/-! ### What the active relays -/

/-- A relayed command waits for its boundary; a module that stands there takes it at once. -/
def relayTake (body : Pend) (boundary : Nat) (s : State) : State :=
  let s1 := pushPend ⟨none, s.hxp.era, 0, 0, s.gt, body, some boundary⟩ s
  if atBoundary s1 && decide (boundary ≤ s1.cyc.cycle) then boundaryTail s1 else s1

/-- A relayed command on a module that follows: a STANDBY takes it at its boundary, a shadow that may become STANDBY there
keeps it until then (R30, R45). -/
def relayTo (body : Pend) (boundary : Nat) (s : State) : State :=
  if s.mod.tup.role = .standby then relayTake body boundary s
  else if s.cyc.phase = .boundary then relayDrop body s
  else pushPend ⟨none, s.hxp.era, 0, 0, s.gt, body, some boundary⟩ s

/-- FORCE_TABLE (R51): at the named boundary on a STANDBY; a SYNCING module, which received the table with its resync,
has the new one at once. -/
def execForceTable (t : Nat) (h : PktHdr) (version boundary : Nat) (forces : List Force) (s0 : State) :
    Host.Outcome State Fault Refusal :=
  let s := atT t s0
  .next (onP0 0x07 h true (fun s =>
    if s.mod.tup.role = .standby then relayTake (.forceTable version forces) boundary s
    else if s.mod.tup.role = .syncing && !s.plv.source && decide (5 ≤ s.plv.step) then forcesTake forces version s
    else s) s)

/-- RELEASE (R259): a standby that stands at the common boundary takes ACTIVE. -/
def execRelease (t : Nat) (h : PktHdr) (cycle : Nat) (s0 : State) : Host.Outcome State Fault Refusal :=
  let s := atT t s0
  .next (onP0 0x0B h true (fun s =>
    if s.mod.tup.role ≠ .standby then s
    else if atBoundary s && decide (cycle ≤ s.cyc.cycle) then takeActive s
    else pushPend ⟨none, s.hxp.era, 0, 0, s.gt, .handover, some cycle⟩ s) s)

/-- LEAVING (R460): SOLO at the next boundary, without arbitration. -/
def execLeaving (t : Nat) (h : PktHdr) (s0 : State) : Host.Outcome State Fault Refusal :=
  let s := atT t s0
  .next (onP0 0x0B h true (fun s =>
    if s.mod.tup.role ≠ .active then s
    else
      let s1 := { s with plv := { s.plv with leaving := true, soloNext := true } }
      if atBoundary s1 then soloStep s1 else s1) s)

/-- ARB_START (R242). -/
def execArbStart (t : Nat) (h : PktHdr) (cause : ArbCause) (td : Nat) (s0 : State) : Host.Outcome State Fault Refusal :=
  let s := atT t s0
  .next (onP0 0x0B h true (arbSet cause td) s)

/-- TIER_AGREE (R395). -/
def execTierAgree (t : Nat) (h : PktHdr) (tier boundary : Nat) (s0 : State) : Host.Outcome State Fault Refusal :=
  let s := atT t s0
  .next (onP0 0x0B h (decide (tier < 4)) (fun s =>
    if s.mod.tup.role = .standby || (s.mod.tup.role = .syncing && decide (6 ≤ s.plv.step)) then
      { s with plv := { s.plv with tierAt := some (tier, boundary) } }
    else s) s)

/-- Bulk traffic of a resync leaves the source while the heat ledger has admitted a unit of it (R255, R400). -/
def bulkRun (f : State → State) (s : State) : State := if 1 ∈ s.hl.bgRun then f s else bgWant 1 s

/-- A chunk of the image that the source runs: 4 KiB of its slot, whose bytes the model does not hold (log entry
110). -/
def sendChunk (off : Nat) (s : State) : State :=
  sendP0 0x0D ([off, (slotOf s.nva s.fwu.runSlot).total]
    ++ (List.range 4096).map fun i => (Config.freeByte (2 ^ 44 + off + i)).toNat) s

/-- The new module lacks what a step brings: a chunk is sent, and of another step what it sends is sent again. -/
def resyncAgain (k off : Nat) (s : State) : State :=
  if k = 2 then bulkRun (sendChunk off) s
  else if k < s.plv.step then { s with plv := { s.plv with step := k, stepStart := s.gt } }
  else s

/-- A container that the active forwards is staged on the standby (R98, R99). -/
def stageHere (op : Nat) (box : Container) (s : State) : State :=
  bgWant 3 (bgWant 2 { s with chg := { s.chg with job := some ⟨none, s.hxp.era, op, box, none, none, []⟩ } })

/-- A relayed command takes effect at its boundary, or at once where its rule names none (R98, R101, R122, R144, R230,
R289, R349). -/
def relayApply (r : Relay) (b : Nat) (s : State) : State :=
  let standby := s.mod.tup.role = .standby
  let shadow := follows s
  match r with
  | .stateReq => if s.mod.partner.ile = .withdrawn then { s with ile := { s.ile with stateAsked := true } } else giveState s
  | .stagedIs n d => { s with plv := { s.plv with partnerStaged := some (n, d) } }
  | .run req => if shadow then relayTo (if req = 1 then .start else if req = 2 then .hold else .stop) b s else s
  | .stage c => if standby then stageHere 0x20 c s else s
  | .genSelect g => if standby then stageHere 0x25 (copyBox g) s else s
  | .staged => match s.chg.job with
    | some j => if standby then relayTake (.stage j.box.gen) b s else s
    | none => s
  | .abandon => { s with chg := { s.chg with job := none } }
  | .switch n => if shadow then relayTo (.switch n) b s else s
  | .switchNow => if shadow then relayTo .pairSwitch b s else s
  | .cancelSwitch c => if shadow then relayTo (.pairCancel c) b s else s
  | .confirm => if shadow then relayTo (.confirm 0) b s else s
  | .revert c => if shadow then relayTo (.pairRevert c) b s else s
  | .discard => if shadow then relayTo (.discard 0) b s else s
  | .ccv c => if shadow then relayTo (.ccv c 0) b s else s
  | .key k => if shadow then relayTo (.key k) b s else s
  | .readmitChan c => if shadow then relayTo (.unit (.oxn c)) b s else s
  | .ileOp cmd body cycle void => if shadow then
      { s with ile := { s.ile with ops := s.ile.ops ++ [⟨none, s.hxp.era, cmd, body, cycle, void, true⟩] } } else s
  | .snapArm id at_ => if shadow then cloverArm id at_ s else s
  | .carriedIs yes => { s with ile := { s.ile with carriedThere := yes } }
  | .again k off => if s.mod.tup.role = .active && s.plv.source then resyncAgain k off s else s

/-- RELAYED_COMMAND. -/
def execRelayedCommand (t : Nat) (h : PktHdr) (r : Relay) (boundary : Nat) (s0 : State) :
    Host.Outcome State Fault Refusal :=
  let s := atT t s0
  .next (onP0 0x0B h true (relayApply r boundary) s)

/-! ### The interlocking engine over P0 (R172, R173) -/

/-- ILE_SNAP: the active's snapshot for the shadow's lanes, which evaluate on it in its cycle (R172). -/
def execIleSnap (t : Nat) (h : PktHdr) (cycle : Nat) (m : SnapSent) (s0 : State) : Host.Outcome State Fault Refusal :=
  let s := atT t s0
  .next (onP0 0x08 h true (fun s =>
    if !shadows s || s.ile.table = none then s
    else if cycle = s.ile.n && !s.ile.evald && !s.ile.pairStep && !s.ile.withdrawnNow then runShadow ⟨m, cycle⟩ [] s
    else { s with ile := { s.ile with snap := some ⟨m, cycle⟩ } }) s)

/-- The standby's digest differs from the active's (R173). -/
def ileMismatch (s : State) : State :=
  let recent := s.ile.mismatches.filter fun i => decide (s.gt ≤ i + 10 * sec)
  let s1 := occur Code.ilePairMismatch Src.voter 0 { s with ile := { s.ile with mismatches := recent ++ [s.gt] } }
  if 2 ≤ recent.length then arbDetect .ileMismatch s1 else askState s1

/-- ILE_DIGEST: the standby compares it with that of its own update. -/
def execIleDigest (t : Nat) (h : PktHdr) (cycle digest : Nat) (s0 : State) : Host.Outcome State Fault Refusal :=
  let s := atT t s0
  .next (onP0 0x09 h true (fun s =>
    if s.mod.tup.role = .standby && s.ile.upN = cycle && s.ile.evald && s.ile.digest ≠ digest then ileMismatch s
    else s) s)

/-- Dynamic state of the same generation and tables seeds the lanes at the next ILE cycle boundary: those of a shadow,
and those that wait after a READMIT, which start cold when the tables differ (R165). -/
def ileStateTake (gen cycle : Nat) (m : IleCopy) (s : State) : State :=
  let waits := s.ile.lanes.any (·.joining)
  if !waits && (!shadows s || s.ile.withdrawnNow) then s
  else if gen = genCur s && m.tables = tableDigest s then
    { s with ile := { s.ile with adopt := some (m.dyn, m.old, cycle) } }
  else if waits && s.mod.tup.role ≠ .syncing then coldSeed s
  else s

/-- ILE_STATE. -/
def execIleState (t : Nat) (h : PktHdr) (gen cycle : Nat) (m : IleCopy) (s0 : State) :
    Host.Outcome State Fault Refusal :=
  let s := atT t s0
  .next (onP0 0x0A h true (ileStateTake gen cycle m) s)

/-! ### Ports (R236, R239) -/

/-- A port counts a fault (R239); at RET_AT_PLV it retires. -/
def plvFault (p : Nat) (s : State) : State :=
  let s1 := bucketAdd (.plv p) 8 s
  if s1.cyc.par.retAtPlv ≤ bucket s1 (.plv p) && !isRetired s1 (.plv p) then retirePlv p 0 s1 else s1

/-- PLV_LANE_FAIL (R236): the port stops carrying until it has retrained. -/
def execPlvLaneFail (t port _lane : Nat) (s0 : State) : Host.Outcome State Fault Refusal :=
  let s := atT t s0
  .next (if (portOf s port).lanes = 0 then s else plvFault port (updPort port (fun x => { x with lanes := 0 }) s))

/-- PLV_DISCARD_LIMIT (R239): more than 16 discards within one window of 1 ms. -/
def execPlvDiscardLimit (t port : Nat) (s0 : State) : Host.Outcome State Fault Refusal :=
  let s := atT t s0
  .next (if 16 < (portOf s port).recent.length then plvFault port (updPort port (fun x => { x with recent := [] }) s)
      else s)

/-- Plovlink lanes train from step 8 of BOOT on (Table 21.10); under Speedwell and FIRC_ONLY never (R468, R375). -/
def plvOn (s : State) : Bool :=
  !s.con.inReset && !fircOnly s && !s.fwu.speedwell && (s.mod.tup.run ≠ .boot || decide (9 ≤ s.fwu.bootStep))

/-- A delay request: KIND 1, T1 (log entry 23). -/
def sendDelay (port : Nat) (s : State) : State := sendOn [port] 0x14 0xFF (payBytes (le 4 1 ++ le 8 s.gt ++ pad 16)) s

/-- PLV_PORT_TRAINED. -/
def execPlvPortTrained (t port lanes : Nat) (s0 : State) : Host.Outcome State Fault Refusal :=
  let s := atT t s0
  .next (if plvOn s && decide (port < 3) && (lanes = 2 || lanes = 4) && !(port = 0 && s.mod.tup.role = .retired) then
    let s1 := updPort port (fun x => { x with lanes := lanes, readmit := x.readmit.map fun _ => s.gt }) s
    sendDelay port s1
  else s)

/-! ### Station (R262 to R266, R224 to R226) -/

/-- STATION_HELD (R263). -/
def stationHeld (s : State) : Bool :=
  s.tim.stmPair = some (pairNum s) || held s.tim.within (10 * sec) s.gt

/-- A beacon is at most 10 ms old. -/
def beaconLive (s : State) (b : BeaconS) : Bool := decide (s.gt ≤ b.at_ + 10 * ms)

/-- The newest beacon of each pair, of a list in order of arrival. -/
def newestEach (l : List BeaconS) : List BeaconS := l.filter fun b => (l.filter (·.pair = b.pair)).getLast? = some b

/-- The last beacon of each pair, where it is at most 10 ms old. -/
def liveBeacons (s : State) : List BeaconS := (newestEach s.plv.beacons).filter (beaconLive s)

/-- Record a beacon of a pair. The newest that came before it is kept: an evaluation at this instant counts that one
(R264). -/
def beaconPut (b : BeaconS) (s : State) : State :=
  let before := (s.plv.beacons.filter fun x => x.pair = b.pair && decide (x.at_ < b.at_)).getLast?
  { s with plv := { s.plv with
    beacons := s.plv.beacons.filter (·.pair ≠ b.pair) ++ before.toList ++ [b]
    ringLost := s.plv.ringLost.filter (· ≠ b.pair) } }

/-- BEACON payload (Table 9.7). -/
def beaconBytes (s : State) : List Byte :=
  le 1 (pairNum s) ++ le 1 (roleCode s.mod.tup.role)
    ++ le 1 (b2n s.mod.stmElig + 2 * b2n (stationHeld s) + 4 * b2n s.tim.valid + 8 * b2n (isStm s)) ++ pad 5
        ++ le 8 s.gt

/-- BEACON_SEND (R263): every 1 ms on the driving module. -/
def execBeaconSend (t : Nat) (s0 : State) : Host.Outcome State Fault Refusal :=
  let s := atT t s0
  .next (if driving s then
    sendRing 0x10 0xFF (payBytes (beaconBytes s))
      (beaconPut ⟨pairNum s, s.gt, s.mod.stmElig, stationHeld s, s.tim.valid⟩ s) else s)

/-- A module that does not drive, and so evaluates no master itself, takes the master's pair from the master's beacon
(Table 8.10, R263). -/
def beaconMaster (pair : Nat) (master : Bool) (s : State) : State :=
  if !driving s && master then { s with tim := { s.tim with stmPair := some pair } } else s

/-- BEACON (R263). -/
def execBeacon (t : Nat) (h : PktHdr) (data : List Byte) (s0 : State) : Host.Outcome State Fault Refusal :=
  let s := atT t s0
  let ok := data = h.pay && data.length = 16 && decide (field data 0 1 < 8) && decide (field data 1 1 < 5)
      && decide (field data 2 1 < 16)
    && zeros data 3 5
  .next (onRing 0x10 h (payBytes data) ok (fun s =>
    beaconMaster (field data 0 1) ((field data 2 1).testBit 3)
      (beaconPut ⟨field data 0 1, s.gt, (field data 2 1).testBit 0, (field data 2 1).testBit 1,
        (field data 2 1).testBit 2⟩ s)) s)

/-- The lowest pair number of some beacons. -/
def lowestPair (l : List BeaconS) : Option Nat :=
  l.foldl (fun m b => match m with
    | some k => some (Min.min k b.pair)
    | none => some b.pair) none

/-- The station time master's pair, from the beacons of the 10 ms before this instant (R264). -/
def stmOf (s : State) : Option Nat :=
  let heard := newestEach (s.plv.beacons.filter fun b => beaconLive s b && decide (b.at_ < s.gt))
  if heard.any (·.held) then lowestPair (heard.filter fun b => b.elig && b.held) else lowestPair (heard.filter (·.elig))

/-- STM_EVALUATION (R264): each change of master writes STM_CHANGE. -/
def execStmEvaluation (t : Nat) (s0 : State) : Host.Outcome State Fault Refusal :=
  let s := atT t s0
  .next (if driving s then
    let m := stmOf s
    let own := decide (m = some (pairNum s))
    let s1 := stmRate { s with tim := { s.tim with
      stmPair := m, stm := own, stmSince := if own && !s.tim.stm then s.gt else s.tim.stmSince
      hold := s.tim.hold && !own } }
    if m = s.tim.stmPair then s1 else occur Code.stmChange pairSrc 0 s1
  else s)

/-- TIME_MESSAGE_SEND (R225): the master states its GT, from the millisecond after it became master (R264). -/
def execTimeMessageSend (t : Nat) (s0 : State) : Host.Outcome State Fault Refusal :=
  let s := atT t s0
  .next (if isStm s && decide (s.tim.stmSince / ms < s.gt / ms) then sendOn [1, 2] 0x11 0xFF (payBytes (le 8 s.gt)) s else s)

/-- Whether the sender's station time came from a time-of-day message or a TIME_SET (R212). -/
def senderValid (s : State) (origin : Nat) : Bool :=
  (newestEach s.plv.beacons).any fun b => b.pair = origin / 2 && b.timeValid

/-- A time message that states `v` at its arrival (R212, R225, R226, R263). -/
def timeTake (origin v : Nat) (s : State) : State :=
  let e : Int := (v : Int) - s.gt
  let ok := decide (-1000 ≤ e ∧ e ≤ 1000)
  let s1 := { s with tim := { s.tim with
    hold := false, lastTime := some s.gt, within := mark ok s.tim.within s.gt } }
  if (s.tim.epochSrc = 0 || s.tim.epochSrc = 3) && firstEpoch s && origin / 2 ≠ pairNum s && (s.mod.tup.net = .listen || s.mod.tup.net = .passive)
      && decide (s.mod.tup.run ≠ .boot) then
    gtStep v 2 (senderValid s origin) s1
  else if driving s && !isStm s && origin / 2 ≠ pairNum s then stationError e false s1
  else s1

/-- TIME (R225): the delay of the hop it came over is added before it goes on. -/
def execTime (t : Nat) (h : PktHdr) (data : List Byte) (s0 : State) : Host.Outcome State Fault Refusal :=
  let s := atT t s0
  let v := field data 0 8 + Tab.getD s.plv.hop h.port 0
  .next (onRing 0x11 h (payBytes (le 8 v)) (data = h.pay && data.length = 8) (timeTake h.origin v) s)

/-- A delay packet that came straight from a neighbour (log entry 23): a request is answered with its T1, the arrival
and the departure; an answer gives half of the round trip less the neighbour's stay. -/
def delayTake (h : PktHdr) (d : List Byte) (s : State) : State :=
  let t1 := field d 4 8
  if h.hops ≠ 0 then s
  else if field d 0 4 = 1 then
    sendOn [h.port] 0x14 h.origin (payBytes (le 4 2 ++ le 8 t1 ++ le 8 s.gt ++ le 8 s.gt)) s
  else
    let trip := (s.gt - t1) - (field d 20 8 - field d 12 8)
    { s with plv := { s.plv with hop := Tab.set s.plv.hop h.port (trip / 2) } }

/-- DELAY (R225): a ring packet (R261) that measures the hop it came over. -/
def execDelay (t : Nat) (h : PktHdr) (data : List Byte) (s0 : State) : Host.Outcome State Fault Refusal :=
  let s := atT t s0
  .next (onRing 0x14 h (payBytes data) 
    (data = h.pay && data.length = 28 && (field data 0 4 = 1 || field data 0 4 = 2)) (delayTake h data) s)

/-- RING_LOST (R262): a pair's beacons have stopped for 10 ms; its last CYCLE is forgotten (R266). -/
def execRingLost (t pair : Nat) (s0 : State) : Host.Outcome State Fault Refusal :=
  let s := atT t s0
  .next (if ((newestEach s.plv.beacons).any fun b => b.pair = pair && decide (b.at_ + 10 * ms ≤ s.gt))
      && decide (pair ∉ s.plv.ringLost) then
    occurU Code.ringLost pairSrc pair { s with plv := { s.plv with
      ringLost := s.plv.ringLost ++ [pair], sigCycle := Tab.erase s.plv.sigCycle pair } } else s)

/-- The input points that one entry of a SIGNALS packet supplies. -/
def signalPoints (s : State) (pair idx : Nat) : List Point :=
  s.chg.cur.points.filter fun p => !p.isOut && p.link = .signal pair idx

/-- Fields of a SIGNALS packet are well formed (Table 9.8, R238). -/
def signalsOk (d : List Byte) : Bool :=
  let n := field d 4 2
  decide (field d 0 1 < 8) && decide (1 ≤ n ∧ n ≤ 1024) && d.length = 32 + 12 * n && zeros d 1 1 && zeros d 6 2
    && zeros d 12 4 && (List.range n).all fun i => decide (field d (42 + 12 * i) 1 < 2) && zeros d (43 + 12 * i) 1

/-- R266's conditions on CYCLE and TYPE. -/
def signalsTaken (d : List Byte) (s : State) : Bool :=
  let pair := field d 0 1
  (match Tab.find? s.plv.sigCycle pair with
    | some c => decide (c.1 < field d 16 8)
    | none => true)
    && (List.range (field d 4 2)).all fun i =>
      (signalPoints s pair (field d 2 2 + i)).all fun p => typeCode p.ty = field d (40 + 12 * i) 1

/-- The signals arrive at their points (R266). -/
def signalsTake (d : List Byte) (s : State) : State :=
  if !signalsTaken d s then s else
    let pair := field d 0 1
    let arr := (List.range (field d 4 2)).flatMap fun i =>
      (signalPoints s pair (field d 2 2 + i)).map fun p =>
        (⟨p.addr, s.gt, BitVec.ofNat 64 (field d (32 + 12 * i) 8), some s.gt, field d (41 + 12 * i) 1,
          field d (42 + 12 * i) 1 = 1⟩ : Arr)
    { s with
      cyc := { s.cyc with inbox := s.cyc.inbox ++ arr }
      plv := { s.plv with sigCycle := Tab.set s.plv.sigCycle pair (field d 16 8, s.gt) } }

/-- SIGNALS. -/
def execSignals (t : Nat) (h : PktHdr) (data : List Byte) (s0 : State) : Host.Outcome State Fault Refusal :=
  let s := atT t s0
  .next (onRing 0x12 h (payBytes data) (data = h.pay && signalsOk data) (signalsTake data) s)

/-- SIGNALS_FORGET (R266): no packet accepted from a pair for 1 s. -/
def execSignalsForget (t pair : Nat) (s0 : State) : Host.Outcome State Fault Refusal :=
  let s := atT t s0
  .next (match Tab.find? s.plv.sigCycle pair with
    | some c => if c.2 + sec ≤ s.gt then
        { s with plv := { s.plv with sigCycle := Tab.erase s.plv.sigCycle pair } } else s
    | none => s)

/-- BOUNDARY (R170). -/
def execBoundary (t : Nat) (h : PktHdr) (data : List Byte) (s0 : State) : Host.Outcome State Fault Refusal :=
  let s := atT t s0
  .next (onRing 0x13 h (payBytes data) (decide (data = h.pay)) (takeBoundary data) s)

/-- PLV_Px (Table 9.10). -/
def portReg (s : State) (p : Nat) : Nat :=
  (portOf s p).lanes + 8 * b2n (isRetired s (.plv p)) + 16 * bucket s (.plv p) + 65536 * (portOf s p).discards

/-- A bit per listed number. -/
def bitSet (l : List Nat) : Nat := (l.eraseDups.map fun n => 2 ^ n).sum

/-- PLV registers (Tables 9.10 to 9.13). -/
def plvReg (s : State) : Nat → Nat
  | 0x00 => ((List.range 3).map fun p => b2n (decide ((portOf s p).lanes ≠ 0)) * 2 ^ p).sum + 8 * b2n s.plv.authOk
      + 16 * b2n s.plv.authFail + 32 * b2n s.plv.mute
  | 0x04 => portReg s 0
  | 0x08 => portReg s 1
  | 0x0C => portReg s 2
  | 0x10 => missedNow s + 65536 * s.plv.silences
  | 0x14 => s.plv.arbCause + 8 * s.plv.arbOutcome + 64 * b2n s.mod.arb + 256 * s.plv.arbCount
  | 0x18 => s.plv.views + 16 * s.plv.against0 + 256 * s.plv.against1
      + 4096 * (if (judges s).isEmpty then 0 else quorum s)
  | 0x1C => Min.min 7 s.plv.step + 8 * b2n s.plv.source + 16 * Min.min 3 s.plv.failed + 256 * Min.min 0xFF s.plv.passes
      + 65536 * Min.min 0xFFFF s.plv.dirtyMib
  | 0x20 => bitSet ((s.plv.reached.filter fun r => decide (r.1 < 16 ∧ s.gt ≤ r.2 + 10 * ms)).map (·.1))
  | 0x24 => bitSet ((liveBeacons s).map (·.pair)) + 256 * bitSet (((liveBeacons s).filter (·.elig)).map (·.pair))
      + 65536 * (s.tim.stmPair.getD 0) + 2 ^ 19 * b2n s.tim.stmPair.isSome + 2 ^ 20 * b2n (stationHeld s)
  | 0x28 => s.plv.failovers + 65536 * s.plv.handovers
  | _ => 0

end Sys2Proof.Machine
end

