-- ==== Sys2Proof/Machine/Resync.lean ====
section
/-! DEFINITION. A generation loaded without migration (R254, Table 20.3 step 9), the authentication of P0 (R253),
and resynchronisation (R254 to R258, R466). -/

namespace Sys2Proof.Machine

/-! ### Loading -/

/-- A generation comes into use on a module that does not drive: nothing of a former one is kept. DESIGN
CHOICE (log 185): a table refused at boot gates nothing. -/
def genInstall (boot : Bool) (x : Stored) (s : State) : State :=
  let g := x.g
  let tb := if g.num ≠ 0 && tableUsable s g g.ile then some g.ile else none
  let s1 := { s with
    cyc := { s.cyc with
      par := g.params, vars := initVars g.vars, raw := [], inbox := [], img := [], pubGen := 0, prevPubGen := 0
      base := rebase [] g [] }
    chg := { s.chg with cur := g, curCcv := x.ccv, loaded := g.num ≠ 0, firstDue := false, oldMap := [], mig := none }
    oxn := { s.oxn with run := if g.num = 0 then none else some g, conns := [], txGen := 0 }
    ile := { s.ile with
      table := tb
      old := none
      granted := []
      driven := drivenNone (tb.getD tableNone)
      drivenOld := drivenNone (tb.getD tableNone)
      upDyn := dynNone
      upOld := none
      upVec := []
      lanes := s.ile.lanes.map fun l => { l with set := { setEmpty l.set with table := tb } } }
    can := { s.can with par := g.can } }
  tioConfigure g.tio x.ccv boot (alConfigure g.alp (canGate (hlRestart s1)))

/-- Generations, GEN_HIGH, change state and trial window end of the source replace the module's own (R254), on a
module in a firmware trial of its own too (log entry 150). -/
def gensAdopt (cur : Gen) (prev staged : Option Gen) (genHigh : Nat) (change before : ChangeState)
    (trialEnd ccv : Nat) (s : State) : State :=
  let s1 := if s.chg.loaded && s.chg.cur = cur then tioConfigure cur.tio (ccv.testBit 0) false s
    else
      let x := rearmGate1 cur.gates (genInstall false ⟨cur, ccv.testBit 0⟩ s)
      if s.oxn.run = x.oxn.run then x else relisten x
  saveGens (holdTable (staged.map (·.ile)) (setChange change { s1 with chg := { s1.chg with
    curCcv := ccv.testBit 0
    prev := prev.map fun g => ⟨g, ccv.testBit 1⟩
    staged := staged.map fun g => ⟨g, ccv.testBit 2⟩
    older := none, before := before, genHigh := genHigh, trialEnd := trialEnd, job := none, switchAt := none } }))

/-! ### AUTH (R253) -/

/-- The module cannot authenticate its partner: it treats it as silent and counts a failed attempt. -/
def authFailed (s : State) : State :=
  let s1 := occur Code.pairAuthFail pairSrc 0
    { s with plv := { s.plv with authOk := false, authFail := true, silent := true } }
  let s2 := silentRole s1
  { s2 with mod := { s2.mod with valid := false, partner := tupleReset } }

/-- The identity key's signature of a nonce, which the crypto engine gives. -/
def identitySign (nonce : Nat) : List Byte := (List.range 132).map (Config.identitySign nonce)

/-- The answer to the partner's nonce: serial, the nonce and its signature by the identity key (log entry 4). -/
def sendAnswer (nonce : Nat) (s : State) : State :=
  if s.mod.tup.role = .retired then s
  else sendOn [0] 0x0E (partnerSlot s) ([s.mod.serial, 1] ++ payBytes (le 32 nonce ++ identitySign nonce)) s

/-- An AUTH packet: the partner's identity, which is answered, or its answer to the module's own nonce. -/
def authTake (m : AuthMsg) (s : State) : State :=
  let same := m.certOk && m.serial = m.certSerial && m.keyDigest = keyDigest s
  if !m.isAnswer then
    let s1 := { s with plv := { s.plv with partnerXfer := m.xferVer, partnerXferMin := m.xferMin } }
    if same then sendAnswer m.nonce s1 else authFailed (sendAnswer m.nonce s1)
  else if same && m.answerOk && m.nonce = s.plv.nonce then
    { s with
    ile := { s.ile with carriedThere := false, carriedTold := false }
    plv := { s.plv with
      authOk := true, authFail := false, partnerXfer := m.xferVer, partnerXferMin := m.xferMin } }
  else authFailed s

/-- P0_LINK_UP: P0 has come up, on the lanes of its last PLV_PORT_TRAINED or, without one, on all four (R236; DEDUCED,
log entry 179), and the module sends its AUTH packet. -/
def execP0LinkUp (t : Nat) (s0 : State) : Host.Outcome State Fault Refusal :=
  let s := atT t s0
  .next (if plvOn s && s.mod.tup.role ≠ .retired then
    let s1 := sendDelay 0 (updPort 0 (fun x => { x with
      lanes := if x.lanes = 0 then 4 else x.lanes, readmit := x.readmit.map fun _ => s.gt }) s)
    sendAuth { s1 with plv := { s1.plv with
      authOk := false
      step := if s.mod.tup.role = .syncing then 1 else s.plv.step
      stepStart := if s.mod.tup.role = .syncing then s.gt else s.plv.stepStart } }
  else s)

/-- AUTH. -/
def execAuth (t : Nat) (h : PktHdr) (m : AuthMsg) (s0 : State) : Host.Outcome State Fault Refusal :=
  let s := atT t s0
  .next (onP0 0x0E h true (authTake m) s)

/-! ### The new module (R255, R256) -/

/-- The source's generations pass the checks of Table 4.3 that fit generations which the source runs or keeps (log entry
165): 7 and 8 of each, and 11 of all; those of the containers are the packet's `ok`. -/
def adoptable (s : State) (gs : List Gen) : Bool := gs.all (fun g => limitsOk s g && ileChecksOk s g) && storeFits s gs

/-- Bulk data of a step reach the new module. -/
def resyncTake (d : ResyncData) (s : State) : State :=
  let got (k : Nat) (s : State) : State := { s with plv := { s.plv with got := s.plv.got ++ [k] } }
  match d with
  | .gens cur prev staged high change before trialEnd ccv ok =>
    if !(ok && adoptable s (cur :: (prev.toList ++ staged.toList))) || s.plv.step < 3 then s
    else got 3 (gensAdopt cur prev staged high change before trialEnd ccv
      { s with plv := { s.plv with step := 3, stepStart := s.gt, got := [] } })
  | .bulk vars jpos forces ver blocked tier clvId clvT =>
    if s.plv.step ≠ 4 ∧ s.plv.step ≠ 5 then s else
      let s1 := forcesTake forces ver { s with
        cyc := { s.cyc with vars := vars }
        plv := { s.plv with tierAt := some (tierNum tier, 0) }
        nvb := { checkpoint s.chg.cur.num (retainedOf s.chg.cur.vars vars) s.nvb with
          blocked := blocked, records := if jpos = 0 then [] else [⟨jpos, s.chg.cur.num, []⟩] } }
      got 5 (if clvT = 0 then s1 else cloverArm clvId clvT s1)
  | .dirty mib vars =>
    if s.plv.step ≠ 6 then s else
      { s with
        cyc := { s.cyc with vars := vars.foldl (fun t v => Tab.set t v.1 v.2) s.cyc.vars }
        plv := { s.plv with passes := s.plv.passes + 1, dirtyMib := mib } }
  | .final vars img ver cycle =>
    if s.plv.step ≠ 7 then s else
      got 7 { s with cyc := { s.cyc with
        vars := vars.foldl (fun t v => Tab.set t v.1 v.2) s.cyc.vars
        outImg := img
        base := img.map fun p => (p.1, { p.2 with forced := false, changed := false })
        forceVer := ver
        cycle := cycle } }

/-- RESYNC. -/
def execResync (t : Nat) (h : PktHdr) (d : ResyncData) (s0 : State) : Host.Outcome State Fault Refusal :=
  let s := atT t s0
  .next (onP0 0x0C h true (fun s =>
    if s.mod.tup.role = .syncing && !s.plv.source then resyncTake d s else s) s)

/-- IMAGE: a chunk of the source's image goes into the inactive slot. -/
def execImage (t : Nat) (h : PktHdr) (offset total : Nat) (data : List Byte) (hdr : Option ImageHdr) (s0 : State) :
    Host.Outcome State Fault Refusal :=
  let s := atT t s0
  .next (onP0 0x0D h true (fun s =>
    if s.mod.tup.role = .syncing && s.plv.step = 2 && offset % 4096 = 0 && decide (offset + data.length ≤ total) then
      chunkStore offset total data.length hdr s
    else s) s)

/-- A step begins. -/
def stepGo (k : Nat) (s : State) : State := { s with plv := { s.plv with step := k, stepStart := s.gt } }

/-- What follows step 1 (R466). A module whose adopted image fell back stays SYNCING and goes no further (R48). -/
def adoptDecide (s : State) : State :=
  if fwId s = s.plv.partnerFw then bgWant 1 (stepGo 3 s)
  else if s.mod.tup.fw = .trial && s.fwu.ownTrial then
    if xferCompatible s then bgWant 1 (stepGo 3 s)
    else moduleReset (ptrFall .xfer (occur Code.fwXferMismatch Src.fw 0 s))
  else if s.mod.tup.fw = .fallback && (slotOf s.nva (altSlot s)).adopted then
    occur Code.adoptFail Src.fw 0 (stepGo 0 s)
  else bgWant 1 (stepGo 2 s)

/-- The image adopted from the source is stored and verified: the module reboots into it (step 2). -/
def adoptBoot (s : State) : State :=
  let b := altSlot s
  moduleReset (ptrPut (fun r => { r with try_ := some b, phase := .pending })
    (updSlot b (fun x => { x with adopted := true }) s))

/-- Dirty MiB that a final pass may leave: 8 on a two-lane P0. -/
def dirtyMax (s : State) : Nat := if (portOf s 0).lanes = 2 then 8 else 16

/-- The lanes hold the source's dynamic state, or it has none to give. -/
def ileCopied (s : State) : Bool :=
  s.ile.adopt.isSome || !s.ile.lanes.any (·.joining) || s.mod.partner.ile = .withdrawn

/-- A completed step of the new module starts the next (Table 9.7a). -/
def targetStep (s : State) : State :=
  match s.plv.step with
  | 1 => if s.plv.authOk && s.mod.valid then adoptDecide s else s
  | 2 =>
    let x := slotOf s.nva (altSlot s)
    if x.complete && x.digest % 2 ^ 64 = s.plv.partnerFw then adoptBoot s else s
  | 3 => if 3 ∈ s.plv.got then bgWant 1 (stepGo 4 s) else s
  | 4 => if netUp s then { s with plv := { s.plv with step := 5 } } else s
  | 5 => if 5 ∈ s.plv.got then stepGo 6 s else s
  | 6 => if s.plv.passes ≠ 0 ∧ s.plv.dirtyMib ≤ dirtyMax s then bgUnwant 1 (stepGo 7 s) else s
  | 7 => if 7 ∈ s.plv.got && ileCopied s then
      stepGo 8 { s with cyc := { s.cyc with phase := .boundary, mySig := none, partnerSig := none } }
    else s
  | _ => s

/-- Bulk data leave the source. -/
def sendResync (k : Nat) (pay : List Nat) (s : State) : State := sendBulk 0x0C (k :: pay) s

/-- An input's memory as a number: 2 where the first evaluation takes the input (R111). -/
def memNat : Option Bool → Nat
  | some b => b2n b
  | none => 2

/-- A variable's value as payload numbers: the kind of value, then what it holds, integers in two's complement (log
entry 4). -/
def valNats : VVal → List Nat
  | .bits v => [0, v.toNat]
  | .elems vs => 1 :: vs.length :: vs.flatMap fun e => wrap64 e.1 :: e.2.length :: e.2.map (·.toNat)
  | .chars cs => 2 :: cs.length :: payBytes cs
  | .timer prevIn q running start et => [3, b2n prevIn, b2n q, b2n running, start, et]
  | .count prevUp prevDown cv qu qd => [4, memNat prevUp, memNat prevDown, wrap64 cv, b2n qu, b2n qd]
  | .edge mem q => [5, memNat mem, b2n q]

/-- Variables as payload numbers. -/
def varNats (t : Tab VVal) : List Nat := t.length :: t.flatMap fun p => p.1 :: valNats p.2

/-- Forces as payload numbers. -/
def forceNats (fs : List Force) : List Nat := fs.length :: fs.flatMap fun f => [f.addr, f.ty, f.value.toNat]

/-- The variables that have changed since the last pass of the source. -/
def dirtyVars (s : State) : Tab VVal := s.cyc.vars.filter fun v => Tab.find? s.plv.sentVars v.1 ≠ some v.2

/-- What a pass leaves dirty, in MiB, rounded up: the granules of 4 KiB of the variables that have changed, each counted
with granules of its own (log entry 166). -/
def dirtyOf (s : State) : Nat :=
  let granules := ((dirtyVars s).map fun v => match declOf s.chg.cur.vars v.1 with
    | some d => (typeBytes d.ty + 4095) / 4096
    | none => 0).sum
  (granules + 255) / 256

/-- A generation as payload numbers: its container's bytes. -/
def genPay (g : Gen) : List Nat :=
  g.digest :: g.storeBytes :: (List.range g.storeBytes).map fun i => (Config.genByte g.digest i).toNat

/-- What has been sent of the variables is now the whole of them. -/
def sentAll (s : State) : State := { s with plv := { s.plv with sentVars := s.cyc.vars } }

/-- The output image, entry by entry. -/
def imgPay (s : State) : List Nat := (s.cyc.outImg.map fun e => e.1 :: payBytes (entryBytes e.2)).flatten

/-- Step 3: the stored generations with the change state. -/
def sourceGens (s : State) : State :=
  stepGo 4 (sendResync 3 ([genCur s, genPrev s, genStaged s, s.chg.genHigh,
    changeCode s.mod.tup.change, changeCode s.chg.before, s.chg.trialEnd] ++ genPay s.chg.cur
      ++ (s.chg.prev.toList ++ s.chg.staged.toList).flatMap fun x => genPay x.g) s)

/-- Step 5: every variable, with the tier, the Clover latch, the journal's position, the forces and the blocked elements. -/
def sourceVars (s : State) : State :=
  stepGo 6 (sentAll (sendResync 5 ([tierNum s.mod.tup.tier, s.tim.clv.id, s.tim.clv.at_,
    journalUse s.nvb, s.cyc.forceVer] ++ forceNats s.cyc.forces ++ s.nvb.blocked.length :: s.nvb.blocked
      ++ varNats s.cyc.vars) s))

/-- Step 6: a pass over the variables written since the last. -/
def sourceDirty (s : State) : State :=
  let d := dirtyOf s
  let s1 := sentAll (sendResync 6 (d :: varNats (dirtyVars s))
    { s with plv := { s.plv with passes := s.plv.passes + 1, dirtyMib := d } })
  if d ≤ dirtyMax s then bgUnwant 1 (stepGo 7 s1) else s1

/-- The ILE dynamic state is due at the next ILE cycle boundary. -/
def owesState (s : State) : State := { s with ile := { s.ile with stateAsked := true } }

/-- Step 7: the last variables and the output image, in housekeeping; the ILE state follows. -/
def sourceLast (s : State) : State :=
  if s.cyc.phase = .house then
    stepGo 8 (owesState (sentAll (sendResync 7 (s.cyc.forceVer :: (s.cyc.cycle + 1)
      :: varNats (dirtyVars s) ++ imgPay s) s)))
  else s

/-- The source's part of the steps: what each sends (Table 9.7a); step 7 in its own housekeeping, the ILE dynamic state at
the next ILE cycle boundary. -/
def sourceStep (s : State) : State :=
  match s.plv.step with
  | 3 => bulkRun sourceGens s
  | 4 => { s with plv := { s.plv with step := 5 } }
  | 5 => bulkRun sourceVars s
  | 6 => bulkRun sourceDirty s
  | 7 => sourceLast s
  | _ => s

/-- RESYNC_STEP_DONE. -/
def execResyncStepDone (t : Nat) (ok : Bool) (s0 : State) : Host.Outcome State Fault Refusal :=
  let s := atT t s0
  .next (if !ok then s
    else if s.mod.tup.role = .syncing then targetStep s
    else if s.mod.tup.role = .active && s.plv.source then sourceStep s
    else s)

/-- A step has exceeded its bound; 4 and 5 run at the same time, and the bound of step 7 is that of the source's
housekeeping. DESIGN CHOICE (log 204): the one program cycle of step 8 is over by MIN_CYCLE and SCAN_WDT. -/
def stepLate (s : State) : Bool :=
  let past (d : Nat) : Bool := decide (s.plv.stepStart + d < s.gt)
  match s.plv.step with
  | 1 => portUp s 0 && past sec && !s.plv.authOk
  | 2 => past (60 * sec)
  | 3 => past (10 * sec)
  | 4 => past (2 * sec) || (past sec && decide (5 ∉ s.plv.got))
  | 5 => past sec && decide (5 ∉ s.plv.got)
  | 6 => past (5 * sec)
  | 7 => past (4 * ms) && decide (7 ∉ s.plv.got)
  | 8 => past (s.cyc.par.minCycle + s.cyc.par.scanWdt)
  | _ => false

/-- RESYNC_STEP_TIMEOUT (R256): the attempt fails; the source goes back with it. -/
def execResyncStepTimeout (t : Nat) (s0 : State) : Host.Outcome State Fault Refusal :=
  let s := atT t s0
  .next (if s.mod.tup.role = .syncing then
      (if stepLate s then resyncFail (s.plv.step = 1) s else s)
    else if s.mod.tup.role = .active && s.plv.source && stepLate s then stepGo 5 s
    else s)

/-- RESYNC_ATTEMPT_TIMEOUT (R256): 120 s from the attempt's start without STANDBY. -/
def execResyncAttemptTimeout (t : Nat) (s0 : State) : Host.Outcome State Fault Refusal :=
  let s := atT t s0
  .next (if s.mod.tup.role = .syncing && s.plv.step ≠ 0 && decide (s.plv.attemptStart + 120 * sec ≤ s.gt)
      then resyncFail false s else s)

end Sys2Proof.Machine
end

