-- ==== Sys2Proof/Machine/Faults.lean ====
section
/-! DEFINITION. Fault handling (chapter 17): interconnect and engine watchdogs, the module watchdog, drain ticks,
persistence, and memory rows. -/

namespace Sys2Proof.Machine

/-! ### Engines (R404, R405) -/

/-- The engine of Table 17.2 that a source number belongs to: Oxuger, Plovlink, trip I/O, CAN and host exchange by
unit class, storage as Sorrel. -/
def engineOfSrc (src : Nat) : Option Nat :=
  match src / 2 ^ 20 with
  | 1 => some 1
  | 6 => some 2
  | 2 => some 3
  | 4 => some 4
  | 7 => some 5
  | _ => if src = Src.sorrel then some 6 else none

/-- What a restart or the retirement of an engine does at the outside (Table 17.2). -/
def engineStops (e : Nat) (s : State) : State :=
  match e with
  | 1 => if s.mod.tup.run = .boot || s.mod.tup.role = .retired then s else relisten s
  | 2 => if s.cyc.phase = .agree && follows s && !s.cyc.asked.isEmpty then sendP0 0x03 s.cyc.asked s else s
  | 3 => latchAll (List.range 12) (tioDecide { s with tio := { s.tio with silent := true } })
  | 4 => canGate (canRelease s)
  | 5 => hxpBlockReset s
  | 6 => { s with flt := { s.flt with appendFails := true } }
  | _ => s

/-- An engine is retired; one of the safety class takes the module with it (R405). -/
def retireEngine (e code : Nat) (s : State) : State :=
  let s1 := engineStops e (retireRecord (.engine e) code s)
  if e ≤ 3 then retireModule .fault s1 else s1

/-- A fault of an engine: 8, and retirement at 16 (Table 17.3). -/
def engineFault (e : Nat) (s : State) : State :=
  if isRetired s (.engine e) then s else
    let s1 := bucketAdd (.engine e) 8 s
    if 16 ≤ bucket s1 (.engine e) then retireEngine e 0 s1 else s1

/-- What the terminator's error response does at the master (R404): a cell in phase 3 rolls back without its bucket, and
the storage engine's journal append fails (R26). Every other master's operation is a command of its own, whose operands say
that it failed (log 207). -/
def masterFails (m : Nat) (s : State) : State :=
  if m < 4 then (if s.cyc.phase = .execute && !isRetired s (.cell m) then rollback m s else s)
  else if m = 16 then { s with flt := { s.flt with appendFails := true } }
  else s

/-- FLT_L0 (R404): an expiry on an engine feeds its bucket; a second on another target within 1 s is permanent. The
master takes the error response. The command stands for the 2 µs having passed (Table 17.1). -/
def execFltL0 (t target master : Nat) (s0 : State) : Host.Outcome State Fault Refusal :=
  let s := atT t s0
  let again := match Tab.find? s.flt.l0Last target with
    | some l => decide (l < s.gt ∧ s.gt ≤ l + sec)
    | none => false
  let s1 := occur Code.fltL0 target 0 (noteFault target 0 { s with flt := { s.flt with
    l0 := satInc 0xFFFF s.flt.l0, l0Last := Tab.set s.flt.l0Last target s.gt } })
  let s2 := match engineOfSrc target with
    | some e => engineFault e s1
    | none => if again then retireModule .fault s1 else s1
  .next (masterFails master s2)

/-- When engine `e` last served its watchdog (Table 17.2): at C_n, at a heartbeat, with the status word of a trip I/O
window, and in any case when it last restarted. The other engines' services are not commands (log 207). -/
def engineServed (e : Nat) (s : State) : Nat :=
  Max.max ((Tab.find? s.flt.restarted e).getD 0) (match e with
    | 1 => s.oxn.cn
    | 2 => s.plv.hbSent.getD 0
    | 3 => ((s.tio.win.map (500 * us * ·)).getD 0)
    | _ => 0)

/-- The limit of engine `e` (Table 17.2). -/
def engineLimit (e : Nat) (s : State) : Nat :=
  match e with
  | 1 => 3 * tOcNs s
  | 2 => 5 * ms
  | 3 => 5 * ms
  | 4 => 50 * ms
  | _ => 100 * ms

/-- ENGINE_WATCHDOG_EXPIRY (R405, R457): the limit has passed without service. -/
def execEngineWatchdogExpiry (t engine : Nat) (digestOk : Bool) (s0 : State) : Host.Outcome State Fault Refusal :=
  let s := atT t s0
  .next (if engine = 0 ∨ 6 < engine ∨ isRetired s (.engine engine) = true ∨ s.gt < engineServed engine s + engineLimit engine s
      then s else
    let s1 := { s with flt := { s.flt with
      l4 := satInc 0xFFFF s.flt.l4, lastEngine := engine, restarted := Tab.set s.flt.restarted engine s.gt } }
    let s2 := engineFault engine (engineStops engine (noteFault (unitSrc s (.engine engine)) 4 s1))
    let s3 := { s2 with flt := { s2.flt with lastLevel := 4 } }
    if digestOk then s3 else retireModule .fault s3)

/-! ### The module watchdog (R406, R407) -/

/-- L5_SERVICE: the supervisor answers; the command says that its conditions hold (R406). -/
def execL5Service (t : Nat) (s0 : State) : Host.Outcome State Fault Refusal :=
  let s := atT t s0
  .next (if s.con.inReset then s else { s with flt := { s.flt with l5Served := s.gt } })

/-- FLT_L5: without an answer for 500 ms of SIRC, at least 476 ms, AON asserts the hardware safe line and resets every
block; the module boots into RETIRED. -/
def execFltL5 (t : Nat) (s0 : State) : Host.Outcome State Fault Refusal :=
  let s := atT t s0
  .next (if s.con.inReset || decide (s.gt < s.flt.l5Served + 476 * ms) then s else
    let s1 := moduleReset { s with nva := { s.nva with modRetired := some .fault } }
    { s1 with flt := { s1.flt with hwSafe := true, l5 := satInc 0xFFFF s.flt.l5, lastSrc := Src.sv, lastLevel := 5 } })

/-! ### Buckets (R408, R409) -/

/-- DRAIN_TICK: at a whole multiple of 125 ms of GT each level falls by 1, but for retired units. -/
def execDrainTick (t : Nat) (s0 : State) : Host.Outcome State Fault Refusal :=
  let s := atT t s0
  .next (if s.gt % (125 * ms) = 0 ∧ s.flt.lastDrain ≠ s.gt then
    { s with
      flt := { s.flt with lastDrain := s.gt }
      nva := { s.nva with buckets := (s.nva.buckets.map fun b =>
        (b.1, if isRetired s b.1 then b.2 else b.2 - 1)).filter fun b => b.2 ≠ 0 } }
  else s)

/-- A unit is retired for a fault code by the rule of its class. -/
def retireUnit (u : UnitId) (code : Nat) (s : State) : State :=
  if isRetired s u then s else
  match u with
  | .cell n => retireCellNow n code s
  | .lane l => retireLane l code s
  | .plv p => retirePlv p code s
  | .tq q => retireTq q code s
  | .ti _ => tioDecide (retireRecord u code s)
  | .al x => retireAl x code s
  | .can x => retireCan x code s
  | .engine e => retireEngine e code s
  | .oxn c => occur Code.oxnChRetired (unitSrc s u) 0 (retireRecord (.oxn c) code s)
  | _ => retireRecord u code s

/-- RET_AT of a unit (Table 17.3). -/
def retAt (s : State) : UnitId → Nat
  | .cell _ => s.cyc.par.retAtCell
  | .lane _ => s.cyc.par.laneRetireAt
  | .plv _ => s.cyc.par.retAtPlv
  | .al _ => s.cyc.par.retAtAlp
  | .can _ => s.cyc.par.retAtCan
  | .engine _ => 16
  | _ => 32

/-- A fault of a unit: 8 into its bucket, retirement at RET_AT. -/
def unitFault (u : UnitId) (code : Nat) (s : State) : State :=
  let s1 := bucketAdd u 8 s
  if retAt s1 u ≤ bucket s1 u then retireUnit u code s1 else s1

/-- Since when a READBACK or DARK_FAIL that output q has latched has been present: from its detection, or from the last
window at which its condition came back (R408). -/
def tqSince (s : State) (q code : Nat) : Option Nat :=
  match (tqOf s q).faults.find? (·.1 = code), if code = 12 then (tqOf s q).breach else (tqOf s q).live with
  | some f, some b => some (Max.max f.2 b)
  | _, _ => none

/-- A fault kind that a unit's chapter names has been present for the persistence limit of 1 s (R408, Table 17.3); only
CHANNEL faults of the field units count. A port's fault and a held CAN port's are the sender's to report. -/
def faultLong (s : State) (u : UnitId) (code : Nat) : Bool :=
  match u with
  | .tq q => decide (code = 11 ∨ code = 12) && held (tqSince s q code) sec s.gt
  | .al x => decide (code = 1 ∨ code = 4 ∨ code = 6) && held (((alCh s x).faults.find? (·.1 = code)).map (·.2)) sec s.gt
  | .cell n => held ((Tab.find? s.cyc.cellFails n)) sec s.gt
  | .ti i => code = 5 && held (tiOf s i).sinkFault sec s.gt
  | .can x => decide (code = 4 ∨ code = 5) && (canPort s x).held.isSome
  | .plv _ => true
  | _ => false

/-- PERSISTENCE_EXPIRY: a fault kind has stayed present without a break for the unit's limit. -/
def execPersistenceExpiry (t : Nat) (u : UnitId) (code : Nat) (s0 : State) : Host.Outcome State Fault Refusal :=
  let s := atT t s0
  .next (if faultLong s u code then retireUnit u code s else s)

/-! ### Memory rows (R410, R411) -/

/-- Spare rows (Table 17.4): 0 SRAM, 1 DRAM, 2 MRAM. -/
def spareRows : Nat → Nat
  | 0 => 192
  | 1 => 4096
  | _ => 512

/-- Spare rows of a memory in use. -/
def sparesUsed (s : State) (mem : Nat) : Nat := (s.nva.remaps.filter (·.1 = mem)).length

/-- A row's bucket takes an amount; at 32 the row is remapped while the memory has a spare. -/
def rowFault (mem row amt : Nat) (s : State) : State :=
  let u := UnitId.row mem row
  let was := bucket s u
  let s1 := noteFault Src.flt 8 (bucketAdd u amt s)
  if bucket s1 u < 32 then s1
  else if sparesUsed s1 mem < spareRows mem then
    occur Code.memRemap Src.flt 0 { s1 with nva := { s1.nva with
      remaps := s1.nva.remaps ++ [(mem, row)], buckets := bucketSet u 0 s1.nva.buckets } }
  else
    let s2 := { s1 with nva := { s1.nva with
      sparesOut := if mem ∈ s1.nva.sparesOut then s1.nva.sparesOut else s1.nva.sparesOut ++ [mem] } }
    if was < 32 then occur Code.memSpareOut Src.flt 0 s2 else s2

/-- Whether a row at its limit has no spare to go to. -/
def rowStuck (s : State) (mem row : Nat) : Bool := decide (32 ≤ bucket s (.row mem row))

/-- ECC_CORRECTED. -/
def execEccCorrected (t mem row : Nat) (s0 : State) : Host.Outcome State Fault Refusal :=
  .next (if mem < 3 then rowFault mem row 8 (atT t s0) else atT t s0)

/-- Address of a 64-bit word of a row (Tables 14.1 and 17.4). -/
def wordAddr (mem row word : Nat) : Nat :=
  (match mem with
    | 0 => sramBase + 1024 * row
    | 1 => dramBase + 2048 * row
    | _ => 0x20000000 + 512 * row) + 8 * word

/-- A bad word is poisoned until it is next written (R411). -/
def poisonWord (a : Nat) (s : State) : State :=
  { s with flt := { s.flt with
    uncorr := satInc 0xFFFF s.flt.uncorr, poison := if a ∈ s.flt.poison then s.flt.poison else s.flt.poison ++ [a] } }

/-- ECC_UNCORRECTABLE: a cell that read the word in phase 3 rolls back, as on any error response (R404). -/
def execEccUncorrectable (t mem : Nat) (x : BadWord) (s0 : State) : Host.Outcome State Fault Refusal :=
  let s := atT t s0
  .next (if mem < 3 then
    let s1 := rowFault mem x.row 32 (poisonWord (wordAddr mem x.row x.word) s)
    if x.master < 4 && s1.cyc.phase = .execute && !isRetired s1 (.cell x.master) then rollback x.master s1 else s1
  else s)

/-- NAND_PROGRAM_FAIL: the block is replaced from the wear reserve. -/
def execNandProgramFail (t blk : Nat) (s0 : State) : Host.Outcome State Fault Refusal :=
  let s := atT t s0
  .next { s with nva := { s.nva with nandOut := if blk ∈ s.nva.nandOut then s.nva.nandOut else s.nva.nandOut ++ [blk] } }

end Sys2Proof.Machine
end

