-- ==== Sys2Proof/Machine/Sorrel.lean ====
section
/-! DEFINITION. The Sorrel event recorder (chapter 19): rate-limited writes, sealing, roll-up and
retention, reading and clearing. -/

namespace Sys2Proof.Machine

/-- CRC-32C of a record is computed over its bytes 0 to 123 (R434). -/
def recHead (r : Rec) : List Byte :=
  le 2 r.code ++ le 1 (b2n r.isSealed + 2 * b2n r.ovr + 4 * b2n r.clear) ++ le 1 r.store ++ le 3 r.source
    ++ le 1 0 ++ le 8 r.epoch ++ le 4 r.count ++ le 4 r.supp ++ le 4 (wrap32 r.min) ++ le 4 (wrap32 r.max)
    ++ le 8 r.first ++ le 8 r.last ++ (r.hist.map (le 4)).flatten ++ le 4 (wrap32 r.lastVal)
    ++ le 4 r.seq ++ le 4 0

/-- A record's 128 bytes (Table 19.2). -/
def recBytes (r : Rec) : List Byte := recHead r ++ le 4 (crc32c (recHead r))

/-- A record re-expressed in a coarser store: its epoch there, each bin in the bin that contains it
(R433, R441). -/
def coarsen (store : Nat) (r : Rec) : Rec :=
  let e := epochOf store r.epoch
  let w := epochLen r.store / 16
  let W := epochLen store / 16
  let bin (i : Nat) := (r.epoch + i * w - e) / W
  { r with
    store := store
    epoch := e
    isSealed := false
    hist := (List.range 16).map fun j =>
      ((List.range 16).foldl (fun a i => if bin i = j then satAdd 0xFFFFFFFF a (r.hist.getD i 0) else a) 0) }

/-- Merge a record into a coarser store, or copy a clear record unchanged (R442). -/
def rollInto (store : Nat) (l : List Rec) (r : Rec) : List Rec :=
  if r.clear then recInsert r l else recMerge store (coarsen store r) r.seq l

/-- Records kept in the archive (R443). -/
def archiveMax : Nat := 16777216

/-- Hourly records are kept for 14 days after their epoch ends. -/
def keepHour : Nat := 14 * 86400 * sec

/-- Daily records are kept for 5 years (taken as 5 × 365 days, log entry 9). -/
def keepDay : Nat := 1825 * 86400 * sec

/-- Records in the archive. -/
def archiveCount (n : NvA) : Nat := n.recHour.length + n.recDay.length + n.recMon.length

/-- Drop the oldest n non-clear records of a store. -/
def dropOldest : Nat → List Rec → List Rec
  | 0, l => l
  | _, [] => []
  | n + 1, r :: l => if r.clear then r :: dropOldest (n + 1) l else dropOldest n l

/-- Expired records are pruned; when the archive is full, the oldest hourly and then daily records are
pruned early and EVR_ARCHIVE_FULL is written once for the filling (R443). -/
def prune (s : State) : State :=
  let n := s.nva
  let h := n.recHour.filter fun r => r.clear || s.gt < r.epoch + epochLen 1 + keepHour
  let d := n.recDay.filter fun r => r.clear || s.gt < r.epoch + epochLen 2 + keepDay
  let n1 := { n with recHour := h, recDay := d }
  let excess := archiveCount n1 - archiveMax
  let h2 := dropOldest excess h
  let d2 := dropOldest (excess - (h.length - h2.length)) d
  let full := decide (archiveMax ≤ archiveCount n1)
  let s1 := { s with
    nva := { n1 with recHour := h2, recDay := d2 }, evr := { s.evr with archFull := full } }
  if full && !s.evr.archFull then occur Code.evrArchiveFull Src.sorrel 0 s1 else s1

/-- Days that have ended by 2 s, with every hour rolled up, merge into the month (R441). -/
def rollDays (s : State) : State :=
  let n := s.nva
  let ripe (r : Rec) : Bool := !r.isSealed && !r.clear && decide (r.epoch + epochLen 2 + 2 * sec ≤ s.gt)
    && !(n.recCur.any fun c => decide (epochOf 2 c.epoch = r.epoch))
  let day := n.recDay.filter ripe
  let clr := n.recDay.filter fun r => r.clear && !(n.recMon.any fun m => m = r)
  let mon := (day ++ clr).foldl (rollInto 3) n.recMon
  { s with nva := { n with
    recDay := n.recDay.map fun r => if ripe r then { r with isSealed := true } else r
    recMon := mon.map fun r =>
      if !r.clear && decide (r.epoch + epochLen 3 + 2 * sec ≤ s.gt) then { r with isSealed := true } else r } }

/-- A record whose CRC fails is skipped and reported (R444). -/
def recordBad (code : Nat) (s : State) : State :=
  occurU Code.evrRecordBad Src.sorrel code { s with evr := { s.evr with bad := satInc 0xFFFF s.evr.bad } }

/-- One roll-up unit (R441). `bad` holds positions, among the epoch's records, whose CRC fails. -/
def rollUnit (bad : List Nat) (s : State) : State :=
  match s.nva.rollWait with
  | [] => s
  | (_, e) :: rest =>
    let all := s.nva.recCur.filter (·.epoch = e)
    let idx := all.zip (List.range all.length)
    let good := (idx.filter fun p => !(p.2 ∈ bad)).map (·.1)
    let s1 := { s with
      nva := { s.nva with
      rollWait := rest
      recCur := s.nva.recCur.filter (·.epoch ≠ e)
      recHour := good.foldl (fun l r => recInsert r l) s.nva.recHour
      recDay := good.foldl (rollInto 2) s.nva.recDay },
      evr := { s.evr with mramFull := decide (curMax + all.length ≤ s.nva.recCur.length) } }
    let s2 := (idx.filter (·.2 ∈ bad)).foldl (fun s p => recordBad p.1.code s) s1
    prune (rollDays s2)

/-- SORREL_RATE_WRITE: at a code's last write + 1 s its accumulators are written (R436). -/
def execSorrelRateWrite (t code : Nat) (s0 : State) : Host.Outcome State Fault Refusal :=
  let s := atT t s0
  .next (if codeDue code s then flushCode code s else s)

/-- SORREL_SEAL: an hourly epoch is sealed at its end + 2 s and becomes a roll-up unit (R441). -/
def execSorrelSeal (t epoch : Nat) (s0 : State) : Host.Outcome State Fault Refusal :=
  let s := atT t s0
  .next (
    if epoch % epochLen 1 = 0 ∧ epoch + epochLen 1 + 2 * sec ≤ s.gt then
      let mine (r : Rec) : Bool := r.epoch = epoch && !r.isSealed
      if s.nva.recCur.any mine then
        bgWant 5 { s with nva := { s.nva with
          recCur := s.nva.recCur.map fun r => if mine r then { r with isSealed := true } else r
          rollWait := s.nva.rollWait ++ [(1, epoch)] } }
      else rollDays s
    else s)

/-- SORREL_PF_FLUSH: every non-empty accumulator is written (R439). -/
def flushAll (s : State) : State := (s.evr.accs.map (·.code)).eraseDups.foldl (fun s c => flushCode c s) s

/-- After a reset, EVR_UNFLUSHED for every code still marked (R440). -/
def writeUnflushed (s : State) : State :=
  s.nva.marks.foldl (fun s c => occurU Code.evrUnflushed Src.sorrel c s)
    { s with nva := { s.nva with marks := [] } }

/-- Records of a store named by REC_READ or REC_CLEAR (R445). -/
def recStore (n : NvA) : Nat → List Rec
  | 0 => n.recCur
  | 1 => n.recHour
  | 2 => n.recDay
  | _ => n.recMon

/-- Whether a record matches CODE_FIRST, CODE_LAST, FROM and TO (R445). -/
def recMatch (cf cl from_ to_ : Nat) (r : Rec) : Bool :=
  cf ≤ r.code && r.code ≤ cl && from_ ≤ r.epoch && r.epoch < to_

/-- Whether a record comes after a cursor (R446). -/
def recAfter (k : Nat × Nat × Nat) (r : Rec) : Bool :=
  k.1 < r.epoch || (k.1 = r.epoch && (k.2.1 < r.code || (k.2.1 = r.code && k.2.2 < r.source)))

/-- The cursor a ring holds for identical ARGS (R446). -/
def recCursorOf (s : State) (ring cf cl st from_ to_ : Nat) : Option RecCursor :=
  s.hxp.cursors.find? fun k =>
    k.ring = ring && k.codeFirst = cf && k.codeLast = cl && k.store = st && k.from_ = from_ && k.to_ = to_

/-- REC_READ's effect (R445, R446): whole records, RESULT bit 63 when more remain. `bad` holds
positions, among the records returned, whose stored CRC fails (R444). -/
def recReadEff (c : Call) (cf cl st from_ to_ : Nat) (bad : List Nat) (s : State) : State :=
  let all := (recStore s.nva st).filter (recMatch cf cl from_ to_)
  let rest := match recCursorOf s c.ring cf cl st from_ to_ with
    | some k => all.filter (recAfter k.last)
    | none => all
  let ret := rest.take (c.bufLen / 128)
  let more := ret.length < rest.length
  let others := s.hxp.cursors.filter (·.ring ≠ c.ring)
  let cur := match ret.getLast? with
    | some r => if more then [(⟨c.ring, cf, cl, st, from_, to_, (r.epoch, r.code, r.source)⟩ : RecCursor)] else []
    | none => []
  let idx := ret.zip (List.range ret.length)
  let data := (idx.map fun p =>
    if p.2 ∈ bad then recHead p.1 ++ (List.range 4).map (fun i => Config.freeByte (s.free + 4 * p.2 + i))
    else recBytes p.1).flatten
  let s1 := { s with hxp := { s.hxp with cursors := others ++ cur }, free := s.free + 4 * ret.length }
  let s2 := (idx.filter (·.2 ∈ bad)).foldl (fun s p => recordBad p.1.code s) s1
  doneBuf c 0x40 data (ret.length + if more then 2 ^ 63 else 0) s2

/-- The clear record of R448 (Table 19.3). -/
def clearRec (s : State) (ring cf cl st from_ to_ removed nonce slot : Nat) : Rec :=
  ⟨Code.evrClear, false, false, true, 1, Src.ring ring, epochOf 1 s.gt, removed, 0, cf, cl, from_, to_,
   (List.range 16).map (fun i =>
     if i < 4 then bits nonce (32 * i) 32 else if i = 4 then slot + 256 * st else 0),
   sgn32 s.gt, 0, 0⟩

/-- REC_CLEAR's effect once its grant has passed (R447, R448). -/
def recClearEff (c : Call) (cf cl st from_ to_ nonce slot : Nat) (s0 : State) : State :=
  let s := if 5 ∈ s0.hl.bgRun then
      rollUnit [] { s0 with hl := { s0.hl with bgRun := s0.hl.bgRun.filter (· ≠ 5) } }
    else s0
  let hit (r : Rec) : Bool := !r.clear && recMatch cf cl from_ to_ r
  let removed := ((recStore s.nva st).filter hit).length
  let keep (l : List Rec) := l.filter fun r => !hit r
  let n := match st with
    | 0 => { s.nva with recCur := keep s.nva.recCur }
    | 1 => { s.nva with recHour := keep s.nva.recHour }
    | 2 => { s.nva with recDay := keep s.nva.recDay }
    | _ => { s.nva with recMon := keep s.nva.recMon }
  let k := clearRec s c.ring cf cl st from_ to_ removed nonce slot
  let s1 := { s with
    nva := { n with recCur := recInsert k n.recCur }
    evr := { s.evr with
      accs := if st = 0 then keep s.evr.accs else s.evr.accs
      clears := satInc 0xFFFF s.evr.clears } }
  done c 0x41 removed (pushEvent ⟨.record, k.code, k.source, k.last, 0, 0⟩ s1)

/-- EVR registers (Table 19.6). -/
def evrReg (s : State) : Nat → Nat
  | 0x00 => b2n s.evr.mramFull + 2 * b2n s.evr.archFull + 4 * b2n s.evr.pf
      + 8 * b2n (!s.nva.rollWait.isEmpty) + 65536 * Min.min 8192 s.evr.accs.length
  | 0x04 => Min.min 65536 s.nva.recCur.length
  | 0x08 => Min.min archiveMax (archiveCount s.nva)
  | 0x0C => s.evr.writes
  | 0x10 => s.evr.suppressed
  | 0x14 => s.evr.clears + 65536 * s.evr.bad
  | 0x18 => s.evr.lastCode
  | _ => 0

end Sys2Proof.Machine
end

