-- ==== Sys2Proof/Machine/Teasel.lean ====
section
/-! DEFINITION. The self-test engine (chapter 18) and the admission of background work (R400, R401). -/

namespace Sys2Proof.Machine

/-! ### Kinds (Table 18.1) -/

/-- Nominal slice in ns. -/
def sliceNs : Nat → Nat
  | 1 => 350 * us
  | 2 => 250 * us
  | 3 => 30 * us
  | 4 => 120 * us
  | 5 => 300 * us
  | 6 => 200 * us
  | 7 => 2 * ms
  | 8 => 20 * ms
  | 9 => 5 * ms
  | _ => 50 * ms

/-- Cells in service. -/
def liveCells (s : State) : List Nat := (List.range 4).filter fun n => !isRetired s (.cell n)

/-- Lanes in service. -/
def liveLanes (s : State) : List Lane := lanes3.filter fun l => !isRetired s (.lane l)

/-- Slices of a round of kind 1 to 6 (R423): 8 blocks of 4 KiB to a memory slice, 64 to a scrub. -/
def roundSlices (s : State) : Nat → Nat
  | 1 => 16 * (liveCells s).length
  | 2 => 16 * (liveLanes s).length
  | 3 => 1
  | 4 => 1536
  | 5 => 458752
  | 6 => 256
  | _ => 0

/-- Slices of a kind done in the round. -/
def kindDone (s : State) (k : Nat) : Nat := s.bst.done.getD (k - 1) 0

/-- Source number of the unit that the next slice of a kind tests. -/
def sliceUnit (s : State) (k : Nat) : Nat :=
  match k with
  | 1 => Src.cell ((liveCells s).getD (kindDone s 1 / 16) 0)
  | 2 => Src.lane ((liveLanes s).getD (kindDone s 2 / 16) .a)
  | 3 => Src.voter
  | _ => Src.flt

/-- Kind that tests a unit (R426). -/
def kindOfUnit : UnitId → Nat
  | .cell _ => 1
  | .lane _ => 2
  | .engine _ => 9
  | .al _ => 8
  | _ => 7

/-- A slice of the kind runs in housekeeping (R419). -/
def houseKind (k : Nat) : Bool := k = 1 || k = 4 || k = 5 || k = 6

/-- A nominal slice fits in what BG_SLICE_US leaves: of the whole, and in housekeeping of what the cycle has not used
(R400, R419). -/
def sliceFits (s : State) (k : Nat) : Bool :=
  decide ((if houseKind k then s.hl.bgUsed else 0) + sliceNs k ≤ bgSliceUs s * us)

/-- The ILE idle phase runs, and the slice's timeout ends by C_n+1 − 50 µs (R419). -/
def ileIdle (s : State) (k : Nat) : Bool :=
  decide (s.ile.upN = s.ile.n) && decide (s.gt + 2 * sliceNs k + 50 * us ≤ s.oxn.cn + tOcNs s)

/-- A slice of a test that a READMIT awaits may start now. Those of a cell and of a lane run where their kind does; a
module that runs no program cycle, or whose lanes have WITHDRAWN, has no such phase to wait for. The tests of whole
units are no kinds of a round (log entry 169). -/
def awaitedRuns (s : State) (k : Nat) : Bool :=
  match k with
  | 1 => sliceFits s 1 && (s.cyc.phase = .house || s.mod.tup.role = .retired)
  | 2 => sliceFits s 2 && (ileIdle s 2 || s.mod.tup.ile = .withdrawn)
  | _ => true

/-- A kind may start a slice now (R419); one whose nominal slice exceeds BG_SLICE_US never, and in housekeeping none
beyond what the cycle has left of it (R400). The limit is that of the kinds of a round (log entry 169). -/
def kindRuns (s : State) (k : Nat) : Bool :=
  let fits := sliceFits s k
  let idle := ileIdle s k
  match k with
  | 2 => fits && idle && s.mod.tup.ile = .lane3 && s.ile.lanes.all (fun l => l.reseed = 0)
      && (s.bst.laneTest.1 ≠ s.ile.n || s.bst.laneTest.2 = sliceUnit s 2)
  | 3 => fits && idle && s.mod.tup.ile ≠ .withdrawn
  | _ => fits && s.cyc.phase = .house

/-- Of two kinds, the one with the smaller fraction of its round done; ties go to the lower code (R420). -/
def kindFirst (s : State) (a b : Nat) : Nat :=
  if kindDone s b * roundSlices s a < kindDone s a * roundSlices s b then b else a

/-- The next slice: kind and unit (R420). -/
def slicePick (s : State) : Option (Nat × Nat) :=
  match s.bst.awaited with
  | (u, _) :: _ => if awaitedRuns s (kindOfUnit u) then some (kindOfUnit u, unitSrc s u) else none
  | [] =>
    match [1, 2, 3, 4, 5, 6].filter fun k => kindRuns s k && decide (kindDone s k < roundSlices s k) with
    | [] => none
    | k :: ks =>
      let m := ks.foldl (kindFirst s) k
      some (m, sliceUnit s m)

/-- A partner on P0 waits for the end of COMPAT (Table 2.3). -/
def compatEnds (s : State) : Bool :=
  s.mod.tup.bst = .compat && s.mod.tup.role = .solo && s.mod.valid && s.mod.partner.role = .syncing

/-- A slice may start: not at a switch or a migration, in PFW, or while ARBITRATION is 1 (R419), nor once COMPAT is to
end. -/
def sliceMay (s : State) : Bool := s.bst.running = none && !s.mod.arb && s.chg.mig = none && !compatEnds s

/-- In COMPAT a tested lane does not vote (R427). -/
def compatStart (k u : Nat) (s : State) : State :=
  if s.mod.tup.bst = .compat ∧ k = 2 then
    (lanes3.filter fun l => Src.lane l = u).foldl (fun s l => updLane l (fun x => { x with voting := false }) s) s
  else s

/-- In COMPAT a tested lane is reset and re-seeded, and tested program code is loaded again from the configuration
store: what the debug master wrote there is gone (R427). -/
def compatEnd (k u : Nat) (s : State) : State :=
  if s.bst.compatRun = true ∧ k = 2 then
    (lanes3.filter fun l => Src.lane l = u && (laneOf s l).admitted).foldl (fun s l => laneRejoin l s) s
  else if s.bst.compatRun = true ∧ k = 5 then { s with mem := s.mem.filter fun c => !codeUnder s c.1 }
  else s

/-- BACKGROUND_ADMIT (R400): one unit of a waiting kind starts. -/
def execBackgroundAdmit (t kind : Nat) (s0 : State) : Host.Outcome State Fault Refusal :=
  let s := atT t s0
  .next (if !bgAdmitOk kind s || decide (kind ∈ s.hl.bgRun) then s
    else
      let s1 := bgUnwant kind { s with hl := { s.hl with bgRun := s.hl.bgRun ++ [kind] } }
      if kind ≠ 4 then s1
      else if !sliceMay s then s
      else match slicePick s with
        | some (k, u) => gateOpen 8 (compatStart k u { s1 with
          bst := { s1.bst with
            running := some (k, u), compatRun := s.mod.tup.bst = .compat, startedAt := s.gt
            laneTest := if k = 2 then (s.ile.n, u) else s1.bst.laneTest }
          hl := { s1.hl with bgUsed := if houseKind k then s1.hl.bgUsed + sliceNs k else s1.hl.bgUsed } })
        | none => s)

/-- A unit of background work for the staging in progress has ended: the kind waits again while the staging lasts
(R99). -/
def stageUnit (kind : Nat) (s : State) : State :=
  match s.chg.job with
  | some j => bgWant kind { s with chg := { s.chg with
      job := some { j with units := if kind ∈ j.units then j.units else j.units ++ [kind] } } }
  | none => s

/-- BACKGROUND_UNIT_DONE (R401): the unit completes, and the kind waits again while it has work left. -/
def execBackgroundUnitDone (t kind : Nat) (bad : List Nat) (s0 : State) : Host.Outcome State Fault Refusal :=
  let s := atT t s0
  let s1 := { s with hl := { s.hl with bgRun := s.hl.bgRun.filter (· ≠ kind) } }
  .next (if kind ∉ s.hl.bgRun ∨ kind = 4 then s
    else match kind with
      | 1 => if decide (2 ≤ s.plv.step ∧ s.plv.step ≤ 6) then bgWant 1 s1 else s1
      | 2 => stageUnit 2 (if s.fwu.hashing then bgWant 2 s1 else s1)
      | 3 => stageUnit 3 s1
      | _ =>
        let s2 := rollUnit bad s1
        if s2.nva.rollWait.isEmpty then s2 else bgWant 5 s2)

/-! ### Outcomes (R426, Table 18.3) -/

/-- Engine of Table 17.2 that bit e − 4 of BST_FLAGS shows. -/
def flagBit (e : Nat) : Nat := 2 ^ (e - 4)

/-- The units that a tested source number names. -/
def testedUnits (s : State) (src : Nat) : List UnitId :=
  match lanes3.filter fun l => Src.lane l = src with
  | l :: _ => [.lane l]
  | [] => unitsOfSrc s src

/-- Failing rows of a memory kind; one with no spare left is a permanent fault of the safety class. -/
def marchFail (mem : Nat) (rows : List Nat) (s : State) : State :=
  let s1 := rows.foldl (fun s r => rowFault mem r 32 s) s
  if mem < 2 ∧ rows.any (rowStuck s1 mem) = true then retireModule .fault s1 else s1

/-- Effect of a failed test of an engine: 4 to 6 stay in service with their flag set. -/
def engineTestFail (e : Nat) (s : State) : State :=
  if e ≤ 3 then retireEngine e 9 s
  else { s with bst := { s.bst with flags := s.bst.flags ||| flagBit e } }

/-- Effect of a failed test (Table 18.3). -/
def testFail (kind src : Nat) (rows : List Nat) (s : State) : State :=
  let s1 := occur Code.bstFail src 0 { s with bst := { s.bst with
    fails := satInc 0xFF s.bst.fails, lastSrc := src, lastKind := kind } }
  match kind with
  | 3 => retireModule .fault s1
  | 4 => marchFail 0 rows s1
  | 5 => marchFail 1 rows s1
  | 6 => marchFail 2 rows s1
  | 9 => (testedUnits s1 src).foldl (fun s u => match u with
      | .engine e => engineTestFail e s
      | _ => s) s1
  | _ => (testedUnits s1 src).foldl (fun s u => retireUnit u kind s) s1

/-- A passed test: a scrub's corrected rows take 8 each, an engine's flag clears. -/
def testPass (kind src : Nat) (rows : List Nat) (s : State) : State :=
  match kind with
  | 6 => rows.foldl (fun s r => rowFault 2 r 8 s) s
  | 9 => (testedUnits s src).foldl (fun s u => match u with
      | .engine e => if 4 ≤ e then { s with bst := { s.bst with flags := s.bst.flags &&& (7 - flagBit e) } } else s
      | _ => s) s
  | _ => s

/-! ### Slices and rounds -/

/-- A slice of the round is done; the last one completes the round (R423). -/
def roundStep (k : Nat) (s : State) : State :=
  let d := updAt s.bst.done (k - 1) (· + 1)
  if [1, 2, 3, 4, 5, 6].all fun j => decide (roundSlices s j ≤ d.getD (j - 1) 0) then
    { s with bst := { s.bst with
      done := [0, 0, 0, 0, 0, 0], rounds := satInc 0xFFFF s.bst.rounds, roundS := (s.gt - s.bst.roundStart) / sec
      roundStart := s.gt, late := false } }
  else { s with bst := { s.bst with done := d } }

/-- The test that a READMIT awaits goes on, or ends: it retires nothing further (R426). A unit in service, the front end
of a SINK channel whose loop has returned, is judged as by any test. -/
def awaitedStep (u : UnitId) (left : Nat) (r : SliceRes) (s : State) : State :=
  let rest := s.bst.awaited.drop 1
  if !isRetired s u && !r.pass then testFail r.kind r.unit r.rows { s with bst := { s.bst with awaited := rest } }
  else if !r.pass then
    bistDone u false (occur Code.bstFail r.unit 0 { s with bst := { s.bst with
      awaited := rest, fails := satInc 0xFF s.bst.fails, lastSrc := r.unit, lastKind := r.kind } })
  else if left ≤ 1 then bistDone u true (testPass r.kind r.unit r.rows { s with bst := { s.bst with awaited := rest } })
  else { s with bst := { s.bst with awaited := (u, left - 1) :: rest } }

/-- The running slice has ended, and the engine's clock is gated until the next (chapter 15, Gating with bus quiesce). -/
def sliceEnd (s : State) : State :=
  bgWant 4 (gateClose 8 { s with
    bst := { s.bst with running := none }
    hl := { s.hl with bgRun := s.hl.bgRun.filter (· ≠ 4) } })

/-- BST_SLICE_DONE (R418): the unit is restored and its result judged. -/
def execBstSliceDone (t : Nat) (r : SliceRes) (s0 : State) : Host.Outcome State Fault Refusal :=
  let s := atT t s0
  .next (if s.bst.running ≠ some (r.kind, r.unit) then s else
    let s1 := sliceEnd (compatEnd r.kind r.unit { s with bst := { s.bst with slices := satInc 0xFFFF s.bst.slices } })
    match s1.bst.awaited with
    | (u, left) :: _ =>
      if unitSrc s1 u = r.unit ∧ kindOfUnit u = r.kind then awaitedStep u left r s1 else s1
    | [] =>
      let s2 := roundStep r.kind s1
      if r.pass then testPass r.kind r.unit r.rows s2 else testFail r.kind r.unit r.rows s2)

/-- BST_TIMEOUT (R421): the slice is stopped, the unit restored and 8 added to its bucket. -/
def execBstTimeout (t : Nat) (s0 : State) : Host.Outcome State Fault Refusal :=
  let s := atT t s0
  .next (match s.bst.running with
    | some (k, u) =>
      if s.gt ≤ s.bst.startedAt + 2 * sliceNs k then s else
        let s1 := occur Code.bstTimeout u 0 (sliceEnd (compatEnd k u { s with bst := { s.bst with
          timeouts := satInc 0xFF s.bst.timeouts } }))
        (testedUnits s1 u).foldl (fun s x => if isRetired s x then s else match x with
          | .engine e => engineFault e s
          | _ => unitFault x k s) s1
    | none => s)

/-- ROUND_LIMIT_H in ns: 0 and values above 168 act as 168. -/
def roundLimit (s : State) : Nat :=
  let h := bits s.bst.cfg.toNat 0 8
  (if h = 0 ∨ 168 < h then 168 else h) * 3600 * sec

/-- BST_ROUND_LATE (R423). -/
def execBstRoundLate (t : Nat) (s0 : State) : Host.Outcome State Fault Refusal :=
  let s := atT t s0
  .next (if s.bst.armed && !s.bst.late && decide (s.bst.roundStart + roundLimit s ≤ s.gt) then
    occur Code.bstRoundLate Src.teasel 0 { s with bst := { s.bst with late := true } }
  else s)

/-! ### Registers (Tables 18.4 to 18.6) -/

/-- Slices of a round and those done. -/
def roundParts (s : State) : Nat × Nat :=
  (([1, 2, 3, 4, 5, 6].map (roundSlices s)).sum, s.bst.done.sum)

/-- BST registers by offset. -/
def bstReg (s : State) : Nat → Nat
  | 0x00 => b2n (decide (s.mod.tup.bst = .compat)) + 2 * b2n s.bst.bootDone + 4 * b2n s.bst.late + 8 * b2n s.bst.running.isSome
      + 16 * (match s.bst.running with
        | some (k, _) => k
        | none => 0)
  | 0x04 => s.bst.cfg.toNat
  | 0x08 => Min.min 100 (100 * (roundParts s).2 / Max.max 1 (roundParts s).1) + 65536 * s.bst.rounds
  | 0x0C => s.bst.roundS % 2 ^ 32
  | 0x10 => s.bst.passed + 65536 * s.bst.failed
  | 0x14 => s.bst.flags
  | 0x18 => s.bst.lastSrc + 2 ^ 24 * s.bst.lastKind
  | 0x1C => s.bst.slices + 2 ^ 16 * s.bst.fails + 2 ^ 24 * s.bst.timeouts
  | _ => 0

end Sys2Proof.Machine
end

