-- ==== Sys2Proof/Machine/ClockFail.lean ====
section
/-! DEFINITION. Switches that complete, failed PLLs and forced switches (R380 to R384, Table 15.5). -/

namespace Sys2Proof.Machine

/-- CLK_SWITCH_DONE (R380). A shadow's next cycle may have waited for D0. -/
def execClkSwitchDone (t dom : Nat) (s0 : State) : Host.Outcome State Fault Refusal :=
  .next (agreeReady (switchDone dom (atT t s0)))

/-- Lane that a PLL feeds (Table 15.5). -/
def pllLane : Nat → Lane
  | 3 => .a
  | 4 => .b
  | _ => .c

/-- The failure of PLL0: tier T3 is held until reset (rule 4 of Table 16.2), and D0 goes from FIRC to PLL1. -/
def pll0Fail (s : State) : State :=
  let s1 := tierName (wantTier 4 3 { s with hl := { s.hl with t3Held := true } })
  if muxNow s1 0 = .firc && (pllOf s1 1).lock then switchReq .pll1 s1 0 else s1

/-- Action on a PLL failure (Table 15.5). -/
def pllAct (n : Nat) (s : State) : State :=
  match n with
  | 0 => pll0Fail s
  | 1 => retireModule .fault s
  | 2 => retireModule .fault s
  | 6 => retireModule .fault s
  | _ => gateClose (laneBlk (pllLane n)) (retireLane (pllLane n) 0 s)

/-- The reference that a PLL takes is good; FIRC always is. -/
def pllRefGood (s : State) (p : PllS) : Bool :=
  (p.ref = 1 && srcGood s false) || (p.ref = 2 && srcGood s true) || p.ref = 3

/-- A PLL has failed (R382): every domain that it feeds is to switch to FIRC, and since its clock has stopped, the guard
forces each of these switches. The action of Table 15.5 follows the forced switch (R381); a PLL that feeds no domain
has none to wait for. The network reference is lost with PLL6's lock (R375). -/
def pllFails (n : Nat) (s : State) : State :=
  let doms := pllFeeds s n
  let s1 := occur Code.clkPllFault Src.clocks 0 { s with clk := { s.clk with
    plls := updAt s.clk.plls n fun p => { p with fault := true } } }
  let s2 := doms.foldl (switchReq .firc) (if n = 6 then refLost s1 else s1)
  if doms.isEmpty then pllAct n s2 else s2

/-- PLL_LOCK_LOSS (R382): a PLL whose reference is good has failed, until a reset. -/
def execPllLockLoss (t n : Nat) (s0 : State) : Host.Outcome State Fault Refusal :=
  let s := atT t s0
  let p := pllOf s n
  .next (if 7 ≤ n ∨ p.lock = false ∨ p.fault = true then s
    else
      let s1 := { s with clk := { s.clk with plls := updAt s.clk.plls n fun p => { p with lock := false } } }
      if pllRefGood s p then pllFails n s1 else refLost s1)

/-- Every cell rolls back without a bucket fault (Table 15.5, PLL0). -/
def rollbackAll (s : State) : State :=
  if s.cyc.phase = .execute then (liveCells s).foldl (fun s c => rollback c s) s else s

/-- Blocks of a forced domain are reset (R381 step 2): the cells of D0, the lane of D2 to D4, Clover of D11, the CAN
controller of D12, the trip I/O channels of D13 (log entry 200). -/
def domainReset (dom : Nat) (s : State) : State :=
  match dom with
  | 0 => rollbackAll s
  | 2 => updLane .a (fun x => { x with pres := none, voting := false }) s
  | 3 => updLane .b (fun x => { x with pres := none, voting := false }) s
  | 4 => updLane .c (fun x => { x with pres := none, voting := false }) s
  | 11 => { s with tim := { s.tim with clv := timReset.clv } }
  | 12 => { s with can := { s.can with ports := canReset.ports } }
  | 13 => { s with tio := { s.tio with ti := tioReset.ti, tp := tioReset.tp, tq := tioReset.tq, fs := tioReset.fs } }
  | _ => s

/-- The failed PLL that kept a switch from completing: that of its old clock, or of its new one. -/
def stoppedPll (s : State) (w : Switch) : Option Nat :=
  ((muxPll w.dom (muxNow s w.dom)).toList ++ (muxPll w.dom w.dst).toList).find? fun n => (pllOf s n).fault

/-- The emergency path of a switch (R381): FIRC is connected, any other switch pending on the domain is cancelled, the
domain's blocks are reset, CLK_FORCED is written, and the action of Table 15.5 follows. -/
def forceSwitch (w : Switch) (s : State) : State :=
  let s1 := { s with clk := { s.clk with
    switching := s.clk.switching.filter (·.dom ≠ w.dom)
    forced := satInc 0xFFFF s.clk.forced
    forcedLast := w.dom } }
  let s2 := occur Code.clkForced Src.clocks 0 (domainReset w.dom (switched w.dom .firc s1))
  match stoppedPll s w with
  | some n => pllAct n s2
  | none => s2

/-- CLK_FORCED (R381): the guard forces a switch that has not completed 64 SIRC cycles, at least 61 µs, after its
request. -/
def execClkForced (t dom : Nat) (s0 : State) : Host.Outcome State Fault Refusal :=
  let s := atT t s0
  .next (match s.clk.switching.find? fun w => w.dom = dom && decide (w.at_ + 61 * us ≤ s.gt) with
    | none => s
    | some w => forceSwitch w s)

end Sys2Proof.Machine
end

