-- ==== Sys2Proof/Machine/Power.lean ====
section
/-! DEFINITION. Power failure (R389, R439) and the contacts: ejector, presence and insertion (R41, R251, R260, R476,
R490, R492, R493). -/

namespace Sys2Proof.Machine

/-! ### Power failure -/

/-- Background work halts, to be resumed; a running slice is stopped and restored (R389, R421). -/
def bgHalt (s : State) : State :=
  let s1 := sliceStop s
  s1.hl.bgRun.foldl (fun s k => bgWant k s) { s1 with hl := { s1.hl with bgRun := [] } }

/-- The records of a power-fail warning: POWER_FAIL first, then every accumulator (R439). -/
def pfRecords (s : State) : State :=
  let s1 := occur Code.powerFail Src.heat 0 { s with evr := { s.evr with pf := true } }
  flushAll (flushCode Code.powerFail s1)

/-- The module stops and holds itself in reset until power returns (R389). -/
def powerStop (s : State) : State :=
  let s1 := moduleReset s
  { s1 with
    con := { s1.con with powered := false }
    hl := { s1.hl with charged := false } }

/-- PFW: with no charged hold-up the module stops at once (R490). -/
def execPfw (t : Nat) (s0 : State) : Host.Outcome State Fault Refusal :=
  let s := atT t s0
  .next (if s.con.inReset || s.hl.pfw.isSome then s
    else
      let s1 := pfRecords (bgHalt { s with hl := { s.hl with pfw := some s.gt } })
      if s.hl.charged then s1 else powerStop s1)

/-- HL_FEED_DIP: the bus has stayed at or above 19.2 V for 5 ms, ending before PFW + 12 ms. -/
def execHlFeedDip (t : Nat) (s0 : State) : Host.Outcome State Fault Refusal :=
  let s := atT t s0
  .next (match s.hl.pfw with
    | some p =>
      if s.con.powered && decide (p + 5 * ms ≤ s.gt ∧ s.gt < p + 12 * ms) then
        occur Code.hlFeedDip Src.heat 0 { s with
          hl := { s.hl with pfw := none, dips := satInc 0xFF s.hl.dips }
          evr := { s.evr with pf := false } }
      else s
    | none => s)

/-- PFW_STOP: PFW + 12 ms. -/
def execPfwStop (t : Nat) (s0 : State) : Host.Outcome State Fault Refusal :=
  let s := atT t s0
  .next (match s.hl.pfw with
    | some p => if p + 12 * ms ≤ s.gt then powerStop s else s
    | none => s)

/-! ### The ejector -/

/-- An opening is acted on (R41, R260). -/
def ejectAct (s : State) : State :=
  if s.mod.tup.role = .retired then s
  else if shadows s then retireModule .ejector s
  else if pairRuns s then { s with con := { s.con with ejectPending := true } }
  else
    let s1 := occur Code.ejectUnsafe Src.sv 0 s
    if s1.mod.tup.run = .idle then retireModule .ejector s1
    else { s1 with con := { s1.con with ejectPending := true } }

/-- EJECTOR_OPEN: an opening during BOOT waits for its end (R492). -/
def execEjectorOpen (t : Nat) (s0 : State) : Host.Outcome State Fault Refusal :=
  let s := atT t s0
  let s1 := { s with mod := { s.mod with ejector := true } }
  .next (if s.con.inReset then s1
    else if s.mod.tup.run = .boot then { s1 with con := { s1.con with ejectPending := true } }
    else ejectAct s1)

/-! ### Presence -/

/-- PRES_SENSE_OPEN (R251, R493): the module retires at once, its main path opens, and the hold-up carries the Sorrel
write of R439; the module then stops as after a power-fail warning. -/
def execPresSenseOpen (t : Nat) (s0 : State) : Host.Outcome State Fault Refusal :=
  let s := atT t s0
  let s1 := { s with con := { s.con with sense := false, powered := false } }
  .next (if s.con.inReset then { s1 with hl := { s1.hl with charged := false } }
    else
      let s2 := pfRecords (bgHalt (retireModule .ejector s1))
      if s.hl.charged then { s2 with hl := { s2.hl with pfw := some (s.hl.pfw.getD s.gt) } } else powerStop s2)

/-- PRES_SENSE_CLOSE (R490): the power-up sequence starts; the module stays in reset until power-on reset is
released. -/
def execPresSenseClose (t : Nat) (s0 : State) : Host.Outcome State Fault Refusal :=
  let s := atT t s0
  .next (if s.con.sense then s else
    let s1 := if s.con.inReset then s else powerStop s
    { s1 with con := { s1.con with sense := true, powered := true } })

end Sys2Proof.Machine
end

