-- ==== Sys2Proof/Machine/Boot.lean ====
section
/-! DEFINITION. The boot sequence (R424, R452 to R456, R464, Tables 18.2 and 20.3), the role that ends it (Table 2.5),
and the partner's presence contact (R251). -/

namespace Sys2Proof.Machine

/-! ### Verification and choice of a slot (R452, R455) -/

/-- The configuration store holds no generation. -/
def storeEmpty (n : NvB) : Bool := n.cur.isNone && n.prev.isNone

/-- Check 1 of R452 on the header that the ROM reads. -/
def headerFits (x : ImgSlot) (h : ImageHdr) : Bool :=
  h.magic = 0x474D4955 && h.format = 1 && h.reservedZero && decide (h.bytes ≤ 268435456) && h.bytes % 4096 = 0
    && decide (h.bytes ≤ x.total)

/-- Check 7: the store's format lies in the range that the image takes. -/
def formatFits (s : State) (h : ImageHdr) : Bool :=
  storeEmpty s.nvb || decide (h.cfgMin ≤ s.nva.cfgFormat ∧ s.nva.cfgFormat ≤ h.cfgFormat)

/-- The first of checks 1 to 6 that a slot fails; MOD_ID.HW_ISSUE is 3. -/
def verify6 (s : State) (x : ImgSlot) : Option Nat :=
  match x.hdr with
  | none => some 1
  | some h =>
    if !headerFits x h then some 1
    else if 3 < h.hwMin then some 2
    else if !h.sigOk then some 3
    else if !(h.manifestOk && decide (h.bytes ≤ slotBytes x)) then some 4
    else if h.secVersion < s.nva.secFloor then some 5
    else if !h.compsOk then some 6
    else none

/-- The first check of R452 that a slot fails. -/
def verifySlot (s : State) (b : Nat) : Option Nat :=
  let x := slotOf s.nva b
  match verify6 s x with
  | some k => some k
  | none => match x.hdr with
    | some h => if formatFits s h then none else some 7
    | none => some 1

/-- FW_VERIFY_FAIL with the slot and the check. -/
def noteVerify (b : Nat) (s : State) : State :=
  match verifySlot s b with
  | some k => occur2 Code.fwVerifyFail Src.fw (b + 1) k s
  | none => s

/-- The chosen image runs from slot b. -/
def runSlot (b : Nat) (f : FwState) (cause : FbCause) (s : State) : State :=
  let x := slotOf s.nva b
  setFw f { s with
    fwu := { s.fwu with run := x.hdr, runSlot := b, cause := cause, ownTrial := f = .trial && !x.adopted }
    mod := { s.mod with adopted := x.adopted }
    gate := { s.gate with fw := match x.hdr with
      | some h => h.gates
      | none => [] } }

/-- Speedwell (R468): role SOLO, run state BOOT. -/
def speedwellStart (s : State) : State := { s with fwu := { s.fwu with speedwell := true, runSlot := 0 } }

/-- A fallback removes the new-format copies (R464). -/
def formatBack (s : State) : State :=
  if s.nva.oldFormat = 0 then s else { s with nva := { s.nva with cfgFormat := s.nva.oldFormat, oldFormat := 0 } }

/-- The confirmed slot, else the other, else Speedwell. -/
def chooseConf (s : State) : State :=
  let r := ptrNow s
  let s1 := if r.fallback then formatBack s else s
  if (verifySlot s1 r.conf).isNone then runSlot r.conf (if r.fallback then .fallback else .confirmed) r.cause s1
  else
    let s2 := noteVerify r.conf s1
    if (verifySlot s2 (1 - r.conf)).isNone then runSlot (1 - r.conf) .fallback .corrupt s2
    else speedwellStart (noteVerify (1 - r.conf) s2)

/-- A trial that is due boots, or falls back with cause VERIFY. -/
def chooseTry (s : State) : State :=
  let r := ptrNow s
  match r.phase, r.try_ with
  | .pending, some b =>
    let s1 := ptrPut (fun r => { r with phase := .booted }) s
    if (verifySlot s1 b).isNone then runSlot b .trial .none s1
    else chooseConf (ptrFall .verify (noteVerify b s1))
  | _, _ => chooseConf s

/-- The ROM's choice (R455). RECOVER held low and a boot header that fails lead to Speedwell (R453, R468). -/
def chooseSlot (s : State) : State :=
  if s.con.recover || !s.fwu.hdrOk then speedwellStart s
  else if (ptrNow s).phase = .booted then chooseTry (ptrFall .reset s)
  else chooseTry s

/-! ### Boot tests (Tables 18.2 and 18.3) -/

/-- Kinds that a step of Table 20.3 runs. -/
def stepKinds : Nat → List Nat
  | 2 => [10]
  | 3 => [11]
  | 4 => [4, 6]
  | 6 => [5]
  | 7 => [1, 2, 3]
  | 8 => [7, 8, 9]
  | _ => []

/-- A failed boot test: whether it fails the boot, and its effect. Units retired before are not tested. -/
def bootTest (r : Bool × State) (f : Nat × Nat) : Bool × State :=
  let s := r.2
  let us := testedUnits s f.2
  let skip := [1, 2, 7, 8, 9].contains f.1 && !us.isEmpty && us.all (isRetired s)
  if skip then r else
    let memory := f.1 = 4 ∨ f.1 = 5 ∨ f.1 = 6
    let src := if memory then Src.flt else f.2
    let s1 := occur Code.bstFail src 0 { s with
      bst := { s.bst with fails := satInc 0xFF s.bst.fails, lastSrc := src, lastKind := f.1 }
      fwu := { s.fwu with bstOk := false } }
    match f.1 with
    | 4 => let x := rowFault 0 f.2 32 s1
           (r.1 || rowStuck x 0 f.2, x)
    | 5 => let x := rowFault 1 f.2 32 s1
           (r.1 || rowStuck x 1 f.2, x)
    | 6 => (r.1, rowFault 2 f.2 32 s1)
    | 9 => if us.any fun u => u = .engine 1 ∨ u = .engine 2 ∨ u = .engine 3 then (true, s1)
        else (r.1, us.foldl (fun s u => match u with
          | .engine e => engineTestFail e s
          | _ => s) s1)
    | 1 => (r.1, us.foldl (fun s u => retireUnit u 1 s) s1)
    | 2 => (r.1, us.foldl (fun s u => retireUnit u 2 s) s1)
    | 7 => (r.1, us.foldl (fun s u => retireUnit u 7 s) s1)
    | 8 => (r.1, us.foldl (fun s u => retireUnit u 8 s) s1)
    | _ => (true, s1)

/-- BST_BOOT takes the step's kinds. -/
def bootKinds (k : Nat) (fails : List (Nat × Nat)) (s : State) : State :=
  let mask (l : List Nat) : Nat := (l.map fun j => 2 ^ (j - 1)).sum
  let bad := (stepKinds k).filter fun j => fails.any (·.1 = j)
  let good := (stepKinds k).filter fun j => !fails.any (·.1 = j)
  { s with bst := { s.bst with passed := s.bst.passed ||| mask good, failed := s.bst.failed ||| mask bad } }

/-- The boot fails (R456): a trial image falls back with cause BOOT, any other boot ends in SAFE (Table 2.6). -/
def bootFail (s : State) : State :=
  if s.mod.tup.fw = .trial then moduleReset (ptrFall .boot s)
  else retireModule .fault { s with fwu := { s.fwu with bootStep := 0 } }

/-! ### Step 9: the configuration store -/

/-- Copies in the trial image's format (R464). -/
def formatConvert (s : State) : State :=
  match s.fwu.run with
  | none => s
  | some h =>
    if storeEmpty s.nvb then { s with nva := { s.nva with cfgFormat := h.cfgFormat, oldFormat := 0 } }
    else if s.mod.tup.fw = .trial && h.cfgFormat ≠ s.nva.cfgFormat then
      occur2 Code.fwCfgConvert Src.fw s.nva.cfgFormat h.cfgFormat { s with nva := { s.nva with
        oldFormat := s.nva.cfgFormat, cfgFormat := h.cfgFormat } }
    else s

/-- Retained values over initial ones. -/
def withRetained (vs : List VarDecl) (vals : List (Nat × VVal)) : Tab VVal :=
  vals.foldl (fun t v => match declOf vs v.1 with
    | some d => if d.retained then Tab.set t v.1 v.2 else t
    | none => t) (initVars vs)

/-- Retained state restored in the layout of the generation, or carried into it with the codes of R108 (R27, R112). -/
def restoreVars (from_ : Gen) (g : Gen) (vals : List (Nat × VVal)) : Tab VVal × List (Nat × Bool) :=
  if from_.num = g.num then (withRetained g.vars vals, [])
  else
    let m := migrate (from_.vars.filter (·.retained)) g.vars (withRetained from_.vars vals)
    (withRetained g.vars (retainedOf g.vars m.vars), m.codes)

/-- The stores as the boot reads them: a checkpoint that does not verify is not valid, and of the journal only the
complete records stand (R27). -/
def storesRead (b : BootIn) (n : NvB) : NvB :=
  { n with
    ckA := { n.ckA with valid := n.ckA.valid && b.ckAOk }
    ckB := { n.ckB with valid := n.ckB.valid && b.ckBOk }
    records := n.records.take b.records }

/-- The stored generation is loaded; one that ran in TRIAL gives way to the one before (R112). -/
def loadStore (b : BootIn) (s : State) : State :=
  let none_ : Stored := ⟨genNone, false⟩
  let nv := storesRead b s.nvb
  let held := nv.ckA.valid || nv.ckB.valid
  let last := s.nvb.cur.getD none_
  let use := if s.nvb.trial then s.nvb.prev.getD none_ else last
  let from_ := if (newerCk nv).gen = last.g.num then last.g else use.g
  let r := if held then restoreVars from_ use.g (storedVars nv) else (initVars use.g.vars, [])
  let s1 := genInstall true use s
  let s2 := { s1 with
    cyc := { s1.cyc with vars := r.1 }
    nvb := if held && (newerCk nv).gen = use.g.num then nv else checkpoint use.g.num (retainedOf use.g.vars r.1) nv
    chg := { s1.chg with
      prev := if s.nvb.trial then s.nvb.older else s.nvb.prev
      older := none, genHigh := s.nvb.genHigh
      lastRevert := if s.nvb.trial then revReboot else s1.chg.lastRevert } }
  let s3 := setChange (if s.nvb.wasConfirmed && !s.nvb.trial then .confirmed else .none) s2
  let s4 := migCodes r.2 (if s.nvb.trial then occurU Code.changeReverted Src.sv revReboot s3 else s3)
  saveGens (match s4.ile.table with
    | some t => blockedLoad t last.g.ile s4
    | none => s4)

/-! ### The end of BOOT -/

/-- A module whose retirement persists boots into RETIRED (R42). -/
def bootRetired (c : RetireCause) (s : State) : State :=
  let s1 := setTuple (fun m => { m with role := .retired, run := .safe, ile := .withdrawn, net := .passive })
    { s with mod := { s.mod with retireCause := c } }
  retireOutputs (retireLinks s1)

/-- The blocks start with the end of BOOT: step 0, bounds and rounds counted from now, setup registers armed, the first
program cycle at its boundary; no point has received a value since (R66). -/
def bootBegin (s : State) : State :=
  gateClose 8 { s with
    plv := { s.plv with pairWait := none }
    fwu := { s.fwu with bootStep := 0, bootMs := (s.gt - s.fwu.bootStart) / ms, auto := s.chg.cur.modCfg.autostart }
    tim := { s.tim with armed := true, bootEnd := some s.gt }
    hl := { s.hl with armed := true }
    bst := { s.bst with armed := true, roundStart := s.gt }
    cyc := { s.cyc with
      cycle := 0, phase := .boundary, inbox := s.cyc.inbox.filter fun a => decide (s.gt ≤ a.at_), raw := [] } }

/-- A SYNCING module begins its resynchronisation, another a cold start of its interlocking engine. -/
def bootEngine (r : Role) (s : State) : State :=
  match r with
  | .syncing => beginResync { s with ile := { s.ile with
      lanes := s.ile.lanes.map fun l => { l with joining := l.admitted } } }
  | _ =>
    let x := if s.ile.table.isSome && decide (2 ≤ (admitted s).length) then ileCold s else s
    applyLocal false (flip (idleBase x) x)

/-- A module that runs a trial image counts its window of 600 s (R461), and an open ejector is acted on at once. -/
def bootLast (s : State) : State :=
  let s1 := if s.mod.tup.fw = .trial then { s with fwu := { s.fwu with trialEnd := s.gt + 600 * sec } } else s
  if s1.con.ejectPending || s1.mod.ejector then ejectAct { s1 with con := { s1.con with ejectPending := false } }
      else s1

/-- The role and IDLE that end BOOT: lanes are admitted, the network listens once its reference is good, and a module
that drives applies the safe image. -/
def bootRole (r : Role) (s : State) : State :=
  let s1 := setTuple (fun m => { m with role := r, run := .idle }) (bootBegin s)
  let s2 := setNet (if refGood s1 && !(chRetired s1 .a && chRetired s1 .b) then .listen else .passive) (lanesBoot (slotOf s1.nva s1.fwu.runSlot).digest s1)
  takeRecord (bootLast (bgWant 4 (alSettleAll (bootEngine r s2))))

/-- The slot 2k. -/
def evenSlot (s : State) : Bool := s.mod.slot % 2 = 0

/-- Table 2.5 at the end of BOOT: the role, or none while the module waits for its partner. A partner that reports
SOLO in BOOT waits as well (log entry 24); one that reports STANDBY or SYNCING leaves ACTIVE to this module (log entry
151). -/
def bootDecide (s : State) : Option Role :=
  if !s.mod.present || s.mod.tup.role = .retired then some .solo
  else if !s.mod.valid then none
  else match s.mod.partner.role, s.mod.partner.run with
    | .retired, _ => some .solo
    | .solo, .boot => some (if evenSlot s then .active else .syncing)
    | .solo, _ => some .syncing
    | .active, _ => some .syncing
    | _, _ => some .active

/-- The module takes its role, or waits PAIR_WAIT_S for its partner. -/
def bootSettle (s : State) : State :=
  match bootDecide s with
  | some r => bootRole r s
  | none => { s with plv := { s.plv with pairWait := some (s.plv.pairWait.getD s.gt) } }

/-- Codes of the end of BOOT. -/
def bootCodes (s : State) : State :=
  let ver := match s.fwu.run with
    | some h => h.ver
    | none => 0
  let s1 := occurU Code.fwBoot Src.fw ver s
  let s2 := if s1.mod.tup.fw = .trial then occur Code.fwTrial Src.fw 0 s1 else s1
  let s3 := if s2.mod.tup.fw = .fallback then occurU Code.fwFallback Src.fw (fbCode s2.fwu.cause) s2 else s2
  if s3.nva.recovered = 0 then s3
  else occurU Code.fwRecovered Src.fw s3.nva.recovered { s3 with nva := { s3.nva with recovered := 0 } }

/-- Step 10: every gate arms, and BOOT ends. -/
def bootEnd (s : State) : State :=
  let s1 := armGates s.chg.cur.gates { s with bst := { s.bst with bootDone := true } }
  if !allArmed s1 then bootFail s1
  else
    let s2 := bootCodes s1
    match s2.nva.modRetired with
    | some c => takeRecord (bootRetired c { s2 with
        fwu := { s2.fwu with bootStep := 0, bootMs := (s2.gt - s2.fwu.bootStart) / ms }
        tim := { s2.tim with armed := true, bootEnd := some s2.gt }
        hl := { s2.hl with armed := true }
        bst := { s2.bst with armed := true, roundStart := s2.gt } })
    | none => bootSettle { s2 with fwu := { s2.fwu with bootStep := 11 } }

/-! ### Steps -/

/-- Latest time of a step of Table 20.3 in ms; a conversion adds 20 s to steps 9 and 10. -/
def bootDeadline (s : State) (k : Nat) : Nat :=
  let t := ([0, 50, 50, 150, 450, 2500, 6500, 7000, 7500, 9500, 10000].getD k 10000) * ms
  let conv := match s.fwu.run with
    | some h => s.mod.tup.fw = .trial && (h.cfgFormat ≠ s.nva.cfgFormat || s.nva.oldFormat ≠ 0) && !storeEmpty s.nvb
    | none => false
  if 9 ≤ k && conv then t + 20 * sec else t

/-- The step has overrun its time. -/
def bootLate (s : State) : Bool := decide (s.fwu.bootStart + bootDeadline s s.fwu.bootStep < s.gt)

/-- The gates of the cells and lanes in service open for their tests (log entry 170). -/
def unitGates (s : State) : State :=
  let s1 := (List.range 4).foldl (fun s n => if isRetired s (.cell n) then s else gateOpen n s) s
  lanes3.foldl (fun s l => if isRetired s (.lane l) then s else gateOpen (laneBlk l) s) s1

/-- What a completed step does besides its tests. -/
def bootStepAct (k : Nat) (b : BootIn) (s : State) : State :=
  let s1 := { s with fwu := { s.fwu with bootStep := k + 1 } }
  match k with
  | 5 => chooseSlot s1
  | 6 => unitGates s1
  | 9 => loadStore b (formatConvert s1)
  | 10 => bootEnd s1
  | _ => s1

/-- The boot runs: out of reset, in a step of Table 20.3. -/
def booting (s : State) : Bool :=
  !s.con.inReset && s.mod.tup.run = .boot && !s.fwu.speedwell && decide (1 ≤ s.fwu.bootStep ∧ s.fwu.bootStep ≤ 10)

/-- BOOT_STEP_DONE (R456). -/
def execBootStepDone (t : Nat) (b : BootIn) (s0 : State) : Host.Outcome State Fault Refusal :=
  let s := atT t s0
  let k := s.fwu.bootStep
  .next (if !booting s then s
    else if bootLate s then bootFail s
    else
      let fails := b.fails ++ (if k = 3 && !b.keyDigestOk then [(11, Src.sv)] else [])
      let r : Bool × State := fails.foldl bootTest (false, bootKinds k fails s)
      let s1 : State := { r.2 with nva := { r.2.nva with
        modRetired := if s.mod.tup.fw = .trial then s.nva.modRetired else r.2.nva.modRetired } }
      if r.1 || (s1.mod.tup.role = .retired && s.mod.tup.fw = .trial) then
        bootFail { s1 with mod := { s1.mod with tup := s.mod.tup } }
      else if s1.mod.tup.role = .retired then s1
      else bootStepAct k b s1)

/-- BOOT_OVERRUN (R456). -/
def execBootOverrun (t : Nat) (s0 : State) : Host.Outcome State Fault Refusal :=
  let s := atT t s0
  .next (if booting s && bootLate s then bootFail s else s)

/-- POWER_ON_RESET_RELEASE: straps are taken, clocks and the module watchdog start (Table 15.4), and so does the boot.
A module reset by L5 writes FLT_L5; after any reset the marks left give EVR_UNFLUSHED (R407, R440). -/
def execPowerOnResetRelease (t : Nat) (p : PorIn) (s0 : State) : Host.Outcome State Fault Refusal :=
  let s := atT t s0
  .next (if !s.con.inReset then s
    else
      let s1 := { s with
        mod := { s.mod with slot := p.slot % 16, stmElig := p.stmElig, variantX := p.variantX, serial := p.serial }
        con := { s.con with
          sense := true, powered := true, inReset := false, recover := p.recover, identity := false, porAt := s.gt }
        clk := { s.clk with on := true, xa := { s.clk.xa with st := 1, since := s.gt } }
        nva := { s.nva with
          xaSettle := if p.hdrOk then p.xaSettle else s.nva.xaSettle, boots := satInc 0xFFFFFFFF s.nva.boots }
        flt := { s.flt with l5Served := s.gt }
        fwu := { s.fwu with bootStep := 1, bootStart := s.gt, hdrOk := p.hdrOk && p.hdrSigOk, bstOk := true } }
      let s2 := gateOpen 8 (writeUnflushed s1)
      if s2.flt.hwSafe then occur Code.fltL5 Src.sv 0 s2 else s2)

/-! ### The partner's arrival and its contact -/

/-- PAIR_WAIT_EXPIRY (Table 2.5): the partner has been silent on P0 for PAIR_WAIT_S. -/
def execPairWaitExpiry (t : Nat) (s0 : State) : Host.Outcome State Fault Refusal :=
  let s := atT t s0
  .next (if held s.plv.pairWait (s.chg.cur.modCfg.pairWaitS * sec) s.gt then bootRole .solo s else s)

/-- HEARTBEAT (R240): a module that waits at the end of BOOT takes its role by it. -/
def execHeartbeat (t : Nat) (h : PktHdr) (data : List Byte) (s0 : State) : Host.Outcome State Fault Refusal :=
  let s := atT t s0
  .next (onP0 0x01 h (data = h.pay && hbOk data) (fun s =>
    let s1 := hbTake data s
    if s1.plv.pairWait.isSome then bootSettle s1 else s1) s)

/-- A contact that opens ends an arbitration with outcome 5, and an ACTIVE module will take SOLO (R251). -/
def presDropArb (solo : Bool) (s : State) : State :=
  { s with
    mod := { s.mod with arb := false }
    plv := { s.plv with
      arbOutcome := if s.mod.arb then 5 else s.plv.arbOutcome, won := s.plv.won && !s.mod.arb, soloNext := s.plv.soloNext || solo } }

/-- PAIR_PRES_OPEN (R251): a STANDBY takes SOLO without the judges, an ACTIVE at its next boundary. -/
def execPairPresOpen (t : Nat) (s0 : State) : Host.Outcome State Fault Refusal :=
  let s := alSettleAll { atT t s0 with mod := { s0.mod with present := false } }
  .next (match s.mod.tup.role with
    | .standby => failover (presDropArb false s)
    | .active => if atBoundary s then soloStep (presDropArb true s) else presDropArb true s
    | _ => if s.plv.pairWait.isSome then bootSettle s else s)

/-- PAIR_PRES_CLOSE (R476). -/
def execPairPresClose (t : Nat) (s0 : State) : Host.Outcome State Fault Refusal :=
  let s := atT t s0
  .next (alSettleAll { s with mod := { s.mod with present := true } })

end Sys2Proof.Machine
end

