-- ==== Sys2Proof/Machine/Operands.lean ====
section
/-! DEFINITION. The operand forms of host commands: authorisation, buffers, and the 64 bytes of a descriptor with its
format checks (R337, Tables 13.2, 13.5). -/

namespace Sys2Proof.Machine

/-! ### Format (R337) -/

/-- GRANT is set for an opcode that needs none, or GRANT_SLOT exceeds 15 (Table 13.2). -/
def authOk (needs : Bool) : Auth → Bool
  | .none => true
  | .grant _ => needs
  | .lost => needs
  | .standing n => decide (n ≤ 15)

/-- ARGS out of range fail a descriptor in its format, before acceptance and grant (Table 13.10 gives the status; the
place in the order is log entry 168). -/
def ranged (ok : Bool) (c : Call) (op : Nat) (f : State → State) (s : State) : State :=
  if ok then f s else fail c op .badArgs s

/-- A buffer is 4-byte aligned and its length a multiple of 4. -/
def bufAligned (c : Call) : Bool := c.bufAddr % 4 = 0 && c.bufLen % 4 = 0

/-- The opcode uses no buffer: BUF_ADDR is 0 too (Table 13.2). -/
def noBuf (c : Call) : Bool := c.bufAddr = 0 && c.bufLen = 0

/-- The buffer holds n bytes. -/
def bufAtLeast (n : Nat) (c : Call) : Bool := decide (n ≤ c.bufLen)

/-- The buffer is of n bytes. -/
def bufExactly (n : Nat) (c : Call) : Bool := c.bufLen = n

/-! ### Descriptors -/

/-- Bytes of ARGS that Table 13.5 names for an opcode, as (offset, size). -/
def argSpans : Nat → List (Nat × Nat)
  | 0x01 => [(0, 1), (4, 8)]
  | 0x02 => [(0, 4)]
  | 0x03 => [(0, 5), (8, 8)]
  | 0x04 => [(0, 4)]
  | 0x10 => [(0, 2), (4, 4)]
  | 0x21 => [(0, 8)]
  | 0x22 => [(0, 4)]
  | 0x23 => [(0, 4)]
  | 0x24 => [(0, 4)]
  | 0x25 => [(0, 4)]
  | 0x26 => [(0, 8)]
  | 0x30 => [(0, 8)]
  | 0x40 => [(0, 5), (8, 16)]
  | 0x41 => [(0, 5), (8, 16)]
  | 0x48 => [(0, 2), (8, 8)]
  | 0x49 => [(0, 8)]
  | 0x50 => [(0, 16)]
  | 0x51 => [(0, 1), (2, 4)]
  | 0x58 => [(0, 8)]
  | 0x60 => [(0, 1)]
  | 0x62 => [(0, 3)]
  | 0x63 => [(0, 4)]
  | 0x68 => [(0, 1)]
  | 0x69 => [(0, 1)]
  | 0x80 => [(0, 1), (2, 4)]
  | _ => []

/-- Opcodes that change the module: those with a grant role in Table 13.4, and SNAP_ARM. -/
def isChanging (op : Nat) : Bool :=
  [0x02, 0x03, 0x04, 0x10, 0x20, 0x21, 0x22, 0x23, 0x24, 0x25, 0x26, 0x30, 0x31, 0x41, 0x48, 0x50, 0x58, 0x62, 0x63,
   0x64, 0x68].contains op

/-- A byte of ARGS that no span names is 0. -/
def argsClean (op : Nat) (args : List Byte) : Bool :=
  (List.range 32).all fun i => (argSpans op).any (fun p => decide (p.1 ≤ i ∧ i < p.1 + p.2)) || zeros args i 1

/-- ARG and SOURCE of a MODE request are 0 where Table 13.5 gives them no meaning. -/
def modeArgsClean (req arg src : Nat) : Bool :=
  decide (1 ≤ req ∧ req ≤ 8) && (req = 6 || src = 0) && (arg = 0 || req = 7 || (req = 6 && src / 2 ^ 20 = 5))

/-- FLAGS of a descriptor. -/
def descFlags (d : List Byte) : Nat := field d 1 1

/-- The header fields of Table 13.2 but for what depends on the opcode. -/
def descHeadOk (d : List Byte) : Bool :=
  let f := descFlags d
  zeros d 5 3 && zeros d 28 4 && decide (f < 8) && !(f.testBit 0 && f.testBit 1)
    && (if f.testBit 1 then decide (field d 4 1 ≤ 15) else zeros d 4 1)
    && (if f.testBit 0 then field d 8 8 % 4 = 0 else zeros d 8 8)

/-- The whole format of a descriptor of a known opcode. -/
def descOk (d : List Byte) : Bool :=
  let op := field d 0 1
  let a := d.drop 32
  descHeadOk d && argsClean op a && (op ≠ 0x10 || modeArgsClean (field a 0 1) (field a 1 1) (field a 4 4))

/-- The authorisation of a descriptor; without a grant its transfer has failed. -/
def descAuth (d : List Byte) (grant : Option Grant) : Auth :=
  if (descFlags d).testBit 0 then
    match grant with
    | some g => .grant g
    | none => .lost
  else if (descFlags d).testBit 1 then .standing (field d 4 1)
  else .none

end Sys2Proof.Machine
end

