-- ==== Sys2Proof/Machine/Accept.lean ====
section
/-! DEFINITION. How a host command is taken from its ring and accepted: the fetch (R332 to R334), the descriptor
checks (R337), acceptance by role and run state (R339, Table 13.4), and grants (R342 to R350). -/

namespace Sys2Proof.Machine

/-! ### The fetch -/

/-- A command is fetched from its ring, with its doorbell time, and served. -/
def serve (c : Call) (f : Call → State → State) (s : State) : State :=
  if fetchable s c.ring then
    f { c with doorbell := (ringOf s c.ring).times.headD s.gt } (fetchOne c.ring s)
  else s

/-- Descriptors wait in a ring. -/
def ringWaits (s : State) (n : Nat) : Bool :=
  let r := ringOf s n
  s.hxp.armed && cfgEn r.cfg && !r.halted && !r.times.isEmpty

/-- The first descriptor that waits in ring m comes before that of ring n: by doorbell time, then ring number (R333). -/
def comesBefore (s : State) (m n : Nat) : Bool :=
  let a := (ringOf s m).times.headD 0
  let b := (ringOf s n).times.headD 0
  ringWaits s m && (decide (a < b) || (a = b && decide (m < n)))

/-- No other ring holds an earlier descriptor. One that is not yet fetched may be a changing command (log entry 206). -/
def firstInLine (s : State) (n : Nat) : Bool := (List.range 8).all fun m => m = n || !comesBefore s m n

/-- A changing command is accepted in the order of R333. -/
def serveTurn (c : Call) (f : Call → State → State) (s : State) : State :=
  if firstInLine s c.ring then serve c f s else s

/-- The ring whose turn it is: the next after the last fetched that may be fetched (R333). -/
def nextRing (s : State) : Option Nat :=
  ((List.range 8).map fun i => (s.hxp.rr + i) % 8).find? (fetchable s)

/-- The later of a command's doorbell time and its acceptance now (R16, R332). -/
def arrived (c : Call) (s : State) : Nat := Max.max c.doorbell s.gt

/-! ### Acceptance (R339) -/

/-- D: a SOLO or ACTIVE module outside BOOT. -/
def accD : Nat := 1
/-- S: STANDBY. -/
def accS : Nat := 2
/-- Y: SYNCING. -/
def accY : Nat := 4
/-- X: RETIRED. -/
def accX : Nat := 8
/-- B: any module in BOOT. -/
def accB : Nat := 16

/-- Accepted on D S Y X. -/
def accDSYX : Nat := accD + accS + accY + accX

/-- The module's letter, as a bit number. -/
def letterOf (s : State) : Nat :=
  if s.mod.tup.run = .boot then 4 else
  match s.mod.tup.role with
  | .standby => 1
  | .syncing => 2
  | .retired => 3
  | _ => 0

/-- Opcodes that Speedwell serves (R469). -/
def speedwellServes (op : Nat) : Bool := op = 0x00 || op = 0x30 || op = 0x31 || op = 0x32 || op = 0x6A

/-- Acceptance by role and run state; `req` is the request code of Table 2.18, 0 when there is none. -/
def acceptOn (c : Call) (op req on : Nat) (f : State → State) (s : State) : State :=
  if s.fwu.speedwell then (if speedwellServes op then f s else fail c op .notReady s)
  else if on.testBit (letterOf s) then f s
  else if s.mod.tup.run = .boot then fail c op .notReady s
  else refuse c op req .role s

/-- The checks of R333 before the grant: format, then acceptance. -/
def opening (c : Call) (op req on : Nat) (needs bufOk : Bool) (f : State → State) (s : State) : State :=
  if !authOk needs c.auth then fail c op .badArgs s
  else if !(bufAligned c && bufOk) then fail c op .badBuffer s
  else acceptOn c op req on f s

/-! ### Grants -/

/-- Role bits of Table 13.7. -/
def roleOperate : Nat := 0
/-- WRITE. -/
def roleWrite : Nat := 1
/-- FORCE. -/
def roleForce : Nat := 2
/-- STAGE. -/
def roleStage : Nat := 3
/-- CONFIRM. -/
def roleConfirm : Nat := 4
/-- SAFETY. -/
def roleSafety : Nat := 5
/-- ILE. -/
def roleIle : Nat := 6
/-- FIRMWARE. -/
def roleFirmware : Nat := 7
/-- RECORD. -/
def roleRecord : Nat := 8
/-- TIME. -/
def roleTime : Nat := 9
/-- DEBUG. -/
def roleDebug : Nat := 10
/-- KEYS. -/
def roleKeys : Nat := 11

/-- TARGET equals the given leading bytes, every other byte 0 (R344). -/
def tgtEq (bs : List Byte) (t : List Byte) : Bool := t = (bs ++ pad 16).take 16

/-- Role of an opcode that a standing grant may authorise (Table 13.4). -/
def standingRole : Nat → Option Nat
  | 0x02 => some roleWrite
  | 0x30 => some roleFirmware
  | 0x62 => some roleOperate
  | _ => none

/-- Bytes of TARGET that Table 13.9 names for an opcode with standing grants. -/
def standingNamed (op : Nat) : Nat :=
  match op with
  | 0x02 => 8
  | 0x30 => 4
  | _ => 1

/-- NONCE is held: listed and its grant's EXPIRY not reached (R345). -/
def nonceHeld (s : State) (n : Nat) : Bool := s.nva.nonces.any fun p => p.1 = n && decide (s.gt < p.2)

/-- Nonces held. -/
def nonceCount (s : State) : Nat := (s.nva.nonces.filter fun p => decide (s.gt < p.2)).length

/-- Check 7 of Table 13.8; `free` is one of the three commands of R347. Speedwell leaves it out (R469). -/
def expiryOk (s : State) (hold free : Bool) (g : Grant) : Bool :=
  s.fwu.speedwell || (decide (s.gt < g.expiry) &&
    if s.tim.valid then decide (g.expiry ≤ s.gt + (if hold then 86400 else 3600) * sec) else free)

/-- The first check of Table 13.8, from 2 on, that a grant fails. -/
def grantCheck (s : State) (hold free : Bool) (role : Option Nat) (actionOk : Bool) (tgt : List Byte → Bool)
    (g : Grant) : Option Status :=
  if !(g.magic = 0x544E5247 && g.format = 1 && g.reservedZero && g.flags = b2n hold) then some .grantFormat
  else match Tab.find? s.nva.keys g.keySlot with
    | none => some .grantKey
    | some k =>
      if g.serial ≠ s.mod.serial then some .grantSerial
      else if !actionOk then some .grantAction
      else if !(match role with
        | some r => k.roles.testBit r
        | none => false) then some .grantRole
      else if !expiryOk s hold free g then some .grantExpired
      else if !tgt g.target then some .grantTarget
      else if !grantSigned g k then some .grantSignature
      else if nonceHeld s g.nonce then some .grantReplay
      else if 4096 ≤ nonceCount s then some .nonceFull
      else none

/-- A grant check fails (R350). -/
def grantFail (c : Call) (op : Nat) (st : Status) (slot : Nat) (s : State) : State :=
  occur2 Code.hxpGrantRefused (Src.ring c.ring) (statusCode st) slot
    (fail c op st { s with hxp := { s.hxp with grantsRefused := satInc 0xFFFF s.hxp.grantsRefused } })

/-- A grant is accepted: its NONCE is held until its EXPIRY (R345). -/
def nonceKeep (g : Grant) (s : State) : State :=
  { s with nva := { s.nva with
    nonces := (s.nva.nonces.filter fun p => decide (s.gt < p.2)) ++ [(g.nonce, g.expiry)] } }

/-- The check of a standing grant's use (R346). -/
def slotCheck (s : State) (op : Nat) (tgt : List Byte → Bool) (g : Grant) : Option Status :=
  if g.action ≠ op then some .grantAction
  else if g.expiry ≤ s.gt then some .grantExpired
  else if !tgt g.target then some .grantTarget
  else none

/-- Check 3 of R333: the command's grant. `onFail` adds what a rule says of a failure. -/
def withGrantOr (onFail : State → State) (c : Call) (op role : Nat) (free : Bool) (tgt : List Byte → Bool)
    (f : Grant → State → State) (s : State) : State :=
  match c.auth with
  | .none => onFail (grantFail c op .grantMissing 0 s)
  | .lost => fail c op .dmaError s
  | .grant g => match grantCheck s false free (some role) (g.action = op) tgt g with
    | some st => onFail (grantFail c op st g.keySlot s)
    | none => f g (nonceKeep g s)
  | .standing n => match Tab.find? s.hxp.slots n with
    | none => onFail (grantFail c op .slotEmpty 0 s)
    | some g => match slotCheck s op tgt g with
      | some st => onFail (grantFail c op st g.keySlot s)
      | none => f g s

/-- Check 3 of R333. -/
def withGrant (c : Call) (op role : Nat) (free : Bool) (tgt : List Byte → Bool) (f : Grant → State → State)
    (s : State) : State := withGrantOr id c op role free tgt f s

/-- No key in the store holds FIRMWARE: Speedwell needs no grant (R469). -/
def noFirmwareKey (s : State) : Bool := !(s.nva.keys.any fun k => k.2.roles.testBit roleFirmware)

/-- A firmware command's grant: under Speedwell none where no key holds FIRMWARE. -/
def withFwGrant (c : Call) (op : Nat) (tgt : List Byte → Bool) (f : State → State) (s : State) : State :=
  if s.fwu.speedwell && noFirmwareKey s then f s else withGrant c op roleFirmware false tgt (fun _ => f) s

/-- R39 at acceptance. -/
def notBusy (c : Call) (op req : Nat) (f : State → State) (s : State) : State :=
  if s.mod.arb then refuse c op req .busy s else f s

/-- An accepted command waits for the next program cycle boundary. -/
def await (c : Call) (op req : Nat) (body : Pend) (s : State) : State :=
  pushPend ⟨some c, s.hxp.era, op, req, arrived c s, body, none⟩ s

end Sys2Proof.Machine
end

