-- ==== Sys2Proof/Machine/ChangeCmds.lean ====
section
/-! DEFINITION. The host's online-change opcodes (R94, R97, R98, R100, R101, R120, R122, R289, R505) and the end of
the staging checks. -/

namespace Sys2Proof.Machine

/-- A STAGE or GEN_SELECT ends at a check before the staging began: STAGE_REFUSED is written (R97). -/
def stageRefused (s : State) : State := occur Code.stageRefused Src.sv 0 s

/-- R467: an ACTIVE module whose pair runs two images, or whose partner's image is on trial. -/
def xferBars (s : State) : Bool :=
  s.mod.tup.role = .active && (s.plv.partnerFw ≠ fwId s || s.mod.partner.fw = .trial)

/-- Staging of a container begins: its checks run as background work, and an ACTIVE module forwards the container
(R98, R99). -/
def stageBegin (op : Nat) (box : Container) (c : Call) (s : State) : State :=
  relay (stageReq op) [box.gen.num, box.gen.digest]
    (bgWant 3 (bgWant 2 { s with chg := { s.chg with job := some ⟨some c, s.hxp.era, op, box, none, none, []⟩ } }))

/-- The guards of check 2, and R467. -/
def stageEnter (op : Nat) (c : Call) (f : State → State) (s : State) : State :=
  match stageGuard s with
  | some r => stageRefused (refuse c op (stageReq op) r s)
  | none => if xferBars s then stageRefused (fail c op .partnerFail s) else f s

/-- TARGET of STAGE: GEN and the first 12 bytes of CONTENT_DIGEST. -/
def stageTarget (box : Container) : List Byte → Bool := tgtEq (le 4 box.gen.num ++ le 12 box.gen.digest)

/-- STAGE (R97). -/
def opStage (box : Container) (c : Call) (s : State) : State :=
  opening c 0x20 0x10 accD true true
    (withGrantOr stageRefused c 0x20 roleStage false (stageTarget box) (fun _ =>
      stageEnter 0x20 c (stageBegin 0x20 box c))) s

/-- The generation that GEN_SELECT names (R505). -/
def selected (s : State) (gen : Nat) : Option Gen :=
  if gen = 0 then none
  else if gen = genCur s then some s.chg.cur
  else match s.chg.prev with
    | some p => if gen = p.g.num then some p.g else none
    | none => none

/-- GEN_SELECT (R94): a copy under GEN_HIGH + 1. -/
def opGenSelect (gen : Nat) (c : Call) (s : State) : State :=
  opening c 0x25 0x15 accD true (noBuf c)
    (withGrantOr stageRefused c 0x25 roleStage false (tgtEq (le 4 gen)) (fun _ =>
      stageEnter 0x25 c (fun s => match selected s gen with
        | some g => stageBegin 0x25 (copyBox (renumber (genHighPair s + 1) g)) c s
        | none => fail c 0x25 .notAssigned s))) s

/-- A generation command that waits for its boundary. -/
def changeCmd (op req role : Nat) (body : Pend) (tgt : List Byte → Bool) (c : Call) (s : State) : State :=
  opening c op req accD true (noBuf c)
    (withGrant c op role false tgt (fun _ => notBusy c op req (await c op req body))) s

/-- SWITCH (R101): its grant names MOD_GEN_STAGED and CYCLE. -/
def opSwitch (cycle : Nat) (c : Call) (s : State) : State :=
  changeCmd 0x21 0x11 roleStage (.switch cycle) (tgtEq (le 4 (genStaged s) ++ pad 4 ++ le 8 cycle)) c s

/-- CONFIRM (R120). -/
def opConfirm (gen : Nat) (c : Call) (s : State) : State :=
  changeCmd 0x22 0x12 roleConfirm (.confirm gen) (tgtEq (le 4 gen)) c s

/-- REVERT (R122). -/
def opRevert (gen : Nat) (c : Call) (s : State) : State :=
  changeCmd 0x23 0x13 roleConfirm (.revert gen) (tgtEq (le 4 gen)) c s

/-- DISCARD (R100). -/
def opDiscard (gen : Nat) (c : Call) (s : State) : State :=
  changeCmd 0x24 0x14 roleStage (.discard gen) (tgtEq (le 4 gen)) c s

/-- CCV_CONFIRM (R289). -/
def opCcvConfirm (ccv gen : Nat) (c : Call) (s : State) : State :=
  opening c 0x26 0 accD true (noBuf c)
    (withGrant c 0x26 roleSafety false (tgtEq (le 4 ccv ++ le 4 gen)) (fun _ s =>
      if ccv ≠ ccvOf s.tio.section_ then fail c 0x26 .ccvMismatch s
      else await c 0x26 0 (.ccv ccv gen) s)) s

/-! ### The end of the staging checks (R97, R98) -/

/-- The staging has failed: on an ACTIVE module the standby gives it up too. -/
def stageAbort (st : Status) (s : State) : State := relay kAbandon [] (stageFail st s)

/-- Both sides' checks have passed: STAGED at a boundary. -/
def stageReady (s : State) : State :=
  match s.chg.job with
  | some j =>
    if j.own = some none && (s.mod.tup.role = .solo || j.partner = some true) then
      pushPend ⟨none, j.era, j.op, stageReq j.op, s.gt, .stage j.box.gen, none⟩ s
    else s
  | none => s

/-- The module's own checks end; a STANDBY reports their outcome to its active. -/
def ownChecks (j : StageJob) (s : State) : State :=
  let r := stageChecks s (j.op = 0x25) j.box
  let s1 := bgUnwant 3 (bgUnwant 2 { s with chg := { s.chg with job := some { j with own := some r } } })
  if s.mod.tup.role = .standby then
    let s2 := sendP0 0x0B [kChecks, b2n r.isNone] s1
    if r.isSome then occur Code.stageRefused Src.sv 0 { s2 with chg := { s2.chg with job := none } } else s2
  else match r with
    | some st => stageAbort st s1
    | none => stageReady s1

/-- The standby's outcome arrives (check 12). -/
def partnerChecks (ok : Bool) (j : StageJob) (s : State) : State :=
  if ok then stageReady { s with chg := { s.chg with job := some { j with partner := some true } } }
  else stageAbort .partnerFail s

/-- The background work of a staging has been admitted and done: verification and planning, at least a unit of each
(R99). -/
def checksRan (j : StageJob) : Bool := decide (2 ∈ j.units ∧ 3 ∈ j.units)

/-- STAGING_CHECKS_DONE: the module's own checks, or with an outcome the partner's as it reports it. -/
def execStagingChecksDone (t : Nat) (partner : Option Bool) (s0 : State) : Host.Outcome State Fault Refusal :=
  let s := atT t s0
  .next (match s.chg.job with
    | none => s
    | some j => match partner with
      | none => if j.own.isSome || !checksRan j then s else ownChecks j s
      | some ok => if s.mod.tup.role = .active && j.partner.isNone then partnerChecks ok j s else s)

/-! ### The commands -/

/-- STAGE. -/
def execStage (t : Nat) (c : Call) (box : Container) (s : State) : Host.Outcome State Fault Refusal :=
  .next (serveTurn c (opStage box) (atT t s))

/-- GEN_SELECT. -/
def execGenSelect (t : Nat) (c : Call) (gen : Nat) (s : State) : Host.Outcome State Fault Refusal :=
  .next (serveTurn c (opGenSelect gen) (atT t s))

/-- SWITCH. -/
def execSwitch (t : Nat) (c : Call) (cycle : Nat) (s : State) : Host.Outcome State Fault Refusal :=
  .next (serveTurn c (opSwitch cycle) (atT t s))

/-- CONFIRM. -/
def execConfirm (t : Nat) (c : Call) (gen : Nat) (s : State) : Host.Outcome State Fault Refusal :=
  .next (serveTurn c (opConfirm gen) (atT t s))

/-- REVERT. -/
def execRevert (t : Nat) (c : Call) (gen : Nat) (s : State) : Host.Outcome State Fault Refusal :=
  .next (serveTurn c (opRevert gen) (atT t s))

/-- DISCARD. -/
def execDiscard (t : Nat) (c : Call) (gen : Nat) (s : State) : Host.Outcome State Fault Refusal :=
  .next (serveTurn c (opDiscard gen) (atT t s))

/-- CCV_CONFIRM. -/
def execCcvConfirm (t : Nat) (c : Call) (ccv gen : Nat) (s : State) : Host.Outcome State Fault Refusal :=
  .next (serveTurn c (opCcvConfirm ccv gen) (atT t s))

end Sys2Proof.Machine
end

