-- ==== Sys2Proof/Machine/Memory.lean ====
section
/-! DEFINITION. The memory behind the gates (Tables 1.4 and 14.1) as the bytes that the debug master wrote. A byte
that is not listed holds what the module keeps there, in a layout that the manual does not give: it reads as a free
value. -/

namespace Sys2Proof.Machine

/-- Addresses of a memory list rise strictly. -/
def rising : List Host.Cell → Bool
  | [] => true
  | [_] => true
  | a :: b :: r => decide (a.1 < b.1) && rising (b :: r)

/-- The canonical form of the memory list. -/
def Memory.wf (m : List Host.Cell) : Bool := rising m

/-- The listed byte at an address. -/
def memGet : List Host.Cell → Nat → Option Byte
  | [], _ => none
  | (b, v) :: r, a => if b = a then some v else memGet r a

/-- Write one byte. -/
def memSet : List Host.Cell → Nat → Byte → List Host.Cell
  | [], a, v => [(a, v)]
  | (b, w) :: r, a, v =>
    if a < b then (a, v) :: (b, w) :: r
    else if a = b then (a, v) :: r
    else (b, w) :: memSet r a v

/-- Write bytes from an address on. -/
def memWrite : List Host.Cell → Nat → List Byte → List Host.Cell
  | m, _, [] => m
  | m, a, v :: r => memWrite (memSet m a v) (a + 1) r

/-- The bytes a read of n bytes returns; `k` indexes the free values. -/
def memRead (m : List Host.Cell) (k a n : Nat) : List Byte :=
  (List.range n).map fun i => (memGet m (a + i)).getD (Config.freeByte (k + i))

end Sys2Proof.Machine
end

