-- ==== Sys2Proof/Machine/Debug.lean ====
section
/-! DEFINITION. Accesses at the gates: the debug master's (R362 to R364, R367) and a denied access of another master
(R365). -/

namespace Sys2Proof.Machine

/-- An interconnect access of 1 to 4,096 bytes; a write carries its bytes. -/
def accessOk (a : Access) : Bool :=
  decide (0 < a.len ∧ a.len ≤ 4096 ∧ a.kind < 3) && (a.kind ≠ 1 || a.data.length = a.len)

/-- An access as its master issues it (Table 14.3): the supervisor, Teasel and the storage engine are secure, and only
a cell's program is not privileged. -/
def asIssued (a : Access) : Access :=
  { a with secure := a.master = 4 || a.master = 15 || a.master = 16, priv := a.priv || decide (4 ≤ a.master) }

/-- An access of the debug master, with its key (Table 14.3). -/
def asDebug (a : Access) : Access := asIssued { a with master := 17, key := 15 }

/-! ### The images at their place in SRAM (Tables 1.3, 3.2 and 14.2) -/

/-- The type of a TYPE code. -/
def typeOf (k : Nat) : PType := ([.unused, .bool, .int64, .uint64, .real64, .current, .bits64, .ile] : List PType).getD k .unused

/-- An entry from its 16 bytes (Table 3.2). -/
def entryOf (b : List Byte) : Entry :=
  let f := field b 10 1
  ⟨BitVec.ofNat 64 (field b 0 8), typeOf (field b 8 1), BitVec.ofNat 8 (field b 9 1), f.testBit 0, f.testBit 1, f.testBit 2,
    f.testBit 3, BitVec.ofNat 32 (field b 12 4)⟩

/-- Byte i of an address's entry; an address without an entry reads as zeros. -/
def imagePeek (img : Tab Entry) (o : Nat) : Byte := (entryBytes (Tab.getD img (o / 16) Entry.zero)).getD (o % 16) 0

/-- Byte i of an address's entry is written; an address without an entry keeps none. -/
def imagePoke (img : Tab Entry) (o : Nat) (v : Byte) : Tab Entry :=
  match Tab.find? img (o / 16) with
  | some e => Tab.set img (o / 16) (entryOf ((entryBytes e).set (o % 16) v))
  | none => img

/-- The access lies beside the two images. -/
def besideImages (a n : Nat) : Bool := decide (a + n ≤ (sramRegion 0).1) || decide ((sramRegion 1).2 ≤ a)

/-- One byte behind the gates: of the input image, the output image, or elsewhere (log entry 111). -/
def busPeek (s : State) (a i : Nat) : Byte :=
  let x := a + i
  if (sramRegion 0).1 ≤ x ∧ x < (sramRegion 0).2 then imagePeek s.cyc.img (x - (sramRegion 0).1)
  else if (sramRegion 1).1 ≤ x ∧ x < (sramRegion 1).2 then imagePeek s.cyc.outImg (x - (sramRegion 1).1)
  else (memGet s.mem x).getD (Config.freeByte (s.free + i))

/-- One byte is written behind the gates. -/
def busPoke (s : State) (w : Nat × Byte) : State :=
  if (sramRegion 0).1 ≤ w.1 ∧ w.1 < (sramRegion 0).2 then
    { s with cyc := { s.cyc with img := imagePoke s.cyc.img (w.1 - (sramRegion 0).1) w.2 } }
  else if (sramRegion 1).1 ≤ w.1 ∧ w.1 < (sramRegion 1).2 then
    { s with cyc := { s.cyc with outImg := imagePoke s.cyc.outImg (w.1 - (sramRegion 1).1) w.2 } }
  else { s with mem := memSet s.mem w.1 w.2 }

/-- The bytes that a read returns. -/
def busRead (s : State) (a n : Nat) : List Byte :=
  if besideImages a n then memRead s.mem s.free a n else (List.range n).map (busPeek s a)

/-- The bytes of a write take their places. -/
def busWrite (a : Nat) (data : List Byte) (s : State) : State :=
  if besideImages a data.length then { s with mem := memWrite s.mem a data }
  else (((List.range data.length).map (a + ·)).zip data).foldl busPoke s

/-- A poisoned word that an access touches (R411). -/
def touches (a : Access) (w : Nat) : Bool := decide (w < a.addr + a.len ∧ a.addr < w + 8)

/-- An access of the debug master: denied, it has no effect and reads zeros with an error response (R364), and so does a
read of a poisoned word; a write ends the poison (R411). -/
def debugEff (a : Access) (s : State) : State :=
  let d := gateDecide (asDebug a) s
  let n := if a.kind = 1 then 0 else a.len
  if !d.1 || (a.kind ≠ 1 && d.2.flt.poison.any (touches a)) then emit (.debug true (pad n)) d.2
  else if a.kind = 1 then emit (.debug false []) (busWrite a.addr a.data
    { d.2 with flt := { d.2.flt with poison := d.2.flt.poison.filter fun w => !touches a w } })
  else emit (.debug false (busRead d.2 a.addr n)) { d.2 with free := d.2.free + n }

/-- DEBUG_ACCESS. -/
def execDebugAccess (t : Nat) (a : Access) (s0 : State) : Host.Outcome State Fault Refusal :=
  let s := atT t s0
  .next (if accessOk a then debugEff a s else s)

/-! ### A denied access of another master (R365) -/

/-- The unit of a master other than a cell (Tables 14.3 and 17.3); the supervisor, the commit engine, the analog link
and Teasel have no bucket. -/
def masterUnit : Nat → Option UnitId
  | 5 => some (.lane .a)
  | 6 => some (.lane .b)
  | 7 => some (.lane .c)
  | 9 => some (.engine 1)
  | 10 => some (.engine 2)
  | 11 => some (.engine 5)
  | 12 => some (.engine 3)
  | 14 => some (.engine 4)
  | 16 => some (.engine 6)
  | _ => none

/-- A cell's program is stopped: the cycle ends without a publication or a retry, and HOLD follows at the boundary
(R365, steps 1 to 3 of R79). -/
def programFault (c : Nat) (s : State) : State :=
  wdtHold (occur Code.gateProgramFault (Src.cell c) 0 s)

/-- A privileged cell: 8 in its bucket and the rollback of R74, or its retirement. -/
def cellDenied (c : Nat) (s : State) : State :=
  let s1 := unitFault (.cell c) 0 s
  if s.cyc.phase = .execute && !isRetired s1 (.cell c) then rollback c s1 else s1

/-- The denial as a fault of its master's unit (R365, R408), or noted where the unit has no bucket. -/
def unitDenied (m : Nat) (s : State) : State :=
  match masterUnit m with
  | some u => unitFault u 0 s
  | none => noteFault Src.sv 7 s

/-- What a denial does to the master. -/
def deniedEff (a : Access) (s : State) : State :=
  if a.master < 4 then
    if isRetired s (.cell a.master) then s
    else if a.priv then cellDenied a.master s
    else if s.cyc.phase = .execute then programFault a.master s
    else unitFault (.cell a.master) 0 s
  else unitDenied a.master s

/-- GATE_PROGRAM_FAULT (R365, R366): an armed gate denies an access of a master other than the debug master. -/
def execGateProgramFault (t : Nat) (a0 : Access) (s0 : State) : Host.Outcome State Fault Refusal :=
  let s := atT t s0
  let a := asIssued a0
  .next (match gateAt a.addr with
    | none => s
    | some n =>
      if accessOk a && decide (a.master < 17) && (gateOf s n).armed && !isolated s a && !targetShut s n then
        match gateCheck s n a with
        | some k => deniedEff a (violate n a k s)
        | none => s
      else s)

end Sys2Proof.Machine
end

