-- ==== Sys2Proof/Machine/FwCmds.lean ====
section
/-! DEFINITION. Firmware opcodes, the reset that follows FW_ACTIVATE, and Speedwell's service line (R458, R459, R469,
R470, R472). -/

namespace Sys2Proof.Machine

/-- What stops a chunk: R458. A module under Speedwell is in no firmware trial. -/
def chunkArgsOk (off total len : Nat) : Bool :=
  off % 4096 = 0 && total % 4096 = 0 && decide (0 < total ∧ total ≤ 268435456 ∧ off + len ≤ total)

/-- The chunk is stored, or refused. -/
def chunkTake (off total : Nat) (data : List Byte) (hdr : Option ImageHdr) (c : Call) (s : State) : State :=
  if s.mod.tup.fw = .trial then refuse c 0x30 0 .notLegal s
  else done c 0x30 data.length (chunkStore off total data.length hdr s)

/-- FW_CHUNK (R458). -/
def opFwChunk (off total : Nat) (data : List Byte) (hdr : Option ImageHdr) (c : Call) (s : State) : State :=
  ranged (chunkArgsOk off total data.length) c 0x30 (opening c 0x30 0 (accD + accS + accY) true
    (bufExactly data.length c && decide (4 ≤ data.length ∧ data.length ≤ 1048576))
    <| withFwGrant c 0x30 (tgtEq (le 4 total)) (chunkTake off total data hdr c)) s

/-! ### FW_ACTIVATE -/

/-- Status of Speedwell's verification of slot A (R469). -/
def speedwellStatus (s : State) : Option Status :=
  match verify6 s s.nva.slotA with
  | none => none
  | some k => some (if k = 1 ∨ k = 2 ∨ k = 5 then .badFormat else .badSignature)

/-- Speedwell installs slot A: it copies the image into slot B, erases a store whose format the image does not take,
confirms slot A and resets (R469). `path` is 1 host, 2 J4. -/
def speedwellInstall (path : Nat) (s : State) : State :=
  let keeps := match s.nva.slotA.hdr with
    | some h => formatFits s h
    | none => true
  let s1 := { s with
    nva := { s.nva with slotB := s.nva.slotA, recovered := path }
    nvb := if keeps then s.nvb else { s.nvb with
      cur := none, prev := none, older := none, trial := false, wasConfirmed := false, ckA := ckptReset, ckB := ckptReset,
      records := [] } }
  { ptrPut (fun r => { r with conf := 0, try_ := none, phase := .none, fallback := false, cause := .none }) s1 with
    fwu := { s1.fwu with resetAt := some s1.gt } }

/-- The guards of FW_ACTIVATE (Table 2.7, R39, R48). -/
def activateGuard (s : State) : Option Reason :=
  if s.mod.arb then some .busy
  else if s.mod.tup.change = .staged || s.mod.tup.change = .trial then some .notLegal
  else if s.mod.tup.role = .active || s.mod.tup.fw = .trial then some .guard
  else none

/-- FW_ACTIVATE is accepted: pointer record, completion, LEAVING, and the reset within 100 ms (R459). -/
def activateTake (c : Call) (s : State) : State :=
  let s1 := ptrPut (fun r => { r with try_ := some (altSlot s), phase := .pending }) s
  leaveReset (postCompletion c.ring (done c 0x31 0 s1))

/-- FW_ACTIVATE of an application image; its grant is checked only with an image to compare it with (R459). -/
def activateApp (c : Call) (s : State) : State :=
  let x := slotOf s.nva (altSlot s)
  if !x.complete then fail c 0x31 .fwNoImage s
  else withGrant c 0x31 roleFirmware false (tgtEq (le 16 x.digest)) (fun _ s => match activateGuard s with
    | some r => refuse c 0x31 0x30 r s
    | none => activateTake c s) s

/-- FW_ACTIVATE under Speedwell (R469). -/
def activateSpeedwell (c : Call) (s : State) : State :=
  let x := s.nva.slotA
  if !x.complete then fail c 0x31 .fwNoImage s
  else withFwGrant c 0x31 (tgtEq (le 16 x.digest)) (fun s => match speedwellStatus s with
    | some st => fail c 0x31 st s
    | none => speedwellInstall 1 (postCompletion c.ring (done c 0x31 0 s))) s

/-- FW_ACTIVATE. -/
def opFwActivate (c : Call) (s : State) : State :=
  opening c 0x31 0x30 (accD + accS + accY) true (noBuf c)
    (fun s => if s.fwu.speedwell then activateSpeedwell c s else activateApp c s) s

/-- FW_ACTIVATE_RESET: the module stops and resets by the latest instant of R459. -/
def execFwActivateReset (t : Nat) (s0 : State) : Host.Outcome State Fault Refusal :=
  let s := atT t s0
  .next (if s.fwu.resetAt.isSome then moduleReset s else s)

/-! ### The status record -/

/-- A field of the running image. -/
def runHdr (s : State) (f : ImageHdr → Nat) : Nat :=
  match s.fwu.run with
  | some h => f h
  | none => 0

/-- A field of the inactive slot's image. -/
def altHdr (s : State) (f : ImageHdr → Nat) : Nat :=
  match (slotOf s.nva (altSlot s)).hdr with
  | some h => f h
  | none => 0

/-- The inactive slot. -/
def altOf (s : State) : ImgSlot := slotOf s.nva (altSlot s)

/-- FLAGS of Table 20.7. -/
def fwFlags (s : State) : Nat :=
  s.fwu.runSlot + 2 * b2n s.mod.adopted + 4 * b2n s.fwu.speedwell + 8 * b2n (altOf s).complete + 16 * b2n s.fwu.hashing

/-- End of the trial window, 0 outside TRIAL. -/
def trialEndOf (s : State) : Nat := if s.mod.tup.fw = .trial then s.fwu.trialEnd else 0

/-- The firmware status record (Table 20.7). -/
def fwRecord (s : State) : List Byte :=
  ([(4, runHdr s (·.ver)), (4, if (altOf s).complete then altHdr s (·.ver) else 0), (8, fwId s),
    (8, (altOf s).digest % 2 ^ 64), (1, fwCode s.mod.tup.fw), (1, fwFlags s), (1, fbCode s.fwu.cause),
    (1, s.nva.secFloor), (2, runHdr s (·.secVersion)), (2, altHdr s (·.secVersion)), (4, slotBytes (altOf s)),
    (4, (altOf s).total), (8, trialEndOf s), (4, s.fwu.bootMs), (2, s.nva.cfgFormat), (2, s.nva.oldFormat),
    (2, ownXfer s), (2, ownXferMin s), (4, Min.min 0xFFFFFFFF s.nva.boots)].map fun p : Nat × Nat => le p.1 p.2).flatten

/-- FW_STATUS (R472): RESULT is the firmware state. -/
def opFwStatus (c : Call) (s : State) : State :=
  opening c 0x32 0 (accD + accS + accY + accX + accB) false (bufAtLeast 64 c)
    (fun s => doneBuf c 0x32 (fwRecord s) (fwCode s.mod.tup.fw) s) s

/-- FW_CHUNK. -/
def execFwChunk (t : Nat) (c : Call) (offset total : Nat) (data : List Byte) (hdr : Option ImageHdr) (s : State) :
    Host.Outcome State Fault Refusal :=
  .next (serveTurn c (opFwChunk offset total data hdr) (atT t s))

/-- FW_ACTIVATE. -/
def execFwActivate (t : Nat) (c : Call) (s : State) : Host.Outcome State Fault Refusal :=
  .next (serveTurn c opFwActivate (atT t s))

/-- FW_STATUS. -/
def execFwStatus (t : Nat) (c : Call) (s : State) : Host.Outcome State Fault Refusal :=
  .next (serve c opFwStatus (atT t s))

end Sys2Proof.Machine
end

