-- ==== Sys2Proof/Machine/GrantCmds.lean ====
section
/-! DEFINITION. The host opcodes over time, HART, the debug unlock, the key store and held grants (R214, R306, R368,
R346, R349). -/

namespace Sys2Proof.Machine

/-! ### TIME_SET -/

/-- TIME_SET is accepted in LISTEN or PASSIVE, or on the station time master (R214). -/
def timeSettable (s : State) : Bool := s.mod.tup.net = .listen || s.mod.tup.net = .passive || isStm s

/-- The station time master holds its GT to the time-of-day message: TOD_EN is 1 and messages arrive (R224). DESIGN CHOICE
(log 205): they arrive while the last came within 2 s, twice their spacing. -/
def todHeld (s : State) : Bool :=
  todEn s && match s.tim.todAt with
    | some a => decide (s.gt < a + 2 * sec)
    | none => false

/-- The value is slewed in on the station time master, or GT steps to it. -/
def timeSetTake (gt : Nat) (c : Call) (s : State) : State :=
  if isStm s then
    let e : Int := (gt : Int) - s.gt
    let s1 := { s with tim := { s.tim with valid := true } }
    done c 0x58 (wrap64 e) (if todHeld s then s1 else stationError e (!srcGood s true) s1)
  else done c 0x58 s.gt (gtStep gt 4 true s)

/-- TIME_SET (R214). -/
def opTimeSet (gt : Nat) (c : Call) (s : State) : State :=
  opening c 0x58 0 (accD + accY + accX) true (noBuf c) (fun s =>
    if timeSettable s then withGrant c 0x58 roleTime true (tgtEq (le 8 gt)) (fun _ => timeSetTake gt c) s
    else refuse c 0x58 0 .role s) s

/-! ### HART_PASS -/

/-- TARGET of HART_PASS: bit CHANNEL set. -/
def hartTarget (ch : Nat) (t : List Byte) : Bool := (field t 0 1).testBit ch && zeros t 1 15

/-- A channel whose modem is a primary master takes pass-throughs (R306). -/
def hartMaster (s : State) (ch : Nat) : Bool :=
  (alCh s ch).en && !isRetired s (.al ch) && ((alPar s ch).mode = .source || (alPar s ch).mode = .input)

/-- The transaction waits for its turn on its channel. -/
def hartPassTake (ch cmd : Nat) (data : List Byte) (c : Call) (s : State) : State :=
  if hartMaster s ch then
    hartNext ch (updAl ch (fun a => { a with passQ := a.passQ ++ [.pass c s.hxp.era cmd data] }) s)
  else fail c 0x62 .hartFail s

/-- HART_PASS (R306). -/
def opHartPass (ch cmd len : Nat) (data : List Byte) (c : Call) (s : State) : State :=
  ranged (decide (ch ≤ 3 ∧ len ≤ 31 ∧ cmd ≤ 255)) c 0x62
    (opening c 0x62 0 accD true (bufAtLeast len c && data.length = len)
      (withGrant c 0x62 roleOperate false (hartTarget ch) fun _ => hartPassTake ch cmd data c)) s

/-! ### DEBUG_UNLOCK -/

/-- DEBUG_UNLOCK (R58, R368): its unlock ends at the EXPIRY of its grant. -/
def opDebugUnlock (mask : Nat) (c : Call) (s : State) : State :=
  ranged (decide (mask ≤ 127)) c 0x63 (opening c 0x63 0x40 accDSYX true (noBuf c)
    (withGrant c 0x63 roleDebug false (tgtEq (le 4 mask)) fun g s =>
      if !unlockLegal s then refuse c 0x63 0x40 .notLegal s
      else done c 0x63 mask (setUnlock mask g.expiry s))) s

/-! ### KEY_PROVISION -/

/-- The 140 bytes of a key record (R349). -/
def keyBytes (k : KeyRec) : List Byte :=
  le 1 k.slot ++ pad 1 ++ le 2 k.roles ++ pad 4 ++ be 66 k.qx ++ be 66 k.qy

/-- TARGET of KEY_PROVISION. -/
def keyTarget (k : KeyRec) : List Byte → Bool :=
  tgtEq (le 1 k.slot ++ pad 1 ++ le 2 k.roles ++ (sha512 (keyBytes k)).take 12)

/-- A key record waits for its boundary. -/
def keyWaits (s : State) : Bool :=
  s.cyc.pend.any fun p => match p.body with
    | .key _ => true
    | _ => false

/-- An empty key store takes one record that holds KEYS without a grant (R349). -/
def firstKey (s : State) (k : KeyRec) : Bool :=
  s.nva.keys.isEmpty && !keyWaits s && s.mod.tup.role = .solo && s.mod.tup.run = .idle && !s.mod.present && k.roles.testBit roleKeys

/-- KEY_PROVISION is accepted, or refused by R349. -/
def keyProvisionTake (k : KeyRec) (c : Call) (s : State) : State :=
  if 7 < k.slot || 4095 < k.roles then fail c 0x64 .badArgs s
  else if !changeRole s then refuse c 0x64 0 .guard s
  else if !keysHeld (keysWith k s.nva.keys) then fail c 0x64 .keyLockout s
  else await c 0x64 0 (.key k) s

/-- KEY_PROVISION (R349). -/
def opKeyProvision (k : KeyRec) (c : Call) (s : State) : State :=
  opening c 0x64 0 accD true (bufExactly 140 c) (fun s =>
    if firstKey s k && c.auth = .none then keyProvisionTake k c s
    else withGrant c 0x64 roleKeys true (keyTarget k) (fun _ => keyProvisionTake k c) s) s

/-! ### GRANT_HOLD and GRANT_DROP -/

/-- TARGET of a held grant: its opcode sets the layout (R344). -/
def heldTarget (op : Nat) (t : List Byte) : Bool := zeros t (standingNamed op) 16

/-- GRANT_HOLD (R346). -/
def opGrantHold (slot : Nat) (g : Grant) (c : Call) (s : State) : State :=
  ranged (decide (slot ≤ 15)) c 0x68 (opening c 0x68 0 (accD + accS + accY) false (bufExactly 196 c) fun s =>
    match grantCheck s true false (standingRole g.action) (standingRole g.action).isSome (heldTarget g.action) g with
      | some st => grantFail c 0x68 st g.keySlot s
      | none =>
        let s1 := nonceKeep g s
        done c 0x68 g.expiry { s1 with hxp := { s1.hxp with slots := Tab.set s1.hxp.slots slot g } }) s

/-- GRANT_DROP (Table 13.5): 0xFF drops every slot. -/
def opGrantDrop (slot : Nat) (c : Call) (s : State) : State :=
  ranged (decide (slot ≤ 15 ∨ slot = 0xFF)) c 0x69 (opening c 0x69 0 accDSYX false (noBuf c) fun s =>
    if slot = 0xFF then done c 0x69 0 { s with hxp := { s.hxp with slots := [] } }
    else done c 0x69 0 { s with hxp := { s.hxp with slots := Tab.erase s.hxp.slots slot } }) s

/-! ### The commands -/

/-- TIME_SET. -/
def execTimeSet (t : Nat) (c : Call) (gt : Nat) (s : State) : Host.Outcome State Fault Refusal :=
  .next (serveTurn c (opTimeSet gt) (atT t s))

/-- HART_PASS. -/
def execHartPass (t : Nat) (c : Call) (ch cmd len : Nat) (data : List Byte) (s : State) :
    Host.Outcome State Fault Refusal :=
  .next (serveTurn c (opHartPass ch cmd len data) (atT t s))

/-- DEBUG_UNLOCK. -/
def execDebugUnlock (t : Nat) (c : Call) (mask : Nat) (s : State) : Host.Outcome State Fault Refusal :=
  .next (serveTurn c (opDebugUnlock mask) (atT t s))

/-- KEY_PROVISION. -/
def execKeyProvision (t : Nat) (c : Call) (k : KeyRec) (s : State) : Host.Outcome State Fault Refusal :=
  .next (serveTurn c (opKeyProvision k) (atT t s))

/-- GRANT_HOLD. -/
def execGrantHold (t : Nat) (c : Call) (slot : Nat) (g : Grant) (s : State) : Host.Outcome State Fault Refusal :=
  .next (serveTurn c (opGrantHold slot g) (atT t s))

/-- GRANT_DROP. -/
def execGrantDrop (t : Nat) (c : Call) (slot : Nat) (s : State) : Host.Outcome State Fault Refusal :=
  .next (serve c (opGrantDrop slot) (atT t s))

end Sys2Proof.Machine
end

