-- ==== Sys2Proof/Machine/ModeCmds.lean ====
section
/-! DEFINITION. The MODE requests (R34 to R46, R340, R413) and the host's point and force writes (R86, R341). -/

namespace Sys2Proof.Machine

/-- TARGET of a MODE command (Table 13.9). -/
def modeTarget (req arg src : Nat) : List Byte → Bool := tgtEq (le 1 req ++ le 1 arg ++ pad 2 ++ le 4 src)

/-- Role of a MODE request (R340). -/
def modeRole (req : Nat) : Nat :=
  if req ≤ 4 then roleOperate else if req ≤ 6 then roleSafety else if req = 7 then roleDebug else roleFirmware

/-- Modules that accept a MODE request (Table 13.4, R40). -/
def modeOn (req src : Nat) : Nat :=
  match req with
  | 6 => if src = 0 then accD + accX else accD + accS + accY + accX
  | 7 => accD + accX
  | 8 => accD + accS + accY
  | _ => accD

/-- A MODE command up to its acceptance: format, role, grant and R39. -/
def modeCmd (req arg src : Nat) (c : Call) (f : State → State) (s : State) : State :=
  opening c 0x10 req (modeOn req src) true (noBuf c)
    (withGrant c 0x10 (modeRole req) (req = 6) (modeTarget req arg src) (fun _ => notBusy c 0x10 req f)) s

/-- A MODE command completes with MOD_STATE after the transition. -/
def modeDone (c : Call) (s : State) : State := done c 0x10 (tupleWord s.mod.tup) s

/-- START, HOLD, STOP and HANDOVER wait for the boundary (R36). -/
def opRun (req : Nat) (body : Pend) (c : Call) (s : State) : State := modeCmd req 0 0 c (await c 0x10 req body) s

/-- RETIRE: at once, with cause COMMAND (R36, R41). -/
def opRetire (c : Call) (s : State) : State := modeCmd 5 0 0 c (fun s => modeDone c (retireModule .command s)) s

/-- BST_MODE (Table 2.7); a RETIRED module has no program cycle boundary and takes it at once (DEDUCED from R37). -/
def opBstMode (arg : Nat) (c : Call) (s : State) : State :=
  ranged (decide (arg ≤ 1)) c 0x10 (modeCmd 7 arg 0 c fun s =>
    if s.mod.tup.role = .retired then modeDone c (setBst (if arg = 1 then .compat else .native) s)
    else await c 0x10 7 (.bstMode (arg = 1)) s) s

/-- FW_ACK waits for the boundary (Table 2.4). -/
def opFwAck (c : Call) (s : State) : State := modeCmd 8 0 0 c (await c 0x10 8 .fwAck) s

/-! ### READMIT (R413) -/

/-- READMIT of the module: the persistent retirement ends, the safety-class engines with it (Table 17.5), and the
module reboots (R41, R42). Its completion is posted before the reset. -/
def readmitModule (c : Call) (testOk : Bool) (s : State) : State :=
  if s.mod.tup.role ≠ .retired then modeDone c s
  else if !testOk then refuse c 0x10 6 .guard s
  else
    let s1 := ([1, 2, 3].map UnitId.engine).foldl (fun s u => if isRetired s u then readmitRecord u s else s)
      { s with nva := { s.nva with modRetired := none } }
    let s2 := occur Code.unitReadmitted Src.sv 0 s1
    moduleReset (postCompletion c.ring (done c 0x10 (tupleWord tupleReset) s2))

/-- Slices of the test that a READMIT awaits: 16 of a cell or lane, one of an engine (Table 18.1). -/
def testSlices : UnitId → Nat
  | .cell _ => 16
  | .lane _ => 16
  | _ => 1

/-- The tests of units are asked of the self-test engine, and the command waits for them. -/
def awaitTests (us : List UnitId) (mask : Nat) (c : Call) (s : State) : State :=
  bgWant 4 (await c 0x10 6 (.unitWait us mask)
    { s with bst := { s.bst with awaited := s.bst.awaited ++ us.map fun u => (u, testSlices u) } })

/-- READMIT of lanes by the lane mask (R163, R165). Bit 3 marks the wait as one for lanes, however few of them pass. -/
def readmitLanes (mask : Nat) (c : Call) (s : State) : State :=
  let named := lanesOf mask
  let out := (named.map UnitId.lane).filter (isRetired s)
  if s.mod.tup.ile = .withdrawn then
    if named.length < 2 then refuse c 0x10 6 .guard s
    else if out.isEmpty then (let s1 := lanesReturn [] mask s; modeDone c s1)
    else awaitTests out (mask + 8) c s
  else if out.isEmpty then modeDone c s
  else awaitTests out (mask + 8) c s

/-- Engines of the safety class by the source of their unit; only readmitting the module readmits them (Table 17.5). -/
def safetyEngine (s : State) (src : Nat) : Option Nat :=
  if src = Src.oxn (ownNode s) 0xFF then some 1 else if src = Src.pair 0 then some 2 else if src = Src.tio then some 3
  else none

/-- READMIT of one unit, by its class. -/
def readmitUnit (u : UnitId) (testOk : Bool) (c : Call) (s : State) : State :=
  match u with
  | .cell n => awaitTests [.cell n] 0 c s
  | .engine e => awaitTests [.engine e] 0 c s
  | .oxn ch =>
    if s.mod.tup.role = .retired then modeDone c (observeStart ch s) else await c 0x10 6 (.unit (.oxn ch)) s
  | .plv p => await c 0x10 6 (.unitWait [.plv p] 0) (unitNow (.plv p) s)
  | .ti i => awaitTests [.ti i] 0 c s
  | .tp i => awaitTests [.tp i] 0 c s
  | .tq i => if testOk then awaitTests [.tq i] 0 c s else refuse c 0x10 6 .guard s
  | _ => if testOk then modeDone c (unitNow u s) else refuse c 0x10 6 .guard s

/-- READMIT by source number. -/
def readmitEff (arg src : Nat) (testOk : Bool) (c : Call) (s : State) : State :=
  if src = 0 then readmitModule c testOk s
  else if src / 2 ^ 20 = 5 then readmitLanes arg c s
  else match safetyEngine s src with
    | some e => if isRetired s (.engine e) then refuse c 0x10 6 .guard s else modeDone c s
    | none => match (unitsOfSrc s src).filter (isRetired s) with
      | u :: _ => readmitUnit u testOk c s
      | [] => if (unitsOfSrc s src).isEmpty && src ≠ Src.flt then fail c 0x10 .badArgs s else modeDone c s

/-- READMIT. -/
def opReadmit (arg src : Nat) (testOk : Bool) (c : Call) (s : State) : State :=
  ranged (if src / 2 ^ 20 = 5 then decide (1 ≤ arg ∧ arg ≤ 7) else arg = 0) c 0x10
    (modeCmd 6 arg src c (readmitEff arg src testOk c)) s

/-! ### Points and forces -/

/-- An address is an input point whose source is the host (R341). -/
def hostPoint (s : State) (a : Nat) : Option Point :=
  match pointAt s.chg.cur.points a with
  | some p => if !p.isOut && p.link = .host then some p else none
  | none => none

/-- TYPE and VALUE of a record are valid for its point. -/
def recordOk (s : State) (r : PointRec) : Bool :=
  match hostPoint s r.addr with
  | some p => typeCode p.ty = r.ty && valueOk p.ty r.value
  | none => false

/-- TARGET of POINT_WRITE: every address lies in [FIRST, FIRST + COUNT). -/
def writeTarget (recs : List PointRec) (t : List Byte) : Bool :=
  let first := field t 0 4
  zeros t 8 8 && recs.all fun r => decide (first ≤ r.addr ∧ r.addr < first + field t 4 4)

/-- A host value arrives (R16): it carries no arrival time (R65). -/
def hostArrive (at_ : Nat) (s : State) (r : PointRec) : State :=
  { s with cyc := { s.cyc with inbox := s.cyc.inbox ++ [⟨r.addr, at_, r.value, none, qGood, false⟩] } }

/-- POINT_WRITE (R341): whole or not at all. -/
def opPointWrite (count : Nat) (recs : List PointRec) (c : Call) (s : State) : State :=
  ranged (decide (1 ≤ count ∧ count ≤ 4096)) c 0x02 (opening c 0x02 0 accD true
    (bufExactly (16 * count) c && recs.length = count) (withGrant c 0x02 roleWrite false (writeTarget recs) fun _ s =>
      if !(recs.all fun r => (hostPoint s r.addr).isSome) then fail c 0x02 .notHost s
      else if !(recs.all (recordOk s)) then fail c 0x02 .badValue s
      else done c 0x02 (arrived c s) (recs.foldl (hostArrive (arrived c s)) s))) s

/-- FORCE_SET (R86): checked and applied at its boundary. -/
def opForceSet (addr ty : Nat) (value : DWord) (c : Call) (s : State) : State :=
  opening c 0x03 0x20 accD true (noBuf c)
    (withGrant c 0x03 roleForce false (tgtEq (le 4 addr ++ le 1 ty ++ pad 3 ++ le 8 value.toNat)) (fun _ =>
      notBusy c 0x03 0x20 (await c 0x03 0x20 (.force addr ty value)))) s

/-- FORCE_CLEAR. -/
def opForceClear (addr : Nat) (c : Call) (s : State) : State :=
  opening c 0x04 0x20 accD true (noBuf c)
    (withGrant c 0x04 roleForce false (tgtEq (le 4 addr)) (fun _ =>
      notBusy c 0x04 0x20 (await c 0x04 0x20 (.forceClear addr)))) s

/-! ### The commands -/

/-- START. -/
def execStart (t : Nat) (c : Call) (s : State) : Host.Outcome State Fault Refusal :=
  .next (serveTurn c (opRun 1 .start) (atT t s))

/-- HOLD. -/
def execHold (t : Nat) (c : Call) (s : State) : Host.Outcome State Fault Refusal :=
  .next (serveTurn c (opRun 2 .hold) (atT t s))

/-- STOP. -/
def execStop (t : Nat) (c : Call) (s : State) : Host.Outcome State Fault Refusal :=
  .next (serveTurn c (opRun 3 .stop) (atT t s))

/-- HANDOVER. -/
def execHandover (t : Nat) (c : Call) (s : State) : Host.Outcome State Fault Refusal :=
  .next (serveTurn c (opRun 4 .handover) (atT t s))

/-- RETIRE. -/
def execRetire (t : Nat) (c : Call) (s : State) : Host.Outcome State Fault Refusal :=
  .next (serveTurn c opRetire (atT t s))

/-- READMIT. `testOk` is what Table 17.5 finds now of what no Teasel test tells: the reference check, the loopback
check, Q+ below 8 V with both switches open, and the test of a module. -/
def execReadmit (t : Nat) (c : Call) (arg source : Nat) (testOk : Bool) (s : State) : Host.Outcome State Fault Refusal :=
  .next (serveTurn c (opReadmit arg source testOk) (atT t s))

/-- BST_MODE. -/
def execBstMode (t : Nat) (c : Call) (arg : Nat) (s : State) : Host.Outcome State Fault Refusal :=
  .next (serveTurn c (opBstMode arg) (atT t s))

/-- FW_ACK. -/
def execFwAck (t : Nat) (c : Call) (s : State) : Host.Outcome State Fault Refusal :=
  .next (serveTurn c opFwAck (atT t s))

/-- POINT_WRITE. -/
def execPointWrite (t : Nat) (c : Call) (count : Nat) (recs : List PointRec) (s : State) :
    Host.Outcome State Fault Refusal :=
  .next (serveTurn c (opPointWrite count recs) (atT t s))

/-- FORCE_SET. -/
def execForceSet (t : Nat) (c : Call) (addr ty : Nat) (value : DWord) (s : State) :
    Host.Outcome State Fault Refusal :=
  .next (serveTurn c (opForceSet addr ty value) (atT t s))

/-- FORCE_CLEAR. -/
def execForceClear (t : Nat) (c : Call) (addr : Nat) (s : State) : Host.Outcome State Fault Refusal :=
  .next (serveTurn c (opForceClear addr) (atT t s))

end Sys2Proof.Machine
end

