-- ==== Sys2Proof/Machine/Reads.lean ====
section
/-! DEFINITION. The host's read opcodes and those that change no mode: NOP, image reads, forces listed, records,
status, identity, the legacy set (Tables 13.4, 13.5, 13.12), Sorrel, Clover and the interlocking status. -/

namespace Sys2Proof.Machine

/-- Fields with their sizes as bytes. -/
def rowBytes (r : List (Nat × Nat)) : List Byte := (r.map fun p => le p.1 p.2).flatten

/-- A read opcode: no grant, accepted on `on`, its buffer judged by `bufOk`. -/
def reading (c : Call) (op on : Nat) (bufOk : Bool) (f : State → State) (s : State) : State :=
  opening c op 0 on false bufOk f s

/-- NOP. -/
def opNop (c : Call) (s : State) : State :=
  reading c 0x00 (accDSYX + accB) (noBuf c) (done c 0x00 0) s

/-! ### Images -/

/-- Cycle number of the last commit of the input image. -/
def inCycle (s : State) : Nat := if s.cyc.phase = .boundary then s.cyc.cycle - 1 else s.cyc.cycle

/-- Cycle number of the last publication of the output image. -/
def outCycle (s : State) : Nat :=
  if s.cyc.phase = .boundary ∨ s.cyc.pubAt < s.cyc.tc then s.cyc.cycle - 1
  else if s.cyc.phase = .sig ∨ s.cyc.phase = .house then s.cyc.cycle else s.cyc.cycle - 1

/-- COUNT entries of an image from FIRST. -/
def imageBytes (img : Tab Entry) (first count : Nat) : List Byte :=
  ((List.range count).map fun i => entryBytes (Tab.getD img (first + i) Entry.zero)).flatten

/-- POINT_READ (R341). -/
def opPointRead (image first count : Nat) (c : Call) (s : State) : State :=
  ranged (decide (image ≤ 1 ∧ 1 ≤ count ∧ count ≤ 65536 ∧ first + count ≤ 262144)) c 0x01
    (reading c 0x01 accDSYX (bufAtLeast (16 * count) c) fun s =>
    if image = 0 then doneBuf c 0x01 (imageBytes s.cyc.img first count) (inCycle s) s
    else doneBuf c 0x01 (imageBytes s.cyc.outImg first count) (outCycle s) s) s

/-- FORCE_LIST (Table 13.5). -/
def forceBytes (s : State) : List Byte :=
  (s.cyc.forces.map fun f => rowBytes [(4, f.addr), (1, f.ty), (3, 0), (8, f.value.toNat)]).flatten

/-- FORCE_LIST. -/
def opForceList (c : Call) (s : State) : State :=
  reading c 0x05 accDSYX (bufAtLeast (16 * s.cyc.forces.length) c)
    (fun s => doneBuf c 0x05 (forceBytes s) s.cyc.forceVer s) s

/-! ### The legacy set (R353) -/

/-- A signed value saturated to 32 bits. -/
def sat32 (v : Int) : Nat := wrap32 (clampI (-2147483648) 2147483647 v)

/-- nA to µA, to nearest, ties to even. -/
def microAmp (v : Int) : Int :=
  let q : Int := roundEven v.natAbs 1000
  if v < 0 then -q else q

/-- VALUE and LTYPE of a legacy entry (Table 13.12). -/
def legacyValue (e : Entry) : Nat × Nat :=
  match e.ty with
  | .unused => (0, 0)
  | .bool => (e.value.toNat % 2, 1)
  | .int64 => (sat32 e.value.toInt, 2)
  | .uint64 => (Min.min 0xFFFFFFFF e.value.toNat, 3)
  | .real64 => (f64to32 e.value.toNat, 4)
  | .current => (sat32 (microAmp e.value.toInt), 5)
  | .bits64 => (e.value.toNat % 2 ^ 32, 6)
  | .ile => (e.value.toNat % 2 ^ 32, 6)

/-- FLAGS of an image entry (Table 3.2). -/
def flagBits (e : Entry) : Nat := b2n e.forced + 2 * b2n e.changed + 4 * b2n e.overrun + 8 * b2n e.safety

/-- The 8 bytes of a legacy entry. -/
def legacyBytes (e : Entry) : List Byte :=
  rowBytes [(4, (legacyValue e).1), (1, e.qual.toNat), (1, flagBits e), (1, (legacyValue e).2), (1, 0)]

/-- The legacy reads exist while HXP_CFG.LEGACY is 1 (R339). -/
def legacyOn (s : State) : Bool := s.hxp.cfg.getLsbD 0

/-- L_READ. -/
def opLRead (window first count : Nat) (c : Call) (s : State) : State :=
  if !legacyOn s then fail c 0x80 .badOpcode s else
  let a := window * 65536 + first
  ranged (decide (window ≤ 3 ∧ first ≤ 65535 ∧ 1 ≤ count ∧ count ≤ 4096 ∧ a + count ≤ 262144)) c 0x80
    (reading c 0x80 accDSYX (bufAtLeast (8 * count) c) fun s =>
    doneBuf c 0x80 ((List.range count).map fun i => legacyBytes (inEntry s (a + i))).flatten (inCycle s % 2 ^ 32) s) s

/-- L_STATUS: cycle number, MOD_STATE, CYCLE_US and FORCES. -/
def opLStatus (c : Call) (s : State) : State :=
  if !legacyOn s then fail c 0x81 .badOpcode s else
  reading c 0x81 accDSYX (bufAtLeast 16 c) (fun s =>
    doneBuf c 0x81 (rowBytes [(4, s.cyc.rec91.getD 0 0), (4, tupleWord s.mod.tup), (4, s.cyc.rec91.getD 2 0),
      (2, s.cyc.forces.length), (2, 0)]) 0 s) s

/-- The legacy writes 0x88–0x8F complete with LEGACY_WRITE on every module (R339). -/
def opLegacyWrite (opcode : Nat) (c : Call) (s : State) : State := fail c opcode .legacyWrite s

/-- Opcodes of Table 13.4; the legacy reads only while LEGACY is 1. -/
def knownOpcode (s : State) (op : Nat) : Bool :=
  [0x00, 0x01, 0x02, 0x03, 0x04, 0x05, 0x10, 0x20, 0x21, 0x22, 0x23, 0x24, 0x25, 0x26, 0x30, 0x31, 0x32, 0x40, 0x41,
   0x48, 0x49, 0x50, 0x51, 0x58, 0x60, 0x61, 0x62, 0x63, 0x64, 0x68, 0x69, 0x6A].contains op
    || decide (0x88 ≤ op ∧ op ≤ 0x8F) || (legacyOn s && (op = 0x80 || op = 0x81))

/-- BAD_OPCODE (R339). -/
def opBadOpcode (opcode : Nat) (c : Call) (s : State) : State := fail c opcode .badOpcode s

/-! ### Records and status -/

/-- The cycle status record (Table 3.8). -/
def cycleBytes (r : List Nat) : List Byte :=
  let g (i : Nat) : Nat := r.getD i 0
  rowBytes [(8, g 0), (8, g 1), (4, g 2), (4, g 3), (4, g 4), (4, g 5), (4, g 6), (4, g 7), (1, g 8), (1, 0), (2, g 9),
    (4, g 10), (4, g 11), (4, g 12), (4, g 13), (4, 0)]

/-- CYCLE_STATUS (R91); OPTIONS bit 0 is RESET_MAX. -/
def opCycleStatus (options : Nat) (c : Call) (s : State) : State :=
  ranged (decide (options ≤ 1)) c 0x60 (reading c 0x60 accDSYX (bufAtLeast 64 c) fun s =>
    let s1 := if options = 1 then { s with cyc := { s.cyc with cycleMax := 0 } } else s
    doneBuf c 0x60 (cycleBytes s.cyc.rec91) (s.cyc.rec91.getD 0 0) s1) s

/-- The change status record (Table 4.7). -/
def changeBytes (r : List Nat) : List Byte :=
  let g (i : Nat) : Nat := r.getD i 0
  rowBytes [(4, g 0), (4, g 1), (4, g 2), (4, g 3), (8, g 4), (8, g 5), (4, g 6), (4, g 7), (4, g 8), (4, g 9), (4, g 10),
    (2, g 11), (2, g 12), (1, g 13), (1, g 14), (1, g 15), (5, 0)]

/-- CHANGE_STATUS (R123): RESULT is the change state. -/
def opChangeStatus (c : Call) (s : State) : State :=
  reading c 0x61 accDSYX (bufAtLeast 64 c)
    (fun s => doneBuf c 0x61 (changeBytes s.chg.record) (s.chg.record.getD 13 0) s) s

/-- IDENTITY: serial, certificate and key store digest as in AUTH (R253). -/
def opIdentity (c : Call) (s : State) : State :=
  reading c 0x6A (accDSYX + accB) (bufAtLeast 204 c) (fun s =>
    doneBuf c 0x6A (le 8 s.mod.serial ++ certBytes ++ le 64 (keyDigest s)) s.mod.serial s) s

/-! ### Sorrel -/

/-- REC_READ (R445, R446). -/
def opRecRead (cf cl store from_ to_ : Nat) (bad : List Nat) (c : Call) (s : State) : State :=
  ranged (decide (store ≤ 3)) c 0x40 (reading c 0x40 accDSYX (bufAtLeast 128 c) (recReadEff c cf cl store from_ to_ bad)) s

/-- TARGET of REC_CLEAR: hours of FROM and TO (Table 13.9). -/
def recTarget (cf cl store from_ to_ : Nat) (t : List Byte) : Bool :=
  tgtEq (rowBytes [(2, cf), (2, cl), (1, store), (3, 0), (4, from_ / (3600 * sec)), (4, to_ / (3600 * sec))]) t

/-- REC_CLEAR (R447, R448). -/
def opRecClear (cf cl store from_ to_ : Nat) (c : Call) (s : State) : State :=
  ranged (decide (store ≤ 3 ∧ from_ % (3600 * sec) = 0 ∧ to_ % (3600 * sec) = 0)) c 0x41
    (opening c 0x41 0 accD true (noBuf c) (withGrant c 0x41 roleRecord false (recTarget cf cl store from_ to_)
      fun g => recClearEff c cf cl store from_ to_ g.nonce g.keySlot)) s

/-! ### Clover snapshots -/

/-- SNAP_ARM (R230). -/
def opSnapArm (id at_ : Nat) (c : Call) (s : State) : State :=
  ranged (decide (1 ≤ id ∧ id ≤ 65535)) c 0x48 (opening c 0x48 0 accD false (noBuf c) fun s =>
    if at_ < s.gt + 5 * ms || s.gt + 60 * sec ≤ at_ then refuse c 0x48 0 .guard s
    else if s.tim.clv.st = 1 || s.tim.clv.st = 2 then refuse c 0x48 0 .busy s
    else done c 0x48 id (relay kSnap [id, at_] (cloverArm id at_ s))) s

/-- The entries that a SNAP_READ returns. -/
def snapPart (first count : Nat) (s : State) : List (Nat × List Byte) := ((clvEntries s).drop first).take count

/-- SNAP_READ (R233). -/
def opSnapRead (first count : Nat) (c : Call) (s : State) : State :=
  reading c 0x49 (accD + accS) (bufAtLeast (32 + 24 * (snapPart first count s).length) c) (fun s =>
    doneBuf c 0x49 (clvHeader s ++ ((snapPart first count s).map (·.2)).flatten) s.tim.clv.st s) s

/-! ### Interlocking engine -/

/-- The interlocking state is withdrawn, as the status points show it (R158). -/
def ileDown (s : State) : Bool := s.mod.tup.ile = .withdrawn || s.ile.latch

/-- Status VALUE of one object at the last voter update (Table 5.6). -/
def ileObject (s : State) (kind i : Nat) : DWord :=
  match kind with
  | 2 => pathStatus (curTable s) (s.ile.upOld.getD tableNone) (reqPresent s) s.ile.upDyn s.ile.upAt (ileDown s) i
  | 3 => elemStatus (curTable s) s.ile.upDyn (ileDown s) i
  | _ => permStatus s.ile.upVec (ileDown s) i

/-- Objects of a kind in the current table. -/
def ileObjects (s : State) : Nat → Nat
  | 2 => (curTable s).paths.length
  | 3 => (curTable s).elems.length
  | 4 => (curTable s).perms.length
  | _ => 0

/-- ILE_READ. -/
def opIleRead (kind first count : Nat) (c : Call) (s : State) : State :=
  ranged (decide (2 ≤ kind ∧ kind ≤ 4 ∧ 1 ≤ count ∧ count ≤ 32768 ∧ first + count ≤ ileObjects s kind)) c 0x51
    (reading c 0x51 accDSYX (bufAtLeast (8 * count) c) fun s =>
    doneBuf c 0x51 ((List.range count).map fun i => le 8 (ileObject s kind (first + i)).toNat).flatten s.ile.upN s) s

/-- Body of Table 5.8 as bytes. -/
def opBodyBytes (cmd : Nat) (b : OpBody) : List Byte :=
  rowBytes [(1, cmd), (1, 0), (2, b.index), (4, 0), (8, b.key)]

/-- ILE_OPERATOR (R144): it takes effect in the second ILE cycle that begins after its acceptance. An EMERG_RELEASE
accepted under WITHDRAWN is void (R146). -/
def opIleOperator (cmd : Nat) (b : OpBody) (c : Call) (s : State) : State :=
  ranged (decide (1 ≤ cmd ∧ cmd ≤ 3) && b.reservedZero) c 0x50
    (opening c 0x50 0 accD true (noBuf c) (withGrant c 0x50 roleIle false (tgtEq (opBodyBytes cmd b)) fun _ s =>
    let n := s.ile.n + 2
    let void := decide (cmd = 3) && (s.mod.tup.ile = .withdrawn || s.ile.withdrawnNow)
    relay kIleOp [cmd, b.index, b.key, n, b2n void]
      { s with ile := { s.ile with ops := s.ile.ops ++ [⟨some c, s.hxp.era, cmd, b, n, void, partnerFollows s⟩] } })) s

/-! ### The commands -/

/-- NOP. -/
def execNop (t : Nat) (c : Call) (s : State) : Host.Outcome State Fault Refusal := .next (serve c opNop (atT t s))

/-- POINT_READ. -/
def execPointRead (t : Nat) (c : Call) (image first count : Nat) (s : State) : Host.Outcome State Fault Refusal :=
  .next (serve c (opPointRead image first count) (atT t s))

/-- FORCE_LIST. -/
def execForceList (t : Nat) (c : Call) (s : State) : Host.Outcome State Fault Refusal :=
  .next (serve c opForceList (atT t s))

/-- L_READ. -/
def execLRead (t : Nat) (c : Call) (window first count : Nat) (s : State) : Host.Outcome State Fault Refusal :=
  .next (serve c (opLRead window first count) (atT t s))

/-- L_STATUS. -/
def execLStatus (t : Nat) (c : Call) (s : State) : Host.Outcome State Fault Refusal :=
  .next (serve c opLStatus (atT t s))

/-- LEGACY_WRITE: an opcode 0x88–0x8F. -/
def execLegacyWrite (t : Nat) (c : Call) (opcode : Nat) (s : State) : Host.Outcome State Fault Refusal :=
  .next (if 0x88 ≤ opcode ∧ opcode ≤ 0x8F then serve c (opLegacyWrite opcode) (atT t s) else atT t s)

/-- BAD_OPCODE: an opcode not in Table 13.4, or a legacy read while LEGACY is 0. -/
def execBadOpcode (t : Nat) (c : Call) (opcode : Nat) (s : State) : Host.Outcome State Fault Refusal :=
  .next (if knownOpcode s opcode then atT t s else serve c (opBadOpcode opcode) (atT t s))

/-- CYCLE_STATUS. -/
def execCycleStatus (t : Nat) (c : Call) (options : Nat) (s : State) : Host.Outcome State Fault Refusal :=
  .next (serve c (opCycleStatus options) (atT t s))

/-- CHANGE_STATUS. -/
def execChangeStatus (t : Nat) (c : Call) (s : State) : Host.Outcome State Fault Refusal :=
  .next (serve c opChangeStatus (atT t s))

/-- IDENTITY. -/
def execIdentity (t : Nat) (c : Call) (s : State) : Host.Outcome State Fault Refusal :=
  .next (serve c opIdentity (atT t s))

/-- REC_READ. -/
def execRecRead (t : Nat) (c : Call) (codeFirst codeLast store fromGt toGt : Nat) (bad : List Nat) (s : State) :
    Host.Outcome State Fault Refusal :=
  .next (serve c (opRecRead codeFirst codeLast store fromGt toGt bad) (atT t s))

/-- REC_CLEAR. -/
def execRecClear (t : Nat) (c : Call) (codeFirst codeLast store fromGt toGt : Nat) (s : State) :
    Host.Outcome State Fault Refusal :=
  .next (serveTurn c (opRecClear codeFirst codeLast store fromGt toGt) (atT t s))

/-- SNAP_ARM. -/
def execSnapArm (t : Nat) (c : Call) (id at_ : Nat) (s : State) : Host.Outcome State Fault Refusal :=
  .next (serveTurn c (opSnapArm id at_) (atT t s))

/-- SNAP_READ. -/
def execSnapRead (t : Nat) (c : Call) (first count : Nat) (s : State) : Host.Outcome State Fault Refusal :=
  .next (serve c (opSnapRead first count) (atT t s))

/-- ILE_READ. -/
def execIleRead (t : Nat) (c : Call) (kind first count : Nat) (s : State) : Host.Outcome State Fault Refusal :=
  .next (serve c (opIleRead kind first count) (atT t s))

/-- BLOCK. -/
def execBlock (t : Nat) (c : Call) (body : OpBody) (s : State) : Host.Outcome State Fault Refusal :=
  .next (serveTurn c (opIleOperator 1 body) (atT t s))

/-- UNBLOCK. -/
def execUnblock (t : Nat) (c : Call) (body : OpBody) (s : State) : Host.Outcome State Fault Refusal :=
  .next (serveTurn c (opIleOperator 2 body) (atT t s))

/-- EMERG_RELEASE. -/
def execEmergRelease (t : Nat) (c : Call) (body : OpBody) (s : State) : Host.Outcome State Fault Refusal :=
  .next (serveTurn c (opIleOperator 3 body) (atT t s))

end Sys2Proof.Machine
end

