-- ==== Sys2Proof/Machine/Fetch.lean ====
section
/-! DEFINITION. A descriptor as the module fetches it, and the opcode it runs (R333, Tables 13.4, 13.5). -/

namespace Sys2Proof.Machine

/-- A command whose input buffer's transfer failed (R338), by its acceptance. -/
def lostBuf (op req on : Nat) (needs : Bool) (c : Call) (s : State) : State :=
  opening c op req on needs true (fail c op .dmaError) s

/-- A MODE descriptor. A unit's test that a READMIT of it needs is taken as passed. -/
def runMode (a : List Byte) (c : Call) (s : State) : State :=
  match field a 0 1 with
  | 1 => opRun 1 .start c s
  | 2 => opRun 2 .hold c s
  | 3 => opRun 3 .stop c s
  | 4 => opRun 4 .handover c s
  | 5 => opRetire c s
  | 6 => opReadmit (field a 1 1) (field a 4 4) true c s
  | 7 => opBstMode (field a 1 1) c s
  | _ => opFwAck c s

/-- An ILE_OPERATOR descriptor (Table 5.8). -/
def runIle (a : List Byte) (c : Call) (s : State) : State :=
  opIleOperator (field a 0 1) ⟨field a 2 2, field a 8 8, zeros a 1 1 && zeros a 4 4⟩ c s

/-- Opcodes with an input buffer. -/
def runInput (op : Nat) (a : List Byte) (buf : HostBuf) (c : Call) (s : State) : State :=
  match op, buf with
  | 0x02, .points rs => opPointWrite (field a 0 4) rs c s
  | 0x02, _ => lostBuf op 0 accD true c s
  | 0x20, .container x => opStage x c s
  | 0x20, _ => lostBuf op 0x10 accD true c s
  | 0x30, .bytes bs hdr => opFwChunk (field a 0 4) (field a 4 4) bs hdr c s
  | 0x30, _ => lostBuf op 0 (accD + accS + accY) true c s
  | 0x62, .bytes bs _ => opHartPass (field a 0 1) (field a 1 1) (field a 2 1) bs c s
  | 0x62, .none => opHartPass (field a 0 1) (field a 1 1) (field a 2 1) [] c s
  | 0x62, _ => lostBuf op 0 accD true c s
  | 0x64, .key k => opKeyProvision k c s
  | 0x64, _ => lostBuf op 0 accD true c s
  | 0x68, .grant g => opGrantHold (field a 0 1) g c s
  | _, _ => lostBuf op 0 (accD + accS + accY) false c s

/-- The opcode of a descriptor whose format holds. -/
def runOp (op : Nat) (a : List Byte) (buf : HostBuf) (c : Call) (s : State) : State :=
  match op with
  | 0x00 => opNop c s
  | 0x01 => opPointRead (field a 0 1) (field a 4 4) (field a 8 4) c s
  | 0x03 => opForceSet (field a 0 4) (field a 4 1) (BitVec.ofNat 64 (field a 8 8)) c s
  | 0x04 => opForceClear (field a 0 4) c s
  | 0x05 => opForceList c s
  | 0x10 => runMode a c s
  | 0x21 => opSwitch (field a 0 8) c s
  | 0x22 => opConfirm (field a 0 4) c s
  | 0x23 => opRevert (field a 0 4) c s
  | 0x24 => opDiscard (field a 0 4) c s
  | 0x25 => opGenSelect (field a 0 4) c s
  | 0x26 => opCcvConfirm (field a 0 4) (field a 4 4) c s
  | 0x31 => opFwActivate c s
  | 0x32 => opFwStatus c s
  | 0x40 => opRecRead (field a 0 2) (field a 2 2) (field a 4 1) (field a 8 8) (field a 16 8) [] c s
  | 0x41 => opRecClear (field a 0 2) (field a 2 2) (field a 4 1) (field a 8 8) (field a 16 8) c s
  | 0x48 => opSnapArm (field a 0 2) (field a 8 8) c s
  | 0x49 => opSnapRead (field a 0 4) (field a 4 4) c s
  | 0x50 => runIle a c s
  | 0x51 => opIleRead (field a 0 1) (field a 2 2) (field a 4 2) c s
  | 0x58 => opTimeSet (field a 0 8) c s
  | 0x60 => opCycleStatus (field a 0 1) c s
  | 0x61 => opChangeStatus c s
  | 0x63 => opDebugUnlock (field a 0 4) c s
  | 0x69 => opGrantDrop (field a 0 1) c s
  | 0x6A => opIdentity c s
  | 0x80 => opLRead (field a 0 1) (field a 2 2) (field a 4 2) c s
  | 0x81 => opLStatus c s
  | _ => runInput op a buf c s

/-- A fetched descriptor: the legacy writes at once (R339), then R333's order: the format, as far as an unknown opcode
has one, the opcode, and its command. -/
def runDesc (d : List Byte) (buf : HostBuf) (grant : Option Grant) (c : Call) (s : State) : State :=
  let op := field d 0 1
  if 0x88 ≤ op ∧ op ≤ 0x8F then opLegacyWrite op c s
  else if !descHeadOk d then fail c op .badArgs s
  else if !knownOpcode s op then opBadOpcode op c s
  else if !descOk d then fail c op .badArgs s
  else runOp op (d.drop 32) buf { c with auth := descAuth d grant } s

/-- The call of a descriptor; its authorisation comes with its format. -/
def descCall (ring : Nat) (d : List Byte) : Call where
  ring := ring
  tag := field d 2 2
  irq := (descFlags d).testBit 2
  doorbell := 0
  auth := .none
  bufAddr := field d 16 8
  bufLen := field d 24 4

/-- DESCRIPTOR_FETCH (R333): the rings take turns. A changing command waits while one with an earlier doorbell has neither
been accepted nor failed, which the rings themselves show, whatever `held` says; the turn passes on. -/
def execDescriptorFetch (t ring : Nat) (desc : List Byte) (buf : HostBuf) (grant : Option Grant) (_held : Bool)
    (s : State) : Host.Outcome State Fault Refusal :=
  .next (if desc.length ≠ 64 ∨ nextRing (atT t s) ≠ some ring then atT t s
    else if isChanging (field desc 0 1) && !firstInLine (atT t s) ring then
      { atT t s with hxp := { s.hxp with rr := (ring + 1) % 8 } }
    else serve (descCall ring desc) (runDesc desc buf grant) (atT t s))

end Sys2Proof.Machine
end

