-- ==== Sys2Proof/Machine/Flags.lean ====
section
/-! DEFINITION. The status and flag words that are computed from State when they are read: HXP_STATUS, MOD_STATUS,
MOD_CFG, the LEDs, FLT_STATUS, FLT_RETIRED, FWU_STATUS and FWU_TRIAL. -/

namespace Sys2Proof.Machine

/-- HXP_STATUS. -/
def hxpStatus (h : HxpS) : Nat :=
  b2n h.armed + 2 * b2n h.disarming + 4 * b2n (h.cfg.getLsbD 0)
    + ((List.range 8).map fun n => 2 ^ (8 + n) * b2n (h.rings.getD n ringReset).halted).sum
    + 2 ^ 16 * b2n h.evq.halted + 2 ^ 17 * b2n (cfgEn h.evq.cfg && decide (ringLen h.evq.cfg ≤ h.evq.out))

/-- MOD_STATUS (Table 2.14). -/
def modStatus (s : State) : Nat :=
  b2n s.mod.present + 2 * b2n s.mod.valid + 4 * b2n (s.mod.present && !s.mod.valid) + 8 * b2n s.mod.arb
    + 16 * b2n s.mod.scanRisk + 32 * b2n s.mod.adopted + 64 * b2n s.mod.ejector + 128 * b2n (decide (s.gate.mask ≠ 0))
    + 256 * b2n s.chg.switchAt.isSome + 4096 * causeCode s.mod.retireCause

/-- MOD_CFG (Table 2.15). -/
def modCfgWord (c : ModCfg) : Nat := b2n c.autostart + 2 * b2n c.ileHandover + 256 * c.pairWaitS

/-- Pattern of the RUN indicator (Table 21.11). -/
def ledRun (s : State) : Nat :=
  match s.mod.tup.run with
  | .run => 1
  | .boot => 3
  | .idle => 2
  | .hold => 2
  | .safe => 0

/-- A cause that lights FAULT. -/
def faultCause : RetireCause → Bool
  | .fault => true
  | .judged => true
  | .self => true
  | .resync => true
  | _ => false

/-- Pattern of the FAULT indicator (Table 21.11). -/
def ledFault (s : State) : Nat :=
  let m := s.mod.tup
  if m.role = .retired && faultCause s.mod.retireCause then 1
  else if fircOnly s || s.fwu.speedwell || m.fw = .fallback then 3
  else if m.role ≠ .retired && (!s.nva.retired.isEmpty || m.ile ≠ .lane3) then 2
  else 0

/-- MOD_LED (Table 2.17): its reset value while the module is held in reset. -/
def modLed (s : State) : Nat :=
  if s.con.inReset then 3
  else ledRun s + 4 * b2n s.mod.tup.forced + 16 * ledFault s + 64 * b2n (s.mod.tup.role = .retired)

/-- A memory has less than 10 % of its spare rows free. -/
def spareLow (s : State) (mem : Nat) : Bool := decide ((spareRows mem - sparesUsed s mem) * 10 < spareRows mem)

/-- FLT_STATUS. -/
def fltStatus (s : State) : Nat :=
  b2n (s.mod.tup.run = .safe) + 2 * b2n s.flt.hwSafe + 4 * b2n ((List.range 3).any (spareLow s))
    + 8 * b2n (!s.nva.retired.isEmpty)

/-- FLT_RETIRED. -/
def fltRetired (s : State) : Nat :=
  let bit (n : Nat) (u : UnitId) : Nat := 2 ^ n * b2n (isRetired s u)
  ((List.range 4).map fun c => bit c (.cell c)).sum + bit 4 (.lane .a) + bit 5 (.lane .b) + bit 6 (.lane .c)
    + bit 7 (.oxn .a) + bit 8 (.oxn .b) + ((List.range 3).map fun p => bit (9 + p) (.plv p)).sum
    + ((List.range 4).map fun x => bit (12 + x) (.al x)).sum + ((List.range 4).map fun x => bit (16 + x) (.can x)).sum
    + 2 ^ 20 * b2n (s.nva.retired.any fun r => match r.unit with
        | .ti _ => true
        | .tp _ => true
        | .tq _ => true
        | _ => false)
    + ((List.range 6).map fun e => bit (21 + e) (.engine (e + 1))).sum

/-- FWU_STATUS. -/
def fwuStatus (s : State) : Nat :=
  fwCode s.mod.tup.fw + 4 * s.fwu.runSlot + 8 * (ptrNow s).conf + 16 * b2n (altOf s).complete + 32 * b2n s.fwu.hashing
    + 64 * b2n s.fwu.speedwell + 128 * fbCode s.fwu.cause + 65536 * Min.min 0xFFFF s.nva.boots

/-- FWU_TRIAL: the seconds left in the trial window, and the conditions of R461. -/
def fwuTrial (s : State) : Nat :=
  (if s.mod.tup.fw = .trial then Min.min 1023 ((s.fwu.trialEnd - s.gt) / sec) else 0) + 1024 * b2n s.fwu.bstOk
    + 2048 * b2n (trialNetOk s) + 4096 * b2n (trialPairOk s) + 8192 * b2n (selfOk s)

end Sys2Proof.Machine
end

