-- ==== Sys2Proof/Machine/Registers.lean ====
section
/-! DEFINITION. The BAR0 register map (R498 to R502, Table 22.1): what every offset reads, and the host's writes. -/

namespace Sys2Proof.Machine

/-! ### HXP (Tables 13.14 to 13.19) -/

/-- One command ring's registers by offset within its 0x20 block. -/
def ringReg (r : RingS) : Nat → Nat
  | 0x00 => r.cmdLo.toNat
  | 0x04 => r.cmdHi.toNat
  | 0x08 => r.cplLo.toNat
  | 0x0C => r.cplHi.toNat
  | 0x10 => r.cfg.toNat
  | 0x14 => r.head
  | 0x18 => r.cplTail + 4096 * b2n r.phase
  | _ => 0

/-- HXP registers. -/
def hxpReg (s : State) (off : Nat) : Nat :=
  let h := s.hxp
  match off with
  | 0x000 => 0x01019640
  | 0x004 => 0x00001908
  | 0x008 => hxpStatus h
  | 0x00C => h.cfg.toNat
  | 0x010 => h.evq.lo.toNat
  | 0x014 => h.evq.hi.toNat
  | 0x018 => h.evq.cfg.toNat
  | 0x01C => h.evq.tail + 4096 * b2n h.evq.phase
  | 0x020 => hxpErrWord h
  | 0x024 => h.lostEvents + 65536 * h.grantsRefused
  | _ => if 0x100 ≤ off ∧ off < 0x200 then ringReg (ringOf s ((off - 0x100) / 0x20)) (off % 0x20) else 0

/-! ### MOD (Tables 2.9 to 2.17) -/

/-- MOD_ID (Table 2.10): the variant stands in bit 20 (R1). -/
def modId (s : State) : Nat := 0x00039640 + 0x00100000 * b2n s.mod.variantX

/-- What the endpoint function reports of itself (Table 13.1): device identifier, class code, and the Subsystem Device
ID, which is MOD_ID[31:16] and so tells the variant (R1). PCI-SIG's vendor identifier is not the manual's. -/
def endpointIds (s : State) : Nat × Nat × Nat := (0x9640, 0x088000, modId s / 2 ^ 16)

/-- MOD registers. -/
def modReg (s : State) : Nat → Nat
  | 0x00 => modId s
  | 0x04 => s.mod.serial % 2 ^ 32
  | 0x08 => s.mod.serial / 2 ^ 32 % 2 ^ 32
  | 0x0C => s.mod.slot + 16 * (s.mod.slot / 2) + 128 * b2n s.mod.stmElig
  | 0x10 => tupleWord s.mod.tup
  | 0x14 => tupleWord (if s.mod.valid then s.mod.reported else tupleReset)
  | 0x18 => modStatus s
  | 0x1C => modCfgWord s.chg.cur.modCfg
  | 0x20 => genCur s
  | 0x24 => genStaged s
  | 0x28 => genPrev s
  | 0x30 => s.mod.refReq + 256 * s.mod.refReason + 65536 * s.mod.refCount
  | 0x38 => modLed s
  | 0x3C => s.mod.transCount
  | _ => 0

/-! ### FLT (Tables 17.7 to 17.9) -/

/-- FLT registers; what MRAM keeps reads 0 while the module is held in reset (R501). -/
def fltReg (s : State) (off : Nat) : Nat :=
  let f := s.flt
  match off with
  | 0x08 => f.l0 + 65536 * f.l1
  | 0x0C => f.l2 + 65536 * f.l3
  | 0x10 => f.l4 + 65536 * f.lastEngine
  | 0x14 => f.lastSrc + 2 ^ 24 * f.lastLevel
  | 0x18 => f.lastGt % 2 ^ 32
  | 0x1C => f.lastGt / 2 ^ 32
  | 0x2C => s.cyc.par.retAtCell + 64 * s.cyc.par.retAtPlv + 4096 * s.cyc.par.retAtAlp + 2 ^ 18 * s.cyc.par.retAtCan
  | _ => if s.con.inReset then 0 else
    match off with
    | 0x00 => fltStatus s
    | 0x04 => Min.min 1023 ((s.gt - f.l5Served) / ms) + 65536 * f.l5
    | 0x20 => fltRetired s
    | 0x24 => sparesUsed s 0 + 256 * sparesUsed s 2
        + ((List.range 3).map fun m => 2 ^ (18 + m) * b2n (m ∈ s.nva.sparesOut)).sum
    | 0x28 => sparesUsed s 1 + 65536 * f.uncorr
    | _ => 0

/-! ### FWU (Tables 20.8, 20.9) -/

/-- FWU registers; they read 0 while the module is held in reset (R501). -/
def fwuReg (s : State) (off : Nat) : Nat :=
  if s.con.inReset then 0 else
  match off with
  | 0x00 => fwuStatus s
  | 0x04 => runHdr s (·.ver)
  | 0x08 => if (altOf s).complete then altHdr s (·.ver) else 0
  | 0x0C => fwId s % 2 ^ 32
  | 0x10 => fwId s / 2 ^ 32
  | 0x14 => s.nva.secFloor + 65536 * runHdr s (·.secVersion)
  | 0x18 => ownXfer s + 65536 * ownXferMin s
  | 0x1C => s.nva.cfgFormat + 65536 * s.nva.oldFormat
  | 0x20 => fwuTrial s
  | 0x24 => slotBytes (altOf s)
  | 0x28 => Min.min 0xFFFF s.fwu.bootMs
  | _ => 0

/-! ### The map -/

/-- A register of one block (Table 22.1: block number and offset within its 4 KiB). -/
def blockReg (s : State) (blk off : Nat) : Nat :=
  match blk with
  | 0 => hxpReg s off
  | 1 => modReg s off
  | 2 => clkReg s off
  | 3 => hlReg s off
  | 4 => gateReg s off
  | 5 => oxnReg s off
  | 6 => plvReg s off
  | 7 => latched s.ile.regs off
  | 8 => latched s.tio.regs off
  | 9 => latched s.alp.regs off
  | 10 => latched s.can.regs off
  | 11 => if s.con.inReset then 0 else evrReg s off
  | 12 => bstReg s off
  | 13 => fwuReg s off
  | 14 => fltReg s off
  | 15 => timReg s (drivingNode s = some (ownNode s)) off
  | _ => 0

/-- Offsets within each block at which Table 22.1 has a register. -/
def registerIn (blk o : Nat) : Bool :=
  match blk with
  | 0 => decide (o ≤ 0x24 ∨ (0x100 ≤ o ∧ o < 0x200 ∧ o % 0x20 ≤ 0x18) ∨ (0x400 ≤ o ∧ o ≤ 0x444))
  | 1 => decide (o ≤ 0x28 ∨ o = 0x30 ∨ o = 0x38 ∨ o = 0x3C)
  | 2 => decide (o ≤ 0x28)
  | 3 => decide (o ≤ 0x14 ∨ (0x20 ≤ o ∧ o ≤ 0x34))
  | 4 => decide (o ≤ 0x0C ∨ (0x100 ≤ o ∧ o < 0x300))
  | 5 => decide (o ≤ 0x30)
  | 6 => decide (o ≤ 0x28)
  | 7 => decide (o ≤ 0x18 ∨ (0x20 ≤ o ∧ o ≤ 0x28) ∨ o = 0x30)
  | 8 => decide (o ≤ 0x2C)
  | 9 => decide (o = 0 ∨ (0x10 ≤ o ∧ o ≤ 0x44))
  | 10 => decide (o = 0 ∨ (0x10 ≤ o ∧ o ≤ 0x40))
  | 11 => decide (o ≤ 0x18)
  | 12 => decide (o ≤ 0x1C)
  | 13 => decide (o ≤ 0x28)
  | 14 => decide (o ≤ 0x2C)
  | 15 => decide (o ≤ 0x2C)
  | _ => false

/-- A register stands at an offset of BAR0 (Table 22.1). -/
def registerAt (off : Nat) : Bool := off % 4 = 0 && registerIn (off / 4096) (off % 4096)

/-- What an aligned 32-bit read of BAR0 returns; an offset with no register reads 0 (R7). -/
def readReg (s : State) (off : Nat) : Word :=
  if registerAt off then BitVec.ofNat 32 (blockReg s (off / 4096) (off % 4096)) else 0

/-! ### Writes -/

/-- The window of HL_CFG, BST_CFG and TIME_CFG (Table 22.2). -/
def cfgWindow (s : State) : Bool := s.hxp.trained && s.mod.tup.run = .boot && !s.fwu.speedwell

/-- A write to a ring setup register by offset within its 0x20 block. -/
def ringWrite (off : Nat) (val : Word) (r : RingS) : RingS :=
  match off with
  | 0x00 => { r with cmdLo := val }
  | 0x04 => { r with cmdHi := val }
  | 0x08 => { r with cplLo := val }
  | 0x0C => { r with cplHi := val }
  | 0x10 => { r with cfg := val &&& 0x1FF }
  | _ => r

/-- A write to an RWA register of the unarmed HXP block; reserved bits stay 0 (R8). -/
def hxpWrite (off : Nat) (val : Word) (s : State) : State :=
  match off with
  | 0x00C => { s with hxp := { s.hxp with cfg := val &&& 0x3FFF1 } }
  | 0x010 => { s with hxp := { s.hxp with evq := { s.hxp.evq with lo := val } } }
  | 0x014 => { s with hxp := { s.hxp with evq := { s.hxp.evq with hi := val } } }
  | 0x018 => { s with hxp := { s.hxp with evq := { s.hxp.evq with cfg := val &&& 0x1FF } } }
  | _ => if 0x100 ≤ off ∧ off < 0x200 then updRing ((off - 0x100) / 0x20) (ringWrite (off % 0x20) val) s else s

/-- A doorbell of the HXP block (Table 13.19). -/
def hxpDoorbell (off : Nat) (val : Word) (s : State) : State :=
  if off = 0x440 then evqDb val s
  else if off = 0x444 then ctlDb val s
  else if 0x400 ≤ off ∧ off < 0x440 then
    if off % 8 = 0 then cmdqDb ((off - 0x400) / 8) val s
    else if off % 8 = 4 then cplqDb ((off - 0x400) / 8) val s
    else s
  else s

/-- A 32-bit host write to BAR0 (R7, R9, Table 22.2). -/
def writeReg (off : Nat) (val : Word) (s : State) : State :=
  if off < 0x400 then (if s.hxp.armed then s else hxpWrite off val s)
  else match off with
    | 0x2024 => clkMonEff val s
    | 0x3004 => if cfgWindow s && !s.hl.armed then { s with hl := { s.hl with cfg := val &&& 0x1FFF } } else s
    | 0x400C => gateClrEff val s
    | 0xC004 => if cfgWindow s && !s.bst.armed then { s with bst := { s.bst with cfg := val &&& 0xFF } } else s
    | 0xF004 => if cfgWindow s && !s.tim.armed then { s with tim := { s.tim with cfg := val &&& 0xFF01 } } else s
    | _ => if off < 0x1000 then hxpDoorbell off val s else s

/-- REG_WRITE (R9). Offsets from 0x10000 on are those of BAR2, whose MSI-X table ends at 0x100, and from 0x20000 on the
configuration registers (log entry 154). -/
def execRegWrite (t off : Nat) (val : Word) (s : State) : Host.Outcome State Fault Refusal :=
  .next (if off < 0x10000 then writeReg off val (atT t s)
    else if off % 4 = 0 ∧ off < 0x10100 then msixWrite ((off - 0x10000) / 4) val (atT t s)
    else if off % 4 = 0 ∧ 0x20000 ≤ off ∧ off < 0x20020 then pcieWrite ((off - 0x20000) / 4) val (atT t s)
    else atT t s)

/-- UNSUPPORTED_ACCESS (R6): not a naturally aligned 32-bit access. -/
def execUnsupportedAccess (t off size : Nat) (_write : Bool) (s0 : State) : Host.Outcome State Fault Refusal :=
  let s := atT t s0
  .next (if size = 4 ∧ off % 4 = 0 then s else emit .barUr s)

end Sys2Proof.Machine
end

