-- ==== Sys2Proof/Machine/Service.lean ====
section
/-! DEFINITION. The J4 service line (R470, R487, Table 20.5): its frames, and what Speedwell does with them (R469). -/

namespace Sys2Proof.Machine

/-- DATA of a frame. -/
def svcData (f : List Byte) : List Byte := (f.drop 10).take (field f 4 2)

/-- A frame is valid: SYNC, LEN and CRC. -/
def svcOk (f : List Byte) : Bool :=
  let n := field f 4 2
  decide (14 ≤ f.length ∧ n ≤ 4096) && f.length = 14 + n && field f 0 2 = 0xA55A
    && field f (10 + n) 4 = crc32c ((f.drop 2).take (8 + n))

/-- A frame of a type with a SEQ and DATA. -/
def svcFrame (ty seq : Nat) (data : List Byte) : List Byte :=
  let body := le 1 ty ++ le 1 seq ++ le 2 data.length ++ le 4 0 ++ data
  le 2 0xA55A ++ body ++ le 4 (crc32c body)

/-- The module answers, echoing SEQ. -/
def svcReply (f : List Byte) (ty : Nat) (data : List Byte) (s : State) : State :=
  emit (.service (svcFrame ty (field f 3 1) data)) s

/-- ACK with a completion status. -/
def svcAck (f : List Byte) (st : Status) (s : State) : State := svcReply f 0x80 (le 2 (statusCode st)) s

/-- A valid frame of its row's type, outside reset. -/
def svcTake (ty : Nat) (f : List Byte) (g : State → State) (s : State) : State :=
  if svcOk f && field f 2 1 = ty && !s.con.inReset then g s else s

/-- A frame that only Speedwell serves (R487). -/
def svcSpeedwell (f : List Byte) (g : State → State) (s : State) : State :=
  if s.fwu.speedwell then g s else svcAck f .notReady s

/-- HELLO: the reply, and TOTAL under Speedwell. -/
def svcHello (f : List Byte) (s : State) : State :=
  svcReply f 0x81 (le 8 s.mod.serial ++ fwRecord s)
    (if s.fwu.speedwell then { s with fwu := { s.fwu with speedTotal := field f 6 4 } } else s)

/-- GRANT: its grant serves the following frames. -/
def svcGrant (f : List Byte) (g : Grant) (s : State) : State :=
  if field f 4 2 ≠ 196 then svcAck f .badArgs s
  else svcAck f .ok { s with fwu := { s.fwu with speedGrant := some g, speedUsed := false } }

/-- The service line's grant fails a check (R350). -/
def svcRefuse (f : List Byte) (st : Status) (slot : Nat) (s : State) : State :=
  svcAck f st (occur2 Code.hxpGrantRefused Src.fw (statusCode st) slot
    { s with hxp := { s.hxp with grantsRefused := satInc 0xFFFF s.hxp.grantsRefused } })

/-- The checks of a frame's grant: Table 13.8 without check 7 (R469). A grant accepted for an earlier frame is not
judged a replay. -/
def svcCheck (op : Nat) (tgt : List Byte → Bool) (g : Grant) (s : State) : Option Status :=
  let s1 := if s.fwu.speedUsed then
      { s with nva := { s.nva with nonces := s.nva.nonces.filter fun p => p.1 ≠ g.nonce } }
    else s
  grantCheck s1 false false (some roleFirmware) (g.action = op) tgt g

/-- A frame that needs a grant (R469). -/
def svcGranted (f : List Byte) (op : Nat) (tgt : List Byte → Bool) (k : State → State) (s : State) : State :=
  if noFirmwareKey s then k s else
  match s.fwu.speedGrant with
  | none => svcRefuse f .grantMissing 0 s
  | some g => match svcCheck op tgt g s with
    | some st => svcRefuse f st g.keySlot s
    | none =>
      let s1 := if s.fwu.speedUsed then s else nonceKeep g s
      k { s1 with fwu := { s1.fwu with speedUsed := true } }

/-- A chunk is stored in slot A. -/
def svcStore (f : List Byte) (hdr : Option ImageHdr) (s : State) : State :=
  svcAck f .ok (chunkStore (field f 6 4) s.fwu.speedTotal (field f 4 2) hdr s)

/-- CHUNK: FW_CHUNK with OFFSET in ARG and the TOTAL of HELLO. -/
def svcChunk (f : List Byte) (hdr : Option ImageHdr) (s : State) : State :=
  let n := field f 4 2
  if n = 0 ∨ n % 4 ≠ 0 then svcAck f .badBuffer s
  else if !chunkArgsOk (field f 6 4) s.fwu.speedTotal n then svcAck f .badArgs s
  else svcGranted f 0x30 (tgtEq (le 4 s.fwu.speedTotal)) (svcStore f hdr) s

/-- ACTIVATE: FW_ACTIVATE under Speedwell, by path 2. -/
def svcActivate (f : List Byte) (s : State) : State :=
  if !s.nva.slotA.complete then svcAck f .fwNoImage s
  else svcGranted f 0x31 (tgtEq (le 16 s.nva.slotA.digest)) (fun s => match speedwellStatus s with
    | some st => svcAck f st s
    | none => speedwellInstall 2 (svcAck f .ok s)) s

/-- Registers of the STATUS reply, in order. -/
def svcRegs : List Nat := [0x1010, 0x1018, 0x2000, 0x2004, 0x200C, 0xE000, 0xD000, 0xE014]

/-- STATUS. -/
def svcStatus (f : List Byte) (s : State) : State :=
  svcReply f 0x82 ((svcRegs.map fun o => le 4 (readReg s o).toNat).flatten) s

/-- SERVICE_HELLO. -/
def execServiceHello (t : Nat) (frame : List Byte) (s : State) : Host.Outcome State Fault Refusal :=
  .next (svcTake 0x01 frame (svcHello frame) (atT t s))

/-- SERVICE_GRANT. -/
def execServiceGrant (t : Nat) (frame : List Byte) (g : Grant) (s : State) : Host.Outcome State Fault Refusal :=
  .next (svcTake 0x02 frame (svcSpeedwell frame (svcGrant frame g)) (atT t s))

/-- SERVICE_CHUNK. -/
def execServiceChunk (t : Nat) (frame : List Byte) (hdr : Option ImageHdr) (s : State) :
    Host.Outcome State Fault Refusal :=
  .next (svcTake 0x03 frame (svcSpeedwell frame (svcChunk frame hdr)) (atT t s))

/-- SERVICE_ACTIVATE. -/
def execServiceActivate (t : Nat) (frame : List Byte) (s : State) : Host.Outcome State Fault Refusal :=
  .next (svcTake 0x04 frame (svcSpeedwell frame (svcActivate frame)) (atT t s))

/-- SERVICE_STATUS. -/
def execServiceStatus (t : Nat) (frame : List Byte) (s : State) : Host.Outcome State Fault Refusal :=
  .next (svcTake 0x05 frame (svcStatus frame) (atT t s))

end Sys2Proof.Machine
end

