-- ==== Sys2Proof/Machine/Dispatch.lean ====
section
/-! DEFINITION. What each command does: one arm per constructor. -/

namespace Sys2Proof.Machine

def exec (i : Instr) (s : State) : Host.Outcome State Fault Refusal :=
  match i with
  | .unsupportedAccess t off size write => Sys2Proof.Machine.execUnsupportedAccess t off size write s
  | .regWrite t off val => Sys2Proof.Machine.execRegWrite t off val s
  | .timeGtLoRead t => Sys2Proof.Machine.execTimeGtLoRead t s
  | .hxpCmdqDb t n val => Sys2Proof.Machine.execHxpCmdqDb t n val s
  | .hxpCplqDb t n val => Sys2Proof.Machine.execHxpCplqDb t n val s
  | .hxpEvqDb t val => Sys2Proof.Machine.execHxpEvqDb t val s
  | .arm t val => Sys2Proof.Machine.execArm t val s
  | .disarm t val => Sys2Proof.Machine.execDisarm t val s
  | .disarmComplete t => Sys2Proof.Machine.execDisarmComplete t s
  | .ringReset t val => Sys2Proof.Machine.execRingReset t val s
  | .evqReset t val => Sys2Proof.Machine.execEvqReset t val s
  | .gateClrDb t val => Sys2Proof.Machine.execGateClrDb t val s
  | .clkMonDb t val => Sys2Proof.Machine.execClkMonDb t val s
  | .descriptorFetch t ring desc buf grant held => Sys2Proof.Machine.execDescriptorFetch t ring desc buf grant held s
  | .nop t c => Sys2Proof.Machine.execNop t c s
  | .pointRead t c image first count => Sys2Proof.Machine.execPointRead t c image first count s
  | .pointWrite t c count recs => Sys2Proof.Machine.execPointWrite t c count recs s
  | .forceSet t c addr ty value => Sys2Proof.Machine.execForceSet t c addr ty value s
  | .forceClear t c addr => Sys2Proof.Machine.execForceClear t c addr s
  | .forceList t c => Sys2Proof.Machine.execForceList t c s
  | .start t c => Sys2Proof.Machine.execStart t c s
  | .hold t c => Sys2Proof.Machine.execHold t c s
  | .stop t c => Sys2Proof.Machine.execStop t c s
  | .handover t c => Sys2Proof.Machine.execHandover t c s
  | .retire t c => Sys2Proof.Machine.execRetire t c s
  | .readmit t c arg source testOk => Sys2Proof.Machine.execReadmit t c arg source testOk s
  | .bstMode t c arg => Sys2Proof.Machine.execBstMode t c arg s
  | .fwAck t c => Sys2Proof.Machine.execFwAck t c s
  | .stage t c box => Sys2Proof.Machine.execStage t c box s
  | .switch t c cycle => Sys2Proof.Machine.execSwitch t c cycle s
  | .confirm t c gen => Sys2Proof.Machine.execConfirm t c gen s
  | .revert t c gen => Sys2Proof.Machine.execRevert t c gen s
  | .discard t c gen => Sys2Proof.Machine.execDiscard t c gen s
  | .genSelect t c gen => Sys2Proof.Machine.execGenSelect t c gen s
  | .ccvConfirm t c ccv gen => Sys2Proof.Machine.execCcvConfirm t c ccv gen s
  | .fwChunk t c offset total data hdr => Sys2Proof.Machine.execFwChunk t c offset total data hdr s
  | .fwActivate t c => Sys2Proof.Machine.execFwActivate t c s
  | .fwStatus t c => Sys2Proof.Machine.execFwStatus t c s
  | .recRead t c codeFirst codeLast store fromGt toGt bad => Sys2Proof.Machine.execRecRead t c codeFirst codeLast store fromGt toGt bad s
  | .recClear t c codeFirst codeLast store fromGt toGt => Sys2Proof.Machine.execRecClear t c codeFirst codeLast store fromGt toGt s
  | .snapArm t c id a3 => Sys2Proof.Machine.execSnapArm t c id a3 s
  | .snapRead t c first count => Sys2Proof.Machine.execSnapRead t c first count s
  | .block t c body => Sys2Proof.Machine.execBlock t c body s
  | .unblock t c body => Sys2Proof.Machine.execUnblock t c body s
  | .emergRelease t c body => Sys2Proof.Machine.execEmergRelease t c body s
  | .ileRead t c kind first count => Sys2Proof.Machine.execIleRead t c kind first count s
  | .timeSet t c gt => Sys2Proof.Machine.execTimeSet t c gt s
  | .cycleStatus t c options => Sys2Proof.Machine.execCycleStatus t c options s
  | .changeStatus t c => Sys2Proof.Machine.execChangeStatus t c s
  | .hartPass t c ch cmd len data => Sys2Proof.Machine.execHartPass t c ch cmd len data s
  | .debugUnlock t c mask => Sys2Proof.Machine.execDebugUnlock t c mask s
  | .keyProvision t c a2 => Sys2Proof.Machine.execKeyProvision t c a2 s
  | .grantHold t c slot g => Sys2Proof.Machine.execGrantHold t c slot g s
  | .grantDrop t c slot => Sys2Proof.Machine.execGrantDrop t c slot s
  | .identity t c => Sys2Proof.Machine.execIdentity t c s
  | .lRead t c window first count => Sys2Proof.Machine.execLRead t c window first count s
  | .lStatus t c => Sys2Proof.Machine.execLStatus t c s
  | .legacyWrite t c opcode => Sys2Proof.Machine.execLegacyWrite t c opcode s
  | .badOpcode t c opcode => Sys2Proof.Machine.execBadOpcode t c opcode s
  | .completionPost t ring => Sys2Proof.Machine.execCompletionPost t ring s
  | .eventPost t => Sys2Proof.Machine.execEventPost t s
  | .coalesceExpiry t vec => Sys2Proof.Machine.execCoalesceExpiry t vec s
  | .dmaTimeout t x => Sys2Proof.Machine.execDmaTimeout t x s
  | .dmaError t x => Sys2Proof.Machine.execDmaError t x s
  | .pcieReset t linkLoss => Sys2Proof.Machine.execPcieReset t linkLoss s
  | .pciePerstChange t high => Sys2Proof.Machine.execPciePerstChange t high s
  | .linkTrained t => Sys2Proof.Machine.execLinkTrained t s
  | .tCommit t => Sys2Proof.Machine.execTCommit t s
  | .minCycleElapsed t => Sys2Proof.Machine.execMinCycleElapsed t s
  | .agreeTimeout t => Sys2Proof.Machine.execAgreeTimeout t s
  | .executeDone t r => Sys2Proof.Machine.execExecuteDone t r s
  | .lockstepMismatch t m => Sys2Proof.Machine.execLockstepMismatch t m s
  | .scanWdt t => Sys2Proof.Machine.execScanWdt t s
  | .signatureWaitBound t => Sys2Proof.Machine.execSignatureWaitBound t s
  | .programCycleBoundary t => Sys2Proof.Machine.execProgramCycleBoundary t s
  | .migrationDone t => Sys2Proof.Machine.execMigrationDone t s
  | .stagingChecksDone t partner => Sys2Proof.Machine.execStagingChecksDone t partner s
  | .trialWindowEnd t => Sys2Proof.Machine.execTrialWindowEnd t s
  | .oxugerCycleStart t n devs => Sys2Proof.Machine.execOxugerCycleStart t n devs s
  | .oxnActionPoint t chan slot => Sys2Proof.Machine.execOxnActionPoint t chan slot s
  | .dataFrame t f => Sys2Proof.Machine.execDataFrame t f s
  | .safetyFrame t f => Sys2Proof.Machine.execSafetyFrame t f s
  | .syncFrame t f => Sys2Proof.Machine.execSyncFrame t f s
  | .coldstartFrame t f => Sys2Proof.Machine.execColdstartFrame t f s
  | .viewFrame t f => Sys2Proof.Machine.execViewFrame t f s
  | .oxnIdlePhase t lostA lostB => Sys2Proof.Machine.execOxnIdlePhase t lostA lostB s
  | .oxnSafetyTimeout t conn => Sys2Proof.Machine.execOxnSafetyTimeout t conn s
  | .listenTimeout t => Sys2Proof.Machine.execListenTimeout t s
  | .coldstartAlone t => Sys2Proof.Machine.execColdstartAlone t s
  | .integrationFail t => Sys2Proof.Machine.execIntegrationFail t s
  | .oxnSyncLost t => Sys2Proof.Machine.execOxnSyncLost t s
  | .oxnReadmitFail t chan => Sys2Proof.Machine.execOxnReadmitFail t chan s
  | .lanePresent t lane fault => Sys2Proof.Machine.execLanePresent t lane fault s
  | .presentationDeadline t => Sys2Proof.Machine.execPresentationDeadline t s
  | .voterUpdate t sweep => Sys2Proof.Machine.execVoterUpdate t sweep s
  | .reseedTablePhaseDone t lane ok => Sys2Proof.Machine.execReseedTablePhaseDone t lane ok s
  | .pathSetTimeout t path => Sys2Proof.Machine.execPathSetTimeout t path s
  | .releaseDelayElapsed t path => Sys2Proof.Machine.execReleaseDelayElapsed t path s
  | .ileDetectFault t elem => Sys2Proof.Machine.execIleDetectFault t elem s
  | .coldHoldEnd t => Sys2Proof.Machine.execColdHoldEnd t s
  | .ileBndTimeout t pair => Sys2Proof.Machine.execIleBndTimeout t pair s
  | .p0LinkUp t => Sys2Proof.Machine.execP0LinkUp t s
  | .auth t h m => Sys2Proof.Machine.execAuth t h m s
  | .heartbeatSend t => Sys2Proof.Machine.execHeartbeatSend t s
  | .heartbeat t h data => Sys2Proof.Machine.execHeartbeat t h data s
  | .partnerSilent t => Sys2Proof.Machine.execPartnerSilent t s
  | .agree t h m => Sys2Proof.Machine.execAgree t h m s
  | .sliceReq t h slices => Sys2Proof.Machine.execSliceReq t h slices s
  | .sliceData t h slice entries => Sys2Proof.Machine.execSliceData t h slice entries s
  | .agreeDone t h cycle => Sys2Proof.Machine.execAgreeDone t h cycle s
  | .signature t h cycle sig => Sys2Proof.Machine.execSignature t h cycle sig s
  | .forceTable t h version boundary forces => Sys2Proof.Machine.execForceTable t h version boundary forces s
  | .ileSnap t h cycle m => Sys2Proof.Machine.execIleSnap t h cycle m s
  | .ileDigest t h cycle digest => Sys2Proof.Machine.execIleDigest t h cycle digest s
  | .ileState t h gen cycle m => Sys2Proof.Machine.execIleState t h gen cycle m s
  | .release t h cycle => Sys2Proof.Machine.execRelease t h cycle s
  | .leaving t h => Sys2Proof.Machine.execLeaving t h s
  | .arbStart t h cause td => Sys2Proof.Machine.execArbStart t h cause td s
  | .tierAgree t h tier boundary => Sys2Proof.Machine.execTierAgree t h tier boundary s
  | .relayedCommand t h r boundary => Sys2Proof.Machine.execRelayedCommand t h r boundary s
  | .resync t h d => Sys2Proof.Machine.execResync t h d s
  | .image t h offset total data hdr => Sys2Proof.Machine.execImage t h offset total data hdr s
  | .resyncStepDone t ok => Sys2Proof.Machine.execResyncStepDone t ok s
  | .resyncStepTimeout t => Sys2Proof.Machine.execResyncStepTimeout t s
  | .resyncAttemptTimeout t => Sys2Proof.Machine.execResyncAttemptTimeout t s
  | .pairNoQuorum t => Sys2Proof.Machine.execPairNoQuorum t s
  | .pairWaitExpiry t => Sys2Proof.Machine.execPairWaitExpiry t s
  | .handoverRelease t => Sys2Proof.Machine.execHandoverRelease t s
  | .plvLaneFail t port lane => Sys2Proof.Machine.execPlvLaneFail t port lane s
  | .plvDiscardLimit t port => Sys2Proof.Machine.execPlvDiscardLimit t port s
  | .beaconSend t => Sys2Proof.Machine.execBeaconSend t s
  | .beacon t h data => Sys2Proof.Machine.execBeacon t h data s
  | .stmEvaluation t => Sys2Proof.Machine.execStmEvaluation t s
  | .timeMessageSend t => Sys2Proof.Machine.execTimeMessageSend t s
  | .time t h data => Sys2Proof.Machine.execTime t h data s
  | .delay t h data => Sys2Proof.Machine.execDelay t h data s
  | .stationHold t => Sys2Proof.Machine.execStationHold t s
  | .ringLost t pair => Sys2Proof.Machine.execRingLost t pair s
  | .signals t h data => Sys2Proof.Machine.execSignals t h data s
  | .signalsForget t pair => Sys2Proof.Machine.execSignalsForget t pair s
  | .boundary t h data => Sys2Proof.Machine.execBoundary t h data s
  | .ejectorOpen t => Sys2Proof.Machine.execEjectorOpen t s
  | .presSenseOpen t => Sys2Proof.Machine.execPresSenseOpen t s
  | .presSenseClose t => Sys2Proof.Machine.execPresSenseClose t s
  | .pairPresOpen t => Sys2Proof.Machine.execPairPresOpen t s
  | .pairPresClose t => Sys2Proof.Machine.execPairPresClose t s
  | .tioSampleWindow t m => Sys2Proof.Machine.execTioSampleWindow t m s
  | .tioRefresh t ok => Sys2Proof.Machine.execTioRefresh t ok s
  | .tioLinkSilent t => Sys2Proof.Machine.execTioLinkSilent t s
  | .pairDisc t pair => Sys2Proof.Machine.execPairDisc t pair s
  | .sinkCheck t ti ok => Sys2Proof.Machine.execSinkCheck t ti ok s
  | .tioReadback t q => Sys2Proof.Machine.execTioReadback t q s
  | .overcurrent t q short => Sys2Proof.Machine.execOvercurrent t q short s
  | .groupOverload t group => Sys2Proof.Machine.execGroupOverload t group s
  | .darkTestStart t q => Sys2Proof.Machine.execDarkTestStart t q s
  | .darkTestEnd t q m => Sys2Proof.Machine.execDarkTestEnd t q m s
  | .shortToSupply t q => Sys2Proof.Machine.execShortToSupply t q s
  | .tioSupplyMeasure t group mV => Sys2Proof.Machine.execTioSupplyMeasure t group mV s
  | .tioSupplyDown t group => Sys2Proof.Machine.execTioSupplyDown t group s
  | .tioSupplyUp t group => Sys2Proof.Machine.execTioSupplyUp t group s
  | .tioOverlapEnd t => Sys2Proof.Machine.execTioOverlapEnd t s
  | .alpConversion t ch na raw mv noHeadroom => Sys2Proof.Machine.execAlpConversion t ch na raw mv noHeadroom s
  | .alpRefresh t ch ok => Sys2Proof.Machine.execAlpRefresh t ch ok s
  | .alpLogicSilent t ch => Sys2Proof.Machine.execAlpLogicSilent t ch s
  | .alpReadback t ch => Sys2Proof.Machine.execAlpReadback t ch s
  | .overrange t ch => Sys2Proof.Machine.execOverrange t ch s
  | .feSilent t ch => Sys2Proof.Machine.execFeSilent t ch s
  | .feCheck t ch ok => Sys2Proof.Machine.execFeCheck t ch ok s
  | .alCompliance t ch => Sys2Proof.Machine.execAlCompliance t ch s
  | .alpClockStepUp t ch => Sys2Proof.Machine.execAlpClockStepUp t ch s
  | .alpRampEnd t => Sys2Proof.Machine.execAlpRampEnd t s
  | .hartResponse t ch r => Sys2Proof.Machine.execHartResponse t ch r s
  | .hartTimeout t ch => Sys2Proof.Machine.execHartTimeout t ch s
  | .hartRequest t ch cmd req => Sys2Proof.Machine.execHartRequest t ch cmd req s
  | .canFrameReceived t port f => Sys2Proof.Machine.execCanFrameReceived t port f s
  | .canArbitrationStart t port => Sys2Proof.Machine.execCanArbitrationStart t port s
  | .canArbitrationLost t port => Sys2Proof.Machine.execCanArbitrationLost t port s
  | .canTxComplete t port tec a3 => Sys2Proof.Machine.execCanTxComplete t port tec a3 s
  | .canBusOff t port e => Sys2Proof.Machine.execCanBusOff t port e s
  | .canBusOffRecovered t port => Sys2Proof.Machine.execCanBusOffRecovered t port s
  | .canErrorPassive t e => Sys2Proof.Machine.execCanErrorPassive t e s
  | .stuckDominant t port => Sys2Proof.Machine.execStuckDominant t port s
  | .txdTimeout t port => Sys2Proof.Machine.execTxdTimeout t port s
  | .loopbackRetry t port ok => Sys2Proof.Machine.execLoopbackRetry t port ok s
  | .canWake t port frame => Sys2Proof.Machine.execCanWake t port frame s
  | .sourceSettled t xb => Sys2Proof.Machine.execSourceSettled t xb s
  | .freqWindowEnd t xaPpm xbPpm xbXa => Sys2Proof.Machine.execFreqWindowEnd t xaPpm xbPpm xbXa s
  | .sourceEdgeLoss t xb => Sys2Proof.Machine.execSourceEdgeLoss t xb s
  | .pllLocked t n => Sys2Proof.Machine.execPllLocked t n s
  | .pllLockLoss t n => Sys2Proof.Machine.execPllLockLoss t n s
  | .clkSwitchDone t dom => Sys2Proof.Machine.execClkSwitchDone t dom s
  | .clkForced t dom => Sys2Proof.Machine.execClkForced t dom s
  | .quiesceAck t blk => Sys2Proof.Machine.execQuiesceAck t blk s
  | .clkQuiesceTimeout t blk => Sys2Proof.Machine.execClkQuiesceTimeout t blk s
  | .gateResetRelease t blk => Sys2Proof.Machine.execGateResetRelease t blk s
  | .feedLow t vb mv => Sys2Proof.Machine.execFeedLow t vb mv s
  | .feedRecovered t vb mv => Sys2Proof.Machine.execFeedRecovered t vb mv s
  | .pfw t => Sys2Proof.Machine.execPfw t s
  | .hlFeedDip t => Sys2Proof.Machine.execHlFeedDip t s
  | .pfwStop t => Sys2Proof.Machine.execPfwStop t s
  | .mgtAllow t frame => Sys2Proof.Machine.execMgtAllow t frame s
  | .allowStale t => Sys2Proof.Machine.execAllowStale t s
  | .powerSample t mw => Sys2Proof.Machine.execPowerSample t mw s
  | .dieTempRead t temps => Sys2Proof.Machine.execDieTempRead t temps s
  | .inletRead t temp => Sys2Proof.Machine.execInletRead t temp s
  | .tierRule2 t => Sys2Proof.Machine.execTierRule2 t s
  | .tierRule3 t => Sys2Proof.Machine.execTierRule3 t s
  | .tierRule5 t => Sys2Proof.Machine.execTierRule5 t s
  | .hot t => Sys2Proof.Machine.execHot t s
  | .hlOvertemp t => Sys2Proof.Machine.execHlOvertemp t s
  | .backgroundAdmit t kind => Sys2Proof.Machine.execBackgroundAdmit t kind s
  | .backgroundUnitDone t kind bad => Sys2Proof.Machine.execBackgroundUnitDone t kind bad s
  | .hlDefer t kind => Sys2Proof.Machine.execHlDefer t kind s
  | .hlRail t rails => Sys2Proof.Machine.execHlRail t rails s
  | .fltL0 t target master => Sys2Proof.Machine.execFltL0 t target master s
  | .engineWatchdogExpiry t engine digestOk => Sys2Proof.Machine.execEngineWatchdogExpiry t engine digestOk s
  | .l5Service t => Sys2Proof.Machine.execL5Service t s
  | .fltL5 t => Sys2Proof.Machine.execFltL5 t s
  | .drainTick t => Sys2Proof.Machine.execDrainTick t s
  | .persistenceExpiry t unit code => Sys2Proof.Machine.execPersistenceExpiry t unit code s
  | .eccCorrected t mem row => Sys2Proof.Machine.execEccCorrected t mem row s
  | .eccUncorrectable t mem x => Sys2Proof.Machine.execEccUncorrectable t mem x s
  | .nandProgramFail t blk => Sys2Proof.Machine.execNandProgramFail t blk s
  | .bstSliceDone t r => Sys2Proof.Machine.execBstSliceDone t r s
  | .bstTimeout t => Sys2Proof.Machine.execBstTimeout t s
  | .bstRoundLate t => Sys2Proof.Machine.execBstRoundLate t s
  | .sorrelRateWrite t code => Sys2Proof.Machine.execSorrelRateWrite t code s
  | .sorrelSeal t epoch => Sys2Proof.Machine.execSorrelSeal t epoch s
  | .powerOnResetRelease t p => Sys2Proof.Machine.execPowerOnResetRelease t p s
  | .bootStepDone t b => Sys2Proof.Machine.execBootStepDone t b s
  | .bootOverrun t => Sys2Proof.Machine.execBootOverrun t s
  | .imageHashDone t digest => Sys2Proof.Machine.execImageHashDone t digest s
  | .fwActivateReset t => Sys2Proof.Machine.execFwActivateReset t s
  | .fwTrialWindowEnd t => Sys2Proof.Machine.execFwTrialWindowEnd t s
  | .serviceHello t frame => Sys2Proof.Machine.execServiceHello t frame s
  | .serviceGrant t frame g => Sys2Proof.Machine.execServiceGrant t frame g s
  | .serviceChunk t frame hdr => Sys2Proof.Machine.execServiceChunk t frame hdr s
  | .serviceActivate t frame => Sys2Proof.Machine.execServiceActivate t frame s
  | .serviceStatus t frame => Sys2Proof.Machine.execServiceStatus t frame s
  | .mgtIdentity t frame => Sys2Proof.Machine.execMgtIdentity t frame s
  | .identityTimeout t => Sys2Proof.Machine.execIdentityTimeout t s
  | .mgtTod t frame => Sys2Proof.Machine.execMgtTod t frame s
  | .ppsEdge t => Sys2Proof.Machine.execPpsEdge t s
  | .todPpsTimeout t => Sys2Proof.Machine.execTodPpsTimeout t s
  | .cloverLatch t => Sys2Proof.Machine.execCloverLatch t s
  | .cloverDeadline t => Sys2Proof.Machine.execCloverDeadline t s
  | .debugUnlockExpiry t => Sys2Proof.Machine.execDebugUnlockExpiry t s
  | .debugAccess t a => Sys2Proof.Machine.execDebugAccess t a s
  | .gateProgramFault t a => Sys2Proof.Machine.execGateProgramFault t a s
  | .plvReadmitSecond t port => Sys2Proof.Machine.execPlvReadmitSecond t port s
  | .canRecessiveBits t port => Sys2Proof.Machine.execCanRecessiveBits t port s
  | .holdUpCharged t => Sys2Proof.Machine.execHoldUpCharged t s
  | .plvPortTrained t port lanes => Sys2Proof.Machine.execPlvPortTrained t port lanes s

end Sys2Proof.Machine
end

