-- ==== Sys2Proof/Safety.lean ====
section
/-! DEFINITION. What counts as a sound state and a safe run, and what a command may change, in the terms the
statements use. -/

namespace Sys2Proof.Machine

/-- A step that goes on. -/
def goesOn (o : Host.Outcome State Fault Refusal) : Bool :=
  match o with
  | .next _ => true
  | .fault _ => false
  | .refused _ => false

/-- What every step keeps: the memory list is canonical, the security floor is a count of 64 fuses (R453), and at
most 4,096 nonces are held (R345). -/
def State.sound (s : State) : Bool :=
  Memory.wf s.mem && decide (s.nva.secFloor ≤ 64) && decide (s.nva.nonces.length ≤ 4096)

/-! ### Parts of the state -/

/-- The parts of State between which the frame statements distinguish: time, the parts of what MRAM and NAND keep,
of the mode block and of the host exchange, each other block, and what has left the module. -/
inductive Part where
  | time | records | keys | nonces | faultStore | images | boots | modRetired
  | tuple | refusal | modRest | rings | events | vectors | slots | hxpRest
  | recorder | faults | selfTest | firmware | gates | clocks | heat | contacts | cycle | change | stores | times
  | network | ile | pair | tripIo | can | analog | memory | out | free | queue
deriving DecidableEq, Repr

/-- A part is equal in two states. -/
def Part.same (p : Part) (a b : State) : Prop :=
  match p with
  | .time => b.gt = a.gt ∧ b.gtFrac = a.gtFrac ∧ b.clvPre = a.clvPre
  | .records => b.nva.recCur = a.nva.recCur ∧ b.nva.recHour = a.nva.recHour ∧ b.nva.recDay = a.nva.recDay ∧
      b.nva.recMon = a.nva.recMon ∧ b.nva.recSeq = a.nva.recSeq ∧ b.nva.marks = a.nva.marks ∧
      b.nva.rollWait = a.nva.rollWait
  | .keys => b.nva.keys = a.nva.keys
  | .nonces => b.nva.nonces = a.nva.nonces
  | .faultStore => b.nva.buckets = a.nva.buckets ∧ b.nva.retired = a.nva.retired ∧ b.nva.remaps = a.nva.remaps ∧
      b.nva.sparesOut = a.nva.sparesOut ∧ b.nva.nandOut = a.nva.nandOut
  | .images => b.nva.ptrA = a.nva.ptrA ∧ b.nva.ptrB = a.nva.ptrB ∧ b.nva.slotA = a.nva.slotA ∧
      b.nva.slotB = a.nva.slotB ∧ b.nva.secFloor = a.nva.secFloor ∧ b.nva.cfgFormat = a.nva.cfgFormat ∧
      b.nva.oldFormat = a.nva.oldFormat ∧ b.nva.recovered = a.nva.recovered
  | .boots => b.nva.boots = a.nva.boots ∧ b.nva.xaSettle = a.nva.xaSettle
  | .modRetired => b.nva.modRetired = a.nva.modRetired
  | .tuple => b.mod.tup = a.mod.tup ∧ b.mod.transCount = a.mod.transCount
  | .refusal => b.mod.refReq = a.mod.refReq ∧ b.mod.refReason = a.mod.refReason ∧ b.mod.refCount = a.mod.refCount
  | .modRest => b.mod.variantX = a.mod.variantX ∧ b.mod.serial = a.mod.serial ∧ b.mod.slot = a.mod.slot ∧
      b.mod.stmElig = a.mod.stmElig ∧ b.mod.partner = a.mod.partner ∧ b.mod.present = a.mod.present ∧
      b.mod.valid = a.mod.valid ∧ b.mod.arb = a.mod.arb ∧ b.mod.scanRisk = a.mod.scanRisk ∧
      b.mod.adopted = a.mod.adopted ∧ b.mod.ejector = a.mod.ejector ∧ b.mod.retireCause = a.mod.retireCause ∧
      b.mod.reported = a.mod.reported
  | .rings => b.hxp.rings = a.hxp.rings
  | .events => b.hxp.events = a.hxp.events ∧ b.hxp.evq = a.hxp.evq ∧ b.hxp.lostEvents = a.hxp.lostEvents ∧
      b.hxp.lostPending = a.hxp.lostPending
  | .vectors => b.hxp.vecs = a.hxp.vecs ∧ b.hxp.msixTab = a.hxp.msixTab ∧ b.hxp.pba = a.hxp.pba
  | .slots => b.hxp.slots = a.hxp.slots
  | .hxpRest => b.hxp.armed = a.hxp.armed ∧ b.hxp.disarming = a.hxp.disarming ∧ b.hxp.cfg = a.hxp.cfg ∧
      b.hxp.errRing = a.hxp.errRing ∧ b.hxp.errEvq = a.hxp.errEvq ∧ b.hxp.errCode = a.hxp.errCode ∧
      b.hxp.errIndex = a.hxp.errIndex ∧ b.hxp.grantsRefused = a.hxp.grantsRefused ∧
      b.hxp.cursors = a.hxp.cursors ∧ b.hxp.era = a.hxp.era ∧ b.hxp.linkUp = a.hxp.linkUp ∧
      b.hxp.perst = a.hxp.perst ∧ b.hxp.trained = a.hxp.trained ∧ b.hxp.rr = a.hxp.rr ∧ b.hxp.pcie = a.hxp.pcie
  | .recorder => b.evr = a.evr
  | .faults => b.flt = a.flt
  | .selfTest => b.bst = a.bst
  | .firmware => b.fwu = a.fwu
  | .gates => b.gate = a.gate
  | .clocks => b.clk = a.clk
  | .heat => b.hl = a.hl
  | .contacts => b.con = a.con
  | .cycle => b.cyc = a.cyc
  | .change => b.chg = a.chg
  | .stores => b.nvb = a.nvb
  | .times => b.tim = a.tim
  | .network => b.oxn = a.oxn
  | .ile => b.ile = a.ile
  | .pair => b.plv = a.plv
  | .tripIo => b.tio = a.tio
  | .can => b.can = a.can
  | .analog => b.alp = a.alp
  | .memory => b.mem = a.mem
  | .out => b.out = a.out
  | .free => b.free = a.free
  | .queue => b.pending = a.pending

/-- From `a` to `b` only the listed parts may have changed. -/
def onlyChanges (l : List Part) (a b : State) : Prop := ∀ p : Part, p ∉ l → p.same a b

/-- What an occurrence of a code can change (R430 to R438, R352): the accumulators, the current store and the events
that wait for the host. -/
def recording : List Part := [.records, .recorder, .events]

/-! ### What each command may change -/

/-- Families of commands, by the chapters that give them. -/
inductive Family where
  | registers | hostReads | hostWrites | modes | cycle | network | interlocking | pair | ring | power | tripIo | analog
    | can | clocks | faults | boot
deriving DecidableEq, Repr

/-- Every part but some. -/
def allBut (l : List Part) : List Part :=
  ([.time, .records, .keys, .nonces, .faultStore, .images, .boots, .modRetired, .tuple, .refusal, .modRest, .rings,
    .events, .vectors, .slots, .hxpRest, .recorder, .faults, .selfTest, .firmware, .gates, .clocks, .heat, .contacts,
    .cycle, .change, .stores, .times, .network, .ile, .pair, .tripIo, .can, .analog, .memory, .out, .free, .queue] :
    List Part).filter (· ∉ l)

/-- The family of a command. -/
def familyOf : Instr → Family
  | .unsupportedAccess .. | .regWrite .. | .timeGtLoRead .. | .hxpCmdqDb .. | .hxpCplqDb .. | .hxpEvqDb .. | .arm ..
  | .disarm .. | .disarmComplete .. | .ringReset .. | .evqReset .. | .gateClrDb .. | .clkMonDb ..
  | .completionPost .. | .eventPost .. | .coalesceExpiry .. | .dmaTimeout .. | .dmaError .. | .pcieReset ..
  | .pciePerstChange .. | .linkTrained .. => .registers
  | .nop .. | .pointRead .. | .forceList .. | .fwStatus .. | .recRead .. | .snapRead .. | .ileRead ..
  | .cycleStatus .. | .changeStatus .. | .identity .. | .lRead .. | .lStatus .. | .legacyWrite .. | .badOpcode .. => .hostReads
  | .descriptorFetch .. | .pointWrite .. | .forceSet .. | .forceClear .. | .fwChunk .. | .fwActivate ..
  | .recClear .. | .snapArm .. | .block .. | .unblock .. | .emergRelease .. | .timeSet .. | .hartPass ..
  | .debugUnlock .. | .keyProvision .. | .grantHold .. | .grantDrop .. => .hostWrites
  | .start .. | .hold .. | .stop .. | .handover .. | .retire .. | .readmit .. | .bstMode .. | .fwAck .. | .stage ..
  | .switch .. | .confirm .. | .revert .. | .discard .. | .genSelect .. | .ccvConfirm .. => .modes
  | .tCommit .. | .minCycleElapsed .. | .agreeTimeout .. | .executeDone .. | .lockstepMismatch .. | .scanWdt ..
  | .signatureWaitBound .. | .programCycleBoundary .. | .migrationDone .. | .stagingChecksDone ..
  | .trialWindowEnd .. => .cycle
  | .oxugerCycleStart .. | .oxnActionPoint .. | .dataFrame .. | .safetyFrame .. | .syncFrame .. | .coldstartFrame ..
  | .viewFrame .. | .oxnIdlePhase .. | .oxnSafetyTimeout .. | .listenTimeout .. | .coldstartAlone ..
  | .integrationFail .. | .oxnSyncLost .. | .oxnReadmitFail .. => .network
  | .lanePresent .. | .presentationDeadline .. | .voterUpdate .. | .reseedTablePhaseDone .. | .pathSetTimeout ..
  | .releaseDelayElapsed .. | .ileDetectFault .. | .coldHoldEnd .. | .ileBndTimeout .. => .interlocking
  | .p0LinkUp .. | .auth .. | .heartbeatSend .. | .heartbeat .. | .partnerSilent .. | .agree .. | .sliceReq ..
  | .sliceData .. | .agreeDone .. | .signature .. | .forceTable .. | .ileSnap .. | .ileDigest .. | .ileState ..
  | .release .. | .leaving .. | .arbStart .. | .tierAgree .. | .relayedCommand .. | .resync .. | .image ..
  | .resyncStepDone .. | .resyncStepTimeout .. | .resyncAttemptTimeout .. | .pairNoQuorum .. | .pairWaitExpiry ..
  | .handoverRelease .. | .plvLaneFail .. | .plvDiscardLimit .. | .plvReadmitSecond .. | .plvPortTrained .. => .pair
  | .beaconSend .. | .beacon .. | .stmEvaluation .. | .timeMessageSend .. | .time .. | .delay .. | .stationHold ..
  | .ringLost .. | .signals .. | .signalsForget .. | .boundary .. | .mgtTod .. | .ppsEdge .. | .todPpsTimeout ..
  | .cloverLatch .. | .cloverDeadline .. => .ring
  | .ejectorOpen .. | .presSenseOpen .. | .presSenseClose .. | .pairPresOpen .. | .pairPresClose .. | .feedLow ..
  | .feedRecovered .. | .pfw .. | .hlFeedDip .. | .pfwStop .. | .mgtAllow .. | .allowStale .. | .powerSample ..
  | .dieTempRead .. | .inletRead .. | .tierRule2 .. | .tierRule3 .. | .tierRule5 .. | .hot .. | .hlOvertemp ..
  | .backgroundAdmit .. | .backgroundUnitDone .. | .hlDefer .. | .hlRail .. | .mgtIdentity .. | .identityTimeout ..
  | .holdUpCharged .. => .power
  | .tioSampleWindow .. | .tioRefresh .. | .tioLinkSilent .. | .pairDisc .. | .sinkCheck .. | .tioReadback ..
  | .overcurrent .. | .groupOverload .. | .darkTestStart .. | .darkTestEnd .. | .shortToSupply ..
  | .tioSupplyMeasure .. | .tioSupplyDown .. | .tioSupplyUp .. | .tioOverlapEnd .. => .tripIo
  | .alpConversion .. | .alpRefresh .. | .alpLogicSilent .. | .alpReadback .. | .overrange .. | .feSilent ..
  | .feCheck .. | .alCompliance .. | .alpClockStepUp .. | .alpRampEnd .. | .hartResponse .. | .hartTimeout ..
  | .hartRequest .. => .analog
  | .canFrameReceived .. | .canArbitrationStart .. | .canArbitrationLost .. | .canTxComplete .. | .canBusOff ..
  | .canBusOffRecovered .. | .canErrorPassive .. | .stuckDominant .. | .txdTimeout .. | .loopbackRetry ..
  | .canWake .. | .canRecessiveBits .. => .can
  | .sourceSettled .. | .freqWindowEnd .. | .sourceEdgeLoss .. | .pllLocked .. | .pllLockLoss .. | .clkSwitchDone ..
  | .clkForced .. | .quiesceAck .. | .clkQuiesceTimeout .. | .gateResetRelease .. => .clocks
  | .fltL0 .. | .engineWatchdogExpiry .. | .l5Service .. | .fltL5 .. | .drainTick .. | .persistenceExpiry ..
  | .eccCorrected .. | .eccUncorrectable .. | .nandProgramFail .. | .bstSliceDone .. | .bstTimeout ..
  | .bstRoundLate .. | .sorrelRateWrite .. | .sorrelSeal .. => .faults
  | .powerOnResetRelease .. | .bootStepDone .. | .bootOverrun .. | .imageHashDone .. | .fwActivateReset ..
  | .fwTrialWindowEnd .. | .serviceHello .. | .serviceGrant .. | .serviceChunk .. | .serviceActivate ..
  | .serviceStatus .. | .debugUnlockExpiry .. | .debugAccess .. | .gateProgramFault .. => .boot

/-- The parts of the state that a command may change, in whatever state it comes. -/
def mayChange : Instr → List Part
  | .unsupportedAccess .. | .serviceStatus .. => [.time, .out]
  | .regWrite .. => recording ++ [.time, .rings, .vectors, .hxpRest, .selfTest, .gates, .clocks, .heat, .times, .out]
  | .timeGtLoRead .. => [.time, .times, .out]
  | .hxpCmdqDb .. | .hxpCplqDb .. | .arm .. | .dmaError .. => [.time, .rings, .events, .vectors, .hxpRest, .out]
  | .hxpEvqDb .. => [.time, .events, .vectors, .hxpRest, .out]
  | .disarm .. | .disarmComplete .. => [.time, .hxpRest]
  | .ringReset .. | .legacyWrite .. | .badOpcode .. => [.time, .rings, .hxpRest]
  | .evqReset .. => [.time, .events]
  | .gateClrDb .. | .debugUnlockExpiry .. => recording ++ [.time, .gates]
  | .clkMonDb .. | .sourceSettled .. | .quiesceAck .. | .gateResetRelease .. | .identityTimeout .. => [.time, .clocks]
  | .descriptorFetch .. => allBut [.keys, .boots, .queue]
  | .nop .. => recording ++ [.time, .refusal, .rings, .hxpRest]
  | .pointRead .. | .forceList .. | .fwStatus .. | .snapRead .. | .ileRead .. | .changeStatus .. | .identity ..
  | .lRead .. | .lStatus .. =>
    recording ++ [.time, .refusal, .rings, .hxpRest, .out]
  | .pointWrite .. | .forceSet .. | .forceClear .. | .start .. | .hold .. | .stop .. | .handover .. | .fwAck ..
  | .switch .. | .confirm .. | .revert .. | .discard .. | .ccvConfirm .. | .keyProvision .. =>
    recording ++ [.time, .nonces, .refusal, .rings, .hxpRest, .cycle]
  | .retire .. =>
    allBut [.keys, .faultStore, .images, .boots, .vectors, .selfTest, .contacts, .times, .memory, .free, .queue]
  | .readmit .. => allBut [.keys, .images, .boots, .free, .queue]
  | .bstMode .. => recording ++ [.time, .nonces, .tuple, .refusal, .rings, .slots, .hxpRest, .cycle]
  | .stage .. | .genSelect .. =>
    recording ++ [.time, .nonces, .refusal, .rings, .hxpRest, .heat, .change, .pair, .out]
  | .fwChunk .. => recording ++ [.time, .nonces, .images, .refusal, .rings, .hxpRest, .firmware, .heat]
  | .fwActivate .. =>
    recording ++ [.time, .nonces, .images, .refusal, .rings, .vectors, .hxpRest, .firmware, .stores, .pair, .out]
  | .recRead .. => recording ++ [.time, .refusal, .rings, .hxpRest, .out, .free]
  | .recClear .. => recording ++ [.time, .nonces, .refusal, .rings, .hxpRest, .heat]
  | .snapArm .. => recording ++ [.time, .refusal, .rings, .hxpRest, .times, .pair, .out]
  | .block .. | .unblock .. | .emergRelease .. =>
    recording ++ [.time, .nonces, .refusal, .rings, .hxpRest, .ile, .pair, .out]
  | .timeSet .. => recording ++ [.time, .nonces, .refusal, .rings, .hxpRest, .faults, .firmware, .times, .pair]
  | .cycleStatus .. => recording ++ [.time, .refusal, .rings, .hxpRest, .cycle, .out]
  | .hartPass .. => recording ++ [.time, .nonces, .refusal, .rings, .hxpRest, .analog, .out]
  | .debugUnlock .. => recording ++ [.time, .nonces, .refusal, .rings, .hxpRest, .gates]
  | .grantHold .. => recording ++ [.time, .nonces, .refusal, .rings, .slots, .hxpRest]
  | .grantDrop .. => recording ++ [.time, .refusal, .rings, .slots, .hxpRest]
  | .completionPost .. => [.time, .rings, .vectors, .out]
  | .eventPost .. => [.time, .events, .vectors, .out]
  | .coalesceExpiry .. => [.time, .vectors, .out]
  | .dmaTimeout .. => [.time, .rings, .events, .vectors, .hxpRest, .faults, .out]
  | .pcieReset .. | .pciePerstChange .. => [.time, .rings, .events, .vectors, .slots, .hxpRest]
  | .linkTrained .. => [.time, .hxpRest, .free]
  | .tCommit .. | .agree .. | .clkSwitchDone .. =>
    allBut [.keys, .nonces, .faultStore, .images, .boots, .modRetired, .vectors, .hxpRest, .firmware, .gates,
      .contacts, .times, .ile, .memory, .free, .queue]
  | .minCycleElapsed .. => [.time, .cycle]
  | .agreeTimeout .. | .executeDone .. | .sliceData .. | .agreeDone .. =>
    recording ++ [.time, .modRest, .rings, .faults, .selfTest, .clocks, .heat, .cycle, .stores, .pair, .tripIo,
      .can, .analog, .out]
  | .lockstepMismatch .. =>
    allBut [.keys, .nonces, .images, .boots, .refusal, .vectors, .hxpRest, .selfTest, .contacts, .times, .memory,
      .free, .queue]
  | .scanWdt .. => recording ++ [.time, .faults, .cycle, .stores, .pair, .out]
  | .signatureWaitBound .. | .signature .. =>
    recording ++ [.time, .modRest, .faults, .selfTest, .clocks, .heat, .cycle, .stores, .pair, .out]
  | .programCycleBoundary .. => allBut [.nonces, .boots, .queue]
  | .migrationDone .. => allBut [.nonces, .boots, .free, .queue]
  | .stagingChecksDone .. => recording ++ [.time, .rings, .heat, .cycle, .change, .pair, .out]
  | .trialWindowEnd .. => [.time, .change, .pair, .out]
  | .oxugerCycleStart .. =>
    allBut [.keys, .nonces, .images, .boots, .modRetired, .vectors, .hxpRest, .gates, .contacts, .memory, .free,
      .queue]
  | .oxnActionPoint .. => [.time, .network, .out]
  | .dataFrame .. => [.time, .cycle, .network]
  | .safetyFrame .. => [.time, .cycle, .network, .ile]
  | .syncFrame .. | .coldstartFrame .. => [.time, .faults, .firmware, .times, .network, .pair, .free]
  | .viewFrame .. | .coldstartAlone .. | .integrationFail .. => [.time, .network]
  | .oxnIdlePhase .. =>
    allBut [.keys, .nonces, .images, .boots, .vectors, .hxpRest, .contacts, .memory, .free, .queue]
  | .oxnSafetyTimeout .. | .listenTimeout .. => recording ++ [.time, .network]
  | .oxnSyncLost .. => recording ++ [.time, .times, .network]
  | .oxnReadmitFail .. => recording ++ [.time, .tuple, .modRest, .slots, .firmware, .cycle, .network, .pair]
  | .lanePresent .. | .releaseDelayElapsed .. | .coldHoldEnd .. => [.time, .ile]
  | .presentationDeadline .. =>
    recording ++ [.time, .faultStore, .faults, .selfTest, .clocks, .heat, .ile, .pair, .out]
  | .voterUpdate .. =>
    recording ++ [.time, .faultStore, .tuple, .refusal, .slots, .faults, .selfTest, .clocks, .heat, .cycle, .stores,
      .ile, .pair, .tripIo, .out]
  | .reseedTablePhaseDone .. | .backgroundAdmit .. => [.time, .selfTest, .clocks, .heat, .ile]
  | .pathSetTimeout .. | .ileDetectFault .. | .ileBndTimeout .. => recording ++ [.time, .ile]
  | .p0LinkUp .. => [.time, .pair, .out, .free]
  | .auth .. | .partnerSilent .. | .resyncStepTimeout .. | .resyncAttemptTimeout .. =>
    allBut [.keys, .nonces, .faultStore, .images, .boots, .refusal, .vectors, .hxpRest, .contacts, .times, .memory,
      .queue]
  | .heartbeatSend .. | .sliceReq .. | .beaconSend .. | .timeMessageSend .. | .delay .. | .plvPortTrained .. =>
    [.time, .pair, .out]
  | .heartbeat .. | .pairWaitExpiry .. =>
    allBut [.keys, .nonces, .faultStore, .images, .boots, .refusal, .vectors, .hxpRest, .memory, .queue]
  | .forceTable .. | .relayedCommand .. | .handoverRelease .. => allBut [.nonces, .boots, .modRetired, .free, .queue]
  | .ileSnap .. => recording ++ [.time, .faultStore, .faults, .selfTest, .clocks, .heat, .stores, .ile, .pair]
  | .ileDigest .. => recording ++ [.time, .modRest, .selfTest, .clocks, .heat, .ile, .pair, .out]
  | .ileState .. => [.time, .stores, .ile, .pair]
  | .release .. => recording ++ [.time, .tuple, .modRest, .rings, .slots, .cycle, .pair, .tripIo, .can, .analog, .out]
  | .leaving .. =>
    recording ++ [.time, .tuple, .modRest, .rings, .slots, .heat, .change, .pair, .tripIo, .can, .analog, .out]
  | .arbStart .. => [.time, .modRest, .selfTest, .clocks, .heat, .pair]
  | .tierAgree .. | .signalsForget .. => [.time, .pair]
  | .resync .. =>
    allBut [.keys, .nonces, .faultStore, .images, .boots, .modRetired, .refusal, .vectors, .hxpRest, .faults,
      .selfTest, .contacts, .memory, .free, .queue]
  | .image .. => recording ++ [.time, .images, .firmware, .heat, .pair]
  | .resyncStepDone .. => allBut [.keys, .nonces, .faultStore, .boots, .modRetired, .stores, .free, .queue]
  | .pairNoQuorum .. | .hlOvertemp .. =>
    allBut [.keys, .nonces, .faultStore, .images, .boots, .refusal, .vectors, .hxpRest, .selfTest, .contacts,
      .times, .memory, .free, .queue]
  | .plvLaneFail .. | .plvDiscardLimit .. => recording ++ [.time, .faultStore, .faults, .pair]
  | .beacon .. => [.time, .times, .pair, .out]
  | .stmEvaluation .. => recording ++ [.time, .times]
  | .time .. => [.time, .faults, .firmware, .times, .pair, .out]
  | .stationHold .. | .mgtTod .. | .todPpsTimeout .. | .cloverLatch .. | .cloverDeadline .. => [.time, .times]
  | .ringLost .. => recording ++ [.time, .pair]
  | .signals .. => [.time, .cycle, .pair, .out]
  | .boundary .. => [.time, .ile, .pair, .out]
  | .ejectorOpen .. | .tioOverlapEnd .. | .alpRampEnd .. =>
    allBut [.keys, .nonces, .faultStore, .images, .boots, .refusal, .vectors, .hxpRest, .selfTest, .times, .memory,
      .free, .queue]
  | .presSenseOpen .. => allBut [.keys, .nonces, .faultStore, .images, .boots, .free, .queue]
  | .presSenseClose .. | .pfw .. | .pfwStop .. | .fwActivateReset .. =>
    allBut [.keys, .nonces, .faultStore, .images, .boots, .modRetired, .stores, .out, .free, .queue]
  | .pairPresOpen .. => allBut [.keys, .nonces, .faultStore, .images, .boots, .vectors, .hxpRest, .memory, .queue]
  | .pairPresClose .. => [.time, .modRest, .rings, .analog, .out]
  | .tioSampleWindow .. => recording ++ [.time, .cycle, .tripIo]
  | .tioRefresh .. | .darkTestStart .. | .tioSupplyMeasure .. => [.time, .tripIo]
  | .tioLinkSilent .. | .pairDisc .. | .overcurrent .. | .groupOverload .. | .tioSupplyDown .. | .tioSupplyUp .. =>
    recording ++ [.time, .tripIo]
  | .sinkCheck .. | .tioReadback .. | .darkTestEnd .. => recording ++ [.time, .faultStore, .faults, .tripIo]
  | .shortToSupply .. => recording ++ [.time, .faultStore, .tripIo]
  | .alpConversion .. => recording ++ [.time, .faultStore, .rings, .faults, .selfTest, .heat, .cycle, .analog, .out]
  | .alpRefresh .. | .alpLogicSilent .. | .hartTimeout .. => [.time, .rings, .analog, .out]
  | .alpReadback .. | .overrange .. | .feSilent .. | .feCheck .. =>
    recording ++ [.time, .faultStore, .rings, .faults, .analog, .out]
  | .alCompliance .. => recording ++ [.time, .analog]
  | .alpClockStepUp .. => [.time, .analog]
  | .hartResponse .. => [.time, .rings, .cycle, .analog, .out]
  | .hartRequest .. => [.time, .analog, .out, .free]
  | .canFrameReceived .. => [.time, .cycle, .can]
  | .canArbitrationStart .. => recording ++ [.time, .can]
  | .canArbitrationLost .. | .canBusOffRecovered .. => [.time, .can]
  | .canTxComplete .. => recording ++ [.time, .cycle, .can, .out]
  | .canBusOff .. | .canErrorPassive .. | .stuckDominant .. | .txdTimeout .. | .loopbackRetry .. =>
    recording ++ [.time, .faultStore, .faults, .clocks, .can]
  | .canWake .. => recording ++ [.time, .cycle, .can]
  | .freqWindowEnd .. =>
    allBut [.keys, .nonces, .faultStore, .images, .boots, .refusal, .selfTest, .contacts, .memory, .free, .queue]
  | .sourceEdgeLoss .. =>
    allBut [.keys, .nonces, .faultStore, .images, .boots, .refusal, .selfTest, .contacts, .times, .memory, .free,
      .queue]
  | .pllLocked .. => [.time, .clocks, .network]
  | .pllLockLoss .. | .fltL0 .. | .engineWatchdogExpiry .. | .persistenceExpiry .. | .gateProgramFault .. =>
    allBut [.keys, .nonces, .images, .boots, .refusal, .selfTest, .contacts, .times, .memory, .free, .queue]
  | .clkForced .. =>
    allBut [.keys, .nonces, .images, .boots, .refusal, .vectors, .hxpRest, .selfTest, .contacts, .memory, .free,
      .queue]
  | .clkQuiesceTimeout .. => recording ++ [.time, .faults, .clocks]
  | .feedLow .. | .feedRecovered .. | .hlFeedDip .. | .hlDefer .. | .hlRail .. => recording ++ [.time, .heat]
  | .mgtAllow .. | .tierRule2 .. | .tierRule3 .. | .tierRule5 .. => recording ++ [.time, .modRest, .heat, .pair, .out]
  | .allowStale .. | .powerSample .. | .dieTempRead .. | .inletRead .. | .hot .. | .holdUpCharged .. => [.time, .heat]
  | .backgroundUnitDone .. => recording ++ [.time, .heat, .change]
  | .l5Service .. => [.time, .faults]
  | .fltL5 .. => allBut [.keys, .nonces, .faultStore, .images, .boots, .stores, .out, .free, .queue]
  | .drainTick .. => [.time, .faultStore, .faults]
  | .eccCorrected .. => recording ++ [.time, .faultStore, .faults]
  | .eccUncorrectable .. => recording ++ [.time, .faultStore, .faults, .cycle]
  | .nandProgramFail .. => [.time, .faultStore]
  | .bstSliceDone .. => allBut [.keys, .nonces, .images, .boots, .contacts, .times, .free, .queue]
  | .bstTimeout .. => allBut [.keys, .nonces, .images, .boots, .refusal, .contacts, .times, .free, .queue]
  | .bstRoundLate .. => recording ++ [.time, .selfTest]
  | .sorrelRateWrite .. => recording ++ [.time]
  | .sorrelSeal .. => [.time, .records, .heat]
  | .powerOnResetRelease .. => recording ++ [.time, .boots, .modRest, .faults, .firmware, .clocks, .contacts]
  | .bootStepDone .. => allBut [.keys, .nonces, .boots, .queue]
  | .bootOverrun .. => allBut [.keys, .nonces, .faultStore, .boots, .free, .queue]
  | .imageHashDone .. => [.time, .images, .firmware, .heat]
  | .fwTrialWindowEnd .. => [.time, .images, .firmware]
  | .serviceHello .. | .serviceGrant .. => [.time, .firmware, .out]
  | .serviceChunk .. => recording ++ [.time, .nonces, .images, .hxpRest, .firmware, .heat, .out]
  | .serviceActivate .. => recording ++ [.time, .nonces, .images, .hxpRest, .firmware, .stores, .out]
  | .mgtIdentity .. => [.time, .clocks, .contacts]
  | .ppsEdge .. => [.time, .faults, .firmware, .times, .pair]
  | .debugAccess .. => recording ++ [.time, .faults, .gates, .cycle, .memory, .out, .free]
  | .plvReadmitSecond .. =>
    recording ++ [.time, .faultStore, .refusal, .modRest, .rings, .selfTest, .clocks, .heat, .cycle, .stores,
      .network, .ile, .pair, .tripIo, .out]
  | .canRecessiveBits .. => recording ++ [.time, .faultStore, .clocks, .can]

/-! ### Host commands as their rings hand them over -/

/-- A command with the doorbell time of its descriptor (R332). -/
def stamped (c : Call) (t : Nat) (s : State) : Call :=
  { c with doorbell := (ringOf s c.ring).times.headD (Max.max s.gt t) }

/-- The state in which a command is served: GT at its stamp, the descriptor at HEAD fetched (R333). -/
def taken (c : Call) (t : Nat) (s : State) : State := fetchOne c.ring (atT t s)

/-- A command is fetched and accepted: its ring hands a descriptor over (R331 to R334, R338), its buffer is aligned
(R337), and the module, not under Speedwell, is one of those that accept it (R339). -/
def accepts (c : Call) (on : Nat) (s : State) : Bool :=
  fetchable s c.ring && bufAligned c && !s.fwu.speedwell && on.testBit (letterOf s)

/-- A command carries no GRANT flag, and no standing slot above 15 (Table 13.2). -/
def noGrant (c : Call) : Bool := authOk false c.auth

/-- A command's turn has come among the rings' changing commands (R333), and it carries the grant `g`, which passes every
check of Table 13.8. -/
def carries (c : Call) (op role : Nat) (free : Bool) (tgt : List Byte → Bool) (g : Grant) (t : Nat) (s : State) :
    Bool :=
  firstInLine s c.ring && c.auth = .grant g && grantCheck (taken c t s) false free (some role) (g.action = op) tgt g = none

/-- The state after a command's grant has been accepted: its NONCE is held (R345). -/
def authorised (c : Call) (g : Grant) (t : Nat) (s : State) : State := nonceKeep g (taken c t s)

/-- A command that changes a driving module: the command, its opcode, its request code of Table 2.18, the role and the
TARGET that its grant needs (Tables 13.4 and 13.9). -/
abbrev Ordered := Instr × Nat × Nat × Nat × (List Byte → Bool)

/-- MODE requests 1 to 5, the generation commands and the force commands, which only a driving module accepts. -/
def ordered (t : Nat) (c : Call) (n ty : Nat) (v : DWord) (s : State) : List Ordered :=
  [(.start t c, 0x10, 1, roleOperate, modeTarget 1 0 0),
   (.hold t c, 0x10, 2, roleOperate, modeTarget 2 0 0),
   (.stop t c, 0x10, 3, roleOperate, modeTarget 3 0 0),
   (.handover t c, 0x10, 4, roleOperate, modeTarget 4 0 0),
   (.retire t c, 0x10, 5, roleSafety, modeTarget 5 0 0),
   (.switch t c n, 0x21, 0x11, roleStage, tgtEq (le 4 (genStaged s) ++ pad 4 ++ le 8 n)),
   (.confirm t c n, 0x22, 0x12, roleConfirm, tgtEq (le 4 n)),
   (.revert t c n, 0x23, 0x13, roleConfirm, tgtEq (le 4 n)),
   (.discard t c n, 0x24, 0x14, roleStage, tgtEq (le 4 n)),
   (.forceSet t c n ty v, 0x03, 0x20, roleForce, tgtEq (le 4 n ++ le 1 ty ++ pad 3 ++ le 8 v.toNat)),
   (.forceClear t c n, 0x04, 0x20, roleForce, tgtEq (le 4 n))]

/-! ### Packets that count -/

/-- A P0 packet of a type counts (R237, R238, R253): it comes on P0 of an authenticated partner, with that type, a
length and a check code that hold and reserved bits of 0. -/
def p0Good (ptype : Nat) (h : PktHdr) (s : State) : Bool :=
  h.port = 0 && pktOk h ptype && s.plv.authOk && portUp s 0

/-- A ring packet of a type counts and is for this module (R237, R238, R261). -/
def ringGood (ptype : Nat) (h : PktHdr) (s : State) : Bool :=
  decide (h.port < 3) && pktOk h ptype && portUp s h.port && h.origin ≠ s.mod.slot
    && (h.dest = s.mod.slot || h.dest = 0xFF)

/-- A ring packet has been forwarded and its origin noted (R261, R263). -/
def onward (ptype : Nat) (h : PktHdr) (pay : List Nat) (s : State) : State :=
  ringForward ptype h pay { s with plv := { s.plv with reached := Tab.set s.plv.reached h.origin s.gt } }

end Sys2Proof.Machine
end

