-- ==== Sys2Proof/Certificates/Slice0/Obligations.lean ====
section
/-! DEFINITION. The statements for the provers, in the order of OBLIGATIONS.json: the queue and the clock, what every
step keeps, what each command does when it completes, what the numbered rules say, and what commands leave alone. -/

open Sys2Proof Sys2Proof.Machine

/-! ### The queue, the clock and what every step keeps -/

/-- A step with the command `c` at the front of the queue is `exec c` on the state with the queue's rest. -/
def Obligations.StepRunsFrontCommand : Prop :=
  ∀ (c : Instr) (s : State), step { s with pending := c :: s.pending } = exec c s

/-- On an empty queue one D11 tick passes (R210, R211; that time passes then is log entry 11): GT and its fraction, in
units of 2^-32 ns, rise by 3 to 5 ns and by exactly 4 ns when no rate and no slew acts, and only times change. -/
def Obligations.EmptyQueueIsOneTick : Prop :=
  ∀ s : State, s.pending = [] → ∃ u, step s = .next u ∧ onlyChanges [.time, .times] s u ∧
    s.gt * 2 ^ 32 + s.gtFrac + 3 * 2 ^ 32 ≤ u.gt * 2 ^ 32 + u.gtFrac ∧
    u.gt * 2 ^ 32 + u.gtFrac ≤ s.gt * 2 ^ 32 + s.gtFrac + 5 * 2 ^ 32 ∧
    (s.tim.rate = 0 → s.tim.slewTicks = 0 →
      u.gt * 2 ^ 32 + u.gtFrac = s.gt * 2 ^ 32 + s.gtFrac + 4 * 2 ^ 32)

/-- No command stops the module: each answers a next state in every state. -/
def Obligations.EveryCommandGoesOn : Prop := ∀ (c : Instr) (s : State), goesOn (exec c s) = true

/-- The state after reset is sound: nothing listed in memory, no fuse blown, no nonce held. -/
def Obligations.SoundAtReset : Prop := State.sound State.reset = true

/-- Every step from a sound state ends in a sound state: memory canonical, SEC_FLOOR at most 64 (R453), at most 4,096
nonces held (R345). -/
def Obligations.EveryStepKeepsSound : Prop :=
  ∀ s u : State, s.sound = true → step s = .next u → u.sound = true

/-- R453: SEC_FLOOR, a count of 64 fuses, never falls; a step that raises it confirms a trial image that asks for the
rise (R462), and raises it to that image's SEC_VERSION. -/
def Obligations.SecurityFloorNeverFalls : Prop :=
  ∀ s u : State, s.nva.secFloor ≤ 64 → step s = .next u →
    s.nva.secFloor ≤ u.nva.secFloor ∧ u.nva.secFloor ≤ 64 ∧
    (s.nva.secFloor < u.nva.secFloor → s.mod.tup.fw = .trial ∧
      ∃ h, s.fwu.run = some h ∧ h.raiseFloor = true ∧ u.nva.secFloor = min 64 h.secVersion)

/-- A command acts on everything but the queue. -/
def Obligations.CommandsLeaveTheQueue : Prop :=
  ∀ (c : Instr) (s u : State), exec c s = .next u → u.pending = s.pending

/-- Of all commands only DEBUG_ACCESS writes the memory behind the gates. What is listed of it is otherwise only dropped:
all of it at a reset of the module, and in COMPAT mode, at the end of a memory slice, what lies under the march (R35;
the log entry on the debug memory). -/
def Obligations.OnlyDebugWritesMemory : Prop :=
  ∀ (c : Instr) (s u : State), exec c s = .next u → (∀ t a, c ≠ .debugAccess t a) →
    u.mem = s.mem ∨ u.mem = [] ∨
    (s.bst.compatRun = true ∧ u.mem = s.mem.filter fun x => !codeUnder s x.1)

/-- Every byte of memory after an allowed write of the debug master: its own bytes where it wrote, the old ones
elsewhere; a read, and a denied access, change none (R363, R364, R367). -/
def Obligations.DebugAccessAndMemory : Prop :=
  (∀ (t x : Nat) (a : Access) (s u : State), Memory.wf s.mem = true → accessOk a = true → a.kind = 1 →
    (gateDecide (asDebug a) s).1 = true → exec (.debugAccess t a) s = .next u →
    memGet u.mem x = if a.addr ≤ x ∧ x < a.addr + a.len then a.data[x - a.addr]? else memGet s.mem x) ∧
  (∀ (t : Nat) (a : Access) (s u : State), (a.kind ≠ 1 ∨ (gateDecide (asDebug a) s).1 = false) →
    exec (.debugAccess t a) s = .next u → u.mem = s.mem)

/-! ### Registers -/

/-- Table 22.1: what every offset of BAR0 reads in the state after reset. The straps and the serial, which the carrier
and the manufacture give (MOD_SERIAL, MOD_SLOT, the slot's bit of OXN_STATUS), read 0 (log entry 6). -/
def Obligations.ResetValuesOfRegisters : Prop :=
  ∀ off, off < 0x10000 → off % 4 = 0 → readReg State.reset off =
    if off ∈ [0x3020, 0x3024, 0x3028, 0x302C] then 0xFFFFFFFF
    else if off ∈ [0x0118, 0x0138, 0x0158, 0x0178, 0x0198, 0x01B8, 0x01D8, 0x01F8, 0x001C] then 0x00001000
    else if off ∈ [0x4118, 0x4138, 0x4178] then 0x00000040
    else if off ∈ [0xA010, 0xA014, 0xA018, 0xA01C] then 3
    else BitVec.ofNat 32 (Tab.getD [(0x0000, 0x01019640), (0x0004, 0x00001908), (0x000C, 0x000000F0), (0x1000, 0x00039640),
      (0x1010, 0x00000800), (0x1014, 0x00000800), (0x101C, 0x00000A02), (0x1038, 0x00000003), (0x2000, 0x00000008),
      (0x2010, 0x0000B87F), (0x2014, 0x000001FF), (0x2018, 0x001F0000), (0x201C, 0x000F0000), (0x2028, 0x0000001F),
      (0x3004, 0x000001F4), (0x3008, 0x00000118), (0x5000, 0x04000000), (0x7000, 0x00000004), (0x7018, 0x00000003),
      (0xC004, 0x00000018), (0xE02C, 0x00820820), (0xF004, 0x00000A01)] off 0)

/-- R7: an offset of BAR0 at which Table 22.1 has no register reads 0, and a write to it is completed without effect. -/
def Obligations.OffsetsWithoutRegister : Prop :=
  ∀ (t off : Nat) (val : Word) (s : State), off < 0x10000 → off % 4 = 0 → registerAt off = false →
    readReg s off = 0 ∧ exec (.regWrite t off val) s = .next (atT t s)

/-- R9, R8, R499 on the setup registers: once HXP is armed a write to any offset below its doorbells has no effect, and
neither has a write to HL_CFG, BST_CFG or TIME_CFG outside their window or once their block is armed; while it is not
armed such a register reads back what was written, its reserved bits 0. Every other register but the doorbells is
read-only. -/
def Obligations.SetupRegistersLockAndReadBack : Prop :=
  (∀ (t off : Nat) (val : Word) (s : State), off < 0x400 → s.hxp.armed = true →
    exec (.regWrite t off val) s = .next (atT t s)) ∧
  (∀ (t n : Nat) (val : Word) (s : State) (x : Nat × Nat), n < 8 → s.hxp.armed = false → s.hxp.rings.length = 8 →
    x ∈ [(0x00C, 0x3FFF1), (0x010, 0xFFFFFFFF), (0x014, 0xFFFFFFFF), (0x018, 0x1FF), (0x100 + 0x20 * n, 0xFFFFFFFF),
      (0x104 + 0x20 * n, 0xFFFFFFFF), (0x108 + 0x20 * n, 0xFFFFFFFF), (0x10C + 0x20 * n, 0xFFFFFFFF),
      (0x110 + 0x20 * n, 0x1FF)] →
    ∃ u, exec (.regWrite t x.1 val) s = .next u ∧ readReg u x.1 = val &&& BitVec.ofNat 32 x.2) ∧
  (∀ (t : Nat) (val : Word) (s : State) (x : Nat × Nat × Bool),
    x ∈ [(0x3004, 0x1FFF, s.hl.armed), (0xC004, 0xFF, s.bst.armed), (0xF004, 0xFF01, s.tim.armed)] →
    (x.2.2 = false → s.hxp.trained = true → s.mod.tup.run = .boot → s.fwu.speedwell = false →
      ∃ u, exec (.regWrite t x.1 val) s = .next u ∧ readReg u x.1 = val &&& BitVec.ofNat 32 x.2.1) ∧
    (x.2.2 = true ∨ s.hxp.trained = false ∨ s.mod.tup.run ≠ .boot ∨ s.fwu.speedwell = true →
      exec (.regWrite t x.1 val) s = .next (atT t s))) ∧
  (∀ (t off : Nat) (val : Word) (s : State), 0x1000 ≤ off → off < 0x10000 → off % 4 = 0 →
    off ∉ [0x2024, 0x3004, 0x400C, 0xC004, 0xF004] → exec (.regWrite t off val) s = .next (atT t s))

/-- Table 2.1 and Table 2.13: MOD_STATE shows each component of the mode tuple in its field by its encoding, and its
reserved bits are 0. -/
def Obligations.ModStateShowsTheTuple : Prop :=
  ∀ s : State,
    let w := (readReg s 0x1010).toNat
    let m := s.mod.tup
    [Role.solo, .active, .standby, .syncing, .retired][w % 8]? = some m.role ∧
    [RunState.boot, .idle, .run, .hold, .safe][w / 8 % 8]? = some m.run ∧
    [ChangeState.none, .staged, .trial, .confirmed][w / 64 % 4]? = some m.change ∧
    [false, true][w / 256 % 2]? = some m.forced ∧
    [IleState.lane3, .ab, .ac, .bc, .withdrawn][w / 512 % 8]? = some m.ile ∧
    [NetState.listen, .coldLead, .integrating, .synced, .narrow, .passive][w / 4096 % 8]? = some m.net ∧
    [Tier.t0, .t1, .t2, .t3][w / 32768 % 4]? = some m.tier ∧
    [FwState.confirmed, .trial, .fallback][w / 131072 % 4]? = some m.fw ∧
    [BstMode.native, .compat][w / 524288 % 2]? = some m.bst ∧ w / 1048576 = 0

/-! ### Every command completes -/

/-- Register and doorbell commands, and the host's rings, complete: R6, R9, Table 8.7 (TIME_GT_LO), R332, R331, R338,
R366, R386, R335, R336, R352, R403, R329, R491. -/
def Obligations.RegisterAndRingCommandsComplete : Prop :=
  (∀ (t off size : Nat) (w : Bool) (s : State), ¬(size = 4 ∧ off % 4 = 0) →
    exec (.unsupportedAccess t off size w) s = .next { atT t s with out := s.out ++ [.barUr] }) ∧
  (∀ (t n : Nat) (val : Word) (s : State), n < 8 → s.hxp.armed = false →
    exec (.regWrite t (0x100 + 0x20 * n + 0x10) val) s =
      .next (updRing n (fun r => { r with cfg := val &&& 0x1FF }) (atT t s))) ∧
  (∀ (t : Nat) (s : State), exec (.timeGtLoRead t) s =
    .next { atT t s with
      tim := { s.tim with latch := max s.gt t }
      out := s.out ++ [.barData (BitVec.ofNat 32 (max s.gt t))] }) ∧
  (∀ (t n : Nat) (val : Word) (s : State), s.hxp.armed = true → cfgEn (ringOf s n).cfg = true → n < 8 →
    bits val.toNat 0 12 < ringLen (ringOf s n).cfg →
    exec (.hxpCmdqDb t n val) s = .next (updRing n (fun r => { r with
      tail := bits val.toNat 0 12
      times :=
        let k := (bits val.toNat 0 12 + ringLen (ringOf s n).cfg - (ringOf s n).head) % ringLen (ringOf s n).cfg
        r.times.take k ++ List.replicate (k - r.times.length) (max s.gt t) }) (atT t s))) ∧
  (∀ (t n : Nat) (val : Word) (s : State), s.hxp.armed = true → cfgEn (ringOf s n).cfg = true → n < 8 →
    bits val.toNat 0 12 < ringLen (ringOf s n).cfg →
    exec (.hxpCplqDb t n val) s = .next (updRing n (fun r => { r with
      out := (r.cplTail + ringLen r.cfg - bits val.toNat 0 12) % ringLen r.cfg })
      (atT t s))) ∧
  (∀ (t : Nat) (val : Word) (s : State), s.hxp.armed = true → cfgEn s.hxp.evq.cfg = true →
    bits val.toNat 0 12 < ringLen s.hxp.evq.cfg →
    exec (.hxpEvqDb t val) s = .next { atT t s with hxp := { s.hxp with evq := { s.hxp.evq with
      out := (s.hxp.evq.tail + ringLen s.hxp.evq.cfg - bits val.toNat 0 12) % ringLen s.hxp.evq.cfg } } }) ∧
  (∀ (t : Nat) (val : Word) (s : State), bits val.toNat 0 4 = 1 → s.hxp.armed = false →
    isRetired s (.engine 5) = false → armOk s.hxp = true →
    exec (.arm t val) s = .next { atT t s with hxp := { s.hxp with
      armed := true
      disarming := false
      rings := s.hxp.rings.map fun r => { r with
        head := 0, tail := 0, times := [], cplTail := 0, out := 0, phase := true, halted := false, busy := false,
        queue := [] }
      evq := { s.hxp.evq with tail := 0, out := 0, phase := true, halted := false } } }) ∧
  (∀ (t : Nat) (val : Word) (s : State), bits val.toNat 0 4 = 2 → s.hxp.armed = true →
    exec (.disarm t val) s = .next { atT t s with hxp := { s.hxp with disarming := true } }) ∧
  (∀ (t : Nat) (s : State), s.hxp.armed = true → s.hxp.disarming = true →
    (∀ r ∈ s.hxp.rings, r.busy = false ∧ r.queue = []) →
    exec (.disarmComplete t) s = .next { atT t s with hxp := { s.hxp with armed := false, disarming := false } }) ∧
  (∀ (t : Nat) (val : Word) (s : State), bits val.toNat 0 4 = 4 → (ringOf s (bits val.toNat 4 3)).halted = true →
    exec (.ringReset t val) s = .next (updRing (bits val.toNat 4 3) (fun r => { r with
      head := 0, tail := 0, times := [], cplTail := 0, out := 0, phase := true, halted := false, busy := false,
      queue := [] })
      { atT t s with hxp := { s.hxp with
        cursors := s.hxp.cursors.filter (·.ring ≠ bits val.toNat 4 3) } })) ∧
  (∀ (t : Nat) (val : Word) (s : State), bits val.toNat 0 4 = 8 → s.hxp.evq.halted = true →
    exec (.evqReset t val) s = .next { atT t s with hxp := { s.hxp with
      evq := { s.hxp.evq with tail := 0, out := 0, phase := true, halted := false } } }) ∧
  (∀ (t : Nat) (val : Word) (s : State), ∃ u, exec (.gateClrDb t val) s = .next u ∧
    ∀ n, n < 16 → n < s.gate.gates.length →
      gateOf u n = if val.getLsbD n then { gateOf s n with latched := none, count := 0 } else gateOf s n) ∧
  (∀ (t : Nat) (val : Word) (s : State), ¬(22 ≤ bits val.toNat 0 5 ∧ bits val.toNat 0 5 ≤ 30) →
    exec (.clkMonDb t val) s = .next { atT t s with clk := { s.clk with
      monSel := bits val.toNat 0 5
      monDiv := bits val.toNat 16 16 } }) ∧
  (∀ (t n : Nat) (k : Completion) (q : List Completion) (s : State), n < 8 → s.hxp.armed = true →
    (ringOf s n).halted = false → (ringOf s n).queue = k :: q →
    (ringOf s n).out < ringLen (ringOf s n).cfg → k.irq = false →
    exec (.completionPost t n) s = .next (emit
      (.completion n (ringOf s n).cplTail (cplBytes k (ringOf s n).phase (ringOf s n).head (max s.gt t)))
      (updRing n (fun r => { r with
        queue := q
        busy := false
        out := r.out + 1
        cplTail := if (ringOf s n).cplTail + 1 = ringLen (ringOf s n).cfg then 0 else r.cplTail + 1
        phase := if (ringOf s n).cplTail + 1 = ringLen (ringOf s n).cfg then !r.phase else r.phase }) (atT t s)))) ∧
  (∀ (t : Nat) (e : Event) (es : List Event) (s : State), s.hxp.armed = true → cfgEn s.hxp.evq.cfg = true →
    s.hxp.evq.halted = false → s.hxp.events = e :: es → s.hxp.evq.out < ringLen s.hxp.evq.cfg → s.hxp.lostPending = 0 →
    exec (.eventPost t) s = .next (writeEvent e { atT t s with hxp := { s.hxp with events := es } })) ∧
  (∀ (t vec : Nat) (v : VecS) (s : State), Tab.find? s.hxp.vecs vec = some v → v.waiting = true →
    v.last + coalesceNs s ≤ max s.gt t → s.hxp.pcie.msixEn = true →
    vecOpen s vec = true →
    exec (.coalesceExpiry t vec) s = .next { atT t s with
      hxp := { s.hxp with vecs := Tab.set s.hxp.vecs vec ⟨max s.gt t, false⟩ }
      out := s.out ++ [.msix vec] }) ∧
  (∀ (t : Nat) (x : Xfer) (s : State), s.hxp.armed = true →
    exec (.dmaTimeout t x) s = .next (dmaFail x .dmaTimeout (noteFault (xferSrc x) 2
      { atT t s with flt := { s.flt with l2 := satInc 0xFFFF s.flt.l2 } }))) ∧
  (∀ (t : Nat) (x : Xfer) (s : State), s.hxp.armed = true →
    exec (.dmaError t x) s = .next (dmaFail x .dmaError (atT t s))) ∧
  (∀ (t : Nat) (loss : Bool) (s : State), exec (.pcieReset t loss) s =
    .next { atT t s with hxp := { hxpReset with
      lostEvents := s.hxp.lostEvents
      grantsRefused := s.hxp.grantsRefused
      era := s.hxp.era + 1
      pcie := if loss then pcieReset else { pcieReset with rate := s.hxp.pcie.rate, width := s.hxp.pcie.width }
      linkUp := s.hxp.linkUp && !loss
      perst := s.hxp.perst
      trained := s.hxp.trained } }) ∧
  (∀ (t : Nat) (s : State), exec (.pciePerstChange t true) s =
    .next { atT t s with hxp := { s.hxp with perst := false } }) ∧
  (∀ (t : Nat) (s : State), exec (.pciePerstChange t false) s =
    .next { atT t s with hxp := { hxpReset with
      lostEvents := s.hxp.lostEvents
      grantsRefused := s.hxp.grantsRefused
      era := s.hxp.era + 1
      linkUp := false
      perst := true
      trained := s.hxp.trained } }) ∧
  (∀ (t : Nat) (s : State), s.hxp.perst = false → s.mod.tup.run ≠ .boot →
    (s.clk.plls.getD 6 ⟨0, false, false⟩).lock = true → (s.clk.xa.st = 2 ∨ s.clk.xb.st = 2) →
    exec (.linkTrained t) s = .next { atT t s with
      hxp := { s.hxp with linkUp := true, trained := true, pcie := { s.hxp.pcie with
        rate := 1 + Config.freeNat s.free % 4, width := 1 + Config.freeNat (s.free + 1) % 2 } }
      free := s.free + 2 })

/-- Commands that only read complete with their data, on every module that accepts them: Tables 13.4, 13.5 and 13.12,
R91, R123, R341, R353, R445, R233, R472. -/
def Obligations.HostReadCommandsComplete : Prop :=
  (∀ (t : Nat) (c : Call) (s : State), accepts c (accDSYX + accB) s = true → noGrant c = true → noBuf c = true →
    exec (.nop t c) s = .next (done (stamped c t s) 0x00 0 (taken c t s))) ∧
  (∀ (t : Nat) (c : Call) (first count : Nat) (s : State), accepts c accDSYX s = true → noGrant c = true →
    0 < count → count ≤ 65536 → first + count ≤ 262144 → 16 * count ≤ c.bufLen →
    exec (.pointRead t c 0 first count) s =
      .next (doneBuf (stamped c t s) 0x01 (imageBytes s.cyc.img first count) (inCycle s) (taken c t s))) ∧
  (∀ (t : Nat) (c : Call) (first count : Nat) (s : State), accepts c accDSYX s = true → noGrant c = true →
    0 < count → count ≤ 65536 → first + count ≤ 262144 → 16 * count ≤ c.bufLen →
    exec (.pointRead t c 1 first count) s =
      .next (doneBuf (stamped c t s) 0x01 (imageBytes s.cyc.outImg first count) (outCycle s) (taken c t s))) ∧
  (∀ (t : Nat) (c : Call) (s : State), accepts c accDSYX s = true → noGrant c = true →
    16 * s.cyc.forces.length ≤ c.bufLen →
    exec (.forceList t c) s =
      .next (doneBuf (stamped c t s) 0x05 (forceBytes s) s.cyc.forceVer (taken c t s))) ∧
  (∀ (t : Nat) (c : Call) (first last store from_ to_ : Nat) (bad : List Nat) (s : State),
    accepts c accDSYX s = true → noGrant c = true → 128 ≤ c.bufLen → store ≤ 3 →
    exec (.recRead t c first last store from_ to_ bad) s =
      .next (recReadEff (stamped c t s) first last store from_ to_ bad (taken c t s))) ∧
  (∀ (t : Nat) (c : Call) (first count : Nat) (s : State), accepts c (accD + accS) s = true → noGrant c = true →
    32 + 24 * (snapPart first count s).length ≤ c.bufLen →
    exec (.snapRead t c first count) s = .next (doneBuf (stamped c t s) 0x49
      (clvHeader s ++ ((snapPart first count s).map (·.2)).flatten) s.tim.clv.st (taken c t s))) ∧
  (∀ (t : Nat) (c : Call) (kind first count : Nat) (s : State), accepts c accDSYX s = true → noGrant c = true →
    0 < count → count ≤ 32768 → first + count ≤ ileObjects s kind → 8 * count ≤ c.bufLen →
    exec (.ileRead t c kind first count) s = .next (doneBuf (stamped c t s) 0x51
      ((List.range count).map fun i => le 8 (ileObject s kind (first + i)).toNat).flatten s.ile.upN (taken c t s))) ∧
  (∀ (t : Nat) (c : Call) (s : State), accepts c accDSYX s = true → noGrant c = true → 64 ≤ c.bufLen →
    exec (.cycleStatus t c 0) s = .next (doneBuf (stamped c t s) 0x60 (cycleBytes s.cyc.rec91)
      (s.cyc.rec91.getD 0 0) (taken c t s))) ∧
  (∀ (t : Nat) (c : Call) (s : State), accepts c accDSYX s = true → noGrant c = true → 64 ≤ c.bufLen →
    exec (.cycleStatus t c 1) s = .next (doneBuf (stamped c t s) 0x60 (cycleBytes s.cyc.rec91)
      (s.cyc.rec91.getD 0 0) { taken c t s with cyc := { s.cyc with cycleMax := 0 } })) ∧
  (∀ (t : Nat) (c : Call) (s : State), accepts c accDSYX s = true → noGrant c = true → 64 ≤ c.bufLen →
    exec (.changeStatus t c) s = .next (doneBuf (stamped c t s) 0x61 (changeBytes s.chg.record)
      (s.chg.record.getD 13 0) (taken c t s))) ∧
  (∀ (t : Nat) (c : Call) (s : State), accepts c (accDSYX + accB) s = true → noGrant c = true → 64 ≤ c.bufLen →
    exec (.fwStatus t c) s =
      .next (doneBuf (stamped c t s) 0x32 (fwRecord s) (fwCode s.mod.tup.fw) (taken c t s))) ∧
  (∀ (t : Nat) (c : Call) (s : State), accepts c (accDSYX + accB) s = true → noGrant c = true → 204 ≤ c.bufLen →
    exec (.identity t c) s = .next (doneBuf (stamped c t s) 0x6A
      (le 8 s.mod.serial ++ certBytes ++ le 64 (keyDigest s)) s.mod.serial (taken c t s))) ∧
  (∀ (t : Nat) (c : Call) (window first count : Nat) (s : State), accepts c accDSYX s = true → noGrant c = true →
    legacyOn s = true → window ≤ 3 → first ≤ 65535 → 0 < count → count ≤ 4096 →
    window * 65536 + first + count ≤ 262144 → 8 * count ≤ c.bufLen →
    exec (.lRead t c window first count) s = .next (doneBuf (stamped c t s) 0x80
      ((List.range count).map fun i => legacyBytes (inEntry s (window * 65536 + first + i))).flatten
      (inCycle s % 2 ^ 32) (taken c t s))) ∧
  (∀ (t : Nat) (c : Call) (s : State), accepts c accDSYX s = true → noGrant c = true → legacyOn s = true →
    16 ≤ c.bufLen →
    exec (.lStatus t c) s = .next (doneBuf (stamped c t s) 0x81
      (rowBytes [(4, s.cyc.rec91.getD 0 0), (4, tupleWord s.mod.tup), (4, s.cyc.rec91.getD 2 0),
        (2, s.cyc.forces.length), (2, 0)]) 0 (taken c t s))) ∧
  (∀ (t : Nat) (c : Call) (opcode : Nat) (s : State), fetchable s c.ring = true → 0x88 ≤ opcode → opcode ≤ 0x8F →
    exec (.legacyWrite t c opcode) s = .next (complete (stamped c t s) opcode .legacyWrite none 0 0 (taken c t s))) ∧
  (∀ (t : Nat) (c : Call) (opcode : Nat) (s : State), fetchable s c.ring = true → knownOpcode s opcode = false →
    exec (.badOpcode t c opcode) s = .next (complete (stamped c t s) opcode .badOpcode none 0 0 (taken c t s)))

/-- Mode commands (R36, R40, R41, R163, R413, Table 2.18) with an accepted grant: START, HOLD, STOP, HANDOVER, BST_MODE
and FW_ACK wait for the boundary, RETIRE acts at once, and READMIT of
a RETIRED module ends its retirement and reboots it. -/
def Obligations.ModeCommandsComplete : Prop :=
  (∀ (t : Nat) (c : Call) (g : Grant) (s : State), accepts c accD s = true → noBuf c = true →
    carries c 0x10 roleOperate false (modeTarget 1 0 0) g t s = true → s.mod.arb = false →
    exec (.start t c) s = .next (await (stamped c t s) 0x10 1 .start (authorised c g t s))) ∧
  (∀ (t : Nat) (c : Call) (g : Grant) (s : State), accepts c accD s = true → noBuf c = true →
    carries c 0x10 roleOperate false (modeTarget 2 0 0) g t s = true → s.mod.arb = false →
    exec (.hold t c) s = .next (await (stamped c t s) 0x10 2 .hold (authorised c g t s))) ∧
  (∀ (t : Nat) (c : Call) (g : Grant) (s : State), accepts c accD s = true → noBuf c = true →
    carries c 0x10 roleOperate false (modeTarget 3 0 0) g t s = true → s.mod.arb = false →
    exec (.stop t c) s = .next (await (stamped c t s) 0x10 3 .stop (authorised c g t s))) ∧
  (∀ (t : Nat) (c : Call) (g : Grant) (s : State), accepts c accD s = true → noBuf c = true →
    carries c 0x10 roleOperate false (modeTarget 4 0 0) g t s = true → s.mod.arb = false →
    exec (.handover t c) s = .next (await (stamped c t s) 0x10 4 .handover (authorised c g t s))) ∧
  (∀ (t : Nat) (c : Call) (g : Grant) (s : State), accepts c accD s = true → noBuf c = true →
    carries c 0x10 roleSafety false (modeTarget 5 0 0) g t s = true → s.mod.arb = false →
    exec (.retire t c) s = .next (done (stamped c t s) 0x10
      (tupleWord (retireModule .command (authorised c g t s)).mod.tup) (retireModule .command (authorised c g t s)))) ∧
  (∀ (t : Nat) (c : Call) (g : Grant) (s : State), accepts c (accD + accX) s = true → noBuf c = true →
    carries c 0x10 roleSafety true (modeTarget 6 0 0) g t s = true → s.mod.arb = false →
    s.mod.tup.role = .retired →
    ∃ u, exec (.readmit t c 0 0 true) s = .next u ∧ u.mod.tup = tupleReset ∧ u.nva.modRetired = none) ∧
  (∀ (t : Nat) (c : Call) (g : Grant) (arg : Nat) (s : State), accepts c (accD + accX) s = true → noBuf c = true →
    carries c 0x10 roleDebug false (modeTarget 7 arg 0) g t s = true → s.mod.arb = false → arg ≤ 1 →
    s.mod.tup.role ≠ .retired →
    exec (.bstMode t c arg) s = .next (await (stamped c t s) 0x10 7 (.bstMode (arg = 1)) (authorised c g t s))) ∧
  (∀ (t : Nat) (c : Call) (g : Grant) (s : State), accepts c (accD + accS + accY) s = true → noBuf c = true →
    carries c 0x10 roleFirmware false (modeTarget 8 0 0) g t s = true → s.mod.arb = false →
    exec (.fwAck t c) s = .next (await (stamped c t s) 0x10 8 .fwAck (authorised c g t s)))

/-- Generation commands (R94, R97, R100, R101, R120, R122, R289) with an accepted grant: STAGE and GEN_SELECT begin a
staging whose checks run as background work and forward it to the pair; the others wait for their boundary. -/
def Obligations.GenerationCommandsComplete : Prop :=
  (∀ (t : Nat) (c : Call) (g : Grant) (box : Container) (s : State), accepts c accD s = true →
    carries c 0x20 roleStage false (stageTarget box) g t s = true → stageGuard s = none → xferBars s = false →
    exec (.stage t c box) s = .next (stageBegin 0x20 box (stamped c t s) (authorised c g t s))) ∧
  (∀ (t : Nat) (c : Call) (g : Grant) (gen : Nat) (x : Gen) (s : State), accepts c accD s = true → noBuf c = true →
    carries c 0x25 roleStage false (tgtEq (le 4 gen)) g t s = true → stageGuard s = none → xferBars s = false →
    selected s gen = some x →
    exec (.genSelect t c gen) s = .next (stageBegin 0x25 (copyBox (renumber (genHighPair s + 1) x))
      (stamped c t s) (authorised c g t s))) ∧
  (∀ (t : Nat) (c : Call) (g : Grant) (cycle : Nat) (s : State), accepts c accD s = true → noBuf c = true →
    carries c 0x21 roleStage false (tgtEq (le 4 (genStaged s) ++ pad 4 ++ le 8 cycle)) g t s = true →
    s.mod.arb = false →
    exec (.switch t c cycle) s = .next (await (stamped c t s) 0x21 0x11 (.switch cycle) (authorised c g t s))) ∧
  (∀ (t : Nat) (c : Call) (g : Grant) (gen : Nat) (s : State), accepts c accD s = true → noBuf c = true →
    carries c 0x22 roleConfirm false (tgtEq (le 4 gen)) g t s = true → s.mod.arb = false →
    exec (.confirm t c gen) s = .next (await (stamped c t s) 0x22 0x12 (.confirm gen) (authorised c g t s))) ∧
  (∀ (t : Nat) (c : Call) (g : Grant) (gen : Nat) (s : State), accepts c accD s = true → noBuf c = true →
    carries c 0x23 roleConfirm false (tgtEq (le 4 gen)) g t s = true → s.mod.arb = false →
    exec (.revert t c gen) s = .next (await (stamped c t s) 0x23 0x13 (.revert gen) (authorised c g t s))) ∧
  (∀ (t : Nat) (c : Call) (g : Grant) (gen : Nat) (s : State), accepts c accD s = true → noBuf c = true →
    carries c 0x24 roleStage false (tgtEq (le 4 gen)) g t s = true → s.mod.arb = false →
    exec (.discard t c gen) s = .next (await (stamped c t s) 0x24 0x14 (.discard gen) (authorised c g t s))) ∧
  (∀ (t : Nat) (c : Call) (g : Grant) (ccv gen : Nat) (s : State), accepts c accD s = true → noBuf c = true →
    carries c 0x26 roleSafety false (tgtEq (le 4 ccv ++ le 4 gen)) g t s = true → ccv = ccvOf s.tio.section_ →
    exec (.ccvConfirm t c ccv gen) s =
      .next (await (stamped c t s) 0x26 0 (.ccv ccv gen) (authorised c g t s))) ∧
  (∀ (t : Nat) (j : StageJob) (s : State), s.chg.job = some j → j.own = none → checksRan j = true →
    exec (.stagingChecksDone t none) s = .next (ownChecks j (atT t s))) ∧
  (∀ (t : Nat) (start : Nat) (revert : Bool) (cause : Nat) (s : State), s.chg.mig = some (start, revert, cause) →
    s.cyc.phase = .boundary →
    exec (.migrationDone t) s = .next (agreeReady (migrationEnd start revert cause (atT t s)))) ∧
  (∀ (t : Nat) (s : State), s.cyc.phase = .boundary → s.chg.mig = none →
    exec (.trialWindowEnd t) s = .next (windowStep (atT t s)))

/-- Host commands on points, forces, firmware, records, snapshots, the interlocking engine, time, HART, the debug unlock,
keys and grants complete with an accepted grant: R341, R86, R458, R459, R447, R230, R144, R214, R306, R368, R349, R346. -/
def Obligations.HostWriteCommandsComplete : Prop :=
  (∀ (t : Nat) (c : Call) (g : Grant) (recs : List PointRec) (s : State), accepts c accD s = true →
    0 < recs.length → recs.length ≤ 4096 → c.bufLen = 16 * recs.length →
    carries c 0x02 roleWrite false (writeTarget recs) g t s = true → (∀ r ∈ recs, recordOk s r = true) →
    exec (.pointWrite t c recs.length recs) s = .next (done (stamped c t s) 0x02 (max (stamped c t s).doorbell (max s.gt t))
      { authorised c g t s with cyc := { s.cyc with inbox := s.cyc.inbox ++ recs.map fun r =>
        ⟨r.addr, max (stamped c t s).doorbell (max s.gt t), r.value, none, qGood, false⟩ } })) ∧
  (∀ (t : Nat) (c : Call) (g : Grant) (addr ty : Nat) (value : DWord) (s : State), accepts c accD s = true →
    noBuf c = true → carries c 0x03 roleForce false
      (tgtEq (le 4 addr ++ le 1 ty ++ pad 3 ++ le 8 value.toNat)) g t s = true → s.mod.arb = false →
    exec (.forceSet t c addr ty value) s =
      .next (await (stamped c t s) 0x03 0x20 (.force addr ty value) (authorised c g t s))) ∧
  (∀ (t : Nat) (c : Call) (g : Grant) (addr : Nat) (s : State), accepts c accD s = true → noBuf c = true →
    carries c 0x04 roleForce false (tgtEq (le 4 addr)) g t s = true → s.mod.arb = false →
    exec (.forceClear t c addr) s = .next (await (stamped c t s) 0x04 0x20 (.forceClear addr) (authorised c g t s))) ∧
  (∀ (t : Nat) (c : Call) (g : Grant) (off total : Nat) (data : List Byte) (hdr : Option ImageHdr) (s : State),
    accepts c (accD + accS + accY) s = true → c.bufLen = data.length → 4 ≤ data.length → data.length ≤ 1048576 →
    carries c 0x30 roleFirmware false (tgtEq (le 4 total)) g t s = true → s.mod.tup.fw ≠ .trial →
    chunkArgsOk off total data.length = true →
    exec (.fwChunk t c off total data hdr) s = .next (done (stamped c t s) 0x30 data.length
      (chunkStore off total data.length hdr (authorised c g t s)))) ∧
  (∀ (t : Nat) (c : Call) (g : Grant) (s : State), accepts c (accD + accS + accY) s = true → noBuf c = true →
    (slotOf s.nva (altSlot s)).complete = true →
    carries c 0x31 roleFirmware false (tgtEq (le 16 (slotOf s.nva (altSlot s)).digest)) g t s = true →
    activateGuard s = none →
    exec (.fwActivate t c) s = .next (activateTake (stamped c t s) (authorised c g t s))) ∧
  (∀ (t : Nat) (c : Call) (g : Grant) (first last store from_ to_ : Nat) (s : State), accepts c accD s = true →
    noBuf c = true → carries c 0x41 roleRecord false (recTarget first last store from_ to_) g t s = true → store ≤ 3 →
    from_ % (3600 * sec) = 0 → to_ % (3600 * sec) = 0 →
    exec (.recClear t c first last store from_ to_) s = .next
      (recClearEff (stamped c t s) first last store from_ to_ g.nonce g.keySlot (authorised c g t s))) ∧
  (∀ (t : Nat) (c : Call) (id at_ : Nat) (s : State), accepts c accD s = true → noGrant c = true → noBuf c = true →
    firstInLine s c.ring = true →
    0 < id → id ≤ 65535 → max s.gt t + 5 * ms ≤ at_ → at_ < max s.gt t + 60 * sec → s.tim.clv.st ≠ 1 →
    s.tim.clv.st ≠ 2 →
    exec (.snapArm t c id at_) s =
      .next (done (stamped c t s) 0x48 id (relay kSnap [id, at_] (cloverArm id at_ (taken c t s))))) ∧
  (∀ (t : Nat) (c : Call) (g : Grant) (b : OpBody) (s : State), accepts c accD s = true → noBuf c = true →
    b.reservedZero = true → carries c 0x50 roleIle false (tgtEq (opBodyBytes 1 b)) g t s = true →
    exec (.block t c b) s = .next (relay kIleOp [1, b.index, b.key, s.ile.n + 2, 0] { authorised c g t s with
      ile := { s.ile with ops := s.ile.ops ++ [⟨some (stamped c t s), s.hxp.era, 1, b, s.ile.n + 2, false, partnerFollows s⟩] } })) ∧
  (∀ (t : Nat) (c : Call) (g : Grant) (b : OpBody) (s : State), accepts c accD s = true → noBuf c = true →
    b.reservedZero = true → carries c 0x50 roleIle false (tgtEq (opBodyBytes 2 b)) g t s = true →
    exec (.unblock t c b) s = .next (relay kIleOp [2, b.index, b.key, s.ile.n + 2, 0] { authorised c g t s with
      ile := { s.ile with ops := s.ile.ops ++ [⟨some (stamped c t s), s.hxp.era, 2, b, s.ile.n + 2, false, partnerFollows s⟩] } })) ∧
  (∀ (t : Nat) (c : Call) (g : Grant) (b : OpBody) (void : Bool) (s : State), accepts c accD s = true →
    noBuf c = true → void = (decide (s.mod.tup.ile = .withdrawn) || s.ile.withdrawnNow) →
    b.reservedZero = true → carries c 0x50 roleIle false (tgtEq (opBodyBytes 3 b)) g t s = true →
    exec (.emergRelease t c b) s = .next (relay kIleOp [3, b.index, b.key, s.ile.n + 2, b2n void]
      { authorised c g t s with
        ile := { s.ile with ops := s.ile.ops ++ [⟨some (stamped c t s), s.hxp.era, 3, b, s.ile.n + 2, void, partnerFollows s⟩] } })) ∧
  (∀ (t : Nat) (c : Call) (g : Grant) (gt : Nat) (s : State), accepts c (accD + accY + accX) s = true →
    noBuf c = true → carries c 0x58 roleTime true (tgtEq (le 8 gt)) g t s = true →
    (s.mod.tup.net = .listen ∨ s.mod.tup.net = .passive) → isStm s = false →
    exec (.timeSet t c gt) s =
      .next (done (stamped c t s) 0x58 (max s.gt t) (gtStep gt 4 true (authorised c g t s)))) ∧
  (∀ (t : Nat) (c : Call) (g : Grant) (ch cmd : Nat) (data : List Byte) (s : State), accepts c accD s = true →
    data.length ≤ c.bufLen → data.length ≤ 31 → cmd ≤ 255 → ch ≤ 3 →
    carries c 0x62 roleOperate false (hartTarget ch) g t s = true → hartMaster s ch = true →
    exec (.hartPass t c ch cmd data.length data) s = .next (hartNext ch (updAl ch (fun a => { a with
      passQ := a.passQ ++ [.pass (stamped c t s) s.hxp.era cmd data] }) (authorised c g t s)))) ∧
  (∀ (t : Nat) (c : Call) (g : Grant) (mask : Nat) (s : State), accepts c accDSYX s = true → noBuf c = true →
    carries c 0x63 roleDebug false (tgtEq (le 4 mask)) g t s = true → 0 < mask → mask ≤ 127 → unlockLegal s = true →
    exec (.debugUnlock t c mask) s =
      .next (done (stamped c t s) 0x63 mask (setUnlock mask g.expiry (authorised c g t s)))) ∧
  (∀ (t : Nat) (c : Call) (g : Grant) (k : KeyRec) (s : State), accepts c accD s = true → c.bufLen = 140 →
    firstKey s k = false → carries c 0x64 roleKeys true (keyTarget k) g t s = true → k.slot ≤ 7 → k.roles ≤ 4095 →
    changeRole s = true → keysHeld (keysWith k s.nva.keys) = true →
    exec (.keyProvision t c k) s = .next (await (stamped c t s) 0x64 0 (.key k) (authorised c g t s))) ∧
  (∀ (t : Nat) (c : Call) (slot : Nat) (g : Grant) (s : State), accepts c (accD + accS + accY) s = true →
    noGrant c = true → firstInLine s c.ring = true → c.bufLen = 196 → slot ≤ 15 →
    grantCheck (taken c t s) true false (standingRole g.action) (standingRole g.action).isSome (heldTarget g.action) g
      = none →
    exec (.grantHold t c slot g) s = .next (done (stamped c t s) 0x68 g.expiry { authorised c g t s with
      hxp := { (taken c t s).hxp with slots := Tab.set s.hxp.slots slot g } })) ∧
  (∀ (t : Nat) (c : Call) (slot : Nat) (s : State), accepts c accDSYX s = true → noGrant c = true → noBuf c = true →
    slot ≤ 15 →
    exec (.grantDrop t c slot) s = .next (done (stamped c t s) 0x69 0 { taken c t s with
      hxp := { (taken c t s).hxp with slots := Tab.erase s.hxp.slots slot } })) ∧
  (∀ (t ring : Nat) (desc : List Byte) (buf : HostBuf) (g : Option Grant) (held : Bool) (s : State), desc.length = 64 →
    nextRing s = some ring → (isChanging (field desc 0 1) = true → firstInLine s ring = true) →
    exec (.descriptorFetch t ring desc buf g held) s = .next (runDesc desc buf g
      { descCall ring desc with doorbell := (ringOf s ring).times.headD (max s.gt t) } (fetchOne ring (atT t s))))

/-- The program cycle's commands complete: R60 to R64, R69, R74, R75, R77, R78, R79, R36. -/
def Obligations.ProgramCycleCommandsComplete : Prop :=
  (∀ (t : Nat) (s : State), driving s = true → s.mod.tup.run = .run → s.cyc.phase = .boundary → s.chg.mig = none →
    handoverHolds s = false → s.cyc.minDone = true → s.clk.gapFrom = none →
    exec (.tCommit t) s = .next (beginCycle (atT t s))) ∧
  (∀ (t : Nat) (s : State), s.cyc.phase = .boundary → minPassed (atT t s) = true →
    exec (.minCycleElapsed t) s = .next { atT t s with cyc := { s.cyc with minDone := true } }) ∧
  (∀ (t : Nat) (s : State), s.mod.tup.role = .active → s.cyc.phase = .agree →
    s.cyc.tc + s.cyc.par.agreeTimeout ≤ max s.gt t →
    exec (.agreeTimeout t) s = .next (afterAgree (atT t s))) ∧
  (∀ (t : Nat) (m : ExecMeas) (s : State), s.cyc.phase = .execute →
    exec (.executeDone t m) s =
      .next (toSig (hlCycle m (publishResult (Config.program (execInputs (atT t s))) (atT t s))))) ∧
  (∀ (t c : Nat) (equal : Bool) (s : State), s.cyc.phase = .execute → c < 4 → isRetired s (.cell c) = false →
    ∃ u, exec (.lockstepMismatch t ⟨c, equal⟩) s = .next u ∧
      (let i := if equal then max s.gt t else Tab.getD s.cyc.cellFails c (max s.gt t)
       let v := rollback c (bucketAdd (.cell c) 8 { atT t s with cyc := { s.cyc with
          cellFails := Tab.set s.cyc.cellFails c i } })
       u = if v.cyc.par.retAtCell ≤ bucket v (.cell c) ∨ i + sec ≤ v.gt then retireCell c 0 v else v)) ∧
  (∀ (t : Nat) (s : State), s.cyc.executing = true → (s.cyc.phase = .execute ∨ s.cyc.phase = .agree) →
    s.cyc.attempt + s.cyc.par.scanWdt ≤ max s.gt t → s.cyc.retried = false →
    exec (.scanWdt t) s = .next (noteFault Src.sv 3 (occur Code.scanWdt Src.sv 0 { atT t s with
      cyc := { s.cyc with
        wdtExpiries := satInc 0xFFFFFFFF s.cyc.wdtExpiries, attempt := max s.gt t, retried := true }
      flt := { s.flt with l3 := satInc 0xFFFF s.flt.l3 } }))) ∧
  (∀ (t : Nat) (s : State), s.cyc.phase = .sig → s.cyc.tc + 2 * s.cyc.par.scanWdt ≤ max s.gt t →
    s.mod.valid = false →
    exec (.signatureWaitBound t) s = .next (toHouse { atT t s with cyc := { s.cyc with
      sigMissed := satInc 0xFFFFFFFF s.cyc.sigMissed } })) ∧
  (∀ (t : Nat) (s : State), s.cyc.phase = .sig → s.cyc.tc + 2 * s.cyc.par.scanWdt ≤ max s.gt t →
    s.mod.valid = true →
    exec (.signatureWaitBound t) s = .next (toHouse (arbDetect .sigMissing { atT t s with cyc := { s.cyc with
      sigMissed := satInc 0xFFFFFFFF s.cyc.sigMissed } }))) ∧
  (∀ (t : Nat) (s : State), s.cyc.phase = .house → sliceRuns s = false →
    exec (.programCycleBoundary t) s = .next (agreeReady (programBoundary (atT t s))))

/-- The network's commands complete: R16, R179, R183, R184, R189, R190, R196, R202 to R208, R200. -/
def Obligations.NetworkCommandsComplete : Prop :=
  (∀ (t n : Nat) (devs : List LaneDev) (s : State), cycleDue n (atT t s) = true →
    exec (.oxugerCycleStart t n devs) s = .next (idleCycle (ileStart devs (oxnStart n (atT t s))))) ∧
  (∀ (t slot : Nat) (c : Chan) (e : SlotEntry) (b : List Byte) (s : State), slotAt s c slot = some e →
    mayBegin (atT t s) c e = true → txFrame (atT t s) c e = some b →
    exec (.oxnActionPoint t c slot) s = .next (emit (.oxnFrame c b) { atT t s with
      oxn := { s.oxn with sent := s.oxn.sent ++ [(c, e.slot)] } })) ∧
  (∀ (t : Nat) (f : RxFrame) (e : SlotEntry) (s : State), chRetired s f.chan = false → keepsCycle s = true →
    hears s f.chan = true → (frameHdr f.bytes).ftype = 0x10 → frameOk (atT t s) f = some e →
    dataPadOk (packsOf s f.chan e.slot) (framePay f.bytes) = true →
    exec (.dataFrame t f) s = .next (deliverData (packsOf s f.chan e.slot) (framePay f.bytes) (slotEnd (atT t s) e)
      (noteHeard (noteFrame f (atT t s)) f))) ∧
  (∀ (t : Nat) (f : RxFrame) (e : SlotEntry) (s : State), chRetired s f.chan = false → keepsCycle s = true →
    hears s f.chan = true → (frameHdr f.bytes).ftype = 0x20 → frameOk (atT t s) f = some e →
    pduZeros (framePay f.bytes) = true →
    exec (.safetyFrame t f) s = .next (takePdu (framePay f.bytes) (slotEnd (atT t s) e)
      (noteHeard { noteFrame f (atT t s) with
        ile := { s.ile with rxNow := s.ile.rxNow ++ [f] } } f))) ∧
  (∀ (t : Nat) (f : RxFrame) (e : SlotEntry) (s : State), netUp s = true → syncHears s f.chan = true →
    (frameHdr f.bytes).ftype = 0x30 → frameOk (atT t s) f = some e → e.ftype = 0x30 →
    syncOk f s = true →
    exec (.syncFrame t f) s = .next (takeSync f e (noteHeard (noteLcrc f (atT t s)) f))) ∧
  (∀ (t : Nat) (f : RxFrame) (e : SlotEntry) (s : State), s.mod.tup.net = .listen → joins s = false → syncHears s f.chan = true →
    (frameHdr f.bytes).ftype = 0x31 → startOk (atT t s) f = some e →
    exec (.coldstartFrame t f) s = .next (integrate f e (noteLcrc f (atT t s)))) ∧
  (∀ (t : Nat) (f : RxFrame) (e : SlotEntry) (s : State), chRetired s f.chan = false → keepsCycle s = true →
    hears s f.chan = true → (frameHdr f.bytes).ftype = 0x40 → frameOk (atT t s) f = some e →
    (framePay f.bytes).length = 16 →
    field (framePay f.bytes) 12 4 = crc32cFrom (0x56490000 + e.owner) ((framePay f.bytes).take 12) →
    zeros (framePay f.bytes) 9 3 = true → field (framePay f.bytes) 8 1 < 4 → field (framePay f.bytes) 4 2 < 4096 →
    field (framePay f.bytes) 6 2 < 4096 → e.owner ∈ (runGen s).sched.judgeList →
    field (framePay f.bytes) 0 4 = (s.oxn.n + 2 ^ 32 - 1) % 2 ^ 32 → (∀ v ∈ s.oxn.views, v.judge ≠ e.owner) →
    ∃ u, exec (.viewFrame t f) s = .next u ∧ u.oxn.views = s.oxn.views ++
      [⟨e.owner, field (framePay f.bytes) 4 2, field (framePay f.bytes) 6 2, field (framePay f.bytes) 8 1⟩]) ∧
  (∀ (t : Nat) (a b : Bool) (s : State), idleDue (atT t s) = true →
    exec (.oxnIdlePhase t a b) s = .next (oxnIdle a b (pairIdle (atT t s)))) ∧
  (∀ (t conn : Nat) (c : SafetyConn) (s : State), (rxConns s).find? (·.conn = conn) = some c →
    connValid (atT t s) c = false → (connOf s conn).invalid = false →
    exec (.oxnSafetyTimeout t conn) s = .next (occur Code.oxnSafetyTimeout (Src.oxn c.station 0xFF) 0
      { atT t s with oxn := { s.oxn with
        conns := s.oxn.conns.map fun x => if x.conn = conn then { x with invalid := true } else x } })) ∧
  (∀ (t r : Nat) (s : State), rankOf s (ownNode s) = some r → s.mod.tup.net = .listen → refGood s = true →
    s.mod.tup.run ≠ .boot → s.oxn.netNext = none → 0 < tOcNs s →
    s.oxn.listenAt + (4 + 2 * r) * tOcNs s ≤ max s.gt t → (chRetired s .a = false ∨ chRetired s .b = false) →
    ∃ u, exec (.listenTimeout t) s = .next u ∧ u.mod.tup = s.mod.tup ∧ u.oxn.netNext = some .coldLead ∧
      u.oxn.lead = some (max s.gt t / tOcNs s + 2) ∧ u.oxn.leader = ownNode s ∧
      u.oxn.coldstarts = satInc 0xFF s.oxn.coldstarts ∧
      u.oxn.plan = (if chRetired s .a then .narrowB else if chRetired s .b then .narrowA else .full)) ∧
  (∀ (t : Nat) (s : State), s.mod.tup.net = .coldLead → 64 ≤ s.oxn.leadCycles → s.oxn.netNext = none →
    exec (.coldstartAlone t) s = .next (netListen (atT t s))) ∧
  (∀ (t : Nat) (s : State), s.mod.tup.net = .integrating → 16 ≤ s.oxn.intFails →
    exec (.integrationFail t) s = .next (netListen (atT t s))) ∧
  (∀ (t : Nat) (s : State), netUp s = true → (4 ≤ s.oxn.noSync ∨ 2 ≤ s.tim.oobRun) →
    s.oxn.netNext ≠ some .listen →
    exec (.oxnSyncLost t) s = .next (occur Code.oxnSyncLost (oxnSrc s) 0 { atT t s with
      oxn := { s.oxn with netNext := some .listen }
      tim := { s.tim with
        losses := if 2 ≤ s.tim.oobRun then satInc 0xFFFF s.tim.losses else s.tim.losses
        prevDevs := []
        prevA := 0
        rateNext := none } })) ∧
  (∀ (t t0 k : Nat) (c : Chan) (s : State), (chanOf s c).observe = some (t0, k) → t0 + 10 * sec ≤ max s.gt t →
    exec (.oxnReadmitFail t c) s = .next (occur Code.oxnReadmitFail (Src.oxn (ownNode s) (chanNum c)) 0
      (observeEnd c (atT t s))))

/-- The interlocking engine's commands complete: R153, R156 to R160, R135, R136, R128, R166, R170, Table 6.8. -/
def Obligations.InterlockingCommandsComplete : Prop :=
  (∀ (t : Nat) (l : Lane) (fault : LaneFault) (s : State), s.ile.evald = true → l ∈ evaluating s →
    (laneOf s l).reseed = 0 → (laneOf s l).pres = none → max s.gt t + 20 * us < s.ile.cn + voteOfs s →
    ∃ u, exec (.lanePresent t l fault) s = .next u ∧ (laneOf u l).pres = some fault ∧
      u.ile.latest = max s.ile.latest (min 0xFFFF ((max s.gt t - s.ile.cn) / us))) ∧
  (∀ (t : Nat) (s : State), s.ile.cn + voteOfs s ≤ max s.gt t + 20 * us → s.ile.upN ≠ s.ile.n →
    s.ile.withdrawnNow = false → s.ile.evald = true →
    exec (.presentationDeadline t) s = .next ((evaluating s).foldl markLate (atT t s))) ∧
  (∀ (t : Nat) (sweep : List (Lane × Bool)) (s : State), s.ile.table ≠ none → s.ile.upN ≠ s.ile.n →
    s.ile.cn + voteOfs s ≤ max s.gt t → s.mod.tup.run ≠ .boot → s.ile.withdrawnNow = false → s.ile.evald = true →
    exec (.voterUpdate t sweep) s = .next (updateTail (voteStep sweep (atT t s)))) ∧
  (∀ (t : Nat) (sweep : List (Lane × Bool)) (s : State), s.ile.upN ≠ s.ile.n →
    s.ile.cn + voteOfs s ≤ max s.gt t → s.mod.tup.run ≠ .boot →
    (s.ile.table = none ∨ s.ile.withdrawnNow = true ∨ s.ile.evald = false) →
    exec (.voterUpdate t sweep) s = .next (updateTail (atT t s))) ∧
  (∀ (t : Nat) (l m : Lane) (s : State), (laneOf s l).reseed = 1 → reseedFrom s l = some m →
    (∀ x ∈ setTables (laneSetOf s m), heldOk s x = true) →
    exec (.reseedTablePhaseDone t l true) s = .next (updLane l (fun x => { x with
      reseed := 2
      set := { x.set with
        table := (laneSetOf s m).table, old := (laneSetOf s m).old, next := (laneSetOf s m).next } }) (atT t s))) ∧
  (∀ (t i : Nat) (s : State), s.ile.evald = true → (s.ile.dyn.paths.getD i pathFree).st = .requested →
    (s.ile.dyn.paths.getD i pathFree).setN ≠ s.ile.n → reqPresent s i = true →
    (s.ile.dyn.paths.getD i pathFree).setStart + (pathAt (curTable s) i).setTimeoutS * sec ≤ s.ile.cn →
    exec (.pathSetTimeout t i) s = .next (occurU Code.ileSetTimeout Src.voter i (eachDyn (fun y => { y with
      paths := updAt y.paths i fun x => { x with st := .free, timeout := true } }) (atT t s)))) ∧
  (∀ (t i : Nat) (s : State), s.ile.evald = true → (s.ile.dyn.paths.getD i pathFree).st = .releasing →
    (s.ile.dyn.paths.getD i pathFree).relN ≠ s.ile.n →
    (s.ile.dyn.paths.getD i pathFree).relStart
      + releaseNs (pathAt (curTable s) i) (s.ile.dyn.paths.getD i pathFree) ≤ s.ile.cn →
    (posOf s.ile.dyn.elems (pathAt (curTable s) i).dst = .a ∨ (s.ile.dyn.paths.getD i pathFree).emerg = true) →
    posOf s.ile.dyn.elems (pathAt (curTable s) i).closer = .a → reqPresent s i = false →
    exec (.releaseDelayElapsed t i) s = .next (eachDyn (fun y => { y with
      paths := updAt y.paths i fun x => { x with st := .free, emerg := false, adopted := false } }) (atT t s))) ∧
  (∀ (t i : Nat) (s : State), s.ile.evald = true → i < s.ile.dyn.elems.length → (s.ile.dyn.elems.getD i elemNone).fault = false →
    (s.ile.dyn.elems.getD i elemNone).combo ≠ 0 → ((s.ile.dyn.elems.getD i elemNone).combo = 2 ∨
      (s.ile.dyn.elems.getD i elemNone).since + (elemAt (curTable s) i).travel ≤ s.ile.cn) →
    exec (.ileDetectFault t i) s = .next (occurU Code.ileDetectFault Src.voter i (eachDyn (fun y => { y with
      elems := updAt y.elems i fun x => { x with fault := true } }) (atT t s)))) ∧
  (∀ (t h : Nat) (s : State), s.ile.hold = some h → h ≤ max s.gt t →
    exec (.coldHoldEnd t) s = .next { atT t s with ile := { s.ile with hold := none } }) ∧
  (∀ (t pair : Nat) (b : BndS) (s : State), bndOf s pair = some b → b.invalid = false →
    bndNewest s.ile.cn s.cyc.par.bndTimeout b = none →
    exec (.ileBndTimeout t pair) s = .next (occurU Code.ileBndTimeout Src.boundary pair { atT t s with
      ile := { s.ile with
        bnd := s.ile.bnd.map fun x => if x.pair = pair then { x with invalid := true } else x } }))

/-- The pair's commands complete: R29, R69, R78, R172 to R174, R240 to R250, R253 to R259, R88, R47, Table 9.2. -/
def Obligations.PairCommandsComplete : Prop :=
  (∀ (t : Nat) (s : State), plvOn s = true → s.mod.tup.role ≠ .retired → 0 < s.plv.ports.length →
    ∃ u, exec (.p0LinkUp t) s = .next u ∧ u.plv.authOk = false ∧
      (portOf u 0).lanes = if (portOf s 0).lanes = 0 then 4 else (portOf s 0).lanes) ∧
  (∀ (t : Nat) (h : PktHdr) (m : AuthMsg) (s : State), h.port = 0 → pktOk h 0x0E = true →
    portUp s 0 = true →
    exec (.auth t h m) s = .next (authTake m (atT t s))) ∧
  (∀ (t : Nat) (s : State), s.mod.tup.run ≠ .boot → s.mod.tup.run ≠ .safe → s.plv.authOk = true → portUp s 0 = true →
    (∀ l, s.plv.hbSent = some l → l + 990 * us ≤ max s.gt t) →
    exec (.heartbeatSend t) s = .next (askAgain (sendOn [0] 0x01 (partnerSlot s) (payBytes (hbBytes (atT t s)))
      { atT t s with plv := { s.plv with hbSeq := (s.plv.hbSeq + 1) % 2 ^ 16, hbSent := some (max s.gt t) } }))) ∧
  (∀ (t : Nat) (h : PktHdr) (data : List Byte) (s : State), p0Good 0x01 h s = true → data = h.pay → hbOk data = true →
    s.plv.pairWait = none → (hbTake data (atT t s)).plv.pairWait = none →
    exec (.heartbeat t h data) s = .next (hbTake data (atT t s))) ∧
  (∀ (t l : Nat) (s : State), s.plv.lastHb = some l → s.plv.silent = false → l + 3 * ms ≤ max s.gt t →
    ∃ u, exec (.partnerSilent t) s = .next u ∧ u.mod.valid = false ∧ u.mod.partner = tupleReset) ∧
  (∀ (t : Nat) (h : PktHdr) (m : AgreeMsg) (s : State), p0Good 0x02 h s = true →
    exec (.agree t h m) s = .next (agreeArrive m (atT t s))) ∧
  (∀ (t : Nat) (h : PktHdr) (l : List Nat) (s : State), p0Good 0x03 h s = true →
    exec (.sliceReq t h l) s = .next (sendSlices l (atT t s))) ∧
  (∀ (t : Nat) (h : PktHdr) (k : Nat) (es : List (Nat × Entry)) (s : State), p0Good 0x04 h s = true →
    exec (.sliceData t h k es) s = .next (sliceTake k es (atT t s))) ∧
  (∀ (t : Nat) (h : PktHdr) (n : Nat) (s : State), p0Good 0x05 h s = true →
    exec (.agreeDone t h n) s = .next (agreeDone n (atT t s))) ∧
  (∀ (t : Nat) (h : PktHdr) (n g : Nat) (s : State), p0Good 0x06 h s = true →
    exec (.signature t h n g) s = .next (signatureTake n g (atT t s))) ∧
  (∀ (t : Nat) (h : PktHdr) (ver at_ : Nat) (fs : List Force) (s : State), p0Good 0x07 h s = true →
    s.mod.tup.role = .standby →
    exec (.forceTable t h ver at_ fs) s = .next (relayTake (.forceTable ver fs) at_ (atT t s))) ∧
  (∀ (t : Nat) (h : PktHdr) (m : SnapSent) (s : State), p0Good 0x08 h s = true → shadows s = true →
    s.ile.table ≠ none → s.ile.evald = false → s.ile.pairStep = false → s.ile.withdrawnNow = false →
    exec (.ileSnap t h s.ile.n m) s = .next (runShadow ⟨m, s.ile.n⟩ [] (atT t s))) ∧
  (∀ (t : Nat) (h : PktHdr) (d : Nat) (s : State), p0Good 0x09 h s = true → s.mod.tup.role = .standby →
    s.ile.evald = true → s.ile.digest ≠ d →
    exec (.ileDigest t h s.ile.upN d) s = .next (ileMismatch (atT t s))) ∧
  (∀ (t : Nat) (h : PktHdr) (n : Nat) (dyn : IleDyn) (old : Option IleTable) (s : State), p0Good 0x0A h s = true →
    shadows s = true → s.ile.withdrawnNow = false →
    exec (.ileState t h (genCur s) n ⟨tableDigest s, dyn, old⟩) s =
      .next { atT t s with ile := { s.ile with adopt := some (dyn, old, n) } }) ∧
  (∀ (t : Nat) (h : PktHdr) (n : Nat) (s : State), p0Good 0x0B h s = true → s.mod.tup.role = .standby →
    atBoundary s = true → n ≤ s.cyc.cycle →
    exec (.release t h n) s = .next (takeActive (atT t s))) ∧
  (∀ (t : Nat) (h : PktHdr) (s : State), p0Good 0x0B h s = true → s.mod.tup.role = .active → s.cyc.phase ≠ .boundary →
    exec (.leaving t h) s = .next { atT t s with plv := { s.plv with leaving := true, soloNext := true } }) ∧
  (∀ (t : Nat) (h : PktHdr) (cause : ArbCause) (td : Nat) (s : State), p0Good 0x0B h s = true → arbMay s = true →
    s.mod.arb = false →
    exec (.arbStart t h cause td) s = .next (sliceStop { atT t s with
      mod := { s.mod with arb := true }
      plv := { s.plv with
        arbCause := arbCode cause, arbTd := td, arbTh := s.plv.tH, arbOutcome := 0
        arbCount := satInc 0xFF s.plv.arbCount } })) ∧
  (∀ (t : Nat) (h : PktHdr) (tier at_ : Nat) (s : State), p0Good 0x0B h s = true → tier < 4 → s.mod.tup.role = .standby →
    exec (.tierAgree t h tier at_) s = .next { atT t s with plv := { s.plv with tierAt := some (tier, at_) } }) ∧
  (∀ (t : Nat) (h : PktHdr) (r : Relay) (at_ : Nat) (s : State), p0Good 0x0B h s = true →
    exec (.relayedCommand t h r at_) s = .next (relayApply r at_ (atT t s))) ∧
  (∀ (t : Nat) (h : PktHdr) (d : ResyncData) (s : State), p0Good 0x0C h s = true → s.mod.tup.role = .syncing →
    s.plv.source = false →
    exec (.resync t h d) s = .next (resyncTake d (atT t s))) ∧
  (∀ (t : Nat) (h : PktHdr) (off tot : Nat) (data : List Byte) (hdr : Option ImageHdr) (s : State), p0Good 0x0D h s = true →
    s.mod.tup.role = .syncing → s.plv.step = 2 → off % 4096 = 0 → off + data.length ≤ tot →
    exec (.image t h off tot data hdr) s = .next (chunkStore off tot data.length hdr (atT t s))) ∧
  (∀ (t : Nat) (s : State), s.mod.tup.role = .syncing →
    exec (.resyncStepDone t true) s = .next (targetStep (atT t s))) ∧
  (∀ (t : Nat) (s : State), s.mod.tup.role = .active → s.plv.source = true →
    exec (.resyncStepDone t true) s = .next (sourceStep (atT t s))) ∧
  (∀ (t : Nat) (s : State), s.mod.tup.role = .syncing → stepLate (atT t s) = true →
    exec (.resyncStepTimeout t) s = .next (resyncFail (s.plv.step = 1) (atT t s))) ∧
  (∀ (t : Nat) (s : State), s.mod.tup.role = .syncing → s.plv.step ≠ 0 →
    s.plv.attemptStart + 120 * sec ≤ max s.gt t →
    exec (.resyncAttemptTimeout t) s = .next (resyncFail false (atT t s))) ∧
  (∀ (t : Nat) (s : State), s.mod.arb = true → s.oxn.judged = true →
    s.plv.arbTd + 500 * ms + nitNs s ≤ s.oxn.cn + tOcNs s → s.mod.tup.role = .standby →
    exec (.pairNoQuorum t) s = .next (retireModule .self (occurU Code.pairNoQuorum pairSrc 4 { atT t s with
      mod := { s.mod with arb := false }
      plv := { s.plv with arbOutcome := 4, won := false, silenceDone := true } }))) ∧
  (∀ (t w : Nat) (s : State), s.plv.pairWait = some w → w + s.chg.cur.modCfg.pairWaitS * sec ≤ max s.gt t →
    exec (.pairWaitExpiry t) s = .next (bootRole .solo (atT t s))) ∧
  (∀ (t : Nat) (s : State), s.plv.handoverAt.isSome = true → s.cyc.phase = .boundary → s.mod.arb = false →
    handoverOk (atT t s) = true → (keepsCycle s = true → clearOfBoundary (atT t s) = true) →
    exec (.handoverRelease t) s = .next (releaseAll (atT t s))) ∧
  (∀ (t port lane : Nat) (s : State), (portOf s port).lanes ≠ 0 →
    exec (.plvLaneFail t port lane) s =
      .next (plvFault port (updPort port (fun x => { x with lanes := 0 }) (atT t s)))) ∧
  (∀ (t port : Nat) (s : State), 16 < (portOf s port).recent.length →
    exec (.plvDiscardLimit t port) s =
      .next (plvFault port (updPort port (fun x => { x with recent := [] }) (atT t s)))) ∧
  (∀ (t port r : Nat) (s : State), (portOf s port).readmit = some r → (portOf s port).lanes ≠ 0 →
    r + sec ≤ max s.gt t → isRetired s (.plv port) = true →
    exec (.plvReadmitSecond t port) s = .next (bistDone (.plv port) true (readmitRecord (.plv port)
      (updPort port (fun x => { x with readmit := none }) (atT t s))))) ∧
  (∀ (t port lanes : Nat) (s : State), plvOn s = true → port < 3 → (lanes = 2 ∨ lanes = 4) →
    (port = 0 → s.mod.tup.role ≠ .retired) →
    exec (.plvPortTrained t port lanes) s = .next (sendDelay port (updPort port (fun x => { x with
      lanes := lanes, readmit := x.readmit.map fun _ => max s.gt t }) (atT t s))))

/-- The commands of the stack ring, of global time and of Clover complete: R261 to R266, R224 to R226, R170, R212,
R216, R230 to R232, Table 8.4. -/
def Obligations.RingAndTimeCommandsComplete : Prop :=
  (∀ (t : Nat) (s : State), driving s = true →
    exec (.beaconSend t) s = .next (sendRing 0x10 0xFF (payBytes (beaconBytes (atT t s)))
      (beaconPut ⟨pairNum s, max s.gt t, s.mod.stmElig, stationHeld (atT t s), s.tim.valid⟩ (atT t s)))) ∧
  (∀ (t : Nat) (h : PktHdr) (data : List Byte) (s : State), ringGood 0x10 h s = true → data = h.pay → data.length = 16 →
    field data 0 1 < 8 → field data 1 1 < 5 → field data 2 1 < 16 → zeros data 3 5 = true →
    exec (.beacon t h data) s = .next (beaconMaster (field data 0 1) ((field data 2 1).testBit 3)
      (beaconPut ⟨field data 0 1, (onward 0x10 h (payBytes data) (atT t s)).gt,
        (field data 2 1).testBit 0, (field data 2 1).testBit 1, (field data 2 1).testBit 2⟩
        (onward 0x10 h (payBytes data) (atT t s))))) ∧
  (∀ (t : Nat) (s : State), driving s = true → stmOf (atT t s) ≠ s.tim.stmPair →
    exec (.stmEvaluation t) s = .next (occur Code.stmChange pairSrc 0 (stmRate { atT t s with tim := { s.tim with
      stmPair := stmOf (atT t s)
      stm := stmOf (atT t s) = some (pairNum s)
      stmSince := if stmOf (atT t s) = some (pairNum s) ∧ s.tim.stm = false then max s.gt t else s.tim.stmSince
      hold := s.tim.hold && !decide (stmOf (atT t s) = some (pairNum s)) } }))) ∧
  (∀ (t : Nat) (s : State), isStm s = true → s.tim.stmSince / ms < max s.gt t / ms →
    exec (.timeMessageSend t) s = .next (sendOn [1, 2] 0x11 0xFF (payBytes (le 8 (max s.gt t))) (atT t s))) ∧
  (∀ (t : Nat) (h : PktHdr) (data : List Byte) (s : State), ringGood 0x11 h s = true → data = h.pay → data.length = 8 →
    exec (.time t h data) s = .next (timeTake h.origin (field data 0 8 + Tab.getD s.plv.hop h.port 0)
      (onward 0x11 h (payBytes (le 8 (field data 0 8 + Tab.getD s.plv.hop h.port 0))) (atT t s)))) ∧
  (∀ (t : Nat) (h : PktHdr) (data : List Byte) (s : State), ringGood 0x14 h s = true → data = h.pay → data.length = 28 →
    (field data 0 4 = 1 ∨ field data 0 4 = 2) →
    exec (.delay t h data) s = .next (delayTake h data (onward 0x14 h (payBytes data) (atT t s)))) ∧
  (∀ (t l : Nat) (s : State), isStm s = false → (s.mod.tup.role = .solo ∨ s.mod.tup.role = .active) →
    s.mod.tup.run ≠ .boot → s.tim.lastTime = some l → l + 10 * ms ≤ max s.gt t →
    exec (.stationHold t) s = .next { atT t s with tim := { s.tim with hold := true, within := none } }) ∧
  (∀ (t pair : Nat) (b : BeaconS) (s : State), b ∈ newestEach s.plv.beacons → b.pair = pair → b.at_ + 10 * ms ≤ max s.gt t →
    pair ∉ s.plv.ringLost →
    exec (.ringLost t pair) s = .next (occurU Code.ringLost pairSrc pair { atT t s with plv := { s.plv with
      ringLost := s.plv.ringLost ++ [pair], sigCycle := Tab.erase s.plv.sigCycle pair } })) ∧
  (∀ (t : Nat) (h : PktHdr) (data : List Byte) (s : State), ringGood 0x12 h s = true → data = h.pay → signalsOk data = true →
    exec (.signals t h data) s = .next (signalsTake data (onward 0x12 h (payBytes data) (atT t s)))) ∧
  (∀ (t pair : Nat) (c : Nat × Nat) (s : State), Tab.find? s.plv.sigCycle pair = some c → c.2 + sec ≤ max s.gt t →
    exec (.signalsForget t pair) s =
      .next { atT t s with plv := { s.plv with sigCycle := Tab.erase s.plv.sigCycle pair } }) ∧
  (∀ (t : Nat) (h : PktHdr) (data : List Byte) (s : State), ringGood 0x13 h s = true → data = h.pay →
    exec (.boundary t h data) s = .next (takeBoundary data (onward 0x13 h (payBytes data) (atT t s)))) ∧
  (∀ (t : Nat) (frame p : List Byte) (s : State), mgtPayload s 0x12 8 frame = some p → todEn s = true →
    exec (.mgtTod t frame) s = .next { atT t s with tim := { s.tim with
      tod := some (ofLe p, max s.gt t), todAt := some (max s.gt t) } }) ∧
  (∀ (t v at_ : Nat) (s : State), s.tim.tod = some (v, at_) → max s.gt t < at_ + sec → isStm s = true →
    ∃ u, exec (.ppsEdge t) s = .next u ∧
      u = stationError ((v : Int) - (max s.gt t : Nat)) (!srcGood s true)
        { atT t s with tim := { s.tim with tod := none, valid := true } }) ∧
  (∀ (t v at_ : Nat) (s : State), s.tim.tod = some (v, at_) → at_ + sec ≤ max s.gt t →
    exec (.todPpsTimeout t) s = .next { atT t s with tim := { s.tim with tod := none } }) ∧
  (∀ (t : Nat) (s : State), (s.tim.clv.st = 1 ∨ s.tim.clv.st = 2) → s.tim.clv.at_ ≤ max s.gt t →
    ∃ u, exec (.cloverLatch t) s = .next u ∧ u.tim.clv.st = 2 ∧ u.tim.clv.latched = s.tim.clv.latched ++
      (((atT t s).clvPre.getD (cloverCounters (atT t s))).filter fun k => notLatched s.tim.clv k
        && !(k.2.1 < 1024 && latchBarred (atT t s) k.1)).map fun k =>
          (k.1, k.2.1, k.2.2, max s.tim.clv.at_ (max s.gt t))) ∧
  (∀ (t : Nat) (s : State), (s.tim.clv.st = 1 ∨ s.tim.clv.st = 2) → s.tim.clv.at_ + sec ≤ max s.gt t →
    exec (.cloverDeadline t) s = .next (cloverComplete true (atT t s)))

/-- The commands of power, contacts and heat complete: R387 to R402, R41, R251, R260, R388 to R394, R398, R400, R475 to
R477, R439, Tables 16.3 to 16.5. -/
def Obligations.PowerAndHeatCommandsComplete : Prop :=
  (∀ (t : Nat) (s : State), s.con.inReset = false → s.mod.tup.run ≠ .boot →
    exec (.ejectorOpen t) s = .next (ejectAct { atT t s with mod := { s.mod with ejector := true } })) ∧
  (∀ (t : Nat) (s : State), s.con.inReset = false → s.hl.charged = true →
    ∃ u, exec (.presSenseOpen t) s = .next u ∧ u.hl.pfw = some (s.hl.pfw.getD (max s.gt t)) ∧
      (let v := pfRecords (bgHalt (retireModule .ejector { atT t s with
          con := { s.con with sense := false, powered := false } }))
       u = { v with hl := { v.hl with pfw := some (s.hl.pfw.getD (max s.gt t)) } })) ∧
  (∀ (t : Nat) (s : State), s.con.sense = false → s.con.inReset = true →
    exec (.presSenseClose t) s = .next { atT t s with con := { s.con with sense := true, powered := true } }) ∧
  (∀ (t : Nat) (s : State), s.mod.tup.role = .standby →
    exec (.pairPresOpen t) s = .next (failover (presDropArb false (alSettleAll { atT t s with
      mod := { s.mod with present := false } })))) ∧
  (∀ (t : Nat) (s : State),
    exec (.pairPresClose t) s = .next (alSettleAll { atT t s with mod := { s.mod with present := true } })) ∧
  (∀ (t mv : Nat) (vb : Bool) (s : State), mv < 19200 →
    exec (.feedLow t vb mv) s = .next (feedSet vb false mv (atT t s))) ∧
  (∀ (t mv : Nat) (vb : Bool) (s : State), 19200 ≤ mv →
    exec (.feedRecovered t vb mv) s = .next (feedSet vb true mv (atT t s))) ∧
  (∀ (t : Nat) (s : State), s.con.inReset = false → s.hl.pfw = none → s.hl.charged = true →
    exec (.pfw t) s = .next (pfRecords (bgHalt { atT t s with hl := { s.hl with pfw := some (max s.gt t) } }))) ∧
  (∀ (t p : Nat) (s : State), s.hl.pfw = some p → s.con.powered = true → p + 5 * ms ≤ max s.gt t →
    max s.gt t < p + 12 * ms →
    exec (.hlFeedDip t) s = .next (occur Code.hlFeedDip Src.heat 0 { atT t s with
      hl := { s.hl with pfw := none, dips := satInc 0xFF s.hl.dips }
      evr := { s.evr with pf := false } })) ∧
  (∀ (t p : Nat) (s : State), s.hl.pfw = some p → p + 12 * ms ≤ max s.gt t →
    exec (.pfwStop t) s = .next (powerStop (atT t s))) ∧
  (∀ (t : Nat) (frame p : List Byte) (s : State), mgtPayload s 0x11 2 frame = some p →
    exec (.mgtAllow t frame) s = .next (setAllow (min 600 (max 150 (ofLe p))) { atT t s with hl := { s.hl with
      msgs := satInc 0xFFFF s.hl.msgs, lastMsg := max s.gt t, stale := false, allowLow := ofLe p < 150 } })) ∧
  (∀ (t : Nat) (s : State), s.hl.lastMsg + 5 * sec ≤ max s.gt t →
    exec (.allowStale t) s = .next { atT t s with hl := { s.hl with stale := true } }) ∧
  (∀ (t mw : Nat) (s : State), ∃ u, exec (.powerSample t mw) s = .next u ∧
    (let w := s.hl.samples.filter fun p => decide (max s.gt t ≤ p.1 + sec)
     u.hl.samples = w ++ [(max s.gt t, mw)] ∧
     u.hl.pIn = (if w.isEmpty then s.hl.pIn else (w.map (·.2)).sum / w.length / 100) ∧
     u.hl.pPeak = max s.hl.pPeak u.hl.pIn)) ∧
  (∀ (t : Nat) (x : Int) (temps : List Int) (s : State), ∃ u, exec (.dieTempRead t (x :: temps)) s = .next u ∧
    u.hl.tDie = (hottestOf ((x :: temps).take 12)).1 ∧ u.hl.hottest = (hottestOf ((x :: temps).take 12)).2 ∧
    u.hl.over105 = mark (decide (105 ≤ u.hl.tDie)) s.hl.over105 (max s.gt t) ∧
    u.hl.over120 = mark (decide (120 ≤ u.hl.tDie)) s.hl.over120 (max s.gt t) ∧
    u.hl.under95 = mark (decide (u.hl.tDie ≤ 95)) s.hl.under95 (max s.gt t)) ∧
  (∀ (t : Nat) (x m : Int) (s : State), s.hl.inletMax = some m →
    exec (.inletRead t x) s = .next { atT t s with hl := { s.hl with inlet := x, inletMax := some (max m x) } }) ∧
  (∀ (t o : Nat) (s : State), s.hl.overPower = some o → o + sec ≤ max s.gt t → s.hl.bgRun = [] →
    s.hl.allow < s.hl.pIn →
    exec (.tierRule2 t) s = .next (tierName (wantTier 2 (min 3 (s.hl.want + 1))
      { atT t s with hl := { s.hl with overPower := some (max s.gt t) } }))) ∧
  (∀ (t o : Nat) (s : State), s.hl.over105 = some o → o + sec ≤ max s.gt t → s.hl.last3 = none → s.hl.want < 3 →
    exec (.tierRule3 t) s = .next (tierName (wantTier 3 (s.hl.want + 1) { atT t s with hl := { s.hl with
      last3 := some (max s.gt t), hotSteps := satInc 0xFF s.hl.hotSteps } }))) ∧
  (∀ (t : Nat) (s : State), rule5Ok (atT t s) = true →
    exec (.tierRule5 t) s = .next (tierName (wantTier 5 (s.hl.want - 1) (atT t s)))) ∧
  (∀ (t o : Nat) (s : State), s.hl.over115 = some o → o + sec ≤ max s.gt t →
    exec (.hot t) s = .next { atT t s with hl := { s.hl with hot := true } }) ∧
  (∀ (t o : Nat) (s : State), s.hl.over120 = some o → o + sec ≤ max s.gt t → s.mod.tup.role ≠ .retired →
    exec (.hlOvertemp t) s = .next (retireModule .fault (occur Code.hlOvertemp Src.heat 0 (atT t s)))) ∧
  (∀ (t kind w : Nat) (s : State), Tab.find? s.hl.bgWait kind = some w → w + 60 * sec ≤ max s.gt t →
    Tab.find? s.hl.bgDefer kind = none →
    exec (.hlDefer t kind) s = .next (occur Code.hlDefer Src.heat 0 { atT t s with hl := { s.hl with
      bgDefer := Tab.set s.hl.bgDefer kind (max s.gt t) } })) ∧
  (∀ (t : Nat) (rails : List Nat) (s : State), s.hl.railMin ≠ some (max s.gt t / (60 * sec)) →
    exec (.hlRail t rails) s = .next (((rails.take 16).zip (List.range 16)).foldl
      (fun s p => occurU Code.hlRail (Src.heat + p.2) p.1 s)
      { atT t s with hl := { s.hl with railMin := some (max s.gt t / (60 * sec)) } })) ∧
  (∀ (t : Nat) (s : State), s.con.powered = true →
    exec (.holdUpCharged t) s = .next { atT t s with hl := { s.hl with charged := true } }) ∧
  (∀ (t kind : Nat) (s : State), bgAdmitOk kind (atT t s) = true → kind ∉ s.hl.bgRun → kind ≠ 4 →
    exec (.backgroundAdmit t kind) s =
      .next (bgUnwant kind { atT t s with hl := { s.hl with bgRun := s.hl.bgRun ++ [kind] } })) ∧
  (∀ (t : Nat) (s : State), 2 ∈ s.hl.bgRun → s.fwu.hashing = false → s.chg.job = none →
    exec (.backgroundUnitDone t 2 []) s =
      .next { atT t s with hl := { s.hl with bgRun := s.hl.bgRun.filter (· ≠ 2) } }) ∧
  (∀ (t : Nat) (frame p : List Byte) (s : State), mgtPayload s 0x10 16 frame = some p → s.con.identity = false →
    s.clk.xbSettle = none →
    exec (.mgtIdentity t frame) s = .next { atT t s with
      con := { s.con with identity := true }
      clk := { s.clk with
        xbSettle := some (if 1 ≤ field p 8 2 ∧ field p 8 2 ≤ 5000 then field p 8 2 else 1000)
        xb := { s.clk.xb with st := 1, since := max s.gt t } } }) ∧
  (∀ (t : Nat) (s : State), s.con.identity = false → s.clk.xbSettle = none → s.con.porAt + 2 * sec ≤ max s.gt t →
    exec (.identityTimeout t) s = .next { atT t s with clk := { s.clk with
      xbSettle := some 1000, xb := { s.clk.xb with st := 1, since := max s.gt t } } })

/-- Trip I/O commands complete: R271 to R291, Tables 10.4 and 10.5. -/
def Obligations.TripIoCommandsComplete : Prop :=
  (∀ (t : Nat) (m : TioMeas) (s : State), tioLoaded s = true → fircOnly s = false →
    max s.gt t % (500 * us) ≤ 20 * us → s.tio.win ≠ some (max s.gt t / (500 * us)) →
    ∃ u, exec (.tioSampleWindow t m) s = .next u ∧ u.tio.regs = tioRegsNow u ∧
      (tioDriving s = false →
        let w := max s.gt t / (500 * us)
        let e := 500 * us * w + 20 * us
        let s0 := tiKeep e { atT t s with tio := { s.tio with win := some w } }
        let x := testSource s0 w
        let s1 := (List.range 24).foldl (tiMonWindow m x) s0
        let s2 := (List.range 12).foldl pairWindow s1
        let s3 := latchDemand ((List.range 12).filter (tqDemand s2)) s2
        let s4 := (List.range 24).foldl resetWindow s3
        let s5 := (List.range 2).foldl (fun s g => updFs g (fun f => { f with
          current := groupCurrent m g
          ovr := mark (decide (4000000 < groupCurrent m g)) f.ovr s.gt }) s) s4
        let s6 := tioPoints e m.sinks x (tioDecide s5)
        u = { s6 with tio := { s6.tio with regs := tioRegsNow s6 } })) ∧
  (∀ (t : Nat) (s : State), exec (.tioRefresh t true) s = .next (tioRefreshNow false (atT t s))) ∧
  (∀ (t : Nat) (s : State), tioLoaded s = true → s.tio.silent = false →
    s.tio.lastRefresh + field s.tio.section_ 14 2 * ms ≤ max s.gt t →
    exec (.tioLinkSilent t) s = .next (tioDecide (latchAll (List.range 12)
      (occur Code.tioLinkSilent Src.tio 0 { atT t s with tio := { s.tio with silent := true } })))) ∧
  (∀ (t pair d : Nat) (s : State), tiPair s.tio.section_ pair ≠ 0 → (tiOf s (2 * pair)).disc = false →
    (tiOf s (2 * pair)).discSince = some d → d + (tiDisc s.tio.section_ pair * ms + 1) ≤ max s.gt t →
    exec (.pairDisc t pair) s = .next (tioDecide (latchDemand ((List.range 12).filter fun q => tqDemand s q)
      (tioFault (2 * pair) 3 (updTi (2 * pair) (fun c => { c with disc := true }) (atT t s)))))) ∧
  (∀ (t i : Nat) (s : State), tioDriving s = true → tiMode s.tio.section_ i ≠ 0 → isRetired s (.ti i) = false → i < 24 →
    exec (.sinkCheck t i true) s = .next (updTi i (fun c => { c with sinkFault := none }) (atT t s))) ∧
  (∀ (t q b : Nat) (s : State), tioDriving s = true → (tqOf s q).breach = some b → b + 2 * ms ≤ max s.gt t →
    (∀ f ∈ (tqOf s q).faults, f.1 ≠ 12) →
    exec (.tioReadback t q) s = .next (tqChannelFault q 12 (atT t s))) ∧
  (∀ (t q : Nat) (s : State), tioDriving s = true →
    exec (.overcurrent t q true) s = .next (tioDecide (tqFieldFault q 6 (atT t s)))) ∧
  (∀ (t q o : Nat) (s : State), tioDriving s = true → (tqOf s q).ovr = some o → o + (5 * ms + 1) ≤ max s.gt t →
    exec (.overcurrent t q false) s = .next (tioDecide (tqFieldFault q 6 (atT t s)))) ∧
  (∀ (t g o : Nat) (s : State), tioDriving s = true → (fsOf s g).ovr = some o → o + 5 * ms ≤ max s.gt t →
    overloads s g ≠ [] →
    exec (.groupOverload t g) s = .next (tioDecide (tioFault (0x60 + g) 7
      ((overloads s g).foldl (fun s q => tqLatch q 7 s) (atT t s))))) ∧
  (∀ (t q : Nat) (s : State), (tqOf s q).on = true → darkRuns (atT t s) q = false → (fsOf s (tqGroup q)).level ≤ 1 →
    tioQuiet (atT t s) = false → s.tio.lastDark = none → darkDue (atT t s) q = true →
    exec (.darkTestStart t q) s = .next (updTq q (fun c => { c with
      dark := some (!c.nextLow, max s.gt t, c.current.toNat)
      lastHigh := if c.nextLow then c.lastHigh else some (max s.gt t)
      lastLow := if c.nextLow then some (max s.gt t) else c.lastLow
      nextLow := !c.nextLow })
      { atT t s with tio := { s.tio with lastDark := some (max s.gt t) } })) ∧
  (∀ (t q a p : Nat) (m : DarkMeas) (s : State), (tqOf s q).dark = some (false, a, p) →
    darkRuns (atT t s) q = true → m.loCur < 2000 →
    m.hiCur < 2000 →
    exec (.darkTestEnd t q m) s = .next (tioDecide (updTq q (fun c => { c with dark := none }) (atT t s)))) ∧
  (∀ (t q a p : Nat) (m : DarkMeas) (s : State), (tqOf s q).dark = some (false, a, p) →
    darkRuns (atT t s) q = true → 2000 ≤ m.loCur →
    exec (.darkTestEnd t q m) s =
      .next (tioDecide (tqChannelFault q 11 (updTq q (fun c => { c with dark := none }) (atT t s))))) ∧
  (∀ (t q h : Nat) (s : State), tioDriving s = true → (tqOf s q).heldUp = some h → h + field s.tio.section_ 10 2 * sec ≤ max s.gt t →
    isRetired s (.tq q) = false → (∀ f ∈ (tqOf s q).faults, f.1 ≠ 8) →
    exec (.shortToSupply t q) s = .next (retireTq q 9 (tioFault (0x40 + q) 9 (atT t s)))) ∧
  (∀ (t g mv : Nat) (s : State), exec (.tioSupplyMeasure t g mv) s = .next (updFs g (fun f => { f with
    mv := mv
    below := (fallMv.zip f.below).map fun p => mark (decide (mv < p.1)) p.2 (max s.gt t)
    above := (riseMv.zip f.above).map fun p => mark (decide (p.1 ≤ mv)) p.2 (max s.gt t) }) (atT t s))) ∧
  (∀ (t g l : Nat) (s : State),
    ([3, 2, 1].find? fun l => held ((fsOf s g).below.getD (l - 1) none) ms (max s.gt t)) = some l →
    (fsOf s g).level < l →
    exec (.tioSupplyDown t g) s = .next (fsTake g l (atT t s))) ∧
  (∀ (t g l : Nat) (s : State),
    ([0, 1, 2].find? fun l => held ((fsOf s g).above.getD l none) (50 * ms) (max s.gt t)) = some l →
    l < (fsOf s g).level →
    exec (.tioSupplyUp t g) s = .next (fsTake g l (atT t s))) ∧
  (∀ (t e : Nat) (s : State), s.tio.overlap = some e → e ≤ max s.gt t →
    exec (.tioOverlapEnd t) s = .next (ejectFinish (tioDecide { atT t s with tio := { s.tio with
      overlap := none, drive := tioDriver s } })))

/-- Analog loop commands complete: R297 to R310, Tables 11.3 and 11.4. -/
def Obligations.AnalogLoopCommandsComplete : Prop :=
  (∀ (t x : Nat) (na raw mv : Int) (nh : Bool) (s : State), (alPar s x).mode ≠ .off → x < 4 →
    fircOnly s = false → (alCh s x).lastConv + alConvTime (alCh s x).clk ≤ max s.gt t →
    exec (.alpConversion t x na raw mv nh) s = .next (alRegsTake (alDeliver x mv (alSettle x (alJudge x
      (alLimiter (alPar s x) nh na)
      (alMeasure x na raw mv (alSettle x (alKeep x (feTest x (atT t s)))))))))) ∧
  (∀ (t x : Nat) (s : State), exec (.alpRefresh t x true) s =
    .next (alSettle x (updAl x (fun c => { c with lastRefresh := max s.gt t, silent := false }) (atT t s)))) ∧
  (∀ (t x : Nat) (s : State), (alPar s x).mode ≠ .off → (alCh s x).lastRefresh + (alPar s x).timeout ≤ max s.gt t →
    exec (.alpLogicSilent t x) s = .next (alSettle x (updAl x (fun c => { c with silent := true }) (atT t s)))) ∧
  (∀ (t x r : Nat) (s : State), alDrives (alPar s x).mode = true → (alCh s x).readback = some r →
    r + 100 * ms ≤ max s.gt t → alHas (alCh s x) 1 = false →
    exec (.alpReadback t x) s = .next (alFault x 1 (atT t s))) ∧
  (∀ (t x r : Nat) (s : State), (alPar s x).mode = .input → (alCh s x).readback = some r → r + 100 * ms ≤ max s.gt t →
    alHas (alCh s x) 3 = false → exec (.overrange t x) s = .next (alFault x 3 (atT t s))) ∧
  (∀ (t x : Nat) (s : State), (alPar s x).mode = .sink → (alCh s x).en = true →
    (alCh s x).lastConv + 32 * ms ≤ max s.gt t → alHas (alCh s x) 5 = false →
    exec (.feSilent t x) s =
      .next (alFault x 5 (updAl x (fun c => { c with clk := 0, fit := none, convs := [] }) (atT t s)))) ∧
  (∀ (t x : Nat) (s : State), (alPar s x).mode = .source → (alCh s x).lastConv + ms ≤ max s.gt t →
    alHas (alCh s x) 4 = false → fircOnly s = false →
    exec (.feSilent t x) s = .next (alFault x 4 (atT t s))) ∧
  (∀ (t x : Nat) (s : State), (alPar s x).mode ≠ .off → fircOnly s = false →
    exec (.feCheck t x true) s = .next (alClear x 6 (atT t s))) ∧
  (∀ (t x : Nat) (s : State), (alPar s x).mode ≠ .off → fircOnly s = false →
    exec (.feCheck t x false) s = .next (alFault x 6 (atT t s))) ∧
  (∀ (t x k : Nat) (s : State), (alCh s x).compl = some k → k + 2 * sec ≤ max s.gt t → (alCh s x).complNoted = false →
    exec (.alCompliance t x) s = .next (occur Code.alCompliance (Src.al x) 0
      (updAl x (fun c => { c with complNoted := true }) (atT t s)))) ∧
  (∀ (t x f : Nat) (s : State), (alPar s x).mode = .sink → (alCh s x).fit = some f → f + 50 * ms ≤ max s.gt t →
    (alCh s x).clk < 5 →
    exec (.alpClockStepUp t x) s = .next (updAl x (fun c => { c with
      clk := c.clk + 1
      fit := if c.clk + 1 < 5 ∧ (alDraw (c.clk + 2) : Int) ≤ alAvail (max s.gt t) c.convs then some (max s.gt t)
        else none }) (atT t s))) ∧
  (∀ (t t0 : Nat) (up : Bool) (s : State), s.alp.ramp = some (up, t0) → t0 + 2 * ms ≤ max s.gt t →
    exec (.alpRampEnd t) s = .next (ejectFinish (alSettleAll { atT t s with alp := { s.alp with ramp := none } }))) ∧
  (∀ (t x a k : Nat) (r : HartReply) (s : State), (alCh s x).job = some (.identify, a, k) → r.commErr = false →
    exec (.hartResponse t x r) s =
      .next (hartEnd x false (updAl x (fun c => { c with known := true }) (atT t s)))) ∧
  (∀ (t x a k : Nat) (j : HartJob) (s : State), (alCh s x).job = some (j, a, k) → a + 500 * ms ≤ max s.gt t →
    exec (.hartTimeout t x) s = .next (hartFailed x (atT t s))) ∧
  (∀ (t x cmd : Nat) (r : HartReq) (d : List Byte) (s : State), (alPar s x).mode = .sink → (alCh s x).en = true →
    x < 4 → hartMine r = true → 2 ≤ (alCh s x).clk → hartAnswer s x cmd = some d →
    exec (.hartRequest t x cmd r) s = .next { atT t s with
      alp := { s.alp with transactions := satInc 0xFFFF s.alp.transactions }
      free := s.free + 1
      out := s.out ++ [.hart x r.long cmd ([0, 0] ++ d)] })

/-- CAN commands complete: R312 to R324, Tables 12.3, 12.4 and 17.5. -/
def Obligations.CanCommandsComplete : Prop :=
  (∀ (t x : Nat) (f : CanFrame) (s : State), (canPar s x).en = true → isRetired s (.can x) = false →
    (canPort s x).sleep = false → f.rtr = false →
    (f.fdf = false ∨ (canPar s x).fd = true) → (canPort s x).err ≠ 2 → x < 4 → fircOnly s = false →
    exec (.canFrameReceived t x f) s =
      .next (canTake x f (updCan x (fun p => { p with
        stuck := false
        recv := f.errs
        err := if p.err = 1 ∧ p.tec < 128 ∧ f.errs < 128 then 0 else p.err }) (atT t s)))) ∧
  (∀ (t x : Nat) (e : CanEntry) (r : List CanEntry) (s : State), (canPort s x).fifo = e :: r →
    (canPort s x).sending = false → (canPort s x).sleep = false → (canPort s x).err ≠ 2 → canLive s x = true →
    canStale (atT t s) x e = false →
    exec (.canArbitrationStart t x) s = .next (updCan x (fun p => { p with
      fifo := { e with begun := true } :: r, sending := true }) (atT t s))) ∧
  (∀ (t x : Nat) (e : CanEntry) (r : List CanEntry) (s : State), (canPort s x).fifo = e :: r →
    (canPort s x).sending = false → (canPort s x).sleep = false → (canPort s x).err ≠ 2 → canLive s x = true →
    canStale (atT t s) x e = true →
    exec (.canArbitrationStart t x) s = .next (canBegin x r (canDrop x 2 (atT t s)))) ∧
  (∀ (t x : Nat) (s : State),
    exec (.canArbitrationLost t x) s = .next (updCan x (fun p => { p with sending := false }) (atT t s))) ∧
  (∀ (t x tec rec' : Nat) (e : CanEntry) (r : List CanEntry) (s : State), (canPort s x).fifo = e :: r →
    (canPort s x).sending = true → (canPort s x).sleepAfter = false →
    exec (.canTxComplete t x tec rec') s =
      .next (emit (.can x e.id e.ide e.fdf e.brs ((canPort s x).err = 1) e.data) (updCan x (fun p => { p with
      fifo := r
      sending := false
      sent := satInc 0xFFFF p.sent
      tec := tec
      recv := rec'
      err := if p.err = 1 ∧ tec < 128 ∧ rec' < 128 then 0 else p.err }) (atT t s)))) ∧
  (∀ (t x tec rec : Nat) (s : State), canLive s x = true → 255 < tec →
    exec (.canBusOff t x ⟨true, tec, rec⟩) s = .next (canFault x 1 (updCan x (fun p => { p with
      err := 2, sending := false, tec := tec, recv := rec, held := none }) (atT t s)))) ∧
  (∀ (t x tec rec : Nat) (s : State), canLive s x = true → 255 < tec →
    exec (.canBusOff t x ⟨false, tec, rec⟩) s = .next (canFault x 4 (updCan x (fun p => { p with
      err := 2, sending := false, tec := tec, recv := rec, held := some (max s.gt t) }) (atT t s)))) ∧
  (∀ (t x : Nat) (s : State), (canPort s x).err = 2 →
    exec (.canBusOffRecovered t x) s =
      .next (updCan x (fun p => { p with err := 0, tec := 0, recv := 0 }) (atT t s))) ∧
  (∀ (t x tec rec : Nat) (s : State), canLive s x = true → (canPort s x).err = 0 → (128 ≤ tec ∨ 128 ≤ rec) →
    exec (.canErrorPassive t ⟨x, tec, rec⟩) s = .next (canFault x 2 (updCan x (fun p => { p with
      err := 1, tec := tec, recv := rec }) (atT t s)))) ∧
  (∀ (t x : Nat) (s : State), (canPar s x).en = true → isRetired s (.can x) = false →
    (canPort s x).sending = false → fircOnly s = false →
    exec (.stuckDominant t x) s = .next (canFault x 3 (updCan x (fun p => { p with stuck := true }) (atT t s)))) ∧
  (∀ (t x : Nat) (s : State), canLive s x = true →
    exec (.txdTimeout t x) s = .next (canFault x 5 (updCan x (fun p => { p with
      held := some (max s.gt t), sending := false }) (atT t s)))) ∧
  (∀ (t x h : Nat) (s : State), (canPort s x).held = some h → h + sec ≤ max s.gt t →
    exec (.loopbackRetry t x true) s = .next (updCan x (fun p => { p with held := none }) (atT t s))) ∧
  (∀ (t x : Nat) (f : Option CanFrame) (s : State), isRetired s (.can x) = false → (canPort s x).sleep = true →
    fircOnly s = false →
    exec (.canWake t x f) s = .next (canWakeNow x f (atT t s))) ∧
  (∀ (t x : Nat) (s : State), (canPort s x).readmit = true → isRetired s (.can x) = true →
    exec (.canRecessiveBits t x) s = .next (canGate (updCan x (fun p => { p with
      readmit := false, held := none, err := 0, tec := 0, recv := 0, sleep := false, sleepAfter := false
      wakeAfter := none })
      (readmitRecord (.can x) (atT t s)))))

/-- Clock commands complete: R372 to R385, Tables 15.2, 15.6 and 15.7. -/
def Obligations.ClockCommandsComplete : Prop :=
  (∀ (t d : Nat) (s : State), s.clk.on = true → s.clk.xa.st ≠ 2 → s.clk.xa.barred = false →
    s.clk.xa.checking = false → settleNs s false = some d → s.clk.xa.since + d ≤ max s.gt t →
    exec (.sourceSettled t false) s = .next { atT t s with clk := { s.clk with
      xa := { s.clk.xa with st := 1, since := max s.gt t, checking := true } } }) ∧
  (∀ (t d : Nat) (s : State), s.clk.on = true → s.clk.xb.st ≠ 2 → s.clk.xb.barred = false →
    s.clk.xb.checking = false → settleNs s true = some d → s.clk.xb.since + d ≤ max s.gt t →
    exec (.sourceSettled t true) s = .next { atT t s with clk := { s.clk with
      xb := { s.clk.xb with st := 1, since := max s.gt t, checking := true } } }) ∧
  (∀ (t : Nat) (a b r : Int) (s : State), s.clk.xa.st = 2 →
    ∃ u, exec (.freqWindowEnd t a b r) s = .next u ∧ u.clk.xaDev = a ∧
      (let s1 := judgeSrc false a none (atT t s)
       let s2 := judgeSrc true b (if srcGood s1 false then some r else none) s1
       u = { s2 with clk := { s2.clk with xaDev := a, xbDev := if srcGood s2 false then r else 0 } })) ∧
  (∀ (t : Nat) (xb : Bool) (s : State), srcGood s xb = true →
    exec (.sourceEdgeLoss t xb) s = .next (srcLost xb false (atT t s))) ∧
  (∀ (t n : Nat) (s : State), 0 < n → n < 7 → (pllOf s n).ref ≠ 0 → (pllOf s n).fault = false →
    ∃ u v, exec (.pllLocked t n) s = .next u ∧
      v = { atT t s with clk := { s.clk with plls := updAt s.clk.plls n fun p => { p with lock := true } } } ∧
      u = netWake ((pllTakes v n).foldl (fun s d => switchReq (muxHome s d) s d) v)) ∧
  (∀ (t : Nat) (s : State), (pllOf s 0).ref ≠ 0 → (pllOf s 0).fault = false → s.mod.tup.tier ≠ .t3 →
    ∃ u v w, exec (.pllLocked t 0) s = .next u ∧
      v = { atT t s with clk := { s.clk with
        plls := updAt s.clk.plls 0 fun p => { p with lock := true }, vco := tierNum s.mod.tup.tier } } ∧
      w = (pllTakes v 0).foldl (fun s d => switchReq (muxHome s d) s d) v ∧
      u = netWake (if muxNow w 0 = .pll1 then switchReq .source w 0 else w)) ∧
  (∀ (t n : Nat) (s : State), n < 7 → (pllOf s n).lock = true → (pllOf s n).fault = false → (pllOf s n).ref = 3 →
    exec (.pllLockLoss t n) s = .next (pllFails n { atT t s with clk := { s.clk with
      plls := updAt s.clk.plls n fun p => { p with lock := false } } })) ∧
  (∀ (t dom : Nat) (w : Switch) (s : State), s.clk.switching.find? (·.dom = dom) = some w →
    muxRuns s dom (muxNow s dom) = true → muxRuns s dom w.dst = true →
    exec (.clkSwitchDone t dom) s = .next (agreeReady (switched dom w.dst { atT t s with clk := { s.clk with
      switching := s.clk.switching.erase w } }))) ∧
  (∀ (t dom : Nat) (w : Switch) (s : State), s.clk.switching.find? (·.dom = dom) = some w →
    (muxRuns s dom (muxNow s dom) = false ∨ muxRuns s dom w.dst = false) →
    exec (.clkSwitchDone t dom) s = .next (agreeReady (atT t s))) ∧
  (∀ (t dom : Nat) (w : Switch) (s : State),
    (s.clk.switching.find? fun w => w.dom = dom && decide (w.at_ + 61 * us ≤ max s.gt t)) = some w →
    exec (.clkForced t dom) s = .next (forceSwitch w (atT t s))) ∧
  (∀ (t blk at_ : Nat) (s : State), (blk, at_) ∈ s.clk.quiesce → gateWaits s blk = false →
    s.clk.gated.testBit blk = false →
    exec (.quiesceAck t blk) s = .next { atT t s with clk := { s.clk with
      quiesce := s.clk.quiesce.filter (·.1 ≠ blk), gated := s.clk.gated + 2 ^ blk } }) ∧
  (∀ (t blk at_ : Nat) (s : State), (blk, at_) ∈ s.clk.quiesce → at_ + 50 * us ≤ max s.gt t →
    gateWaits s blk = false → s.clk.gated.testBit blk = false →
    exec (.clkQuiesceTimeout t blk) s = .next (occur Code.clkQuiesceTimeout Src.clocks 0 (noteFault Src.clocks 1
      { atT t s with
        clk := { s.clk with
          quiesce := s.clk.quiesce.filter (·.1 ≠ blk)
          gated := s.clk.gated + 2 ^ blk
          held := s.clk.held.filter (· ≠ blk) ++ [blk]
          quTimeouts := satInc 0xFFFF s.clk.quTimeouts
          quLast := blk }
        flt := { s.flt with l1 := satInc 0xFFFF s.flt.l1 } }))) ∧
  (∀ (t blk : Nat) (s : State), s.clk.gated.testBit blk = false →
    exec (.gateResetRelease t blk) s =
      .next { atT t s with clk := { s.clk with held := s.clk.held.filter (· ≠ blk) } })

/-- The commands of faults, self-test and recorder complete: R403 to R413, R417 to R428, R436, R443, Tables 17.2 to 17.5. -/
def Obligations.FaultAndTestCommandsComplete : Prop :=
  (∀ (t target : Nat) (s : State), engineOfSrc target = none → Tab.find? s.flt.l0Last target = none →
    exec (.fltL0 t target 4) s = .next (occur Code.fltL0 target 0 (noteFault target 0 { atT t s with
      flt := { s.flt with l0 := satInc 0xFFFF s.flt.l0, l0Last := Tab.set s.flt.l0Last target (max s.gt t) } }))) ∧
  (∀ (t engine : Nat) (s : State), 0 < engine → engine ≤ 6 → isRetired s (.engine engine) = false →
    engineServed engine s + engineLimit engine s ≤ max s.gt t →
    ∃ u v, exec (.engineWatchdogExpiry t engine true) s = .next u ∧
      v = engineFault engine (engineStops engine (noteFault (unitSrc s (.engine engine)) 4 { atT t s with
        flt := { s.flt with
          l4 := satInc 0xFFFF s.flt.l4
          lastEngine := engine
          restarted := Tab.set s.flt.restarted engine (max s.gt t) } })) ∧
      u = { v with flt := { v.flt with lastLevel := 4 } }) ∧
  (∀ (t : Nat) (s : State), s.con.inReset = false →
    exec (.l5Service t) s = .next { atT t s with flt := { s.flt with l5Served := max s.gt t } }) ∧
  (∀ (t : Nat) (s : State), s.con.inReset = false → s.flt.l5Served + 476 * ms ≤ max s.gt t →
    ∃ u, exec (.fltL5 t) s = .next u ∧ u.flt.hwSafe = true ∧ u.flt.l5 = satInc 0xFFFF s.flt.l5 ∧
      u.flt.lastLevel = 5 ∧ u.nva.modRetired = some .fault ∧ u.con.inReset = true ∧ u.mod.tup = tupleReset) ∧
  (∀ (t : Nat) (s : State), max s.gt t % (125 * ms) = 0 → s.flt.lastDrain ≠ max s.gt t →
    exec (.drainTick t) s = .next { atT t s with
      flt := { s.flt with lastDrain := max s.gt t }
      nva := { s.nva with buckets := (s.nva.buckets.map fun b =>
        (b.1, if isRetired s b.1 then b.2 else b.2 - 1)).filter fun b => b.2 ≠ 0 } }) ∧
  (∀ (t code : Nat) (u : UnitId) (s : State), faultLong (atT t s) u code = true →
    exec (.persistenceExpiry t u code) s = .next (retireUnit u code (atT t s))) ∧
  (∀ (t mem row : Nat) (s : State), mem < 3 →
    exec (.eccCorrected t mem row) s = .next (rowFault mem row 8 (atT t s))) ∧
  (∀ (t mem row word : Nat) (s : State), mem < 3 →
    exec (.eccUncorrectable t mem ⟨row, word, 4⟩) s =
      .next (rowFault mem row 32 (poisonWord (wordAddr mem row word) (atT t s)))) ∧
  (∀ (t blk : Nat) (s : State), blk ∉ s.nva.nandOut →
    exec (.nandProgramFail t blk) s = .next { atT t s with nva := { s.nva with nandOut := s.nva.nandOut ++ [blk] } }) ∧
  (∀ (t : Nat) (r : SliceRes) (s : State), s.bst.running = some (r.kind, r.unit) → r.pass = true →
    (sliceEnd (compatEnd r.kind r.unit { atT t s with bst := { s.bst with
      slices := satInc 0xFFFF s.bst.slices } })).bst.awaited = [] →
    exec (.bstSliceDone t r) s = .next (testPass r.kind r.unit r.rows (roundStep r.kind
      (sliceEnd (compatEnd r.kind r.unit { atT t s with bst := { s.bst with
        slices := satInc 0xFFFF s.bst.slices } }))))) ∧
  (∀ (t k u : Nat) (s : State), s.bst.running = some (k, u) → s.bst.startedAt + 2 * sliceNs k < max s.gt t →
    ∃ v w, exec (.bstTimeout t) s = .next w ∧
      v = occur Code.bstTimeout u 0 (sliceEnd (compatEnd k u { atT t s with bst := { s.bst with
        timeouts := satInc 0xFF s.bst.timeouts } })) ∧
      w = (testedUnits v u).foldl (fun s x => if isRetired s x then s else match x with
          | .engine e => engineFault e s
          | _ => unitFault x k s) v) ∧
  (∀ (t : Nat) (s : State), s.bst.armed = true → s.bst.late = false → s.bst.roundStart + roundLimit s ≤ max s.gt t →
    exec (.bstRoundLate t) s = .next (occur Code.bstRoundLate Src.teasel 0 { atT t s with
      bst := { s.bst with late := true } })) ∧
  (∀ (t code : Nat) (s : State), codeDue code (atT t s) = true →
    exec (.sorrelRateWrite t code) s = .next (flushCode code (atT t s))) ∧
  (∀ (t epoch : Nat) (r : Rec) (s : State), epoch % epochLen 1 = 0 → epoch + epochLen 1 + 2 * sec ≤ max s.gt t →
    r ∈ s.nva.recCur → r.epoch = epoch → r.isSealed = false →
    exec (.sorrelSeal t epoch) s = .next (bgWant 5 { atT t s with nva := { s.nva with
      recCur := s.nva.recCur.map fun r => if r.epoch = epoch && !r.isSealed then { r with isSealed := true } else r
      rollWait := s.nva.rollWait ++ [(1, epoch)] } }))

/-- The commands of boot, firmware, the service line and the gates complete: R452 to R472, R487, R366 to R368, R365. -/
def Obligations.BootServiceAndGateCommandsComplete : Prop :=
  (∀ (t : Nat) (p : PorIn) (s : State), s.con.inReset = true →
    ∃ u, exec (.powerOnResetRelease t p) s = .next u ∧ u.con.inReset = false ∧ u.mod.slot = p.slot % 16 ∧
      u.mod.serial = p.serial ∧ u.nva.boots = satInc 0xFFFFFFFF s.nva.boots ∧ u.fwu.bootStep = 1 ∧
      u.fwu.bootStart = max s.gt t ∧ u.clk.on = true) ∧
  (∀ (t : Nat) (b : BootIn) (s : State), booting s = true → bootLate (atT t s) = false → b.fails = [] →
    b.keyDigestOk = true → s.mod.tup.role ≠ .retired →
    ∃ u v, exec (.bootStepDone t b) s = .next u ∧ v = bootKinds s.fwu.bootStep [] (atT t s) ∧
      u = bootStepAct s.fwu.bootStep b v) ∧
  (∀ (t : Nat) (s : State), booting s = true → bootLate (atT t s) = true →
    exec (.bootOverrun t) s = .next (bootFail (atT t s))) ∧
  (∀ (t digest : Nat) (s : State), s.fwu.hashing = true → s.chg.job = none →
    exec (.imageHashDone t digest) s = .next (bgUnwant 2 (updSlot (altSlot s)
      (fun x => { x with complete := true, digest := digest })
      { atT t s with fwu := { s.fwu with hashing := false } }))) ∧
  (∀ (t : Nat) (s : State), s.fwu.resetAt.isSome = true →
    exec (.fwActivateReset t) s = .next (moduleReset (atT t s))) ∧
  (∀ (t : Nat) (s : State), s.mod.tup.fw = .trial → s.fwu.trialEnd ≠ 0 → s.fwu.trialEnd ≤ max s.gt t →
    s.fwu.windowFall = false →
    exec (.fwTrialWindowEnd t) s =
      .next (ptrFall .window { atT t s with fwu := { s.fwu with windowFall := true } })) ∧
  (∀ (t : Nat) (frame : List Byte) (s : State), svcOk frame = true → field frame 2 1 = 0x01 → s.con.inReset = false →
    exec (.serviceHello t frame) s = .next (svcHello frame (atT t s))) ∧
  (∀ (t : Nat) (frame : List Byte) (g : Grant) (s : State), svcOk frame = true → field frame 2 1 = 0x02 →
    s.con.inReset = false → s.fwu.speedwell = true → field frame 4 2 = 196 →
    exec (.serviceGrant t frame g) s = .next (svcAck frame .ok { atT t s with fwu := { s.fwu with
      speedGrant := some g, speedUsed := false } })) ∧
  (∀ (t : Nat) (frame : List Byte) (hdr : Option ImageHdr) (s : State), svcOk frame = true → field frame 2 1 = 0x03 →
    s.con.inReset = false → s.fwu.speedwell = true → field frame 4 2 ≠ 0 → field frame 4 2 % 4 = 0 →
    noFirmwareKey s = true → chunkArgsOk (field frame 6 4) s.fwu.speedTotal (field frame 4 2) = true →
    exec (.serviceChunk t frame hdr) s = .next (svcAck frame .ok
      (chunkStore (field frame 6 4) s.fwu.speedTotal (field frame 4 2) hdr (atT t s)))) ∧
  (∀ (t : Nat) (frame : List Byte) (s : State), svcOk frame = true → field frame 2 1 = 0x04 → s.con.inReset = false →
    s.fwu.speedwell = true → noFirmwareKey s = true → s.nva.slotA.complete = true → speedwellStatus s = none →
    exec (.serviceActivate t frame) s = .next (speedwellInstall 2 (svcAck frame .ok (atT t s)))) ∧
  (∀ (t : Nat) (frame : List Byte) (s : State), svcOk frame = true → field frame 2 1 = 0x05 → s.con.inReset = false →
    exec (.serviceStatus t frame) s = .next (emit (.service (svcFrame 0x82 (field frame 3 1)
      ((svcRegs.map fun o => le 4 (readReg (atT t s) o).toNat).flatten))) (atT t s))) ∧
  (∀ (t : Nat) (s : State), s.gate.mask ≠ 0 → s.gate.expiry ≤ max s.gt t →
    exec (.debugUnlockExpiry t) s = .next (occurU Code.gateUnlock (Src.gate 0) 0
      { atT t s with gate := { s.gate with mask := 0, expiry := 0 } })) ∧
  (∀ (t : Nat) (a : Access) (s : State), accessOk a = true → a.kind = 1 → (gateDecide (asDebug a) s).1 = true →
    exec (.debugAccess t a) s = .next (emit (.debug false []) (busWrite a.addr a.data { atT t s with
      flt := { s.flt with poison := s.flt.poison.filter fun w => !touches a w } }))) ∧
  (∀ (t : Nat) (a : Access) (s : State), accessOk a = true → a.kind = 1 → (gateDecide (asDebug a) s).1 = true →
    besideImages a.addr a.data.length = true →
    exec (.debugAccess t a) s = .next { atT t s with
      mem := memWrite s.mem a.addr a.data
      flt := { s.flt with poison := s.flt.poison.filter fun w => !touches a w }
      out := s.out ++ [.debug false []] }) ∧
  (∀ (t : Nat) (a : Access) (s : State), accessOk a = true → a.kind ≠ 1 → (gateDecide (asDebug a) s).1 = true →
    (∀ w ∈ s.flt.poison, touches a w = false) →
    exec (.debugAccess t a) s = .next { atT t s with
      free := s.free + a.len
      out := s.out ++ [.debug false (busRead s a.addr a.len)] }) ∧
  (∀ (t n : Nat) (a b : Access) (k : Nat × Nat × Nat × Bool) (s : State), b = asIssued a → gateAt b.addr = some n →
    accessOk b = true → b.master < 17 → (gateOf s n).armed = true → isolated s b = false → targetShut s n = false →
    gateCheck s n b = some k →
    exec (.gateProgramFault t a) s = .next (deniedEff b (violate n b k (atT t s))))

/-! ### Host commands: acceptance and grants -/

/-- R339, R51: outside BOOT a STANDBY, SYNCING or RETIRED module refuses the commands that change a driving module with
reason ROLE, and a module in BOOT completes them with NOT_READY; no grant is looked at. -/
def Obligations.CommandsNeedADrivingModule : Prop :=
  ∀ (t : Nat) (c : Call) (n ty : Nat) (v : DWord) (s : State) (x : Ordered), x ∈ ordered t c n ty v s →
    fetchable s c.ring = true → firstInLine s c.ring = true → bufAligned c = true → noBuf c = true →
    authOk true c.auth = true →
    s.fwu.speedwell = false →
    (s.mod.tup.run ≠ .boot → (s.mod.tup.role = .standby ∨ s.mod.tup.role = .syncing ∨ s.mod.tup.role = .retired) →
      exec x.1 s = .next (refuse (stamped c t s) x.2.1 x.2.2.1 .role (taken c t s))) ∧
    (s.mod.tup.run = .boot → exec x.1 s = .next (fail (stamped c t s) x.2.1 .notReady (taken c t s)))

/-- R343, R350: a command whose grant fails completes with the status of the first check of Table 13.8 that fails, adds 1
to HXP_LOST.GRANTS_REFUSED and writes HXP_GRANT_REFUSED with the status and KEY_SLOT; a command without a grant
completes with GRANT_MISSING. Nothing else of the command happens. The ring as the record's source, and KEY_SLOT 0
where no grant was carried, are the model's choice (log entry 27). -/
def Obligations.FailedGrantsEndTheCommand : Prop :=
  ∀ (t : Nat) (c : Call) (n ty : Nat) (v : DWord) (s : State) (x : Ordered) (st : Status) (slot : Nat),
    x ∈ ordered t c n ty v s → accepts c accD s = true → firstInLine s c.ring = true → noBuf c = true →
    ((∃ g, c.auth = .grant g ∧ slot = g.keySlot ∧
        grantCheck (taken c t s) false false (some x.2.2.2.1) (g.action = x.2.1) x.2.2.2.2 g = some st) ∨
      (c.auth = .none ∧ slot = 0 ∧ st = .grantMissing)) →
    exec x.1 s = .next (occur2 Code.hxpGrantRefused (Src.ring c.ring) (statusCode st) slot
      (complete (stamped c t s) x.2.1 st none 0 0 { taken c t s with
        hxp := { (taken c t s).hxp with grantsRefused := satInc 0xFFFF s.hxp.grantsRefused } }))

/-- Table 13.8: a single-use grant passes exactly when it satisfies every check of the table, check 7 as R347 and R469
read it and check 10 as R345 counts the nonces held. -/
def Obligations.GrantPassesEveryCheck : Prop :=
  ∀ (s : State) (free : Bool) (role action : Nat) (tgt : List Byte → Bool) (g : Grant),
    grantCheck s false free (some role) (g.action = action) tgt g = none ↔
      g.magic = 0x544E5247 ∧ g.format = 1 ∧ g.reservedZero = true ∧ g.flags = 0 ∧
      (∃ k, Tab.find? s.nva.keys g.keySlot = some k ∧ k.roles.testBit role = true ∧ grantSigned g k = true) ∧
      g.serial = s.mod.serial ∧ g.action = action ∧
      (s.fwu.speedwell = true ∨ (s.gt < g.expiry ∧
        (s.tim.valid = true → g.expiry ≤ s.gt + 3600 * 1000000000) ∧ (s.tim.valid = false → free = true))) ∧
      tgt g.target = true ∧
      (∀ p ∈ s.nva.nonces, s.gt < p.2 → p.1 ≠ g.nonce) ∧
      (s.nva.nonces.filter fun p => decide (s.gt < p.2)).length < 4096

/-- R345: once START has accepted a grant, no state that still holds the nonces then held accepts it again, for any
command; and the nonces outlast every reset of the module and every command but the acceptance of a later grant,
which drops those that have reached their EXPIRY. -/
def Obligations.GrantActsAtMostOnce : Prop :=
  (∀ (t t2 : Nat) (c c2 : Call) (g : Grant) (op role : Nat) (free : Bool) (tgt : List Byte → Bool) (s u v : State),
    accepts c accD s = true → noBuf c = true → carries c 0x10 roleOperate false (modeTarget 1 0 0) g t s = true →
    exec (.start t c) s = .next u → (∀ p ∈ u.nva.nonces, p ∈ v.nva.nonces) → v.fwu.speedwell = false →
    carries c2 op role free tgt g t2 v = false) ∧
  (∀ (c : Instr) (s u : State), exec c s = .next u →
    u.nva.nonces = s.nva.nonces ∨
    ∃ now g, u.nva.nonces = (s.nva.nonces.filter fun p => decide (now < p.2)) ++ [g])

/-- R39 at acceptance: while MOD_STATUS.ARBITRATION is 1 a command with a good grant is refused with reason BUSY. Its
grant has been used. -/
def Obligations.ArbitrationRefusesCommands : Prop :=
  ∀ (t : Nat) (c : Call) (n ty : Nat) (v : DWord) (g : Grant) (s : State) (x : Ordered), x ∈ ordered t c n ty v s →
    accepts c accD s = true → noBuf c = true → carries c x.2.1 x.2.2.2.1 false x.2.2.2.2 g t s = true →
    s.mod.arb = true →
    exec x.1 s = .next (refuse (stamped c t s) x.2.1 x.2.2.1 .busy (authorised c g t s))

/-- R58: with an accepted grant DEBUG_UNLOCK is refused with reason NOT_LEGAL on every module but a SOLO module in IDLE or
HOLD and a RETIRED one. -/
def Obligations.DebugUnlockOnlyAtRest : Prop :=
  ∀ (t : Nat) (c : Call) (g : Grant) (mask : Nat) (s : State), accepts c accDSYX s = true → noBuf c = true →
    carries c 0x63 roleDebug false (tgtEq (le 4 mask)) g t s = true → mask ≤ 127 →
    ¬ (s.mod.tup.role = .retired ∨ (s.mod.tup.role = .solo ∧ (s.mod.tup.run = .idle ∨ s.mod.tup.run = .hold))) →
    exec (.debugUnlock t c mask) s =
      .next (refuse (stamped c t s) 0x63 0x40 .notLegal (authorised c g t s))

/-- R48: STAGE is refused with reason NOT_LEGAL while the firmware state is TRIAL, FW_ACTIVATE while the change state is
STAGED or TRIAL (R39 comes first while the judges decide; STAGE_REFUSED is R97's). -/
def Obligations.StagingAndActivationExclude : Prop :=
  (∀ (t : Nat) (c : Call) (g : Grant) (box : Container) (s : State), accepts c accD s = true →
    carries c 0x20 roleStage false (stageTarget box) g t s = true → s.mod.arb = false → s.mod.tup.fw = .trial →
    exec (.stage t c box) s = .next (occur Code.stageRefused Src.sv 0
      (refuse (stamped c t s) 0x20 0x10 .notLegal (authorised c g t s)))) ∧
  (∀ (t : Nat) (c : Call) (g : Grant) (s : State), accepts c (accD + accS + accY) s = true → noBuf c = true →
    (slotOf s.nva (altSlot s)).complete = true →
    carries c 0x31 roleFirmware false (tgtEq (le 16 (slotOf s.nva (altSlot s)).digest)) g t s = true →
    s.mod.arb = false → (s.mod.tup.change = .staged ∨ s.mod.tup.change = .trial) →
    exec (.fwActivate t c) s = .next (refuse (stamped c t s) 0x31 0x30 .notLegal (authorised c g t s)))

/-! ### The program cycle -/

/-- R16: at T_COMMIT of a SOLO module in RUN a host point takes the newest value whose arrival completed before T_commit,
and every arrival at or after T_commit waits; a quality byte that Table 3.3 does not give is read by its two leading
bits, the model's choice (log entry 144). No force and no force command waits, the point has no freshness limit, and its
address is its own. -/
def Obligations.CommitTakesTheNewestArrival : Prop :=
  ∀ (t : Nat) (p : Point) (a : Arr) (s : State), s.mod.tup.role = .solo → s.mod.tup.run = .run →
    s.cyc.phase = .boundary → s.chg.mig = none → s.cyc.minDone = true → (∀ q ∈ s.cyc.pend, isForce q.body = false) → p ∈ s.chg.cur.points → p.isOut = false →
    p.link = .host → p.freshNs = 0 → (∀ q ∈ s.chg.cur.points, q.addr = p.addr → q = p) →
    forceOn s.cyc.forces p.addr = none → a ∈ s.cyc.inbox → a.addr = p.addr → a.at_ < max s.gt t →
    (∀ b ∈ s.cyc.inbox, b.addr = p.addr → b.at_ < max s.gt t → b = a ∨ b.at_ < a.at_) →
    ∃ u, exec (.tCommit t) s = .next u ∧ u.cyc.tc = max s.gt t ∧ u.cyc.executing = true ∧
      (inEntry u p.addr).value = a.value ∧ (inEntry u p.addr).qual.toNat = qualCode a.qual ∧
      ∀ b ∈ s.cyc.inbox, max s.gt t ≤ b.at_ → b ∈ u.cyc.inbox

/-- R79, R53: when the retry of a cycle exceeds SCAN_WDT as well, the cycle ends without a publication, the last
completed publication stays in force, SCAN_WDT is counted once more, and a driving module takes HOLD at the boundary. -/
def Obligations.SecondWatchdogExpiryHolds : Prop :=
  ∀ (t : Nat) (s : State), s.cyc.executing = true → (s.cyc.phase = .execute ∨ s.cyc.phase = .agree) →
    s.cyc.attempt + s.cyc.par.scanWdt ≤ max s.gt t → s.cyc.retried = true →
    ∃ u, exec (.scanWdt t) s = .next u ∧ u.cyc.phase = .house ∧ u.cyc.holdNext = driving s ∧
      u.cyc.outImg = s.cyc.outImg ∧ u.cyc.base = s.cyc.base ∧ u.cyc.pubAt = s.cyc.pubAt ∧
      u.cyc.wdtExpiries = satInc 0xFFFFFFFF s.cyc.wdtExpiries ∧ u.mod = s.mod

/-- R74, R75, R408: a mismatch restarts phase 3 on the same input image, T_commit, cycle number and force snapshot, does
not restart the watchdog, and adds 8 to the cell's bucket; a cell below RET_AT_CELL that began to fail, without an
equal window between, less than 1 s ago stays in service, a cell at RET_AT_CELL is retired. -/
def Obligations.MismatchRollsBackOrRetires : Prop :=
  (∀ (t c : Nat) (equal : Bool) (s : State), s.cyc.phase = .execute → c < 4 → isRetired s (.cell c) = false →
    min 63 (bucket s (.cell c) + 8) < s.cyc.par.retAtCell →
    (equal = true ∨ max s.gt t < Tab.getD s.cyc.cellFails c (max s.gt t) + 1000000000) →
    ∃ u, exec (.lockstepMismatch t ⟨c, equal⟩) s = .next u ∧
      u.cyc = { s.cyc with
        rollbacks := satInc 0xFFFFFFFF s.cyc.rollbacks
        cellFails := Tab.set s.cyc.cellFails c
          (if equal then max s.gt t else Tab.getD s.cyc.cellFails c (max s.gt t)) } ∧
      bucket u (.cell c) = min 63 (bucket s (.cell c) + 8) ∧ isRetired u (.cell c) = false) ∧
  (∀ (t c : Nat) (equal : Bool) (s : State), s.cyc.phase = .execute → c < 4 → isRetired s (.cell c) = false →
    s.cyc.par.retAtCell ≤ min 63 (bucket s (.cell c) + 8) →
    ∃ u, exec (.lockstepMismatch t ⟨c, equal⟩) s = .next u ∧ isRetired u (.cell c) = true ∧
      bucket u (.cell c) = min 63 (bucket s (.cell c) + 8))

/-! ### Interlocking and trip outputs -/

/-- Table 6.5, R157: after the update of a cycle that the lanes evaluated, a permissive is granted only where two voting
lanes presented equal vectors and digests that grant it; with fewer than two, or no agreement of sources, none is. -/
def Obligations.PermissivesNeedTwoEqualLanes : Prop :=
  ∀ (t : Nat) (sweep : List (Lane × Bool)) (s u : State), s.ile.table ≠ none → s.ile.upN ≠ s.ile.n →
    s.ile.cn + voteOfs s ≤ max s.gt t → s.mod.tup.run ≠ .boot → s.ile.withdrawnNow = false → s.ile.evald = true →
    exec (.voterUpdate t sweep) s = .next u →
    ∀ i, u.ile.granted.getD i false = true → s.ile.noAgree = false ∧
      ∃ x ∈ presented s, ∃ y ∈ presented s, x.1 ≠ y.1 ∧ x.2 = y.2 ∧ x.2.1.getD i false = true

/-- R277, R20: after a refresh an output is energised exactly when it is in service, the module drives or an overlap
runs, its group is not OFF, the logic side is not silent or the output is STD with TQ_HOLD at HOLD, no output fault is
latched, a SAFETY output's CCV is confirmed with no demand and no interlock latched, a bound permissive is present,
and the program commands it. -/
def Obligations.TripOutputsFollowTheTest : Prop :=
  ∀ (t q : Nat) (s : State), q < 12 → ∃ u, exec (.tioRefresh t true) s = .next u ∧
    ((tqOf u q).on = true ↔
      isRetired u (.tq q) = false ∧ tqMode u.tio.section_ q ≠ 0 ∧ tioDriving u = true ∧
      ¬((fsOf u (tqGroup q)).level = 3 ∨ (fsOf u (tqGroup q)).rising = true) ∧
      (u.tio.silent = false ∨ (tqMode u.tio.section_ q = 1 ∧ tqHold u.tio.section_ q = true)) ∧
      (tqOf u q).faults = [] ∧
      (tqMode u.tio.section_ q = 2 → u.tio.ccvOk = true ∧ tqDemand u q = false ∧ (tqOf u q).il = false) ∧
      u.tio.perms.getD q none ≠ some false ∧ (tqOf u q).cmd = true)

/-! ### Loops and ports -/

/-- R298: in INPUT mode with AL_NAMUR at 1 a measured current, in nA, reaches its point with QUAL BAD_NAMUR at 3.6 mA or
below and at 21.0 mA or above, UNCERTAIN below 3.8 mA and above 20.5 mA, and GOOD otherwise. -/
def Obligations.NamurQuality : Prop :=
  ∀ (p : AlParam) (c : AlChS), p.mode = .input → p.namur = true → c.compl = none →
    (alReadQual p c = qNamur ↔ c.i ≤ 3600000 ∨ 21000000 ≤ c.i) ∧
    (alReadQual p c = qUncertain ↔ (3600000 < c.i ∧ c.i < 3800000) ∨ (20500000 < c.i ∧ c.i < 21000000)) ∧
    (alReadQual p c = qGood ↔ 3800000 ≤ c.i ∧ c.i ≤ 20500000)

/-- R318: a frame received without error goes to the first object in list order whose identifier matches under its MASK
and whose IDE is the frame's; each of its points gets its eight bytes, in order, as an arrival now, and no other point
gets any. A frame that matches none is counted in UNMATCHED and delivers nothing. A port takes frames while the module
runs on a good source (R375). -/
def Obligations.CanFrameGoesToItsFirstObject : Prop :=
  ∀ (t x : Nat) (f : CanFrame) (s : State), (canPar s x).en = true → isRetired s (.can x) = false →
    (canPort s x).sleep = false → f.rtr = false → (f.fdf = true → (canPar s x).fd = true) →
    (canPort s x).err ≠ 2 → x < 4 → fircOnly s = false →
    (∀ (pre post : List RxObj) (o : RxObj), (canPar s x).rx = pre ++ o :: post →
      (∀ r ∈ pre, ¬(f.id &&& r.mask = r.id &&& r.mask ∧ f.ide = r.ide)) →
      f.id &&& o.mask = o.id &&& o.mask → f.ide = o.ide →
      ∃ u, exec (.canFrameReceived t x f) s = .next u ∧
        u.cyc.inbox = s.cyc.inbox ++ (List.range o.points.length).map fun i =>
          ⟨o.points.getD i 0, max s.gt t, BitVec.ofNat 64 (field f.data (8 * i) 8), none, qGood, false⟩) ∧
    ((∀ r ∈ (canPar s x).rx, ¬(f.id &&& r.mask = r.id &&& r.mask ∧ f.ide = r.ide)) →
      ∃ u, exec (.canFrameReceived t x f) s = .next u ∧ u.cyc.inbox = s.cyc.inbox ∧
        (x < s.can.ports.length → (canPort u x).unmatched = satInc 0xFFFF (canPort s x).unmatched))

/-- R320, R375: on a module that does not participate in the bus, or has no good source, no frame begins, whatever its
queue holds; what is completed there is a frame that had begun (R315, R321). -/
def Obligations.RestrictedPortsSendNothing : Prop :=
  ∀ (t x : Nat) (s : State),
    ¬((s.mod.tup.role = .solo ∨ s.mod.tup.role = .active) ∧
      (s.mod.tup.run = .idle ∨ s.mod.tup.run = .run ∨ s.mod.tup.run = .hold) ∧ fircOnly s = false) →
    (∀ e ∈ (canPort s x).fifo.head?, e.begun = false) →
    exec (.canArbitrationStart t x) s = .next (atT t s)

/-! ### Packets and frames from outside -/

/-- R238: a packet with a wrong PCRC, a LEN that is not its payload's, or a non-zero reserved field is discarded and
counted on its port, and so is a P0-only packet that comes on P1 or P2 or, AUTH aside, from a partner that is not
authenticated; it has no other effect. Each command takes the PTYPE of Table 9.2. A port that carries no packets takes
none. -/
def Obligations.BadPacketsAreDiscarded : Prop :=
  ∀ (t n k : Nat) (h : PktHdr) (d : List Byte) (m : AgreeMsg) (l : List Nat) (es : List (Nat × Entry)) (fs : List Force)
    (sm : SnapSent) (ic : IleCopy) (cause : ArbCause) (r : Relay) (rd : ResyncData)
    (hdr : Option ImageHdr) (am : AuthMsg) (x : Instr × Nat) (s : State),
    (x ∈ [(.heartbeat t h d, 0x01), (.agree t h m, 0x02), (.sliceReq t h l, 0x03), (.sliceData t h n es, 0x04),
        (.agreeDone t h n, 0x05), (.signature t h n k, 0x06), (.forceTable t h n k fs, 0x07), (.ileSnap t h n sm, 0x08),
        (.ileDigest t h n k, 0x09), (.ileState t h n k ic, 0x0A), (.release t h n, 0x0B), (.leaving t h, 0x0B),
        (.arbStart t h cause k, 0x0B), (.tierAgree t h n k, 0x0B), (.relayedCommand t h r k, 0x0B),
        (.resync t h rd, 0x0C), (.image t h n k d hdr, 0x0D)] ∧
      ¬(h.port = 0 ∧ pktOk h x.2 = true ∧ s.plv.authOk = true) ∨
     x = (.auth t h am, 0x0E) ∧ ¬(h.port = 0 ∧ pktOk h x.2 = true) ∨
     x ∈ [(.beacon t h d, 0x10), (.time t h d, 0x11), (.signals t h d, 0x12), (.boundary t h d, 0x13),
        (.delay t h d, 0x14)] ∧
      ¬(h.port < 3 ∧ pktOk h x.2 = true)) →
    exec x.1 s = .next (if portUp s h.port then updPort h.port (fun y => { y with
        discards := satInc 0xFFFF y.discards
        recent := (y.recent.filter fun i => decide (max s.gt t < i + 1000000)) ++ [max s.gt t]
        readmit := y.readmit.map fun _ => max s.gt t }) (atT t s)
      else atT t s)

/-- R261: a good ring packet of another module leaves on the module's other two ports, those that carry packets and are
not the P0 of a RETIRED module, with HOPS raised by 1; with HOPS at 15, with its own ORIGIN, or when it forwarded the
same ORIGIN, PTYPE and SEQ within the last 10 ms, it leaves on none. -/
def Obligations.RingPacketsAreForwarded : Prop :=
  ∀ (t : Nat) (h : PktHdr) (data : List Byte) (s : State), portUp s h.port = true → h.port < 3 → pktOk h 0x10 = true →
    data = h.pay → data.length = 16 → field data 0 1 < 8 → field data 1 1 < 5 → field data 2 1 < 16 →
    zeros data 3 5 = true → ∃ u, exec (.beacon t h data) s = .next u ∧
      (h.hops < 15 → h.origin ≠ s.mod.slot →
        (∀ r ∈ s.plv.forwarded, r.1 = h.origin → r.2.1 = 0x10 → r.2.2.1 = h.seq → r.2.2.2 + 10000000 ≤ max s.gt t) →
        u.out = s.out ++ ([0, 1, 2].filter fun p =>
          p ≠ h.port && portUp s p && !(p = 0 && s.mod.tup.role = .retired)).map fun p =>
            pktOut p 0x10 (h.hops + 1) h.origin h.dest h.seq (payBytes data)) ∧
      ((15 ≤ h.hops ∨ h.origin = s.mod.slot ∨
        ∃ r ∈ s.plv.forwarded, r.1 = h.origin ∧ r.2.1 = 0x10 ∧ r.2.2.1 = h.seq ∧ max s.gt t < r.2.2.2 + 10000000) →
        u.out = s.out)

/-- R470, R487: a service frame that is not valid is discarded without an answer; outside Speedwell a valid GRANT, CHUNK
or ACTIVATE is answered with ACK, echoing SEQ, with status NOT_READY, and does nothing else. -/
def Obligations.ServiceFramesOutsideSpeedwell : Prop :=
  ∀ (t : Nat) (f : List Byte) (g : Grant) (hdr : Option ImageHdr) (s : State),
    (svcOk f = false → ∀ c ∈ [Instr.serviceHello t f, .serviceGrant t f g, .serviceChunk t f hdr, .serviceActivate t f,
      .serviceStatus t f], exec c s = .next (atT t s)) ∧
    (svcOk f = true → s.con.inReset = false → s.fwu.speedwell = false →
      ∀ x ∈ [(Instr.serviceGrant t f g, 2), (.serviceChunk t f hdr, 3), (.serviceActivate t f, 4)],
      field f 2 1 = x.2 → exec x.1 s = .next { atT t s with
        out := s.out ++ [.service (svcFrame 0x80 (field f 3 1) (le 2 (statusCode .notReady)))] })

/-- R189, R190: a SAFETY PDU is accepted only when it names a connection that the module consumes, its length, station,
destination, cycle number and SCRC fit that connection, and its reserved bits are 0; else it is counted as rejected and
no connection changes. -/
def Obligations.SafetyPdusAreChecked : Prop :=
  ∀ (t : Nat) (f : RxFrame) (s u : State), (frameHdr f.bytes).ftype = 0x20 →
    exec (.safetyFrame t f) s = .next u → u.oxn.conns ≠ s.oxn.conns →
    ∃ c ∈ rxConns s, field (framePay f.bytes) 0 4 = c.conn ∧ (framePay f.bytes).length = 20 + c.sLen ∧
      field (framePay f.bytes) 4 2 = c.station ∧ field (framePay f.bytes) 6 2 = 0xFFE ∧
      field (framePay f.bytes) 8 4 = s.oxn.n % 2 ^ 32 ∧ field (framePay f.bytes) 12 2 = c.sLen ∧
      field (framePay f.bytes) 14 2 < 4 ∧
      field (framePay f.bytes) (16 + c.sLen) 4 =
        crc32cFrom (field (framePay f.bytes) 0 4) ((framePay f.bytes).take (16 + c.sLen)) ∧
      (connOf s c.conn).last ≠ some s.oxn.n

/-! ### Faults, the recorder and retirement -/

/-- R408: bucket levels lie in 0 to 63, and every step keeps them there. -/
def Obligations.BucketLevelsStayWithin63 : Prop :=
  ∀ s u : State, (∀ b ∈ s.nva.buckets, b.2 ≤ 63) → step s = .next u → ∀ b ∈ u.nva.buckets, b.2 ≤ 63

/-- R408, rules 2, 4 and 6, on a Plovlink port: a lost lane adds 8, saturating at 63, and retires the port exactly when
the level reaches RET_AT_PLV; a retired port's level stays as it was. -/
def Obligations.PortFaultsFillTheBucket : Prop :=
  ∀ (t p lane : Nat) (s : State), (portOf s p).lanes ≠ 0 → ∃ u, exec (.plvLaneFail t p lane) s = .next u ∧
    (isRetired s (.plv p) = false →
      bucket u (.plv p) = min 63 (bucket s (.plv p) + 8) ∧
      (isRetired u (.plv p) = true ↔ s.cyc.par.retAtPlv ≤ min 63 (bucket s (.plv p) + 8))) ∧
    (isRetired s (.plv p) = true → bucket u (.plv p) = bucket s (.plv p) ∧ u.nva.retired = s.nva.retired)

/-- R42: a retirement that MRAM keeps with cause FAULT, JUDGED or COMMAND outlasts every command but a READMIT, a reset, a
removal and a power loss among them (a cause decided at the same instant may replace SELF or RESYNC, R415). -/
def Obligations.RetirementOutlastsAllButReadmit : Prop :=
  ∀ (c : Instr) (s u : State), exec c s = .next u →
    (s.nva.modRetired = some .fault ∨ s.nva.modRetired = some .judged ∨ s.nva.modRetired = some .command) →
    (∀ t k arg src ok, c ≠ .readmit t k arg src ok) → (∀ t n d b g ok, c ≠ .descriptorFetch t n d b g ok) →
    u.nva.modRetired ≠ none

/-- R436: an occurrence less than 1 s after its code's last write changes no record and counts in SUPPRESSED; one that
comes 1 s or more after it, or the first of its code, is written at once and leaves no accumulator of its code. The
current store is not filled by the write. -/
def Obligations.CodesAreWrittenOncePerSecond : Prop :=
  ∀ (code src : Nat) (val : Int) (s : State), isRetired s (.engine 6) = false →
    (s.evr.mramFull = true ∨ s.nva.recCur.length + s.evr.accs.length < 65536) →
    (∀ w, Tab.find? s.evr.lastWrite code = some w → s.gt < w + 1000000000 →
      (occur code src val s).nva.recCur = s.nva.recCur ∧ (occur code src val s).nva.recSeq = s.nva.recSeq ∧
      (occur code src val s).evr.suppressed = satInc 0xFFFFFFFF s.evr.suppressed) ∧
    ((∀ w, Tab.find? s.evr.lastWrite code = some w → w + 1000000000 ≤ s.gt) →
      (occur code src val s).nva.recSeq = s.nva.recSeq + 1 ∧
      (∀ a ∈ (occur code src val s).evr.accs, a.code ≠ code) ∧
      Tab.find? (occur code src val s).evr.lastWrite code = some s.gt)

/-- R442: clear records are never merged: a roll-up copies each clear record of its epoch whose CRC holds unchanged into
the hourly archive, the daily store and the monthly store. -/
def Obligations.ClearRecordsAreCopiedUnchanged : Prop :=
  ∀ (t : Nat) (bad : List Nat) (k e : Nat) (rest : List (Nat × Nat)) (r : Rec) (s u : State), 5 ∈ s.hl.bgRun →
    s.nva.rollWait = (k, e) :: rest → r ∈ s.nva.recCur → r.epoch = e → r.clear = true →
    (∀ i ∈ bad, (s.nva.recCur.filter (·.epoch = e))[i]? ≠ some r) →
    exec (.backgroundUnitDone t 5 bad) s = .next u →
    r ∈ u.nva.recHour ∧ r ∈ u.nva.recDay ∧ r ∈ u.nva.recMon

/-! ### What commands leave alone -/

/-- Frames of the register, host read and host write commands: only the parts that Safety lists for the command change,
so no other block, no memory byte, and no mode component but by the commands that Safety names. -/
def Obligations.HostCommandsChangeOnlyTheirParts : Prop :=
  ∀ (c : Instr) (s u : State), familyOf c ∈ [.registers, .hostReads, .hostWrites] → exec c s = .next u →
    onlyChanges (mayChange c) s u

/-- Frames of the mode, program cycle and network commands: only the parts that Safety lists for the command change. -/
def Obligations.ModeCycleAndNetworkCommandsChangeOnlyTheirParts : Prop :=
  ∀ (c : Instr) (s u : State), familyOf c ∈ [.modes, .cycle, .network] → exec c s = .next u →
    onlyChanges (mayChange c) s u

/-- Frames of the interlocking, pair and stack ring commands: only the parts that Safety lists for the command change. -/
def Obligations.InterlockingPairAndRingCommandsChangeOnlyTheirParts : Prop :=
  ∀ (c : Instr) (s u : State), familyOf c ∈ [.interlocking, .pair, .ring] → exec c s = .next u →
    onlyChanges (mayChange c) s u

/-- Frames of the power, contact and heat commands and of boot, firmware, service line and gates: only the parts that
Safety lists for the command change. -/
def Obligations.PowerAndBootCommandsChangeOnlyTheirParts : Prop :=
  ∀ (c : Instr) (s u : State), familyOf c ∈ [.power, .boot] → exec c s = .next u → onlyChanges (mayChange c) s u

/-- Frames of the trip I/O, analog loop and CAN commands: only the parts that Safety lists for the command change. -/
def Obligations.InputOutputCommandsChangeOnlyTheirParts : Prop :=
  ∀ (c : Instr) (s u : State), familyOf c ∈ [.tripIo, .analog, .can] → exec c s = .next u →
    onlyChanges (mayChange c) s u

/-- Frames of the clock, fault, self-test and recorder commands: only the parts that Safety lists for the command
change. -/
def Obligations.ClockAndFaultCommandsChangeOnlyTheirParts : Prop :=
  ∀ (c : Instr) (s u : State), familyOf c ∈ [.clocks, .faults] → exec c s = .next u → onlyChanges (mayChange c) s u
end

