-- ==== Sys2Proof/Laws/Frame.lean ====
section
/-! SUPPORT. How the frames of operations compose: what only some parts may change, through a choice, a fold and a
record update. -/

namespace Sys2Proof.Machine

set_option Elab.async false
set_option linter.unusedTactic false
set_option linter.unreachableTactic false

theorem onlyChanges_refl {l : List Part} {s : State} : onlyChanges l s s := by
  intro p _
  cases p <;> simp [Part.same]

theorem Part.same_trans {p : Part} {a b c : State} (h : p.same a b) (k : p.same b c) : p.same a c := by
  cases p <;> simp_all [Part.same]

theorem onlyChanges_trans {l : List Part} {a b c : State} (h : onlyChanges l a b) (k : onlyChanges l b c) :
    onlyChanges l a c := fun p hp => Part.same_trans (h p hp) (k p hp)

theorem onlyChanges_mono {l m : List Part} {a b : State} (h : onlyChanges l a b) (k : l ⊆ m) : onlyChanges m a b :=
  fun p hp => h p fun q => hp (k q)

theorem ite_only {l : List Part} {z0 a b : State} {c : Prop} [Decidable c] (h : c → onlyChanges l z0 a)
    (k : ¬c → onlyChanges l z0 b) : onlyChanges l z0 (if c then a else b) := by
  split
  · exact h ‹_›
  · exact k ‹_›

theorem foldl_only {α : Type} {l : List Part} {z0 s : State} {g : State → α → State} {xs : List α}
    (h : onlyChanges l z0 s) (k : ∀ s x, onlyChanges l z0 s → onlyChanges l z0 (g s x)) :
    onlyChanges l z0 (xs.foldl g s) := by
  induction xs generalizing s with
  | nil => exact h
  | cons x r ih => exact ih (k s x h)

/-- The same of a fold over a state and what it carries along. -/
theorem foldlBy_only {α β : Type} {l : List Part} {z0 : State} {g : β → α → β} {xs : List α} {b : β} (p : β → State)
    (h : onlyChanges l z0 (p b)) (k : ∀ b x, onlyChanges l z0 (p b) → onlyChanges l z0 (p (g b x))) :
    onlyChanges l z0 (p (xs.foldl g b)) := by
  induction xs generalizing b with
  | nil => exact h
  | cons x r ih => exact ih (k b x h)

/-- A record update of `x` changes only the parts whose fields it gives. -/
theorem update_only {l : List Part} {z0 x : State} {a0 : Nat} {a1 : Nat} {a2 : Option (List (Nat × Nat × Nat))}
    {a3 : NvA} {a4 : ModS} {a5 : HxpS} {a6 : EvrS} {a7 : FltS} {a8 : BstS} {a9 : FwuS} {a10 : GateS} {a11 : ClkS}
    {a12 : HlS} {a13 : ConS} {a14 : CycS} {a15 : ChgS} {a16 : NvB} {a17 : TimS} {a18 : OxnS} {a19 : IleS} {a20 :
    PlvS} {a21 : TioS} {a22 : CanS} {a23 : AlpS} {a24 : List Host.Cell} {a25 : List Out} {a26 : Nat}
    (h : onlyChanges l z0 x)
    (k : ∀ p, p ∈ l ∨ p.same x ⟨a0, a1, a2, a3, a4, a5, a6, a7, a8, a9, a10, a11, a12, a13, a14, a15, a16, a17, a18, a19, a20, a21, a22, a23, a24, a25, a26, x.pending⟩) :
    onlyChanges l z0 ⟨a0, a1, a2, a3, a4, a5, a6, a7, a8, a9, a10, a11, a12, a13, a14, a15, a16, a17, a18, a19, a20, a21, a22, a23, a24, a25, a26, x.pending⟩ :=
  fun p hp => Part.same_trans (h p hp) ((k p).resolve_left hp)

theorem evr_only {l : List Part} {z0 x : State} {v : EvrS} (k : Part.recorder ∈ l) (h : onlyChanges l z0 x) :
    onlyChanges l z0 { x with evr := v } := by
  refine fun p hp => Part.same_trans (h p hp) ?_
  cases p <;> first | exact absurd k hp | (repeat' constructor)

theorem flt_only {l : List Part} {z0 x : State} {v : FltS} (k : Part.faults ∈ l) (h : onlyChanges l z0 x) :
    onlyChanges l z0 { x with flt := v } := by
  refine fun p hp => Part.same_trans (h p hp) ?_
  cases p <;> first | exact absurd k hp | (repeat' constructor)

theorem bst_only {l : List Part} {z0 x : State} {v : BstS} (k : Part.selfTest ∈ l) (h : onlyChanges l z0 x) :
    onlyChanges l z0 { x with bst := v } := by
  refine fun p hp => Part.same_trans (h p hp) ?_
  cases p <;> first | exact absurd k hp | (repeat' constructor)

theorem fwu_only {l : List Part} {z0 x : State} {v : FwuS} (k : Part.firmware ∈ l) (h : onlyChanges l z0 x) :
    onlyChanges l z0 { x with fwu := v } := by
  refine fun p hp => Part.same_trans (h p hp) ?_
  cases p <;> first | exact absurd k hp | (repeat' constructor)

theorem gate_only {l : List Part} {z0 x : State} {v : GateS} (k : Part.gates ∈ l) (h : onlyChanges l z0 x) :
    onlyChanges l z0 { x with gate := v } := by
  refine fun p hp => Part.same_trans (h p hp) ?_
  cases p <;> first | exact absurd k hp | (repeat' constructor)

theorem clk_only {l : List Part} {z0 x : State} {v : ClkS} (k : Part.clocks ∈ l) (h : onlyChanges l z0 x) :
    onlyChanges l z0 { x with clk := v } := by
  refine fun p hp => Part.same_trans (h p hp) ?_
  cases p <;> first | exact absurd k hp | (repeat' constructor)

theorem hl_only {l : List Part} {z0 x : State} {v : HlS} (k : Part.heat ∈ l) (h : onlyChanges l z0 x) :
    onlyChanges l z0 { x with hl := v } := by
  refine fun p hp => Part.same_trans (h p hp) ?_
  cases p <;> first | exact absurd k hp | (repeat' constructor)

theorem con_only {l : List Part} {z0 x : State} {v : ConS} (k : Part.contacts ∈ l) (h : onlyChanges l z0 x) :
    onlyChanges l z0 { x with con := v } := by
  refine fun p hp => Part.same_trans (h p hp) ?_
  cases p <;> first | exact absurd k hp | (repeat' constructor)

theorem cyc_only {l : List Part} {z0 x : State} {v : CycS} (k : Part.cycle ∈ l) (h : onlyChanges l z0 x) :
    onlyChanges l z0 { x with cyc := v } := by
  refine fun p hp => Part.same_trans (h p hp) ?_
  cases p <;> first | exact absurd k hp | (repeat' constructor)

theorem chg_only {l : List Part} {z0 x : State} {v : ChgS} (k : Part.change ∈ l) (h : onlyChanges l z0 x) :
    onlyChanges l z0 { x with chg := v } := by
  refine fun p hp => Part.same_trans (h p hp) ?_
  cases p <;> first | exact absurd k hp | (repeat' constructor)

theorem nvb_only {l : List Part} {z0 x : State} {v : NvB} (k : Part.stores ∈ l) (h : onlyChanges l z0 x) :
    onlyChanges l z0 { x with nvb := v } := by
  refine fun p hp => Part.same_trans (h p hp) ?_
  cases p <;> first | exact absurd k hp | (repeat' constructor)

theorem tim_only {l : List Part} {z0 x : State} {v : TimS} (k : Part.times ∈ l) (h : onlyChanges l z0 x) :
    onlyChanges l z0 { x with tim := v } := by
  refine fun p hp => Part.same_trans (h p hp) ?_
  cases p <;> first | exact absurd k hp | (repeat' constructor)

theorem oxn_only {l : List Part} {z0 x : State} {v : OxnS} (k : Part.network ∈ l) (h : onlyChanges l z0 x) :
    onlyChanges l z0 { x with oxn := v } := by
  refine fun p hp => Part.same_trans (h p hp) ?_
  cases p <;> first | exact absurd k hp | (repeat' constructor)

theorem ile_only {l : List Part} {z0 x : State} {v : IleS} (k : Part.ile ∈ l) (h : onlyChanges l z0 x) :
    onlyChanges l z0 { x with ile := v } := by
  refine fun p hp => Part.same_trans (h p hp) ?_
  cases p <;> first | exact absurd k hp | (repeat' constructor)

theorem plv_only {l : List Part} {z0 x : State} {v : PlvS} (k : Part.pair ∈ l) (h : onlyChanges l z0 x) :
    onlyChanges l z0 { x with plv := v } := by
  refine fun p hp => Part.same_trans (h p hp) ?_
  cases p <;> first | exact absurd k hp | (repeat' constructor)

theorem tio_only {l : List Part} {z0 x : State} {v : TioS} (k : Part.tripIo ∈ l) (h : onlyChanges l z0 x) :
    onlyChanges l z0 { x with tio := v } := by
  refine fun p hp => Part.same_trans (h p hp) ?_
  cases p <;> first | exact absurd k hp | (repeat' constructor)

theorem can_only {l : List Part} {z0 x : State} {v : CanS} (k : Part.can ∈ l) (h : onlyChanges l z0 x) :
    onlyChanges l z0 { x with can := v } := by
  refine fun p hp => Part.same_trans (h p hp) ?_
  cases p <;> first | exact absurd k hp | (repeat' constructor)

theorem alp_only {l : List Part} {z0 x : State} {v : AlpS} (k : Part.analog ∈ l) (h : onlyChanges l z0 x) :
    onlyChanges l z0 { x with alp := v } := by
  refine fun p hp => Part.same_trans (h p hp) ?_
  cases p <;> first | exact absurd k hp | (repeat' constructor)

theorem mem_only {l : List Part} {z0 x : State} {v : List Host.Cell} (k : Part.memory ∈ l) (h : onlyChanges l z0 x) :
    onlyChanges l z0 { x with mem := v } := by
  refine fun p hp => Part.same_trans (h p hp) ?_
  cases p <;> first | exact absurd k hp | (repeat' constructor)

theorem out_only {l : List Part} {z0 x : State} {v : List Out} (k : Part.out ∈ l) (h : onlyChanges l z0 x) :
    onlyChanges l z0 { x with out := v } := by
  refine fun p hp => Part.same_trans (h p hp) ?_
  cases p <;> first | exact absurd k hp | (repeat' constructor)

theorem free_only {l : List Part} {z0 x : State} {v : Nat} (k : Part.free ∈ l) (h : onlyChanges l z0 x) :
    onlyChanges l z0 { x with free := v } := by
  refine fun p hp => Part.same_trans (h p hp) ?_
  cases p <;> first | exact absurd k hp | (repeat' constructor)

/-- A list of parts within one that a caller allows. -/
theorem subParts {a b l : List Part} (h : b ⊆ l) (k : a ⊆ b := by decide) : a ⊆ l := List.Subset.trans k h

end Sys2Proof.Machine
end

