-- ==== Sys2Proof/Laws/FrameUnits.lean ====
section
/-! SUPPORT. What each operation of the units may change: registers and rings, recorder, CAN, loops, trip I/O, gates
and migration. -/

namespace Sys2Proof.Machine

set_option Elab.async false
set_option linter.unusedTactic false
set_option linter.unreachableTactic false

theorem atT_only {L : List Part} {z0 : State} {t : ℕ} {s : State} (hL : [.time] ⊆ L)
    (hO : onlyChanges L z0 s) : onlyChanges L z0 (atT t s) := by
  unfold atT
  try dsimp only
  repeat' first
    | with_reducible exact hO
    | ((with_reducible refine update_only ?_ fun p => ?_); rotate_left;
        (cases p <;> first | exact .inl (hL (by decide)) | (refine .inr ?_; repeat' constructor));
        first
        | with_reducible exact hO)

theorem emit_only {L : List Part} {z0 : State} {o : Out} {s : State} (hL : [.out] ⊆ L)
    (hO : onlyChanges L z0 s) : onlyChanges L z0 (emit o s) := by
  unfold emit
  try dsimp only
  repeat' first
    | with_reducible exact hO
    | ((with_reducible refine update_only ?_ fun p => ?_); rotate_left;
        (cases p <;> first | exact .inl (hL (by decide)) | (refine .inr ?_; repeat' constructor));
        first
        | with_reducible exact hO)

theorem pushEvent_only {L : List Part} {z0 : State} {e : Event} {s : State} (hL : [.events] ⊆ L)
    (hO : onlyChanges L z0 s) : onlyChanges L z0 (pushEvent e s) := by
  unfold pushEvent
  try dsimp only
  repeat' first
    | with_reducible exact hO
    | (with_reducible refine ite_only (fun _ => ?_) fun _ => ?_)
    | ((with_reducible refine update_only ?_ fun p => ?_); rotate_left;
        (cases p <;> first | exact .inl (hL (by decide)) | (refine .inr ?_; repeat' constructor));
        first
        | with_reducible exact hO
        | (with_reducible refine ite_only (fun _ => ?_) fun _ => ?_))

theorem setTuple_only {L : List Part} {z0 : State} {f : ModeTuple → ModeTuple} {s : State} (hL : [.tuple, .events,
    .slots] ⊆ L)
    (hO : onlyChanges L z0 s) : onlyChanges L z0 (setTuple f s) := by
  unfold setTuple
  try dsimp only
  repeat' first
    | with_reducible exact hO
    | with_reducible refine pushEvent_only (subParts hL) ?_
    | (with_reducible refine ite_only (fun _ => ?_) fun _ => ?_)
    | ((with_reducible refine update_only ?_ fun p => ?_); rotate_left;
        (cases p <;> first | exact .inl (hL (by decide)) | (refine .inr ?_; repeat' constructor));
        first
        | with_reducible exact hO
        | with_reducible refine pushEvent_only (subParts hL) ?_
        | (with_reducible refine ite_only (fun _ => ?_) fun _ => ?_))

theorem setRole_only {L : List Part} {z0 : State} {r : Role} {s : State} (hL : [.tuple, .events, .slots] ⊆ L)
    (hO : onlyChanges L z0 s) : onlyChanges L z0 (setRole r s) := by
  unfold setRole
  try dsimp only
  repeat' first
    | with_reducible exact hO
    | with_reducible refine setTuple_only (subParts hL) ?_

theorem setRun_only {L : List Part} {z0 : State} {r : RunState} {s : State} (hL : [.tuple, .events, .slots] ⊆ L)
    (hO : onlyChanges L z0 s) : onlyChanges L z0 (setRun r s) := by
  unfold setRun
  try dsimp only
  repeat' first
    | with_reducible exact hO
    | with_reducible refine setTuple_only (subParts hL) ?_

theorem setChange_only {L : List Part} {z0 : State} {c : ChangeState} {s : State} (hL : [.tuple, .events, .slots] ⊆
    L)
    (hO : onlyChanges L z0 s) : onlyChanges L z0 (setChange c s) := by
  unfold setChange
  try dsimp only
  repeat' first
    | with_reducible exact hO
    | with_reducible refine setTuple_only (subParts hL) ?_

theorem setForced_only {L : List Part} {z0 : State} {b : Bool} {s : State} (hL : [.tuple, .events, .slots] ⊆ L)
    (hO : onlyChanges L z0 s) : onlyChanges L z0 (setForced b s) := by
  unfold setForced
  try dsimp only
  repeat' first
    | with_reducible exact hO
    | with_reducible refine setTuple_only (subParts hL) ?_

theorem setIleState_only {L : List Part} {z0 : State} {i : IleState} {s : State} (hL : [.tuple, .events, .slots] ⊆
    L)
    (hO : onlyChanges L z0 s) : onlyChanges L z0 (setIleState i s) := by
  unfold setIleState
  try dsimp only
  repeat' first
    | with_reducible exact hO
    | with_reducible refine setTuple_only (subParts hL) ?_

theorem dropShadow_only {L : List Part} {z0 : State} {s : State} (hL : [.modRest, .cycle, .pair] ⊆ L)
    (hO : onlyChanges L z0 s) : onlyChanges L z0 (dropShadow s) := by
  unfold dropShadow
  try dsimp only
  repeat' first
    | with_reducible exact hO
    | ((with_reducible refine update_only ?_ fun p => ?_); rotate_left;
        (cases p <;> first | exact .inl (hL (by decide)) | (refine .inr ?_; repeat' constructor));
        first
        | with_reducible exact hO)

theorem setNet_only {L : List Part} {z0 : State} {n : NetState} {s : State} (hL : [.tuple, .modRest, .events,
    .slots, .firmware, .cycle, .network, .pair] ⊆ L)
    (hO : onlyChanges L z0 s) : onlyChanges L z0 (setNet n s) := by
  unfold setNet
  try dsimp only
  repeat' first
    | with_reducible exact hO
    | with_reducible refine setTuple_only (subParts hL) ?_
    | with_reducible refine dropShadow_only (subParts hL) ?_
    | (with_reducible refine ite_only (fun _ => ?_) fun _ => ?_)
    | ((with_reducible refine update_only ?_ fun p => ?_); rotate_left;
        (cases p <;> first | exact .inl (hL (by decide)) | (refine .inr ?_; repeat' constructor));
        first
        | with_reducible exact hO
        | with_reducible refine setTuple_only (subParts hL) ?_
        | with_reducible refine dropShadow_only (subParts hL) ?_
        | (with_reducible refine ite_only (fun _ => ?_) fun _ => ?_))

theorem setTier_only {L : List Part} {z0 : State} {k : Tier} {s : State} (hL : [.tuple, .events, .slots] ⊆ L)
    (hO : onlyChanges L z0 s) : onlyChanges L z0 (setTier k s) := by
  unfold setTier
  try dsimp only
  repeat' first
    | with_reducible exact hO
    | with_reducible refine setTuple_only (subParts hL) ?_

theorem setFw_only {L : List Part} {z0 : State} {f : FwState} {s : State} (hL : [.tuple, .events, .slots] ⊆ L)
    (hO : onlyChanges L z0 s) : onlyChanges L z0 (setFw f s) := by
  unfold setFw
  try dsimp only
  repeat' first
    | with_reducible exact hO
    | with_reducible refine setTuple_only (subParts hL) ?_

theorem setBst_only {L : List Part} {z0 : State} {b : BstMode} {s : State} (hL : [.tuple, .events, .slots] ⊆ L)
    (hO : onlyChanges L z0 s) : onlyChanges L z0 (setBst b s) := by
  unfold setBst
  try dsimp only
  repeat' first
    | with_reducible exact hO
    | with_reducible refine setTuple_only (subParts hL) ?_

theorem recEvent_only {L : List Part} {z0 : State} {s : State} {key : ℕ × ℕ × ℕ} (hL : [.events] ⊆ L)
    (hO : onlyChanges L z0 s) : onlyChanges L z0 (recEvent s key) := by
  unfold recEvent
  try dsimp only
  repeat' first
    | with_reducible exact hO
    | with_reducible refine pushEvent_only (subParts hL) ?_
    | split

theorem flushCode_only {L : List Part} {z0 : State} {code : ℕ} {s : State} (hL : [.records, .events, .recorder] ⊆ L)
    (hO : onlyChanges L z0 s) : onlyChanges L z0 (flushCode code s) := by
  unfold flushCode
  try dsimp only
  repeat' first
    | with_reducible exact hO
    | with_reducible refine recEvent_only (subParts hL) ?_
    | with_reducible refine foldl_only ?_ (fun _ _ _ => ?_)
    | with_reducible assumption
    | (with_reducible refine ite_only (fun _ => ?_) fun _ => ?_)
    | ((with_reducible refine update_only ?_ fun p => ?_); rotate_left;
        (cases p <;> first | exact .inl (hL (by decide)) | (refine .inr ?_; repeat' constructor));
        first
        | with_reducible exact hO
        | with_reducible refine recEvent_only (subParts hL) ?_
        | with_reducible refine foldl_only ?_ (fun _ _ _ => ?_)
        | with_reducible assumption
        | (with_reducible refine ite_only (fun _ => ?_) fun _ => ?_))

theorem occurCore_only {L : List Part} {z0 : State} {code : ℕ} {src : ℕ} {val : ℤ} {s : State} (hL : [.records,
    .events, .recorder] ⊆ L)
    (hO : onlyChanges L z0 s) : onlyChanges L z0 (occurCore code src val s) := by
  unfold occurCore
  try dsimp only
  repeat' first
    | with_reducible exact hO
    | with_reducible refine flushCode_only (subParts hL) ?_
    | (with_reducible refine ite_only (fun _ => ?_) fun _ => ?_)
    | ((with_reducible refine update_only ?_ fun p => ?_); rotate_left;
        (cases p <;> first | exact .inl (hL (by decide)) | (refine .inr ?_; repeat' constructor));
        first
        | with_reducible exact hO
        | with_reducible refine flushCode_only (subParts hL) ?_
        | (with_reducible refine ite_only (fun _ => ?_) fun _ => ?_))

theorem occur_only {L : List Part} {z0 : State} {code : ℕ} {src : ℕ} {val : ℤ} {s : State} (hL : [.records, .events,
    .recorder] ⊆ L)
    (hO : onlyChanges L z0 s) : onlyChanges L z0 (occur code src val s) := by
  unfold occur
  try dsimp only
  repeat' first
    | with_reducible exact hO
    | with_reducible refine occurCore_only (subParts hL) ?_
    | (with_reducible refine ite_only (fun _ => ?_) fun _ => ?_)

theorem occurU_only {L : List Part} {z0 : State} {code : ℕ} {src : ℕ} {val : ℕ} {s : State} (hL : [.records,
    .events, .recorder] ⊆ L)
    (hO : onlyChanges L z0 s) : onlyChanges L z0 (occurU code src val s) := by
  unfold occurU
  try dsimp only
  repeat' first
    | with_reducible exact hO
    | with_reducible refine occur_only (subParts hL) ?_

theorem occur2_only {L : List Part} {z0 : State} {code : ℕ} {src : ℕ} {a : ℕ} {b : ℕ} {s : State} (hL : [.records,
    .events, .recorder] ⊆ L)
    (hO : onlyChanges L z0 s) : onlyChanges L z0 (occur2 code src a b s) := by
  unfold occur2
  try dsimp only
  repeat' first
    | with_reducible exact hO
    | with_reducible refine occurU_only (subParts hL) ?_

theorem msixNow_only {L : List Part} {z0 : State} {vec : ℕ} {s : State} (hL : [.vectors, .out] ⊆ L)
    (hO : onlyChanges L z0 s) : onlyChanges L z0 (msixNow vec s) := by
  unfold msixNow
  try dsimp only
  repeat' first
    | with_reducible exact hO
    | with_reducible refine emit_only (subParts hL) ?_
    | (with_reducible refine ite_only (fun _ => ?_) fun _ => ?_)
    | ((with_reducible refine update_only ?_ fun p => ?_); rotate_left;
        (cases p <;> first | exact .inl (hL (by decide)) | (refine .inr ?_; repeat' constructor));
        first
        | with_reducible exact hO
        | with_reducible refine emit_only (subParts hL) ?_
        | (with_reducible refine ite_only (fun _ => ?_) fun _ => ?_))

theorem msix_only {L : List Part} {z0 : State} {vec : ℕ} {s : State} (hL : [.vectors, .out] ⊆ L)
    (hO : onlyChanges L z0 s) : onlyChanges L z0 (msix vec s) := by
  unfold msix
  try dsimp only
  repeat' first
    | with_reducible exact hO
    | with_reducible refine msixNow_only (subParts hL) ?_
    | (with_reducible refine ite_only (fun _ => ?_) fun _ => ?_)
    | ((with_reducible refine update_only ?_ fun p => ?_); rotate_left;
        (cases p <;> first | exact .inl (hL (by decide)) | (refine .inr ?_; repeat' constructor));
        first
        | with_reducible exact hO
        | with_reducible refine msixNow_only (subParts hL) ?_
        | (with_reducible refine ite_only (fun _ => ?_) fun _ => ?_))
    | split

theorem setHxpErr_only {L : List Part} {z0 : State} {ring : ℕ} {evq : Bool} {code : ℕ} {index : ℕ} {s : State} (hL :
    [.events, .vectors, .hxpRest, .out] ⊆ L)
    (hO : onlyChanges L z0 s) : onlyChanges L z0 (setHxpErr ring evq code index s) := by
  unfold setHxpErr
  try dsimp only
  repeat' first
    | with_reducible exact hO
    | with_reducible refine msix_only (subParts hL) ?_
    | with_reducible refine pushEvent_only (subParts hL) ?_
    | (with_reducible refine ite_only (fun _ => ?_) fun _ => ?_)
    | ((with_reducible refine update_only ?_ fun p => ?_); rotate_left;
        (cases p <;> first | exact .inl (hL (by decide)) | (refine .inr ?_; repeat' constructor));
        first
        | with_reducible exact hO
        | with_reducible refine msix_only (subParts hL) ?_
        | with_reducible refine pushEvent_only (subParts hL) ?_
        | (with_reducible refine ite_only (fun _ => ?_) fun _ => ?_))

theorem updRing_only {L : List Part} {z0 : State} {n : ℕ} {f : RingS → RingS} {s : State} (hL : [.rings] ⊆ L)
    (hO : onlyChanges L z0 s) : onlyChanges L z0 (updRing n f s) := by
  unfold updRing
  try dsimp only
  repeat' first
    | with_reducible exact hO
    | ((with_reducible refine update_only ?_ fun p => ?_); rotate_left;
        (cases p <;> first | exact .inl (hL (by decide)) | (refine .inr ?_; repeat' constructor));
        first
        | with_reducible exact hO)

theorem complete_only {L : List Part} {z0 : State} {c : Call} {op : ℕ} {st : Status} {rs : Option Reason} {bytes :
    ℕ} {result : ℕ} {s : State} (hL : [.rings] ⊆ L)
    (hO : onlyChanges L z0 s) : onlyChanges L z0 (complete c op st rs bytes result s) := by
  unfold complete
  try dsimp only
  repeat' first
    | with_reducible exact hO
    | with_reducible refine updRing_only (subParts hL) ?_

theorem done_only {L : List Part} {z0 : State} {c : Call} {op : ℕ} {result : ℕ} {s : State} (hL : [.rings] ⊆ L)
    (hO : onlyChanges L z0 s) : onlyChanges L z0 (done c op result s) := by
  unfold done
  try dsimp only
  repeat' first
    | with_reducible exact hO
    | with_reducible refine complete_only (subParts hL) ?_

theorem doneBuf_only {L : List Part} {z0 : State} {c : Call} {op : ℕ} {data : List Byte} {result : ℕ} {s : State}
    (hL : [.rings, .out] ⊆ L)
    (hO : onlyChanges L z0 s) : onlyChanges L z0 (doneBuf c op data result s) := by
  unfold doneBuf
  try dsimp only
  repeat' first
    | with_reducible exact hO
    | with_reducible refine complete_only (subParts hL) ?_
    | with_reducible refine emit_only (subParts hL) ?_

theorem fail_only {L : List Part} {z0 : State} {c : Call} {op : ℕ} {st : Status} {s : State} (hL : [.rings] ⊆ L)
    (hO : onlyChanges L z0 s) : onlyChanges L z0 (fail c op st s) := by
  unfold fail
  try dsimp only
  repeat' first
    | with_reducible exact hO
    | with_reducible refine complete_only (subParts hL) ?_

theorem noteRefusal_only {L : List Part} {z0 : State} {req : ℕ} {rs : Reason} {s : State} (hL : [.records, .refusal,
    .events, .recorder] ⊆ L)
    (hO : onlyChanges L z0 s) : onlyChanges L z0 (noteRefusal req rs s) := by
  unfold noteRefusal
  try dsimp only
  repeat' first
    | with_reducible exact hO
    | with_reducible refine occur_only (subParts hL) ?_
    | ((with_reducible refine update_only ?_ fun p => ?_); rotate_left;
        (cases p <;> first | exact .inl (hL (by decide)) | (refine .inr ?_; repeat' constructor));
        first
        | with_reducible exact hO
        | with_reducible refine occur_only (subParts hL) ?_)

theorem refuse_only {L : List Part} {z0 : State} {c : Call} {op : ℕ} {req : ℕ} {rs : Reason} {s : State} (hL :
    [.records, .refusal, .rings, .events, .recorder] ⊆ L)
    (hO : onlyChanges L z0 s) : onlyChanges L z0 (refuse c op req rs s) := by
  unfold refuse
  try dsimp only
  repeat' first
    | with_reducible exact hO
    | with_reducible refine complete_only (subParts hL) ?_
    | with_reducible refine noteRefusal_only (subParts hL) ?_
    | (with_reducible refine ite_only (fun _ => ?_) fun _ => ?_)

theorem noteFault_only {L : List Part} {z0 : State} {src : ℕ} {level : ℕ} {s : State} (hL : [.faults] ⊆ L)
    (hO : onlyChanges L z0 s) : onlyChanges L z0 (noteFault src level s) := by
  unfold noteFault
  try dsimp only
  repeat' first
    | with_reducible exact hO
    | ((with_reducible refine update_only ?_ fun p => ?_); rotate_left;
        (cases p <;> first | exact .inl (hL (by decide)) | (refine .inr ?_; repeat' constructor));
        first
        | with_reducible exact hO)

theorem bucketAdd_only {L : List Part} {z0 : State} {u : UnitId} {amt : ℕ} {s : State} (hL : [.faultStore, .faults]
    ⊆ L)
    (hO : onlyChanges L z0 s) : onlyChanges L z0 (bucketAdd u amt s) := by
  unfold bucketAdd
  try dsimp only
  repeat' first
    | with_reducible exact hO
    | with_reducible refine noteFault_only (subParts hL) ?_
    | (with_reducible refine ite_only (fun _ => ?_) fun _ => ?_)
    | ((with_reducible refine update_only ?_ fun p => ?_); rotate_left;
        (cases p <;> first | exact .inl (hL (by decide)) | (refine .inr ?_; repeat' constructor));
        first
        | with_reducible exact hO
        | with_reducible refine noteFault_only (subParts hL) ?_
        | (with_reducible refine ite_only (fun _ => ?_) fun _ => ?_))

theorem retireRecord_only {L : List Part} {z0 : State} {u : UnitId} {code : ℕ} {s : State} (hL : [.records,
    .faultStore, .events, .recorder] ⊆ L)
    (hO : onlyChanges L z0 s) : onlyChanges L z0 (retireRecord u code s) := by
  unfold retireRecord
  try dsimp only
  repeat' first
    | with_reducible exact hO
    | with_reducible refine occur_only (subParts hL) ?_
    | (with_reducible refine ite_only (fun _ => ?_) fun _ => ?_)
    | ((with_reducible refine update_only ?_ fun p => ?_); rotate_left;
        (cases p <;> first | exact .inl (hL (by decide)) | (refine .inr ?_; repeat' constructor));
        first
        | with_reducible exact hO
        | with_reducible refine occur_only (subParts hL) ?_
        | (with_reducible refine ite_only (fun _ => ?_) fun _ => ?_))

theorem readmitRecord_only {L : List Part} {z0 : State} {u : UnitId} {s : State} (hL : [.records, .faultStore,
    .events, .recorder] ⊆ L)
    (hO : onlyChanges L z0 s) : onlyChanges L z0 (readmitRecord u s) := by
  unfold readmitRecord
  try dsimp only
  repeat' first
    | with_reducible exact hO
    | with_reducible refine occur_only (subParts hL) ?_
    | ((with_reducible refine update_only ?_ fun p => ?_); rotate_left;
        (cases p <;> first | exact .inl (hL (by decide)) | (refine .inr ?_; repeat' constructor));
        first
        | with_reducible exact hO
        | with_reducible refine occur_only (subParts hL) ?_)

theorem deliver_only {L : List Part} {z0 : State} {addr : ℕ} {v : DWord} {born : Option ℕ} {qual : ℕ} {s : State}
    (hL : [.cycle] ⊆ L)
    (hO : onlyChanges L z0 s) : onlyChanges L z0 (deliver addr v born qual s) := by
  unfold deliver
  try dsimp only
  repeat' first
    | with_reducible exact hO
    | ((with_reducible refine update_only ?_ fun p => ?_); rotate_left;
        (cases p <;> first | exact .inl (hL (by decide)) | (refine .inr ?_; repeat' constructor));
        first
        | with_reducible exact hO)

theorem gateClose_only {L : List Part} {z0 : State} {blk : ℕ} {s : State} (hL : [.clocks] ⊆ L)
    (hO : onlyChanges L z0 s) : onlyChanges L z0 (gateClose blk s) := by
  unfold gateClose
  try dsimp only
  repeat' first
    | with_reducible exact hO
    | (with_reducible refine ite_only (fun _ => ?_) fun _ => ?_)
    | ((with_reducible refine update_only ?_ fun p => ?_); rotate_left;
        (cases p <;> first | exact .inl (hL (by decide)) | (refine .inr ?_; repeat' constructor));
        first
        | with_reducible exact hO
        | (with_reducible refine ite_only (fun _ => ?_) fun _ => ?_))

theorem gateOpen_only {L : List Part} {z0 : State} {blk : ℕ} {s : State} (hL : [.clocks] ⊆ L)
    (hO : onlyChanges L z0 s) : onlyChanges L z0 (gateOpen blk s) := by
  unfold gateOpen
  try dsimp only
  repeat' first
    | with_reducible exact hO
    | (with_reducible refine ite_only (fun _ => ?_) fun _ => ?_)
    | ((with_reducible refine update_only ?_ fun p => ?_); rotate_left;
        (cases p <;> first | exact .inl (hL (by decide)) | (refine .inr ?_; repeat' constructor));
        first
        | with_reducible exact hO
        | (with_reducible refine ite_only (fun _ => ?_) fun _ => ?_))

theorem bgWant_only {L : List Part} {z0 : State} {kind : ℕ} {s : State} (hL : [.heat] ⊆ L)
    (hO : onlyChanges L z0 s) : onlyChanges L z0 (bgWant kind s) := by
  unfold bgWant
  try dsimp only
  repeat' first
    | with_reducible exact hO
    | ((with_reducible refine update_only ?_ fun p => ?_); rotate_left;
        (cases p <;> first | exact .inl (hL (by decide)) | (refine .inr ?_; repeat' constructor));
        first
        | with_reducible exact hO)
    | split

theorem sliceStop_only {L : List Part} {z0 : State} {s : State} (hL : [.selfTest, .clocks, .heat] ⊆ L)
    (hO : onlyChanges L z0 s) : onlyChanges L z0 (sliceStop s) := by
  unfold sliceStop
  try dsimp only
  repeat' first
    | with_reducible exact hO
    | with_reducible refine bgWant_only (subParts hL) ?_
    | with_reducible refine gateClose_only (subParts hL) ?_
    | (with_reducible refine ite_only (fun _ => ?_) fun _ => ?_)
    | ((with_reducible refine update_only ?_ fun p => ?_); rotate_left;
        (cases p <;> first | exact .inl (hL (by decide)) | (refine .inr ?_; repeat' constructor));
        first
        | with_reducible exact hO
        | with_reducible refine bgWant_only (subParts hL) ?_
        | with_reducible refine gateClose_only (subParts hL) ?_
        | (with_reducible refine ite_only (fun _ => ?_) fun _ => ?_))

theorem bgUnwant_only {L : List Part} {z0 : State} {kind : ℕ} {s : State} (hL : [.heat] ⊆ L)
    (hO : onlyChanges L z0 s) : onlyChanges L z0 (bgUnwant kind s) := by
  unfold bgUnwant
  try dsimp only
  repeat' first
    | with_reducible exact hO
    | ((with_reducible refine update_only ?_ fun p => ?_); rotate_left;
        (cases p <;> first | exact .inl (hL (by decide)) | (refine .inr ?_; repeat' constructor));
        first
        | with_reducible exact hO)

theorem setSrc_only {L : List Part} {z0 : State} {xb : Bool} {v : SrcS} {s : State} (hL : [.clocks] ⊆ L)
    (hO : onlyChanges L z0 s) : onlyChanges L z0 (setSrc xb v s) := by
  unfold setSrc
  try dsimp only
  repeat' first
    | with_reducible exact hO
    | (with_reducible refine ite_only (fun _ => ?_) fun _ => ?_)
    | ((with_reducible refine update_only ?_ fun p => ?_); rotate_left;
        (cases p <;> first | exact .inl (hL (by decide)) | (refine .inr ?_; repeat' constructor));
        first
        | with_reducible exact hO
        | (with_reducible refine ite_only (fun _ => ?_) fun _ => ?_))

theorem deliverLink_only {L : List Part} {z0 : State} {pts : List Point} {l : Link} {v : DWord} {born : Option ℕ}
    {qual : ℕ} {s : State} (hL : [.cycle] ⊆ L)
    (hO : onlyChanges L z0 s) : onlyChanges L z0 (deliverLink pts l v born qual s) := by
  unfold deliverLink
  try dsimp only
  repeat' first
    | with_reducible exact hO
    | with_reducible refine deliver_only (subParts hL) ?_
    | with_reducible refine foldl_only ?_ (fun _ _ _ => ?_)
    | with_reducible assumption

theorem answer_only {L : List Part} {z0 : State} {call : Option Call} {era : ℕ} {f : Call → State → State} {s :
    State} (hL : [] ⊆ L)
    (hO : onlyChanges L z0 s)
    (k_f : ∀ a0 z, onlyChanges L z0 z → onlyChanges L z0 (f a0 z)) : onlyChanges L z0 (answer call era f s) := by
  unfold answer
  try dsimp only
  repeat' first
    | with_reducible exact hO
    | with_reducible apply k_f
    | (with_reducible refine ite_only (fun _ => ?_) fun _ => ?_)
    | split

theorem answerOk_only {L : List Part} {z0 : State} {p : PendCmd} {result : ℕ} {s : State} (hL : [.rings] ⊆ L)
    (hO : onlyChanges L z0 s) : onlyChanges L z0 (answerOk p result s) := by
  unfold answerOk
  try dsimp only
  repeat' first
    | with_reducible exact hO
    | with_reducible refine answer_only (subParts hL) ?_ (fun _ _ _ => ?_)
    | with_reducible refine done_only (subParts hL) ?_
    | with_reducible assumption

theorem answerRefuse_only {L : List Part} {z0 : State} {p : PendCmd} {rs : Reason} {s : State} (hL : [.records,
    .refusal, .rings, .events, .recorder] ⊆ L)
    (hO : onlyChanges L z0 s) : onlyChanges L z0 (answerRefuse p rs s) := by
  unfold answerRefuse
  try dsimp only
  repeat' first
    | with_reducible exact hO
    | with_reducible refine answer_only (subParts hL) ?_ (fun _ _ _ => ?_)
    | with_reducible refine refuse_only (subParts hL) ?_
    | with_reducible assumption

theorem answerFail_only {L : List Part} {z0 : State} {p : PendCmd} {st : Status} {s : State} (hL : [.rings] ⊆ L)
    (hO : onlyChanges L z0 s) : onlyChanges L z0 (answerFail p st s) := by
  unfold answerFail
  try dsimp only
  repeat' first
    | with_reducible exact hO
    | with_reducible refine answer_only (subParts hL) ?_ (fun _ _ _ => ?_)
    | with_reducible refine fail_only (subParts hL) ?_
    | with_reducible assumption

theorem pushPend_only {L : List Part} {z0 : State} {p : PendCmd} {s : State} (hL : [.cycle] ⊆ L)
    (hO : onlyChanges L z0 s) : onlyChanges L z0 (pushPend p s) := by
  unfold pushPend
  try dsimp only
  repeat' first
    | with_reducible exact hO
    | ((with_reducible refine update_only ?_ fun p => ?_); rotate_left;
        (cases p <;> first | exact .inl (hL (by decide)) | (refine .inr ?_; repeat' constructor));
        first
        | with_reducible exact hO)

theorem abortRole_only {L : List Part} {z0 : State} {call : Option Call} {era : ℕ} {op : ℕ} {s : State} (hL :
    [.rings] ⊆ L)
    (hO : onlyChanges L z0 s) : onlyChanges L z0 (abortRole call era op s) := by
  unfold abortRole
  try dsimp only
  repeat' first
    | with_reducible exact hO
    | with_reducible refine answer_only (subParts hL) ?_ (fun _ _ _ => ?_)
    | with_reducible refine complete_only (subParts hL) ?_
    | with_reducible assumption

theorem stageFail_only {L : List Part} {z0 : State} {st : Status} {s : State} (hL : [.records, .rings, .events,
    .recorder, .change] ⊆ L)
    (hO : onlyChanges L z0 s) : onlyChanges L z0 (stageFail st s) := by
  unfold stageFail
  try dsimp only
  repeat' first
    | with_reducible exact hO
    | with_reducible refine occur_only (subParts hL) ?_
    | with_reducible refine answer_only (subParts hL) ?_ (fun _ _ _ => ?_)
    | with_reducible refine fail_only (subParts hL) ?_
    | with_reducible assumption
    | ((with_reducible refine update_only ?_ fun p => ?_); rotate_left;
        (cases p <;> first | exact .inl (hL (by decide)) | (refine .inr ?_; repeat' constructor));
        first
        | with_reducible exact hO
        | with_reducible refine occur_only (subParts hL) ?_
        | with_reducible refine answer_only (subParts hL) ?_ (fun _ _ _ => ?_)
        | with_reducible refine fail_only (subParts hL) ?_
        | with_reducible assumption)
    | split

theorem abortWaiting_only {L : List Part} {z0 : State} {s : State} (hL : [.rings, .cycle] ⊆ L)
    (hO : onlyChanges L z0 s) : onlyChanges L z0 (abortWaiting s) := by
  unfold abortWaiting
  try dsimp only
  repeat' first
    | with_reducible exact hO
    | with_reducible refine abortRole_only (subParts hL) ?_
    | with_reducible refine foldl_only ?_ (fun _ _ _ => ?_)
    | with_reducible assumption
    | (with_reducible refine ite_only (fun _ => ?_) fun _ => ?_)
    | ((with_reducible refine update_only ?_ fun p => ?_); rotate_left;
        (cases p <;> first | exact .inl (hL (by decide)) | (refine .inr ?_; repeat' constructor));
        first
        | with_reducible exact hO
        | with_reducible refine abortRole_only (subParts hL) ?_
        | with_reducible refine foldl_only ?_ (fun _ _ _ => ?_)
        | with_reducible assumption
        | (with_reducible refine ite_only (fun _ => ?_) fun _ => ?_))

theorem updAl_only {L : List Part} {z0 : State} {x : ℕ} {f : AlChS → AlChS} {s : State} (hL : [.analog] ⊆ L)
    (hO : onlyChanges L z0 s) : onlyChanges L z0 (updAl x f s) := by
  unfold updAl
  try dsimp only
  repeat' first
    | with_reducible exact hO
    | ((with_reducible refine update_only ?_ fun p => ?_); rotate_left;
        (cases p <;> first | exact .inl (hL (by decide)) | (refine .inr ?_; repeat' constructor));
        first
        | with_reducible exact hO)

theorem hartStart_only {L : List Part} {z0 : State} {x : ℕ} {j : HartJob} {s : State} (hL : [.analog, .out] ⊆ L)
    (hO : onlyChanges L z0 s) : onlyChanges L z0 (hartStart x j s) := by
  unfold hartStart
  try dsimp only
  repeat' first
    | with_reducible exact hO
    | with_reducible refine updAl_only (subParts hL) ?_
    | with_reducible refine emit_only (subParts hL) ?_
    | (with_reducible refine ite_only (fun _ => ?_) fun _ => ?_)
    | split

theorem hartNext_only {L : List Part} {z0 : State} {x : ℕ} {s : State} (hL : [.analog, .out] ⊆ L)
    (hO : onlyChanges L z0 s) : onlyChanges L z0 (hartNext x s) := by
  unfold hartNext
  try dsimp only
  repeat' first
    | with_reducible exact hO
    | with_reducible refine hartStart_only (subParts hL) ?_
    | with_reducible refine updAl_only (subParts hL) ?_
    | (with_reducible refine ite_only (fun _ => ?_) fun _ => ?_)
    | split

theorem hartDrop_only {L : List Part} {z0 : State} {x : ℕ} {s : State} (hL : [.rings, .analog] ⊆ L)
    (hO : onlyChanges L z0 s) : onlyChanges L z0 (hartDrop x s) := by
  unfold hartDrop
  try dsimp only
  repeat' first
    | with_reducible exact hO
    | with_reducible refine complete_only (subParts hL) ?_
    | with_reducible refine updAl_only (subParts hL) ?_
    | with_reducible refine foldl_only ?_ (fun _ _ _ => ?_)
    | with_reducible assumption
    | (with_reducible refine ite_only (fun _ => ?_) fun _ => ?_)
    | split

theorem hartAbort_only {L : List Part} {z0 : State} {s : State} (hL : [.rings, .analog] ⊆ L)
    (hO : onlyChanges L z0 s) : onlyChanges L z0 (hartAbort s) := by
  unfold hartAbort
  try dsimp only
  repeat' first
    | with_reducible exact hO
    | with_reducible refine abortRole_only (subParts hL) ?_
    | with_reducible refine updAl_only (subParts hL) ?_
    | with_reducible refine foldl_only ?_ (fun _ _ _ => ?_)
    | with_reducible assumption
    | (with_reducible refine ite_only (fun _ => ?_) fun _ => ?_)
    | split

theorem alSettle_only {L : List Part} {z0 : State} {x : ℕ} {s : State} (hL : [.rings, .analog, .out] ⊆ L)
    (hO : onlyChanges L z0 s) : onlyChanges L z0 (alSettle x s) := by
  unfold alSettle
  try dsimp only
  repeat' first
    | with_reducible exact hO
    | with_reducible refine hartDrop_only (subParts hL) ?_
    | with_reducible refine hartNext_only (subParts hL) ?_
    | with_reducible refine updAl_only (subParts hL) ?_
    | (with_reducible refine ite_only (fun _ => ?_) fun _ => ?_)

theorem alSettleAll_only {L : List Part} {z0 : State} {s : State} (hL : [.rings, .analog, .out] ⊆ L)
    (hO : onlyChanges L z0 s) : onlyChanges L z0 (alSettleAll s) := by
  unfold alSettleAll
  try dsimp only
  repeat' first
    | with_reducible exact hO
    | with_reducible refine alSettle_only (subParts hL) ?_
    | with_reducible refine foldl_only ?_ (fun _ _ _ => ?_)
    | with_reducible assumption

theorem alPublish_only {L : List Part} {z0 : State} {cmd : ℕ → Option ℤ} {s : State} (hL : [.rings, .analog, .out] ⊆
    L)
    (hO : onlyChanges L z0 s) : onlyChanges L z0 (alPublish cmd s) := by
  unfold alPublish
  try dsimp only
  repeat' first
    | with_reducible exact hO
    | with_reducible refine updAl_only (subParts hL) ?_
    | with_reducible refine alSettle_only (subParts hL) ?_
    | with_reducible refine foldl_only ?_ (fun _ _ _ => ?_)
    | with_reducible assumption
    | (with_reducible refine ite_only (fun _ => ?_) fun _ => ?_)
    | split

theorem retireAl_only {L : List Part} {z0 : State} {x : ℕ} {code : ℕ} {s : State} (hL : [.records, .faultStore,
    .rings, .events, .recorder, .analog, .out] ⊆ L)
    (hO : onlyChanges L z0 s) : onlyChanges L z0 (retireAl x code s) := by
  unfold retireAl
  try dsimp only
  repeat' first
    | with_reducible exact hO
    | with_reducible refine alSettle_only (subParts hL) ?_
    | with_reducible refine retireRecord_only (subParts hL) ?_
    | (with_reducible refine ite_only (fun _ => ?_) fun _ => ?_)

theorem alFault_only {L : List Part} {z0 : State} {x : ℕ} {code : ℕ} {s : State} (hL : [.records, .faultStore,
    .rings, .events, .recorder, .faults, .analog, .out] ⊆ L)
    (hO : onlyChanges L z0 s) : onlyChanges L z0 (alFault x code s) := by
  unfold alFault
  try dsimp only
  repeat' first
    | with_reducible exact hO
    | with_reducible refine updAl_only (subParts hL) ?_
    | with_reducible refine occurU_only (subParts hL) ?_
    | with_reducible refine bucketAdd_only (subParts hL) ?_
    | with_reducible refine retireAl_only (subParts hL) ?_
    | with_reducible refine alSettle_only (subParts hL) ?_
    | (with_reducible refine ite_only (fun _ => ?_) fun _ => ?_)
    | ((with_reducible refine update_only ?_ fun p => ?_); rotate_left;
        (cases p <;> first | exact .inl (hL (by decide)) | (refine .inr ?_; repeat' constructor));
        first
        | with_reducible exact hO
        | with_reducible refine updAl_only (subParts hL) ?_
        | with_reducible refine occurU_only (subParts hL) ?_
        | with_reducible refine bucketAdd_only (subParts hL) ?_
        | with_reducible refine retireAl_only (subParts hL) ?_
        | with_reducible refine alSettle_only (subParts hL) ?_
        | (with_reducible refine ite_only (fun _ => ?_) fun _ => ?_))

theorem alClear_only {L : List Part} {z0 : State} {x : ℕ} {code : ℕ} {s : State} (hL : [.rings, .analog, .out] ⊆ L)
    (hO : onlyChanges L z0 s) : onlyChanges L z0 (alClear x code s) := by
  unfold alClear
  try dsimp only
  repeat' first
    | with_reducible exact hO
    | with_reducible refine alSettle_only (subParts hL) ?_
    | with_reducible refine updAl_only (subParts hL) ?_
    | (with_reducible refine ite_only (fun _ => ?_) fun _ => ?_)

theorem alClock_only {L : List Part} {z0 : State} {x : ℕ} {s : State} (hL : [.analog] ⊆ L)
    (hO : onlyChanges L z0 s) : onlyChanges L z0 (alClock x s) := by
  unfold alClock
  try dsimp only
  repeat' first
    | with_reducible exact hO
    | with_reducible refine updAl_only (subParts hL) ?_

theorem alJudge_only {L : List Part} {z0 : State} {x : ℕ} {noHeadroom : Bool} {s : State} (hL : [.records,
    .faultStore, .rings, .events, .recorder, .faults, .analog, .out] ⊆ L)
    (hO : onlyChanges L z0 s) : onlyChanges L z0 (alJudge x noHeadroom s) := by
  unfold alJudge
  try dsimp only
  repeat' first
    | with_reducible exact hO
    | with_reducible refine updAl_only (subParts hL) ?_
    | with_reducible refine alClear_only (subParts hL) ?_
    | with_reducible refine alFault_only (subParts hL) ?_
    | (with_reducible refine ite_only (fun _ => ?_) fun _ => ?_)

theorem alKeep_only {L : List Part} {z0 : State} {x : ℕ} {s : State} (hL : [.analog] ⊆ L)
    (hO : onlyChanges L z0 s) : onlyChanges L z0 (alKeep x s) := by
  unfold alKeep
  try dsimp only
  repeat' first
    | with_reducible exact hO
    | with_reducible refine updAl_only (subParts hL) ?_
    | (with_reducible refine ite_only (fun _ => ?_) fun _ => ?_)

theorem alMeasure_only {L : List Part} {z0 : State} {x : ℕ} {na : ℤ} {raw : ℤ} {mv : ℤ} {s : State} (hL : [.analog]
    ⊆ L)
    (hO : onlyChanges L z0 s) : onlyChanges L z0 (alMeasure x na raw mv s) := by
  unfold alMeasure
  try dsimp only
  repeat' first
    | with_reducible exact hO
    | with_reducible refine updAl_only (subParts hL) ?_
    | with_reducible refine alClock_only (subParts hL) ?_
    | (with_reducible refine ite_only (fun _ => ?_) fun _ => ?_)

theorem feTest_only {L : List Part} {z0 : State} {x : ℕ} {s : State} (hL : [.selfTest, .heat] ⊆ L)
    (hO : onlyChanges L z0 s) : onlyChanges L z0 (feTest x s) := by
  unfold feTest
  try dsimp only
  repeat' first
    | with_reducible exact hO
    | with_reducible refine bgWant_only (subParts hL) ?_
    | (with_reducible refine ite_only (fun _ => ?_) fun _ => ?_)
    | ((with_reducible refine update_only ?_ fun p => ?_); rotate_left;
        (cases p <;> first | exact .inl (hL (by decide)) | (refine .inr ?_; repeat' constructor));
        first
        | with_reducible exact hO
        | with_reducible refine bgWant_only (subParts hL) ?_
        | (with_reducible refine ite_only (fun _ => ?_) fun _ => ?_))

theorem alDeliver_only {L : List Part} {z0 : State} {x : ℕ} {mv : ℤ} {s : State} (hL : [.cycle] ⊆ L)
    (hO : onlyChanges L z0 s) : onlyChanges L z0 (alDeliver x mv s) := by
  unfold alDeliver
  try dsimp only
  repeat' first
    | with_reducible exact hO
    | with_reducible refine deliverLink_only (subParts hL) ?_
    | (with_reducible refine ite_only (fun _ => ?_) fun _ => ?_)

theorem alRegsTake_only {L : List Part} {z0 : State} {s : State} (hL : [.analog] ⊆ L)
    (hO : onlyChanges L z0 s) : onlyChanges L z0 (alRegsTake s) := by
  unfold alRegsTake
  try dsimp only
  repeat' first
    | with_reducible exact hO
    | ((with_reducible refine update_only ?_ fun p => ?_); rotate_left;
        (cases p <;> first | exact .inl (hL (by decide)) | (refine .inr ?_; repeat' constructor));
        first
        | with_reducible exact hO)

theorem hartCount_only {L : List Part} {z0 : State} {x : ℕ} {failed : Bool} {s : State} (hL : [.analog] ⊆ L)
    (hO : onlyChanges L z0 s) : onlyChanges L z0 (hartCount x failed s) := by
  unfold hartCount
  try dsimp only
  repeat' first
    | with_reducible exact hO
    | with_reducible refine updAl_only (subParts hL) ?_
    | (with_reducible refine ite_only (fun _ => ?_) fun _ => ?_)
    | ((with_reducible refine update_only ?_ fun p => ?_); rotate_left;
        (cases p <;> first | exact .inl (hL (by decide)) | (refine .inr ?_; repeat' constructor));
        first
        | with_reducible exact hO
        | with_reducible refine updAl_only (subParts hL) ?_
        | (with_reducible refine ite_only (fun _ => ?_) fun _ => ?_))

theorem hartEnd_only {L : List Part} {z0 : State} {x : ℕ} {failed : Bool} {s : State} (hL : [.analog, .out] ⊆ L)
    (hO : onlyChanges L z0 s) : onlyChanges L z0 (hartEnd x failed s) := by
  unfold hartEnd
  try dsimp only
  repeat' first
    | with_reducible exact hO
    | with_reducible refine hartNext_only (subParts hL) ?_
    | with_reducible refine hartCount_only (subParts hL) ?_

theorem hartUnknown_only {L : List Part} {z0 : State} {x : ℕ} {s : State} (hL : [.analog, .out] ⊆ L)
    (hO : onlyChanges L z0 s) : onlyChanges L z0 (hartUnknown x s) := by
  unfold hartUnknown
  try dsimp only
  repeat' first
    | with_reducible exact hO
    | with_reducible refine hartCount_only (subParts hL) ?_
    | with_reducible refine hartStart_only (subParts hL) ?_
    | with_reducible refine updAl_only (subParts hL) ?_
    | with_reducible refine hartNext_only (subParts hL) ?_
    | (with_reducible refine ite_only (fun _ => ?_) fun _ => ?_)
    | split

theorem hartFailed_only {L : List Part} {z0 : State} {x : ℕ} {s : State} (hL : [.rings, .analog, .out] ⊆ L)
    (hO : onlyChanges L z0 s) : onlyChanges L z0 (hartFailed x s) := by
  unfold hartFailed
  try dsimp only
  repeat' first
    | with_reducible exact hO
    | with_reducible refine hartStart_only (subParts hL) ?_
    | with_reducible refine updAl_only (subParts hL) ?_
    | with_reducible refine hartUnknown_only (subParts hL) ?_
    | with_reducible refine hartEnd_only (subParts hL) ?_
    | with_reducible refine complete_only (subParts hL) ?_
    | (with_reducible refine ite_only (fun _ => ?_) fun _ => ?_)
    | split

theorem alConfigure_only {L : List Part} {z0 : State} {par : List AlParam} {s0 : State} (hL : [.rings, .analog,
    .out] ⊆ L)
    (hO : onlyChanges L z0 s0) : onlyChanges L z0 (alConfigure par s0) := by
  unfold alConfigure
  exact alSettleAll_only (subParts hL) (alp_only (hL (by decide))
    (foldl_only hO fun _ _ h => ite_only (fun _ => hartDrop_only (subParts hL) h) fun _ => h))

theorem onRise_only {L : List Part} {z0 : State} {was : Bool} {now : Bool} {code : ℕ} {s : State} (hL : [.records,
    .events, .recorder] ⊆ L)
    (hO : onlyChanges L z0 s) : onlyChanges L z0 (onRise was now code s) := by
  unfold onRise
  try dsimp only
  repeat' first
    | with_reducible exact hO
    | with_reducible refine occur_only (subParts hL) ?_
    | (with_reducible refine ite_only (fun _ => ?_) fun _ => ?_)

theorem hlFlags_only {L : List Part} {z0 : State} {s : State} (hL : [.records, .modRest, .events, .recorder, .heat]
    ⊆ L)
    (hO : onlyChanges L z0 s) : onlyChanges L z0 (hlFlags s) := by
  unfold hlFlags
  try dsimp only
  repeat' first
    | with_reducible exact hO
    | with_reducible refine onRise_only (subParts hL) ?_
    | (with_reducible refine ite_only (fun _ => ?_) fun _ => ?_)
    | ((with_reducible refine update_only ?_ fun p => ?_); rotate_left;
        (cases p <;> first | exact .inl (hL (by decide)) | (refine .inr ?_; repeat' constructor));
        first
        | with_reducible exact hO
        | with_reducible refine onRise_only (subParts hL) ?_
        | (with_reducible refine ite_only (fun _ => ?_) fun _ => ?_))

theorem wantTier_only {L : List Part} {z0 : State} {rule : ℕ} {k : ℕ} {s : State} (hL : [.records, .modRest,
    .events, .recorder, .heat] ⊆ L)
    (hO : onlyChanges L z0 s) : onlyChanges L z0 (wantTier rule k s) := by
  unfold wantTier
  try dsimp only
  repeat' first
    | with_reducible exact hO
    | with_reducible refine hlFlags_only (subParts hL) ?_
    | with_reducible refine occurU_only (subParts hL) ?_
    | (with_reducible refine ite_only (fun _ => ?_) fun _ => ?_)
    | ((with_reducible refine update_only ?_ fun p => ?_); rotate_left;
        (cases p <;> first | exact .inl (hL (by decide)) | (refine .inr ?_; repeat' constructor));
        first
        | with_reducible exact hO
        | with_reducible refine hlFlags_only (subParts hL) ?_
        | with_reducible refine occurU_only (subParts hL) ?_
        | (with_reducible refine ite_only (fun _ => ?_) fun _ => ?_))

theorem hlRestart_only {L : List Part} {z0 : State} {s : State} (hL : [.records, .modRest, .events, .recorder,
    .heat] ⊆ L)
    (hO : onlyChanges L z0 s) : onlyChanges L z0 (hlRestart s) := by
  unfold hlRestart
  try dsimp only
  repeat' first
    | with_reducible exact hO
    | with_reducible refine hlFlags_only (subParts hL) ?_
    | ((with_reducible refine update_only ?_ fun p => ?_); rotate_left;
        (cases p <;> first | exact .inl (hL (by decide)) | (refine .inr ?_; repeat' constructor));
        first
        | with_reducible exact hO
        | with_reducible refine hlFlags_only (subParts hL) ?_)

theorem updGate_only {L : List Part} {z0 : State} {n : ℕ} {f : Gate → Gate} {s : State} (hL : [.gates] ⊆ L)
    (hO : onlyChanges L z0 s) : onlyChanges L z0 (updGate n f s) := by
  unfold updGate
  try dsimp only
  repeat' first
    | with_reducible exact hO
    | ((with_reducible refine update_only ?_ fun p => ?_); rotate_left;
        (cases p <;> first | exact .inl (hL (by decide)) | (refine .inr ?_; repeat' constructor));
        first
        | with_reducible exact hO)

theorem violate_only {L : List Part} {z0 : State} {n : ℕ} {a : Access} {k : ℕ × ℕ × ℕ × Bool} {s : State} (hL :
    [.records, .events, .recorder, .gates] ⊆ L)
    (hO : onlyChanges L z0 s) : onlyChanges L z0 (violate n a k s) := by
  unfold violate
  try dsimp only
  repeat' first
    | with_reducible exact hO
    | with_reducible refine updGate_only (subParts hL) ?_
    | with_reducible refine occur_only (subParts hL) ?_
    | (with_reducible refine ite_only (fun _ => ?_) fun _ => ?_)
    | split

theorem gateDecide_only {L : List Part} {z0 : State} {a : Access} {s : State} (hL : [.records, .events, .recorder,
    .gates] ⊆ L)
    (hO : onlyChanges L z0 s) : onlyChanges L z0 (gateDecide a s).2 := by
  unfold gateDecide
  try dsimp only
  repeat' first
    | with_reducible exact hO
    | with_reducible refine violate_only (subParts hL) ?_
    | (with_reducible refine ite_only (fun _ => ?_) fun _ => ?_)
    | split

theorem gateClear_only {L : List Part} {z0 : State} {n : ℕ} {s : State} (hL : [.records, .events, .recorder, .gates]
    ⊆ L)
    (hO : onlyChanges L z0 s) : onlyChanges L z0 (gateClear n s) := by
  unfold gateClear
  try dsimp only
  repeat' first
    | with_reducible exact hO
    | with_reducible refine updGate_only (subParts hL) ?_
    | with_reducible refine occur_only (subParts hL) ?_
    | (with_reducible refine ite_only (fun _ => ?_) fun _ => ?_)

theorem gateClrEff_only {L : List Part} {z0 : State} {val : Word} {s : State} (hL : [.records, .events, .recorder,
    .gates] ⊆ L)
    (hO : onlyChanges L z0 s) : onlyChanges L z0 (gateClrEff val s) := by
  unfold gateClrEff
  try dsimp only
  repeat' first
    | with_reducible exact hO
    | with_reducible refine gateClear_only (subParts hL) ?_
    | with_reducible refine foldl_only ?_ (fun _ _ _ => ?_)
    | with_reducible assumption
    | (with_reducible refine ite_only (fun _ => ?_) fun _ => ?_)

theorem armGates_only {L : List Part} {z0 : State} {gen : List GateEntry} {s : State} (hL : [.records, .events,
    .recorder, .gates] ⊆ L)
    (hO : onlyChanges L z0 s) : onlyChanges L z0 (armGates gen s) := by
  unfold armGates
  try dsimp only
  repeat' first
    | with_reducible exact hO
    | with_reducible refine updGate_only (subParts hL) ?_
    | with_reducible refine occur_only (subParts hL) ?_
    | with_reducible refine foldl_only ?_ (fun _ _ _ => ?_)
    | with_reducible assumption
    | (with_reducible refine ite_only (fun _ => ?_) fun _ => ?_)

theorem rearmGate1_only {L : List Part} {z0 : State} {gen : List GateEntry} {s : State} (hL : [.gates] ⊆ L)
    (hO : onlyChanges L z0 s) : onlyChanges L z0 (rearmGate1 gen s) := by
  unfold rearmGate1
  try dsimp only
  repeat' first
    | with_reducible exact hO
    | with_reducible refine updGate_only (subParts hL) ?_
    | (with_reducible refine ite_only (fun _ => ?_) fun _ => ?_)
    | ((with_reducible refine update_only ?_ fun p => ?_); rotate_left;
        (cases p <;> first | exact .inl (hL (by decide)) | (refine .inr ?_; repeat' constructor));
        first
        | with_reducible exact hO
        | with_reducible refine updGate_only (subParts hL) ?_
        | (with_reducible refine ite_only (fun _ => ?_) fun _ => ?_))

theorem setUnlock_only {L : List Part} {z0 : State} {mask : ℕ} {expiry : ℕ} {s : State} (hL : [.records, .events,
    .recorder, .gates] ⊆ L)
    (hO : onlyChanges L z0 s) : onlyChanges L z0 (setUnlock mask expiry s) := by
  unfold setUnlock
  try dsimp only
  repeat' first
    | with_reducible exact hO
    | with_reducible refine occurU_only (subParts hL) ?_
    | (with_reducible refine ite_only (fun _ => ?_) fun _ => ?_)
    | ((with_reducible refine update_only ?_ fun p => ?_); rotate_left;
        (cases p <;> first | exact .inl (hL (by decide)) | (refine .inr ?_; repeat' constructor));
        first
        | with_reducible exact hO
        | with_reducible refine occurU_only (subParts hL) ?_
        | (with_reducible refine ite_only (fun _ => ?_) fun _ => ?_))

theorem unlockCheck_only {L : List Part} {z0 : State} {s : State} (hL : [.records, .events, .recorder, .gates] ⊆ L)
    (hO : onlyChanges L z0 s) : onlyChanges L z0 (unlockCheck s) := by
  unfold unlockCheck
  try dsimp only
  repeat' first
    | with_reducible exact hO
    | with_reducible refine setUnlock_only (subParts hL) ?_
    | (with_reducible refine ite_only (fun _ => ?_) fun _ => ?_)

theorem updCan_only {L : List Part} {z0 : State} {x : ℕ} {f : CanPortS → CanPortS} {s : State} (hL : [.can] ⊆ L)
    (hO : onlyChanges L z0 s) : onlyChanges L z0 (updCan x f s) := by
  unfold updCan
  try dsimp only
  repeat' first
    | with_reducible exact hO
    | ((with_reducible refine update_only ?_ fun p => ?_); rotate_left;
        (cases p <;> first | exact .inl (hL (by decide)) | (refine .inr ?_; repeat' constructor));
        first
        | with_reducible exact hO)

theorem canDrop_only {L : List Part} {z0 : State} {x : ℕ} {cause : ℕ} {s : State} (hL : [.records, .events,
    .recorder, .can] ⊆ L)
    (hO : onlyChanges L z0 s) : onlyChanges L z0 (canDrop x cause s) := by
  unfold canDrop
  try dsimp only
  repeat' first
    | with_reducible exact hO
    | with_reducible refine occurU_only (subParts hL) ?_
    | with_reducible refine updCan_only (subParts hL) ?_

theorem canFlush_only {L : List Part} {z0 : State} {x : ℕ} {cause : ℕ} {s : State} (hL : [.records, .events,
    .recorder, .can] ⊆ L)
    (hO : onlyChanges L z0 s) : onlyChanges L z0 (canFlush x cause s) := by
  unfold canFlush
  try dsimp only
  repeat' first
    | with_reducible exact hO
    | with_reducible refine canDrop_only (subParts hL) ?_
    | with_reducible refine updCan_only (subParts hL) ?_
    | with_reducible refine foldl_only ?_ (fun _ _ _ => ?_)
    | with_reducible assumption
    | (with_reducible refine ite_only (fun _ => ?_) fun _ => ?_)

theorem canGate_only {L : List Part} {z0 : State} {s : State} (hL : [.clocks] ⊆ L)
    (hO : onlyChanges L z0 s) : onlyChanges L z0 (canGate s) := by
  unfold canGate
  try dsimp only
  repeat' first
    | with_reducible exact hO
    | with_reducible refine gateClose_only (subParts hL) ?_
    | with_reducible refine gateOpen_only (subParts hL) ?_
    | (with_reducible refine ite_only (fun _ => ?_) fun _ => ?_)

theorem retireCan_only {L : List Part} {z0 : State} {x : ℕ} {code : ℕ} {s : State} (hL : [.records, .faultStore,
    .events, .recorder, .clocks, .can] ⊆ L)
    (hO : onlyChanges L z0 s) : onlyChanges L z0 (retireCan x code s) := by
  unfold retireCan
  try dsimp only
  repeat' first
    | with_reducible exact hO
    | with_reducible refine canGate_only (subParts hL) ?_
    | with_reducible refine canFlush_only (subParts hL) ?_
    | with_reducible refine updCan_only (subParts hL) ?_
    | with_reducible refine retireRecord_only (subParts hL) ?_
    | (with_reducible refine ite_only (fun _ => ?_) fun _ => ?_)

theorem canFault_only {L : List Part} {z0 : State} {x : ℕ} {code : ℕ} {s : State} (hL : [.records, .faultStore,
    .events, .recorder, .faults, .clocks, .can] ⊆ L)
    (hO : onlyChanges L z0 s) : onlyChanges L z0 (canFault x code s) := by
  unfold canFault
  try dsimp only
  repeat' first
    | with_reducible exact hO
    | with_reducible refine occurU_only (subParts hL) ?_
    | with_reducible refine bucketAdd_only (subParts hL) ?_
    | with_reducible refine retireCan_only (subParts hL) ?_
    | (with_reducible refine ite_only (fun _ => ?_) fun _ => ?_)
    | ((with_reducible refine update_only ?_ fun p => ?_); rotate_left;
        (cases p <;> first | exact .inl (hL (by decide)) | (refine .inr ?_; repeat' constructor));
        first
        | with_reducible exact hO
        | with_reducible refine occurU_only (subParts hL) ?_
        | with_reducible refine bucketAdd_only (subParts hL) ?_
        | with_reducible refine retireCan_only (subParts hL) ?_
        | (with_reducible refine ite_only (fun _ => ?_) fun _ => ?_))

theorem canSleepNow_only {L : List Part} {z0 : State} {x : ℕ} {s : State} (hL : [.records, .events, .recorder, .can]
    ⊆ L)
    (hO : onlyChanges L z0 s) : onlyChanges L z0 (canSleepNow x s) := by
  unfold canSleepNow
  try dsimp only
  repeat' first
    | with_reducible exact hO
    | with_reducible refine updCan_only (subParts hL) ?_
    | with_reducible refine canFlush_only (subParts hL) ?_

theorem canSleepReq_only {L : List Part} {z0 : State} {x : ℕ} {s : State} (hL : [.records, .events, .recorder, .can]
    ⊆ L)
    (hO : onlyChanges L z0 s) : onlyChanges L z0 (canSleepReq x s) := by
  unfold canSleepReq
  try dsimp only
  repeat' first
    | with_reducible exact hO
    | with_reducible refine updCan_only (subParts hL) ?_
    | with_reducible refine canFlush_only (subParts hL) ?_
    | with_reducible refine canSleepNow_only (subParts hL) ?_
    | (with_reducible refine ite_only (fun _ => ?_) fun _ => ?_)

theorem canQueue_only {L : List Part} {z0 : State} {x : ℕ} {e : CanEntry} {s : State} (hL : [.records, .events,
    .recorder, .can] ⊆ L)
    (hO : onlyChanges L z0 s) : onlyChanges L z0 (canQueue x e s) := by
  unfold canQueue
  try dsimp only
  repeat' first
    | with_reducible exact hO
    | with_reducible refine canDrop_only (subParts hL) ?_
    | with_reducible refine updCan_only (subParts hL) ?_
    | (with_reducible refine ite_only (fun _ => ?_) fun _ => ?_)

theorem canQueueAll_only {L : List Part} {z0 : State} {img : ℕ → Entry} {x : ℕ} {s : State} (hL : [.records,
    .events, .recorder, .can] ⊆ L)
    (hO : onlyChanges L z0 s) : onlyChanges L z0 (canQueueAll img x s) := by
  unfold canQueueAll
  try dsimp only
  repeat' first
    | with_reducible exact hO
    | with_reducible refine canQueue_only (subParts hL) ?_
    | with_reducible refine foldl_only ?_ (fun _ _ _ => ?_)
    | with_reducible assumption
    | (with_reducible refine ite_only (fun _ => ?_) fun _ => ?_)

theorem canControl_only {L : List Part} {z0 : State} {img : ℕ → Entry} {x : ℕ} {s : State} (hL : [.records, .events,
    .recorder, .can] ⊆ L)
    (hO : onlyChanges L z0 s) : onlyChanges L z0 (canControl img x s) := by
  unfold canControl
  try dsimp only
  repeat' first
    | with_reducible exact hO
    | with_reducible refine updCan_only (subParts hL) ?_
    | with_reducible refine canSleepReq_only (subParts hL) ?_
    | (with_reducible refine ite_only (fun _ => ?_) fun _ => ?_)
    | split

theorem canPublish_only {L : List Part} {z0 : State} {img : ℕ → Entry} {executing : Bool} {s0 : State} (hL :
    [.records, .events, .recorder, .can] ⊆ L)
    (hO : onlyChanges L z0 s0) : onlyChanges L z0 (canPublish img executing s0) := by
  unfold canPublish
  try dsimp only
  repeat' first
    | with_reducible exact hO
    | with_reducible refine canControl_only (subParts hL) ?_
    | with_reducible refine updCan_only (subParts hL) ?_
    | with_reducible refine canQueueAll_only (subParts hL) ?_
    | with_reducible refine foldl_only ?_ (fun _ _ _ => ?_)
    | with_reducible assumption
    | (with_reducible refine ite_only (fun _ => ?_) fun _ => ?_)
    | ((with_reducible refine update_only ?_ fun p => ?_); rotate_left;
        (cases p <;> first | exact .inl (hL (by decide)) | (refine .inr ?_; repeat' constructor));
        first
        | with_reducible exact hO
        | with_reducible refine canControl_only (subParts hL) ?_
        | with_reducible refine updCan_only (subParts hL) ?_
        | with_reducible refine canQueueAll_only (subParts hL) ?_
        | with_reducible refine foldl_only ?_ (fun _ _ _ => ?_)
        | with_reducible assumption
        | (with_reducible refine ite_only (fun _ => ?_) fun _ => ?_))

theorem canTakeOver_only {L : List Part} {z0 : State} {img : ℕ → Entry} {s : State} (hL : [.records, .events,
    .recorder, .can] ⊆ L)
    (hO : onlyChanges L z0 s) : onlyChanges L z0 (canTakeOver img s) := by
  unfold canTakeOver
  try dsimp only
  repeat' first
    | with_reducible exact hO
    | with_reducible refine canQueueAll_only (subParts hL) ?_
    | with_reducible refine foldl_only ?_ (fun _ _ _ => ?_)
    | with_reducible assumption
    | (with_reducible refine ite_only (fun _ => ?_) fun _ => ?_)

theorem canRelease_only {L : List Part} {z0 : State} {s : State} (hL : [.records, .events, .recorder, .can] ⊆ L)
    (hO : onlyChanges L z0 s) : onlyChanges L z0 (canRelease s) := by
  unfold canRelease
  try dsimp only
  repeat' first
    | with_reducible exact hO
    | with_reducible refine canFlush_only (subParts hL) ?_
    | with_reducible refine foldl_only ?_ (fun _ _ _ => ?_)
    | with_reducible assumption

theorem canBegin_only {L : List Part} {z0 : State} {x : Nat} {es : List CanEntry} {s : State} (hL : [.records,
    .events, .recorder, .can] ⊆ L)
    (hO : onlyChanges L z0 s) : onlyChanges L z0 (canBegin x es s) := by
  induction es generalizing s with
  | nil => exact updCan_only (subParts hL) hO
  | cons e r ih =>
    exact ite_only (fun _ => ih (canDrop_only (subParts hL) hO)) fun _ => updCan_only (subParts hL) hO

theorem canTake_only {L : List Part} {z0 : State} {x : ℕ} {f : CanFrame} {s : State} (hL : [.cycle, .can] ⊆ L)
    (hO : onlyChanges L z0 s) : onlyChanges L z0 (canTake x f s) := by
  unfold canTake
  try dsimp only
  repeat' first
    | with_reducible exact hO
    | with_reducible refine updCan_only (subParts hL) ?_
    | with_reducible refine deliver_only (subParts hL) ?_
    | with_reducible refine foldl_only ?_ (fun _ _ _ => ?_)
    | with_reducible assumption
    | (with_reducible refine ite_only (fun _ => ?_) fun _ => ?_)
    | split

theorem canWakeNow_only {L : List Part} {z0 : State} {x : ℕ} {f : Option CanFrame} {s : State} (hL : [.records,
    .events, .recorder, .cycle, .can] ⊆ L)
    (hO : onlyChanges L z0 s) : onlyChanges L z0 (canWakeNow x f s) := by
  unfold canWakeNow
  try dsimp only
  repeat' first
    | with_reducible exact hO
    | with_reducible refine occur_only (subParts hL) ?_
    | with_reducible refine updCan_only (subParts hL) ?_
    | with_reducible refine canTake_only (subParts hL) ?_
    | (with_reducible refine ite_only (fun _ => ?_) fun _ => ?_)
    | split

theorem canCommitBad_only {L : List Part} {z0 : State} {s : State} (hL : [.can] ⊆ L)
    (hO : onlyChanges L z0 s) : onlyChanges L z0 (canCommitBad s) := by
  unfold canCommitBad
  try dsimp only
  repeat' first
    | with_reducible exact hO
    | with_reducible refine updCan_only (subParts hL) ?_
    | with_reducible refine foldl_only ?_ (fun _ _ _ => ?_)
    | with_reducible assumption
    | (with_reducible refine ite_only (fun _ => ?_) fun _ => ?_)

theorem updTi_only {L : List Part} {z0 : State} {i : ℕ} {f : TiS → TiS} {s : State} (hL : [.tripIo] ⊆ L)
    (hO : onlyChanges L z0 s) : onlyChanges L z0 (updTi i f s) := by
  unfold updTi
  try dsimp only
  repeat' first
    | with_reducible exact hO
    | ((with_reducible refine update_only ?_ fun p => ?_); rotate_left;
        (cases p <;> first | exact .inl (hL (by decide)) | (refine .inr ?_; repeat' constructor));
        first
        | with_reducible exact hO)

theorem updTq_only {L : List Part} {z0 : State} {q : ℕ} {f : TqS → TqS} {s : State} (hL : [.tripIo] ⊆ L)
    (hO : onlyChanges L z0 s) : onlyChanges L z0 (updTq q f s) := by
  unfold updTq
  try dsimp only
  repeat' first
    | with_reducible exact hO
    | ((with_reducible refine update_only ?_ fun p => ?_); rotate_left;
        (cases p <;> first | exact .inl (hL (by decide)) | (refine .inr ?_; repeat' constructor));
        first
        | with_reducible exact hO)

theorem updTp_only {L : List Part} {z0 : State} {p : ℕ} {f : TpS → TpS} {s : State} (hL : [.tripIo] ⊆ L)
    (hO : onlyChanges L z0 s) : onlyChanges L z0 (updTp p f s) := by
  unfold updTp
  try dsimp only
  repeat' first
    | with_reducible exact hO
    | ((with_reducible refine update_only ?_ fun p => ?_); rotate_left;
        (cases p <;> first | exact .inl (hL (by decide)) | (refine .inr ?_; repeat' constructor));
        first
        | with_reducible exact hO)

theorem updFs_only {L : List Part} {z0 : State} {g : ℕ} {f : FsS → FsS} {s : State} (hL : [.tripIo] ⊆ L)
    (hO : onlyChanges L z0 s) : onlyChanges L z0 (updFs g f s) := by
  unfold updFs
  try dsimp only
  repeat' first
    | with_reducible exact hO
    | ((with_reducible refine update_only ?_ fun p => ?_); rotate_left;
        (cases p <;> first | exact .inl (hL (by decide)) | (refine .inr ?_; repeat' constructor));
        first
        | with_reducible exact hO)

theorem tiKeep_only {L : List Part} {z0 : State} {e : ℕ} {s : State} (hL : [.tripIo] ⊆ L)
    (hO : onlyChanges L z0 s) : onlyChanges L z0 (tiKeep e s) := by
  unfold tiKeep
  try dsimp only
  repeat' first
    | with_reducible exact hO
    | (with_reducible refine ite_only (fun _ => ?_) fun _ => ?_)
    | ((with_reducible refine update_only ?_ fun p => ?_); rotate_left;
        (cases p <;> first | exact .inl (hL (by decide)) | (refine .inr ?_; repeat' constructor));
        first
        | with_reducible exact hO
        | (with_reducible refine ite_only (fun _ => ?_) fun _ => ?_))

theorem tioFault_only {L : List Part} {z0 : State} {sub : ℕ} {code : ℕ} {s : State} (hL : [.records, .events,
    .recorder, .tripIo] ⊆ L)
    (hO : onlyChanges L z0 s) : onlyChanges L z0 (tioFault sub code s) := by
  unfold tioFault
  try dsimp only
  repeat' first
    | with_reducible exact hO
    | with_reducible refine occurU_only (subParts hL) ?_
    | ((with_reducible refine update_only ?_ fun p => ?_); rotate_left;
        (cases p <;> first | exact .inl (hL (by decide)) | (refine .inr ?_; repeat' constructor));
        first
        | with_reducible exact hO
        | with_reducible refine occurU_only (subParts hL) ?_)

theorem tioDecide_only {L : List Part} {z0 : State} {s : State} (hL : [.tripIo] ⊆ L)
    (hO : onlyChanges L z0 s) : onlyChanges L z0 (tioDecide s) := by
  unfold tioDecide
  try dsimp only
  repeat' first
    | with_reducible exact hO
    | (with_reducible refine ite_only (fun _ => ?_) fun _ => ?_)
    | ((with_reducible refine update_only ?_ fun p => ?_); rotate_left;
        (cases p <;> first | exact .inl (hL (by decide)) | (refine .inr ?_; repeat' constructor));
        first
        | with_reducible exact hO
        | (with_reducible refine ite_only (fun _ => ?_) fun _ => ?_))

theorem latchAll_only {L : List Part} {z0 : State} {qs : List ℕ} {s : State} (hL : [.tripIo] ⊆ L)
    (hO : onlyChanges L z0 s) : onlyChanges L z0 (latchAll qs s) := by
  unfold latchAll
  try dsimp only
  repeat' first
    | with_reducible exact hO
    | with_reducible refine updTq_only (subParts hL) ?_
    | with_reducible refine foldl_only ?_ (fun _ _ _ => ?_)
    | with_reducible assumption
    | (with_reducible refine ite_only (fun _ => ?_) fun _ => ?_)

theorem latchDemand_only {L : List Part} {z0 : State} {qs : List ℕ} {s : State} (hL : [.tripIo] ⊆ L)
    (hO : onlyChanges L z0 s) : onlyChanges L z0 (latchDemand qs s) := by
  unfold latchDemand
  try dsimp only
  repeat' first
    | with_reducible exact hO
    | with_reducible refine updTq_only (subParts hL) ?_
    | with_reducible refine foldl_only ?_ (fun _ _ _ => ?_)
    | with_reducible assumption
    | (with_reducible refine ite_only (fun _ => ?_) fun _ => ?_)

theorem tqLatch_only {L : List Part} {z0 : State} {q : ℕ} {code : ℕ} {s : State} (hL : [.tripIo] ⊆ L)
    (hO : onlyChanges L z0 s) : onlyChanges L z0 (tqLatch q code s) := by
  unfold tqLatch
  try dsimp only
  repeat' first
    | with_reducible exact hO
    | with_reducible refine updTq_only (subParts hL) ?_

theorem tqClearGone_only {L : List Part} {z0 : State} {q : ℕ} {s : State} (hL : [.tripIo] ⊆ L)
    (hO : onlyChanges L z0 s) : onlyChanges L z0 (tqClearGone q s) := by
  unfold tqClearGone
  try dsimp only
  repeat' first
    | with_reducible exact hO
    | with_reducible refine updTq_only (subParts hL) ?_

theorem retireTq_only {L : List Part} {z0 : State} {q : ℕ} {code : ℕ} {s : State} (hL : [.records, .faultStore,
    .events, .recorder, .tripIo] ⊆ L)
    (hO : onlyChanges L z0 s) : onlyChanges L z0 (retireTq q code s) := by
  unfold retireTq
  try dsimp only
  repeat' first
    | with_reducible exact hO
    | with_reducible refine tioDecide_only (subParts hL) ?_
    | with_reducible refine retireRecord_only (subParts hL) ?_

theorem tqFieldFault_only {L : List Part} {z0 : State} {q : ℕ} {code : ℕ} {s : State} (hL : [.records, .events,
    .recorder, .tripIo] ⊆ L)
    (hO : onlyChanges L z0 s) : onlyChanges L z0 (tqFieldFault q code s) := by
  unfold tqFieldFault
  try dsimp only
  repeat' first
    | with_reducible exact hO
    | with_reducible refine tioFault_only (subParts hL) ?_
    | with_reducible refine tqLatch_only (subParts hL) ?_
    | (with_reducible refine ite_only (fun _ => ?_) fun _ => ?_)

theorem tqChannelFault_only {L : List Part} {z0 : State} {q : ℕ} {code : ℕ} {s : State} (hL : [.records,
    .faultStore, .events, .recorder, .faults, .tripIo] ⊆ L)
    (hO : onlyChanges L z0 s) : onlyChanges L z0 (tqChannelFault q code s) := by
  unfold tqChannelFault
  try dsimp only
  repeat' first
    | with_reducible exact hO
    | with_reducible refine tioFault_only (subParts hL) ?_
    | with_reducible refine tqLatch_only (subParts hL) ?_
    | with_reducible refine bucketAdd_only (subParts hL) ?_
    | with_reducible refine tioDecide_only (subParts hL) ?_
    | with_reducible refine retireRecord_only (subParts hL) ?_
    | (with_reducible refine ite_only (fun _ => ?_) fun _ => ?_)

theorem tioTake_only {L : List Part} {z0 : State} {published : Bool} {s : State} (hL : [.tripIo] ⊆ L)
    (hO : onlyChanges L z0 s) : onlyChanges L z0 (tioTake published s) := by
  unfold tioTake
  try dsimp only
  repeat' first
    | with_reducible exact hO
    | with_reducible refine tqClearGone_only (subParts hL) ?_
    | with_reducible refine foldl_only ?_ (fun _ _ _ => ?_)
    | with_reducible assumption
    | (with_reducible refine ite_only (fun _ => ?_) fun _ => ?_)
    | ((with_reducible refine update_only ?_ fun p => ?_); rotate_left;
        (cases p <;> first | exact .inl (hL (by decide)) | (refine .inr ?_; repeat' constructor));
        first
        | with_reducible exact hO
        | with_reducible refine tqClearGone_only (subParts hL) ?_
        | with_reducible refine foldl_only ?_ (fun _ _ _ => ?_)
        | with_reducible assumption
        | (with_reducible refine ite_only (fun _ => ?_) fun _ => ?_))

theorem tioRefreshNow_only {L : List Part} {z0 : State} {published : Bool} {s : State} (hL : [.tripIo] ⊆ L)
    (hO : onlyChanges L z0 s) : onlyChanges L z0 (tioRefreshNow published s) := by
  unfold tioRefreshNow
  try dsimp only
  repeat' first
    | with_reducible exact hO
    | with_reducible refine tioDecide_only (subParts hL) ?_
    | with_reducible refine tioTake_only (subParts hL) ?_

theorem tioConfigure_only {L : List Part} {z0 : State} {sect : List Byte} {ccvOk : Bool} {boot : Bool} {s : State}
    (hL : [.tripIo] ⊆ L)
    (hO : onlyChanges L z0 s) : onlyChanges L z0 (tioConfigure sect ccvOk boot s) := by
  unfold tioConfigure
  try dsimp only
  repeat' first
    | with_reducible exact hO
    | with_reducible refine tioDecide_only (subParts hL) ?_
    | with_reducible refine latchAll_only (subParts hL) ?_
    | (with_reducible refine ite_only (fun _ => ?_) fun _ => ?_)
    | ((with_reducible refine update_only ?_ fun p => ?_); rotate_left;
        (cases p <;> first | exact .inl (hL (by decide)) | (refine .inr ?_; repeat' constructor));
        first
        | with_reducible exact hO
        | with_reducible refine tioDecide_only (subParts hL) ?_
        | with_reducible refine latchAll_only (subParts hL) ?_
        | (with_reducible refine ite_only (fun _ => ?_) fun _ => ?_))

theorem tioConfirm_only {L : List Part} {z0 : State} {s : State} (hL : [.records, .events, .recorder, .tripIo] ⊆ L)
    (hO : onlyChanges L z0 s) : onlyChanges L z0 (tioConfirm s) := by
  unfold tioConfirm
  try dsimp only
  repeat' first
    | with_reducible exact hO
    | with_reducible refine latchAll_only (subParts hL) ?_
    | with_reducible refine tioDecide_only (subParts hL) ?_
    | with_reducible refine occurU_only (subParts hL) ?_
    | (with_reducible refine ite_only (fun _ => ?_) fun _ => ?_)
    | ((with_reducible refine update_only ?_ fun p => ?_); rotate_left;
        (cases p <;> first | exact .inl (hL (by decide)) | (refine .inr ?_; repeat' constructor));
        first
        | with_reducible exact hO
        | with_reducible refine latchAll_only (subParts hL) ?_
        | with_reducible refine tioDecide_only (subParts hL) ?_
        | with_reducible refine occurU_only (subParts hL) ?_
        | (with_reducible refine ite_only (fun _ => ?_) fun _ => ?_))

theorem tiSample_only {L : List Part} {z0 : State} {i : ℕ} {cls : ℕ} {s : State} (hL : [.records, .events,
    .recorder, .tripIo] ⊆ L)
    (hO : onlyChanges L z0 s) : onlyChanges L z0 (tiSample i cls s) := by
  unfold tiSample
  try dsimp only
  repeat' first
    | with_reducible exact hO
    | with_reducible refine updTi_only (subParts hL) ?_
    | with_reducible refine tioFault_only (subParts hL) ?_
    | (with_reducible refine ite_only (fun _ => ?_) fun _ => ?_)

theorem tiNoCheck_only {L : List Part} {z0 : State} {i : ℕ} {x : ℕ} {s : State} (hL : [.tripIo] ⊆ L)
    (hO : onlyChanges L z0 s) : onlyChanges L z0 (tiNoCheck i x s) := by
  unfold tiNoCheck
  try dsimp only
  repeat' first
    | with_reducible exact hO
    | with_reducible refine updTi_only (subParts hL) ?_

theorem tiCheck_only {L : List Part} {z0 : State} {i : ℕ} {x : ℕ} {pass : Bool} {s : State} (hL : [.records,
    .events, .recorder, .tripIo] ⊆ L)
    (hO : onlyChanges L z0 s) : onlyChanges L z0 (tiCheck i x pass s) := by
  unfold tiCheck
  try dsimp only
  repeat' first
    | with_reducible exact hO
    | with_reducible refine updTi_only (subParts hL) ?_
    | with_reducible refine tioFault_only (subParts hL) ?_
    | (with_reducible refine ite_only (fun _ => ?_) fun _ => ?_)

theorem tiDriveWindow_only {L : List Part} {z0 : State} {m : TioMeas} {x : Option ℕ} {s : State} {i : ℕ} (hL :
    [.records, .events, .recorder, .tripIo] ⊆ L)
    (hO : onlyChanges L z0 s) : onlyChanges L z0 (tiDriveWindow m x s i) := by
  unfold tiDriveWindow
  try dsimp only
  repeat' first
    | with_reducible exact hO
    | with_reducible refine tiCheck_only (subParts hL) ?_
    | with_reducible refine updTi_only (subParts hL) ?_
    | with_reducible refine tiNoCheck_only (subParts hL) ?_
    | with_reducible refine tiSample_only (subParts hL) ?_
    | (with_reducible refine ite_only (fun _ => ?_) fun _ => ?_)
    | split

theorem tiMonWindow_only {L : List Part} {z0 : State} {m : TioMeas} {x : Option ℕ} {s : State} {i : ℕ} (hL :
    [.records, .events, .recorder, .tripIo] ⊆ L)
    (hO : onlyChanges L z0 s) : onlyChanges L z0 (tiMonWindow m x s i) := by
  unfold tiMonWindow
  try dsimp only
  repeat' first
    | with_reducible exact hO
    | with_reducible refine tiSample_only (subParts hL) ?_
    | (with_reducible refine ite_only (fun _ => ?_) fun _ => ?_)

theorem tpWindow_only {L : List Part} {z0 : State} {m : TioMeas} {x : Option ℕ} {s : State} {p : ℕ} (hL : [.records,
    .events, .recorder, .tripIo] ⊆ L)
    (hO : onlyChanges L z0 s) : onlyChanges L z0 (tpWindow m x s p) := by
  unfold tpWindow
  try dsimp only
  repeat' first
    | with_reducible exact hO
    | with_reducible refine updTp_only (subParts hL) ?_
    | with_reducible refine tioFault_only (subParts hL) ?_
    | (with_reducible refine ite_only (fun _ => ?_) fun _ => ?_)

theorem pairWindow_only {L : List Part} {z0 : State} {s : State} {j : ℕ} (hL : [.tripIo] ⊆ L)
    (hO : onlyChanges L z0 s) : onlyChanges L z0 (pairWindow s j) := by
  unfold pairWindow
  try dsimp only
  repeat' first
    | with_reducible exact hO
    | with_reducible refine updTi_only (subParts hL) ?_
    | (with_reducible refine ite_only (fun _ => ?_) fun _ => ?_)

theorem tqWindow_only {L : List Part} {z0 : State} {m : TioMeas} {s : State} {q : ℕ} (hL : [.records, .events,
    .recorder, .tripIo] ⊆ L)
    (hO : onlyChanges L z0 s) : onlyChanges L z0 (tqWindow m s q) := by
  unfold tqWindow
  try dsimp only
  repeat' first
    | with_reducible exact hO
    | with_reducible refine updTq_only (subParts hL) ?_
    | with_reducible refine tioFault_only (subParts hL) ?_
    | (with_reducible refine ite_only (fun _ => ?_) fun _ => ?_)

theorem fnEdge_only {L : List Part} {z0 : State} {i : ℕ} {h : ℕ} {good : Bool} {s : State} {q : ℕ} (hL : [.records,
    .events, .recorder, .tripIo] ⊆ L)
    (hO : onlyChanges L z0 s) : onlyChanges L z0 (fnEdge i h good s q) := by
  unfold fnEdge
  try dsimp only
  repeat' first
    | with_reducible exact hO
    | with_reducible refine tqClearGone_only (subParts hL) ?_
    | with_reducible refine updTq_only (subParts hL) ?_
    | with_reducible refine occurU_only (subParts hL) ?_
    | (with_reducible refine ite_only (fun _ => ?_) fun _ => ?_)
    | ((with_reducible refine update_only ?_ fun p => ?_); rotate_left;
        (cases p <;> first | exact .inl (hL (by decide)) | (refine .inr ?_; repeat' constructor));
        first
        | with_reducible exact hO
        | with_reducible refine tqClearGone_only (subParts hL) ?_
        | with_reducible refine updTq_only (subParts hL) ?_
        | with_reducible refine occurU_only (subParts hL) ?_
        | (with_reducible refine ite_only (fun _ => ?_) fun _ => ?_))

theorem resetWindow_only {L : List Part} {z0 : State} {s : State} {i : ℕ} (hL : [.records, .events, .recorder,
    .tripIo] ⊆ L)
    (hO : onlyChanges L z0 s) : onlyChanges L z0 (resetWindow s i) := by
  unfold resetWindow
  try dsimp only
  repeat' first
    | with_reducible exact hO
    | with_reducible refine updTi_only (subParts hL) ?_
    | with_reducible refine fnEdge_only (subParts hL) ?_
    | with_reducible refine foldl_only ?_ (fun _ _ _ => ?_)
    | with_reducible assumption
    | (with_reducible refine ite_only (fun _ => ?_) fun _ => ?_)
    | split

theorem tioPoints_only {L : List Part} {z0 : State} {e : ℕ} {live : Bool} {x : Option ℕ} {s : State} (hL : [.cycle]
    ⊆ L)
    (hO : onlyChanges L z0 s) : onlyChanges L z0 (tioPoints e live x s) := by
  unfold tioPoints
  try dsimp only
  repeat' first
    | with_reducible exact hO
    | with_reducible refine deliverLink_only (subParts hL) ?_
    | with_reducible refine foldl_only ?_ (fun _ _ _ => ?_)
    | with_reducible assumption
    | (with_reducible refine ite_only (fun _ => ?_) fun _ => ?_)

theorem sampleWindow_only {L : List Part} {z0 : State} {m : TioMeas} {s0 : State} (hL : [.records, .events,
    .recorder, .cycle, .tripIo] ⊆ L)
    (hO : onlyChanges L z0 s0) : onlyChanges L z0 (sampleWindow m s0) := by
  unfold sampleWindow
  try dsimp only
  repeat' first
    | with_reducible exact hO
    | with_reducible refine tiKeep_only (subParts hL) ?_
    | with_reducible refine tpWindow_only (subParts hL) ?_
    | with_reducible refine tiDriveWindow_only (subParts hL) ?_
    | with_reducible refine tiMonWindow_only (subParts hL) ?_
    | with_reducible refine pairWindow_only (subParts hL) ?_
    | with_reducible refine latchDemand_only (subParts hL) ?_
    | with_reducible refine resetWindow_only (subParts hL) ?_
    | with_reducible refine updFs_only (subParts hL) ?_
    | with_reducible refine tqWindow_only (subParts hL) ?_
    | with_reducible refine tioPoints_only (subParts hL) ?_
    | with_reducible refine tioDecide_only (subParts hL) ?_
    | with_reducible refine foldl_only ?_ (fun _ _ _ => ?_)
    | with_reducible assumption
    | (with_reducible refine ite_only (fun _ => ?_) fun _ => ?_)
    | ((with_reducible refine update_only ?_ fun p => ?_); rotate_left;
        (cases p <;> first | exact .inl (hL (by decide)) | (refine .inr ?_; repeat' constructor));
        first
        | with_reducible exact hO
        | with_reducible refine tiKeep_only (subParts hL) ?_
        | with_reducible refine tpWindow_only (subParts hL) ?_
        | with_reducible refine tiDriveWindow_only (subParts hL) ?_
        | with_reducible refine tiMonWindow_only (subParts hL) ?_
        | with_reducible refine pairWindow_only (subParts hL) ?_
        | with_reducible refine latchDemand_only (subParts hL) ?_
        | with_reducible refine resetWindow_only (subParts hL) ?_
        | with_reducible refine updFs_only (subParts hL) ?_
        | with_reducible refine tqWindow_only (subParts hL) ?_
        | with_reducible refine tioPoints_only (subParts hL) ?_
        | with_reducible refine tioDecide_only (subParts hL) ?_
        | with_reducible refine foldl_only ?_ (fun _ _ _ => ?_)
        | with_reducible assumption
        | (with_reducible refine ite_only (fun _ => ?_) fun _ => ?_))

theorem fsTake_only {L : List Part} {z0 : State} {g : ℕ} {level : ℕ} {s : State} (hL : [.records, .events,
    .recorder, .tripIo] ⊆ L)
    (hO : onlyChanges L z0 s) : onlyChanges L z0 (fsTake g level s) := by
  unfold fsTake
  try dsimp only
  repeat' first
    | with_reducible exact hO
    | with_reducible refine occur_only (subParts hL) ?_
    | with_reducible refine updFs_only (subParts hL) ?_
    | with_reducible refine tioDecide_only (subParts hL) ?_
    | with_reducible refine latchAll_only (subParts hL) ?_
    | (with_reducible refine ite_only (fun _ => ?_) fun _ => ?_)

theorem tioHandover_only {L : List Part} {z0 : State} {leaving : Bool} {s : State} (hL : [.tripIo] ⊆ L)
    (hO : onlyChanges L z0 s) : onlyChanges L z0 (tioHandover leaving s) := by
  unfold tioHandover
  try dsimp only
  repeat' first
    | with_reducible exact hO
    | ((with_reducible refine update_only ?_ fun p => ?_); rotate_left;
        (cases p <;> first | exact .inl (hL (by decide)) | (refine .inr ?_; repeat' constructor));
        first
        | with_reducible exact hO)

theorem tioStop_only {L : List Part} {z0 : State} {s : State} (hL : [.tripIo] ⊆ L)
    (hO : onlyChanges L z0 s) : onlyChanges L z0 (tioStop s) := by
  unfold tioStop
  try dsimp only
  repeat' first
    | with_reducible exact hO
    | with_reducible refine tioDecide_only (subParts hL) ?_
    | ((with_reducible refine update_only ?_ fun p => ?_); rotate_left;
        (cases p <;> first | exact .inl (hL (by decide)) | (refine .inr ?_; repeat' constructor));
        first
        | with_reducible exact hO
        | with_reducible refine tioDecide_only (subParts hL) ?_)

theorem tioFromActive_only {L : List Part} {z0 : State} {tc : ℕ} {w : ℕ} {s : State} (hL : [.tripIo] ⊆ L)
    (hO : onlyChanges L z0 s) : onlyChanges L z0 (tioFromActive tc w s) := by
  unfold tioFromActive
  try dsimp only
  repeat' first
    | with_reducible exact hO
    | ((with_reducible refine update_only ?_ fun p => ?_); rotate_left;
        (cases p <;> first | exact .inl (hL (by decide)) | (refine .inr ?_; repeat' constructor));
        first
        | with_reducible exact hO)

theorem saveGens_only {L : List Part} {z0 : State} {s : State} (hL : [.stores] ⊆ L)
    (hO : onlyChanges L z0 s) : onlyChanges L z0 (saveGens s) := by
  unfold saveGens
  try dsimp only
  repeat' first
    | with_reducible exact hO
    | ((with_reducible refine update_only ?_ fun p => ?_); rotate_left;
        (cases p <;> first | exact .inl (hL (by decide)) | (refine .inr ?_; repeat' constructor));
        first
        | with_reducible exact hO)

theorem loadMap_only {L : List Part} {z0 : State} {old : Gen} {g : Gen} {s : State} (hL : [.cycle] ⊆ L)
    (hO : onlyChanges L z0 s) : onlyChanges L z0 (loadMap old g s) := by
  unfold loadMap
  try dsimp only
  repeat' first
    | with_reducible exact hO
    | (with_reducible refine ite_only (fun _ => ?_) fun _ => ?_)
    | ((with_reducible refine update_only ?_ fun p => ?_); rotate_left;
        (cases p <;> first | exact .inl (hL (by decide)) | (refine .inr ?_; repeat' constructor));
        first
        | with_reducible exact hO
        | (with_reducible refine ite_only (fun _ => ?_) fun _ => ?_))

theorem canConfigure_only {L : List Part} {z0 : State} {old : List CanParam} {new : List CanParam} {s : State} (hL :
    [.clocks, .can] ⊆ L)
    (hO : onlyChanges L z0 s) : onlyChanges L z0 (canConfigure old new s) := by
  unfold canConfigure
  try dsimp only
  repeat' first
    | with_reducible exact hO
    | with_reducible refine canGate_only (subParts hL) ?_
    | ((with_reducible refine update_only ?_ fun p => ?_); rotate_left;
        (cases p <;> first | exact .inl (hL (by decide)) | (refine .inr ?_; repeat' constructor));
        first
        | with_reducible exact hO
        | with_reducible refine canGate_only (subParts hL) ?_)

theorem dropForces_only {L : List Part} {z0 : State} {old : Gen} {g : Gen} {s : State} (hL : [.records, .tuple,
    .events, .slots, .recorder, .cycle, .change] ⊆ L)
    (hO : onlyChanges L z0 s) : onlyChanges L z0 (dropForces old g s) := by
  unfold dropForces
  try dsimp only
  repeat' first
    | with_reducible exact hO
    | with_reducible refine occur2_only (subParts hL) ?_
    | with_reducible refine setForced_only (subParts hL) ?_
    | with_reducible refine foldl_only ?_ (fun _ _ _ => ?_)
    | with_reducible assumption
    | (with_reducible refine ite_only (fun _ => ?_) fun _ => ?_)
    | ((with_reducible refine update_only ?_ fun p => ?_); rotate_left;
        (cases p <;> first | exact .inl (hL (by decide)) | (refine .inr ?_; repeat' constructor));
        first
        | with_reducible exact hO
        | with_reducible refine occur2_only (subParts hL) ?_
        | with_reducible refine setForced_only (subParts hL) ?_
        | with_reducible refine foldl_only ?_ (fun _ _ _ => ?_)
        | with_reducible assumption
        | (with_reducible refine ite_only (fun _ => ?_) fun _ => ?_))

theorem migCodes_only {L : List Part} {z0 : State} {codes : List (ℕ × Bool)} {s : State} (hL : [.records, .events,
    .recorder] ⊆ L)
    (hO : onlyChanges L z0 s) : onlyChanges L z0 (migCodes codes s) := by
  unfold migCodes
  try dsimp only
  repeat' first
    | with_reducible exact hO
    | with_reducible refine occurU_only (subParts hL) ?_
    | with_reducible refine foldl_only ?_ (fun _ _ _ => ?_)
    | with_reducible assumption

theorem runMigration_only {L : List Part} {z0 : State} {old : Gen} {g : Gen} {s : State} (hL : [.records, .events,
    .recorder, .cycle, .change, .stores] ⊆ L)
    (hO : onlyChanges L z0 s) : onlyChanges L z0 (runMigration old g s) := by
  unfold runMigration
  try dsimp only
  repeat' first
    | with_reducible exact hO
    | with_reducible refine migCodes_only (subParts hL) ?_
    | (with_reducible refine ite_only (fun _ => ?_) fun _ => ?_)
    | ((with_reducible refine update_only ?_ fun p => ?_); rotate_left;
        (cases p <;> first | exact .inl (hL (by decide)) | (refine .inr ?_; repeat' constructor));
        first
        | with_reducible exact hO
        | with_reducible refine migCodes_only (subParts hL) ?_
        | (with_reducible refine ite_only (fun _ => ?_) fun _ => ?_))

theorem exchangeGen_only {L : List Part} {z0 : State} {g : Stored} {s : State} (hL : [.records, .tuple, .modRest,
    .rings, .events, .slots, .recorder, .gates, .clocks, .heat, .cycle, .change, .stores, .tripIo, .can, .analog,
    .out] ⊆ L)
    (hO : onlyChanges L z0 s) : onlyChanges L z0 (exchangeGen g s) := by
  unfold exchangeGen
  try dsimp only
  repeat' first
    | with_reducible exact hO
    | with_reducible refine runMigration_only (subParts hL) ?_
    | with_reducible refine rearmGate1_only (subParts hL) ?_
    | with_reducible refine loadMap_only (subParts hL) ?_
    | with_reducible refine alConfigure_only (subParts hL) ?_
    | with_reducible refine canConfigure_only (subParts hL) ?_
    | with_reducible refine hlRestart_only (subParts hL) ?_
    | with_reducible refine dropForces_only (subParts hL) ?_
    | with_reducible refine tioConfigure_only (subParts hL) ?_
    | (with_reducible refine ite_only (fun _ => ?_) fun _ => ?_)
    | ((with_reducible refine update_only ?_ fun p => ?_); rotate_left;
        (cases p <;> first | exact .inl (hL (by decide)) | (refine .inr ?_; repeat' constructor));
        first
        | with_reducible exact hO
        | with_reducible refine runMigration_only (subParts hL) ?_
        | with_reducible refine rearmGate1_only (subParts hL) ?_
        | with_reducible refine loadMap_only (subParts hL) ?_
        | with_reducible refine alConfigure_only (subParts hL) ?_
        | with_reducible refine canConfigure_only (subParts hL) ?_
        | with_reducible refine hlRestart_only (subParts hL) ?_
        | with_reducible refine dropForces_only (subParts hL) ?_
        | with_reducible refine tioConfigure_only (subParts hL) ?_
        | (with_reducible refine ite_only (fun _ => ?_) fun _ => ?_))

theorem holdTable_only {L : List Part} {z0 : State} {t : Option IleTable} {s : State} (hL : [.ile] ⊆ L)
    (hO : onlyChanges L z0 s) : onlyChanges L z0 (holdTable t s) := by
  unfold holdTable
  try dsimp only
  repeat' first
    | with_reducible exact hO
    | (with_reducible refine ite_only (fun _ => ?_) fun _ => ?_)
    | ((with_reducible refine update_only ?_ fun p => ?_); rotate_left;
        (cases p <;> first | exact .inl (hL (by decide)) | (refine .inr ?_; repeat' constructor));
        first
        | with_reducible exact hO
        | (with_reducible refine ite_only (fun _ => ?_) fun _ => ?_))

theorem revertHold_only {L : List Part} {z0 : State} {cur : Gen} {prev : Option Stored} {s : State} (hL : [.ile] ⊆
    L)
    (hO : onlyChanges L z0 s) : onlyChanges L z0 (revertHold cur prev s) := by
  unfold revertHold
  try dsimp only
  repeat' first
    | with_reducible exact hO
    | with_reducible refine holdTable_only (subParts hL) ?_
    | (with_reducible refine ite_only (fun _ => ?_) fun _ => ?_)

theorem revertTake_only {L : List Part} {z0 : State} {cause : ℕ} {s : State} (hL : [.records, .tuple, .modRest,
    .rings, .events, .slots, .recorder, .gates, .clocks, .heat, .cycle, .change, .stores, .ile, .tripIo, .can,
    .analog, .out] ⊆ L)
    (hO : onlyChanges L z0 s) : onlyChanges L z0 (revertTake cause s) := by
  unfold revertTake
  try dsimp only
  repeat' first
    | with_reducible exact hO
    | with_reducible refine exchangeGen_only (subParts hL) ?_
    | with_reducible refine setChange_only (subParts hL) ?_
    | with_reducible refine occurU_only (subParts hL) ?_
    | with_reducible refine saveGens_only (subParts hL) ?_
    | with_reducible refine revertHold_only (subParts hL) ?_
    | (with_reducible refine ite_only (fun _ => ?_) fun _ => ?_)
    | ((with_reducible refine update_only ?_ fun p => ?_); rotate_left;
        (cases p <;> first | exact .inl (hL (by decide)) | (refine .inr ?_; repeat' constructor));
        first
        | with_reducible exact hO
        | with_reducible refine exchangeGen_only (subParts hL) ?_
        | with_reducible refine setChange_only (subParts hL) ?_
        | with_reducible refine occurU_only (subParts hL) ?_
        | with_reducible refine saveGens_only (subParts hL) ?_
        | with_reducible refine revertHold_only (subParts hL) ?_
        | (with_reducible refine ite_only (fun _ => ?_) fun _ => ?_))

theorem switchTake_only {L : List Part} {z0 : State} {s : State} (hL : [.records, .tuple, .modRest, .rings, .events,
    .slots, .recorder, .gates, .clocks, .heat, .cycle, .change, .stores, .tripIo, .can, .analog, .out] ⊆ L)
    (hO : onlyChanges L z0 s) : onlyChanges L z0 (switchTake s) := by
  unfold switchTake
  try dsimp only
  repeat' first
    | with_reducible exact hO
    | with_reducible refine exchangeGen_only (subParts hL) ?_
    | with_reducible refine setChange_only (subParts hL) ?_
    | with_reducible refine occur_only (subParts hL) ?_
    | with_reducible refine saveGens_only (subParts hL) ?_
    | (with_reducible refine ite_only (fun _ => ?_) fun _ => ?_)
    | ((with_reducible refine update_only ?_ fun p => ?_); rotate_left;
        (cases p <;> first | exact .inl (hL (by decide)) | (refine .inr ?_; repeat' constructor));
        first
        | with_reducible exact hO
        | with_reducible refine exchangeGen_only (subParts hL) ?_
        | with_reducible refine setChange_only (subParts hL) ?_
        | with_reducible refine occur_only (subParts hL) ?_
        | with_reducible refine saveGens_only (subParts hL) ?_
        | (with_reducible refine ite_only (fun _ => ?_) fun _ => ?_))
    | split

theorem dropStaged_only {L : List Part} {z0 : State} {s : State} (hL : [.tuple, .events, .slots, .change, .ile] ⊆ L)
    (hO : onlyChanges L z0 s) : onlyChanges L z0 (dropStaged s) := by
  unfold dropStaged
  try dsimp only
  repeat' first
    | with_reducible exact hO
    | with_reducible refine holdTable_only (subParts hL) ?_
    | with_reducible refine setChange_only (subParts hL) ?_
    | ((with_reducible refine update_only ?_ fun p => ?_); rotate_left;
        (cases p <;> first | exact .inl (hL (by decide)) | (refine .inr ?_; repeat' constructor));
        first
        | with_reducible exact hO
        | with_reducible refine holdTable_only (subParts hL) ?_
        | with_reducible refine setChange_only (subParts hL) ?_)

theorem cancelSwitch_only {L : List Part} {z0 : State} {cause : ℕ} {s : State} (hL : [.records, .events, .recorder,
    .change] ⊆ L)
    (hO : onlyChanges L z0 s) : onlyChanges L z0 (cancelSwitch cause s) := by
  unfold cancelSwitch
  try dsimp only
  repeat' first
    | with_reducible exact hO
    | with_reducible refine occurU_only (subParts hL) ?_
    | (with_reducible refine ite_only (fun _ => ?_) fun _ => ?_)
    | ((with_reducible refine update_only ?_ fun p => ?_); rotate_left;
        (cases p <;> first | exact .inl (hL (by decide)) | (refine .inr ?_; repeat' constructor));
        first
        | with_reducible exact hO
        | with_reducible refine occurU_only (subParts hL) ?_
        | (with_reducible refine ite_only (fun _ => ?_) fun _ => ?_))

theorem takeRecord_only {L : List Part} {z0 : State} {s : State} (hL : [.change] ⊆ L)
    (hO : onlyChanges L z0 s) : onlyChanges L z0 (takeRecord s) := by
  unfold takeRecord
  try dsimp only
  repeat' first
    | with_reducible exact hO
    | ((with_reducible refine update_only ?_ fun p => ?_); rotate_left;
        (cases p <;> first | exact .inl (hL (by decide)) | (refine .inr ?_; repeat' constructor));
        first
        | with_reducible exact hO)

theorem armEff_only {L : List Part} {z0 : State} {s : State} (hL : [.rings, .events, .vectors, .hxpRest, .out] ⊆ L)
    (hO : onlyChanges L z0 s) : onlyChanges L z0 (armEff s) := by
  unfold armEff
  try dsimp only
  repeat' first
    | with_reducible exact hO
    | with_reducible refine setHxpErr_only (subParts hL) ?_
    | (with_reducible refine ite_only (fun _ => ?_) fun _ => ?_)
    | ((with_reducible refine update_only ?_ fun p => ?_); rotate_left;
        (cases p <;> first | exact .inl (hL (by decide)) | (refine .inr ?_; repeat' constructor));
        first
        | with_reducible exact hO
        | with_reducible refine setHxpErr_only (subParts hL) ?_
        | (with_reducible refine ite_only (fun _ => ?_) fun _ => ?_))

theorem disarmEff_only {L : List Part} {z0 : State} {s : State} (hL : [.hxpRest] ⊆ L)
    (hO : onlyChanges L z0 s) : onlyChanges L z0 (disarmEff s) := by
  unfold disarmEff
  try dsimp only
  repeat' first
    | with_reducible exact hO
    | (with_reducible refine ite_only (fun _ => ?_) fun _ => ?_)
    | ((with_reducible refine update_only ?_ fun p => ?_); rotate_left;
        (cases p <;> first | exact .inl (hL (by decide)) | (refine .inr ?_; repeat' constructor));
        first
        | with_reducible exact hO
        | (with_reducible refine ite_only (fun _ => ?_) fun _ => ?_))

theorem ringResetEff_only {L : List Part} {z0 : State} {n : ℕ} {s : State} (hL : [.rings, .hxpRest] ⊆ L)
    (hO : onlyChanges L z0 s) : onlyChanges L z0 (ringResetEff n s) := by
  unfold ringResetEff
  try dsimp only
  repeat' first
    | with_reducible exact hO
    | with_reducible refine updRing_only (subParts hL) ?_
    | (with_reducible refine ite_only (fun _ => ?_) fun _ => ?_)
    | ((with_reducible refine update_only ?_ fun p => ?_); rotate_left;
        (cases p <;> first | exact .inl (hL (by decide)) | (refine .inr ?_; repeat' constructor));
        first
        | with_reducible exact hO
        | with_reducible refine updRing_only (subParts hL) ?_
        | (with_reducible refine ite_only (fun _ => ?_) fun _ => ?_))

theorem evqResetEff_only {L : List Part} {z0 : State} {s : State} (hL : [.events] ⊆ L)
    (hO : onlyChanges L z0 s) : onlyChanges L z0 (evqResetEff s) := by
  unfold evqResetEff
  try dsimp only
  repeat' first
    | with_reducible exact hO
    | (with_reducible refine ite_only (fun _ => ?_) fun _ => ?_)
    | ((with_reducible refine update_only ?_ fun p => ?_); rotate_left;
        (cases p <;> first | exact .inl (hL (by decide)) | (refine .inr ?_; repeat' constructor));
        first
        | with_reducible exact hO
        | (with_reducible refine ite_only (fun _ => ?_) fun _ => ?_))

theorem ctlDb_only {L : List Part} {z0 : State} {val : Word} {s : State} (hL : [.rings, .events, .vectors, .hxpRest,
    .out] ⊆ L)
    (hO : onlyChanges L z0 s) : onlyChanges L z0 (ctlDb val s) := by
  unfold ctlDb
  try dsimp only
  repeat' first
    | with_reducible exact hO
    | with_reducible refine armEff_only (subParts hL) ?_
    | with_reducible refine disarmEff_only (subParts hL) ?_
    | with_reducible refine ringResetEff_only (subParts hL) ?_
    | with_reducible refine evqResetEff_only (subParts hL) ?_
    | split

theorem cmdqDb_only {L : List Part} {z0 : State} {n : ℕ} {val : Word} {s : State} (hL : [.rings, .events, .vectors,
    .hxpRest, .out] ⊆ L)
    (hO : onlyChanges L z0 s) : onlyChanges L z0 (cmdqDb n val s) := by
  unfold cmdqDb
  try dsimp only
  repeat' first
    | with_reducible exact hO
    | with_reducible refine setHxpErr_only (subParts hL) ?_
    | with_reducible refine updRing_only (subParts hL) ?_
    | (with_reducible refine ite_only (fun _ => ?_) fun _ => ?_)

theorem cplqDb_only {L : List Part} {z0 : State} {n : ℕ} {val : Word} {s : State} (hL : [.rings, .events, .vectors,
    .hxpRest, .out] ⊆ L)
    (hO : onlyChanges L z0 s) : onlyChanges L z0 (cplqDb n val s) := by
  unfold cplqDb
  try dsimp only
  repeat' first
    | with_reducible exact hO
    | with_reducible refine setHxpErr_only (subParts hL) ?_
    | with_reducible refine updRing_only (subParts hL) ?_
    | (with_reducible refine ite_only (fun _ => ?_) fun _ => ?_)

theorem evqDb_only {L : List Part} {z0 : State} {val : Word} {s : State} (hL : [.events, .vectors, .hxpRest, .out] ⊆
    L)
    (hO : onlyChanges L z0 s) : onlyChanges L z0 (evqDb val s) := by
  unfold evqDb
  try dsimp only
  repeat' first
    | with_reducible exact hO
    | with_reducible refine setHxpErr_only (subParts hL) ?_
    | (with_reducible refine ite_only (fun _ => ?_) fun _ => ?_)
    | ((with_reducible refine update_only ?_ fun p => ?_); rotate_left;
        (cases p <;> first | exact .inl (hL (by decide)) | (refine .inr ?_; repeat' constructor));
        first
        | with_reducible exact hO
        | with_reducible refine setHxpErr_only (subParts hL) ?_
        | (with_reducible refine ite_only (fun _ => ?_) fun _ => ?_))

theorem postCompletion_only {L : List Part} {z0 : State} {n : ℕ} {s : State} (hL : [.rings, .vectors, .out] ⊆ L)
    (hO : onlyChanges L z0 s) : onlyChanges L z0 (postCompletion n s) := by
  unfold postCompletion
  try dsimp only
  repeat' first
    | with_reducible exact hO
    | with_reducible refine emit_only (subParts hL) ?_
    | with_reducible refine updRing_only (subParts hL) ?_
    | with_reducible refine msix_only (subParts hL) ?_
    | (with_reducible refine ite_only (fun _ => ?_) fun _ => ?_)
    | split

theorem writeEvent_only {L : List Part} {z0 : State} {e : Event} {s : State} (hL : [.events, .vectors, .out] ⊆ L)
    (hO : onlyChanges L z0 s) : onlyChanges L z0 (writeEvent e s) := by
  unfold writeEvent
  try dsimp only
  repeat' first
    | with_reducible exact hO
    | with_reducible refine msix_only (subParts hL) ?_
    | with_reducible refine emit_only (subParts hL) ?_
    | (with_reducible refine ite_only (fun _ => ?_) fun _ => ?_)
    | ((with_reducible refine update_only ?_ fun p => ?_); rotate_left;
        (cases p <;> first | exact .inl (hL (by decide)) | (refine .inr ?_; repeat' constructor));
        first
        | with_reducible exact hO
        | with_reducible refine msix_only (subParts hL) ?_
        | with_reducible refine emit_only (subParts hL) ?_
        | (with_reducible refine ite_only (fun _ => ?_) fun _ => ?_))

theorem postEvent_only {L : List Part} {z0 : State} {s : State} (hL : [.events, .vectors, .out] ⊆ L)
    (hO : onlyChanges L z0 s) : onlyChanges L z0 (postEvent s) := by
  unfold postEvent
  try dsimp only
  repeat' first
    | with_reducible exact hO
    | with_reducible refine writeEvent_only (subParts hL) ?_
    | (with_reducible refine ite_only (fun _ => ?_) fun _ => ?_)
    | ((with_reducible refine update_only ?_ fun p => ?_); rotate_left;
        (cases p <;> first | exact .inl (hL (by decide)) | (refine .inr ?_; repeat' constructor));
        first
        | with_reducible exact hO
        | with_reducible refine writeEvent_only (subParts hL) ?_
        | (with_reducible refine ite_only (fun _ => ?_) fun _ => ?_))
    | split

theorem coalesceEff_only {L : List Part} {z0 : State} {vec : ℕ} {s : State} (hL : [.vectors, .out] ⊆ L)
    (hO : onlyChanges L z0 s) : onlyChanges L z0 (coalesceEff vec s) := by
  unfold coalesceEff
  try dsimp only
  repeat' first
    | with_reducible exact hO
    | with_reducible refine msixNow_only (subParts hL) ?_
    | (with_reducible refine ite_only (fun _ => ?_) fun _ => ?_)
    | split

theorem msixSend_only {L : List Part} {z0 : State} {v : ℕ} {s : State} (hL : [.vectors, .out] ⊆ L)
    (hO : onlyChanges L z0 s) : onlyChanges L z0 (msixSend v s) := by
  unfold msixSend
  try dsimp only
  repeat' first
    | with_reducible exact hO
    | with_reducible refine emit_only (subParts hL) ?_
    | (with_reducible refine ite_only (fun _ => ?_) fun _ => ?_)
    | ((with_reducible refine update_only ?_ fun p => ?_); rotate_left;
        (cases p <;> first | exact .inl (hL (by decide)) | (refine .inr ?_; repeat' constructor));
        first
        | with_reducible exact hO
        | with_reducible refine emit_only (subParts hL) ?_
        | (with_reducible refine ite_only (fun _ => ?_) fun _ => ?_))

theorem msixWrite_only {L : List Part} {z0 : State} {i : ℕ} {val : Word} {s : State} (hL : [.vectors, .out] ⊆ L)
    (hO : onlyChanges L z0 s) : onlyChanges L z0 (msixWrite i val s) := by
  unfold msixWrite
  try dsimp only
  repeat' first
    | with_reducible exact hO
    | with_reducible refine msixSend_only (subParts hL) ?_
    | (with_reducible refine ite_only (fun _ => ?_) fun _ => ?_)
    | ((with_reducible refine update_only ?_ fun p => ?_); rotate_left;
        (cases p <;> first | exact .inl (hL (by decide)) | (refine .inr ?_; repeat' constructor));
        first
        | with_reducible exact hO
        | with_reducible refine msixSend_only (subParts hL) ?_
        | (with_reducible refine ite_only (fun _ => ?_) fun _ => ?_))

theorem pcieWrite_only {L : List Part} {z0 : State} {i : ℕ} {val : Word} {s : State} (hL : [.vectors, .hxpRest,
    .out] ⊆ L)
    (hO : onlyChanges L z0 s) : onlyChanges L z0 (pcieWrite i val s) := by
  unfold pcieWrite
  try dsimp only
  repeat' first
    | with_reducible exact hO
    | with_reducible refine msixSend_only (subParts hL) ?_
    | with_reducible refine foldl_only ?_ (fun _ _ _ => ?_)
    | with_reducible assumption
    | (with_reducible refine ite_only (fun _ => ?_) fun _ => ?_)
    | ((with_reducible refine update_only ?_ fun p => ?_); rotate_left;
        (cases p <;> first | exact .inl (hL (by decide)) | (refine .inr ?_; repeat' constructor));
        first
        | with_reducible exact hO
        | with_reducible refine msixSend_only (subParts hL) ?_
        | with_reducible refine foldl_only ?_ (fun _ _ _ => ?_)
        | with_reducible assumption
        | (with_reducible refine ite_only (fun _ => ?_) fun _ => ?_))
    | split

theorem hxpBlockReset_only {L : List Part} {z0 : State} {s : State} (hL : [.rings, .events, .vectors, .slots,
    .hxpRest] ⊆ L)
    (hO : onlyChanges L z0 s) : onlyChanges L z0 (hxpBlockReset s) := by
  unfold hxpBlockReset
  try dsimp only
  repeat' first
    | with_reducible exact hO
    | ((with_reducible refine update_only ?_ fun p => ?_); rotate_left;
        (cases p <;> first | exact .inl (hL (by decide)) | (refine .inr ?_; repeat' constructor));
        first
        | with_reducible exact hO)

theorem linkDown_only {L : List Part} {z0 : State} {s : State} (hL : [.hxpRest] ⊆ L)
    (hO : onlyChanges L z0 s) : onlyChanges L z0 (linkDown s) := by
  unfold linkDown
  try dsimp only
  repeat' first
    | with_reducible exact hO
    | ((with_reducible refine update_only ?_ fun p => ?_); rotate_left;
        (cases p <;> first | exact .inl (hL (by decide)) | (refine .inr ?_; repeat' constructor));
        first
        | with_reducible exact hO)

theorem fetchOne_only {L : List Part} {z0 : State} {n : ℕ} {s : State} (hL : [.rings, .hxpRest] ⊆ L)
    (hO : onlyChanges L z0 s) : onlyChanges L z0 (fetchOne n s) := by
  unfold fetchOne
  try dsimp only
  repeat' first
    | with_reducible exact hO
    | with_reducible refine updRing_only (subParts hL) ?_
    | ((with_reducible refine update_only ?_ fun p => ?_); rotate_left;
        (cases p <;> first | exact .inl (hL (by decide)) | (refine .inr ?_; repeat' constructor));
        first
        | with_reducible exact hO
        | with_reducible refine updRing_only (subParts hL) ?_)

theorem dataFail_only {L : List Part} {z0 : State} {n : ℕ} {tag : ℕ} {op : ℕ} {irq : Bool} {st : Status} {s : State}
    (hL : [.rings, .hxpRest] ⊆ L)
    (hO : onlyChanges L z0 s) : onlyChanges L z0 (dataFail n tag op irq st s) := by
  unfold dataFail
  try dsimp only
  repeat' first
    | with_reducible exact hO
    | with_reducible refine updRing_only (subParts hL) ?_
    | with_reducible refine fetchOne_only (subParts hL) ?_
    | (with_reducible refine ite_only (fun _ => ?_) fun _ => ?_)

theorem dmaFail_only {L : List Part} {z0 : State} {x : Xfer} {st : Status} {s : State} (hL : [.rings, .events,
    .vectors, .hxpRest, .out] ⊆ L)
    (hO : onlyChanges L z0 s) : onlyChanges L z0 (dmaFail x st s) := by
  unfold dmaFail
  try dsimp only
  repeat' first
    | with_reducible exact hO
    | with_reducible refine setHxpErr_only (subParts hL) ?_
    | with_reducible refine updRing_only (subParts hL) ?_
    | with_reducible refine dataFail_only (subParts hL) ?_
    | (with_reducible refine ite_only (fun _ => ?_) fun _ => ?_)
    | ((with_reducible refine update_only ?_ fun p => ?_); rotate_left;
        (cases p <;> first | exact .inl (hL (by decide)) | (refine .inr ?_; repeat' constructor));
        first
        | with_reducible exact hO
        | with_reducible refine setHxpErr_only (subParts hL) ?_
        | with_reducible refine updRing_only (subParts hL) ?_
        | with_reducible refine dataFail_only (subParts hL) ?_
        | (with_reducible refine ite_only (fun _ => ?_) fun _ => ?_))
    | split

theorem prune_only {L : List Part} {z0 : State} {s : State} (hL : [.records, .events, .recorder] ⊆ L)
    (hO : onlyChanges L z0 s) : onlyChanges L z0 (prune s) := by
  unfold prune
  try dsimp only
  repeat' first
    | with_reducible exact hO
    | with_reducible refine occur_only (subParts hL) ?_
    | (with_reducible refine ite_only (fun _ => ?_) fun _ => ?_)
    | ((with_reducible refine update_only ?_ fun p => ?_); rotate_left;
        (cases p <;> first | exact .inl (hL (by decide)) | (refine .inr ?_; repeat' constructor));
        first
        | with_reducible exact hO
        | with_reducible refine occur_only (subParts hL) ?_
        | (with_reducible refine ite_only (fun _ => ?_) fun _ => ?_))

theorem rollDays_only {L : List Part} {z0 : State} {s : State} (hL : [.records] ⊆ L)
    (hO : onlyChanges L z0 s) : onlyChanges L z0 (rollDays s) := by
  unfold rollDays
  try dsimp only
  repeat' first
    | with_reducible exact hO
    | (with_reducible refine ite_only (fun _ => ?_) fun _ => ?_)
    | ((with_reducible refine update_only ?_ fun p => ?_); rotate_left;
        (cases p <;> first | exact .inl (hL (by decide)) | (refine .inr ?_; repeat' constructor));
        first
        | with_reducible exact hO
        | (with_reducible refine ite_only (fun _ => ?_) fun _ => ?_))

theorem recordBad_only {L : List Part} {z0 : State} {code : ℕ} {s : State} (hL : [.records, .events, .recorder] ⊆ L)
    (hO : onlyChanges L z0 s) : onlyChanges L z0 (recordBad code s) := by
  unfold recordBad
  try dsimp only
  repeat' first
    | with_reducible exact hO
    | with_reducible refine occurU_only (subParts hL) ?_
    | ((with_reducible refine update_only ?_ fun p => ?_); rotate_left;
        (cases p <;> first | exact .inl (hL (by decide)) | (refine .inr ?_; repeat' constructor));
        first
        | with_reducible exact hO
        | with_reducible refine occurU_only (subParts hL) ?_)

theorem rollUnit_only {L : List Part} {z0 : State} {bad : List ℕ} {s : State} (hL : [.records, .events, .recorder] ⊆
    L)
    (hO : onlyChanges L z0 s) : onlyChanges L z0 (rollUnit bad s) := by
  unfold rollUnit
  try dsimp only
  repeat' first
    | with_reducible exact hO
    | with_reducible refine recordBad_only (subParts hL) ?_
    | with_reducible refine prune_only (subParts hL) ?_
    | with_reducible refine rollDays_only (subParts hL) ?_
    | with_reducible refine foldl_only ?_ (fun _ _ _ => ?_)
    | with_reducible assumption
    | (with_reducible refine ite_only (fun _ => ?_) fun _ => ?_)
    | ((with_reducible refine update_only ?_ fun p => ?_); rotate_left;
        (cases p <;> first | exact .inl (hL (by decide)) | (refine .inr ?_; repeat' constructor));
        first
        | with_reducible exact hO
        | with_reducible refine recordBad_only (subParts hL) ?_
        | with_reducible refine prune_only (subParts hL) ?_
        | with_reducible refine rollDays_only (subParts hL) ?_
        | with_reducible refine foldl_only ?_ (fun _ _ _ => ?_)
        | with_reducible assumption
        | (with_reducible refine ite_only (fun _ => ?_) fun _ => ?_))
    | split

theorem flushAll_only {L : List Part} {z0 : State} {s : State} (hL : [.records, .events, .recorder] ⊆ L)
    (hO : onlyChanges L z0 s) : onlyChanges L z0 (flushAll s) := by
  unfold flushAll
  try dsimp only
  repeat' first
    | with_reducible exact hO
    | with_reducible refine flushCode_only (subParts hL) ?_
    | with_reducible refine foldl_only ?_ (fun _ _ _ => ?_)
    | with_reducible assumption

theorem writeUnflushed_only {L : List Part} {z0 : State} {s : State} (hL : [.records, .events, .recorder] ⊆ L)
    (hO : onlyChanges L z0 s) : onlyChanges L z0 (writeUnflushed s) := by
  unfold writeUnflushed
  try dsimp only
  repeat' first
    | with_reducible exact hO
    | with_reducible refine occurU_only (subParts hL) ?_
    | with_reducible refine foldl_only ?_ (fun _ _ _ => ?_)
    | with_reducible assumption
    | ((with_reducible refine update_only ?_ fun p => ?_); rotate_left;
        (cases p <;> first | exact .inl (hL (by decide)) | (refine .inr ?_; repeat' constructor));
        first
        | with_reducible exact hO
        | with_reducible refine occurU_only (subParts hL) ?_
        | with_reducible refine foldl_only ?_ (fun _ _ _ => ?_)
        | with_reducible assumption)

theorem recReadEff_only {L : List Part} {z0 : State} {c : Call} {cf : ℕ} {cl : ℕ} {st : ℕ} {from_ : ℕ} {to_ : ℕ}
    {bad : List ℕ} {s : State} (hL : [.records, .rings, .events, .hxpRest, .recorder, .out, .free] ⊆ L)
    (hO : onlyChanges L z0 s) : onlyChanges L z0 (recReadEff c cf cl st from_ to_ bad s) := by
  unfold recReadEff
  try dsimp only
  repeat' first
    | with_reducible exact hO
    | with_reducible refine recordBad_only (subParts hL) ?_
    | with_reducible refine doneBuf_only (subParts hL) ?_
    | with_reducible refine foldl_only ?_ (fun _ _ _ => ?_)
    | with_reducible assumption
    | (with_reducible refine ite_only (fun _ => ?_) fun _ => ?_)
    | ((with_reducible refine update_only ?_ fun p => ?_); rotate_left;
        (cases p <;> first | exact .inl (hL (by decide)) | (refine .inr ?_; repeat' constructor));
        first
        | with_reducible exact hO
        | with_reducible refine recordBad_only (subParts hL) ?_
        | with_reducible refine doneBuf_only (subParts hL) ?_
        | with_reducible refine foldl_only ?_ (fun _ _ _ => ?_)
        | with_reducible assumption
        | (with_reducible refine ite_only (fun _ => ?_) fun _ => ?_))

theorem recClearEff_only {L : List Part} {z0 : State} {c : Call} {cf cl st from_ to_ nonce slot : Nat} {s0 : State}
    (hL : [.records, .rings, .events, .recorder, .heat] ⊆ L)
    (hO : onlyChanges L z0 s0) : onlyChanges L z0 (recClearEff c cf cl st from_ to_ nonce slot s0) := by
  unfold recClearEff
  extract_lets x s hit removed keep y n
  have h_s : onlyChanges L z0 s :=
    ite_only (fun _ => rollUnit_only (subParts hL) (hl_only (hL (by decide)) hO)) fun _ => hO
  refine done_only (subParts hL) (pushEvent_only (subParts hL) (update_only h_s fun p => ?_))
  cases p <;> first | exact .inl (hL (by decide)) | (refine .inr ?_; unfold n; split <;> repeat' constructor)

end Sys2Proof.Machine
end

