-- ==== Sys2Proof/Laws/FrameAgents.lean ====
section
/-! SUPPORT. What each operation of retirement, clocks, heat, time, network and interlocking engine may change. -/

namespace Sys2Proof.Machine

set_option Elab.async false
set_option linter.unusedTactic false
set_option linter.unreachableTactic false

theorem setCause_only {L : List Part} {z0 : State} {cause : RetireCause} {kept : Option RetireCause} {s : State} (hL
    : [.modRetired, .modRest] ⊆ L)
    (hO : onlyChanges L z0 s) : onlyChanges L z0 (setCause cause kept s) := by
  unfold setCause
  try dsimp only
  repeat' first
    | with_reducible exact hO
    | ((with_reducible refine update_only ?_ fun p => ?_); rotate_left;
        (cases p <;> first | exact .inl (hL (by decide)) | (refine .inr ?_; repeat' constructor));
        first
        | with_reducible exact hO)

theorem retireJob_only {L : List Part} {z0 : State} {was : Role} {s : State} (hL : [.records, .rings, .events,
    .recorder, .change] ⊆ L)
    (hO : onlyChanges L z0 s) : onlyChanges L z0 (retireJob was s) := by
  unfold retireJob
  try dsimp only
  repeat' first
    | with_reducible exact hO
    | with_reducible refine stageFail_only (subParts hL) ?_
    | with_reducible refine abortRole_only (subParts hL) ?_
    | (with_reducible refine ite_only (fun _ => ?_) fun _ => ?_)
    | ((with_reducible refine update_only ?_ fun p => ?_); rotate_left;
        (cases p <;> first | exact .inl (hL (by decide)) | (refine .inr ?_; repeat' constructor));
        first
        | with_reducible exact hO
        | with_reducible refine stageFail_only (subParts hL) ?_
        | with_reducible refine abortRole_only (subParts hL) ?_
        | (with_reducible refine ite_only (fun _ => ?_) fun _ => ?_))
    | split

theorem opsAbort_only {L : List Part} {z0 : State} {s : State} (hL : [.rings, .ile] ⊆ L)
    (hO : onlyChanges L z0 s) : onlyChanges L z0 (opsAbort s) := by
  unfold opsAbort
  try dsimp only
  repeat' first
    | with_reducible exact hO
    | with_reducible refine abortRole_only (subParts hL) ?_
    | with_reducible refine foldl_only ?_ (fun _ _ _ => ?_)
    | with_reducible assumption
    | ((with_reducible refine update_only ?_ fun p => ?_); rotate_left;
        (cases p <;> first | exact .inl (hL (by decide)) | (refine .inr ?_; repeat' constructor));
        first
        | with_reducible exact hO
        | with_reducible refine abortRole_only (subParts hL) ?_
        | with_reducible refine foldl_only ?_ (fun _ _ _ => ?_)
        | with_reducible assumption)

theorem retireHandover_only {L : List Part} {z0 : State} {s : State} (hL : [.rings, .pair] ⊆ L)
    (hO : onlyChanges L z0 s) : onlyChanges L z0 (retireHandover s) := by
  unfold retireHandover
  try dsimp only
  repeat' first
    | with_reducible exact hO
    | with_reducible refine abortRole_only (subParts hL) ?_
    | ((with_reducible refine update_only ?_ fun p => ?_); rotate_left;
        (cases p <;> first | exact .inl (hL (by decide)) | (refine .inr ?_; repeat' constructor));
        first
        | with_reducible exact hO
        | with_reducible refine abortRole_only (subParts hL) ?_)
    | split

theorem retireChange_only {L : List Part} {z0 : State} {was : ChangeState} {s : State} (hL : [.records, .tuple,
    .modRest, .rings, .events, .slots, .recorder, .gates, .clocks, .heat, .cycle, .change, .stores, .ile, .tripIo,
    .can, .analog, .out] ⊆ L)
    (hO : onlyChanges L z0 s) : onlyChanges L z0 (retireChange was s) := by
  unfold retireChange
  try dsimp only
  repeat' first
    | with_reducible exact hO
    | with_reducible refine saveGens_only (subParts hL) ?_
    | with_reducible refine dropStaged_only (subParts hL) ?_
    | with_reducible refine revertTake_only (subParts hL) ?_
    | split

theorem retireReverts_only {L : List Part} {z0 : State} {s : State} (hL : [.rings, .cycle] ⊆ L)
    (hO : onlyChanges L z0 s) : onlyChanges L z0 (retireReverts s) := by
  unfold retireReverts
  try dsimp only
  repeat' first
    | with_reducible exact hO
    | with_reducible refine answer_only (subParts hL) ?_ (fun _ _ _ => ?_)
    | with_reducible refine done_only (subParts hL) ?_
    | with_reducible refine foldl_only ?_ (fun _ _ _ => ?_)
    | with_reducible assumption
    | ((with_reducible refine update_only ?_ fun p => ?_); rotate_left;
        (cases p <;> first | exact .inl (hL (by decide)) | (refine .inr ?_; repeat' constructor));
        first
        | with_reducible exact hO
        | with_reducible refine answer_only (subParts hL) ?_ (fun _ _ _ => ?_)
        | with_reducible refine done_only (subParts hL) ?_
        | with_reducible refine foldl_only ?_ (fun _ _ _ => ?_)
        | with_reducible assumption)

theorem retireData_only {L : List Part} {z0 : State} {was : ModeTuple} {s : State} (hL : [.records, .tuple,
    .modRest, .rings, .events, .slots, .recorder, .gates, .clocks, .heat, .cycle, .change, .stores, .ile, .pair,
    .tripIo, .can, .analog, .out] ⊆ L)
    (hO : onlyChanges L z0 s) : onlyChanges L z0 (retireData was s) := by
  unfold retireData
  try dsimp only
  repeat' first
    | with_reducible exact hO
    | with_reducible refine opsAbort_only (subParts hL) ?_
    | with_reducible refine retireHandover_only (subParts hL) ?_
    | with_reducible refine retireJob_only (subParts hL) ?_
    | with_reducible refine abortWaiting_only (subParts hL) ?_
    | with_reducible refine retireReverts_only (subParts hL) ?_
    | with_reducible refine retireChange_only (subParts hL) ?_
    | (with_reducible refine ite_only (fun _ => ?_) fun _ => ?_)
    | ((with_reducible refine update_only ?_ fun p => ?_); rotate_left;
        (cases p <;> first | exact .inl (hL (by decide)) | (refine .inr ?_; repeat' constructor));
        first
        | with_reducible exact hO
        | with_reducible refine opsAbort_only (subParts hL) ?_
        | with_reducible refine retireHandover_only (subParts hL) ?_
        | with_reducible refine retireJob_only (subParts hL) ?_
        | with_reducible refine abortWaiting_only (subParts hL) ?_
        | with_reducible refine retireReverts_only (subParts hL) ?_
        | with_reducible refine retireChange_only (subParts hL) ?_
        | (with_reducible refine ite_only (fun _ => ?_) fun _ => ?_))

theorem retireLinks_only {L : List Part} {z0 : State} {s : State} (hL : [.modRest, .firmware, .network, .ile, .pair]
    ⊆ L)
    (hO : onlyChanges L z0 s) : onlyChanges L z0 (retireLinks s) := by
  unfold retireLinks
  try dsimp only
  repeat' first
    | with_reducible exact hO
    | ((with_reducible refine update_only ?_ fun p => ?_); rotate_left;
        (cases p <;> first | exact .inl (hL (by decide)) | (refine .inr ?_; repeat' constructor));
        first
        | with_reducible exact hO)

theorem retireOutputs_only {L : List Part} {z0 : State} {s : State} (hL : [.records, .rings, .events, .recorder,
    .tripIo, .can, .analog, .out] ⊆ L)
    (hO : onlyChanges L z0 s) : onlyChanges L z0 (retireOutputs s) := by
  unfold retireOutputs
  try dsimp only
  repeat' first
    | with_reducible exact hO
    | with_reducible refine canRelease_only (subParts hL) ?_
    | with_reducible refine alSettleAll_only (subParts hL) ?_
    | with_reducible refine tioStop_only (subParts hL) ?_
    | with_reducible refine hartAbort_only (subParts hL) ?_

theorem retireModule_only {L : List Part} {z0 : State} {cause : RetireCause} {s : State} (hL : [.records,
    .modRetired, .tuple, .modRest, .rings, .events, .slots, .recorder, .faults, .firmware, .gates, .clocks, .heat,
    .cycle, .change, .stores, .network, .ile, .pair, .tripIo, .can, .analog, .out] ⊆ L)
    (hO : onlyChanges L z0 s) : onlyChanges L z0 (retireModule cause s) := by
  unfold retireModule
  try dsimp only
  repeat' first
    | with_reducible exact hO
    | with_reducible refine setCause_only (subParts hL) ?_
    | with_reducible refine setTuple_only (subParts hL) ?_
    | with_reducible refine retireData_only (subParts hL) ?_
    | with_reducible refine retireOutputs_only (subParts hL) ?_
    | with_reducible refine retireLinks_only (subParts hL) ?_
    | with_reducible refine occur_only (subParts hL) ?_
    | (with_reducible refine ite_only (fun _ => ?_) fun _ => ?_)
    | ((with_reducible refine update_only ?_ fun p => ?_); rotate_left;
        (cases p <;> first | exact .inl (hL (by decide)) | (refine .inr ?_; repeat' constructor));
        first
        | with_reducible exact hO
        | with_reducible refine setCause_only (subParts hL) ?_
        | with_reducible refine setTuple_only (subParts hL) ?_
        | with_reducible refine retireData_only (subParts hL) ?_
        | with_reducible refine retireOutputs_only (subParts hL) ?_
        | with_reducible refine retireLinks_only (subParts hL) ?_
        | with_reducible refine occur_only (subParts hL) ?_
        | (with_reducible refine ite_only (fun _ => ?_) fun _ => ?_))

theorem pllFollow_only {L : List Part} {z0 : State} {s : State} {n : ℕ} (hL : [.records, .events, .recorder,
    .clocks] ⊆ L)
    (hO : onlyChanges L z0 s) : onlyChanges L z0 (pllFollow s n) := by
  unfold pllFollow
  try dsimp only
  repeat' first
    | with_reducible exact hO
    | with_reducible refine occur_only (subParts hL) ?_
    | (with_reducible refine ite_only (fun _ => ?_) fun _ => ?_)
    | ((with_reducible refine update_only ?_ fun p => ?_); rotate_left;
        (cases p <;> first | exact .inl (hL (by decide)) | (refine .inr ?_; repeat' constructor));
        first
        | with_reducible exact hO
        | with_reducible refine occur_only (subParts hL) ?_
        | (with_reducible refine ite_only (fun _ => ?_) fun _ => ?_))

theorem pllsFollow_only {L : List Part} {z0 : State} {s : State} (hL : [.records, .events, .recorder, .clocks] ⊆ L)
    (hO : onlyChanges L z0 s) : onlyChanges L z0 (pllsFollow s) := by
  unfold pllsFollow
  try dsimp only
  repeat' first
    | with_reducible exact hO
    | with_reducible refine pllFollow_only (subParts hL) ?_
    | with_reducible refine foldl_only ?_ (fun _ _ _ => ?_)
    | with_reducible assumption

theorem switchReq_only {L : List Part} {z0 : State} {inp : MuxIn} {s : State} {dom : ℕ} (hL : [.clocks] ⊆ L)
    (hO : onlyChanges L z0 s) : onlyChanges L z0 (switchReq inp s dom) := by
  unfold switchReq
  try dsimp only
  repeat' first
    | with_reducible exact hO
    | (with_reducible refine ite_only (fun _ => ?_) fun _ => ?_)
    | ((with_reducible refine update_only ?_ fun p => ?_); rotate_left;
        (cases p <;> first | exact .inl (hL (by decide)) | (refine .inr ?_; repeat' constructor));
        first
        | with_reducible exact hO
        | (with_reducible refine ite_only (fun _ => ?_) fun _ => ?_))

theorem fircDown_only {L : List Part} {z0 : State} {s : State} (hL : [.rings, .events, .vectors, .slots, .hxpRest,
    .pair] ⊆ L)
    (hO : onlyChanges L z0 s) : onlyChanges L z0 (fircDown s) := by
  unfold fircDown
  try dsimp only
  repeat' first
    | with_reducible exact hO
    | with_reducible refine linkDown_only (subParts hL) ?_
    | with_reducible refine hxpBlockReset_only (subParts hL) ?_
    | (with_reducible refine ite_only (fun _ => ?_) fun _ => ?_)
    | ((with_reducible refine update_only ?_ fun p => ?_); rotate_left;
        (cases p <;> first | exact .inl (hL (by decide)) | (refine .inr ?_; repeat' constructor));
        first
        | with_reducible exact hO
        | with_reducible refine linkDown_only (subParts hL) ?_
        | with_reducible refine hxpBlockReset_only (subParts hL) ?_
        | (with_reducible refine ite_only (fun _ => ?_) fun _ => ?_))

theorem refLost_only {L : List Part} {z0 : State} {s : State} (hL : [.records, .modRetired, .tuple, .modRest,
    .rings, .events, .vectors, .slots, .hxpRest, .recorder, .faults, .firmware, .gates, .clocks, .heat, .cycle,
    .change, .stores, .network, .ile, .pair, .tripIo, .can, .analog, .out] ⊆ L)
    (hO : onlyChanges L z0 s) : onlyChanges L z0 (refLost s) := by
  unfold refLost
  try dsimp only
  repeat' first
    | with_reducible exact hO
    | with_reducible refine setNet_only (subParts hL) ?_
    | with_reducible refine fircDown_only (subParts hL) ?_
    | with_reducible refine retireModule_only (subParts hL) ?_
    | (with_reducible refine ite_only (fun _ => ?_) fun _ => ?_)

theorem srcLost_only {L : List Part} {z0 : State} {xb : Bool} {edges : Bool} {s : State} (hL : [.records,
    .modRetired, .tuple, .modRest, .rings, .events, .vectors, .slots, .hxpRest, .recorder, .faults, .firmware,
    .gates, .clocks, .heat, .cycle, .change, .stores, .network, .ile, .pair, .tripIo, .can, .analog, .out] ⊆ L)
    (hO : onlyChanges L z0 s) : onlyChanges L z0 (srcLost xb edges s) := by
  unfold srcLost
  try dsimp only
  repeat' first
    | with_reducible exact hO
    | with_reducible refine setSrc_only (subParts hL) ?_
    | with_reducible refine refLost_only (subParts hL) ?_
    | with_reducible refine pllsFollow_only (subParts hL) ?_
    | with_reducible refine occur_only (subParts hL) ?_
    | (with_reducible refine ite_only (fun _ => ?_) fun _ => ?_)
    | ((with_reducible refine update_only ?_ fun p => ?_); rotate_left;
        (cases p <;> first | exact .inl (hL (by decide)) | (refine .inr ?_; repeat' constructor));
        first
        | with_reducible exact hO
        | with_reducible refine setSrc_only (subParts hL) ?_
        | with_reducible refine refLost_only (subParts hL) ?_
        | with_reducible refine pllsFollow_only (subParts hL) ?_
        | with_reducible refine occur_only (subParts hL) ?_
        | (with_reducible refine ite_only (fun _ => ?_) fun _ => ?_))

theorem netListen_only {L : List Part} {z0 : State} {s : State} (hL : [.network] ⊆ L)
    (hO : onlyChanges L z0 s) : onlyChanges L z0 (netListen s) := by
  unfold netListen
  try dsimp only
  repeat' first
    | with_reducible exact hO
    | ((with_reducible refine update_only ?_ fun p => ?_); rotate_left;
        (cases p <;> first | exact .inl (hL (by decide)) | (refine .inr ?_; repeat' constructor));
        first
        | with_reducible exact hO)

theorem netWake_only {L : List Part} {z0 : State} {s : State} (hL : [.network] ⊆ L)
    (hO : onlyChanges L z0 s) : onlyChanges L z0 (netWake s) := by
  unfold netWake
  try dsimp only
  repeat' first
    | with_reducible exact hO
    | with_reducible refine netListen_only (subParts hL) ?_
    | (with_reducible refine ite_only (fun _ => ?_) fun _ => ?_)

theorem stmRate_only {L : List Part} {z0 : State} {s : State} (hL : [.times] ⊆ L)
    (hO : onlyChanges L z0 s) : onlyChanges L z0 (stmRate s) := by
  unfold stmRate
  try dsimp only
  repeat' first
    | with_reducible exact hO
    | (with_reducible refine ite_only (fun _ => ?_) fun _ => ?_)
    | ((with_reducible refine update_only ?_ fun p => ?_); rotate_left;
        (cases p <;> first | exact .inl (hL (by decide)) | (refine .inr ?_; repeat' constructor));
        first
        | with_reducible exact hO
        | (with_reducible refine ite_only (fun _ => ?_) fun _ => ?_))

theorem srcFound_only {L : List Part} {z0 : State} {xb : Bool} {s : State} (hL : [.records, .events, .recorder,
    .clocks, .times, .network] ⊆ L)
    (hO : onlyChanges L z0 s) : onlyChanges L z0 (srcFound xb s) := by
  unfold srcFound
  try dsimp only
  repeat' first
    | with_reducible exact hO
    | with_reducible refine setSrc_only (subParts hL) ?_
    | with_reducible refine stmRate_only (subParts hL) ?_
    | with_reducible refine netWake_only (subParts hL) ?_
    | with_reducible refine pllsFollow_only (subParts hL) ?_
    | with_reducible refine occur_only (subParts hL) ?_
    | (with_reducible refine ite_only (fun _ => ?_) fun _ => ?_)

theorem judgeSrc_only {L : List Part} {z0 : State} {xb : Bool} {ppm : ℤ} {vsXa : Option ℤ} {s : State} (hL :
    [.records, .modRetired, .tuple, .modRest, .rings, .events, .vectors, .slots, .hxpRest, .recorder, .faults,
    .firmware, .gates, .clocks, .heat, .cycle, .change, .stores, .times, .network, .ile, .pair, .tripIo, .can,
    .analog, .out] ⊆ L)
    (hO : onlyChanges L z0 s) : onlyChanges L z0 (judgeSrc xb ppm vsXa s) := by
  unfold judgeSrc
  try dsimp only
  repeat' first
    | with_reducible exact hO
    | with_reducible refine srcFound_only (subParts hL) ?_
    | with_reducible refine setSrc_only (subParts hL) ?_
    | with_reducible refine pllsFollow_only (subParts hL) ?_
    | with_reducible refine srcLost_only (subParts hL) ?_
    | (with_reducible refine ite_only (fun _ => ?_) fun _ => ?_)

theorem relisten_only {L : List Part} {z0 : State} {s : State} (hL : [.tuple, .modRest, .events, .slots, .firmware,
    .cycle, .network, .pair] ⊆ L)
    (hO : onlyChanges L z0 s) : onlyChanges L z0 (relisten s) := by
  unfold relisten
  try dsimp only
  repeat' first
    | with_reducible exact hO
    | with_reducible refine setNet_only (subParts hL) ?_
    | with_reducible refine netListen_only (subParts hL) ?_
    | split

theorem pllLocks_only {L : List Part} {z0 : State} {n : ℕ} {s : State} (hL : [.clocks, .network] ⊆ L)
    (hO : onlyChanges L z0 s) : onlyChanges L z0 (pllLocks n s) := by
  unfold pllLocks
  try dsimp only
  repeat' first
    | with_reducible exact hO
    | with_reducible refine switchReq_only (subParts hL) ?_
    | with_reducible refine netWake_only (subParts hL) ?_
    | with_reducible refine foldl_only ?_ (fun _ _ _ => ?_)
    | with_reducible assumption
    | (with_reducible refine ite_only (fun _ => ?_) fun _ => ?_)
    | ((with_reducible refine update_only ?_ fun p => ?_); rotate_left;
        (cases p <;> first | exact .inl (hL (by decide)) | (refine .inr ?_; repeat' constructor));
        first
        | with_reducible exact hO
        | with_reducible refine switchReq_only (subParts hL) ?_
        | with_reducible refine netWake_only (subParts hL) ?_
        | with_reducible refine foldl_only ?_ (fun _ _ _ => ?_)
        | with_reducible assumption
        | (with_reducible refine ite_only (fun _ => ?_) fun _ => ?_))

theorem gapEnd_only {L : List Part} {z0 : State} {s : State} (hL : [.clocks, .cycle] ⊆ L)
    (hO : onlyChanges L z0 s) : onlyChanges L z0 (gapEnd s) := by
  unfold gapEnd
  try dsimp only
  repeat' first
    | with_reducible exact hO
    | ((with_reducible refine update_only ?_ fun p => ?_); rotate_left;
        (cases p <;> first | exact .inl (hL (by decide)) | (refine .inr ?_; repeat' constructor));
        first
        | with_reducible exact hO)

theorem gapStep_only {L : List Part} {z0 : State} {inp : MuxIn} {s : State} (hL : [.clocks, .cycle] ⊆ L)
    (hO : onlyChanges L z0 s) : onlyChanges L z0 (gapStep inp s) := by
  unfold gapStep
  try dsimp only
  repeat' first
    | with_reducible exact hO
    | with_reducible refine gapEnd_only (subParts hL) ?_
    | (with_reducible refine ite_only (fun _ => ?_) fun _ => ?_)
    | ((with_reducible refine update_only ?_ fun p => ?_); rotate_left;
        (cases p <;> first | exact .inl (hL (by decide)) | (refine .inr ?_; repeat' constructor));
        first
        | with_reducible exact hO
        | with_reducible refine gapEnd_only (subParts hL) ?_
        | (with_reducible refine ite_only (fun _ => ?_) fun _ => ?_))
    | split

theorem switched_only {L : List Part} {z0 : State} {dom : ℕ} {inp : MuxIn} {s : State} (hL : [.clocks, .cycle] ⊆ L)
    (hO : onlyChanges L z0 s) : onlyChanges L z0 (switched dom inp s) := by
  unfold switched
  try dsimp only
  repeat' first
    | with_reducible exact hO
    | with_reducible refine gapStep_only (subParts hL) ?_
    | (with_reducible refine ite_only (fun _ => ?_) fun _ => ?_)
    | ((with_reducible refine update_only ?_ fun p => ?_); rotate_left;
        (cases p <;> first | exact .inl (hL (by decide)) | (refine .inr ?_; repeat' constructor));
        first
        | with_reducible exact hO
        | with_reducible refine gapStep_only (subParts hL) ?_
        | (with_reducible refine ite_only (fun _ => ?_) fun _ => ?_))

theorem switchDone_only {L : List Part} {z0 : State} {dom : ℕ} {s : State} (hL : [.clocks, .cycle] ⊆ L)
    (hO : onlyChanges L z0 s) : onlyChanges L z0 (switchDone dom s) := by
  unfold switchDone
  try dsimp only
  repeat' first
    | with_reducible exact hO
    | with_reducible refine switched_only (subParts hL) ?_
    | (with_reducible refine ite_only (fun _ => ?_) fun _ => ?_)
    | ((with_reducible refine update_only ?_ fun p => ?_); rotate_left;
        (cases p <;> first | exact .inl (hL (by decide)) | (refine .inr ?_; repeat' constructor));
        first
        | with_reducible exact hO
        | with_reducible refine switched_only (subParts hL) ?_
        | (with_reducible refine ite_only (fun _ => ?_) fun _ => ?_))
    | split

theorem d0Tier_only {L : List Part} {z0 : State} {s : State} (hL : [.clocks] ⊆ L)
    (hO : onlyChanges L z0 s) : onlyChanges L z0 (d0Tier s) := by
  unfold d0Tier
  try dsimp only
  repeat' first
    | with_reducible exact hO
    | with_reducible refine switchReq_only (subParts hL) ?_
    | (with_reducible refine ite_only (fun _ => ?_) fun _ => ?_)
    | ((with_reducible refine update_only ?_ fun p => ?_); rotate_left;
        (cases p <;> first | exact .inl (hL (by decide)) | (refine .inr ?_; repeat' constructor));
        first
        | with_reducible exact hO
        | with_reducible refine switchReq_only (subParts hL) ?_
        | (with_reducible refine ite_only (fun _ => ?_) fun _ => ?_))
    | split

theorem clkMonEff_only {L : List Part} {z0 : State} {val : Word} {s : State} (hL : [.clocks] ⊆ L)
    (hO : onlyChanges L z0 s) : onlyChanges L z0 (clkMonEff val s) := by
  unfold clkMonEff
  try dsimp only
  repeat' first
    | with_reducible exact hO
    | (with_reducible refine ite_only (fun _ => ?_) fun _ => ?_)
    | ((with_reducible refine update_only ?_ fun p => ?_); rotate_left;
        (cases p <;> first | exact .inl (hL (by decide)) | (refine .inr ?_; repeat' constructor));
        first
        | with_reducible exact hO
        | (with_reducible refine ite_only (fun _ => ?_) fun _ => ?_))

theorem tierTake_only {L : List Part} {z0 : State} {k : ℕ} {s : State} (hL : [.records, .tuple, .modRest, .events,
    .slots, .recorder, .clocks, .heat] ⊆ L)
    (hO : onlyChanges L z0 s) : onlyChanges L z0 (tierTake k s) := by
  unfold tierTake
  try dsimp only
  repeat' first
    | with_reducible exact hO
    | with_reducible refine d0Tier_only (subParts hL) ?_
    | with_reducible refine setTier_only (subParts hL) ?_
    | with_reducible refine hlFlags_only (subParts hL) ?_
    | with_reducible refine occurU_only (subParts hL) ?_
    | (with_reducible refine ite_only (fun _ => ?_) fun _ => ?_)
    | ((with_reducible refine update_only ?_ fun p => ?_); rotate_left;
        (cases p <;> first | exact .inl (hL (by decide)) | (refine .inr ?_; repeat' constructor));
        first
        | with_reducible exact hO
        | with_reducible refine d0Tier_only (subParts hL) ?_
        | with_reducible refine setTier_only (subParts hL) ?_
        | with_reducible refine hlFlags_only (subParts hL) ?_
        | with_reducible refine occurU_only (subParts hL) ?_
        | (with_reducible refine ite_only (fun _ => ?_) fun _ => ?_))

theorem xbSettles_only {L : List Part} {z0 : State} {v : ℕ} {s : State} (hL : [.clocks] ⊆ L)
    (hO : onlyChanges L z0 s) : onlyChanges L z0 (xbSettles v s) := by
  unfold xbSettles
  try dsimp only
  repeat' first
    | with_reducible exact hO
    | ((with_reducible refine update_only ?_ fun p => ?_); rotate_left;
        (cases p <;> first | exact .inl (hL (by decide)) | (refine .inr ?_; repeat' constructor));
        first
        | with_reducible exact hO)

theorem feedSet_only {L : List Part} {z0 : State} {vb : Bool} {ok : Bool} {mv : ℕ} {s : State} (hL : [.records,
    .events, .recorder, .heat] ⊆ L)
    (hO : onlyChanges L z0 s) : onlyChanges L z0 (feedSet vb ok mv s) := by
  unfold feedSet
  try dsimp only
  repeat' first
    | with_reducible exact hO
    | with_reducible refine occur_only (subParts hL) ?_
    | (with_reducible refine ite_only (fun _ => ?_) fun _ => ?_)
    | ((with_reducible refine update_only ?_ fun p => ?_); rotate_left;
        (cases p <;> first | exact .inl (hL (by decide)) | (refine .inr ?_; repeat' constructor));
        first
        | with_reducible exact hO
        | with_reducible refine occur_only (subParts hL) ?_
        | (with_reducible refine ite_only (fun _ => ?_) fun _ => ?_))

theorem hlCycle_only {L : List Part} {z0 : State} {m : ExecMeas} {s : State} (hL : [.records, .modRest, .events,
    .recorder, .heat] ⊆ L)
    (hO : onlyChanges L z0 s) : onlyChanges L z0 (hlCycle m s) := by
  unfold hlCycle
  try dsimp only
  repeat' first
    | with_reducible exact hO
    | with_reducible refine hlFlags_only (subParts hL) ?_
    | (with_reducible refine ite_only (fun _ => ?_) fun _ => ?_)
    | ((with_reducible refine update_only ?_ fun p => ?_); rotate_left;
        (cases p <;> first | exact .inl (hL (by decide)) | (refine .inr ?_; repeat' constructor));
        first
        | with_reducible exact hO
        | with_reducible refine hlFlags_only (subParts hL) ?_
        | (with_reducible refine ite_only (fun _ => ?_) fun _ => ?_))

theorem gtTick_only {L : List Part} {z0 : State} {s : State} (hL : [.time, .times] ⊆ L)
    (hO : onlyChanges L z0 s) : onlyChanges L z0 (gtTick s) := by
  unfold gtTick
  try dsimp only
  repeat' first
    | with_reducible exact hO
    | (with_reducible refine ite_only (fun _ => ?_) fun _ => ?_)
    | ((with_reducible refine update_only ?_ fun p => ?_); rotate_left;
        (cases p <;> first | exact .inl (hL (by decide)) | (refine .inr ?_; repeat' constructor));
        first
        | with_reducible exact hO
        | (with_reducible refine ite_only (fun _ => ?_) fun _ => ?_))

theorem slewOver_only {L : List Part} {z0 : State} {amount : ℤ} {overNs : ℕ} {s : State} (hL : [.times] ⊆ L)
    (hO : onlyChanges L z0 s) : onlyChanges L z0 (slewOver amount overNs s) := by
  unfold slewOver
  try dsimp only
  repeat' first
    | with_reducible exact hO
    | ((with_reducible refine update_only ?_ fun p => ?_); rotate_left;
        (cases p <;> first | exact .inl (hL (by decide)) | (refine .inr ?_; repeat' constructor));
        first
        | with_reducible exact hO)

theorem timCorrect_only {L : List Part} {z0 : State} {n : ℕ} {tOc : ℕ} {nit : ℕ} {drv : Option ℕ} {self : Bool}
    {syncNode : Bool} {s : State} (hL : [.times] ⊆ L)
    (hO : onlyChanges L z0 s) : onlyChanges L z0 (timCorrect n tOc nit drv self syncNode s) := by
  unfold timCorrect
  try dsimp only
  repeat' first
    | with_reducible exact hO
    | with_reducible refine slewOver_only (subParts hL) ?_
    | (with_reducible refine ite_only (fun _ => ?_) fun _ => ?_)
    | ((with_reducible refine update_only ?_ fun p => ?_); rotate_left;
        (cases p <;> first | exact .inl (hL (by decide)) | (refine .inr ?_; repeat' constructor));
        first
        | with_reducible exact hO
        | with_reducible refine slewOver_only (subParts hL) ?_
        | (with_reducible refine ite_only (fun _ => ?_) fun _ => ?_))

theorem stationSlew_only {L : List Part} {z0 : State} {tOc : ℕ} {nit : ℕ} {s : State} (hL : [.times] ⊆ L)
    (hO : onlyChanges L z0 s) : onlyChanges L z0 (stationSlew tOc nit s) := by
  unfold stationSlew
  try dsimp only
  repeat' first
    | with_reducible exact hO
    | with_reducible refine slewOver_only (subParts hL) ?_
    | (with_reducible refine ite_only (fun _ => ?_) fun _ => ?_)
    | ((with_reducible refine update_only ?_ fun p => ?_); rotate_left;
        (cases p <;> first | exact .inl (hL (by decide)) | (refine .inr ?_; repeat' constructor));
        first
        | with_reducible exact hO
        | with_reducible refine slewOver_only (subParts hL) ?_
        | (with_reducible refine ite_only (fun _ => ?_) fun _ => ?_))

theorem stationError_only {L : List Part} {z0 : State} {e : ℤ} {servo : Bool} {s : State} (hL : [.times] ⊆ L)
    (hO : onlyChanges L z0 s) : onlyChanges L z0 (stationError e servo s) := by
  unfold stationError
  try dsimp only
  repeat' first
    | with_reducible exact hO
    | (with_reducible refine ite_only (fun _ => ?_) fun _ => ?_)
    | ((with_reducible refine update_only ?_ fun p => ?_); rotate_left;
        (cases p <;> first | exact .inl (hL (by decide)) | (refine .inr ?_; repeat' constructor));
        first
        | with_reducible exact hO
        | (with_reducible refine ite_only (fun _ => ?_) fun _ => ?_))

theorem gtStep_only {L : List Part} {z0 : State} {v : ℕ} {src : ℕ} {valid : Bool} {s : State} (hL : [.time, .faults,
    .firmware, .times, .pair] ⊆ L)
    (hO : onlyChanges L z0 s) : onlyChanges L z0 (gtStep v src valid s) := by
  unfold gtStep
  try dsimp only
  repeat' first
    | with_reducible exact hO
    | ((with_reducible refine update_only ?_ fun p => ?_); rotate_left;
        (cases p <;> first | exact .inl (hL (by decide)) | (refine .inr ?_; repeat' constructor));
        first
        | with_reducible exact hO)

theorem cloverArm_only {L : List Part} {z0 : State} {id : ℕ} {at_ : ℕ} {s : State} (hL : [.time, .times] ⊆ L)
    (hO : onlyChanges L z0 s) : onlyChanges L z0 (cloverArm id at_ s) := by
  unfold cloverArm
  try dsimp only
  repeat' first
    | with_reducible exact hO
    | ((with_reducible refine update_only ?_ fun p => ?_); rotate_left;
        (cases p <;> first | exact .inl (hL (by decide)) | (refine .inr ?_; repeat' constructor));
        first
        | with_reducible exact hO)

theorem cloverComplete_only {L : List Part} {z0 : State} {deadline : Bool} {s : State} (hL : [.times] ⊆ L)
    (hO : onlyChanges L z0 s) : onlyChanges L z0 (cloverComplete deadline s) := by
  unfold cloverComplete
  try dsimp only
  repeat' first
    | with_reducible exact hO
    | ((with_reducible refine update_only ?_ fun p => ?_); rotate_left;
        (cases p <;> first | exact .inl (hL (by decide)) | (refine .inr ?_; repeat' constructor));
        first
        | with_reducible exact hO)

theorem cloverBoundary_only {L : List Part} {z0 : State} {s : State} (hL : [.times] ⊆ L)
    (hO : onlyChanges L z0 s) : onlyChanges L z0 (cloverBoundary s) := by
  unfold cloverBoundary
  try dsimp only
  repeat' first
    | with_reducible exact hO
    | with_reducible refine cloverComplete_only (subParts hL) ?_
    | (with_reducible refine ite_only (fun _ => ?_) fun _ => ?_)

theorem updChan_only {L : List Part} {z0 : State} {c : Chan} {f : ChanS → ChanS} {s : State} (hL : [.network] ⊆ L)
    (hO : onlyChanges L z0 s) : onlyChanges L z0 (updChan c f s) := by
  unfold updChan
  try dsimp only
  repeat' first
    | with_reducible exact hO
    | ((with_reducible refine update_only ?_ fun p => ?_); rotate_left;
        (cases p <;> first | exact .inl (hL (by decide)) | (refine .inr ?_; repeat' constructor));
        first
        | with_reducible exact hO)
    | split

theorem listenAgain_only {L : List Part} {z0 : State} {s : State} (hL : [.network] ⊆ L)
    (hO : onlyChanges L z0 s) : onlyChanges L z0 (listenAgain s) := by
  unfold listenAgain
  try dsimp only
  repeat' first
    | with_reducible exact hO
    | (with_reducible refine ite_only (fun _ => ?_) fun _ => ?_)
    | ((with_reducible refine update_only ?_ fun p => ?_); rotate_left;
        (cases p <;> first | exact .inl (hL (by decide)) | (refine .inr ?_; repeat' constructor));
        first
        | with_reducible exact hO
        | (with_reducible refine ite_only (fun _ => ?_) fun _ => ?_))

theorem noteLcrc_only {L : List Part} {z0 : State} {f : RxFrame} {s : State} (hL : [.network] ⊆ L)
    (hO : onlyChanges L z0 s) : onlyChanges L z0 (noteLcrc f s) := by
  unfold noteLcrc
  try dsimp only
  repeat' first
    | with_reducible exact hO
    | with_reducible refine listenAgain_only (subParts hL) ?_
    | with_reducible refine updChan_only (subParts hL) ?_
    | (with_reducible refine ite_only (fun _ => ?_) fun _ => ?_)

theorem noteFrame_only {L : List Part} {z0 : State} {f : RxFrame} {s : State} (hL : [.network] ⊆ L)
    (hO : onlyChanges L z0 s) : onlyChanges L z0 (noteFrame f s) := by
  unfold noteFrame
  try dsimp only
  repeat' first
    | with_reducible exact hO
    | with_reducible refine listenAgain_only (subParts hL) ?_
    | with_reducible refine noteLcrc_only (subParts hL) ?_
    | (with_reducible refine ite_only (fun _ => ?_) fun _ => ?_)

theorem noteHeard_only {L : List Part} {z0 : State} {s : State} {f : RxFrame} (hL : [.network] ⊆ L)
    (hO : onlyChanges L z0 s) : onlyChanges L z0 (noteHeard s f) := by
  unfold noteHeard
  try dsimp only
  repeat' first
    | with_reducible exact hO
    | with_reducible refine updChan_only (subParts hL) ?_
    | (with_reducible refine ite_only (fun _ => ?_) fun _ => ?_)

theorem deliverAt_only {L : List Part} {z0 : State} {addr : ℕ} {at_ : ℕ} {v : DWord} {qual : ℕ} {s : State} (hL :
    [.cycle] ⊆ L)
    (hO : onlyChanges L z0 s) : onlyChanges L z0 (deliverAt addr at_ v qual s) := by
  unfold deliverAt
  try dsimp only
  repeat' first
    | with_reducible exact hO
    | ((with_reducible refine update_only ?_ fun p => ?_); rotate_left;
        (cases p <;> first | exact .inl (hL (by decide)) | (refine .inr ?_; repeat' constructor));
        first
        | with_reducible exact hO)

theorem deliverData_only {L : List Part} {z0 : State} {es : List PackEntry} {pay : List Byte} {at_ : Nat} {s :
    State} (hL : [.cycle] ⊆ L)
    (hO : onlyChanges L z0 s) : onlyChanges L z0 (deliverData es pay at_ s) :=
  foldlBy_only Prod.fst hO fun _ _ h => deliverAt_only (subParts hL) h

theorem deliverSafety_only {L : List Part} {z0 : State} {c : SafetyConn} {data : List Byte} {at_ : ℕ} {s : State}
    (hL : [.cycle] ⊆ L)
    (hO : onlyChanges L z0 s) : onlyChanges L z0 (deliverSafety c data at_ s) := by
  unfold deliverSafety
  try dsimp only
  repeat' first
    | with_reducible exact hO
    | with_reducible refine deliverAt_only (subParts hL) ?_
    | with_reducible refine foldl_only ?_ (fun _ _ _ => ?_)
    | with_reducible assumption
    | (with_reducible refine ite_only (fun _ => ?_) fun _ => ?_)

theorem takePdu_only {L : List Part} {z0 : State} {pdu : List Byte} {at_ : ℕ} {s : State} (hL : [.cycle, .network] ⊆
    L)
    (hO : onlyChanges L z0 s) : onlyChanges L z0 (takePdu pdu at_ s) := by
  unfold takePdu
  try dsimp only
  repeat' first
    | with_reducible exact hO
    | with_reducible refine deliverSafety_only (subParts hL) ?_
    | (with_reducible refine ite_only (fun _ => ?_) fun _ => ?_)
    | ((with_reducible refine update_only ?_ fun p => ?_); rotate_left;
        (cases p <;> first | exact .inl (hL (by decide)) | (refine .inr ?_; repeat' constructor));
        first
        | with_reducible exact hO
        | with_reducible refine deliverSafety_only (subParts hL) ?_
        | (with_reducible refine ite_only (fun _ => ?_) fun _ => ?_))
    | split

theorem retireOxn_only {L : List Part} {z0 : State} {c : Chan} {code : ℕ} {s : State} (hL : [.records, .faultStore,
    .tuple, .modRest, .events, .slots, .recorder, .firmware, .cycle, .network, .pair] ⊆ L)
    (hO : onlyChanges L z0 s) : onlyChanges L z0 (retireOxn c code s) := by
  unfold retireOxn
  try dsimp only
  repeat' first
    | with_reducible exact hO
    | with_reducible refine occur_only (subParts hL) ?_
    | with_reducible refine retireRecord_only (subParts hL) ?_
    | with_reducible refine setNet_only (subParts hL) ?_
    | (with_reducible refine ite_only (fun _ => ?_) fun _ => ?_)
    | ((with_reducible refine update_only ?_ fun p => ?_); rotate_left;
        (cases p <;> first | exact .inl (hL (by decide)) | (refine .inr ?_; repeat' constructor));
        first
        | with_reducible exact hO
        | with_reducible refine occur_only (subParts hL) ?_
        | with_reducible refine retireRecord_only (subParts hL) ?_
        | with_reducible refine setNet_only (subParts hL) ?_
        | (with_reducible refine ite_only (fun _ => ?_) fun _ => ?_))

theorem faultCycle_only {L : List Part} {z0 : State} {c : Chan} {s : State} (hL : [.records, .faultStore, .tuple,
    .modRest, .events, .slots, .recorder, .faults, .firmware, .cycle, .network, .pair] ⊆ L)
    (hO : onlyChanges L z0 s) : onlyChanges L z0 (faultCycle c s) := by
  unfold faultCycle
  try dsimp only
  repeat' first
    | with_reducible exact hO
    | with_reducible refine bucketAdd_only (subParts hL) ?_
    | with_reducible refine updChan_only (subParts hL) ?_
    | with_reducible refine retireOxn_only (subParts hL) ?_
    | (with_reducible refine ite_only (fun _ => ?_) fun _ => ?_)

theorem judgeChan_only {L : List Part} {z0 : State} {lost : Bool} {c : Chan} {s : State} (hL : [.records,
    .faultStore, .tuple, .modRest, .events, .slots, .recorder, .faults, .firmware, .cycle, .network, .pair] ⊆ L)
    (hO : onlyChanges L z0 s) : onlyChanges L z0 (judgeChan lost c s) := by
  unfold judgeChan
  try dsimp only
  repeat' first
    | with_reducible exact hO
    | with_reducible refine updChan_only (subParts hL) ?_
    | with_reducible refine faultCycle_only (subParts hL) ?_
    | with_reducible refine retireOxn_only (subParts hL) ?_
    | (with_reducible refine ite_only (fun _ => ?_) fun _ => ?_)

theorem judgeChans_only {L : List Part} {z0 : State} {lostA : Bool} {lostB : Bool} {s : State} (hL : [.records,
    .faultStore, .tuple, .modRest, .events, .slots, .recorder, .faults, .firmware, .cycle, .network, .pair] ⊆ L)
    (hO : onlyChanges L z0 s) : onlyChanges L z0 (judgeChans lostA lostB s) := by
  unfold judgeChans
  try dsimp only
  repeat' first
    | with_reducible exact hO
    | with_reducible refine judgeChan_only (subParts hL) ?_

theorem planDecide_only {L : List Part} {z0 : State} {s : State} (hL : [.records, .faultStore, .tuple, .modRest,
    .events, .slots, .recorder, .faults, .firmware, .cycle, .network, .pair] ⊆ L)
    (hO : onlyChanges L z0 s) : onlyChanges L z0 (planDecide s) := by
  unfold planDecide
  try dsimp only
  repeat' first
    | with_reducible exact hO
    | with_reducible refine occur_only (subParts hL) ?_
    | with_reducible refine faultCycle_only (subParts hL) ?_
    | (with_reducible refine ite_only (fun _ => ?_) fun _ => ?_)
    | ((with_reducible refine update_only ?_ fun p => ?_); rotate_left;
        (cases p <;> first | exact .inl (hL (by decide)) | (refine .inr ?_; repeat' constructor));
        first
        | with_reducible exact hO
        | with_reducible refine occur_only (subParts hL) ?_
        | with_reducible refine faultCycle_only (subParts hL) ?_
        | (with_reducible refine ite_only (fun _ => ?_) fun _ => ?_))
    | split

theorem schedAdopt_only {L : List Part} {z0 : State} {s : State} (hL : [.network] ⊆ L)
    (hO : onlyChanges L z0 s) : onlyChanges L z0 (schedAdopt s) := by
  unfold schedAdopt
  try dsimp only
  repeat' first
    | with_reducible exact hO
    | (with_reducible refine ite_only (fun _ => ?_) fun _ => ?_)
    | ((with_reducible refine update_only ?_ fun p => ?_); rotate_left;
        (cases p <;> first | exact .inl (hL (by decide)) | (refine .inr ?_; repeat' constructor));
        first
        | with_reducible exact hO
        | (with_reducible refine ite_only (fun _ => ?_) fun _ => ?_))
    | split

theorem fullAgain_only {L : List Part} {z0 : State} {s : State} (hL : [.network] ⊆ L)
    (hO : onlyChanges L z0 s) : onlyChanges L z0 (fullAgain s) := by
  unfold fullAgain
  try dsimp only
  repeat' first
    | with_reducible exact hO
    | (with_reducible refine ite_only (fun _ => ?_) fun _ => ?_)
    | ((with_reducible refine update_only ?_ fun p => ?_); rotate_left;
        (cases p <;> first | exact .inl (hL (by decide)) | (refine .inr ?_; repeat' constructor));
        first
        | with_reducible exact hO
        | (with_reducible refine ite_only (fun _ => ?_) fun _ => ?_))

theorem observeEnd_only {L : List Part} {z0 : State} {c : Chan} {s : State} (hL : [.tuple, .modRest, .events,
    .slots, .firmware, .cycle, .network, .pair] ⊆ L)
    (hO : onlyChanges L z0 s) : onlyChanges L z0 (observeEnd c s) := by
  unfold observeEnd
  try dsimp only
  repeat' first
    | with_reducible exact hO
    | with_reducible refine updChan_only (subParts hL) ?_
    | with_reducible refine setNet_only (subParts hL) ?_
    | (with_reducible refine ite_only (fun _ => ?_) fun _ => ?_)
    | ((with_reducible refine update_only ?_ fun p => ?_); rotate_left;
        (cases p <;> first | exact .inl (hL (by decide)) | (refine .inr ?_; repeat' constructor));
        first
        | with_reducible exact hO
        | with_reducible refine updChan_only (subParts hL) ?_
        | with_reducible refine setNet_only (subParts hL) ?_
        | (with_reducible refine ite_only (fun _ => ?_) fun _ => ?_))

theorem observeChan_only {L : List Part} {z0 : State} {c : Chan} {s : State} (hL : [.records, .faultStore, .tuple,
    .refusal, .modRest, .events, .slots, .recorder, .firmware, .cycle, .network, .pair] ⊆ L)
    (hO : onlyChanges L z0 s) : onlyChanges L z0 (observeChan c s) := by
  unfold observeChan
  try dsimp only
  repeat' first
    | with_reducible exact hO
    | with_reducible refine updChan_only (subParts hL) ?_
    | with_reducible refine observeEnd_only (subParts hL) ?_
    | with_reducible refine noteRefusal_only (subParts hL) ?_
    | with_reducible refine fullAgain_only (subParts hL) ?_
    | with_reducible refine readmitRecord_only (subParts hL) ?_
    | (with_reducible refine ite_only (fun _ => ?_) fun _ => ?_)
    | split

theorem syncCounts_only {L : List Part} {z0 : State} {s : State} (hL : [.network] ⊆ L)
    (hO : onlyChanges L z0 s) : onlyChanges L z0 (syncCounts s) := by
  unfold syncCounts
  try dsimp only
  repeat' first
    | with_reducible exact hO
    | (with_reducible refine ite_only (fun _ => ?_) fun _ => ?_)
    | ((with_reducible refine update_only ?_ fun p => ?_); rotate_left;
        (cases p <;> first | exact .inl (hL (by decide)) | (refine .inr ?_; repeat' constructor));
        first
        | with_reducible exact hO
        | (with_reducible refine ite_only (fun _ => ?_) fun _ => ?_))
    | split

theorem clockStep_only {L : List Part} {z0 : State} {s : State} (hL : [.times] ⊆ L)
    (hO : onlyChanges L z0 s) : onlyChanges L z0 (clockStep s) := by
  unfold clockStep
  try dsimp only
  repeat' first
    | with_reducible exact hO
    | with_reducible refine timCorrect_only (subParts hL) ?_
    | with_reducible refine stmRate_only (subParts hL) ?_
    | with_reducible refine stationSlew_only (subParts hL) ?_
    | (with_reducible refine ite_only (fun _ => ?_) fun _ => ?_)

theorem oxnIdle_only {L : List Part} {z0 : State} {lostA : Bool} {lostB : Bool} {s : State} (hL : [.records,
    .faultStore, .tuple, .refusal, .modRest, .events, .slots, .recorder, .faults, .firmware, .cycle, .times,
    .network, .pair] ⊆ L)
    (hO : onlyChanges L z0 s) : onlyChanges L z0 (oxnIdle lostA lostB s) := by
  unfold oxnIdle
  try dsimp only
  repeat' first
    | with_reducible exact hO
    | with_reducible refine observeChan_only (subParts hL) ?_
    | with_reducible refine schedAdopt_only (subParts hL) ?_
    | with_reducible refine planDecide_only (subParts hL) ?_
    | with_reducible refine clockStep_only (subParts hL) ?_
    | with_reducible refine judgeChans_only (subParts hL) ?_
    | with_reducible refine syncCounts_only (subParts hL) ?_
    | (with_reducible refine ite_only (fun _ => ?_) fun _ => ?_)
    | ((with_reducible refine update_only ?_ fun p => ?_); rotate_left;
        (cases p <;> first | exact .inl (hL (by decide)) | (refine .inr ?_; repeat' constructor));
        first
        | with_reducible exact hO
        | with_reducible refine observeChan_only (subParts hL) ?_
        | with_reducible refine schedAdopt_only (subParts hL) ?_
        | with_reducible refine planDecide_only (subParts hL) ?_
        | with_reducible refine clockStep_only (subParts hL) ?_
        | with_reducible refine judgeChans_only (subParts hL) ?_
        | with_reducible refine syncCounts_only (subParts hL) ?_
        | (with_reducible refine ite_only (fun _ => ?_) fun _ => ?_))

theorem planSwitch_only {L : List Part} {z0 : State} {n : ℕ} {s : State} (hL : [.records, .tuple, .modRest, .events,
    .slots, .recorder, .firmware, .cycle, .network, .pair] ⊆ L)
    (hO : onlyChanges L z0 s) : onlyChanges L z0 (planSwitch n s) := by
  unfold planSwitch
  try dsimp only
  repeat' first
    | with_reducible exact hO
    | with_reducible refine setNet_only (subParts hL) ?_
    | with_reducible refine occur_only (subParts hL) ?_
    | (with_reducible refine ite_only (fun _ => ?_) fun _ => ?_)
    | ((with_reducible refine update_only ?_ fun p => ?_); rotate_left;
        (cases p <;> first | exact .inl (hL (by decide)) | (refine .inr ?_; repeat' constructor));
        first
        | with_reducible exact hO
        | with_reducible refine setNet_only (subParts hL) ?_
        | with_reducible refine occur_only (subParts hL) ?_
        | (with_reducible refine ite_only (fun _ => ?_) fun _ => ?_))
    | split

theorem schedSwitch_only {L : List Part} {z0 : State} {n : ℕ} {s : State} (hL : [.network] ⊆ L)
    (hO : onlyChanges L z0 s) : onlyChanges L z0 (schedSwitch n s) := by
  unfold schedSwitch
  try dsimp only
  repeat' first
    | with_reducible exact hO
    | (with_reducible refine ite_only (fun _ => ?_) fun _ => ?_)
    | ((with_reducible refine update_only ?_ fun p => ?_); rotate_left;
        (cases p <;> first | exact .inl (hL (by decide)) | (refine .inr ?_; repeat' constructor));
        first
        | with_reducible exact hO
        | (with_reducible refine ite_only (fun _ => ?_) fun _ => ?_))
    | split

theorem takeNet_only {L : List Part} {z0 : State} {s : State} (hL : [.tuple, .modRest, .events, .slots, .firmware,
    .cycle, .network, .pair] ⊆ L)
    (hO : onlyChanges L z0 s) : onlyChanges L z0 (takeNet s) := by
  unfold takeNet
  try dsimp only
  repeat' first
    | with_reducible exact hO
    | with_reducible refine setNet_only (subParts hL) ?_
    | (with_reducible refine ite_only (fun _ => ?_) fun _ => ?_)
    | ((with_reducible refine update_only ?_ fun p => ?_); rotate_left;
        (cases p <;> first | exact .inl (hL (by decide)) | (refine .inr ?_; repeat' constructor));
        first
        | with_reducible exact hO
        | with_reducible refine setNet_only (subParts hL) ?_
        | (with_reducible refine ite_only (fun _ => ?_) fun _ => ?_))
    | split

theorem clvSend_only {L : List Part} {z0 : State} {prev : ℕ} {s : State} (hL : [.times] ⊆ L)
    (hO : onlyChanges L z0 s) : onlyChanges L z0 (clvSend prev s) := by
  unfold clvSend
  try dsimp only
  repeat' first
    | with_reducible exact hO
    | (with_reducible refine ite_only (fun _ => ?_) fun _ => ?_)
    | ((with_reducible refine update_only ?_ fun p => ?_); rotate_left;
        (cases p <;> first | exact .inl (hL (by decide)) | (refine .inr ?_; repeat' constructor));
        first
        | with_reducible exact hO
        | (with_reducible refine ite_only (fun _ => ?_) fun _ => ?_))

theorem timCycle_only {L : List Part} {z0 : State} {s : State} (hL : [.times] ⊆ L)
    (hO : onlyChanges L z0 s) : onlyChanges L z0 (timCycle s) := by
  unfold timCycle
  try dsimp only
  repeat' first
    | with_reducible exact hO
    | ((with_reducible refine update_only ?_ fun p => ?_); rotate_left;
        (cases p <;> first | exact .inl (hL (by decide)) | (refine .inr ?_; repeat' constructor));
        first
        | with_reducible exact hO)

theorem oxnStart_only {L : List Part} {z0 : State} {n : ℕ} {s : State} (hL : [.records, .tuple, .modRest, .events,
    .slots, .recorder, .firmware, .cycle, .times, .network, .pair] ⊆ L)
    (hO : onlyChanges L z0 s) : onlyChanges L z0 (oxnStart n s) := by
  unfold oxnStart
  try dsimp only
  repeat' first
    | with_reducible exact hO
    | with_reducible refine schedSwitch_only (subParts hL) ?_
    | with_reducible refine planSwitch_only (subParts hL) ?_
    | with_reducible refine takeNet_only (subParts hL) ?_
    | with_reducible refine clvSend_only (subParts hL) ?_
    | with_reducible refine timCycle_only (subParts hL) ?_
    | (with_reducible refine ite_only (fun _ => ?_) fun _ => ?_)
    | ((with_reducible refine update_only ?_ fun p => ?_); rotate_left;
        (cases p <;> first | exact .inl (hL (by decide)) | (refine .inr ?_; repeat' constructor));
        first
        | with_reducible exact hO
        | with_reducible refine schedSwitch_only (subParts hL) ?_
        | with_reducible refine planSwitch_only (subParts hL) ?_
        | with_reducible refine takeNet_only (subParts hL) ?_
        | with_reducible refine clvSend_only (subParts hL) ?_
        | with_reducible refine timCycle_only (subParts hL) ?_
        | (with_reducible refine ite_only (fun _ => ?_) fun _ => ?_))

theorem takeRef_only {L : List Part} {z0 : State} {f : RxFrame} {e : SlotEntry} {src : ℕ} {valid : Bool} {s : State}
    (hL : [.time, .faults, .firmware, .times, .network, .pair] ⊆ L)
    (hO : onlyChanges L z0 s) : onlyChanges L z0 (takeRef f e src valid s) := by
  unfold takeRef
  try dsimp only
  repeat' first
    | with_reducible exact hO
    | with_reducible refine gtStep_only (subParts hL) ?_
    | (with_reducible refine ite_only (fun _ => ?_) fun _ => ?_)
    | ((with_reducible refine update_only ?_ fun p => ?_); rotate_left;
        (cases p <;> first | exact .inl (hL (by decide)) | (refine .inr ?_; repeat' constructor));
        first
        | with_reducible exact hO
        | with_reducible refine gtStep_only (subParts hL) ?_
        | (with_reducible refine ite_only (fun _ => ?_) fun _ => ?_))

theorem integrate_only {L : List Part} {z0 : State} {f : RxFrame} {e : SlotEntry} {s : State} (hL : [.time, .faults,
    .firmware, .times, .network, .pair, .free] ⊆ L)
    (hO : onlyChanges L z0 s) : onlyChanges L z0 (integrate f e s) := by
  unfold integrate
  try dsimp only
  repeat' first
    | with_reducible exact hO
    | with_reducible refine takeRef_only (subParts hL) ?_
    | (with_reducible refine ite_only (fun _ => ?_) fun _ => ?_)
    | ((with_reducible refine update_only ?_ fun p => ?_); rotate_left;
        (cases p <;> first | exact .inl (hL (by decide)) | (refine .inr ?_; repeat' constructor));
        first
        | with_reducible exact hO
        | with_reducible refine takeRef_only (subParts hL) ?_
        | (with_reducible refine ite_only (fun _ => ?_) fun _ => ?_))

theorem leadRef_only {L : List Part} {z0 : State} {f : RxFrame} {e : SlotEntry} {s : State} (hL : [.time, .faults,
    .firmware, .times, .network, .pair] ⊆ L)
    (hO : onlyChanges L z0 s) : onlyChanges L z0 (leadRef f e s) := by
  unfold leadRef
  try dsimp only
  repeat' first
    | with_reducible exact hO
    | with_reducible refine takeRef_only (subParts hL) ?_
    | (with_reducible refine ite_only (fun _ => ?_) fun _ => ?_)

theorem takeSync_only {L : List Part} {z0 : State} {f : RxFrame} {e : SlotEntry} {s : State} (hL : [.times,
    .network] ⊆ L)
    (hO : onlyChanges L z0 s) : onlyChanges L z0 (takeSync f e s) := by
  unfold takeSync
  try dsimp only
  repeat' first
    | with_reducible exact hO
    | (with_reducible refine ite_only (fun _ => ?_) fun _ => ?_)
    | ((with_reducible refine update_only ?_ fun p => ?_); rotate_left;
        (cases p <;> first | exact .inl (hL (by decide)) | (refine .inr ?_; repeat' constructor));
        first
        | with_reducible exact hO
        | (with_reducible refine ite_only (fun _ => ?_) fun _ => ?_))

theorem planFollow_only {L : List Part} {z0 : State} {f : RxFrame} {s : State} (hL : [.network] ⊆ L)
    (hO : onlyChanges L z0 s) : onlyChanges L z0 (planFollow f s) := by
  unfold planFollow
  try dsimp only
  repeat' first
    | with_reducible exact hO
    | (with_reducible refine ite_only (fun _ => ?_) fun _ => ?_)
    | ((with_reducible refine update_only ?_ fun p => ?_); rotate_left;
        (cases p <;> first | exact .inl (hL (by decide)) | (refine .inr ?_; repeat' constructor));
        first
        | with_reducible exact hO
        | (with_reducible refine ite_only (fun _ => ?_) fun _ => ?_))

theorem rxSync_only {L : List Part} {z0 : State} {ftype : ℕ} {f : RxFrame} {s : State} (hL : [.time, .faults,
    .firmware, .times, .network, .pair, .free] ⊆ L)
    (hO : onlyChanges L z0 s) : onlyChanges L z0 (rxSync ftype f s) := by
  unfold rxSync
  try dsimp only
  repeat' first
    | with_reducible exact hO
    | with_reducible refine noteLcrc_only (subParts hL) ?_
    | with_reducible refine integrate_only (subParts hL) ?_
    | with_reducible refine listenAgain_only (subParts hL) ?_
    | with_reducible refine leadRef_only (subParts hL) ?_
    | with_reducible refine takeSync_only (subParts hL) ?_
    | with_reducible refine noteHeard_only (subParts hL) ?_
    | with_reducible refine planFollow_only (subParts hL) ?_
    | (with_reducible refine ite_only (fun _ => ?_) fun _ => ?_)
    | split

theorem observeStart_only {L : List Part} {z0 : State} {c : Chan} {s : State} (hL : [.network] ⊆ L)
    (hO : onlyChanges L z0 s) : onlyChanges L z0 (observeStart c s) := by
  unfold observeStart
  try dsimp only
  repeat' first
    | with_reducible exact hO
    | with_reducible refine updChan_only (subParts hL) ?_
    | with_reducible refine netListen_only (subParts hL) ?_
    | (with_reducible refine ite_only (fun _ => ?_) fun _ => ?_)

theorem updPort_only {L : List Part} {z0 : State} {p : ℕ} {f : PortS → PortS} {s : State} (hL : [.pair] ⊆ L)
    (hO : onlyChanges L z0 s) : onlyChanges L z0 (updPort p f s) := by
  unfold updPort
  try dsimp only
  repeat' first
    | with_reducible exact hO
    | ((with_reducible refine update_only ?_ fun p => ?_); rotate_left;
        (cases p <;> first | exact .inl (hL (by decide)) | (refine .inr ?_; repeat' constructor));
        first
        | with_reducible exact hO)

theorem sendOn_only {L : List Part} {z0 : State} {ports : List ℕ} {ptype : ℕ} {dest : ℕ} {pay : List ℕ} {s : State}
    (hL : [.pair, .out] ⊆ L)
    (hO : onlyChanges L z0 s) : onlyChanges L z0 (sendOn ports ptype dest pay s) := by
  unfold sendOn
  try dsimp only
  repeat' first
    | with_reducible exact hO
    | with_reducible refine emit_only (subParts hL) ?_
    | with_reducible refine foldl_only ?_ (fun _ _ _ => ?_)
    | with_reducible assumption
    | (with_reducible refine ite_only (fun _ => ?_) fun _ => ?_)
    | ((with_reducible refine update_only ?_ fun p => ?_); rotate_left;
        (cases p <;> first | exact .inl (hL (by decide)) | (refine .inr ?_; repeat' constructor));
        first
        | with_reducible exact hO
        | with_reducible refine emit_only (subParts hL) ?_
        | with_reducible refine foldl_only ?_ (fun _ _ _ => ?_)
        | with_reducible assumption
        | (with_reducible refine ite_only (fun _ => ?_) fun _ => ?_))

theorem sendP0_only {L : List Part} {z0 : State} {ptype : ℕ} {pay : List ℕ} {s : State} (hL : [.pair, .out] ⊆ L)
    (hO : onlyChanges L z0 s) : onlyChanges L z0 (sendP0 ptype pay s) := by
  unfold sendP0
  try dsimp only
  repeat' first
    | with_reducible exact hO
    | with_reducible refine sendOn_only (subParts hL) ?_
    | (with_reducible refine ite_only (fun _ => ?_) fun _ => ?_)

theorem sendBulk_only {L : List Part} {z0 : State} {ptype : ℕ} {pay : List ℕ} {s : State} (hL : [.pair, .out] ⊆ L)
    (hO : onlyChanges L z0 s) : onlyChanges L z0 (sendBulk ptype pay s) := by
  unfold sendBulk
  try dsimp only
  repeat' first
    | with_reducible exact hO
    | with_reducible refine sendP0_only (subParts hL) ?_
    | with_reducible refine foldl_only ?_ (fun _ _ _ => ?_)
    | with_reducible assumption

theorem sendRing_only {L : List Part} {z0 : State} {ptype : ℕ} {dest : ℕ} {pay : List ℕ} {s : State} (hL : [.pair,
    .out] ⊆ L)
    (hO : onlyChanges L z0 s) : onlyChanges L z0 (sendRing ptype dest pay s) := by
  unfold sendRing
  try dsimp only
  repeat' first
    | with_reducible exact hO
    | with_reducible refine sendOn_only (subParts hL) ?_

theorem arbSet_only {L : List Part} {z0 : State} {cause : ArbCause} {td : ℕ} {s : State} (hL : [.modRest, .selfTest,
    .clocks, .heat, .pair] ⊆ L)
    (hO : onlyChanges L z0 s) : onlyChanges L z0 (arbSet cause td s) := by
  unfold arbSet
  try dsimp only
  repeat' first
    | with_reducible exact hO
    | with_reducible refine sliceStop_only (subParts hL) ?_
    | (with_reducible refine ite_only (fun _ => ?_) fun _ => ?_)
    | ((with_reducible refine update_only ?_ fun p => ?_); rotate_left;
        (cases p <;> first | exact .inl (hL (by decide)) | (refine .inr ?_; repeat' constructor));
        first
        | with_reducible exact hO
        | with_reducible refine sliceStop_only (subParts hL) ?_
        | (with_reducible refine ite_only (fun _ => ?_) fun _ => ?_))

theorem arbDetect_only {L : List Part} {z0 : State} {cause : ArbCause} {s : State} (hL : [.modRest, .selfTest,
    .clocks, .heat, .pair, .out] ⊆ L)
    (hO : onlyChanges L z0 s) : onlyChanges L z0 (arbDetect cause s) := by
  unfold arbDetect
  try dsimp only
  repeat' first
    | with_reducible exact hO
    | with_reducible refine arbSet_only (subParts hL) ?_
    | with_reducible refine sendP0_only (subParts hL) ?_
    | (with_reducible refine ite_only (fun _ => ?_) fun _ => ?_)

theorem tierAgreed_only {L : List Part} {z0 : State} {s : State} (hL : [.records, .tuple, .modRest, .events, .slots,
    .recorder, .clocks, .heat, .pair] ⊆ L)
    (hO : onlyChanges L z0 s) : onlyChanges L z0 (tierAgreed s) := by
  unfold tierAgreed
  try dsimp only
  repeat' first
    | with_reducible exact hO
    | with_reducible refine tierTake_only (subParts hL) ?_
    | (with_reducible refine ite_only (fun _ => ?_) fun _ => ?_)
    | ((with_reducible refine update_only ?_ fun p => ?_); rotate_left;
        (cases p <;> first | exact .inl (hL (by decide)) | (refine .inr ?_; repeat' constructor));
        first
        | with_reducible exact hO
        | with_reducible refine tierTake_only (subParts hL) ?_
        | (with_reducible refine ite_only (fun _ => ?_) fun _ => ?_))
    | split

theorem tierName_only {L : List Part} {z0 : State} {s : State} (hL : [.pair, .out] ⊆ L)
    (hO : onlyChanges L z0 s) : onlyChanges L z0 (tierName s) := by
  unfold tierName
  try dsimp only
  repeat' first
    | with_reducible exact hO
    | with_reducible refine sendP0_only (subParts hL) ?_
    | (with_reducible refine ite_only (fun _ => ?_) fun _ => ?_)
    | ((with_reducible refine update_only ?_ fun p => ?_); rotate_left;
        (cases p <;> first | exact .inl (hL (by decide)) | (refine .inr ?_; repeat' constructor));
        first
        | with_reducible exact hO
        | with_reducible refine sendP0_only (subParts hL) ?_
        | (with_reducible refine ite_only (fun _ => ?_) fun _ => ?_))

theorem setAllow_only {L : List Part} {z0 : State} {v : ℕ} {s : State} (hL : [.records, .modRest, .events,
    .recorder, .heat, .pair, .out] ⊆ L)
    (hO : onlyChanges L z0 s) : onlyChanges L z0 (setAllow v s) := by
  unfold setAllow
  try dsimp only
  repeat' first
    | with_reducible exact hO
    | with_reducible refine occur_only (subParts hL) ?_
    | with_reducible refine tierName_only (subParts hL) ?_
    | with_reducible refine hlFlags_only (subParts hL) ?_
    | with_reducible refine wantTier_only (subParts hL) ?_
    | (with_reducible refine ite_only (fun _ => ?_) fun _ => ?_)
    | ((with_reducible refine update_only ?_ fun p => ?_); rotate_left;
        (cases p <;> first | exact .inl (hL (by decide)) | (refine .inr ?_; repeat' constructor));
        first
        | with_reducible exact hO
        | with_reducible refine occur_only (subParts hL) ?_
        | with_reducible refine tierName_only (subParts hL) ?_
        | with_reducible refine hlFlags_only (subParts hL) ?_
        | with_reducible refine wantTier_only (subParts hL) ?_
        | (with_reducible refine ite_only (fun _ => ?_) fun _ => ?_))

theorem updLane_only {L : List Part} {z0 : State} {l : Lane} {f : LaneS → LaneS} {s : State} (hL : [.ile] ⊆ L)
    (hO : onlyChanges L z0 s) : onlyChanges L z0 (updLane l f s) := by
  unfold updLane
  try dsimp only
  repeat' first
    | with_reducible exact hO
    | ((with_reducible refine update_only ?_ fun p => ?_); rotate_left;
        (cases p <;> first | exact .inl (hL (by decide)) | (refine .inr ?_; repeat' constructor));
        first
        | with_reducible exact hO)

theorem updSet_only {L : List Part} {z0 : State} {f : LaneSet → LaneSet} {s : State} {l : Lane} (hL : [.ile] ⊆ L)
    (hO : onlyChanges L z0 s) : onlyChanges L z0 (updSet f s l) := by
  unfold updSet
  try dsimp only
  repeat' first
    | with_reducible exact hO
    | with_reducible refine updLane_only (subParts hL) ?_

theorem drive_only {L : List Part} {z0 : State} {at_ : ℕ} {ds : List (Ref × Bool)} {s : State} (hL : [.ile] ⊆ L)
    (hO : onlyChanges L z0 s) : onlyChanges L z0 (drive at_ ds s) := by
  unfold drive
  try dsimp only
  repeat' first
    | with_reducible exact hO
    | ((with_reducible refine update_only ?_ fun p => ?_); rotate_left;
        (cases p <;> first | exact .inl (hL (by decide)) | (refine .inr ?_; repeat' constructor));
        first
        | with_reducible exact hO)

theorem ileWithdraw_only {L : List Part} {z0 : State} {s : State} (hL : [.records, .events, .recorder, .ile] ⊆ L)
    (hO : onlyChanges L z0 s) : onlyChanges L z0 (ileWithdraw s) := by
  unfold ileWithdraw
  try dsimp only
  repeat' first
    | with_reducible exact hO
    | with_reducible refine occur_only (subParts hL) ?_
    | (with_reducible refine ite_only (fun _ => ?_) fun _ => ?_)
    | ((with_reducible refine update_only ?_ fun p => ?_); rotate_left;
        (cases p <;> first | exact .inl (hL (by decide)) | (refine .inr ?_; repeat' constructor));
        first
        | with_reducible exact hO
        | with_reducible refine occur_only (subParts hL) ?_
        | (with_reducible refine ite_only (fun _ => ?_) fun _ => ?_))

theorem retireLane_only {L : List Part} {z0 : State} {l : Lane} {code : ℕ} {s : State} (hL : [.records, .faultStore,
    .events, .recorder, .clocks, .ile] ⊆ L)
    (hO : onlyChanges L z0 s) : onlyChanges L z0 (retireLane l code s) := by
  unfold retireLane
  try dsimp only
  repeat' first
    | with_reducible exact hO
    | with_reducible refine updLane_only (subParts hL) ?_
    | with_reducible refine occur_only (subParts hL) ?_
    | with_reducible refine retireRecord_only (subParts hL) ?_
    | with_reducible refine gateClose_only (subParts hL) ?_
    | (with_reducible refine ite_only (fun _ => ?_) fun _ => ?_)
    | ((with_reducible refine update_only ?_ fun p => ?_); rotate_left;
        (cases p <;> first | exact .inl (hL (by decide)) | (refine .inr ?_; repeat' constructor));
        first
        | with_reducible exact hO
        | with_reducible refine updLane_only (subParts hL) ?_
        | with_reducible refine occur_only (subParts hL) ?_
        | with_reducible refine retireRecord_only (subParts hL) ?_
        | with_reducible refine gateClose_only (subParts hL) ?_
        | (with_reducible refine ite_only (fun _ => ?_) fun _ => ?_))

theorem laneAgain_only {L : List Part} {z0 : State} {l : Lane} {s : State} (hL : [.ile] ⊆ L)
    (hO : onlyChanges L z0 s) : onlyChanges L z0 (laneAgain l s) := by
  unfold laneAgain
  try dsimp only
  repeat' first
    | with_reducible exact hO
    | with_reducible refine updLane_only (subParts hL) ?_

theorem laneSliceStop_only {L : List Part} {z0 : State} {s : State} (hL : [.selfTest, .clocks, .heat, .ile] ⊆ L)
    (hO : onlyChanges L z0 s) : onlyChanges L z0 (laneSliceStop s) := by
  unfold laneSliceStop
  try dsimp only
  repeat' first
    | with_reducible exact hO
    | with_reducible refine laneAgain_only (subParts hL) ?_
    | with_reducible refine sliceStop_only (subParts hL) ?_
    | with_reducible refine foldl_only ?_ (fun _ _ _ => ?_)
    | with_reducible assumption
    | (with_reducible refine ite_only (fun _ => ?_) fun _ => ?_)
    | split

theorem reseedLane_only {L : List Part} {z0 : State} {l : Lane} {s : State} (hL : [.selfTest, .clocks, .heat, .ile]
    ⊆ L)
    (hO : onlyChanges L z0 s) : onlyChanges L z0 (reseedLane l s) := by
  unfold reseedLane
  try dsimp only
  repeat' first
    | with_reducible exact hO
    | with_reducible refine updLane_only (subParts hL) ?_
    | with_reducible refine laneSliceStop_only (subParts hL) ?_

theorem laneDisagree_only {L : List Part} {z0 : State} {l : Lane} {kind : ℕ} {s : State} (hL : [.records,
    .faultStore, .events, .recorder, .faults, .selfTest, .clocks, .heat, .ile] ⊆ L)
    (hO : onlyChanges L z0 s) : onlyChanges L z0 (laneDisagree l kind s) := by
  unfold laneDisagree
  try dsimp only
  repeat' first
    | with_reducible exact hO
    | with_reducible refine occur2_only (subParts hL) ?_
    | with_reducible refine bucketAdd_only (subParts hL) ?_
    | with_reducible refine updLane_only (subParts hL) ?_
    | with_reducible refine retireLane_only (subParts hL) ?_
    | with_reducible refine reseedLane_only (subParts hL) ?_
    | (with_reducible refine ite_only (fun _ => ?_) fun _ => ?_)
    | ((with_reducible refine update_only ?_ fun p => ?_); rotate_left;
        (cases p <;> first | exact .inl (hL (by decide)) | (refine .inr ?_; repeat' constructor));
        first
        | with_reducible exact hO
        | with_reducible refine occur2_only (subParts hL) ?_
        | with_reducible refine bucketAdd_only (subParts hL) ?_
        | with_reducible refine updLane_only (subParts hL) ?_
        | with_reducible refine retireLane_only (subParts hL) ?_
        | with_reducible refine reseedLane_only (subParts hL) ?_
        | (with_reducible refine ite_only (fun _ => ?_) fun _ => ?_))

theorem holdStart_only {L : List Part} {z0 : State} {s : State} (hL : [.ile] ⊆ L)
    (hO : onlyChanges L z0 s) : onlyChanges L z0 (holdStart s) := by
  unfold holdStart
  try dsimp only
  repeat' first
    | with_reducible exact hO
    | (with_reducible refine ite_only (fun _ => ?_) fun _ => ?_)
    | ((with_reducible refine update_only ?_ fun p => ?_); rotate_left;
        (cases p <;> first | exact .inl (hL (by decide)) | (refine .inr ?_; repeat' constructor));
        first
        | with_reducible exact hO
        | (with_reducible refine ite_only (fun _ => ?_) fun _ => ?_))

theorem mirror_only {L : List Part} {z0 : State} {l : Lane} {s : State} (hL : [.stores, .ile] ⊆ L)
    (hO : onlyChanges L z0 s) : onlyChanges L z0 (mirror l s) := by
  unfold mirror
  try dsimp only
  repeat' first
    | with_reducible exact hO
    | (with_reducible refine ite_only (fun _ => ?_) fun _ => ?_)
    | ((with_reducible refine update_only ?_ fun p => ?_); rotate_left;
        (cases p <;> first | exact .inl (hL (by decide)) | (refine .inr ?_; repeat' constructor));
        first
        | with_reducible exact hO
        | (with_reducible refine ite_only (fun _ => ?_) fun _ => ?_))

theorem mirrorLead_only {L : List Part} {z0 : State} {s : State} (hL : [.stores, .ile] ⊆ L)
    (hO : onlyChanges L z0 s) : onlyChanges L z0 (mirrorLead s) := by
  unfold mirrorLead
  try dsimp only
  repeat' first
    | with_reducible exact hO
    | with_reducible refine mirror_only (subParts hL) ?_
    | split

theorem takeOutcome_only {L : List Part} {z0 : State} {l : Lane} {s : State} (hL : [.ile] ⊆ L)
    (hO : onlyChanges L z0 s) : onlyChanges L z0 (takeOutcome l s) := by
  unfold takeOutcome
  try dsimp only
  repeat' first
    | with_reducible exact hO
    | (with_reducible refine ite_only (fun _ => ?_) fun _ => ?_)
    | ((with_reducible refine update_only ?_ fun p => ?_); rotate_left;
        (cases p <;> first | exact .inl (hL (by decide)) | (refine .inr ?_; repeat' constructor));
        first
        | with_reducible exact hO
        | (with_reducible refine ite_only (fun _ => ?_) fun _ => ?_))

theorem markOdd_only {L : List Part} {z0 : State} {s : State} {l : Lane} (hL : [.records, .faultStore, .events,
    .recorder, .faults, .selfTest, .clocks, .heat, .ile] ⊆ L)
    (hO : onlyChanges L z0 s) : onlyChanges L z0 (markOdd s l) := by
  unfold markOdd
  try dsimp only
  repeat' first
    | with_reducible exact hO
    | with_reducible refine laneDisagree_only (subParts hL) ?_
    | with_reducible refine updLane_only (subParts hL) ?_

theorem runEval_only {L : List Part} {z0 : State} {i : SnapIn} {devs : List LaneDev} {s0 : State} (hL : [.records,
    .faultStore, .events, .recorder, .faults, .selfTest, .clocks, .heat, .stores, .ile] ⊆ L)
    (hO : onlyChanges L z0 s0) : onlyChanges L z0 (runEval i devs s0) := by
  unfold runEval
  try dsimp only
  repeat' first
    | with_reducible exact hO
    | with_reducible refine holdStart_only (subParts hL) ?_
    | with_reducible refine updSet_only (subParts hL) ?_
    | with_reducible refine mirrorLead_only (subParts hL) ?_
    | with_reducible refine markOdd_only (subParts hL) ?_
    | with_reducible refine foldl_only ?_ (fun _ _ _ => ?_)
    | with_reducible assumption
    | (with_reducible refine ite_only (fun _ => ?_) fun _ => ?_)
    | ((with_reducible refine update_only ?_ fun p => ?_); rotate_left;
        (cases p <;> first | exact .inl (hL (by decide)) | (refine .inr ?_; repeat' constructor));
        first
        | with_reducible exact hO
        | with_reducible refine holdStart_only (subParts hL) ?_
        | with_reducible refine updSet_only (subParts hL) ?_
        | with_reducible refine mirrorLead_only (subParts hL) ?_
        | with_reducible refine markOdd_only (subParts hL) ?_
        | with_reducible refine foldl_only ?_ (fun _ _ _ => ?_)
        | with_reducible assumption
        | (with_reducible refine ite_only (fun _ => ?_) fun _ => ?_))

theorem opsWithdrawn_only {L : List Part} {z0 : State} {s : State} (hL : [.stores, .ile] ⊆ L)
    (hO : onlyChanges L z0 s) : onlyChanges L z0 (opsWithdrawn s) := by
  unfold opsWithdrawn
  try dsimp only
  repeat' first
    | with_reducible exact hO
    | with_reducible refine foldl_only ?_ (fun _ _ _ => ?_)
    | with_reducible assumption
    | (with_reducible refine ite_only (fun _ => ?_) fun _ => ?_)
    | ((with_reducible refine update_only ?_ fun p => ?_); rotate_left;
        (cases p <;> first | exact .inl (hL (by decide)) | (refine .inr ?_; repeat' constructor));
        first
        | with_reducible exact hO
        | with_reducible refine foldl_only ?_ (fun _ _ _ => ?_)
        | with_reducible assumption
        | (with_reducible refine ite_only (fun _ => ?_) fun _ => ?_))

theorem upSwitch_only {L : List Part} {z0 : State} {t : IleTable} {o : IleTable} {s : State} (hL : [.ile] ⊆ L)
    (hO : onlyChanges L z0 s) : onlyChanges L z0 (upSwitch t o s) := by
  unfold upSwitch
  try dsimp only
  repeat' first
    | with_reducible exact hO
    | (with_reducible refine ite_only (fun _ => ?_) fun _ => ?_)
    | ((with_reducible refine update_only ?_ fun p => ?_); rotate_left;
        (cases p <;> first | exact .inl (hL (by decide)) | (refine .inr ?_; repeat' constructor));
        first
        | with_reducible exact hO
        | (with_reducible refine ite_only (fun _ => ?_) fun _ => ?_))

theorem blockedLoad_only {L : List Part} {z0 : State} {t : IleTable} {o : IleTable} {s : State} (hL : [.stores,
    .ile] ⊆ L)
    (hO : onlyChanges L z0 s) : onlyChanges L z0 (blockedLoad t o s) := by
  unfold blockedLoad
  try dsimp only
  repeat' first
    | with_reducible exact hO
    | (with_reducible refine ite_only (fun _ => ?_) fun _ => ?_)
    | ((with_reducible refine update_only ?_ fun p => ?_); rotate_left;
        (cases p <;> first | exact .inl (hL (by decide)) | (refine .inr ?_; repeat' constructor));
        first
        | with_reducible exact hO
        | (with_reducible refine ite_only (fun _ => ?_) fun _ => ?_))

theorem takeTable_only {L : List Part} {z0 : State} {t : IleTable} {s : State} (hL : [.stores, .ile] ⊆ L)
    (hO : onlyChanges L z0 s) : onlyChanges L z0 (takeTable t s) := by
  unfold takeTable
  try dsimp only
  repeat' first
    | with_reducible exact hO
    | with_reducible refine blockedLoad_only (subParts hL) ?_
    | with_reducible refine upSwitch_only (subParts hL) ?_
    | with_reducible refine mirrorLead_only (subParts hL) ?_
    | (with_reducible refine ite_only (fun _ => ?_) fun _ => ?_)
    | ((with_reducible refine update_only ?_ fun p => ?_); rotate_left;
        (cases p <;> first | exact .inl (hL (by decide)) | (refine .inr ?_; repeat' constructor));
        first
        | with_reducible exact hO
        | with_reducible refine blockedLoad_only (subParts hL) ?_
        | with_reducible refine upSwitch_only (subParts hL) ?_
        | with_reducible refine mirrorLead_only (subParts hL) ?_
        | (with_reducible refine ite_only (fun _ => ?_) fun _ => ?_))

theorem tableDue_only {L : List Part} {z0 : State} {s : State} (hL : [.stores, .ile] ⊆ L)
    (hO : onlyChanges L z0 s) : onlyChanges L z0 (tableDue s) := by
  unfold tableDue
  try dsimp only
  repeat' first
    | with_reducible exact hO
    | with_reducible refine takeTable_only (subParts hL) ?_
    | with_reducible refine holdTable_only (subParts hL) ?_
    | (with_reducible refine ite_only (fun _ => ?_) fun _ => ?_)
    | split

theorem seedLanes_only {L : List Part} {z0 : State} {d : IleDyn} {old : Option IleTable} {s : State} (hL : [.stores,
    .ile] ⊆ L)
    (hO : onlyChanges L z0 s) : onlyChanges L z0 (seedLanes d old s) := by
  unfold seedLanes
  try dsimp only
  repeat' first
    | with_reducible exact hO
    | ((with_reducible refine update_only ?_ fun p => ?_); rotate_left;
        (cases p <;> first | exact .inl (hL (by decide)) | (refine .inr ?_; repeat' constructor));
        first
        | with_reducible exact hO)

theorem takeAdopt_only {L : List Part} {z0 : State} {s : State} (hL : [.stores, .ile] ⊆ L)
    (hO : onlyChanges L z0 s) : onlyChanges L z0 (takeAdopt s) := by
  unfold takeAdopt
  try dsimp only
  repeat' first
    | with_reducible exact hO
    | with_reducible refine seedLanes_only (subParts hL) ?_
    | (with_reducible refine ite_only (fun _ => ?_) fun _ => ?_)
    | ((with_reducible refine update_only ?_ fun p => ?_); rotate_left;
        (cases p <;> first | exact .inl (hL (by decide)) | (refine .inr ?_; repeat' constructor));
        first
        | with_reducible exact hO
        | with_reducible refine seedLanes_only (subParts hL) ?_
        | (with_reducible refine ite_only (fun _ => ?_) fun _ => ?_))
    | split

theorem ileCold_only {L : List Part} {z0 : State} {s : State} (hL : [.stores, .ile] ⊆ L)
    (hO : onlyChanges L z0 s) : onlyChanges L z0 (ileCold s) := by
  unfold ileCold
  try dsimp only
  repeat' first
    | with_reducible exact hO
    | with_reducible refine seedLanes_only (subParts hL) ?_
    | (with_reducible refine ite_only (fun _ => ?_) fun _ => ?_)
    | ((with_reducible refine update_only ?_ fun p => ?_); rotate_left;
        (cases p <;> first | exact .inl (hL (by decide)) | (refine .inr ?_; repeat' constructor));
        first
        | with_reducible exact hO
        | with_reducible refine seedLanes_only (subParts hL) ?_
        | (with_reducible refine ite_only (fun _ => ?_) fun _ => ?_))

theorem askState_only {L : List Part} {z0 : State} {s : State} (hL : [.pair, .out] ⊆ L)
    (hO : onlyChanges L z0 s) : onlyChanges L z0 (askState s) := by
  unfold askState
  try dsimp only
  repeat' first
    | with_reducible exact hO
    | with_reducible refine sendP0_only (subParts hL) ?_

theorem coldSeed_only {L : List Part} {z0 : State} {s : State} (hL : [.stores, .ile] ⊆ L)
    (hO : onlyChanges L z0 s) : onlyChanges L z0 (coldSeed s) := by
  unfold coldSeed
  try dsimp only
  repeat' first
    | with_reducible exact hO
    | with_reducible refine ileCold_only (subParts hL) ?_
    | (with_reducible refine ite_only (fun _ => ?_) fun _ => ?_)

theorem awaitSeed_only {L : List Part} {z0 : State} {s : State} (hL : [.stores, .ile, .pair, .out] ⊆ L)
    (hO : onlyChanges L z0 s) : onlyChanges L z0 (awaitSeed s) := by
  unfold awaitSeed
  try dsimp only
  repeat' first
    | with_reducible exact hO
    | with_reducible refine askState_only (subParts hL) ?_
    | with_reducible refine coldSeed_only (subParts hL) ?_
    | (with_reducible refine ite_only (fun _ => ?_) fun _ => ?_)

theorem carriedTell_only {L : List Part} {z0 : State} {s : State} (hL : [.ile, .pair, .out] ⊆ L)
    (hO : onlyChanges L z0 s) : onlyChanges L z0 (carriedTell s) := by
  unfold carriedTell
  try dsimp only
  repeat' first
    | with_reducible exact hO
    | with_reducible refine sendP0_only (subParts hL) ?_
    | (with_reducible refine ite_only (fun _ => ?_) fun _ => ?_)
    | ((with_reducible refine update_only ?_ fun p => ?_); rotate_left;
        (cases p <;> first | exact .inl (hL (by decide)) | (refine .inr ?_; repeat' constructor));
        first
        | with_reducible exact hO
        | with_reducible refine sendP0_only (subParts hL) ?_
        | (with_reducible refine ite_only (fun _ => ?_) fun _ => ?_))

theorem sendIleState_only {L : List Part} {z0 : State} {s : State} (hL : [.pair, .out] ⊆ L)
    (hO : onlyChanges L z0 s) : onlyChanges L z0 (sendIleState s) := by
  unfold sendIleState
  try dsimp only
  repeat' first
    | with_reducible exact hO
    | with_reducible refine sendBulk_only (subParts hL) ?_

theorem giveState_only {L : List Part} {z0 : State} {s : State} (hL : [.pair, .out] ⊆ L)
    (hO : onlyChanges L z0 s) : onlyChanges L z0 (giveState s) := by
  unfold giveState
  try dsimp only
  repeat' first
    | with_reducible exact hO
    | with_reducible refine sendIleState_only (subParts hL) ?_
    | (with_reducible refine ite_only (fun _ => ?_) fun _ => ?_)

theorem answerAsked_only {L : List Part} {z0 : State} {s : State} (hL : [.ile, .pair, .out] ⊆ L)
    (hO : onlyChanges L z0 s) : onlyChanges L z0 (answerAsked s) := by
  unfold answerAsked
  try dsimp only
  repeat' first
    | with_reducible exact hO
    | with_reducible refine giveState_only (subParts hL) ?_
    | (with_reducible refine ite_only (fun _ => ?_) fun _ => ?_)
    | ((with_reducible refine update_only ?_ fun p => ?_); rotate_left;
        (cases p <;> first | exact .inl (hL (by decide)) | (refine .inr ?_; repeat' constructor));
        first
        | with_reducible exact hO
        | with_reducible refine giveState_only (subParts hL) ?_
        | (with_reducible refine ite_only (fun _ => ?_) fun _ => ?_))

theorem takeIle_only {L : List Part} {z0 : State} {s : State} (hL : [.tuple, .events, .slots, .ile] ⊆ L)
    (hO : onlyChanges L z0 s) : onlyChanges L z0 (takeIle s) := by
  unfold takeIle
  try dsimp only
  repeat' first
    | with_reducible exact hO
    | with_reducible refine setIleState_only (subParts hL) ?_
    | (with_reducible refine ite_only (fun _ => ?_) fun _ => ?_)
    | ((with_reducible refine update_only ?_ fun p => ?_); rotate_left;
        (cases p <;> first | exact .inl (hL (by decide)) | (refine .inr ?_; repeat' constructor));
        first
        | with_reducible exact hO
        | with_reducible refine setIleState_only (subParts hL) ?_
        | (with_reducible refine ite_only (fun _ => ?_) fun _ => ?_))
    | split

theorem opsComplete_only {L : List Part} {z0 : State} {s : State} (hL : [.rings, .ile] ⊆ L)
    (hO : onlyChanges L z0 s) : onlyChanges L z0 (opsComplete s) := by
  unfold opsComplete
  try dsimp only
  repeat' first
    | with_reducible exact hO
    | with_reducible refine complete_only (subParts hL) ?_
    | with_reducible refine foldl_only ?_ (fun _ _ _ => ?_)
    | with_reducible assumption
    | (with_reducible refine ite_only (fun _ => ?_) fun _ => ?_)
    | ((with_reducible refine update_only ?_ fun p => ?_); rotate_left;
        (cases p <;> first | exact .inl (hL (by decide)) | (refine .inr ?_; repeat' constructor));
        first
        | with_reducible exact hO
        | with_reducible refine complete_only (subParts hL) ?_
        | with_reducible refine foldl_only ?_ (fun _ _ _ => ?_)
        | with_reducible assumption
        | (with_reducible refine ite_only (fun _ => ?_) fun _ => ?_))
    | split

theorem sendSnap_only {L : List Part} {z0 : State} {i : SnapIn} {s : State} (hL : [.pair, .out] ⊆ L)
    (hO : onlyChanges L z0 s) : onlyChanges L z0 (sendSnap i s) := by
  unfold sendSnap
  try dsimp only
  repeat' first
    | with_reducible exact hO
    | with_reducible refine sendBulk_only (subParts hL) ?_
    | (with_reducible refine ite_only (fun _ => ?_) fun _ => ?_)

theorem bndTakeAll_only {L : List Part} {z0 : State} {s : State} (hL : [.ile] ⊆ L)
    (hO : onlyChanges L z0 s) : onlyChanges L z0 (bndTakeAll s) := by
  unfold bndTakeAll
  try dsimp only
  repeat' first
    | with_reducible exact hO
    | (with_reducible refine ite_only (fun _ => ?_) fun _ => ?_)
    | ((with_reducible refine update_only ?_ fun p => ?_); rotate_left;
        (cases p <;> first | exact .inl (hL (by decide)) | (refine .inr ?_; repeat' constructor));
        first
        | with_reducible exact hO
        | (with_reducible refine ite_only (fun _ => ?_) fun _ => ?_))

theorem ileBegin_only {L : List Part} {z0 : State} {s : State} (hL : [.ile] ⊆ L)
    (hO : onlyChanges L z0 s) : onlyChanges L z0 (ileBegin s) := by
  unfold ileBegin
  try dsimp only
  repeat' first
    | with_reducible exact hO
    | ((with_reducible refine update_only ?_ fun p => ?_); rotate_left;
        (cases p <;> first | exact .inl (hL (by decide)) | (refine .inr ?_; repeat' constructor));
        first
        | with_reducible exact hO)

theorem runShadow_only {L : List Part} {z0 : State} {m : SnapMsg} {devs : List LaneDev} {s : State} (hL : [.records,
    .faultStore, .events, .recorder, .faults, .selfTest, .clocks, .heat, .stores, .ile] ⊆ L)
    (hO : onlyChanges L z0 s) : onlyChanges L z0 (runShadow m devs s) := by
  unfold runShadow
  try dsimp only
  repeat' first
    | with_reducible exact hO
    | with_reducible refine runEval_only (subParts hL) ?_
    | (with_reducible refine ite_only (fun _ => ?_) fun _ => ?_)
    | split

theorem ileStart_only {L : List Part} {z0 : State} {devs : List LaneDev} {s0 : State} (hL : [.records, .faultStore,
    .tuple, .rings, .events, .slots, .recorder, .faults, .selfTest, .clocks, .heat, .stores, .ile, .pair, .out] ⊆ L)
    (hO : onlyChanges L z0 s0) : onlyChanges L z0 (ileStart devs s0) := by
  unfold ileStart
  try dsimp only
  repeat' first
    | with_reducible exact hO
    | with_reducible refine bndTakeAll_only (subParts hL) ?_
    | with_reducible refine carriedTell_only (subParts hL) ?_
    | with_reducible refine tableDue_only (subParts hL) ?_
    | with_reducible refine takeAdopt_only (subParts hL) ?_
    | with_reducible refine takeIle_only (subParts hL) ?_
    | with_reducible refine opsComplete_only (subParts hL) ?_
    | with_reducible refine ileBegin_only (subParts hL) ?_
    | with_reducible refine answerAsked_only (subParts hL) ?_
    | with_reducible refine awaitSeed_only (subParts hL) ?_
    | with_reducible refine opsWithdrawn_only (subParts hL) ?_
    | with_reducible refine runShadow_only (subParts hL) ?_
    | with_reducible refine runEval_only (subParts hL) ?_
    | with_reducible refine sendSnap_only (subParts hL) ?_
    | (with_reducible refine ite_only (fun _ => ?_) fun _ => ?_)
    | split

theorem markLate_only {L : List Part} {z0 : State} {s : State} {l : Lane} (hL : [.records, .faultStore, .events,
    .recorder, .faults, .selfTest, .clocks, .heat, .ile] ⊆ L)
    (hO : onlyChanges L z0 s) : onlyChanges L z0 (markLate s l) := by
  unfold markLate
  try dsimp only
  repeat' first
    | with_reducible exact hO
    | with_reducible refine laneDisagree_only (subParts hL) ?_
    | with_reducible refine updLane_only (subParts hL) ?_
    | (with_reducible refine ite_only (fun _ => ?_) fun _ => ?_)

theorem mirrorVoted_only {L : List Part} {z0 : State} {good : List Bool × ℕ} {ps : List (Lane × List Bool × ℕ)} {s :
    State} (hL : [.stores, .ile] ⊆ L)
    (hO : onlyChanges L z0 s) : onlyChanges L z0 (mirrorVoted good ps s) := by
  unfold mirrorVoted
  try dsimp only
  repeat' first
    | with_reducible exact hO
    | with_reducible refine takeOutcome_only (subParts hL) ?_
    | with_reducible refine mirror_only (subParts hL) ?_
    | split

theorem trialResult_only {L : List Part} {z0 : State} {good : List Bool × ℕ} {s : State} {l : Lane} (hL : [.records,
    .faultStore, .events, .recorder, .faults, .selfTest, .clocks, .heat, .ile] ⊆ L)
    (hO : onlyChanges L z0 s) : onlyChanges L z0 (trialResult good s l) := by
  unfold trialResult
  try dsimp only
  repeat' first
    | with_reducible exact hO
    | with_reducible refine occurU_only (subParts hL) ?_
    | with_reducible refine updLane_only (subParts hL) ?_
    | with_reducible refine laneDisagree_only (subParts hL) ?_
    | (with_reducible refine ite_only (fun _ => ?_) fun _ => ?_)
    | split

theorem stateCopy_only {L : List Part} {z0 : State} {s : State} {l : Lane} (hL : [.ile] ⊆ L)
    (hO : onlyChanges L z0 s) : onlyChanges L z0 (stateCopy s l) := by
  unfold stateCopy
  try dsimp only
  repeat' first
    | with_reducible exact hO
    | with_reducible refine updLane_only (subParts hL) ?_
    | (with_reducible refine ite_only (fun _ => ?_) fun _ => ?_)
    | split

theorem sweepTake_only {L : List Part} {z0 : State} {s : State} (hL : [.ile] ⊆ L)
    (hO : onlyChanges L z0 s) : onlyChanges L z0 (sweepTake s) := by
  unfold sweepTake
  try dsimp only
  repeat' first
    | with_reducible exact hO
    | ((with_reducible refine update_only ?_ fun p => ?_); rotate_left;
        (cases p <;> first | exact .inl (hL (by decide)) | (refine .inr ?_; repeat' constructor));
        first
        | with_reducible exact hO)

theorem sweepBuild_only {L : List Part} {z0 : State} {faults : List (Lane × Bool)} {s : State} {l : Lane} (hL :
    [.records, .faultStore, .events, .recorder, .faults, .selfTest, .clocks, .heat, .ile] ⊆ L)
    (hO : onlyChanges L z0 s) : onlyChanges L z0 (sweepBuild faults s l) := by
  unfold sweepBuild
  try dsimp only
  repeat' first
    | with_reducible exact hO
    | with_reducible refine laneDisagree_only (subParts hL) ?_
    | with_reducible refine ileWithdraw_only (subParts hL) ?_
    | (with_reducible refine ite_only (fun _ => ?_) fun _ => ?_)

theorem sweepTables_only {L : List Part} {z0 : State} {faults : List (Lane × Bool)} {s : State} (hL : [.records,
    .faultStore, .events, .recorder, .faults, .selfTest, .clocks, .heat, .ile] ⊆ L)
    (hO : onlyChanges L z0 s) : onlyChanges L z0 (sweepTables faults s) := by
  unfold sweepTables
  try dsimp only
  repeat' first
    | with_reducible exact hO
    | with_reducible refine laneDisagree_only (subParts hL) ?_
    | with_reducible refine ileWithdraw_only (subParts hL) ?_
    | with_reducible refine foldl_only ?_ (fun _ _ _ => ?_)
    | with_reducible assumption
    | (with_reducible refine ite_only (fun _ => ?_) fun _ => ?_)
    | split

theorem sweepJudge_only {L : List Part} {z0 : State} {faults : List (Lane × Bool)} {s : State} (hL : [.records,
    .faultStore, .events, .recorder, .faults, .selfTest, .clocks, .heat, .ile] ⊆ L)
    (hO : onlyChanges L z0 s) : onlyChanges L z0 (sweepJudge faults s) := by
  unfold sweepJudge
  try dsimp only
  repeat' first
    | with_reducible exact hO
    | with_reducible refine sweepBuild_only (subParts hL) ?_
    | with_reducible refine sweepTables_only (subParts hL) ?_
    | with_reducible refine foldl_only ?_ (fun _ _ _ => ?_)
    | with_reducible assumption

theorem opsFinish_only {L : List Part} {z0 : State} {s : State} (hL : [.records, .events, .recorder, .ile] ⊆ L)
    (hO : onlyChanges L z0 s) : onlyChanges L z0 (opsFinish s) := by
  unfold opsFinish
  try dsimp only
  repeat' first
    | with_reducible exact hO
    | with_reducible refine occur2_only (subParts hL) ?_
    | with_reducible refine foldl_only ?_ (fun _ _ _ => ?_)
    | with_reducible assumption
    | (with_reducible refine ite_only (fun _ => ?_) fun _ => ?_)
    | ((with_reducible refine update_only ?_ fun p => ?_); rotate_left;
        (cases p <;> first | exact .inl (hL (by decide)) | (refine .inr ?_; repeat' constructor));
        first
        | with_reducible exact hO
        | with_reducible refine occur2_only (subParts hL) ?_
        | with_reducible refine foldl_only ?_ (fun _ _ _ => ?_)
        | with_reducible assumption
        | (with_reducible refine ite_only (fun _ => ?_) fun _ => ?_))

theorem deliverIle_only {L : List Part} {z0 : State} {addr : Option ℕ} {v : DWord} {s : State} (hL : [.cycle] ⊆ L)
    (hO : onlyChanges L z0 s) : onlyChanges L z0 (deliverIle addr v s) := by
  unfold deliverIle
  try dsimp only
  repeat' first
    | with_reducible exact hO
    | ((with_reducible refine update_only ?_ fun p => ?_); rotate_left;
        (cases p <;> first | exact .inl (hL (by decide)) | (refine .inr ?_; repeat' constructor));
        first
        | with_reducible exact hO)
    | split

theorem statusPoints_only {L : List Part} {z0 : State} {wd : Bool} {s : State} (hL : [.cycle] ⊆ L)
    (hO : onlyChanges L z0 s) : onlyChanges L z0 (statusPoints wd s) := by
  unfold statusPoints
  try dsimp only
  repeat' first
    | with_reducible exact hO
    | with_reducible refine deliverIle_only (subParts hL) ?_
    | with_reducible refine foldl_only ?_ (fun _ _ _ => ?_)
    | with_reducible assumption
    | (with_reducible refine ite_only (fun _ => ?_) fun _ => ?_)

theorem sendBoundary_only {L : List Part} {z0 : State} {s : State} (hL : [.pair, .out] ⊆ L)
    (hO : onlyChanges L z0 s) : onlyChanges L z0 (sendBoundary s) := by
  unfold sendBoundary
  try dsimp only
  repeat' first
    | with_reducible exact hO
    | with_reducible refine sendRing_only (subParts hL) ?_
    | with_reducible refine foldl_only ?_ (fun _ _ _ => ?_)
    | with_reducible assumption
    | (with_reducible refine ite_only (fun _ => ?_) fun _ => ?_)

theorem laneBack_only {L : List Part} {z0 : State} {s : State} {r : Lane × Bool} (hL : [.faultStore, .clocks, .ile]
    ⊆ L)
    (hO : onlyChanges L z0 s) : onlyChanges L z0 (laneBack s r) := by
  unfold laneBack
  try dsimp only
  repeat' first
    | with_reducible exact hO
    | with_reducible refine gateClose_only (subParts hL) ?_
    | with_reducible refine updLane_only (subParts hL) ?_
    | (with_reducible refine ite_only (fun _ => ?_) fun _ => ?_)
    | ((with_reducible refine update_only ?_ fun p => ?_); rotate_left;
        (cases p <;> first | exact .inl (hL (by decide)) | (refine .inr ?_; repeat' constructor));
        first
        | with_reducible exact hO
        | with_reducible refine gateClose_only (subParts hL) ?_
        | with_reducible refine updLane_only (subParts hL) ?_
        | (with_reducible refine ite_only (fun _ => ?_) fun _ => ?_))

theorem admitRefused_only {L : List Part} {z0 : State} {s : State} (hL : [.records, .faultStore, .refusal, .events,
    .recorder, .clocks, .ile] ⊆ L)
    (hO : onlyChanges L z0 s) : onlyChanges L z0 (admitRefused s) := by
  unfold admitRefused
  try dsimp only
  repeat' first
    | with_reducible exact hO
    | with_reducible refine noteRefusal_only (subParts hL) ?_
    | with_reducible refine laneBack_only (subParts hL) ?_
    | with_reducible refine foldl_only ?_ (fun _ _ _ => ?_)
    | with_reducible assumption
    | (with_reducible refine ite_only (fun _ => ?_) fun _ => ?_)
    | ((with_reducible refine update_only ?_ fun p => ?_); rotate_left;
        (cases p <;> first | exact .inl (hL (by decide)) | (refine .inr ?_; repeat' constructor));
        first
        | with_reducible exact hO
        | with_reducible refine noteRefusal_only (subParts hL) ?_
        | with_reducible refine laneBack_only (subParts hL) ?_
        | with_reducible refine foldl_only ?_ (fun _ _ _ => ?_)
        | with_reducible assumption
        | (with_reducible refine ite_only (fun _ => ?_) fun _ => ?_))

theorem voteAdmit_only {L : List Part} {z0 : State} {votes : ℕ} {s : State} (hL : [.records, .faultStore, .tuple,
    .refusal, .events, .slots, .recorder, .clocks, .ile] ⊆ L)
    (hO : onlyChanges L z0 s) : onlyChanges L z0 (voteAdmit votes s) := by
  unfold voteAdmit
  try dsimp only
  repeat' first
    | with_reducible exact hO
    | with_reducible refine admitRefused_only (subParts hL) ?_
    | with_reducible refine occur_only (subParts hL) ?_
    | with_reducible refine setIleState_only (subParts hL) ?_
    | (with_reducible refine ite_only (fun _ => ?_) fun _ => ?_)
    | ((with_reducible refine update_only ?_ fun p => ?_); rotate_left;
        (cases p <;> first | exact .inl (hL (by decide)) | (refine .inr ?_; repeat' constructor));
        first
        | with_reducible exact hO
        | with_reducible refine admitRefused_only (subParts hL) ?_
        | with_reducible refine occur_only (subParts hL) ?_
        | with_reducible refine setIleState_only (subParts hL) ?_
        | (with_reducible refine ite_only (fun _ => ?_) fun _ => ?_))

theorem voteNone_only {L : List Part} {z0 : State} {s : State} (hL : [.records, .events, .recorder, .ile] ⊆ L)
    (hO : onlyChanges L z0 s) : onlyChanges L z0 (voteNone s) := by
  unfold voteNone
  try dsimp only
  repeat' first
    | with_reducible exact hO
    | with_reducible refine takeOutcome_only (subParts hL) ?_
    | with_reducible refine ileWithdraw_only (subParts hL) ?_
    | (with_reducible refine ite_only (fun _ => ?_) fun _ => ?_)
    | ((with_reducible refine update_only ?_ fun p => ?_); rotate_left;
        (cases p <;> first | exact .inl (hL (by decide)) | (refine .inr ?_; repeat' constructor));
        first
        | with_reducible exact hO
        | with_reducible refine takeOutcome_only (subParts hL) ?_
        | with_reducible refine ileWithdraw_only (subParts hL) ?_
        | (with_reducible refine ite_only (fun _ => ?_) fun _ => ?_))
    | split

theorem voteStep_only {L : List Part} {z0 : State} {faults : List (Lane × Bool)} {s : State} (hL : [.records,
    .faultStore, .tuple, .refusal, .events, .slots, .recorder, .faults, .selfTest, .clocks, .heat, .stores, .ile] ⊆
    L)
    (hO : onlyChanges L z0 s) : onlyChanges L z0 (voteStep faults s) := by
  unfold voteStep
  try dsimp only
  repeat' first
    | with_reducible exact hO
    | with_reducible refine voteNone_only (subParts hL) ?_
    | with_reducible refine mirrorVoted_only (subParts hL) ?_
    | with_reducible refine laneDisagree_only (subParts hL) ?_
    | with_reducible refine updLane_only (subParts hL) ?_
    | with_reducible refine stateCopy_only (subParts hL) ?_
    | with_reducible refine trialResult_only (subParts hL) ?_
    | with_reducible refine sweepJudge_only (subParts hL) ?_
    | with_reducible refine voteAdmit_only (subParts hL) ?_
    | with_reducible refine ileWithdraw_only (subParts hL) ?_
    | with_reducible refine foldl_only ?_ (fun _ _ _ => ?_)
    | with_reducible assumption
    | (with_reducible refine ite_only (fun _ => ?_) fun _ => ?_)
    | ((with_reducible refine update_only ?_ fun p => ?_); rotate_left;
        (cases p <;> first | exact .inl (hL (by decide)) | (refine .inr ?_; repeat' constructor));
        first
        | with_reducible exact hO
        | with_reducible refine voteNone_only (subParts hL) ?_
        | with_reducible refine mirrorVoted_only (subParts hL) ?_
        | with_reducible refine laneDisagree_only (subParts hL) ?_
        | with_reducible refine updLane_only (subParts hL) ?_
        | with_reducible refine stateCopy_only (subParts hL) ?_
        | with_reducible refine trialResult_only (subParts hL) ?_
        | with_reducible refine sweepJudge_only (subParts hL) ?_
        | with_reducible refine voteAdmit_only (subParts hL) ?_
        | with_reducible refine ileWithdraw_only (subParts hL) ?_
        | with_reducible refine foldl_only ?_ (fun _ _ _ => ?_)
        | with_reducible assumption
        | (with_reducible refine ite_only (fun _ => ?_) fun _ => ?_))
    | split

theorem writeEvents_only {L : List Part} {z0 : State} {s : State} (hL : [.records, .events, .recorder, .ile] ⊆ L)
    (hO : onlyChanges L z0 s) : onlyChanges L z0 (writeEvents s) := by
  unfold writeEvents
  try dsimp only
  repeat' first
    | with_reducible exact hO
    | with_reducible refine occurU_only (subParts hL) ?_
    | with_reducible refine foldl_only ?_ (fun _ _ _ => ?_)
    | with_reducible assumption
    | ((with_reducible refine update_only ?_ fun p => ?_); rotate_left;
        (cases p <;> first | exact .inl (hL (by decide)) | (refine .inr ?_; repeat' constructor));
        first
        | with_reducible exact hO
        | with_reducible refine occurU_only (subParts hL) ?_
        | with_reducible refine foldl_only ?_ (fun _ _ _ => ?_)
        | with_reducible assumption)

theorem showOutcome_only {L : List Part} {z0 : State} {s : State} (hL : [.ile] ⊆ L)
    (hO : onlyChanges L z0 s) : onlyChanges L z0 (showOutcome s) := by
  unfold showOutcome
  try dsimp only
  repeat' first
    | with_reducible exact hO
    | ((with_reducible refine update_only ?_ fun p => ?_); rotate_left;
        (cases p <;> first | exact .inl (hL (by decide)) | (refine .inr ?_; repeat' constructor));
        first
        | with_reducible exact hO)

theorem driveNow_only {L : List Part} {z0 : State} {s : State} (hL : [.ile] ⊆ L)
    (hO : onlyChanges L z0 s) : onlyChanges L z0 (driveNow s) := by
  unfold driveNow
  try dsimp only
  repeat' first
    | with_reducible exact hO
    | with_reducible refine drive_only (subParts hL) ?_

theorem updateTail_only {L : List Part} {z0 : State} {s : State} (hL : [.records, .events, .recorder, .cycle, .ile,
    .pair, .tripIo, .out] ⊆ L)
    (hO : onlyChanges L z0 s) : onlyChanges L z0 (updateTail s) := by
  unfold updateTail
  try dsimp only
  repeat' first
    | with_reducible exact hO
    | with_reducible refine showOutcome_only (subParts hL) ?_
    | with_reducible refine driveNow_only (subParts hL) ?_
    | with_reducible refine opsFinish_only (subParts hL) ?_
    | with_reducible refine writeEvents_only (subParts hL) ?_
    | with_reducible refine statusPoints_only (subParts hL) ?_
    | with_reducible refine sendBoundary_only (subParts hL) ?_
    | with_reducible refine tioRefreshNow_only (subParts hL) ?_
    | with_reducible refine sendP0_only (subParts hL) ?_
    | with_reducible refine sweepTake_only (subParts hL) ?_
    | with_reducible refine carriedTell_only (subParts hL) ?_
    | (with_reducible refine ite_only (fun _ => ?_) fun _ => ?_)
    | ((with_reducible refine update_only ?_ fun p => ?_); rotate_left;
        (cases p <;> first | exact .inl (hL (by decide)) | (refine .inr ?_; repeat' constructor));
        first
        | with_reducible exact hO
        | with_reducible refine showOutcome_only (subParts hL) ?_
        | with_reducible refine driveNow_only (subParts hL) ?_
        | with_reducible refine opsFinish_only (subParts hL) ?_
        | with_reducible refine writeEvents_only (subParts hL) ?_
        | with_reducible refine statusPoints_only (subParts hL) ?_
        | with_reducible refine sendBoundary_only (subParts hL) ?_
        | with_reducible refine tioRefreshNow_only (subParts hL) ?_
        | with_reducible refine sendP0_only (subParts hL) ?_
        | with_reducible refine sweepTake_only (subParts hL) ?_
        | with_reducible refine carriedTell_only (subParts hL) ?_
        | (with_reducible refine ite_only (fun _ => ?_) fun _ => ?_))

theorem eachDyn_only {L : List Part} {z0 : State} {f : IleDyn → IleDyn} {s : State} (hL : [.ile] ⊆ L)
    (hO : onlyChanges L z0 s) : onlyChanges L z0 (eachDyn f s) := by
  unfold eachDyn
  try dsimp only
  repeat' first
    | with_reducible exact hO
    | ((with_reducible refine update_only ?_ fun p => ?_); rotate_left;
        (cases p <;> first | exact .inl (hL (by decide)) | (refine .inr ?_; repeat' constructor));
        first
        | with_reducible exact hO)

theorem takeBoundary_only {L : List Part} {z0 : State} {f : List Byte} {s : State} (hL : [.ile] ⊆ L)
    (hO : onlyChanges L z0 s) : onlyChanges L z0 (takeBoundary f s) := by
  unfold takeBoundary
  try dsimp only
  repeat' first
    | with_reducible exact hO
    | ((with_reducible refine update_only ?_ fun p => ?_); rotate_left;
        (cases p <;> first | exact .inl (hL (by decide)) | (refine .inr ?_; repeat' constructor));
        first
        | with_reducible exact hO)

theorem lanesBoot_only {L : List Part} {z0 : State} {image : ℕ} {s : State} (hL : [.ile] ⊆ L)
    (hO : onlyChanges L z0 s) : onlyChanges L z0 (lanesBoot image s) := by
  unfold lanesBoot
  try dsimp only
  repeat' first
    | with_reducible exact hO
    | with_reducible refine updLane_only (subParts hL) ?_
    | with_reducible refine foldl_only ?_ (fun _ _ _ => ?_)
    | with_reducible assumption

theorem ileRecover_only {L : List Part} {z0 : State} {s : State} (hL : [.stores, .ile, .pair, .out] ⊆ L)
    (hO : onlyChanges L z0 s) : onlyChanges L z0 (ileRecover s) := by
  unfold ileRecover
  try dsimp only
  repeat' first
    | with_reducible exact hO
    | with_reducible refine updLane_only (subParts hL) ?_
    | with_reducible refine askState_only (subParts hL) ?_
    | with_reducible refine ileCold_only (subParts hL) ?_
    | with_reducible refine foldl_only ?_ (fun _ _ _ => ?_)
    | with_reducible assumption
    | (with_reducible refine ite_only (fun _ => ?_) fun _ => ?_)

theorem laneRejoin_only {L : List Part} {z0 : State} {l : Lane} {s : State} (hL : [.selfTest, .clocks, .heat, .ile]
    ⊆ L)
    (hO : onlyChanges L z0 s) : onlyChanges L z0 (laneRejoin l s) := by
  unfold laneRejoin
  try dsimp only
  repeat' first
    | with_reducible exact hO
    | with_reducible refine laneAgain_only (subParts hL) ?_
    | with_reducible refine laneSliceStop_only (subParts hL) ?_
    | with_reducible refine gateOpen_only (subParts hL) ?_

theorem ejectFinish_only {L : List Part} {z0 : State} {s : State} (hL : [.records, .modRetired, .tuple, .modRest,
    .rings, .events, .slots, .recorder, .faults, .firmware, .gates, .clocks, .heat, .contacts, .cycle, .change,
    .stores, .network, .ile, .pair, .tripIo, .can, .analog, .out] ⊆ L)
    (hO : onlyChanges L z0 s) : onlyChanges L z0 (ejectFinish s) := by
  unfold ejectFinish
  try dsimp only
  repeat' first
    | with_reducible exact hO
    | with_reducible refine retireModule_only (subParts hL) ?_
    | (with_reducible refine ite_only (fun _ => ?_) fun _ => ?_)
    | ((with_reducible refine update_only ?_ fun p => ?_); rotate_left;
        (cases p <;> first | exact .inl (hL (by decide)) | (refine .inr ?_; repeat' constructor));
        first
        | with_reducible exact hO
        | with_reducible refine retireModule_only (subParts hL) ?_
        | (with_reducible refine ite_only (fun _ => ?_) fun _ => ?_))

end Sys2Proof.Machine
end

