-- ==== Sys2Proof/Laws/FrameAgentCommands.lean ====
section
/-! SUPPORT. What each command of clocks, heat, time, network and interlocking engine may change. -/

namespace Sys2Proof.Machine

set_option Elab.async false
set_option linter.unusedTactic false
set_option linter.unreachableTactic false

theorem execSourceSettled_only {L : List Part} {z : State} {t : ℕ} {xb : Bool} {s0 : State} (hL : [.time, .clocks] ⊆
    L)
    (h : execSourceSettled t xb s0 = .next z) : onlyChanges L s0 z := by
  have hO : onlyChanges L s0 s0 := onlyChanges_refl
  unfold execSourceSettled at h
  injection h with h
  subst h
  try dsimp only
  repeat' first
    | with_reducible exact hO
    | with_reducible refine atT_only (subParts hL) ?_
    | with_reducible refine setSrc_only (subParts hL) ?_
    | (with_reducible refine ite_only (fun _ => ?_) fun _ => ?_)

theorem execFreqWindowEnd_only {L : List Part} {z : State} {t : ℕ} {xaPpm : ℤ} {xbPpm : ℤ} {xbXa : ℤ} {s0 : State}
    (hL : [.time, .records, .modRetired, .tuple, .modRest, .rings, .events, .vectors, .slots, .hxpRest, .recorder,
    .faults, .firmware, .gates, .clocks, .heat, .cycle, .change, .stores, .times, .network, .ile, .pair, .tripIo,
    .can, .analog, .out] ⊆ L)
    (h : execFreqWindowEnd t xaPpm xbPpm xbXa s0 = .next z) : onlyChanges L s0 z := by
  have hO : onlyChanges L s0 s0 := onlyChanges_refl
  unfold execFreqWindowEnd at h
  injection h with h
  subst h
  try dsimp only
  repeat' first
    | with_reducible exact hO
    | with_reducible refine atT_only (subParts hL) ?_
    | with_reducible refine judgeSrc_only (subParts hL) ?_
    | (with_reducible refine ite_only (fun _ => ?_) fun _ => ?_)
    | ((with_reducible refine update_only ?_ fun p => ?_); rotate_left;
        (cases p <;> first | exact .inl (hL (by decide)) | (refine .inr ?_; repeat' constructor));
        first
        | with_reducible exact hO
        | with_reducible refine atT_only (subParts hL) ?_
        | with_reducible refine judgeSrc_only (subParts hL) ?_
        | (with_reducible refine ite_only (fun _ => ?_) fun _ => ?_))

theorem execSourceEdgeLoss_only {L : List Part} {z : State} {t : ℕ} {xb : Bool} {s0 : State} (hL : [.time, .records,
    .modRetired, .tuple, .modRest, .rings, .events, .vectors, .slots, .hxpRest, .recorder, .faults, .firmware,
    .gates, .clocks, .heat, .cycle, .change, .stores, .network, .ile, .pair, .tripIo, .can, .analog, .out] ⊆ L)
    (h : execSourceEdgeLoss t xb s0 = .next z) : onlyChanges L s0 z := by
  have hO : onlyChanges L s0 s0 := onlyChanges_refl
  unfold execSourceEdgeLoss at h
  injection h with h
  subst h
  try dsimp only
  repeat' first
    | with_reducible exact hO
    | with_reducible refine atT_only (subParts hL) ?_
    | with_reducible refine srcLost_only (subParts hL) ?_
    | (with_reducible refine ite_only (fun _ => ?_) fun _ => ?_)

theorem execPllLocked_only {L : List Part} {z : State} {t : ℕ} {n : ℕ} {s0 : State} (hL : [.time, .clocks, .network]
    ⊆ L)
    (h : execPllLocked t n s0 = .next z) : onlyChanges L s0 z := by
  have hO : onlyChanges L s0 s0 := onlyChanges_refl
  unfold execPllLocked at h
  injection h with h
  subst h
  try dsimp only
  repeat' first
    | with_reducible exact hO
    | with_reducible refine pllLocks_only (subParts hL) ?_
    | with_reducible refine atT_only (subParts hL) ?_

theorem execClkMonDb_only {L : List Part} {z : State} {t : ℕ} {val : Word} {s : State} (hL : [.time, .clocks] ⊆ L)
    (h : execClkMonDb t val s = .next z) : onlyChanges L s z := by
  have hO : onlyChanges L s s := onlyChanges_refl
  unfold execClkMonDb at h
  injection h with h
  subst h
  try dsimp only
  repeat' first
    | with_reducible exact hO
    | with_reducible refine clkMonEff_only (subParts hL) ?_
    | with_reducible refine atT_only (subParts hL) ?_

theorem execQuiesceAck_only {L : List Part} {z : State} {t : ℕ} {blk : ℕ} {s0 : State} (hL : [.time, .clocks] ⊆ L)
    (h : execQuiesceAck t blk s0 = .next z) : onlyChanges L s0 z := by
  have hO : onlyChanges L s0 s0 := onlyChanges_refl
  unfold execQuiesceAck at h
  injection h with h
  subst h
  try dsimp only
  repeat' first
    | with_reducible exact hO
    | with_reducible refine atT_only (subParts hL) ?_
    | (with_reducible refine ite_only (fun _ => ?_) fun _ => ?_)
    | ((with_reducible refine update_only ?_ fun p => ?_); rotate_left;
        (cases p <;> first | exact .inl (hL (by decide)) | (refine .inr ?_; repeat' constructor));
        first
        | with_reducible exact hO
        | with_reducible refine atT_only (subParts hL) ?_
        | (with_reducible refine ite_only (fun _ => ?_) fun _ => ?_))

theorem execClkQuiesceTimeout_only {L : List Part} {z : State} {t : ℕ} {blk : ℕ} {s0 : State} (hL : [.time,
    .records, .events, .recorder, .faults, .clocks] ⊆ L)
    (h : execClkQuiesceTimeout t blk s0 = .next z) : onlyChanges L s0 z := by
  have hO : onlyChanges L s0 s0 := onlyChanges_refl
  unfold execClkQuiesceTimeout at h
  injection h with h
  subst h
  try dsimp only
  repeat' first
    | with_reducible exact hO
    | with_reducible refine atT_only (subParts hL) ?_
    | with_reducible refine occur_only (subParts hL) ?_
    | with_reducible refine noteFault_only (subParts hL) ?_
    | (with_reducible refine ite_only (fun _ => ?_) fun _ => ?_)
    | ((with_reducible refine update_only ?_ fun p => ?_); rotate_left;
        (cases p <;> first | exact .inl (hL (by decide)) | (refine .inr ?_; repeat' constructor));
        first
        | with_reducible exact hO
        | with_reducible refine atT_only (subParts hL) ?_
        | with_reducible refine occur_only (subParts hL) ?_
        | with_reducible refine noteFault_only (subParts hL) ?_
        | (with_reducible refine ite_only (fun _ => ?_) fun _ => ?_))

theorem execGateResetRelease_only {L : List Part} {z : State} {t : ℕ} {blk : ℕ} {s0 : State} (hL : [.time, .clocks]
    ⊆ L)
    (h : execGateResetRelease t blk s0 = .next z) : onlyChanges L s0 z := by
  have hO : onlyChanges L s0 s0 := onlyChanges_refl
  unfold execGateResetRelease at h
  injection h with h
  subst h
  try dsimp only
  repeat' first
    | with_reducible exact hO
    | with_reducible refine atT_only (subParts hL) ?_
    | (with_reducible refine ite_only (fun _ => ?_) fun _ => ?_)
    | ((with_reducible refine update_only ?_ fun p => ?_); rotate_left;
        (cases p <;> first | exact .inl (hL (by decide)) | (refine .inr ?_; repeat' constructor));
        first
        | with_reducible exact hO
        | with_reducible refine atT_only (subParts hL) ?_
        | (with_reducible refine ite_only (fun _ => ?_) fun _ => ?_))

theorem execAllowStale_only {L : List Part} {z : State} {t : ℕ} {s0 : State} (hL : [.time, .heat] ⊆ L)
    (h : execAllowStale t s0 = .next z) : onlyChanges L s0 z := by
  have hO : onlyChanges L s0 s0 := onlyChanges_refl
  unfold execAllowStale at h
  injection h with h
  subst h
  try dsimp only
  repeat' first
    | with_reducible exact hO
    | with_reducible refine atT_only (subParts hL) ?_
    | (with_reducible refine ite_only (fun _ => ?_) fun _ => ?_)
    | ((with_reducible refine update_only ?_ fun p => ?_); rotate_left;
        (cases p <;> first | exact .inl (hL (by decide)) | (refine .inr ?_; repeat' constructor));
        first
        | with_reducible exact hO
        | with_reducible refine atT_only (subParts hL) ?_
        | (with_reducible refine ite_only (fun _ => ?_) fun _ => ?_))

theorem execMgtIdentity_only {L : List Part} {z : State} {t : ℕ} {frame : List Byte} {s0 : State} (hL : [.time,
    .clocks, .contacts] ⊆ L)
    (h : execMgtIdentity t frame s0 = .next z) : onlyChanges L s0 z := by
  have hO : onlyChanges L s0 s0 := onlyChanges_refl
  unfold execMgtIdentity at h
  injection h with h
  subst h
  try dsimp only
  repeat' first
    | with_reducible exact hO
    | with_reducible refine atT_only (subParts hL) ?_
    | with_reducible refine xbSettles_only (subParts hL) ?_
    | (with_reducible refine ite_only (fun _ => ?_) fun _ => ?_)
    | ((with_reducible refine update_only ?_ fun p => ?_); rotate_left;
        (cases p <;> first | exact .inl (hL (by decide)) | (refine .inr ?_; repeat' constructor));
        first
        | with_reducible exact hO
        | with_reducible refine atT_only (subParts hL) ?_
        | with_reducible refine xbSettles_only (subParts hL) ?_
        | (with_reducible refine ite_only (fun _ => ?_) fun _ => ?_))
    | split

theorem execIdentityTimeout_only {L : List Part} {z : State} {t : ℕ} {s0 : State} (hL : [.time, .clocks] ⊆ L)
    (h : execIdentityTimeout t s0 = .next z) : onlyChanges L s0 z := by
  have hO : onlyChanges L s0 s0 := onlyChanges_refl
  unfold execIdentityTimeout at h
  injection h with h
  subst h
  try dsimp only
  repeat' first
    | with_reducible exact hO
    | with_reducible refine atT_only (subParts hL) ?_
    | with_reducible refine xbSettles_only (subParts hL) ?_
    | (with_reducible refine ite_only (fun _ => ?_) fun _ => ?_)

theorem execFeedLow_only {L : List Part} {z : State} {t : ℕ} {vb : Bool} {mv : ℕ} {s0 : State} (hL : [.time,
    .records, .events, .recorder, .heat] ⊆ L)
    (h : execFeedLow t vb mv s0 = .next z) : onlyChanges L s0 z := by
  have hO : onlyChanges L s0 s0 := onlyChanges_refl
  unfold execFeedLow at h
  injection h with h
  subst h
  try dsimp only
  repeat' first
    | with_reducible exact hO
    | with_reducible refine atT_only (subParts hL) ?_
    | with_reducible refine feedSet_only (subParts hL) ?_
    | (with_reducible refine ite_only (fun _ => ?_) fun _ => ?_)

theorem execFeedRecovered_only {L : List Part} {z : State} {t : ℕ} {vb : Bool} {mv : ℕ} {s0 : State} (hL : [.time,
    .records, .events, .recorder, .heat] ⊆ L)
    (h : execFeedRecovered t vb mv s0 = .next z) : onlyChanges L s0 z := by
  have hO : onlyChanges L s0 s0 := onlyChanges_refl
  unfold execFeedRecovered at h
  injection h with h
  subst h
  try dsimp only
  repeat' first
    | with_reducible exact hO
    | with_reducible refine atT_only (subParts hL) ?_
    | with_reducible refine feedSet_only (subParts hL) ?_
    | (with_reducible refine ite_only (fun _ => ?_) fun _ => ?_)

theorem execPowerSample_only {L : List Part} {z : State} {t : ℕ} {mw : ℕ} {s0 : State} (hL : [.time, .heat] ⊆ L)
    (h : execPowerSample t mw s0 = .next z) : onlyChanges L s0 z := by
  have hO : onlyChanges L s0 s0 := onlyChanges_refl
  unfold execPowerSample at h
  injection h with h
  subst h
  try dsimp only
  repeat' first
    | with_reducible exact hO
    | with_reducible refine atT_only (subParts hL) ?_
    | (with_reducible refine ite_only (fun _ => ?_) fun _ => ?_)
    | ((with_reducible refine update_only ?_ fun p => ?_); rotate_left;
        (cases p <;> first | exact .inl (hL (by decide)) | (refine .inr ?_; repeat' constructor));
        first
        | with_reducible exact hO
        | with_reducible refine atT_only (subParts hL) ?_
        | (with_reducible refine ite_only (fun _ => ?_) fun _ => ?_))

theorem execDieTempRead_only {L : List Part} {z : State} {t : ℕ} {temps : List ℤ} {s0 : State} (hL : [.time, .heat]
    ⊆ L)
    (h : execDieTempRead t temps s0 = .next z) : onlyChanges L s0 z := by
  have hO : onlyChanges L s0 s0 := onlyChanges_refl
  unfold execDieTempRead at h
  injection h with h
  subst h
  try dsimp only
  repeat' first
    | with_reducible exact hO
    | with_reducible refine atT_only (subParts hL) ?_
    | (with_reducible refine ite_only (fun _ => ?_) fun _ => ?_)
    | ((with_reducible refine update_only ?_ fun p => ?_); rotate_left;
        (cases p <;> first | exact .inl (hL (by decide)) | (refine .inr ?_; repeat' constructor));
        first
        | with_reducible exact hO
        | with_reducible refine atT_only (subParts hL) ?_
        | (with_reducible refine ite_only (fun _ => ?_) fun _ => ?_))

theorem execInletRead_only {L : List Part} {z : State} {t : ℕ} {temp : ℤ} {s0 : State} (hL : [.time, .heat] ⊆ L)
    (h : execInletRead t temp s0 = .next z) : onlyChanges L s0 z := by
  have hO : onlyChanges L s0 s0 := onlyChanges_refl
  unfold execInletRead at h
  injection h with h
  subst h
  try dsimp only
  repeat' first
    | with_reducible exact hO
    | with_reducible refine atT_only (subParts hL) ?_
    | (with_reducible refine ite_only (fun _ => ?_) fun _ => ?_)
    | ((with_reducible refine update_only ?_ fun p => ?_); rotate_left;
        (cases p <;> first | exact .inl (hL (by decide)) | (refine .inr ?_; repeat' constructor));
        first
        | with_reducible exact hO
        | with_reducible refine atT_only (subParts hL) ?_
        | (with_reducible refine ite_only (fun _ => ?_) fun _ => ?_))

theorem execHot_only {L : List Part} {z : State} {t : ℕ} {s0 : State} (hL : [.time, .heat] ⊆ L)
    (h : execHot t s0 = .next z) : onlyChanges L s0 z := by
  have hO : onlyChanges L s0 s0 := onlyChanges_refl
  unfold execHot at h
  injection h with h
  subst h
  try dsimp only
  repeat' first
    | with_reducible exact hO
    | with_reducible refine atT_only (subParts hL) ?_
    | (with_reducible refine ite_only (fun _ => ?_) fun _ => ?_)
    | ((with_reducible refine update_only ?_ fun p => ?_); rotate_left;
        (cases p <;> first | exact .inl (hL (by decide)) | (refine .inr ?_; repeat' constructor));
        first
        | with_reducible exact hO
        | with_reducible refine atT_only (subParts hL) ?_
        | (with_reducible refine ite_only (fun _ => ?_) fun _ => ?_))

theorem execHlOvertemp_only {L : List Part} {z : State} {t : ℕ} {s0 : State} (hL : [.time, .records, .modRetired,
    .tuple, .modRest, .rings, .events, .slots, .recorder, .faults, .firmware, .gates, .clocks, .heat, .cycle,
    .change, .stores, .network, .ile, .pair, .tripIo, .can, .analog, .out] ⊆ L)
    (h : execHlOvertemp t s0 = .next z) : onlyChanges L s0 z := by
  have hO : onlyChanges L s0 s0 := onlyChanges_refl
  unfold execHlOvertemp at h
  injection h with h
  subst h
  try dsimp only
  repeat' first
    | with_reducible exact hO
    | with_reducible refine atT_only (subParts hL) ?_
    | with_reducible refine retireModule_only (subParts hL) ?_
    | with_reducible refine occur_only (subParts hL) ?_
    | (with_reducible refine ite_only (fun _ => ?_) fun _ => ?_)

theorem execHlRail_only {L : List Part} {z : State} {t : ℕ} {rails : List ℕ} {s0 : State} (hL : [.time, .records,
    .events, .recorder, .heat] ⊆ L)
    (h : execHlRail t rails s0 = .next z) : onlyChanges L s0 z := by
  have hO : onlyChanges L s0 s0 := onlyChanges_refl
  unfold execHlRail at h
  injection h with h
  subst h
  try dsimp only
  repeat' first
    | with_reducible exact hO
    | with_reducible refine atT_only (subParts hL) ?_
    | with_reducible refine occurU_only (subParts hL) ?_
    | with_reducible refine foldl_only ?_ (fun _ _ _ => ?_)
    | with_reducible assumption
    | (with_reducible refine ite_only (fun _ => ?_) fun _ => ?_)
    | ((with_reducible refine update_only ?_ fun p => ?_); rotate_left;
        (cases p <;> first | exact .inl (hL (by decide)) | (refine .inr ?_; repeat' constructor));
        first
        | with_reducible exact hO
        | with_reducible refine atT_only (subParts hL) ?_
        | with_reducible refine occurU_only (subParts hL) ?_
        | with_reducible refine foldl_only ?_ (fun _ _ _ => ?_)
        | with_reducible assumption
        | (with_reducible refine ite_only (fun _ => ?_) fun _ => ?_))

theorem execHlDefer_only {L : List Part} {z : State} {t : ℕ} {kind : ℕ} {s0 : State} (hL : [.time, .records,
    .events, .recorder, .heat] ⊆ L)
    (h : execHlDefer t kind s0 = .next z) : onlyChanges L s0 z := by
  have hO : onlyChanges L s0 s0 := onlyChanges_refl
  unfold execHlDefer at h
  injection h with h
  subst h
  try dsimp only
  repeat' first
    | with_reducible exact hO
    | with_reducible refine atT_only (subParts hL) ?_
    | with_reducible refine occur_only (subParts hL) ?_
    | (with_reducible refine ite_only (fun _ => ?_) fun _ => ?_)
    | ((with_reducible refine update_only ?_ fun p => ?_); rotate_left;
        (cases p <;> first | exact .inl (hL (by decide)) | (refine .inr ?_; repeat' constructor));
        first
        | with_reducible exact hO
        | with_reducible refine atT_only (subParts hL) ?_
        | with_reducible refine occur_only (subParts hL) ?_
        | (with_reducible refine ite_only (fun _ => ?_) fun _ => ?_))

theorem execHoldUpCharged_only {L : List Part} {z : State} {t : ℕ} {s0 : State} (hL : [.time, .heat] ⊆ L)
    (h : execHoldUpCharged t s0 = .next z) : onlyChanges L s0 z := by
  have hO : onlyChanges L s0 s0 := onlyChanges_refl
  unfold execHoldUpCharged at h
  injection h with h
  subst h
  try dsimp only
  repeat' first
    | with_reducible exact hO
    | with_reducible refine atT_only (subParts hL) ?_
    | (with_reducible refine ite_only (fun _ => ?_) fun _ => ?_)
    | ((with_reducible refine update_only ?_ fun p => ?_); rotate_left;
        (cases p <;> first | exact .inl (hL (by decide)) | (refine .inr ?_; repeat' constructor));
        first
        | with_reducible exact hO
        | with_reducible refine atT_only (subParts hL) ?_
        | (with_reducible refine ite_only (fun _ => ?_) fun _ => ?_))

theorem execMgtTod_only {L : List Part} {z : State} {t : ℕ} {frame : List Byte} {s0 : State} (hL : [.time, .times] ⊆
    L)
    (h : execMgtTod t frame s0 = .next z) : onlyChanges L s0 z := by
  have hO : onlyChanges L s0 s0 := onlyChanges_refl
  unfold execMgtTod at h
  injection h with h
  subst h
  try dsimp only
  repeat' first
    | with_reducible exact hO
    | with_reducible refine atT_only (subParts hL) ?_
    | (with_reducible refine ite_only (fun _ => ?_) fun _ => ?_)
    | ((with_reducible refine update_only ?_ fun p => ?_); rotate_left;
        (cases p <;> first | exact .inl (hL (by decide)) | (refine .inr ?_; repeat' constructor));
        first
        | with_reducible exact hO
        | with_reducible refine atT_only (subParts hL) ?_
        | (with_reducible refine ite_only (fun _ => ?_) fun _ => ?_))
    | split

theorem execPpsEdge_only {L : List Part} {z : State} {t : ℕ} {s0 : State} (hL : [.time, .faults, .firmware, .times,
    .pair] ⊆ L)
    (h : execPpsEdge t s0 = .next z) : onlyChanges L s0 z := by
  have hO : onlyChanges L s0 s0 := onlyChanges_refl
  unfold execPpsEdge at h
  injection h with h
  subst h
  try dsimp only
  repeat' first
    | with_reducible exact hO
    | with_reducible refine atT_only (subParts hL) ?_
    | with_reducible refine stationError_only (subParts hL) ?_
    | with_reducible refine gtStep_only (subParts hL) ?_
    | (with_reducible refine ite_only (fun _ => ?_) fun _ => ?_)
    | ((with_reducible refine update_only ?_ fun p => ?_); rotate_left;
        (cases p <;> first | exact .inl (hL (by decide)) | (refine .inr ?_; repeat' constructor));
        first
        | with_reducible exact hO
        | with_reducible refine atT_only (subParts hL) ?_
        | with_reducible refine stationError_only (subParts hL) ?_
        | with_reducible refine gtStep_only (subParts hL) ?_
        | (with_reducible refine ite_only (fun _ => ?_) fun _ => ?_))
    | split

theorem execTodPpsTimeout_only {L : List Part} {z : State} {t : ℕ} {s0 : State} (hL : [.time, .times] ⊆ L)
    (h : execTodPpsTimeout t s0 = .next z) : onlyChanges L s0 z := by
  have hO : onlyChanges L s0 s0 := onlyChanges_refl
  unfold execTodPpsTimeout at h
  injection h with h
  subst h
  try dsimp only
  repeat' first
    | with_reducible exact hO
    | with_reducible refine atT_only (subParts hL) ?_
    | (with_reducible refine ite_only (fun _ => ?_) fun _ => ?_)
    | ((with_reducible refine update_only ?_ fun p => ?_); rotate_left;
        (cases p <;> first | exact .inl (hL (by decide)) | (refine .inr ?_; repeat' constructor));
        first
        | with_reducible exact hO
        | with_reducible refine atT_only (subParts hL) ?_
        | (with_reducible refine ite_only (fun _ => ?_) fun _ => ?_))
    | split

theorem execStationHold_only {L : List Part} {z : State} {t : ℕ} {s0 : State} (hL : [.time, .times] ⊆ L)
    (h : execStationHold t s0 = .next z) : onlyChanges L s0 z := by
  have hO : onlyChanges L s0 s0 := onlyChanges_refl
  unfold execStationHold at h
  injection h with h
  subst h
  try dsimp only
  repeat' first
    | with_reducible exact hO
    | with_reducible refine atT_only (subParts hL) ?_
    | (with_reducible refine ite_only (fun _ => ?_) fun _ => ?_)
    | ((with_reducible refine update_only ?_ fun p => ?_); rotate_left;
        (cases p <;> first | exact .inl (hL (by decide)) | (refine .inr ?_; repeat' constructor));
        first
        | with_reducible exact hO
        | with_reducible refine atT_only (subParts hL) ?_
        | (with_reducible refine ite_only (fun _ => ?_) fun _ => ?_))

theorem execCloverLatch_only {L : List Part} {z : State} {t : ℕ} {s0 : State} (hL : [.time, .times] ⊆ L)
    (h : execCloverLatch t s0 = .next z) : onlyChanges L s0 z := by
  have hO : onlyChanges L s0 s0 := onlyChanges_refl
  unfold execCloverLatch at h
  injection h with h
  subst h
  try dsimp only
  repeat' first
    | with_reducible exact hO
    | with_reducible refine atT_only (subParts hL) ?_
    | (with_reducible refine ite_only (fun _ => ?_) fun _ => ?_)
    | ((with_reducible refine update_only ?_ fun p => ?_); rotate_left;
        (cases p <;> first | exact .inl (hL (by decide)) | (refine .inr ?_; repeat' constructor));
        first
        | with_reducible exact hO
        | with_reducible refine atT_only (subParts hL) ?_
        | (with_reducible refine ite_only (fun _ => ?_) fun _ => ?_))

theorem execCloverDeadline_only {L : List Part} {z : State} {t : ℕ} {s0 : State} (hL : [.time, .times] ⊆ L)
    (h : execCloverDeadline t s0 = .next z) : onlyChanges L s0 z := by
  have hO : onlyChanges L s0 s0 := onlyChanges_refl
  unfold execCloverDeadline at h
  injection h with h
  subst h
  try dsimp only
  repeat' first
    | with_reducible exact hO
    | with_reducible refine atT_only (subParts hL) ?_
    | with_reducible refine cloverComplete_only (subParts hL) ?_
    | (with_reducible refine ite_only (fun _ => ?_) fun _ => ?_)

theorem execTimeGtLoRead_only {L : List Part} {z : State} {t : ℕ} {s0 : State} (hL : [.time, .times, .out] ⊆ L)
    (h : execTimeGtLoRead t s0 = .next z) : onlyChanges L s0 z := by
  have hO : onlyChanges L s0 s0 := onlyChanges_refl
  unfold execTimeGtLoRead at h
  injection h with h
  subst h
  try dsimp only
  repeat' first
    | with_reducible exact hO
    | with_reducible refine atT_only (subParts hL) ?_
    | with_reducible refine emit_only (subParts hL) ?_
    | (with_reducible refine ite_only (fun _ => ?_) fun _ => ?_)
    | ((with_reducible refine update_only ?_ fun p => ?_); rotate_left;
        (cases p <;> first | exact .inl (hL (by decide)) | (refine .inr ?_; repeat' constructor));
        first
        | with_reducible exact hO
        | with_reducible refine atT_only (subParts hL) ?_
        | with_reducible refine emit_only (subParts hL) ?_
        | (with_reducible refine ite_only (fun _ => ?_) fun _ => ?_))

theorem execOxnActionPoint_only {L : List Part} {z : State} {t : ℕ} {c : Chan} {slot : ℕ} {s0 : State} (hL : [.time,
    .network, .out] ⊆ L)
    (h : execOxnActionPoint t c slot s0 = .next z) : onlyChanges L s0 z := by
  have hO : onlyChanges L s0 s0 := onlyChanges_refl
  unfold execOxnActionPoint at h
  injection h with h
  subst h
  try dsimp only
  repeat' first
    | with_reducible exact hO
    | with_reducible refine atT_only (subParts hL) ?_
    | with_reducible refine emit_only (subParts hL) ?_
    | (with_reducible refine ite_only (fun _ => ?_) fun _ => ?_)
    | ((with_reducible refine update_only ?_ fun p => ?_); rotate_left;
        (cases p <;> first | exact .inl (hL (by decide)) | (refine .inr ?_; repeat' constructor));
        first
        | with_reducible exact hO
        | with_reducible refine atT_only (subParts hL) ?_
        | with_reducible refine emit_only (subParts hL) ?_
        | (with_reducible refine ite_only (fun _ => ?_) fun _ => ?_))
    | split

theorem execDataFrame_only {L : List Part} {z : State} {t : ℕ} {f : RxFrame} {s0 : State} (hL : [.time, .cycle,
    .network] ⊆ L)
    (h : execDataFrame t f s0 = .next z) : onlyChanges L s0 z := by
  have hO : onlyChanges L s0 s0 := onlyChanges_refl
  unfold execDataFrame at h
  injection h with h
  subst h
  try dsimp only
  repeat' first
    | with_reducible exact hO
    | with_reducible refine atT_only (subParts hL) ?_
    | with_reducible refine noteFrame_only (subParts hL) ?_
    | with_reducible refine deliverData_only (subParts hL) ?_
    | with_reducible refine noteHeard_only (subParts hL) ?_
    | (with_reducible refine ite_only (fun _ => ?_) fun _ => ?_)
    | split

theorem execSafetyFrame_only {L : List Part} {z : State} {t : ℕ} {f : RxFrame} {s0 : State} (hL : [.time, .cycle,
    .network, .ile] ⊆ L)
    (h : execSafetyFrame t f s0 = .next z) : onlyChanges L s0 z := by
  have hO : onlyChanges L s0 s0 := onlyChanges_refl
  unfold execSafetyFrame at h
  injection h with h
  subst h
  try dsimp only
  repeat' first
    | with_reducible exact hO
    | with_reducible refine atT_only (subParts hL) ?_
    | with_reducible refine noteFrame_only (subParts hL) ?_
    | with_reducible refine takePdu_only (subParts hL) ?_
    | with_reducible refine noteHeard_only (subParts hL) ?_
    | (with_reducible refine ite_only (fun _ => ?_) fun _ => ?_)
    | ((with_reducible refine update_only ?_ fun p => ?_); rotate_left;
        (cases p <;> first | exact .inl (hL (by decide)) | (refine .inr ?_; repeat' constructor));
        first
        | with_reducible exact hO
        | with_reducible refine atT_only (subParts hL) ?_
        | with_reducible refine noteFrame_only (subParts hL) ?_
        | with_reducible refine takePdu_only (subParts hL) ?_
        | with_reducible refine noteHeard_only (subParts hL) ?_
        | (with_reducible refine ite_only (fun _ => ?_) fun _ => ?_))
    | split

theorem execSyncFrame_only {L : List Part} {z : State} {t : ℕ} {f : RxFrame} {s : State} (hL : [.time, .faults,
    .firmware, .times, .network, .pair, .free] ⊆ L)
    (h : execSyncFrame t f s = .next z) : onlyChanges L s z := by
  have hO : onlyChanges L s s := onlyChanges_refl
  unfold execSyncFrame at h
  injection h with h
  subst h
  try dsimp only
  repeat' first
    | with_reducible exact hO
    | with_reducible refine rxSync_only (subParts hL) ?_
    | with_reducible refine atT_only (subParts hL) ?_

theorem execColdstartFrame_only {L : List Part} {z : State} {t : ℕ} {f : RxFrame} {s : State} (hL : [.time, .faults,
    .firmware, .times, .network, .pair, .free] ⊆ L)
    (h : execColdstartFrame t f s = .next z) : onlyChanges L s z := by
  have hO : onlyChanges L s s := onlyChanges_refl
  unfold execColdstartFrame at h
  injection h with h
  subst h
  try dsimp only
  repeat' first
    | with_reducible exact hO
    | with_reducible refine rxSync_only (subParts hL) ?_
    | with_reducible refine atT_only (subParts hL) ?_

theorem execViewFrame_only {L : List Part} {z : State} {t : ℕ} {f : RxFrame} {s0 : State} (hL : [.time, .network] ⊆
    L)
    (h : execViewFrame t f s0 = .next z) : onlyChanges L s0 z := by
  have hO : onlyChanges L s0 s0 := onlyChanges_refl
  unfold execViewFrame at h
  injection h with h
  subst h
  try dsimp only
  repeat' first
    | with_reducible exact hO
    | with_reducible refine atT_only (subParts hL) ?_
    | with_reducible refine noteFrame_only (subParts hL) ?_
    | with_reducible refine noteHeard_only (subParts hL) ?_
    | (with_reducible refine ite_only (fun _ => ?_) fun _ => ?_)
    | ((with_reducible refine update_only ?_ fun p => ?_); rotate_left;
        (cases p <;> first | exact .inl (hL (by decide)) | (refine .inr ?_; repeat' constructor));
        first
        | with_reducible exact hO
        | with_reducible refine atT_only (subParts hL) ?_
        | with_reducible refine noteFrame_only (subParts hL) ?_
        | with_reducible refine noteHeard_only (subParts hL) ?_
        | (with_reducible refine ite_only (fun _ => ?_) fun _ => ?_))
    | split

theorem execOxnSafetyTimeout_only {L : List Part} {z : State} {t : ℕ} {conn : ℕ} {s0 : State} (hL : [.time,
    .records, .events, .recorder, .network] ⊆ L)
    (h : execOxnSafetyTimeout t conn s0 = .next z) : onlyChanges L s0 z := by
  have hO : onlyChanges L s0 s0 := onlyChanges_refl
  unfold execOxnSafetyTimeout at h
  injection h with h
  subst h
  try dsimp only
  repeat' first
    | with_reducible exact hO
    | with_reducible refine atT_only (subParts hL) ?_
    | with_reducible refine occur_only (subParts hL) ?_
    | (with_reducible refine ite_only (fun _ => ?_) fun _ => ?_)
    | ((with_reducible refine update_only ?_ fun p => ?_); rotate_left;
        (cases p <;> first | exact .inl (hL (by decide)) | (refine .inr ?_; repeat' constructor));
        first
        | with_reducible exact hO
        | with_reducible refine atT_only (subParts hL) ?_
        | with_reducible refine occur_only (subParts hL) ?_
        | (with_reducible refine ite_only (fun _ => ?_) fun _ => ?_))
    | split

theorem execListenTimeout_only {L : List Part} {z : State} {t : ℕ} {s0 : State} (hL : [.time, .records, .events,
    .recorder, .network] ⊆ L)
    (h : execListenTimeout t s0 = .next z) : onlyChanges L s0 z := by
  have hO : onlyChanges L s0 s0 := onlyChanges_refl
  unfold execListenTimeout at h
  injection h with h
  subst h
  try dsimp only
  repeat' first
    | with_reducible exact hO
    | with_reducible refine atT_only (subParts hL) ?_
    | with_reducible refine occur_only (subParts hL) ?_
    | (with_reducible refine ite_only (fun _ => ?_) fun _ => ?_)
    | ((with_reducible refine update_only ?_ fun p => ?_); rotate_left;
        (cases p <;> first | exact .inl (hL (by decide)) | (refine .inr ?_; repeat' constructor));
        first
        | with_reducible exact hO
        | with_reducible refine atT_only (subParts hL) ?_
        | with_reducible refine occur_only (subParts hL) ?_
        | (with_reducible refine ite_only (fun _ => ?_) fun _ => ?_))
    | split

theorem execColdstartAlone_only {L : List Part} {z : State} {t : ℕ} {s0 : State} (hL : [.time, .network] ⊆ L)
    (h : execColdstartAlone t s0 = .next z) : onlyChanges L s0 z := by
  have hO : onlyChanges L s0 s0 := onlyChanges_refl
  unfold execColdstartAlone at h
  injection h with h
  subst h
  try dsimp only
  repeat' first
    | with_reducible exact hO
    | with_reducible refine atT_only (subParts hL) ?_
    | with_reducible refine netListen_only (subParts hL) ?_
    | (with_reducible refine ite_only (fun _ => ?_) fun _ => ?_)

theorem execIntegrationFail_only {L : List Part} {z : State} {t : ℕ} {s0 : State} (hL : [.time, .network] ⊆ L)
    (h : execIntegrationFail t s0 = .next z) : onlyChanges L s0 z := by
  have hO : onlyChanges L s0 s0 := onlyChanges_refl
  unfold execIntegrationFail at h
  injection h with h
  subst h
  try dsimp only
  repeat' first
    | with_reducible exact hO
    | with_reducible refine atT_only (subParts hL) ?_
    | with_reducible refine netListen_only (subParts hL) ?_
    | (with_reducible refine ite_only (fun _ => ?_) fun _ => ?_)

theorem execOxnSyncLost_only {L : List Part} {z : State} {t : ℕ} {s0 : State} (hL : [.time, .records, .events,
    .recorder, .times, .network] ⊆ L)
    (h : execOxnSyncLost t s0 = .next z) : onlyChanges L s0 z := by
  have hO : onlyChanges L s0 s0 := onlyChanges_refl
  unfold execOxnSyncLost at h
  injection h with h
  subst h
  try dsimp only
  repeat' first
    | with_reducible exact hO
    | with_reducible refine atT_only (subParts hL) ?_
    | with_reducible refine occur_only (subParts hL) ?_
    | (with_reducible refine ite_only (fun _ => ?_) fun _ => ?_)
    | ((with_reducible refine update_only ?_ fun p => ?_); rotate_left;
        (cases p <;> first | exact .inl (hL (by decide)) | (refine .inr ?_; repeat' constructor));
        first
        | with_reducible exact hO
        | with_reducible refine atT_only (subParts hL) ?_
        | with_reducible refine occur_only (subParts hL) ?_
        | (with_reducible refine ite_only (fun _ => ?_) fun _ => ?_))

theorem execOxnReadmitFail_only {L : List Part} {z : State} {t : ℕ} {c : Chan} {s0 : State} (hL : [.time, .records,
    .tuple, .modRest, .events, .slots, .recorder, .firmware, .cycle, .network, .pair] ⊆ L)
    (h : execOxnReadmitFail t c s0 = .next z) : onlyChanges L s0 z := by
  have hO : onlyChanges L s0 s0 := onlyChanges_refl
  unfold execOxnReadmitFail at h
  injection h with h
  subst h
  try dsimp only
  repeat' first
    | with_reducible exact hO
    | with_reducible refine atT_only (subParts hL) ?_
    | with_reducible refine occur_only (subParts hL) ?_
    | with_reducible refine observeEnd_only (subParts hL) ?_
    | (with_reducible refine ite_only (fun _ => ?_) fun _ => ?_)
    | split

theorem execMgtAllow_only {L : List Part} {z : State} {t : ℕ} {frame : List Byte} {s0 : State} (hL : [.time,
    .records, .modRest, .events, .recorder, .heat, .pair, .out] ⊆ L)
    (h : execMgtAllow t frame s0 = .next z) : onlyChanges L s0 z := by
  have hO : onlyChanges L s0 s0 := onlyChanges_refl
  unfold execMgtAllow at h
  injection h with h
  subst h
  try dsimp only
  repeat' first
    | with_reducible exact hO
    | with_reducible refine atT_only (subParts hL) ?_
    | with_reducible refine setAllow_only (subParts hL) ?_
    | (with_reducible refine ite_only (fun _ => ?_) fun _ => ?_)
    | ((with_reducible refine update_only ?_ fun p => ?_); rotate_left;
        (cases p <;> first | exact .inl (hL (by decide)) | (refine .inr ?_; repeat' constructor));
        first
        | with_reducible exact hO
        | with_reducible refine atT_only (subParts hL) ?_
        | with_reducible refine setAllow_only (subParts hL) ?_
        | (with_reducible refine ite_only (fun _ => ?_) fun _ => ?_))
    | split

theorem execTierRule2_only {L : List Part} {z : State} {t : ℕ} {s0 : State} (hL : [.time, .records, .modRest,
    .events, .recorder, .heat, .pair, .out] ⊆ L)
    (h : execTierRule2 t s0 = .next z) : onlyChanges L s0 z := by
  have hO : onlyChanges L s0 s0 := onlyChanges_refl
  unfold execTierRule2 at h
  injection h with h
  subst h
  try dsimp only
  repeat' first
    | with_reducible exact hO
    | with_reducible refine atT_only (subParts hL) ?_
    | with_reducible refine tierName_only (subParts hL) ?_
    | with_reducible refine wantTier_only (subParts hL) ?_
    | (with_reducible refine ite_only (fun _ => ?_) fun _ => ?_)
    | ((with_reducible refine update_only ?_ fun p => ?_); rotate_left;
        (cases p <;> first | exact .inl (hL (by decide)) | (refine .inr ?_; repeat' constructor));
        first
        | with_reducible exact hO
        | with_reducible refine atT_only (subParts hL) ?_
        | with_reducible refine tierName_only (subParts hL) ?_
        | with_reducible refine wantTier_only (subParts hL) ?_
        | (with_reducible refine ite_only (fun _ => ?_) fun _ => ?_))

theorem execTierRule3_only {L : List Part} {z : State} {t : ℕ} {s0 : State} (hL : [.time, .records, .modRest,
    .events, .recorder, .heat, .pair, .out] ⊆ L)
    (h : execTierRule3 t s0 = .next z) : onlyChanges L s0 z := by
  have hO : onlyChanges L s0 s0 := onlyChanges_refl
  unfold execTierRule3 at h
  injection h with h
  subst h
  try dsimp only
  repeat' first
    | with_reducible exact hO
    | with_reducible refine atT_only (subParts hL) ?_
    | with_reducible refine tierName_only (subParts hL) ?_
    | with_reducible refine wantTier_only (subParts hL) ?_
    | (with_reducible refine ite_only (fun _ => ?_) fun _ => ?_)
    | ((with_reducible refine update_only ?_ fun p => ?_); rotate_left;
        (cases p <;> first | exact .inl (hL (by decide)) | (refine .inr ?_; repeat' constructor));
        first
        | with_reducible exact hO
        | with_reducible refine atT_only (subParts hL) ?_
        | with_reducible refine tierName_only (subParts hL) ?_
        | with_reducible refine wantTier_only (subParts hL) ?_
        | (with_reducible refine ite_only (fun _ => ?_) fun _ => ?_))

theorem execTierRule5_only {L : List Part} {z : State} {t : ℕ} {s0 : State} (hL : [.time, .records, .modRest,
    .events, .recorder, .heat, .pair, .out] ⊆ L)
    (h : execTierRule5 t s0 = .next z) : onlyChanges L s0 z := by
  have hO : onlyChanges L s0 s0 := onlyChanges_refl
  unfold execTierRule5 at h
  injection h with h
  subst h
  try dsimp only
  repeat' first
    | with_reducible exact hO
    | with_reducible refine atT_only (subParts hL) ?_
    | with_reducible refine tierName_only (subParts hL) ?_
    | with_reducible refine wantTier_only (subParts hL) ?_
    | (with_reducible refine ite_only (fun _ => ?_) fun _ => ?_)

theorem execLanePresent_only {L : List Part} {z : State} {t : ℕ} {l : Lane} {fault : LaneFault} {s0 : State} (hL :
    [.time, .ile] ⊆ L)
    (h : execLanePresent t l fault s0 = .next z) : onlyChanges L s0 z := by
  have hO : onlyChanges L s0 s0 := onlyChanges_refl
  unfold execLanePresent at h
  injection h with h
  subst h
  try dsimp only
  repeat' first
    | with_reducible exact hO
    | with_reducible refine atT_only (subParts hL) ?_
    | with_reducible refine updLane_only (subParts hL) ?_
    | (with_reducible refine ite_only (fun _ => ?_) fun _ => ?_)
    | ((with_reducible refine update_only ?_ fun p => ?_); rotate_left;
        (cases p <;> first | exact .inl (hL (by decide)) | (refine .inr ?_; repeat' constructor));
        first
        | with_reducible exact hO
        | with_reducible refine atT_only (subParts hL) ?_
        | with_reducible refine updLane_only (subParts hL) ?_
        | (with_reducible refine ite_only (fun _ => ?_) fun _ => ?_))

theorem execPresentationDeadline_only {L : List Part} {z : State} {t : ℕ} {s0 : State} (hL : [.time, .records,
    .faultStore, .events, .recorder, .faults, .selfTest, .clocks, .heat, .ile, .pair, .out] ⊆ L)
    (h : execPresentationDeadline t s0 = .next z) : onlyChanges L s0 z := by
  have hO : onlyChanges L s0 s0 := onlyChanges_refl
  unfold execPresentationDeadline at h
  injection h with h
  subst h
  try dsimp only
  repeat' first
    | with_reducible exact hO
    | with_reducible refine atT_only (subParts hL) ?_
    | with_reducible refine markLate_only (subParts hL) ?_
    | with_reducible refine askState_only (subParts hL) ?_
    | with_reducible refine foldl_only ?_ (fun _ _ _ => ?_)
    | with_reducible assumption
    | (with_reducible refine ite_only (fun _ => ?_) fun _ => ?_)
    | ((with_reducible refine update_only ?_ fun p => ?_); rotate_left;
        (cases p <;> first | exact .inl (hL (by decide)) | (refine .inr ?_; repeat' constructor));
        first
        | with_reducible exact hO
        | with_reducible refine atT_only (subParts hL) ?_
        | with_reducible refine markLate_only (subParts hL) ?_
        | with_reducible refine askState_only (subParts hL) ?_
        | with_reducible refine foldl_only ?_ (fun _ _ _ => ?_)
        | with_reducible assumption
        | (with_reducible refine ite_only (fun _ => ?_) fun _ => ?_))

theorem execVoterUpdate_only {L : List Part} {z : State} {t : ℕ} {faults : List (Lane × Bool)} {s0 : State} (hL :
    [.time, .records, .faultStore, .tuple, .refusal, .events, .slots, .recorder, .faults, .selfTest, .clocks, .heat,
    .cycle, .stores, .ile, .pair, .tripIo, .out] ⊆ L)
    (h : execVoterUpdate t faults s0 = .next z) : onlyChanges L s0 z := by
  have hO : onlyChanges L s0 s0 := onlyChanges_refl
  unfold execVoterUpdate at h
  injection h with h
  subst h
  try dsimp only
  repeat' first
    | with_reducible exact hO
    | with_reducible refine atT_only (subParts hL) ?_
    | with_reducible refine updateTail_only (subParts hL) ?_
    | with_reducible refine voteStep_only (subParts hL) ?_
    | (with_reducible refine ite_only (fun _ => ?_) fun _ => ?_)

theorem execReseedTablePhaseDone_only {L : List Part} {z : State} {t : ℕ} {l : Lane} {ok : Bool} {s0 : State} (hL :
    [.time, .selfTest, .clocks, .heat, .ile] ⊆ L)
    (h : execReseedTablePhaseDone t l ok s0 = .next z) : onlyChanges L s0 z := by
  have hO : onlyChanges L s0 s0 := onlyChanges_refl
  unfold execReseedTablePhaseDone at h
  injection h with h
  subst h
  try dsimp only
  repeat' first
    | with_reducible exact hO
    | with_reducible refine atT_only (subParts hL) ?_
    | with_reducible refine updLane_only (subParts hL) ?_
    | with_reducible refine reseedLane_only (subParts hL) ?_
    | (with_reducible refine ite_only (fun _ => ?_) fun _ => ?_)
    | split

theorem execPathSetTimeout_only {L : List Part} {z : State} {t : ℕ} {i : ℕ} {s0 : State} (hL : [.time, .records,
    .events, .recorder, .ile] ⊆ L)
    (h : execPathSetTimeout t i s0 = .next z) : onlyChanges L s0 z := by
  have hO : onlyChanges L s0 s0 := onlyChanges_refl
  unfold execPathSetTimeout at h
  injection h with h
  subst h
  try dsimp only
  repeat' first
    | with_reducible exact hO
    | with_reducible refine atT_only (subParts hL) ?_
    | with_reducible refine occurU_only (subParts hL) ?_
    | with_reducible refine eachDyn_only (subParts hL) ?_
    | (with_reducible refine ite_only (fun _ => ?_) fun _ => ?_)

theorem execReleaseDelayElapsed_only {L : List Part} {z : State} {t : ℕ} {i : ℕ} {s0 : State} (hL : [.time, .ile] ⊆
    L)
    (h : execReleaseDelayElapsed t i s0 = .next z) : onlyChanges L s0 z := by
  have hO : onlyChanges L s0 s0 := onlyChanges_refl
  unfold execReleaseDelayElapsed at h
  injection h with h
  subst h
  try dsimp only
  repeat' first
    | with_reducible exact hO
    | with_reducible refine atT_only (subParts hL) ?_
    | with_reducible refine eachDyn_only (subParts hL) ?_
    | (with_reducible refine ite_only (fun _ => ?_) fun _ => ?_)

theorem execIleDetectFault_only {L : List Part} {z : State} {t : ℕ} {i : ℕ} {s0 : State} (hL : [.time, .records,
    .events, .recorder, .ile] ⊆ L)
    (h : execIleDetectFault t i s0 = .next z) : onlyChanges L s0 z := by
  have hO : onlyChanges L s0 s0 := onlyChanges_refl
  unfold execIleDetectFault at h
  injection h with h
  subst h
  try dsimp only
  repeat' first
    | with_reducible exact hO
    | with_reducible refine atT_only (subParts hL) ?_
    | with_reducible refine occurU_only (subParts hL) ?_
    | with_reducible refine eachDyn_only (subParts hL) ?_
    | (with_reducible refine ite_only (fun _ => ?_) fun _ => ?_)

theorem execColdHoldEnd_only {L : List Part} {z : State} {t : ℕ} {s0 : State} (hL : [.time, .ile] ⊆ L)
    (h : execColdHoldEnd t s0 = .next z) : onlyChanges L s0 z := by
  have hO : onlyChanges L s0 s0 := onlyChanges_refl
  unfold execColdHoldEnd at h
  injection h with h
  subst h
  try dsimp only
  repeat' first
    | with_reducible exact hO
    | with_reducible refine atT_only (subParts hL) ?_
    | (with_reducible refine ite_only (fun _ => ?_) fun _ => ?_)
    | ((with_reducible refine update_only ?_ fun p => ?_); rotate_left;
        (cases p <;> first | exact .inl (hL (by decide)) | (refine .inr ?_; repeat' constructor));
        first
        | with_reducible exact hO
        | with_reducible refine atT_only (subParts hL) ?_
        | (with_reducible refine ite_only (fun _ => ?_) fun _ => ?_))
    | split

theorem execIleBndTimeout_only {L : List Part} {z : State} {t : ℕ} {pair : ℕ} {s0 : State} (hL : [.time, .records,
    .events, .recorder, .ile] ⊆ L)
    (h : execIleBndTimeout t pair s0 = .next z) : onlyChanges L s0 z := by
  have hO : onlyChanges L s0 s0 := onlyChanges_refl
  unfold execIleBndTimeout at h
  injection h with h
  subst h
  try dsimp only
  repeat' first
    | with_reducible exact hO
    | with_reducible refine atT_only (subParts hL) ?_
    | with_reducible refine occurU_only (subParts hL) ?_
    | (with_reducible refine ite_only (fun _ => ?_) fun _ => ?_)
    | ((with_reducible refine update_only ?_ fun p => ?_); rotate_left;
        (cases p <;> first | exact .inl (hL (by decide)) | (refine .inr ?_; repeat' constructor));
        first
        | with_reducible exact hO
        | with_reducible refine atT_only (subParts hL) ?_
        | with_reducible refine occurU_only (subParts hL) ?_
        | (with_reducible refine ite_only (fun _ => ?_) fun _ => ?_))
    | split

theorem execTioOverlapEnd_only {L : List Part} {z : State} {t : ℕ} {s0 : State} (hL : [.time, .records, .modRetired,
    .tuple, .modRest, .rings, .events, .slots, .recorder, .faults, .firmware, .gates, .clocks, .heat, .contacts,
    .cycle, .change, .stores, .network, .ile, .pair, .tripIo, .can, .analog, .out] ⊆ L)
    (h : execTioOverlapEnd t s0 = .next z) : onlyChanges L s0 z := by
  have hO : onlyChanges L s0 s0 := onlyChanges_refl
  unfold execTioOverlapEnd at h
  injection h with h
  subst h
  try dsimp only
  repeat' first
    | with_reducible exact hO
    | with_reducible refine atT_only (subParts hL) ?_
    | with_reducible refine ejectFinish_only (subParts hL) ?_
    | with_reducible refine tioDecide_only (subParts hL) ?_
    | (with_reducible refine ite_only (fun _ => ?_) fun _ => ?_)
    | ((with_reducible refine update_only ?_ fun p => ?_); rotate_left;
        (cases p <;> first | exact .inl (hL (by decide)) | (refine .inr ?_; repeat' constructor));
        first
        | with_reducible exact hO
        | with_reducible refine atT_only (subParts hL) ?_
        | with_reducible refine ejectFinish_only (subParts hL) ?_
        | with_reducible refine tioDecide_only (subParts hL) ?_
        | (with_reducible refine ite_only (fun _ => ?_) fun _ => ?_))
    | split

theorem execAlpRampEnd_only {L : List Part} {z : State} {t : ℕ} {s0 : State} (hL : [.time, .records, .modRetired,
    .tuple, .modRest, .rings, .events, .slots, .recorder, .faults, .firmware, .gates, .clocks, .heat, .contacts,
    .cycle, .change, .stores, .network, .ile, .pair, .tripIo, .can, .analog, .out] ⊆ L)
    (h : execAlpRampEnd t s0 = .next z) : onlyChanges L s0 z := by
  have hO : onlyChanges L s0 s0 := onlyChanges_refl
  unfold execAlpRampEnd at h
  injection h with h
  subst h
  try dsimp only
  repeat' first
    | with_reducible exact hO
    | with_reducible refine atT_only (subParts hL) ?_
    | with_reducible refine ejectFinish_only (subParts hL) ?_
    | with_reducible refine alSettleAll_only (subParts hL) ?_
    | (with_reducible refine ite_only (fun _ => ?_) fun _ => ?_)
    | ((with_reducible refine update_only ?_ fun p => ?_); rotate_left;
        (cases p <;> first | exact .inl (hL (by decide)) | (refine .inr ?_; repeat' constructor));
        first
        | with_reducible exact hO
        | with_reducible refine atT_only (subParts hL) ?_
        | with_reducible refine ejectFinish_only (subParts hL) ?_
        | with_reducible refine alSettleAll_only (subParts hL) ?_
        | (with_reducible refine ite_only (fun _ => ?_) fun _ => ?_))
    | split

end Sys2Proof.Machine
end

