-- ==== Sys2Proof/Laws/FrameCycle.lean ====
section
/-! SUPPORT. What each operation of the program cycle, its boundary and the roles may change. -/

namespace Sys2Proof.Machine

set_option Elab.async false
set_option linter.unusedTactic false
set_option linter.unreachableTactic false

theorem takeSome_only {L : List Part} {z0 : State} {f : PendCmd → Bool} {eff : PendCmd → State → State} {s : State}
    (hL : [.cycle] ⊆ L)
    (hO : onlyChanges L z0 s)
    (k_eff : ∀ a0 z, onlyChanges L z0 z → onlyChanges L z0 (eff a0 z)) : onlyChanges L z0 (takeSome f eff s) := by
  unfold takeSome
  try dsimp only
  repeat' first
    | with_reducible exact hO
    | with_reducible apply k_eff
    | with_reducible refine foldl_only ?_ (fun _ _ _ => ?_)
    | with_reducible assumption
    | (with_reducible refine ite_only (fun _ => ?_) fun _ => ?_)
    | ((with_reducible refine update_only ?_ fun p => ?_); rotate_left;
        (cases p <;> first | exact .inl (hL (by decide)) | (refine .inr ?_; repeat' constructor));
        first
        | with_reducible exact hO
        | with_reducible apply k_eff
        | with_reducible refine foldl_only ?_ (fun _ _ _ => ?_)
        | with_reducible assumption
        | (with_reducible refine ite_only (fun _ => ?_) fun _ => ?_))

theorem takeClass_only {L : List Part} {z0 : State} {f : Pend → Bool} {eff : PendCmd → State → State} {s : State}
    (hL : [.cycle] ⊆ L)
    (hO : onlyChanges L z0 s)
    (k_eff : ∀ a0 z, onlyChanges L z0 z → onlyChanges L z0 (eff a0 z)) : onlyChanges L z0 (takeClass f eff s) := by
  unfold takeClass
  try dsimp only
  repeat' first
    | with_reducible exact hO
    | with_reducible apply k_eff
    | with_reducible refine takeSome_only (subParts hL) ?_ (fun _ _ _ => ?_)
    | with_reducible assumption

theorem guarded_only {L : List Part} {z0 : State} {ok : State → Bool} {eff : PendCmd → State → State} {p : PendCmd}
    {s : State} (hL : [.records, .refusal, .rings, .events, .recorder] ⊆ L)
    (hO : onlyChanges L z0 s)
    (k_eff : ∀ a0 z, onlyChanges L z0 z → onlyChanges L z0 (eff a0 z)) : onlyChanges L z0 (guarded ok eff p s) := by
  unfold guarded
  try dsimp only
  repeat' first
    | with_reducible exact hO
    | with_reducible apply k_eff
    | with_reducible refine answerRefuse_only (subParts hL) ?_
    | (with_reducible refine ite_only (fun _ => ?_) fun _ => ?_)

theorem forcesTake_only {L : List Part} {z0 : State} {fs : List Force} {ver : ℕ} {s : State} (hL : [.tuple, .events,
    .slots, .cycle] ⊆ L)
    (hO : onlyChanges L z0 s) : onlyChanges L z0 (forcesTake fs ver s) := by
  unfold forcesTake
  try dsimp only
  repeat' first
    | with_reducible exact hO
    | with_reducible refine setForced_only (subParts hL) ?_
    | ((with_reducible refine update_only ?_ fun p => ?_); rotate_left;
        (cases p <;> first | exact .inl (hL (by decide)) | (refine .inr ?_; repeat' constructor));
        first
        | with_reducible exact hO
        | with_reducible refine setForced_only (subParts hL) ?_)

theorem forceEff_only {L : List Part} {z0 : State} {old : List Point} {p : PendCmd} {s : State} (hL : [.records,
    .tuple, .refusal, .rings, .events, .slots, .recorder, .cycle] ⊆ L)
    (hO : onlyChanges L z0 s) : onlyChanges L z0 (forceEff old p s) := by
  unfold forceEff
  try dsimp only
  repeat' first
    | with_reducible exact hO
    | with_reducible refine guarded_only (subParts hL) ?_ (fun _ _ _ => ?_)
    | with_reducible refine answerFail_only (subParts hL) ?_
    | with_reducible refine answerOk_only (subParts hL) ?_
    | with_reducible refine forcesTake_only (subParts hL) ?_
    | with_reducible assumption
    | (with_reducible refine ite_only (fun _ => ?_) fun _ => ?_)
    | split

theorem takeForces_only {L : List Part} {z0 : State} {f : PendCmd → Bool} {old : List Point} {s : State} (hL :
    [.records, .tuple, .refusal, .rings, .events, .slots, .recorder, .cycle, .pair, .out] ⊆ L)
    (hO : onlyChanges L z0 s) : onlyChanges L z0 (takeForces f old s) := by
  unfold takeForces
  try dsimp only
  repeat' first
    | with_reducible exact hO
    | with_reducible refine takeSome_only (subParts hL) ?_ (fun _ _ _ => ?_)
    | with_reducible refine forceEff_only (subParts hL) ?_
    | with_reducible refine sendBulk_only (subParts hL) ?_
    | with_reducible assumption
    | (with_reducible refine ite_only (fun _ => ?_) fun _ => ?_)

theorem boundaryForce_only {L : List Part} {z0 : State} {old : List Point} {s : State} (hL : [.records, .tuple,
    .refusal, .rings, .events, .slots, .recorder, .cycle, .pair, .out] ⊆ L)
    (hO : onlyChanges L z0 s) : onlyChanges L z0 (boundaryForce old s) := by
  unfold boundaryForce
  try dsimp only
  repeat' first
    | with_reducible exact hO
    | with_reducible refine takeForces_only (subParts hL) ?_

theorem commitForces_only {L : List Part} {z0 : State} {tc : ℕ} {s : State} (hL : [.records, .tuple, .refusal,
    .rings, .events, .slots, .recorder, .cycle, .pair, .out] ⊆ L)
    (hO : onlyChanges L z0 s) : onlyChanges L z0 (commitForces tc s) := by
  unfold commitForces
  try dsimp only
  repeat' first
    | with_reducible exact hO
    | with_reducible refine takeForces_only (subParts hL) ?_

theorem firstCommit_only {L : List Part} {z0 : State} {tc : ℕ} {s : State} (hL : [.change, .network] ⊆ L)
    (hO : onlyChanges L z0 s) : onlyChanges L z0 (firstCommit tc s) := by
  unfold firstCommit
  try dsimp only
  repeat' first
    | with_reducible exact hO
    | (with_reducible refine ite_only (fun _ => ?_) fun _ => ?_)
    | ((with_reducible refine update_only ?_ fun p => ?_); rotate_left;
        (cases p <;> first | exact .inl (hL (by decide)) | (refine .inr ?_; repeat' constructor));
        first
        | with_reducible exact hO
        | (with_reducible refine ite_only (fun _ => ?_) fun _ => ?_))

theorem commitAt_only {L : List Part} {z0 : State} {tc : Nat} {s0 : State} (hL : [.records, .tuple, .refusal,
    .rings, .events, .slots, .recorder, .heat, .cycle, .change, .network, .pair, .can, .out] ⊆ L)
    (hO : onlyChanges L z0 s0) : onlyChanges L z0 (commitAt tc s0) := by
  have h : onlyChanges L z0 (firstCommit tc (canCommitBad (commitForces tc s0))) :=
    firstCommit_only (subParts hL) (canCommitBad_only (subParts hL) (commitForces_only (subParts hL) hO))
  unfold commitAt
  revert h
  generalize firstCommit _ _ = x
  intro h
  refine update_only (can_only (hL (by decide)) h) fun p => ?_
  cases p <;> first | exact .inl (hL (by decide)) | (refine .inr ?_; repeat' constructor)

theorem flip_only {L : List Part} {z0 : State} {base : Tab Entry} {s : State} (hL : [.cycle] ⊆ L)
    (hO : onlyChanges L z0 s) : onlyChanges L z0 (flip base s) := by
  unfold flip
  try dsimp only
  repeat' first
    | with_reducible exact hO
    | ((with_reducible refine update_only ?_ fun p => ?_); rotate_left;
        (cases p <;> first | exact .inl (hL (by decide)) | (refine .inr ?_; repeat' constructor));
        first
        | with_reducible exact hO)

theorem applyLocal_only {L : List Part} {z0 : State} {executing : Bool} {s : State} (hL : [.records, .rings,
    .events, .recorder, .tripIo, .can, .analog, .out] ⊆ L)
    (hO : onlyChanges L z0 s) : onlyChanges L z0 (applyLocal executing s) := by
  unfold applyLocal
  try dsimp only
  repeat' first
    | with_reducible exact hO
    | with_reducible refine tioRefreshNow_only (subParts hL) ?_
    | with_reducible refine canPublish_only (subParts hL) ?_
    | with_reducible refine alPublish_only (subParts hL) ?_

theorem sendSignalsFrom_only {L : List Part} {z0 : State} {n first : Nat} {l : List Nat} {s : State} (hL : [.pair,
    .out] ⊆ L)
    (hO : onlyChanges L z0 s) : onlyChanges L z0 (sendSignalsFrom n first l s) := by
  induction n generalizing first l s with
  | zero => exact hO
  | succ n ih =>
    unfold sendSignalsFrom
    exact ite_only (fun _ => hO) fun _ => ih (sendRing_only (subParts hL) hO)

theorem sendSignals_only {L : List Part} {z0 : State} {s : State} (hL : [.pair, .out] ⊆ L)
    (hO : onlyChanges L z0 s) : onlyChanges L z0 (sendSignals s) := by
  unfold sendSignals
  try dsimp only
  repeat' first
    | with_reducible exact hO
    | with_reducible refine sendSignalsFrom_only (subParts hL) ?_
    | (with_reducible refine ite_only (fun _ => ?_) fun _ => ?_)

theorem journalAppend_only {L : List Part} {z0 : State} {s : State} (hL : [.records, .events, .recorder, .faults,
    .cycle, .stores] ⊆ L)
    (hO : onlyChanges L z0 s) : onlyChanges L z0 (journalAppend s) := by
  unfold journalAppend
  try dsimp only
  repeat' first
    | with_reducible exact hO
    | with_reducible refine occur_only (subParts hL) ?_
    | (with_reducible refine ite_only (fun _ => ?_) fun _ => ?_)
    | ((with_reducible refine update_only ?_ fun p => ?_); rotate_left;
        (cases p <;> first | exact .inl (hL (by decide)) | (refine .inr ?_; repeat' constructor));
        first
        | with_reducible exact hO
        | with_reducible refine occur_only (subParts hL) ?_
        | (with_reducible refine ite_only (fun _ => ?_) fun _ => ?_))

theorem toHouse_only {L : List Part} {z0 : State} {s : State} (hL : [.records, .events, .recorder, .faults, .cycle,
    .stores] ⊆ L)
    (hO : onlyChanges L z0 s) : onlyChanges L z0 (toHouse s) := by
  unfold toHouse
  try dsimp only
  repeat' first
    | with_reducible exact hO
    | with_reducible refine journalAppend_only (subParts hL) ?_
    | ((with_reducible refine update_only ?_ fun p => ?_); rotate_left;
        (cases p <;> first | exact .inl (hL (by decide)) | (refine .inr ?_; repeat' constructor));
        first
        | with_reducible exact hO
        | with_reducible refine journalAppend_only (subParts hL) ?_)

theorem compareSigs_only {L : List Part} {z0 : State} {s : State} (hL : [.records, .modRest, .events, .recorder,
    .faults, .selfTest, .clocks, .heat, .cycle, .stores, .pair, .out] ⊆ L)
    (hO : onlyChanges L z0 s) : onlyChanges L z0 (compareSigs s) := by
  unfold compareSigs
  try dsimp only
  repeat' first
    | with_reducible exact hO
    | with_reducible refine toHouse_only (subParts hL) ?_
    | with_reducible refine arbDetect_only (subParts hL) ?_
    | (with_reducible refine ite_only (fun _ => ?_) fun _ => ?_)
    | ((with_reducible refine update_only ?_ fun p => ?_); rotate_left;
        (cases p <;> first | exact .inl (hL (by decide)) | (refine .inr ?_; repeat' constructor));
        first
        | with_reducible exact hO
        | with_reducible refine toHouse_only (subParts hL) ?_
        | with_reducible refine arbDetect_only (subParts hL) ?_
        | (with_reducible refine ite_only (fun _ => ?_) fun _ => ?_))
    | split

theorem toSig_only {L : List Part} {z0 : State} {s : State} (hL : [.records, .modRest, .events, .recorder, .faults,
    .selfTest, .clocks, .heat, .cycle, .stores, .pair, .out] ⊆ L)
    (hO : onlyChanges L z0 s) : onlyChanges L z0 (toSig s) := by
  unfold toSig
  try dsimp only
  repeat' first
    | with_reducible exact hO
    | with_reducible refine sendP0_only (subParts hL) ?_
    | with_reducible refine compareSigs_only (subParts hL) ?_
    | with_reducible refine toHouse_only (subParts hL) ?_
    | (with_reducible refine ite_only (fun _ => ?_) fun _ => ?_)
    | ((with_reducible refine update_only ?_ fun p => ?_); rotate_left;
        (cases p <;> first | exact .inl (hL (by decide)) | (refine .inr ?_; repeat' constructor));
        first
        | with_reducible exact hO
        | with_reducible refine sendP0_only (subParts hL) ?_
        | with_reducible refine compareSigs_only (subParts hL) ?_
        | with_reducible refine toHouse_only (subParts hL) ?_
        | (with_reducible refine ite_only (fun _ => ?_) fun _ => ?_))

theorem publishIdle_only {L : List Part} {z0 : State} {s : State} (hL : [.records, .modRest, .rings, .events,
    .recorder, .faults, .selfTest, .clocks, .heat, .cycle, .stores, .pair, .tripIo, .can, .analog, .out] ⊆ L)
    (hO : onlyChanges L z0 s) : onlyChanges L z0 (publishIdle s) := by
  unfold publishIdle
  try dsimp only
  repeat' first
    | with_reducible exact hO
    | with_reducible refine toSig_only (subParts hL) ?_
    | with_reducible refine sendSignals_only (subParts hL) ?_
    | with_reducible refine applyLocal_only (subParts hL) ?_
    | with_reducible refine flip_only (subParts hL) ?_
    | (with_reducible refine ite_only (fun _ => ?_) fun _ => ?_)
    | ((with_reducible refine update_only ?_ fun p => ?_); rotate_left;
        (cases p <;> first | exact .inl (hL (by decide)) | (refine .inr ?_; repeat' constructor));
        first
        | with_reducible exact hO
        | with_reducible refine toSig_only (subParts hL) ?_
        | with_reducible refine sendSignals_only (subParts hL) ?_
        | with_reducible refine applyLocal_only (subParts hL) ?_
        | with_reducible refine flip_only (subParts hL) ?_
        | (with_reducible refine ite_only (fun _ => ?_) fun _ => ?_))

theorem afterAgree_only {L : List Part} {z0 : State} {s : State} (hL : [.records, .modRest, .rings, .events,
    .recorder, .faults, .selfTest, .clocks, .heat, .cycle, .stores, .pair, .tripIo, .can, .analog, .out] ⊆ L)
    (hO : onlyChanges L z0 s) : onlyChanges L z0 (afterAgree s) := by
  unfold afterAgree
  try dsimp only
  repeat' first
    | with_reducible exact hO
    | with_reducible refine publishIdle_only (subParts hL) ?_
    | (with_reducible refine ite_only (fun _ => ?_) fun _ => ?_)
    | ((with_reducible refine update_only ?_ fun p => ?_); rotate_left;
        (cases p <;> first | exact .inl (hL (by decide)) | (refine .inr ?_; repeat' constructor));
        first
        | with_reducible exact hO
        | with_reducible refine publishIdle_only (subParts hL) ?_
        | (with_reducible refine ite_only (fun _ => ?_) fun _ => ?_))

theorem beginCycle_only {L : List Part} {z0 : State} {s : State} (hL : [.records, .tuple, .refusal, .modRest,
    .rings, .events, .slots, .recorder, .faults, .selfTest, .clocks, .heat, .cycle, .change, .stores, .network,
    .pair, .tripIo, .can, .analog, .out] ⊆ L)
    (hO : onlyChanges L z0 s) : onlyChanges L z0 (beginCycle s) := by
  unfold beginCycle
  try dsimp only
  repeat' first
    | with_reducible exact hO
    | with_reducible refine commitAt_only (subParts hL) ?_
    | with_reducible refine sendP0_only (subParts hL) ?_
    | with_reducible refine afterAgree_only (subParts hL) ?_
    | (with_reducible refine ite_only (fun _ => ?_) fun _ => ?_)

theorem idleCycle_only {L : List Part} {z0 : State} {s : State} (hL : [.records, .tuple, .refusal, .modRest, .rings,
    .events, .slots, .recorder, .faults, .selfTest, .clocks, .heat, .cycle, .change, .stores, .network, .pair,
    .tripIo, .can, .analog, .out] ⊆ L)
    (hO : onlyChanges L z0 s) : onlyChanges L z0 (idleCycle s) := by
  unfold idleCycle
  try dsimp only
  repeat' first
    | with_reducible exact hO
    | with_reducible refine beginCycle_only (subParts hL) ?_
    | (with_reducible refine ite_only (fun _ => ?_) fun _ => ?_)

theorem takeResult_only {L : List Part} {z0 : State} {r : ExecResult} {s : State} (hL : [.cycle] ⊆ L)
    (hO : onlyChanges L z0 s) : onlyChanges L z0 (takeResult r s) := by
  unfold takeResult
  try dsimp only
  repeat' first
    | with_reducible exact hO
    | (with_reducible refine ite_only (fun _ => ?_) fun _ => ?_)
    | ((with_reducible refine update_only ?_ fun p => ?_); rotate_left;
        (cases p <;> first | exact .inl (hL (by decide)) | (refine .inr ?_; repeat' constructor));
        first
        | with_reducible exact hO
        | (with_reducible refine ite_only (fun _ => ?_) fun _ => ?_))

theorem publishResult_only {L : List Part} {z0 : State} {r : ExecResult} {s : State} (hL : [.records, .rings,
    .events, .recorder, .cycle, .pair, .tripIo, .can, .analog, .out] ⊆ L)
    (hO : onlyChanges L z0 s) : onlyChanges L z0 (publishResult r s) := by
  unfold publishResult
  try dsimp only
  repeat' first
    | with_reducible exact hO
    | with_reducible refine takeResult_only (subParts hL) ?_
    | with_reducible refine sendSignals_only (subParts hL) ?_
    | with_reducible refine applyLocal_only (subParts hL) ?_
    | with_reducible refine flip_only (subParts hL) ?_
    | (with_reducible refine ite_only (fun _ => ?_) fun _ => ?_)

theorem rollback_only {L : List Part} {z0 : State} {c : ℕ} {s : State} (hL : [.records, .events, .recorder, .cycle]
    ⊆ L)
    (hO : onlyChanges L z0 s) : onlyChanges L z0 (rollback c s) := by
  unfold rollback
  try dsimp only
  repeat' first
    | with_reducible exact hO
    | with_reducible refine occur_only (subParts hL) ?_
    | ((with_reducible refine update_only ?_ fun p => ?_); rotate_left;
        (cases p <;> first | exact .inl (hL (by decide)) | (refine .inr ?_; repeat' constructor));
        first
        | with_reducible exact hO
        | with_reducible refine occur_only (subParts hL) ?_)

theorem retireCell_only {L : List Part} {z0 : State} {c : ℕ} {code : ℕ} {s : State} (hL : [.records, .faultStore,
    .modRetired, .tuple, .modRest, .rings, .events, .slots, .recorder, .faults, .firmware, .gates, .clocks, .heat,
    .cycle, .change, .stores, .network, .ile, .pair, .tripIo, .can, .analog, .out] ⊆ L)
    (hO : onlyChanges L z0 s) : onlyChanges L z0 (retireCell c code s) := by
  unfold retireCell
  try dsimp only
  repeat' first
    | with_reducible exact hO
    | with_reducible refine gateClose_only (subParts hL) ?_
    | with_reducible refine hlFlags_only (subParts hL) ?_
    | with_reducible refine occur_only (subParts hL) ?_
    | with_reducible refine retireRecord_only (subParts hL) ?_
    | with_reducible refine retireModule_only (subParts hL) ?_
    | (with_reducible refine ite_only (fun _ => ?_) fun _ => ?_)
    | ((with_reducible refine update_only ?_ fun p => ?_); rotate_left;
        (cases p <;> first | exact .inl (hL (by decide)) | (refine .inr ?_; repeat' constructor));
        first
        | with_reducible exact hO
        | with_reducible refine gateClose_only (subParts hL) ?_
        | with_reducible refine hlFlags_only (subParts hL) ?_
        | with_reducible refine occur_only (subParts hL) ?_
        | with_reducible refine retireRecord_only (subParts hL) ?_
        | with_reducible refine retireModule_only (subParts hL) ?_
        | (with_reducible refine ite_only (fun _ => ?_) fun _ => ?_))

theorem retireCellNow_only {L : List Part} {z0 : State} {c : ℕ} {code : ℕ} {s : State} (hL : [.records, .faultStore,
    .modRetired, .tuple, .modRest, .rings, .events, .slots, .recorder, .faults, .firmware, .gates, .clocks, .heat,
    .cycle, .change, .stores, .network, .ile, .pair, .tripIo, .can, .analog, .out] ⊆ L)
    (hO : onlyChanges L z0 s) : onlyChanges L z0 (retireCellNow c code s) := by
  unfold retireCellNow
  try dsimp only
  repeat' first
    | with_reducible exact hO
    | with_reducible refine retireCell_only (subParts hL) ?_
    | with_reducible refine rollback_only (subParts hL) ?_
    | (with_reducible refine ite_only (fun _ => ?_) fun _ => ?_)

theorem relay_only {L : List Part} {z0 : State} {kind : ℕ} {args : List ℕ} {s : State} (hL : [.pair, .out] ⊆ L)
    (hO : onlyChanges L z0 s) : onlyChanges L z0 (relay kind args s) := by
  unfold relay
  try dsimp only
  repeat' first
    | with_reducible exact hO
    | with_reducible refine sendP0_only (subParts hL) ?_
    | (with_reducible refine ite_only (fun _ => ?_) fun _ => ?_)

theorem wdtHold_only {L : List Part} {z0 : State} {s : State} (hL : [.records, .events, .recorder, .faults, .cycle,
    .stores, .pair, .out] ⊆ L)
    (hO : onlyChanges L z0 s) : onlyChanges L z0 (wdtHold s) := by
  unfold wdtHold
  try dsimp only
  repeat' first
    | with_reducible exact hO
    | with_reducible refine relay_only (subParts hL) ?_
    | with_reducible refine toHouse_only (subParts hL) ?_
    | ((with_reducible refine update_only ?_ fun p => ?_); rotate_left;
        (cases p <;> first | exact .inl (hL (by decide)) | (refine .inr ?_; repeat' constructor));
        first
        | with_reducible exact hO
        | with_reducible refine relay_only (subParts hL) ?_
        | with_reducible refine toHouse_only (subParts hL) ?_)

theorem relayNow_only {L : List Part} {z0 : State} {kind : ℕ} {args : List ℕ} {s : State} (hL : [.pair, .out] ⊆ L)
    (hO : onlyChanges L z0 s) : onlyChanges L z0 (relayNow kind args s) := by
  unfold relayNow
  try dsimp only
  repeat' first
    | with_reducible exact hO
    | with_reducible refine sendP0_only (subParts hL) ?_
    | (with_reducible refine ite_only (fun _ => ?_) fun _ => ?_)

theorem cancelBoth_only {L : List Part} {z0 : State} {cause : ℕ} {s : State} (hL : [.records, .events, .recorder,
    .change, .pair, .out] ⊆ L)
    (hO : onlyChanges L z0 s) : onlyChanges L z0 (cancelBoth cause s) := by
  unfold cancelBoth
  try dsimp only
  repeat' first
    | with_reducible exact hO
    | with_reducible refine cancelSwitch_only (subParts hL) ?_
    | with_reducible refine relayNow_only (subParts hL) ?_
    | (with_reducible refine ite_only (fun _ => ?_) fun _ => ?_)

theorem sendAuth_only {L : List Part} {z0 : State} {s : State} (hL : [.pair, .out, .free] ⊆ L)
    (hO : onlyChanges L z0 s) : onlyChanges L z0 (sendAuth s) := by
  unfold sendAuth
  try dsimp only
  repeat' first
    | with_reducible exact hO
    | with_reducible refine sendOn_only (subParts hL) ?_
    | (with_reducible refine ite_only (fun _ => ?_) fun _ => ?_)
    | ((with_reducible refine update_only ?_ fun p => ?_); rotate_left;
        (cases p <;> first | exact .inl (hL (by decide)) | (refine .inr ?_; repeat' constructor));
        first
        | with_reducible exact hO
        | with_reducible refine sendOn_only (subParts hL) ?_
        | (with_reducible refine ite_only (fun _ => ?_) fun _ => ?_))

theorem unfollow_only {L : List Part} {z0 : State} {s : State} (hL : [.records, .modRest, .rings, .events,
    .recorder, .faults, .selfTest, .clocks, .heat, .cycle, .stores, .pair, .tripIo, .can, .analog, .out] ⊆ L)
    (hO : onlyChanges L z0 s) : onlyChanges L z0 (unfollow s) := by
  unfold unfollow
  try dsimp only
  repeat' first
    | with_reducible exact hO
    | with_reducible refine publishIdle_only (subParts hL) ?_
    | with_reducible refine toHouse_only (subParts hL) ?_
    | ((with_reducible refine update_only ?_ fun p => ?_); rotate_left;
        (cases p <;> first | exact .inl (hL (by decide)) | (refine .inr ?_; repeat' constructor));
        first
        | with_reducible exact hO
        | with_reducible refine publishIdle_only (subParts hL) ?_
        | with_reducible refine toHouse_only (subParts hL) ?_)
    | split

theorem takeSolo_only {L : List Part} {z0 : State} {s : State} (hL : [.records, .tuple, .modRest, .rings, .events,
    .slots, .recorder, .heat, .change, .pair, .tripIo, .can, .analog, .out] ⊆ L)
    (hO : onlyChanges L z0 s) : onlyChanges L z0 (takeSolo s) := by
  unfold takeSolo
  try dsimp only
  repeat' first
    | with_reducible exact hO
    | with_reducible refine cancelSwitch_only (subParts hL) ?_
    | with_reducible refine setRole_only (subParts hL) ?_
    | with_reducible refine occur_only (subParts hL) ?_
    | with_reducible refine hlFlags_only (subParts hL) ?_
    | with_reducible refine tioRefreshNow_only (subParts hL) ?_
    | with_reducible refine canTakeOver_only (subParts hL) ?_
    | with_reducible refine alPublish_only (subParts hL) ?_
    | (with_reducible refine ite_only (fun _ => ?_) fun _ => ?_)
    | ((with_reducible refine update_only ?_ fun p => ?_); rotate_left;
        (cases p <;> first | exact .inl (hL (by decide)) | (refine .inr ?_; repeat' constructor));
        first
        | with_reducible exact hO
        | with_reducible refine cancelSwitch_only (subParts hL) ?_
        | with_reducible refine setRole_only (subParts hL) ?_
        | with_reducible refine occur_only (subParts hL) ?_
        | with_reducible refine hlFlags_only (subParts hL) ?_
        | with_reducible refine tioRefreshNow_only (subParts hL) ?_
        | with_reducible refine canTakeOver_only (subParts hL) ?_
        | with_reducible refine alPublish_only (subParts hL) ?_
        | (with_reducible refine ite_only (fun _ => ?_) fun _ => ?_))

theorem failover_only {L : List Part} {z0 : State} {s : State} (hL : [.records, .tuple, .modRest, .rings, .events,
    .slots, .recorder, .faults, .selfTest, .clocks, .heat, .cycle, .change, .stores, .pair, .tripIo, .can, .analog,
    .out] ⊆ L)
    (hO : onlyChanges L z0 s) : onlyChanges L z0 (failover s) := by
  unfold failover
  try dsimp only
  repeat' first
    | with_reducible exact hO
    | with_reducible refine takeSolo_only (subParts hL) ?_
    | with_reducible refine unfollow_only (subParts hL) ?_
    | (with_reducible refine ite_only (fun _ => ?_) fun _ => ?_)
    | ((with_reducible refine update_only ?_ fun p => ?_); rotate_left;
        (cases p <;> first | exact .inl (hL (by decide)) | (refine .inr ?_; repeat' constructor));
        first
        | with_reducible exact hO
        | with_reducible refine takeSolo_only (subParts hL) ?_
        | with_reducible refine unfollow_only (subParts hL) ?_
        | (with_reducible refine ite_only (fun _ => ?_) fun _ => ?_))

theorem soloFromActive_only {L : List Part} {z0 : State} {s : State} (hL : [.records, .tuple, .modRest, .rings,
    .events, .slots, .recorder, .heat, .change, .pair] ⊆ L)
    (hO : onlyChanges L z0 s) : onlyChanges L z0 (soloFromActive s) := by
  unfold soloFromActive
  try dsimp only
  repeat' first
    | with_reducible exact hO
    | with_reducible refine setRole_only (subParts hL) ?_
    | with_reducible refine hlFlags_only (subParts hL) ?_
    | with_reducible refine stageFail_only (subParts hL) ?_
    | with_reducible refine cancelSwitch_only (subParts hL) ?_
    | (with_reducible refine ite_only (fun _ => ?_) fun _ => ?_)
    | ((with_reducible refine update_only ?_ fun p => ?_); rotate_left;
        (cases p <;> first | exact .inl (hL (by decide)) | (refine .inr ?_; repeat' constructor));
        first
        | with_reducible exact hO
        | with_reducible refine setRole_only (subParts hL) ?_
        | with_reducible refine hlFlags_only (subParts hL) ?_
        | with_reducible refine stageFail_only (subParts hL) ?_
        | with_reducible refine cancelSwitch_only (subParts hL) ?_
        | (with_reducible refine ite_only (fun _ => ?_) fun _ => ?_))

theorem beginResync_only {L : List Part} {z0 : State} {s : State} (hL : [.pair, .out, .free] ⊆ L)
    (hO : onlyChanges L z0 s) : onlyChanges L z0 (beginResync s) := by
  unfold beginResync
  try dsimp only
  repeat' first
    | with_reducible exact hO
    | with_reducible refine sendAuth_only (subParts hL) ?_
    | (with_reducible refine ite_only (fun _ => ?_) fun _ => ?_)
    | ((with_reducible refine update_only ?_ fun p => ?_); rotate_left;
        (cases p <;> first | exact .inl (hL (by decide)) | (refine .inr ?_; repeat' constructor));
        first
        | with_reducible exact hO
        | with_reducible refine sendAuth_only (subParts hL) ?_
        | (with_reducible refine ite_only (fun _ => ?_) fun _ => ?_))

theorem resyncFail_only {L : List Part} {z0 : State} {auth : Bool} {s : State} (hL : [.records, .modRetired, .tuple,
    .modRest, .rings, .events, .slots, .recorder, .faults, .selfTest, .firmware, .gates, .clocks, .heat, .cycle,
    .change, .stores, .network, .ile, .pair, .tripIo, .can, .analog, .out, .free] ⊆ L)
    (hO : onlyChanges L z0 s) : onlyChanges L z0 (resyncFail auth s) := by
  unfold resyncFail
  try dsimp only
  repeat' first
    | with_reducible exact hO
    | with_reducible refine occur_only (subParts hL) ?_
    | with_reducible refine retireModule_only (subParts hL) ?_
    | with_reducible refine unfollow_only (subParts hL) ?_
    | with_reducible refine sendAuth_only (subParts hL) ?_
    | with_reducible refine bgWant_only (subParts hL) ?_
    | (with_reducible refine ite_only (fun _ => ?_) fun _ => ?_)
    | ((with_reducible refine update_only ?_ fun p => ?_); rotate_left;
        (cases p <;> first | exact .inl (hL (by decide)) | (refine .inr ?_; repeat' constructor));
        first
        | with_reducible exact hO
        | with_reducible refine occur_only (subParts hL) ?_
        | with_reducible refine retireModule_only (subParts hL) ?_
        | with_reducible refine unfollow_only (subParts hL) ?_
        | with_reducible refine sendAuth_only (subParts hL) ?_
        | with_reducible refine bgWant_only (subParts hL) ?_
        | (with_reducible refine ite_only (fun _ => ?_) fun _ => ?_))

theorem writeDecision_only {L : List Part} {z0 : State} {s : State} (hL : [.records, .events, .recorder] ⊆ L)
    (hO : onlyChanges L z0 s) : onlyChanges L z0 (writeDecision s) := by
  unfold writeDecision
  try dsimp only
  repeat' first
    | with_reducible exact hO
    | with_reducible refine occurU_only (subParts hL) ?_

theorem noteVotes_only {L : List Part} {z0 : State} {s : State} (hL : [.pair] ⊆ L)
    (hO : onlyChanges L z0 s) : onlyChanges L z0 (noteVotes s) := by
  unfold noteVotes
  try dsimp only
  repeat' first
    | with_reducible exact hO
    | ((with_reducible refine update_only ?_ fun p => ?_); rotate_left;
        (cases p <;> first | exact .inl (hL (by decide)) | (refine .inr ?_; repeat' constructor));
        first
        | with_reducible exact hO)

theorem decideArb_only {L : List Part} {z0 : State} {s : State} (hL : [.records, .modRetired, .tuple, .modRest,
    .rings, .events, .slots, .recorder, .faults, .selfTest, .firmware, .gates, .clocks, .heat, .cycle, .change,
    .stores, .network, .ile, .pair, .tripIo, .can, .analog, .out] ⊆ L)
    (hO : onlyChanges L z0 s) : onlyChanges L z0 (decideArb s) := by
  unfold decideArb
  try dsimp only
  repeat' first
    | with_reducible exact hO
    | with_reducible refine writeDecision_only (subParts hL) ?_
    | with_reducible refine retireModule_only (subParts hL) ?_
    | with_reducible refine failover_only (subParts hL) ?_
    | (with_reducible refine ite_only (fun _ => ?_) fun _ => ?_)
    | ((with_reducible refine update_only ?_ fun p => ?_); rotate_left;
        (cases p <;> first | exact .inl (hL (by decide)) | (refine .inr ?_; repeat' constructor));
        first
        | with_reducible exact hO
        | with_reducible refine writeDecision_only (subParts hL) ?_
        | with_reducible refine retireModule_only (subParts hL) ?_
        | with_reducible refine failover_only (subParts hL) ?_
        | (with_reducible refine ite_only (fun _ => ?_) fun _ => ?_))

theorem dualDrive_only {L : List Part} {z0 : State} {s : State} (hL : [.records, .modRetired, .tuple, .modRest,
    .rings, .events, .slots, .recorder, .faults, .firmware, .gates, .clocks, .heat, .cycle, .change, .stores,
    .network, .ile, .pair, .tripIo, .can, .analog, .out] ⊆ L)
    (hO : onlyChanges L z0 s) : onlyChanges L z0 (dualDrive s) := by
  unfold dualDrive
  try dsimp only
  repeat' first
    | with_reducible exact hO
    | with_reducible refine writeDecision_only (subParts hL) ?_
    | with_reducible refine retireModule_only (subParts hL) ?_
    | (with_reducible refine ite_only (fun _ => ?_) fun _ => ?_)
    | ((with_reducible refine update_only ?_ fun p => ?_); rotate_left;
        (cases p <;> first | exact .inl (hL (by decide)) | (refine .inr ?_; repeat' constructor));
        first
        | with_reducible exact hO
        | with_reducible refine writeDecision_only (subParts hL) ?_
        | with_reducible refine retireModule_only (subParts hL) ?_
        | (with_reducible refine ite_only (fun _ => ?_) fun _ => ?_))

theorem pairIdle_only {L : List Part} {z0 : State} {s0 : State} (hL : [.records, .modRetired, .tuple, .modRest,
    .rings, .events, .slots, .recorder, .faults, .selfTest, .firmware, .gates, .clocks, .heat, .cycle, .change,
    .stores, .network, .ile, .pair, .tripIo, .can, .analog, .out] ⊆ L)
    (hO : onlyChanges L z0 s0) : onlyChanges L z0 (pairIdle s0) := by
  unfold pairIdle
  try dsimp only
  repeat' first
    | with_reducible exact hO
    | with_reducible refine noteVotes_only (subParts hL) ?_
    | with_reducible refine dualDrive_only (subParts hL) ?_
    | with_reducible refine decideArb_only (subParts hL) ?_
    | (with_reducible refine ite_only (fun _ => ?_) fun _ => ?_)
    | ((with_reducible refine update_only ?_ fun p => ?_); rotate_left;
        (cases p <;> first | exact .inl (hL (by decide)) | (refine .inr ?_; repeat' constructor));
        first
        | with_reducible exact hO
        | with_reducible refine noteVotes_only (subParts hL) ?_
        | with_reducible refine dualDrive_only (subParts hL) ?_
        | with_reducible refine decideArb_only (subParts hL) ?_
        | (with_reducible refine ite_only (fun _ => ?_) fun _ => ?_))

theorem handoverRefused_only {L : List Part} {z0 : State} {rs : Reason} {s : State} (hL : [.records, .refusal,
    .rings, .events, .recorder, .pair] ⊆ L)
    (hO : onlyChanges L z0 s) : onlyChanges L z0 (handoverRefused rs s) := by
  unfold handoverRefused
  try dsimp only
  repeat' first
    | with_reducible exact hO
    | with_reducible refine answer_only (subParts hL) ?_ (fun _ _ _ => ?_)
    | with_reducible refine refuse_only (subParts hL) ?_
    | with_reducible assumption
    | ((with_reducible refine update_only ?_ fun p => ?_); rotate_left;
        (cases p <;> first | exact .inl (hL (by decide)) | (refine .inr ?_; repeat' constructor));
        first
        | with_reducible exact hO
        | with_reducible refine answer_only (subParts hL) ?_ (fun _ _ _ => ?_)
        | with_reducible refine refuse_only (subParts hL) ?_
        | with_reducible assumption)
    | split

theorem releaseNow_only {L : List Part} {z0 : State} {s : State} (hL : [.records, .tuple, .modRest, .rings, .events,
    .slots, .recorder, .contacts, .cycle, .change, .ile, .pair, .tripIo, .can, .analog, .out] ⊆ L)
    (hO : onlyChanges L z0 s) : onlyChanges L z0 (releaseNow s) := by
  unfold releaseNow
  try dsimp only
  repeat' first
    | with_reducible exact hO
    | with_reducible refine sendP0_only (subParts hL) ?_
    | with_reducible refine setTuple_only (subParts hL) ?_
    | with_reducible refine canRelease_only (subParts hL) ?_
    | with_reducible refine alSettleAll_only (subParts hL) ?_
    | with_reducible refine tioHandover_only (subParts hL) ?_
    | with_reducible refine occur_only (subParts hL) ?_
    | with_reducible refine answer_only (subParts hL) ?_ (fun _ _ _ => ?_)
    | with_reducible refine done_only (subParts hL) ?_
    | with_reducible refine opsAbort_only (subParts hL) ?_
    | with_reducible refine hartAbort_only (subParts hL) ?_
    | with_reducible refine abortWaiting_only (subParts hL) ?_
    | with_reducible refine stageFail_only (subParts hL) ?_
    | with_reducible refine dropShadow_only (subParts hL) ?_
    | with_reducible assumption
    | (with_reducible refine ite_only (fun _ => ?_) fun _ => ?_)
    | ((with_reducible refine update_only ?_ fun p => ?_); rotate_left;
        (cases p <;> first | exact .inl (hL (by decide)) | (refine .inr ?_; repeat' constructor));
        first
        | with_reducible exact hO
        | with_reducible refine sendP0_only (subParts hL) ?_
        | with_reducible refine setTuple_only (subParts hL) ?_
        | with_reducible refine canRelease_only (subParts hL) ?_
        | with_reducible refine alSettleAll_only (subParts hL) ?_
        | with_reducible refine tioHandover_only (subParts hL) ?_
        | with_reducible refine occur_only (subParts hL) ?_
        | with_reducible refine answer_only (subParts hL) ?_ (fun _ _ _ => ?_)
        | with_reducible refine done_only (subParts hL) ?_
        | with_reducible refine opsAbort_only (subParts hL) ?_
        | with_reducible refine hartAbort_only (subParts hL) ?_
        | with_reducible refine abortWaiting_only (subParts hL) ?_
        | with_reducible refine stageFail_only (subParts hL) ?_
        | with_reducible refine dropShadow_only (subParts hL) ?_
        | with_reducible assumption
        | (with_reducible refine ite_only (fun _ => ?_) fun _ => ?_))
    | split

theorem takeActive_only {L : List Part} {z0 : State} {s : State} (hL : [.records, .tuple, .modRest, .rings, .events,
    .slots, .recorder, .pair, .tripIo, .can, .analog, .out] ⊆ L)
    (hO : onlyChanges L z0 s) : onlyChanges L z0 (takeActive s) := by
  unfold takeActive
  try dsimp only
  repeat' first
    | with_reducible exact hO
    | with_reducible refine setRole_only (subParts hL) ?_
    | with_reducible refine tioRefreshNow_only (subParts hL) ?_
    | with_reducible refine tioHandover_only (subParts hL) ?_
    | with_reducible refine canTakeOver_only (subParts hL) ?_
    | with_reducible refine alPublish_only (subParts hL) ?_
    | with_reducible refine occur_only (subParts hL) ?_
    | (with_reducible refine ite_only (fun _ => ?_) fun _ => ?_)
    | ((with_reducible refine update_only ?_ fun p => ?_); rotate_left;
        (cases p <;> first | exact .inl (hL (by decide)) | (refine .inr ?_; repeat' constructor));
        first
        | with_reducible exact hO
        | with_reducible refine setRole_only (subParts hL) ?_
        | with_reducible refine tioRefreshNow_only (subParts hL) ?_
        | with_reducible refine tioHandover_only (subParts hL) ?_
        | with_reducible refine canTakeOver_only (subParts hL) ?_
        | with_reducible refine alPublish_only (subParts hL) ?_
        | with_reducible refine occur_only (subParts hL) ?_
        | (with_reducible refine ite_only (fun _ => ?_) fun _ => ?_))

theorem tioReturn_only {L : List Part} {z0 : State} {u : UnitId} {s : State} (hL : [.records, .faultStore, .events,
    .recorder, .tripIo] ⊆ L)
    (hO : onlyChanges L z0 s) : onlyChanges L z0 (tioReturn u s) := by
  unfold tioReturn
  try dsimp only
  repeat' first
    | with_reducible exact hO
    | with_reducible refine readmitRecord_only (subParts hL) ?_
    | with_reducible refine updTi_only (subParts hL) ?_
    | with_reducible refine updTp_only (subParts hL) ?_
    | with_reducible refine latchAll_only (subParts hL) ?_
    | with_reducible refine updTq_only (subParts hL) ?_
    | (with_reducible refine ite_only (fun _ => ?_) fun _ => ?_)
    | split

theorem alReturn_only {L : List Part} {z0 : State} {x : ℕ} {s : State} (hL : [.records, .faultStore, .events,
    .recorder, .analog] ⊆ L)
    (hO : onlyChanges L z0 s) : onlyChanges L z0 (alReturn x s) := by
  unfold alReturn
  try dsimp only
  repeat' first
    | with_reducible exact hO
    | with_reducible refine updAl_only (subParts hL) ?_
    | with_reducible refine readmitRecord_only (subParts hL) ?_

theorem unitReturn_only {L : List Part} {z0 : State} {u : UnitId} {s : State} (hL : [.records, .faultStore,
    .modRest, .events, .recorder, .clocks, .heat, .network, .tripIo] ⊆ L)
    (hO : onlyChanges L z0 s) : onlyChanges L z0 (unitReturn u s) := by
  unfold unitReturn
  try dsimp only
  repeat' first
    | with_reducible exact hO
    | with_reducible refine observeStart_only (subParts hL) ?_
    | with_reducible refine gateOpen_only (subParts hL) ?_
    | with_reducible refine hlFlags_only (subParts hL) ?_
    | with_reducible refine readmitRecord_only (subParts hL) ?_
    | with_reducible refine canGate_only (subParts hL) ?_
    | with_reducible refine tioReturn_only (subParts hL) ?_
    | (with_reducible refine ite_only (fun _ => ?_) fun _ => ?_)
    | split

theorem unitNow_only {L : List Part} {z0 : State} {u : UnitId} {s : State} (hL : [.records, .faultStore, .events,
    .recorder, .pair, .tripIo, .can, .analog] ⊆ L)
    (hO : onlyChanges L z0 s) : onlyChanges L z0 (unitNow u s) := by
  unfold unitNow
  try dsimp only
  repeat' first
    | with_reducible exact hO
    | with_reducible refine alReturn_only (subParts hL) ?_
    | with_reducible refine updCan_only (subParts hL) ?_
    | with_reducible refine updPort_only (subParts hL) ?_
    | with_reducible refine tioReturn_only (subParts hL) ?_
    | split

theorem lanesReturn_only {L : List Part} {z0 : State} {was : List Lane} {mask : ℕ} {s0 : State} (hL : [.selfTest,
    .clocks, .heat, .stores, .ile, .pair, .out] ⊆ L)
    (hO : onlyChanges L z0 s0) : onlyChanges L z0 (lanesReturn was mask s0) := by
  unfold lanesReturn
  try dsimp only
  repeat' first
    | with_reducible exact hO
    | with_reducible refine gateOpen_only (subParts hL) ?_
    | with_reducible refine ileRecover_only (subParts hL) ?_
    | with_reducible refine laneRejoin_only (subParts hL) ?_
    | with_reducible refine foldl_only ?_ (fun _ _ _ => ?_)
    | with_reducible assumption
    | (with_reducible refine ite_only (fun _ => ?_) fun _ => ?_)
    | ((with_reducible refine update_only ?_ fun p => ?_); rotate_left;
        (cases p <;> first | exact .inl (hL (by decide)) | (refine .inr ?_; repeat' constructor));
        first
        | with_reducible exact hO
        | with_reducible refine gateOpen_only (subParts hL) ?_
        | with_reducible refine ileRecover_only (subParts hL) ?_
        | with_reducible refine laneRejoin_only (subParts hL) ?_
        | with_reducible refine foldl_only ?_ (fun _ _ _ => ?_)
        | with_reducible assumption
        | (with_reducible refine ite_only (fun _ => ?_) fun _ => ?_))

theorem readmitPassed_only {L : List Part} {z0 : State} {u : UnitId} {p : PendCmd} {s : State} (hL : [.records,
    .faultStore, .modRest, .rings, .events, .recorder, .clocks, .heat, .cycle, .network, .tripIo] ⊆ L)
    (hO : onlyChanges L z0 s) : onlyChanges L z0 (readmitPassed u p s) := by
  unfold readmitPassed
  try dsimp only
  repeat' first
    | with_reducible exact hO
    | with_reducible refine unitReturn_only (subParts hL) ?_
    | with_reducible refine answerOk_only (subParts hL) ?_
    | with_reducible refine pushPend_only (subParts hL) ?_
    | (with_reducible refine ite_only (fun _ => ?_) fun _ => ?_)

theorem lanesPassed_only {L : List Part} {z0 : State} {mask : ℕ} {s : State} (hL : [.records, .faultStore, .events,
    .recorder] ⊆ L)
    (hO : onlyChanges L z0 s) : onlyChanges L z0 (lanesPassed mask s) := by
  unfold lanesPassed
  try dsimp only
  repeat' first
    | with_reducible exact hO
    | with_reducible refine readmitRecord_only (subParts hL) ?_
    | with_reducible refine foldl_only ?_ (fun _ _ _ => ?_)
    | with_reducible assumption
    | (with_reducible refine ite_only (fun _ => ?_) fun _ => ?_)

theorem bistWait_only {L : List Part} {z0 : State} {u : UnitId} {ok : Bool} {s : State} {p : PendCmd} (hL :
    [.records, .faultStore, .refusal, .modRest, .rings, .events, .recorder, .selfTest, .clocks, .heat, .cycle,
    .stores, .network, .ile, .pair, .tripIo, .out] ⊆ L)
    (hO : onlyChanges L z0 s) : onlyChanges L z0 (bistWait u ok s p) := by
  unfold bistWait
  try dsimp only
  repeat' first
    | with_reducible exact hO
    | with_reducible refine pushPend_only (subParts hL) ?_
    | with_reducible refine readmitPassed_only (subParts hL) ?_
    | with_reducible refine answerRefuse_only (subParts hL) ?_
    | with_reducible refine lanesReturn_only (subParts hL) ?_
    | with_reducible refine lanesPassed_only (subParts hL) ?_
    | with_reducible refine answerOk_only (subParts hL) ?_
    | (with_reducible refine ite_only (fun _ => ?_) fun _ => ?_)
    | split

theorem bistDone_only {L : List Part} {z0 : State} {u : UnitId} {ok : Bool} {s : State} (hL : [.records,
    .faultStore, .refusal, .modRest, .rings, .events, .recorder, .selfTest, .clocks, .heat, .cycle, .stores,
    .network, .ile, .pair, .tripIo, .out] ⊆ L)
    (hO : onlyChanges L z0 s) : onlyChanges L z0 (bistDone u ok s) := by
  unfold bistDone
  try dsimp only
  repeat' first
    | with_reducible exact hO
    | with_reducible refine bistWait_only (subParts hL) ?_
    | with_reducible refine foldl_only ?_ (fun _ _ _ => ?_)
    | with_reducible assumption
    | ((with_reducible refine update_only ?_ fun p => ?_); rotate_left;
        (cases p <;> first | exact .inl (hL (by decide)) | (refine .inr ?_; repeat' constructor));
        first
        | with_reducible exact hO
        | with_reducible refine bistWait_only (subParts hL) ?_
        | with_reducible refine foldl_only ?_ (fun _ _ _ => ?_)
        | with_reducible assumption)

theorem moduleReset_only {L : List Part} {z0 : State} {s0 : State} (hL : [.time, .records, .tuple, .refusal,
    .modRest, .rings, .events, .vectors, .slots, .hxpRest, .recorder, .faults, .selfTest, .firmware, .gates,
    .clocks, .heat, .contacts, .cycle, .change, .times, .network, .ile, .pair, .tripIo, .can, .analog, .memory] ⊆ L)
    (hO : onlyChanges L z0 s0) : onlyChanges L z0 (moduleReset s0) := by
  have h : onlyChanges L z0 (setUnlock 0 0 s0) := setUnlock_only (subParts hL) hO
  unfold moduleReset
  refine update_only h fun p => ?_
  cases p <;> first | exact .inl (hL (by decide)) | (refine .inr ?_; repeat' constructor)

theorem updSlot_only {L : List Part} {z0 : State} {b : ℕ} {f : ImgSlot → ImgSlot} {s : State} (hL : [.images] ⊆ L)
    (hO : onlyChanges L z0 s) : onlyChanges L z0 (updSlot b f s) := by
  unfold updSlot
  try dsimp only
  repeat' first
    | with_reducible exact hO
    | (with_reducible refine ite_only (fun _ => ?_) fun _ => ?_)
    | ((with_reducible refine update_only ?_ fun p => ?_); rotate_left;
        (cases p <;> first | exact .inl (hL (by decide)) | (refine .inr ?_; repeat' constructor));
        first
        | with_reducible exact hO
        | (with_reducible refine ite_only (fun _ => ?_) fun _ => ?_))

theorem ptrPut_only {L : List Part} {z0 : State} {f : PtrRec → PtrRec} {s : State} (hL : [.images] ⊆ L)
    (hO : onlyChanges L z0 s) : onlyChanges L z0 (ptrPut f s) := by
  unfold ptrPut
  try dsimp only
  repeat' first
    | with_reducible exact hO
    | (with_reducible refine ite_only (fun _ => ?_) fun _ => ?_)
    | ((with_reducible refine update_only ?_ fun p => ?_); rotate_left;
        (cases p <;> first | exact .inl (hL (by decide)) | (refine .inr ?_; repeat' constructor));
        first
        | with_reducible exact hO
        | (with_reducible refine ite_only (fun _ => ?_) fun _ => ?_))

theorem ptrFall_only {L : List Part} {z0 : State} {cause : FbCause} {s : State} (hL : [.images] ⊆ L)
    (hO : onlyChanges L z0 s) : onlyChanges L z0 (ptrFall cause s) := by
  unfold ptrFall
  try dsimp only
  repeat' first
    | with_reducible exact hO
    | with_reducible refine ptrPut_only (subParts hL) ?_

theorem ptrConfirm_only {L : List Part} {z0 : State} {s : State} (hL : [.images] ⊆ L)
    (hO : onlyChanges L z0 s) : onlyChanges L z0 (ptrConfirm s) := by
  unfold ptrConfirm
  try dsimp only
  repeat' first
    | with_reducible exact hO
    | with_reducible refine ptrPut_only (subParts hL) ?_

theorem fwConfirm_only {L : List Part} {z0 : State} {s : State} (hL : [.records, .images, .tuple, .events, .slots,
    .recorder, .firmware] ⊆ L)
    (hO : onlyChanges L z0 s) : onlyChanges L z0 (fwConfirm s) := by
  unfold fwConfirm
  try dsimp only
  repeat' first
    | with_reducible exact hO
    | with_reducible refine setFw_only (subParts hL) ?_
    | with_reducible refine ptrConfirm_only (subParts hL) ?_
    | with_reducible refine occur_only (subParts hL) ?_
    | (with_reducible refine ite_only (fun _ => ?_) fun _ => ?_)
    | ((with_reducible refine update_only ?_ fun p => ?_); rotate_left;
        (cases p <;> first | exact .inl (hL (by decide)) | (refine .inr ?_; repeat' constructor));
        first
        | with_reducible exact hO
        | with_reducible refine setFw_only (subParts hL) ?_
        | with_reducible refine ptrConfirm_only (subParts hL) ?_
        | with_reducible refine occur_only (subParts hL) ?_
        | (with_reducible refine ite_only (fun _ => ?_) fun _ => ?_))
    | split

theorem trialBoundary_only {L : List Part} {z0 : State} {s : State} (hL : [.time, .records, .images, .tuple,
    .refusal, .modRest, .rings, .events, .vectors, .slots, .hxpRest, .recorder, .faults, .selfTest, .firmware,
    .gates, .clocks, .heat, .contacts, .cycle, .change, .times, .network, .ile, .pair, .tripIo, .can, .analog,
    .memory] ⊆ L)
    (hO : onlyChanges L z0 s) : onlyChanges L z0 (trialBoundary s) := by
  unfold trialBoundary
  try dsimp only
  repeat' first
    | with_reducible exact hO
    | with_reducible refine moduleReset_only (subParts hL) ?_
    | with_reducible refine fwConfirm_only (subParts hL) ?_
    | (with_reducible refine ite_only (fun _ => ?_) fun _ => ?_)

theorem leaveReset_only {L : List Part} {z0 : State} {s : State} (hL : [.firmware, .pair, .out] ⊆ L)
    (hO : onlyChanges L z0 s) : onlyChanges L z0 (leaveReset s) := by
  unfold leaveReset
  try dsimp only
  repeat' first
    | with_reducible exact hO
    | with_reducible refine sendP0_only (subParts hL) ?_
    | (with_reducible refine ite_only (fun _ => ?_) fun _ => ?_)
    | ((with_reducible refine update_only ?_ fun p => ?_); rotate_left;
        (cases p <;> first | exact .inl (hL (by decide)) | (refine .inr ?_; repeat' constructor));
        first
        | with_reducible exact hO
        | with_reducible refine sendP0_only (subParts hL) ?_
        | (with_reducible refine ite_only (fun _ => ?_) fun _ => ?_))

theorem chunkStore_only {L : List Part} {z0 : State} {off : ℕ} {total : ℕ} {len : ℕ} {hdr : Option ImageHdr} {s :
    State} (hL : [.records, .images, .events, .recorder, .firmware, .heat] ⊆ L)
    (hO : onlyChanges L z0 s) : onlyChanges L z0 (chunkStore off total len hdr s) := by
  unfold chunkStore
  try dsimp only
  repeat' first
    | with_reducible exact hO
    | with_reducible refine occur_only (subParts hL) ?_
    | with_reducible refine updSlot_only (subParts hL) ?_
    | with_reducible refine bgWant_only (subParts hL) ?_
    | (with_reducible refine ite_only (fun _ => ?_) fun _ => ?_)
    | ((with_reducible refine update_only ?_ fun p => ?_); rotate_left;
        (cases p <;> first | exact .inl (hL (by decide)) | (refine .inr ?_; repeat' constructor));
        first
        | with_reducible exact hO
        | with_reducible refine occur_only (subParts hL) ?_
        | with_reducible refine updSlot_only (subParts hL) ?_
        | with_reducible refine bgWant_only (subParts hL) ?_
        | (with_reducible refine ite_only (fun _ => ?_) fun _ => ?_))

theorem agreeHeld_only {L : List Part} {z0 : State} {s : State} (hL : [.records, .modRest, .rings, .events,
    .recorder, .faults, .selfTest, .clocks, .heat, .cycle, .stores, .pair, .tripIo, .can, .analog, .out] ⊆ L)
    (hO : onlyChanges L z0 s) : onlyChanges L z0 (agreeHeld s) := by
  unfold agreeHeld
  try dsimp only
  repeat' first
    | with_reducible exact hO
    | with_reducible refine afterAgree_only (subParts hL) ?_
    | with_reducible refine sendP0_only (subParts hL) ?_

theorem agreeTake_only {L : List Part} {z0 : State} {m : AgreeMsg} {s : State} (hL : [.records, .tuple, .refusal,
    .modRest, .rings, .events, .slots, .recorder, .faults, .selfTest, .clocks, .heat, .cycle, .change, .stores,
    .network, .pair, .tripIo, .can, .analog, .out] ⊆ L)
    (hO : onlyChanges L z0 s) : onlyChanges L z0 (agreeTake m s) := by
  have h : onlyChanges L z0 (tioFromActive m.tCommit m.fnState.toNat (commitAt m.tCommit
      { s with plv := { s.plv with agreeWait := none } })) :=
    tioFromActive_only (subParts hL) (commitAt_only (subParts hL) (plv_only (hL (by decide)) hO))
  unfold agreeTake
  exact ite_only (fun _ => agreeHeld_only (subParts hL) h)
    fun _ => sendP0_only (subParts hL) (cyc_only (hL (by decide)) h)

theorem agreeReady_only {L : List Part} {z0 : State} {s : State} (hL : [.records, .tuple, .refusal, .modRest,
    .rings, .events, .slots, .recorder, .faults, .selfTest, .clocks, .heat, .cycle, .change, .stores, .network,
    .pair, .tripIo, .can, .analog, .out] ⊆ L)
    (hO : onlyChanges L z0 s) : onlyChanges L z0 (agreeReady s) := by
  unfold agreeReady
  split
  · exact hO
  · exact ite_only (fun _ => plv_only (hL (by decide)) hO)
      fun _ => ite_only (fun _ => agreeTake_only (subParts hL) hO) fun _ => hO

theorem agreeArrive_only {L : List Part} {z0 : State} {m : AgreeMsg} {s : State} (hL : [.records, .tuple, .refusal,
    .modRest, .rings, .events, .slots, .recorder, .faults, .selfTest, .clocks, .heat, .cycle, .change, .stores,
    .network, .pair, .tripIo, .can, .analog, .out] ⊆ L)
    (hO : onlyChanges L z0 s) : onlyChanges L z0 (agreeArrive m s) := by
  unfold agreeArrive
  exact ite_only (fun _ => agreeReady_only (subParts hL) (plv_only (hL (by decide)) hO)) fun _ => hO

theorem sendSlices_only {L : List Part} {z0 : State} {slices : List ℕ} {s : State} (hL : [.pair, .out] ⊆ L)
    (hO : onlyChanges L z0 s) : onlyChanges L z0 (sendSlices slices s) := by
  unfold sendSlices
  try dsimp only
  repeat' first
    | with_reducible exact hO
    | with_reducible refine sendP0_only (subParts hL) ?_
    | with_reducible refine foldl_only ?_ (fun _ _ _ => ?_)
    | with_reducible assumption
    | (with_reducible refine ite_only (fun _ => ?_) fun _ => ?_)

theorem sliceTake_only {L : List Part} {z0 : State} {k : ℕ} {entries : List (ℕ × Entry)} {s : State} (hL :
    [.records, .modRest, .rings, .events, .recorder, .faults, .selfTest, .clocks, .heat, .cycle, .stores, .pair,
    .tripIo, .can, .analog, .out] ⊆ L)
    (hO : onlyChanges L z0 s) : onlyChanges L z0 (sliceTake k entries s) := by
  unfold sliceTake
  try dsimp only
  repeat' first
    | with_reducible exact hO
    | with_reducible refine agreeHeld_only (subParts hL) ?_
    | (with_reducible refine ite_only (fun _ => ?_) fun _ => ?_)
    | ((with_reducible refine update_only ?_ fun p => ?_); rotate_left;
        (cases p <;> first | exact .inl (hL (by decide)) | (refine .inr ?_; repeat' constructor));
        first
        | with_reducible exact hO
        | with_reducible refine agreeHeld_only (subParts hL) ?_
        | (with_reducible refine ite_only (fun _ => ?_) fun _ => ?_))

theorem agreeDone_only {L : List Part} {z0 : State} {cycle : ℕ} {s : State} (hL : [.records, .modRest, .rings,
    .events, .recorder, .faults, .selfTest, .clocks, .heat, .cycle, .stores, .pair, .tripIo, .can, .analog, .out] ⊆
    L)
    (hO : onlyChanges L z0 s) : onlyChanges L z0 (agreeDone cycle s) := by
  unfold agreeDone
  try dsimp only
  repeat' first
    | with_reducible exact hO
    | with_reducible refine afterAgree_only (subParts hL) ?_
    | (with_reducible refine ite_only (fun _ => ?_) fun _ => ?_)

theorem signatureTake_only {L : List Part} {z0 : State} {cycle : ℕ} {sig : ℕ} {s : State} (hL : [.records, .modRest,
    .events, .recorder, .faults, .selfTest, .clocks, .heat, .cycle, .stores, .pair, .out] ⊆ L)
    (hO : onlyChanges L z0 s) : onlyChanges L z0 (signatureTake cycle sig s) := by
  unfold signatureTake
  try dsimp only
  repeat' first
    | with_reducible exact hO
    | with_reducible refine compareSigs_only (subParts hL) ?_
    | (with_reducible refine ite_only (fun _ => ?_) fun _ => ?_)
    | ((with_reducible refine update_only ?_ fun p => ?_); rotate_left;
        (cases p <;> first | exact .inl (hL (by decide)) | (refine .inr ?_; repeat' constructor));
        first
        | with_reducible exact hO
        | with_reducible refine compareSigs_only (subParts hL) ?_
        | (with_reducible refine ite_only (fun _ => ?_) fun _ => ?_))

theorem startTake_only {L : List Part} {z0 : State} {s : State} (hL : [.records, .tuple, .modRest, .events, .slots,
    .recorder, .heat, .cycle] ⊆ L)
    (hO : onlyChanges L z0 s) : onlyChanges L z0 (startTake s) := by
  unfold startTake
  try dsimp only
  repeat' first
    | with_reducible exact hO
    | with_reducible refine setRun_only (subParts hL) ?_
    | with_reducible refine hlRestart_only (subParts hL) ?_
    | (with_reducible refine ite_only (fun _ => ?_) fun _ => ?_)
    | ((with_reducible refine update_only ?_ fun p => ?_); rotate_left;
        (cases p <;> first | exact .inl (hL (by decide)) | (refine .inr ?_; repeat' constructor));
        first
        | with_reducible exact hO
        | with_reducible refine setRun_only (subParts hL) ?_
        | with_reducible refine hlRestart_only (subParts hL) ?_
        | (with_reducible refine ite_only (fun _ => ?_) fun _ => ?_))

theorem runTake_only {L : List Part} {z0 : State} {req : ℕ} {s : State} (hL : [.records, .tuple, .modRest, .events,
    .slots, .recorder, .heat, .cycle] ⊆ L)
    (hO : onlyChanges L z0 s) : onlyChanges L z0 (runTake req s) := by
  unfold runTake
  try dsimp only
  repeat' first
    | with_reducible exact hO
    | with_reducible refine startTake_only (subParts hL) ?_
    | with_reducible refine setRun_only (subParts hL) ?_
    | split

theorem runEff_only {L : List Part} {z0 : State} {p : PendCmd} {s : State} (hL : [.records, .tuple, .refusal,
    .modRest, .rings, .events, .slots, .recorder, .heat, .cycle, .pair, .out] ⊆ L)
    (hO : onlyChanges L z0 s) : onlyChanges L z0 (runEff p s) := by
  unfold runEff
  try dsimp only
  repeat' first
    | with_reducible exact hO
    | with_reducible refine answerRefuse_only (subParts hL) ?_
    | with_reducible refine guarded_only (subParts hL) ?_ (fun _ _ _ => ?_)
    | with_reducible refine runTake_only (subParts hL) ?_
    | with_reducible refine relayNow_only (subParts hL) ?_
    | with_reducible refine answerOk_only (subParts hL) ?_
    | with_reducible assumption
    | (with_reducible refine ite_only (fun _ => ?_) fun _ => ?_)

theorem holdStep_only {L : List Part} {z0 : State} {s : State} (hL : [.tuple, .events, .slots, .cycle] ⊆ L)
    (hO : onlyChanges L z0 s) : onlyChanges L z0 (holdStep s) := by
  unfold holdStep
  try dsimp only
  repeat' first
    | with_reducible exact hO
    | with_reducible refine setRun_only (subParts hL) ?_
    | (with_reducible refine ite_only (fun _ => ?_) fun _ => ?_)
    | ((with_reducible refine update_only ?_ fun p => ?_); rotate_left;
        (cases p <;> first | exact .inl (hL (by decide)) | (refine .inr ?_; repeat' constructor));
        first
        | with_reducible exact hO
        | with_reducible refine setRun_only (subParts hL) ?_
        | (with_reducible refine ite_only (fun _ => ?_) fun _ => ?_))

theorem relayDrop_only {L : List Part} {z0 : State} {body : Pend} {s : State} (hL : [.modRest] ⊆ L)
    (hO : onlyChanges L z0 s) : onlyChanges L z0 (relayDrop body s) := by
  unfold relayDrop
  try dsimp only
  repeat' first
    | with_reducible exact hO
    | (with_reducible refine ite_only (fun _ => ?_) fun _ => ?_)
    | ((with_reducible refine update_only ?_ fun p => ?_); rotate_left;
        (cases p <;> first | exact .inl (hL (by decide)) | (refine .inr ?_; repeat' constructor));
        first
        | with_reducible exact hO
        | (with_reducible refine ite_only (fun _ => ?_) fun _ => ?_))
    | split

theorem autoStep_only {L : List Part} {z0 : State} {s : State} (hL : [.records, .tuple, .modRest, .events, .slots,
    .recorder, .firmware, .heat, .cycle, .pair, .out] ⊆ L)
    (hO : onlyChanges L z0 s) : onlyChanges L z0 (autoStep s) := by
  unfold autoStep
  try dsimp only
  repeat' first
    | with_reducible exact hO
    | with_reducible refine runTake_only (subParts hL) ?_
    | with_reducible refine relayNow_only (subParts hL) ?_
    | (with_reducible refine ite_only (fun _ => ?_) fun _ => ?_)
    | ((with_reducible refine update_only ?_ fun p => ?_); rotate_left;
        (cases p <;> first | exact .inl (hL (by decide)) | (refine .inr ?_; repeat' constructor));
        first
        | with_reducible exact hO
        | with_reducible refine runTake_only (subParts hL) ?_
        | with_reducible refine relayNow_only (subParts hL) ?_
        | (with_reducible refine ite_only (fun _ => ?_) fun _ => ?_))

theorem boundaryRun_only {L : List Part} {z0 : State} {s : State} (hL : [.records, .tuple, .refusal, .modRest,
    .rings, .events, .slots, .recorder, .firmware, .heat, .cycle, .pair, .out] ⊆ L)
    (hO : onlyChanges L z0 s) : onlyChanges L z0 (boundaryRun s) := by
  unfold boundaryRun
  try dsimp only
  repeat' first
    | with_reducible exact hO
    | with_reducible refine autoStep_only (subParts hL) ?_
    | with_reducible refine takeClass_only (subParts hL) ?_ (fun _ _ _ => ?_)
    | with_reducible refine runEff_only (subParts hL) ?_
    | with_reducible refine holdStep_only (subParts hL) ?_
    | with_reducible assumption

theorem stageTake_only {L : List Part} {z0 : State} {g : Gen} {s : State} (hL : [.tuple, .events, .slots, .change,
    .stores, .ile, .pair, .out] ⊆ L)
    (hO : onlyChanges L z0 s) : onlyChanges L z0 (stageTake g s) := by
  unfold stageTake
  try dsimp only
  repeat' first
    | with_reducible exact hO
    | with_reducible refine setChange_only (subParts hL) ?_
    | with_reducible refine sendP0_only (subParts hL) ?_
    | with_reducible refine saveGens_only (subParts hL) ?_
    | with_reducible refine holdTable_only (subParts hL) ?_
    | (with_reducible refine ite_only (fun _ => ?_) fun _ => ?_)
    | ((with_reducible refine update_only ?_ fun p => ?_); rotate_left;
        (cases p <;> first | exact .inl (hL (by decide)) | (refine .inr ?_; repeat' constructor));
        first
        | with_reducible exact hO
        | with_reducible refine setChange_only (subParts hL) ?_
        | with_reducible refine sendP0_only (subParts hL) ?_
        | with_reducible refine saveGens_only (subParts hL) ?_
        | with_reducible refine holdTable_only (subParts hL) ?_
        | (with_reducible refine ite_only (fun _ => ?_) fun _ => ?_))

theorem stageEff_only {L : List Part} {z0 : State} {g : Gen} {p : PendCmd} {s : State} (hL : [.records, .tuple,
    .refusal, .rings, .events, .slots, .recorder, .change, .stores, .ile, .pair, .out] ⊆ L)
    (hO : onlyChanges L z0 s) : onlyChanges L z0 (stageEff g p s) := by
  unfold stageEff
  try dsimp only
  repeat' first
    | with_reducible exact hO
    | with_reducible refine stageTake_only (subParts hL) ?_
    | with_reducible refine occur_only (subParts hL) ?_
    | with_reducible refine answer_only (subParts hL) ?_ (fun _ _ _ => ?_)
    | with_reducible refine refuse_only (subParts hL) ?_
    | with_reducible refine relayNow_only (subParts hL) ?_
    | with_reducible refine stageFail_only (subParts hL) ?_
    | with_reducible refine done_only (subParts hL) ?_
    | with_reducible assumption
    | (with_reducible refine ite_only (fun _ => ?_) fun _ => ?_)
    | ((with_reducible refine update_only ?_ fun p => ?_); rotate_left;
        (cases p <;> first | exact .inl (hL (by decide)) | (refine .inr ?_; repeat' constructor));
        first
        | with_reducible exact hO
        | with_reducible refine stageTake_only (subParts hL) ?_
        | with_reducible refine occur_only (subParts hL) ?_
        | with_reducible refine answer_only (subParts hL) ?_ (fun _ _ _ => ?_)
        | with_reducible refine refuse_only (subParts hL) ?_
        | with_reducible refine relayNow_only (subParts hL) ?_
        | with_reducible refine stageFail_only (subParts hL) ?_
        | with_reducible refine done_only (subParts hL) ?_
        | with_reducible assumption
        | (with_reducible refine ite_only (fun _ => ?_) fun _ => ?_))
    | split

theorem switchEff_only {L : List Part} {z0 : State} {c : ℕ} {p : PendCmd} {s : State} (hL : [.records, .refusal,
    .rings, .events, .recorder, .change, .pair, .out] ⊆ L)
    (hO : onlyChanges L z0 s) : onlyChanges L z0 (switchEff c p s) := by
  unfold switchEff
  try dsimp only
  repeat' first
    | with_reducible exact hO
    | with_reducible refine guarded_only (subParts hL) ?_ (fun _ _ _ => ?_)
    | with_reducible refine answerOk_only (subParts hL) ?_
    | with_reducible refine relayNow_only (subParts hL) ?_
    | with_reducible assumption
    | (with_reducible refine ite_only (fun _ => ?_) fun _ => ?_)
    | ((with_reducible refine update_only ?_ fun p => ?_); rotate_left;
        (cases p <;> first | exact .inl (hL (by decide)) | (refine .inr ?_; repeat' constructor));
        first
        | with_reducible exact hO
        | with_reducible refine guarded_only (subParts hL) ?_ (fun _ _ _ => ?_)
        | with_reducible refine answerOk_only (subParts hL) ?_
        | with_reducible refine relayNow_only (subParts hL) ?_
        | with_reducible assumption
        | (with_reducible refine ite_only (fun _ => ?_) fun _ => ?_))

theorem named_only {L : List Part} {z0 : State} {gen : ℕ} {want : ℕ} {eff : PendCmd → State → State} {p : PendCmd}
    {s : State} (hL : [.rings] ⊆ L)
    (hO : onlyChanges L z0 s)
    (k_eff : ∀ a0 z, onlyChanges L z0 z → onlyChanges L z0 (eff a0 z)) : onlyChanges L z0 (named gen want eff p s) := by
  unfold named
  try dsimp only
  repeat' first
    | with_reducible exact hO
    | with_reducible apply k_eff
    | with_reducible refine answerFail_only (subParts hL) ?_
    | (with_reducible refine ite_only (fun _ => ?_) fun _ => ?_)

theorem confirmTake_only {L : List Part} {z0 : State} {s : State} (hL : [.records, .tuple, .events, .slots,
    .recorder, .change, .stores] ⊆ L)
    (hO : onlyChanges L z0 s) : onlyChanges L z0 (confirmTake s) := by
  unfold confirmTake
  try dsimp only
  repeat' first
    | with_reducible exact hO
    | with_reducible refine setChange_only (subParts hL) ?_
    | with_reducible refine occur_only (subParts hL) ?_
    | with_reducible refine saveGens_only (subParts hL) ?_
    | (with_reducible refine ite_only (fun _ => ?_) fun _ => ?_)
    | ((with_reducible refine update_only ?_ fun p => ?_); rotate_left;
        (cases p <;> first | exact .inl (hL (by decide)) | (refine .inr ?_; repeat' constructor));
        first
        | with_reducible exact hO
        | with_reducible refine setChange_only (subParts hL) ?_
        | with_reducible refine occur_only (subParts hL) ?_
        | with_reducible refine saveGens_only (subParts hL) ?_
        | (with_reducible refine ite_only (fun _ => ?_) fun _ => ?_))

theorem confirmEff_only {L : List Part} {z0 : State} {gen : ℕ} {p : PendCmd} {s : State} (hL : [.records, .tuple,
    .refusal, .rings, .events, .slots, .recorder, .change, .stores, .pair, .out] ⊆ L)
    (hO : onlyChanges L z0 s) : onlyChanges L z0 (confirmEff gen p s) := by
  unfold confirmEff
  try dsimp only
  repeat' first
    | with_reducible exact hO
    | with_reducible refine guarded_only (subParts hL) ?_ (fun _ _ _ => ?_)
    | with_reducible refine named_only (subParts hL) ?_ (fun _ _ _ => ?_)
    | with_reducible refine confirmTake_only (subParts hL) ?_
    | with_reducible refine relayNow_only (subParts hL) ?_
    | with_reducible refine answerOk_only (subParts hL) ?_
    | with_reducible assumption
    | (with_reducible refine ite_only (fun _ => ?_) fun _ => ?_)

theorem revertStart_only {L : List Part} {z0 : State} {cause : ℕ} {s : State} (hL : [.change] ⊆ L)
    (hO : onlyChanges L z0 s) : onlyChanges L z0 (revertStart cause s) := by
  unfold revertStart
  try dsimp only
  repeat' first
    | with_reducible exact hO
    | ((with_reducible refine update_only ?_ fun p => ?_); rotate_left;
        (cases p <;> first | exact .inl (hL (by decide)) | (refine .inr ?_; repeat' constructor));
        first
        | with_reducible exact hO)

theorem revertEff_only {L : List Part} {z0 : State} {gen : ℕ} {p : PendCmd} {s : State} (hL : [.records, .refusal,
    .rings, .events, .recorder, .cycle, .change, .pair, .out] ⊆ L)
    (hO : onlyChanges L z0 s) : onlyChanges L z0 (revertEff gen p s) := by
  unfold revertEff
  try dsimp only
  repeat' first
    | with_reducible exact hO
    | with_reducible refine guarded_only (subParts hL) ?_ (fun _ _ _ => ?_)
    | with_reducible refine named_only (subParts hL) ?_ (fun _ _ _ => ?_)
    | with_reducible refine pushPend_only (subParts hL) ?_
    | with_reducible refine revertStart_only (subParts hL) ?_
    | with_reducible refine relayNow_only (subParts hL) ?_
    | with_reducible assumption

theorem discardTake_only {L : List Part} {z0 : State} {s : State} (hL : [.records, .tuple, .events, .slots,
    .recorder, .change, .stores, .ile] ⊆ L)
    (hO : onlyChanges L z0 s) : onlyChanges L z0 (discardTake s) := by
  unfold discardTake
  try dsimp only
  repeat' first
    | with_reducible exact hO
    | with_reducible refine saveGens_only (subParts hL) ?_
    | with_reducible refine dropStaged_only (subParts hL) ?_
    | with_reducible refine cancelSwitch_only (subParts hL) ?_

theorem discardEff_only {L : List Part} {z0 : State} {gen : ℕ} {p : PendCmd} {s : State} (hL : [.records, .tuple,
    .refusal, .rings, .events, .slots, .recorder, .change, .stores, .ile, .pair, .out] ⊆ L)
    (hO : onlyChanges L z0 s) : onlyChanges L z0 (discardEff gen p s) := by
  unfold discardEff
  try dsimp only
  repeat' first
    | with_reducible exact hO
    | with_reducible refine guarded_only (subParts hL) ?_ (fun _ _ _ => ?_)
    | with_reducible refine named_only (subParts hL) ?_ (fun _ _ _ => ?_)
    | with_reducible refine discardTake_only (subParts hL) ?_
    | with_reducible refine relayNow_only (subParts hL) ?_
    | with_reducible refine answerOk_only (subParts hL) ?_
    | with_reducible assumption
    | (with_reducible refine ite_only (fun _ => ?_) fun _ => ?_)

theorem switchStart_only {L : List Part} {z0 : State} {s : State} (hL : [.change] ⊆ L)
    (hO : onlyChanges L z0 s) : onlyChanges L z0 (switchStart s) := by
  unfold switchStart
  try dsimp only
  repeat' first
    | with_reducible exact hO
    | ((with_reducible refine update_only ?_ fun p => ?_); rotate_left;
        (cases p <;> first | exact .inl (hL (by decide)) | (refine .inr ?_; repeat' constructor));
        first
        | with_reducible exact hO)

theorem changeEff_only {L : List Part} {z0 : State} {p : PendCmd} {s : State} (hL : [.records, .tuple, .refusal,
    .rings, .events, .slots, .recorder, .cycle, .change, .stores, .ile, .pair, .out] ⊆ L)
    (hO : onlyChanges L z0 s) : onlyChanges L z0 (changeEff p s) := by
  unfold changeEff
  try dsimp only
  repeat' first
    | with_reducible exact hO
    | with_reducible refine stageEff_only (subParts hL) ?_
    | with_reducible refine switchEff_only (subParts hL) ?_
    | with_reducible refine confirmEff_only (subParts hL) ?_
    | with_reducible refine revertEff_only (subParts hL) ?_
    | with_reducible refine discardEff_only (subParts hL) ?_
    | with_reducible refine switchStart_only (subParts hL) ?_
    | with_reducible refine revertStart_only (subParts hL) ?_
    | with_reducible refine cancelSwitch_only (subParts hL) ?_
    | split

theorem switchStep_only {L : List Part} {z0 : State} {s : State} (hL : [.records, .events, .recorder, .change,
    .pair, .out] ⊆ L)
    (hO : onlyChanges L z0 s) : onlyChanges L z0 (switchStep s) := by
  unfold switchStep
  try dsimp only
  repeat' first
    | with_reducible exact hO
    | with_reducible refine cancelBoth_only (subParts hL) ?_
    | with_reducible refine switchStart_only (subParts hL) ?_
    | with_reducible refine relayNow_only (subParts hL) ?_
    | (with_reducible refine ite_only (fun _ => ?_) fun _ => ?_)
    | split

theorem windowStep_only {L : List Part} {z0 : State} {s : State} (hL : [.change, .pair, .out] ⊆ L)
    (hO : onlyChanges L z0 s) : onlyChanges L z0 (windowStep s) := by
  unfold windowStep
  try dsimp only
  repeat' first
    | with_reducible exact hO
    | with_reducible refine revertStart_only (subParts hL) ?_
    | with_reducible refine relayNow_only (subParts hL) ?_
    | (with_reducible refine ite_only (fun _ => ?_) fun _ => ?_)

theorem stageGone_only {L : List Part} {z0 : State} {s : State} (hL : [.records, .rings, .events, .recorder,
    .change] ⊆ L)
    (hO : onlyChanges L z0 s) : onlyChanges L z0 (stageGone s) := by
  unfold stageGone
  try dsimp only
  repeat' first
    | with_reducible exact hO
    | with_reducible refine stageFail_only (subParts hL) ?_
    | (with_reducible refine ite_only (fun _ => ?_) fun _ => ?_)

theorem backToGens_only {L : List Part} {z0 : State} {s : State} (hL : [.pair] ⊆ L)
    (hO : onlyChanges L z0 s) : onlyChanges L z0 (backToGens s) := by
  unfold backToGens
  try dsimp only
  repeat' first
    | with_reducible exact hO
    | (with_reducible refine ite_only (fun _ => ?_) fun _ => ?_)
    | ((with_reducible refine update_only ?_ fun p => ?_); rotate_left;
        (cases p <;> first | exact .inl (hL (by decide)) | (refine .inr ?_; repeat' constructor));
        first
        | with_reducible exact hO
        | (with_reducible refine ite_only (fun _ => ?_) fun _ => ?_))

theorem regens_only {L : List Part} {z0 : State} {before : State} {s : State} (hL : [.pair] ⊆ L)
    (hO : onlyChanges L z0 s) : onlyChanges L z0 (regens before s) := by
  unfold regens
  try dsimp only
  repeat' first
    | with_reducible exact hO
    | with_reducible refine backToGens_only (subParts hL) ?_
    | (with_reducible refine ite_only (fun _ => ?_) fun _ => ?_)

theorem boundaryChange_only {L : List Part} {z0 : State} {s : State} (hL : [.records, .tuple, .refusal, .rings,
    .events, .slots, .recorder, .cycle, .change, .stores, .ile, .pair, .out] ⊆ L)
    (hO : onlyChanges L z0 s) : onlyChanges L z0 (boundaryChange s) := by
  unfold boundaryChange
  try dsimp only
  repeat' first
    | with_reducible exact hO
    | with_reducible refine regens_only (subParts hL) ?_
    | with_reducible refine windowStep_only (subParts hL) ?_
    | with_reducible refine switchStep_only (subParts hL) ?_
    | with_reducible refine takeClass_only (subParts hL) ?_ (fun _ _ _ => ?_)
    | with_reducible refine changeEff_only (subParts hL) ?_
    | with_reducible refine stageGone_only (subParts hL) ?_
    | with_reducible assumption

theorem bstEff_only {L : List Part} {z0 : State} {compat : Bool} {p : PendCmd} {s : State} (hL : [.records, .tuple,
    .refusal, .rings, .events, .slots, .recorder] ⊆ L)
    (hO : onlyChanges L z0 s) : onlyChanges L z0 (bstEff compat p s) := by
  unfold bstEff
  try dsimp only
  repeat' first
    | with_reducible exact hO
    | with_reducible refine answerRefuse_only (subParts hL) ?_
    | with_reducible refine setBst_only (subParts hL) ?_
    | with_reducible refine answerOk_only (subParts hL) ?_
    | (with_reducible refine ite_only (fun _ => ?_) fun _ => ?_)

theorem fwAckEff_only {L : List Part} {z0 : State} {p : PendCmd} {s : State} (hL : [.records, .images, .tuple,
    .refusal, .rings, .events, .slots, .recorder] ⊆ L)
    (hO : onlyChanges L z0 s) : onlyChanges L z0 (fwAckEff p s) := by
  unfold fwAckEff
  try dsimp only
  repeat' first
    | with_reducible exact hO
    | with_reducible refine guarded_only (subParts hL) ?_ (fun _ _ _ => ?_)
    | with_reducible refine setFw_only (subParts hL) ?_
    | with_reducible refine ptrConfirm_only (subParts hL) ?_
    | with_reducible refine answerOk_only (subParts hL) ?_
    | with_reducible assumption
    | (with_reducible refine ite_only (fun _ => ?_) fun _ => ?_)

theorem ccvTake_only {L : List Part} {z0 : State} {s : State} (hL : [.records, .events, .recorder, .change, .stores,
    .tripIo] ⊆ L)
    (hO : onlyChanges L z0 s) : onlyChanges L z0 (ccvTake s) := by
  unfold ccvTake
  try dsimp only
  repeat' first
    | with_reducible exact hO
    | with_reducible refine saveGens_only (subParts hL) ?_
    | with_reducible refine tioConfirm_only (subParts hL) ?_
    | ((with_reducible refine update_only ?_ fun p => ?_); rotate_left;
        (cases p <;> first | exact .inl (hL (by decide)) | (refine .inr ?_; repeat' constructor));
        first
        | with_reducible exact hO
        | with_reducible refine saveGens_only (subParts hL) ?_
        | with_reducible refine tioConfirm_only (subParts hL) ?_)

theorem ccvEff_only {L : List Part} {z0 : State} {ccv : ℕ} {p : PendCmd} {s : State} (hL : [.records, .refusal,
    .rings, .events, .recorder, .change, .stores, .pair, .tripIo, .out] ⊆ L)
    (hO : onlyChanges L z0 s) : onlyChanges L z0 (ccvEff ccv p s) := by
  unfold ccvEff
  try dsimp only
  repeat' first
    | with_reducible exact hO
    | with_reducible refine ccvTake_only (subParts hL) ?_
    | with_reducible refine answerRefuse_only (subParts hL) ?_
    | with_reducible refine answerFail_only (subParts hL) ?_
    | with_reducible refine answerOk_only (subParts hL) ?_
    | with_reducible refine backToGens_only (subParts hL) ?_
    | with_reducible refine relayNow_only (subParts hL) ?_
    | (with_reducible refine ite_only (fun _ => ?_) fun _ => ?_)

theorem keyTake_only {L : List Part} {z0 : State} {k : KeyRec} {s : State} (hL : [.keys, .slots] ⊆ L)
    (hO : onlyChanges L z0 s) : onlyChanges L z0 (keyTake k s) := by
  unfold keyTake
  try dsimp only
  repeat' first
    | with_reducible exact hO
    | ((with_reducible refine update_only ?_ fun p => ?_); rotate_left;
        (cases p <;> first | exact .inl (hL (by decide)) | (refine .inr ?_; repeat' constructor));
        first
        | with_reducible exact hO)

theorem keyEff_only {L : List Part} {z0 : State} {k : KeyRec} {p : PendCmd} {s : State} (hL : [.records, .keys,
    .refusal, .rings, .events, .slots, .recorder, .pair, .out] ⊆ L)
    (hO : onlyChanges L z0 s) : onlyChanges L z0 (keyEff k p s) := by
  unfold keyEff
  try dsimp only
  repeat' first
    | with_reducible exact hO
    | with_reducible refine keyTake_only (subParts hL) ?_
    | with_reducible refine answerRefuse_only (subParts hL) ?_
    | with_reducible refine answerFail_only (subParts hL) ?_
    | with_reducible refine answerOk_only (subParts hL) ?_
    | with_reducible refine relayNow_only (subParts hL) ?_
    | (with_reducible refine ite_only (fun _ => ?_) fun _ => ?_)

theorem unitEff_only {L : List Part} {z0 : State} {u : UnitId} {p : PendCmd} {s : State} (hL : [.records,
    .faultStore, .refusal, .modRest, .rings, .events, .recorder, .clocks, .heat, .network, .pair, .tripIo, .out] ⊆
    L)
    (hO : onlyChanges L z0 s) : onlyChanges L z0 (unitEff u p s) := by
  unfold unitEff
  try dsimp only
  repeat' first
    | with_reducible exact hO
    | with_reducible refine answerRefuse_only (subParts hL) ?_
    | with_reducible refine relayNow_only (subParts hL) ?_
    | with_reducible refine unitReturn_only (subParts hL) ?_
    | with_reducible refine answerOk_only (subParts hL) ?_
    | (with_reducible refine ite_only (fun _ => ?_) fun _ => ?_)
    | split

theorem restEff_only {L : List Part} {z0 : State} {p : PendCmd} {s : State} (hL : [.records, .keys, .faultStore,
    .images, .tuple, .refusal, .modRest, .rings, .events, .slots, .recorder, .clocks, .heat, .change, .stores,
    .network, .pair, .tripIo, .out] ⊆ L)
    (hO : onlyChanges L z0 s) : onlyChanges L z0 (restEff p s) := by
  unfold restEff
  try dsimp only
  repeat' first
    | with_reducible exact hO
    | with_reducible refine bstEff_only (subParts hL) ?_
    | with_reducible refine fwAckEff_only (subParts hL) ?_
    | with_reducible refine ccvEff_only (subParts hL) ?_
    | with_reducible refine keyEff_only (subParts hL) ?_
    | with_reducible refine unitEff_only (subParts hL) ?_
    | split

theorem boundaryTier_only {L : List Part} {z0 : State} {s : State} (hL : [.records, .tuple, .modRest, .events,
    .slots, .recorder, .clocks, .heat, .pair, .out] ⊆ L)
    (hO : onlyChanges L z0 s) : onlyChanges L z0 (boundaryTier s) := by
  unfold boundaryTier
  try dsimp only
  repeat' first
    | with_reducible exact hO
    | with_reducible refine tierName_only (subParts hL) ?_
    | with_reducible refine tierAgreed_only (subParts hL) ?_
    | with_reducible refine tierTake_only (subParts hL) ?_
    | (with_reducible refine ite_only (fun _ => ?_) fun _ => ?_)
    | split

theorem retiredEff_only {L : List Part} {z0 : State} {job : Option StageJob} {p : PendCmd} {s : State} (hL :
    [.records, .tuple, .refusal, .rings, .events, .slots, .recorder] ⊆ L)
    (hO : onlyChanges L z0 s) : onlyChanges L z0 (retiredEff job p s) := by
  unfold retiredEff
  try dsimp only
  repeat' first
    | with_reducible exact hO
    | with_reducible refine bstEff_only (subParts hL) ?_
    | with_reducible refine occur_only (subParts hL) ?_
    | with_reducible refine answer_only (subParts hL) ?_ (fun _ _ _ => ?_)
    | with_reducible refine refuse_only (subParts hL) ?_
    | with_reducible refine answerRefuse_only (subParts hL) ?_
    | with_reducible assumption
    | split

theorem jobBack_only {L : List Part} {z0 : State} {ready : Bool} {s : State} {s1 : State} (hL : [.change] ⊆ L)
    (hO : onlyChanges L z0 s1) : onlyChanges L z0 (jobBack ready s s1) := by
  unfold jobBack
  try dsimp only
  repeat' first
    | with_reducible exact hO
    | ((with_reducible refine update_only ?_ fun p => ?_); rotate_left;
        (cases p <;> first | exact .inl (hL (by decide)) | (refine .inr ?_; repeat' constructor));
        first
        | with_reducible exact hO)

theorem retireDue_only {L : List Part} {z0 : State} {f : State → State} {s : State} (hL : [.records, .tuple,
    .refusal, .rings, .events, .slots, .recorder, .cycle, .change] ⊆ L)
    (hO : onlyChanges L z0 s)
    (k_f : ∀ z : State, onlyChanges L z0 z → onlyChanges L z0 (f z)) : onlyChanges L z0 (retireDue f s) := by
  unfold retireDue
  try dsimp only
  repeat' first
    | with_reducible exact hO
    | with_reducible apply k_f
    | with_reducible refine retiredEff_only (subParts hL) ?_
    | with_reducible refine jobBack_only (subParts hL) ?_
    | with_reducible refine foldl_only ?_ (fun _ _ _ => ?_)
    | with_reducible assumption
    | (with_reducible refine ite_only (fun _ => ?_) fun _ => ?_)
    | ((with_reducible refine update_only ?_ fun p => ?_); rotate_left;
        (cases p <;> first | exact .inl (hL (by decide)) | (refine .inr ?_; repeat' constructor));
        first
        | with_reducible exact hO
        | with_reducible apply k_f
        | with_reducible refine retiredEff_only (subParts hL) ?_
        | with_reducible refine jobBack_only (subParts hL) ?_
        | with_reducible refine foldl_only ?_ (fun _ _ _ => ?_)
        | with_reducible assumption
        | (with_reducible refine ite_only (fun _ => ?_) fun _ => ?_))

theorem ejectStep_only {L : List Part} {z0 : State} {s : State} (hL : [.records, .modRetired, .tuple, .refusal,
    .modRest, .rings, .events, .slots, .recorder, .faults, .firmware, .gates, .clocks, .heat, .contacts, .cycle,
    .change, .stores, .network, .ile, .pair, .tripIo, .can, .analog, .out] ⊆ L)
    (hO : onlyChanges L z0 s) : onlyChanges L z0 (ejectStep s) := by
  unfold ejectStep
  try dsimp only
  repeat' first
    | with_reducible exact hO
    | with_reducible refine cancelBoth_only (subParts hL) ?_
    | with_reducible refine retireDue_only (subParts hL) ?_ (fun _ _ => ?_)
    | with_reducible refine retireModule_only (subParts hL) ?_
    | with_reducible assumption
    | (with_reducible refine ite_only (fun _ => ?_) fun _ => ?_)
    | ((with_reducible refine update_only ?_ fun p => ?_); rotate_left;
        (cases p <;> first | exact .inl (hL (by decide)) | (refine .inr ?_; repeat' constructor));
        first
        | with_reducible exact hO
        | with_reducible refine cancelBoth_only (subParts hL) ?_
        | with_reducible refine retireDue_only (subParts hL) ?_ (fun _ _ => ?_)
        | with_reducible refine retireModule_only (subParts hL) ?_
        | with_reducible assumption
        | (with_reducible refine ite_only (fun _ => ?_) fun _ => ?_))

theorem takeStandby_only {L : List Part} {z0 : State} {s : State} (hL : [.records, .tuple, .events, .slots,
    .recorder, .pair] ⊆ L)
    (hO : onlyChanges L z0 s) : onlyChanges L z0 (takeStandby s) := by
  unfold takeStandby
  try dsimp only
  repeat' first
    | with_reducible exact hO
    | with_reducible refine setTuple_only (subParts hL) ?_
    | with_reducible refine occur_only (subParts hL) ?_
    | (with_reducible refine ite_only (fun _ => ?_) fun _ => ?_)
    | ((with_reducible refine update_only ?_ fun p => ?_); rotate_left;
        (cases p <;> first | exact .inl (hL (by decide)) | (refine .inr ?_; repeat' constructor));
        first
        | with_reducible exact hO
        | with_reducible refine setTuple_only (subParts hL) ?_
        | with_reducible refine occur_only (subParts hL) ?_
        | (with_reducible refine ite_only (fun _ => ?_) fun _ => ?_))

theorem shadowStep_only {L : List Part} {z0 : State} {s : State} (hL : [.records, .modRetired, .tuple, .refusal,
    .modRest, .rings, .events, .slots, .recorder, .faults, .selfTest, .firmware, .gates, .clocks, .heat, .cycle,
    .change, .stores, .network, .ile, .pair, .tripIo, .can, .analog, .out, .free] ⊆ L)
    (hO : onlyChanges L z0 s) : onlyChanges L z0 (shadowStep s) := by
  unfold shadowStep
  try dsimp only
  repeat' first
    | with_reducible exact hO
    | with_reducible refine retireDue_only (subParts hL) ?_ (fun _ _ => ?_)
    | with_reducible refine resyncFail_only (subParts hL) ?_
    | with_reducible refine takeStandby_only (subParts hL) ?_
    | with_reducible assumption
    | (with_reducible refine ite_only (fun _ => ?_) fun _ => ?_)

theorem beSource_only {L : List Part} {z0 : State} {s : State} (hL : [.pair] ⊆ L)
    (hO : onlyChanges L z0 s) : onlyChanges L z0 (beSource s) := by
  unfold beSource
  try dsimp only
  repeat' first
    | with_reducible exact hO
    | ((with_reducible refine update_only ?_ fun p => ?_); rotate_left;
        (cases p <;> first | exact .inl (hL (by decide)) | (refine .inr ?_; repeat' constructor));
        first
        | with_reducible exact hO)

theorem activeStep_only {L : List Part} {z0 : State} {s : State} (hL : [.tuple, .events, .slots, .pair] ⊆ L)
    (hO : onlyChanges L z0 s) : onlyChanges L z0 (activeStep s) := by
  unfold activeStep
  try dsimp only
  repeat' first
    | with_reducible exact hO
    | with_reducible refine setRole_only (subParts hL) ?_
    | with_reducible refine setBst_only (subParts hL) ?_
    | with_reducible refine beSource_only (subParts hL) ?_
    | (with_reducible refine ite_only (fun _ => ?_) fun _ => ?_)
    | ((with_reducible refine update_only ?_ fun p => ?_); rotate_left;
        (cases p <;> first | exact .inl (hL (by decide)) | (refine .inr ?_; repeat' constructor));
        first
        | with_reducible exact hO
        | with_reducible refine setRole_only (subParts hL) ?_
        | with_reducible refine setBst_only (subParts hL) ?_
        | with_reducible refine beSource_only (subParts hL) ?_
        | (with_reducible refine ite_only (fun _ => ?_) fun _ => ?_))
    | split

theorem soloStep_only {L : List Part} {z0 : State} {s : State} (hL : [.records, .tuple, .modRest, .rings, .events,
    .slots, .recorder, .heat, .change, .pair, .tripIo, .can, .analog, .out] ⊆ L)
    (hO : onlyChanges L z0 s) : onlyChanges L z0 (soloStep s) := by
  unfold soloStep
  try dsimp only
  repeat' first
    | with_reducible exact hO
    | with_reducible refine takeSolo_only (subParts hL) ?_
    | with_reducible refine soloFromActive_only (subParts hL) ?_
    | (with_reducible refine ite_only (fun _ => ?_) fun _ => ?_)
    | ((with_reducible refine update_only ?_ fun p => ?_); rotate_left;
        (cases p <;> first | exact .inl (hL (by decide)) | (refine .inr ?_; repeat' constructor));
        first
        | with_reducible exact hO
        | with_reducible refine takeSolo_only (subParts hL) ?_
        | with_reducible refine soloFromActive_only (subParts hL) ?_
        | (with_reducible refine ite_only (fun _ => ?_) fun _ => ?_))
    | split

theorem handoverEff_only {L : List Part} {z0 : State} {p : PendCmd} {s : State} (hL : [.records, .tuple, .refusal,
    .modRest, .rings, .events, .slots, .recorder, .pair, .tripIo, .can, .analog, .out] ⊆ L)
    (hO : onlyChanges L z0 s) : onlyChanges L z0 (handoverEff p s) := by
  unfold handoverEff
  try dsimp only
  repeat' first
    | with_reducible exact hO
    | with_reducible refine takeActive_only (subParts hL) ?_
    | with_reducible refine answerRefuse_only (subParts hL) ?_
    | (with_reducible refine ite_only (fun _ => ?_) fun _ => ?_)
    | ((with_reducible refine update_only ?_ fun p => ?_); rotate_left;
        (cases p <;> first | exact .inl (hL (by decide)) | (refine .inr ?_; repeat' constructor));
        first
        | with_reducible exact hO
        | with_reducible refine takeActive_only (subParts hL) ?_
        | with_reducible refine answerRefuse_only (subParts hL) ?_
        | (with_reducible refine ite_only (fun _ => ?_) fun _ => ?_))
    | split

theorem relaysDrop_only {L : List Part} {z0 : State} {s : State} (hL : [.modRest, .cycle] ⊆ L)
    (hO : onlyChanges L z0 s) : onlyChanges L z0 (relaysDrop s) := by
  unfold relaysDrop
  try dsimp only
  repeat' first
    | with_reducible exact hO
    | with_reducible refine relayDrop_only (subParts hL) ?_
    | with_reducible refine foldl_only ?_ (fun _ _ _ => ?_)
    | with_reducible assumption
    | (with_reducible refine ite_only (fun _ => ?_) fun _ => ?_)
    | ((with_reducible refine update_only ?_ fun p => ?_); rotate_left;
        (cases p <;> first | exact .inl (hL (by decide)) | (refine .inr ?_; repeat' constructor));
        first
        | with_reducible exact hO
        | with_reducible refine relayDrop_only (subParts hL) ?_
        | with_reducible refine foldl_only ?_ (fun _ _ _ => ?_)
        | with_reducible assumption
        | (with_reducible refine ite_only (fun _ => ?_) fun _ => ?_))

theorem boundaryRole_only {L : List Part} {z0 : State} {s : State} (hL : [.records, .modRetired, .tuple, .refusal,
    .modRest, .rings, .events, .slots, .recorder, .faults, .selfTest, .firmware, .gates, .clocks, .heat, .cycle,
    .change, .stores, .network, .ile, .pair, .tripIo, .can, .analog, .out, .free] ⊆ L)
    (hO : onlyChanges L z0 s) : onlyChanges L z0 (boundaryRole s) := by
  unfold boundaryRole
  try dsimp only
  repeat' first
    | with_reducible exact hO
    | with_reducible refine handoverRefused_only (subParts hL) ?_
    | with_reducible refine takeClass_only (subParts hL) ?_ (fun _ _ _ => ?_)
    | with_reducible refine handoverEff_only (subParts hL) ?_
    | with_reducible refine activeStep_only (subParts hL) ?_
    | with_reducible refine relaysDrop_only (subParts hL) ?_
    | with_reducible refine shadowStep_only (subParts hL) ?_
    | with_reducible refine soloStep_only (subParts hL) ?_
    | with_reducible assumption
    | (with_reducible refine ite_only (fun _ => ?_) fun _ => ?_)
    | ((with_reducible refine update_only ?_ fun p => ?_); rotate_left;
        (cases p <;> first | exact .inl (hL (by decide)) | (refine .inr ?_; repeat' constructor));
        first
        | with_reducible exact hO
        | with_reducible refine handoverRefused_only (subParts hL) ?_
        | with_reducible refine takeClass_only (subParts hL) ?_ (fun _ _ _ => ?_)
        | with_reducible refine handoverEff_only (subParts hL) ?_
        | with_reducible refine activeStep_only (subParts hL) ?_
        | with_reducible refine relaysDrop_only (subParts hL) ?_
        | with_reducible refine shadowStep_only (subParts hL) ?_
        | with_reducible refine soloStep_only (subParts hL) ?_
        | with_reducible assumption
        | (with_reducible refine ite_only (fun _ => ?_) fun _ => ?_))

theorem boundaryLate_only {L : List Part} {z0 : State} {old : List Point} {s : State} (hL : [.time, .records, .keys,
    .faultStore, .images, .tuple, .refusal, .modRest, .rings, .events, .vectors, .slots, .hxpRest, .recorder,
    .faults, .selfTest, .firmware, .gates, .clocks, .heat, .contacts, .cycle, .change, .stores, .times, .network,
    .ile, .pair, .tripIo, .can, .analog, .memory, .out] ⊆ L)
    (hO : onlyChanges L z0 s) : onlyChanges L z0 (boundaryLate old s) := by
  unfold boundaryLate
  try dsimp only
  repeat' first
    | with_reducible exact hO
    | with_reducible refine takeClass_only (subParts hL) ?_ (fun _ _ _ => ?_)
    | with_reducible refine restEff_only (subParts hL) ?_
    | with_reducible refine boundaryForce_only (subParts hL) ?_
    | with_reducible refine trialBoundary_only (subParts hL) ?_
    | with_reducible refine takeRecord_only (subParts hL) ?_
    | with_reducible refine unlockCheck_only (subParts hL) ?_
    | with_reducible refine cloverBoundary_only (subParts hL) ?_
    | with_reducible refine boundaryTier_only (subParts hL) ?_
    | with_reducible assumption
    | (with_reducible refine ite_only (fun _ => ?_) fun _ => ?_)

theorem boundaryTail_only {L : List Part} {z0 : State} {s : State} (hL : [.time, .records, .keys, .faultStore,
    .images, .tuple, .refusal, .modRest, .rings, .events, .vectors, .slots, .hxpRest, .recorder, .faults, .selfTest,
    .firmware, .gates, .clocks, .heat, .contacts, .cycle, .change, .stores, .times, .network, .ile, .pair, .tripIo,
    .can, .analog, .memory, .out] ⊆ L)
    (hO : onlyChanges L z0 s) : onlyChanges L z0 (boundaryTail s) := by
  unfold boundaryTail
  try dsimp only
  repeat' first
    | with_reducible exact hO
    | with_reducible refine boundaryChange_only (subParts hL) ?_
    | with_reducible refine boundaryRun_only (subParts hL) ?_
    | with_reducible refine boundaryLate_only (subParts hL) ?_
    | (with_reducible refine ite_only (fun _ => ?_) fun _ => ?_)

theorem programBoundary_only {L : List Part} {z0 : State} {s : State} (hL : [.time, .records, .keys, .faultStore,
    .images, .modRetired, .tuple, .refusal, .modRest, .rings, .events, .vectors, .slots, .hxpRest, .recorder,
    .faults, .selfTest, .firmware, .gates, .clocks, .heat, .contacts, .cycle, .change, .stores, .times, .network,
    .ile, .pair, .tripIo, .can, .analog, .memory, .out, .free] ⊆ L)
    (hO : onlyChanges L z0 s) : onlyChanges L z0 (programBoundary s) := by
  unfold programBoundary
  try dsimp only
  repeat' first
    | with_reducible exact hO
    | with_reducible refine ejectStep_only (subParts hL) ?_
    | with_reducible refine boundaryRole_only (subParts hL) ?_
    | with_reducible refine boundaryTail_only (subParts hL) ?_
    | (with_reducible refine ite_only (fun _ => ?_) fun _ => ?_)
    | ((with_reducible refine update_only ?_ fun p => ?_); rotate_left;
        (cases p <;> first | exact .inl (hL (by decide)) | (refine .inr ?_; repeat' constructor));
        first
        | with_reducible exact hO
        | with_reducible refine ejectStep_only (subParts hL) ?_
        | with_reducible refine boundaryRole_only (subParts hL) ?_
        | with_reducible refine boundaryTail_only (subParts hL) ?_
        | (with_reducible refine ite_only (fun _ => ?_) fun _ => ?_))

theorem retirePlv_only {L : List Part} {z0 : State} {p : ℕ} {code : ℕ} {s : State} (hL : [.records, .faultStore,
    .events, .recorder, .pair] ⊆ L)
    (hO : onlyChanges L z0 s) : onlyChanges L z0 (retirePlv p code s) := by
  unfold retirePlv
  try dsimp only
  repeat' first
    | with_reducible exact hO
    | with_reducible refine retireRecord_only (subParts hL) ?_
    | with_reducible refine updPort_only (subParts hL) ?_

theorem retLower_only {L : List Part} {z0 : State} {s : State} (hL : [.records, .faultStore, .modRetired, .tuple,
    .modRest, .rings, .events, .slots, .recorder, .faults, .firmware, .gates, .clocks, .heat, .cycle, .change,
    .stores, .network, .ile, .pair, .tripIo, .can, .analog, .out] ⊆ L)
    (hO : onlyChanges L z0 s) : onlyChanges L z0 (retLower s) := by
  unfold retLower
  try dsimp only
  repeat' first
    | with_reducible exact hO
    | with_reducible refine retireCell_only (subParts hL) ?_
    | with_reducible refine retireLane_only (subParts hL) ?_
    | with_reducible refine retirePlv_only (subParts hL) ?_
    | with_reducible refine retireAl_only (subParts hL) ?_
    | with_reducible refine retireCan_only (subParts hL) ?_
    | with_reducible refine foldl_only ?_ (fun _ _ _ => ?_)
    | with_reducible assumption
    | (with_reducible refine ite_only (fun _ => ?_) fun _ => ?_)

theorem revertAnswer_only {L : List Part} {z0 : State} {s : State} (hL : [.rings, .cycle] ⊆ L)
    (hO : onlyChanges L z0 s) : onlyChanges L z0 (revertAnswer s) := by
  unfold revertAnswer
  try dsimp only
  repeat' first
    | with_reducible exact hO
    | with_reducible refine answerOk_only (subParts hL) ?_
    | with_reducible refine foldl_only ?_ (fun _ _ _ => ?_)
    | with_reducible assumption
    | ((with_reducible refine update_only ?_ fun p => ?_); rotate_left;
        (cases p <;> first | exact .inl (hL (by decide)) | (refine .inr ?_; repeat' constructor));
        first
        | with_reducible exact hO
        | with_reducible refine answerOk_only (subParts hL) ?_
        | with_reducible refine foldl_only ?_ (fun _ _ _ => ?_)
        | with_reducible assumption)

theorem migrationEnd_only {L : List Part} {z0 : State} {start : ℕ} {revert : Bool} {cause : ℕ} {s : State} (hL :
    [.time, .records, .keys, .faultStore, .images, .modRetired, .tuple, .refusal, .modRest, .rings, .events,
    .vectors, .slots, .hxpRest, .recorder, .faults, .selfTest, .firmware, .gates, .clocks, .heat, .contacts, .cycle,
    .change, .stores, .times, .network, .ile, .pair, .tripIo, .can, .analog, .memory, .out] ⊆ L)
    (hO : onlyChanges L z0 s) : onlyChanges L z0 (migrationEnd start revert cause s) := by
  unfold migrationEnd
  try dsimp only
  repeat' first
    | with_reducible exact hO
    | with_reducible refine revertTake_only (subParts hL) ?_
    | with_reducible refine switchTake_only (subParts hL) ?_
    | with_reducible refine retireDue_only (subParts hL) ?_ (fun _ _ => ?_)
    | with_reducible refine retireModule_only (subParts hL) ?_
    | with_reducible refine retLower_only (subParts hL) ?_
    | with_reducible refine revertAnswer_only (subParts hL) ?_
    | with_reducible refine boundaryLate_only (subParts hL) ?_
    | with_reducible refine regens_only (subParts hL) ?_
    | with_reducible assumption
    | (with_reducible refine ite_only (fun _ => ?_) fun _ => ?_)
    | ((with_reducible refine update_only ?_ fun p => ?_); rotate_left;
        (cases p <;> first | exact .inl (hL (by decide)) | (refine .inr ?_; repeat' constructor));
        first
        | with_reducible exact hO
        | with_reducible refine revertTake_only (subParts hL) ?_
        | with_reducible refine switchTake_only (subParts hL) ?_
        | with_reducible refine retireDue_only (subParts hL) ?_ (fun _ _ => ?_)
        | with_reducible refine retireModule_only (subParts hL) ?_
        | with_reducible refine retLower_only (subParts hL) ?_
        | with_reducible refine revertAnswer_only (subParts hL) ?_
        | with_reducible refine boundaryLate_only (subParts hL) ?_
        | with_reducible refine regens_only (subParts hL) ?_
        | with_reducible assumption
        | (with_reducible refine ite_only (fun _ => ?_) fun _ => ?_))

theorem releaseAll_only {L : List Part} {z0 : State} {s : State} (hL : [.time, .records, .keys, .faultStore,
    .images, .tuple, .refusal, .modRest, .rings, .events, .vectors, .slots, .hxpRest, .recorder, .faults, .selfTest,
    .firmware, .gates, .clocks, .heat, .contacts, .cycle, .change, .stores, .times, .network, .ile, .pair, .tripIo,
    .can, .analog, .memory, .out] ⊆ L)
    (hO : onlyChanges L z0 s) : onlyChanges L z0 (releaseAll s) := by
  unfold releaseAll
  try dsimp only
  repeat' first
    | with_reducible exact hO
    | with_reducible refine releaseNow_only (subParts hL) ?_
    | with_reducible refine answerRefuse_only (subParts hL) ?_
    | with_reducible refine leaveReset_only (subParts hL) ?_
    | with_reducible refine boundaryLate_only (subParts hL) ?_
    | with_reducible refine foldl_only ?_ (fun _ _ _ => ?_)
    | with_reducible assumption
    | (with_reducible refine ite_only (fun _ => ?_) fun _ => ?_)
    | ((with_reducible refine update_only ?_ fun p => ?_); rotate_left;
        (cases p <;> first | exact .inl (hL (by decide)) | (refine .inr ?_; repeat' constructor));
        first
        | with_reducible exact hO
        | with_reducible refine releaseNow_only (subParts hL) ?_
        | with_reducible refine answerRefuse_only (subParts hL) ?_
        | with_reducible refine leaveReset_only (subParts hL) ?_
        | with_reducible refine boundaryLate_only (subParts hL) ?_
        | with_reducible refine foldl_only ?_ (fun _ _ _ => ?_)
        | with_reducible assumption
        | (with_reducible refine ite_only (fun _ => ?_) fun _ => ?_))

end Sys2Proof.Machine
end

