-- ==== Sys2Proof/Laws/FrameCycleCommands.lean ====
section
/-! SUPPORT. What each command of the program cycle may change. -/

namespace Sys2Proof.Machine

set_option Elab.async false
set_option linter.unusedTactic false
set_option linter.unreachableTactic false

theorem execTCommit_only {L : List Part} {z : State} {t : ℕ} {s0 : State} (hL : [.time, .records, .tuple, .refusal,
    .modRest, .rings, .events, .slots, .recorder, .faults, .selfTest, .clocks, .heat, .cycle, .change, .stores,
    .network, .pair, .tripIo, .can, .analog, .out] ⊆ L)
    (h : execTCommit t s0 = .next z) : onlyChanges L s0 z := by
  have hO : onlyChanges L s0 s0 := onlyChanges_refl
  unfold execTCommit at h
  injection h with h
  subst h
  try dsimp only
  repeat' first
    | with_reducible exact hO
    | with_reducible refine atT_only (subParts hL) ?_
    | with_reducible refine beginCycle_only (subParts hL) ?_
    | (with_reducible refine ite_only (fun _ => ?_) fun _ => ?_)

theorem execMinCycleElapsed_only {L : List Part} {z : State} {t : ℕ} {s0 : State} (hL : [.time, .cycle] ⊆ L)
    (h : execMinCycleElapsed t s0 = .next z) : onlyChanges L s0 z := by
  have hO : onlyChanges L s0 s0 := onlyChanges_refl
  unfold execMinCycleElapsed at h
  injection h with h
  subst h
  try dsimp only
  repeat' first
    | with_reducible exact hO
    | with_reducible refine atT_only (subParts hL) ?_
    | (with_reducible refine ite_only (fun _ => ?_) fun _ => ?_)
    | ((with_reducible refine update_only ?_ fun p => ?_); rotate_left;
        (cases p <;> first | exact .inl (hL (by decide)) | (refine .inr ?_; repeat' constructor));
        first
        | with_reducible exact hO
        | with_reducible refine atT_only (subParts hL) ?_
        | (with_reducible refine ite_only (fun _ => ?_) fun _ => ?_))

theorem execOxugerCycleStart_only {L : List Part} {z : State} {t : ℕ} {n : ℕ} {devs : List LaneDev} {s0 : State} (hL
    : [.time, .records, .faultStore, .tuple, .refusal, .modRest, .rings, .events, .slots, .recorder, .faults,
    .selfTest, .firmware, .clocks, .heat, .cycle, .change, .stores, .times, .network, .ile, .pair, .tripIo, .can,
    .analog, .out] ⊆ L)
    (h : execOxugerCycleStart t n devs s0 = .next z) : onlyChanges L s0 z := by
  have hO : onlyChanges L s0 s0 := onlyChanges_refl
  unfold execOxugerCycleStart at h
  injection h with h
  subst h
  try dsimp only
  repeat' first
    | with_reducible exact hO
    | with_reducible refine atT_only (subParts hL) ?_
    | with_reducible refine idleCycle_only (subParts hL) ?_
    | with_reducible refine ileStart_only (subParts hL) ?_
    | with_reducible refine oxnStart_only (subParts hL) ?_
    | (with_reducible refine ite_only (fun _ => ?_) fun _ => ?_)

theorem execAgreeTimeout_only {L : List Part} {z : State} {t : ℕ} {s0 : State} (hL : [.time, .records, .modRest,
    .rings, .events, .recorder, .faults, .selfTest, .clocks, .heat, .cycle, .stores, .pair, .tripIo, .can, .analog,
    .out] ⊆ L)
    (h : execAgreeTimeout t s0 = .next z) : onlyChanges L s0 z := by
  have hO : onlyChanges L s0 s0 := onlyChanges_refl
  unfold execAgreeTimeout at h
  injection h with h
  subst h
  try dsimp only
  repeat' first
    | with_reducible exact hO
    | with_reducible refine atT_only (subParts hL) ?_
    | with_reducible refine afterAgree_only (subParts hL) ?_
    | (with_reducible refine ite_only (fun _ => ?_) fun _ => ?_)

theorem execExecuteDone_only {L : List Part} {z : State} {t : ℕ} {m : ExecMeas} {s0 : State} (hL : [.time, .records,
    .modRest, .rings, .events, .recorder, .faults, .selfTest, .clocks, .heat, .cycle, .stores, .pair, .tripIo, .can,
    .analog, .out] ⊆ L)
    (h : execExecuteDone t m s0 = .next z) : onlyChanges L s0 z := by
  have hO : onlyChanges L s0 s0 := onlyChanges_refl
  unfold execExecuteDone at h
  injection h with h
  subst h
  try dsimp only
  repeat' first
    | with_reducible exact hO
    | with_reducible refine atT_only (subParts hL) ?_
    | with_reducible refine toSig_only (subParts hL) ?_
    | with_reducible refine hlCycle_only (subParts hL) ?_
    | with_reducible refine publishResult_only (subParts hL) ?_
    | (with_reducible refine ite_only (fun _ => ?_) fun _ => ?_)

theorem execLockstepMismatch_only {L : List Part} {z : State} {t : ℕ} {m : CellMiss} {s0 : State} (hL : [.time,
    .records, .faultStore, .modRetired, .tuple, .modRest, .rings, .events, .slots, .recorder, .faults, .firmware,
    .gates, .clocks, .heat, .cycle, .change, .stores, .network, .ile, .pair, .tripIo, .can, .analog, .out] ⊆ L)
    (h : execLockstepMismatch t m s0 = .next z) : onlyChanges L s0 z := by
  have hO : onlyChanges L s0 s0 := onlyChanges_refl
  unfold execLockstepMismatch at h
  injection h with h
  subst h
  try dsimp only
  repeat' first
    | with_reducible exact hO
    | with_reducible refine atT_only (subParts hL) ?_
    | with_reducible refine rollback_only (subParts hL) ?_
    | with_reducible refine bucketAdd_only (subParts hL) ?_
    | with_reducible refine retireCell_only (subParts hL) ?_
    | (with_reducible refine ite_only (fun _ => ?_) fun _ => ?_)
    | ((with_reducible refine update_only ?_ fun p => ?_); rotate_left;
        (cases p <;> first | exact .inl (hL (by decide)) | (refine .inr ?_; repeat' constructor));
        first
        | with_reducible exact hO
        | with_reducible refine atT_only (subParts hL) ?_
        | with_reducible refine rollback_only (subParts hL) ?_
        | with_reducible refine bucketAdd_only (subParts hL) ?_
        | with_reducible refine retireCell_only (subParts hL) ?_
        | (with_reducible refine ite_only (fun _ => ?_) fun _ => ?_))

theorem execScanWdt_only {L : List Part} {z : State} {t : ℕ} {s0 : State} (hL : [.time, .records, .events,
    .recorder, .faults, .cycle, .stores, .pair, .out] ⊆ L)
    (h : execScanWdt t s0 = .next z) : onlyChanges L s0 z := by
  have hO : onlyChanges L s0 s0 := onlyChanges_refl
  unfold execScanWdt at h
  injection h with h
  subst h
  try dsimp only
  repeat' first
    | with_reducible exact hO
    | with_reducible refine atT_only (subParts hL) ?_
    | with_reducible refine noteFault_only (subParts hL) ?_
    | with_reducible refine occur_only (subParts hL) ?_
    | with_reducible refine wdtHold_only (subParts hL) ?_
    | (with_reducible refine ite_only (fun _ => ?_) fun _ => ?_)
    | ((with_reducible refine update_only ?_ fun p => ?_); rotate_left;
        (cases p <;> first | exact .inl (hL (by decide)) | (refine .inr ?_; repeat' constructor));
        first
        | with_reducible exact hO
        | with_reducible refine atT_only (subParts hL) ?_
        | with_reducible refine noteFault_only (subParts hL) ?_
        | with_reducible refine occur_only (subParts hL) ?_
        | with_reducible refine wdtHold_only (subParts hL) ?_
        | (with_reducible refine ite_only (fun _ => ?_) fun _ => ?_))

theorem execSignatureWaitBound_only {L : List Part} {z : State} {t : ℕ} {s0 : State} (hL : [.time, .records,
    .modRest, .events, .recorder, .faults, .selfTest, .clocks, .heat, .cycle, .stores, .pair, .out] ⊆ L)
    (h : execSignatureWaitBound t s0 = .next z) : onlyChanges L s0 z := by
  have hO : onlyChanges L s0 s0 := onlyChanges_refl
  unfold execSignatureWaitBound at h
  injection h with h
  subst h
  try dsimp only
  repeat' first
    | with_reducible exact hO
    | with_reducible refine atT_only (subParts hL) ?_
    | with_reducible refine toHouse_only (subParts hL) ?_
    | with_reducible refine arbDetect_only (subParts hL) ?_
    | (with_reducible refine ite_only (fun _ => ?_) fun _ => ?_)
    | ((with_reducible refine update_only ?_ fun p => ?_); rotate_left;
        (cases p <;> first | exact .inl (hL (by decide)) | (refine .inr ?_; repeat' constructor));
        first
        | with_reducible exact hO
        | with_reducible refine atT_only (subParts hL) ?_
        | with_reducible refine toHouse_only (subParts hL) ?_
        | with_reducible refine arbDetect_only (subParts hL) ?_
        | (with_reducible refine ite_only (fun _ => ?_) fun _ => ?_))

theorem execOxnIdlePhase_only {L : List Part} {z : State} {t : ℕ} {lostA : Bool} {lostB : Bool} {s0 : State} (hL :
    [.time, .records, .faultStore, .modRetired, .tuple, .refusal, .modRest, .rings, .events, .slots, .recorder,
    .faults, .selfTest, .firmware, .gates, .clocks, .heat, .cycle, .change, .stores, .times, .network, .ile, .pair,
    .tripIo, .can, .analog, .out] ⊆ L)
    (h : execOxnIdlePhase t lostA lostB s0 = .next z) : onlyChanges L s0 z := by
  have hO : onlyChanges L s0 s0 := onlyChanges_refl
  unfold execOxnIdlePhase at h
  injection h with h
  subst h
  try dsimp only
  repeat' first
    | with_reducible exact hO
    | with_reducible refine atT_only (subParts hL) ?_
    | with_reducible refine oxnIdle_only (subParts hL) ?_
    | with_reducible refine pairIdle_only (subParts hL) ?_
    | (with_reducible refine ite_only (fun _ => ?_) fun _ => ?_)

theorem execPairNoQuorum_only {L : List Part} {z : State} {t : ℕ} {s0 : State} (hL : [.time, .records, .modRetired,
    .tuple, .modRest, .rings, .events, .slots, .recorder, .faults, .firmware, .gates, .clocks, .heat, .cycle,
    .change, .stores, .network, .ile, .pair, .tripIo, .can, .analog, .out] ⊆ L)
    (h : execPairNoQuorum t s0 = .next z) : onlyChanges L s0 z := by
  have hO : onlyChanges L s0 s0 := onlyChanges_refl
  unfold execPairNoQuorum at h
  injection h with h
  subst h
  try dsimp only
  repeat' first
    | with_reducible exact hO
    | with_reducible refine atT_only (subParts hL) ?_
    | with_reducible refine occurU_only (subParts hL) ?_
    | with_reducible refine retireModule_only (subParts hL) ?_
    | (with_reducible refine ite_only (fun _ => ?_) fun _ => ?_)
    | ((with_reducible refine update_only ?_ fun p => ?_); rotate_left;
        (cases p <;> first | exact .inl (hL (by decide)) | (refine .inr ?_; repeat' constructor));
        first
        | with_reducible exact hO
        | with_reducible refine atT_only (subParts hL) ?_
        | with_reducible refine occurU_only (subParts hL) ?_
        | with_reducible refine retireModule_only (subParts hL) ?_
        | (with_reducible refine ite_only (fun _ => ?_) fun _ => ?_))

theorem execPlvReadmitSecond_only {L : List Part} {z : State} {t : ℕ} {port : ℕ} {s0 : State} (hL : [.time,
    .records, .faultStore, .refusal, .modRest, .rings, .events, .recorder, .selfTest, .clocks, .heat, .cycle,
    .stores, .network, .ile, .pair, .tripIo, .out] ⊆ L)
    (h : execPlvReadmitSecond t port s0 = .next z) : onlyChanges L s0 z := by
  have hO : onlyChanges L s0 s0 := onlyChanges_refl
  unfold execPlvReadmitSecond at h
  injection h with h
  subst h
  try dsimp only
  repeat' first
    | with_reducible exact hO
    | with_reducible refine atT_only (subParts hL) ?_
    | with_reducible refine readmitRecord_only (subParts hL) ?_
    | with_reducible refine updPort_only (subParts hL) ?_
    | with_reducible refine bistDone_only (subParts hL) ?_
    | (with_reducible refine ite_only (fun _ => ?_) fun _ => ?_)
    | split

theorem execImageHashDone_only {L : List Part} {z : State} {t : ℕ} {digest : ℕ} {s0 : State} (hL : [.time, .images,
    .firmware, .heat] ⊆ L)
    (h : execImageHashDone t digest s0 = .next z) : onlyChanges L s0 z := by
  have hO : onlyChanges L s0 s0 := onlyChanges_refl
  unfold execImageHashDone at h
  injection h with h
  subst h
  try dsimp only
  repeat' first
    | with_reducible exact hO
    | with_reducible refine atT_only (subParts hL) ?_
    | with_reducible refine updSlot_only (subParts hL) ?_
    | with_reducible refine bgUnwant_only (subParts hL) ?_
    | (with_reducible refine ite_only (fun _ => ?_) fun _ => ?_)
    | ((with_reducible refine update_only ?_ fun p => ?_); rotate_left;
        (cases p <;> first | exact .inl (hL (by decide)) | (refine .inr ?_; repeat' constructor));
        first
        | with_reducible exact hO
        | with_reducible refine atT_only (subParts hL) ?_
        | with_reducible refine updSlot_only (subParts hL) ?_
        | with_reducible refine bgUnwant_only (subParts hL) ?_
        | (with_reducible refine ite_only (fun _ => ?_) fun _ => ?_))

theorem execFwTrialWindowEnd_only {L : List Part} {z : State} {t : ℕ} {s0 : State} (hL : [.time, .images, .firmware]
    ⊆ L)
    (h : execFwTrialWindowEnd t s0 = .next z) : onlyChanges L s0 z := by
  have hO : onlyChanges L s0 s0 := onlyChanges_refl
  unfold execFwTrialWindowEnd at h
  injection h with h
  subst h
  try dsimp only
  repeat' first
    | with_reducible exact hO
    | with_reducible refine atT_only (subParts hL) ?_
    | with_reducible refine ptrFall_only (subParts hL) ?_
    | (with_reducible refine ite_only (fun _ => ?_) fun _ => ?_)
    | ((with_reducible refine update_only ?_ fun p => ?_); rotate_left;
        (cases p <;> first | exact .inl (hL (by decide)) | (refine .inr ?_; repeat' constructor));
        first
        | with_reducible exact hO
        | with_reducible refine atT_only (subParts hL) ?_
        | with_reducible refine ptrFall_only (subParts hL) ?_
        | (with_reducible refine ite_only (fun _ => ?_) fun _ => ?_))

theorem execProgramCycleBoundary_only {L : List Part} {z : State} {t : ℕ} {s0 : State} (hL : [.time, .records,
    .keys, .faultStore, .images, .modRetired, .tuple, .refusal, .modRest, .rings, .events, .vectors, .slots,
    .hxpRest, .recorder, .faults, .selfTest, .firmware, .gates, .clocks, .heat, .contacts, .cycle, .change, .stores,
    .times, .network, .ile, .pair, .tripIo, .can, .analog, .memory, .out, .free] ⊆ L)
    (h : execProgramCycleBoundary t s0 = .next z) : onlyChanges L s0 z := by
  have hO : onlyChanges L s0 s0 := onlyChanges_refl
  unfold execProgramCycleBoundary at h
  injection h with h
  subst h
  try dsimp only
  repeat' first
    | with_reducible exact hO
    | with_reducible refine atT_only (subParts hL) ?_
    | with_reducible refine agreeReady_only (subParts hL) ?_
    | with_reducible refine programBoundary_only (subParts hL) ?_
    | (with_reducible refine ite_only (fun _ => ?_) fun _ => ?_)

theorem execMigrationDone_only {L : List Part} {z : State} {t : ℕ} {s0 : State} (hL : [.time, .records, .keys,
    .faultStore, .images, .modRetired, .tuple, .refusal, .modRest, .rings, .events, .vectors, .slots, .hxpRest,
    .recorder, .faults, .selfTest, .firmware, .gates, .clocks, .heat, .contacts, .cycle, .change, .stores, .times,
    .network, .ile, .pair, .tripIo, .can, .analog, .memory, .out] ⊆ L)
    (h : execMigrationDone t s0 = .next z) : onlyChanges L s0 z := by
  have hO : onlyChanges L s0 s0 := onlyChanges_refl
  unfold execMigrationDone at h
  injection h with h
  subst h
  try dsimp only
  repeat' first
    | with_reducible exact hO
    | with_reducible refine atT_only (subParts hL) ?_
    | with_reducible refine agreeReady_only (subParts hL) ?_
    | with_reducible refine migrationEnd_only (subParts hL) ?_
    | (with_reducible refine ite_only (fun _ => ?_) fun _ => ?_)
    | split

theorem execTrialWindowEnd_only {L : List Part} {z : State} {t : ℕ} {s0 : State} (hL : [.time, .change, .pair, .out]
    ⊆ L)
    (h : execTrialWindowEnd t s0 = .next z) : onlyChanges L s0 z := by
  have hO : onlyChanges L s0 s0 := onlyChanges_refl
  unfold execTrialWindowEnd at h
  injection h with h
  subst h
  try dsimp only
  repeat' first
    | with_reducible exact hO
    | with_reducible refine atT_only (subParts hL) ?_
    | with_reducible refine windowStep_only (subParts hL) ?_
    | (with_reducible refine ite_only (fun _ => ?_) fun _ => ?_)

theorem execHandoverRelease_only {L : List Part} {z : State} {t : ℕ} {s0 : State} (hL : [.time, .records, .keys,
    .faultStore, .images, .tuple, .refusal, .modRest, .rings, .events, .vectors, .slots, .hxpRest, .recorder,
    .faults, .selfTest, .firmware, .gates, .clocks, .heat, .contacts, .cycle, .change, .stores, .times, .network,
    .ile, .pair, .tripIo, .can, .analog, .memory, .out] ⊆ L)
    (h : execHandoverRelease t s0 = .next z) : onlyChanges L s0 z := by
  have hO : onlyChanges L s0 s0 := onlyChanges_refl
  unfold execHandoverRelease at h
  injection h with h
  subst h
  try dsimp only
  repeat' first
    | with_reducible exact hO
    | with_reducible refine atT_only (subParts hL) ?_
    | with_reducible refine boundaryTail_only (subParts hL) ?_
    | with_reducible refine handoverRefused_only (subParts hL) ?_
    | with_reducible refine releaseAll_only (subParts hL) ?_
    | (with_reducible refine ite_only (fun _ => ?_) fun _ => ?_)

end Sys2Proof.Machine
end

