-- ==== Sys2Proof/Laws/FramePair.lean ====
section
/-! SUPPORT. What each operation of the pair, resynchronisation, faults, self-test, power and boot may change. -/

namespace Sys2Proof.Machine

set_option Elab.async false
set_option linter.unusedTactic false
set_option linter.unreachableTactic false

theorem discardPkt_only {L : List Part} {z0 : State} {p : ℕ} {s : State} (hL : [.pair] ⊆ L)
    (hO : onlyChanges L z0 s) : onlyChanges L z0 (discardPkt p s) := by
  unfold discardPkt
  try dsimp only
  repeat' first
    | with_reducible exact hO
    | with_reducible refine updPort_only (subParts hL) ?_

theorem onP0_only {L : List Part} {z0 : State} {ptype : ℕ} {h : PktHdr} {ok : Bool} {f : State → State} {s : State}
    (hL : [.pair] ⊆ L)
    (hO : onlyChanges L z0 s)
    (k_f : ∀ z : State, onlyChanges L z0 z → onlyChanges L z0 (f z)) : onlyChanges L z0 (onP0 ptype h ok f s) := by
  unfold onP0
  try dsimp only
  repeat' first
    | with_reducible exact hO
    | with_reducible apply k_f
    | with_reducible refine discardPkt_only (subParts hL) ?_
    | (with_reducible refine ite_only (fun _ => ?_) fun _ => ?_)

theorem ringForward_only {L : List Part} {z0 : State} {ptype : ℕ} {h : PktHdr} {pay : List ℕ} {s : State} (hL :
    [.pair, .out] ⊆ L)
    (hO : onlyChanges L z0 s) : onlyChanges L z0 (ringForward ptype h pay s) := by
  unfold ringForward
  try dsimp only
  repeat' first
    | with_reducible exact hO
    | with_reducible refine emit_only (subParts hL) ?_
    | with_reducible refine foldl_only ?_ (fun _ _ _ => ?_)
    | with_reducible assumption
    | (with_reducible refine ite_only (fun _ => ?_) fun _ => ?_)
    | ((with_reducible refine update_only ?_ fun p => ?_); rotate_left;
        (cases p <;> first | exact .inl (hL (by decide)) | (refine .inr ?_; repeat' constructor));
        first
        | with_reducible exact hO
        | with_reducible refine emit_only (subParts hL) ?_
        | with_reducible refine foldl_only ?_ (fun _ _ _ => ?_)
        | with_reducible assumption
        | (with_reducible refine ite_only (fun _ => ?_) fun _ => ?_))

theorem onRing_only {L : List Part} {z0 : State} {ptype : ℕ} {h : PktHdr} {pay : List ℕ} {ok : Bool} {f : State →
    State} {s : State} (hL : [.pair, .out] ⊆ L)
    (hO : onlyChanges L z0 s)
    (k_f : ∀ z : State, onlyChanges L z0 z → onlyChanges L z0 (f z)) : onlyChanges L z0 (onRing ptype h pay ok f s) := by
  unfold onRing
  try dsimp only
  repeat' first
    | with_reducible exact hO
    | with_reducible apply k_f
    | with_reducible refine discardPkt_only (subParts hL) ?_
    | with_reducible refine ringForward_only (subParts hL) ?_
    | (with_reducible refine ite_only (fun _ => ?_) fun _ => ?_)
    | ((with_reducible refine update_only ?_ fun p => ?_); rotate_left;
        (cases p <;> first | exact .inl (hL (by decide)) | (refine .inr ?_; repeat' constructor));
        first
        | with_reducible exact hO
        | with_reducible apply k_f
        | with_reducible refine discardPkt_only (subParts hL) ?_
        | with_reducible refine ringForward_only (subParts hL) ?_
        | (with_reducible refine ite_only (fun _ => ?_) fun _ => ?_))

theorem askAgain_only {L : List Part} {z0 : State} {s : State} (hL : [.pair, .out] ⊆ L)
    (hO : onlyChanges L z0 s) : onlyChanges L z0 (askAgain s) := by
  unfold askAgain
  try dsimp only
  repeat' first
    | with_reducible exact hO
    | with_reducible refine sendP0_only (subParts hL) ?_
    | (with_reducible refine ite_only (fun _ => ?_) fun _ => ?_)

theorem hbTake_only {L : List Part} {z0 : State} {d : List Byte} {s : State} (hL : [.records, .modRest, .events,
    .recorder, .heat, .pair, .out] ⊆ L)
    (hO : onlyChanges L z0 s) : onlyChanges L z0 (hbTake d s) := by
  unfold hbTake
  try dsimp only
  repeat' first
    | with_reducible exact hO
    | with_reducible refine tierName_only (subParts hL) ?_
    | with_reducible refine hlFlags_only (subParts hL) ?_
    | (with_reducible refine ite_only (fun _ => ?_) fun _ => ?_)
    | ((with_reducible refine update_only ?_ fun p => ?_); rotate_left;
        (cases p <;> first | exact .inl (hL (by decide)) | (refine .inr ?_; repeat' constructor));
        first
        | with_reducible exact hO
        | with_reducible refine tierName_only (subParts hL) ?_
        | with_reducible refine hlFlags_only (subParts hL) ?_
        | (with_reducible refine ite_only (fun _ => ?_) fun _ => ?_))

theorem passPhases_only {L : List Part} {z0 : State} {s : State} (hL : [.records, .modRest, .rings, .events,
    .recorder, .faults, .selfTest, .clocks, .heat, .cycle, .stores, .pair, .tripIo, .can, .analog, .out] ⊆ L)
    (hO : onlyChanges L z0 s) : onlyChanges L z0 (passPhases s) := by
  unfold passPhases
  try dsimp only
  repeat' first
    | with_reducible exact hO
    | with_reducible refine afterAgree_only (subParts hL) ?_
    | with_reducible refine toHouse_only (subParts hL) ?_
    | split

theorem silentRole_only {L : List Part} {z0 : State} {s : State} (hL : [.records, .modRetired, .tuple, .modRest,
    .rings, .events, .slots, .recorder, .faults, .selfTest, .firmware, .gates, .clocks, .heat, .cycle, .change,
    .stores, .network, .ile, .pair, .tripIo, .can, .analog, .out, .free] ⊆ L)
    (hO : onlyChanges L z0 s) : onlyChanges L z0 (silentRole s) := by
  unfold silentRole
  try dsimp only
  repeat' first
    | with_reducible exact hO
    | with_reducible refine arbDetect_only (subParts hL) ?_
    | with_reducible refine passPhases_only (subParts hL) ?_
    | with_reducible refine unfollow_only (subParts hL) ?_
    | with_reducible refine resyncFail_only (subParts hL) ?_
    | (with_reducible refine ite_only (fun _ => ?_) fun _ => ?_)
    | ((with_reducible refine update_only ?_ fun p => ?_); rotate_left;
        (cases p <;> first | exact .inl (hL (by decide)) | (refine .inr ?_; repeat' constructor));
        first
        | with_reducible exact hO
        | with_reducible refine arbDetect_only (subParts hL) ?_
        | with_reducible refine passPhases_only (subParts hL) ?_
        | with_reducible refine unfollow_only (subParts hL) ?_
        | with_reducible refine resyncFail_only (subParts hL) ?_
        | (with_reducible refine ite_only (fun _ => ?_) fun _ => ?_))
    | split

theorem relayTake_only {L : List Part} {z0 : State} {body : Pend} {boundary : ℕ} {s : State} (hL : [.time, .records,
    .keys, .faultStore, .images, .tuple, .refusal, .modRest, .rings, .events, .vectors, .slots, .hxpRest, .recorder,
    .faults, .selfTest, .firmware, .gates, .clocks, .heat, .contacts, .cycle, .change, .stores, .times, .network,
    .ile, .pair, .tripIo, .can, .analog, .memory, .out] ⊆ L)
    (hO : onlyChanges L z0 s) : onlyChanges L z0 (relayTake body boundary s) := by
  unfold relayTake
  try dsimp only
  repeat' first
    | with_reducible exact hO
    | with_reducible refine pushPend_only (subParts hL) ?_
    | with_reducible refine boundaryTail_only (subParts hL) ?_
    | (with_reducible refine ite_only (fun _ => ?_) fun _ => ?_)

theorem relayTo_only {L : List Part} {z0 : State} {body : Pend} {boundary : ℕ} {s : State} (hL : [.time, .records,
    .keys, .faultStore, .images, .tuple, .refusal, .modRest, .rings, .events, .vectors, .slots, .hxpRest, .recorder,
    .faults, .selfTest, .firmware, .gates, .clocks, .heat, .contacts, .cycle, .change, .stores, .times, .network,
    .ile, .pair, .tripIo, .can, .analog, .memory, .out] ⊆ L)
    (hO : onlyChanges L z0 s) : onlyChanges L z0 (relayTo body boundary s) := by
  unfold relayTo
  try dsimp only
  repeat' first
    | with_reducible exact hO
    | with_reducible refine relayTake_only (subParts hL) ?_
    | with_reducible refine relayDrop_only (subParts hL) ?_
    | with_reducible refine pushPend_only (subParts hL) ?_
    | (with_reducible refine ite_only (fun _ => ?_) fun _ => ?_)

theorem bulkRun_only {L : List Part} {z0 : State} {f : State → State} {s : State} (hL : [.heat] ⊆ L)
    (hO : onlyChanges L z0 s)
    (k_f : ∀ z : State, onlyChanges L z0 z → onlyChanges L z0 (f z)) : onlyChanges L z0 (bulkRun f s) := by
  unfold bulkRun
  try dsimp only
  repeat' first
    | with_reducible exact hO
    | with_reducible apply k_f
    | with_reducible refine bgWant_only (subParts hL) ?_
    | (with_reducible refine ite_only (fun _ => ?_) fun _ => ?_)

theorem sendChunk_only {L : List Part} {z0 : State} {off : ℕ} {s : State} (hL : [.pair, .out] ⊆ L)
    (hO : onlyChanges L z0 s) : onlyChanges L z0 (sendChunk off s) := by
  unfold sendChunk
  try dsimp only
  repeat' first
    | with_reducible exact hO
    | with_reducible refine sendP0_only (subParts hL) ?_

theorem resyncAgain_only {L : List Part} {z0 : State} {k : ℕ} {off : ℕ} {s : State} (hL : [.heat, .pair, .out] ⊆ L)
    (hO : onlyChanges L z0 s) : onlyChanges L z0 (resyncAgain k off s) := by
  unfold resyncAgain
  try dsimp only
  repeat' first
    | with_reducible exact hO
    | with_reducible refine bulkRun_only (subParts hL) ?_ (fun _ _ => ?_)
    | with_reducible refine sendChunk_only (subParts hL) ?_
    | with_reducible assumption
    | (with_reducible refine ite_only (fun _ => ?_) fun _ => ?_)
    | ((with_reducible refine update_only ?_ fun p => ?_); rotate_left;
        (cases p <;> first | exact .inl (hL (by decide)) | (refine .inr ?_; repeat' constructor));
        first
        | with_reducible exact hO
        | with_reducible refine bulkRun_only (subParts hL) ?_ (fun _ _ => ?_)
        | with_reducible refine sendChunk_only (subParts hL) ?_
        | with_reducible assumption
        | (with_reducible refine ite_only (fun _ => ?_) fun _ => ?_))

theorem stageHere_only {L : List Part} {z0 : State} {op : ℕ} {box : Container} {s : State} (hL : [.heat, .change] ⊆
    L)
    (hO : onlyChanges L z0 s) : onlyChanges L z0 (stageHere op box s) := by
  unfold stageHere
  try dsimp only
  repeat' first
    | with_reducible exact hO
    | with_reducible refine bgWant_only (subParts hL) ?_
    | ((with_reducible refine update_only ?_ fun p => ?_); rotate_left;
        (cases p <;> first | exact .inl (hL (by decide)) | (refine .inr ?_; repeat' constructor));
        first
        | with_reducible exact hO
        | with_reducible refine bgWant_only (subParts hL) ?_)

theorem relayApply_only {L : List Part} {z0 : State} {r : Relay} {b : ℕ} {s : State} (hL : [.time, .records, .keys,
    .faultStore, .images, .tuple, .refusal, .modRest, .rings, .events, .vectors, .slots, .hxpRest, .recorder,
    .faults, .selfTest, .firmware, .gates, .clocks, .heat, .contacts, .cycle, .change, .stores, .times, .network,
    .ile, .pair, .tripIo, .can, .analog, .memory, .out] ⊆ L)
    (hO : onlyChanges L z0 s) : onlyChanges L z0 (relayApply r b s) := by
  unfold relayApply
  try dsimp only
  repeat' first
    | with_reducible exact hO
    | with_reducible refine giveState_only (subParts hL) ?_
    | with_reducible refine relayTo_only (subParts hL) ?_
    | with_reducible refine stageHere_only (subParts hL) ?_
    | with_reducible refine relayTake_only (subParts hL) ?_
    | with_reducible refine cloverArm_only (subParts hL) ?_
    | with_reducible refine resyncAgain_only (subParts hL) ?_
    | (with_reducible refine ite_only (fun _ => ?_) fun _ => ?_)
    | ((with_reducible refine update_only ?_ fun p => ?_); rotate_left;
        (cases p <;> first | exact .inl (hL (by decide)) | (refine .inr ?_; repeat' constructor));
        first
        | with_reducible exact hO
        | with_reducible refine giveState_only (subParts hL) ?_
        | with_reducible refine relayTo_only (subParts hL) ?_
        | with_reducible refine stageHere_only (subParts hL) ?_
        | with_reducible refine relayTake_only (subParts hL) ?_
        | with_reducible refine cloverArm_only (subParts hL) ?_
        | with_reducible refine resyncAgain_only (subParts hL) ?_
        | (with_reducible refine ite_only (fun _ => ?_) fun _ => ?_))
    | split

theorem ileMismatch_only {L : List Part} {z0 : State} {s : State} (hL : [.records, .modRest, .events, .recorder,
    .selfTest, .clocks, .heat, .ile, .pair, .out] ⊆ L)
    (hO : onlyChanges L z0 s) : onlyChanges L z0 (ileMismatch s) := by
  unfold ileMismatch
  try dsimp only
  repeat' first
    | with_reducible exact hO
    | with_reducible refine occur_only (subParts hL) ?_
    | with_reducible refine arbDetect_only (subParts hL) ?_
    | with_reducible refine askState_only (subParts hL) ?_
    | (with_reducible refine ite_only (fun _ => ?_) fun _ => ?_)
    | ((with_reducible refine update_only ?_ fun p => ?_); rotate_left;
        (cases p <;> first | exact .inl (hL (by decide)) | (refine .inr ?_; repeat' constructor));
        first
        | with_reducible exact hO
        | with_reducible refine occur_only (subParts hL) ?_
        | with_reducible refine arbDetect_only (subParts hL) ?_
        | with_reducible refine askState_only (subParts hL) ?_
        | (with_reducible refine ite_only (fun _ => ?_) fun _ => ?_))

theorem ileStateTake_only {L : List Part} {z0 : State} {gen : ℕ} {cycle : ℕ} {m : IleCopy} {s : State} (hL :
    [.stores, .ile] ⊆ L)
    (hO : onlyChanges L z0 s) : onlyChanges L z0 (ileStateTake gen cycle m s) := by
  unfold ileStateTake
  try dsimp only
  repeat' first
    | with_reducible exact hO
    | with_reducible refine coldSeed_only (subParts hL) ?_
    | (with_reducible refine ite_only (fun _ => ?_) fun _ => ?_)
    | ((with_reducible refine update_only ?_ fun p => ?_); rotate_left;
        (cases p <;> first | exact .inl (hL (by decide)) | (refine .inr ?_; repeat' constructor));
        first
        | with_reducible exact hO
        | with_reducible refine coldSeed_only (subParts hL) ?_
        | (with_reducible refine ite_only (fun _ => ?_) fun _ => ?_))

theorem plvFault_only {L : List Part} {z0 : State} {p : ℕ} {s : State} (hL : [.records, .faultStore, .events,
    .recorder, .faults, .pair] ⊆ L)
    (hO : onlyChanges L z0 s) : onlyChanges L z0 (plvFault p s) := by
  unfold plvFault
  try dsimp only
  repeat' first
    | with_reducible exact hO
    | with_reducible refine bucketAdd_only (subParts hL) ?_
    | with_reducible refine retirePlv_only (subParts hL) ?_
    | (with_reducible refine ite_only (fun _ => ?_) fun _ => ?_)

theorem sendDelay_only {L : List Part} {z0 : State} {port : ℕ} {s : State} (hL : [.pair, .out] ⊆ L)
    (hO : onlyChanges L z0 s) : onlyChanges L z0 (sendDelay port s) := by
  unfold sendDelay
  try dsimp only
  repeat' first
    | with_reducible exact hO
    | with_reducible refine sendOn_only (subParts hL) ?_

theorem beaconPut_only {L : List Part} {z0 : State} {b : BeaconS} {s : State} (hL : [.pair] ⊆ L)
    (hO : onlyChanges L z0 s) : onlyChanges L z0 (beaconPut b s) := by
  unfold beaconPut
  try dsimp only
  repeat' first
    | with_reducible exact hO
    | (with_reducible refine ite_only (fun _ => ?_) fun _ => ?_)
    | ((with_reducible refine update_only ?_ fun p => ?_); rotate_left;
        (cases p <;> first | exact .inl (hL (by decide)) | (refine .inr ?_; repeat' constructor));
        first
        | with_reducible exact hO
        | (with_reducible refine ite_only (fun _ => ?_) fun _ => ?_))

theorem beaconMaster_only {L : List Part} {z0 : State} {pair : ℕ} {master : Bool} {s : State} (hL : [.times] ⊆ L)
    (hO : onlyChanges L z0 s) : onlyChanges L z0 (beaconMaster pair master s) := by
  unfold beaconMaster
  try dsimp only
  repeat' first
    | with_reducible exact hO
    | (with_reducible refine ite_only (fun _ => ?_) fun _ => ?_)
    | ((with_reducible refine update_only ?_ fun p => ?_); rotate_left;
        (cases p <;> first | exact .inl (hL (by decide)) | (refine .inr ?_; repeat' constructor));
        first
        | with_reducible exact hO
        | (with_reducible refine ite_only (fun _ => ?_) fun _ => ?_))

theorem timeTake_only {L : List Part} {z0 : State} {origin : ℕ} {v : ℕ} {s : State} (hL : [.time, .faults,
    .firmware, .times, .pair] ⊆ L)
    (hO : onlyChanges L z0 s) : onlyChanges L z0 (timeTake origin v s) := by
  unfold timeTake
  try dsimp only
  repeat' first
    | with_reducible exact hO
    | with_reducible refine gtStep_only (subParts hL) ?_
    | with_reducible refine stationError_only (subParts hL) ?_
    | (with_reducible refine ite_only (fun _ => ?_) fun _ => ?_)
    | ((with_reducible refine update_only ?_ fun p => ?_); rotate_left;
        (cases p <;> first | exact .inl (hL (by decide)) | (refine .inr ?_; repeat' constructor));
        first
        | with_reducible exact hO
        | with_reducible refine gtStep_only (subParts hL) ?_
        | with_reducible refine stationError_only (subParts hL) ?_
        | (with_reducible refine ite_only (fun _ => ?_) fun _ => ?_))

theorem delayTake_only {L : List Part} {z0 : State} {h : PktHdr} {d : List Byte} {s : State} (hL : [.pair, .out] ⊆
    L)
    (hO : onlyChanges L z0 s) : onlyChanges L z0 (delayTake h d s) := by
  unfold delayTake
  try dsimp only
  repeat' first
    | with_reducible exact hO
    | with_reducible refine sendOn_only (subParts hL) ?_
    | (with_reducible refine ite_only (fun _ => ?_) fun _ => ?_)
    | ((with_reducible refine update_only ?_ fun p => ?_); rotate_left;
        (cases p <;> first | exact .inl (hL (by decide)) | (refine .inr ?_; repeat' constructor));
        first
        | with_reducible exact hO
        | with_reducible refine sendOn_only (subParts hL) ?_
        | (with_reducible refine ite_only (fun _ => ?_) fun _ => ?_))

theorem signalsTake_only {L : List Part} {z0 : State} {d : List Byte} {s : State} (hL : [.cycle, .pair] ⊆ L)
    (hO : onlyChanges L z0 s) : onlyChanges L z0 (signalsTake d s) := by
  unfold signalsTake
  try dsimp only
  repeat' first
    | with_reducible exact hO
    | (with_reducible refine ite_only (fun _ => ?_) fun _ => ?_)
    | ((with_reducible refine update_only ?_ fun p => ?_); rotate_left;
        (cases p <;> first | exact .inl (hL (by decide)) | (refine .inr ?_; repeat' constructor));
        first
        | with_reducible exact hO
        | (with_reducible refine ite_only (fun _ => ?_) fun _ => ?_))

theorem genInstall_only {L : List Part} {z0 : State} {boot : Bool} {x : Stored} {s : State} (hL : [.records,
    .modRest, .rings, .events, .recorder, .clocks, .heat, .cycle, .change, .network, .ile, .tripIo, .can, .analog,
    .out] ⊆ L)
    (hO : onlyChanges L z0 s) : onlyChanges L z0 (genInstall boot x s) := by
  unfold genInstall
  try dsimp only
  repeat' first
    | with_reducible exact hO
    | with_reducible refine tioConfigure_only (subParts hL) ?_
    | with_reducible refine alConfigure_only (subParts hL) ?_
    | with_reducible refine canGate_only (subParts hL) ?_
    | with_reducible refine hlRestart_only (subParts hL) ?_
    | (with_reducible refine ite_only (fun _ => ?_) fun _ => ?_)
    | ((with_reducible refine update_only ?_ fun p => ?_); rotate_left;
        (cases p <;> first | exact .inl (hL (by decide)) | (refine .inr ?_; repeat' constructor));
        first
        | with_reducible exact hO
        | with_reducible refine tioConfigure_only (subParts hL) ?_
        | with_reducible refine alConfigure_only (subParts hL) ?_
        | with_reducible refine canGate_only (subParts hL) ?_
        | with_reducible refine hlRestart_only (subParts hL) ?_
        | (with_reducible refine ite_only (fun _ => ?_) fun _ => ?_))

theorem gensAdopt_only {L : List Part} {z0 : State} {cur : Gen} {prev : Option Gen} {staged : Option Gen} {genHigh :
    ℕ} {change : ChangeState} {before : ChangeState} {trialEnd : ℕ} {ccv : ℕ} {s : State} (hL : [.records, .tuple,
    .modRest, .rings, .events, .slots, .recorder, .firmware, .gates, .clocks, .heat, .cycle, .change, .stores,
    .network, .ile, .pair, .tripIo, .can, .analog, .out] ⊆ L)
    (hO : onlyChanges L z0 s) : onlyChanges L z0 (gensAdopt cur prev staged genHigh change before trialEnd ccv s) := by
  unfold gensAdopt
  try dsimp only
  repeat' first
    | with_reducible exact hO
    | with_reducible refine tioConfigure_only (subParts hL) ?_
    | with_reducible refine rearmGate1_only (subParts hL) ?_
    | with_reducible refine genInstall_only (subParts hL) ?_
    | with_reducible refine relisten_only (subParts hL) ?_
    | with_reducible refine saveGens_only (subParts hL) ?_
    | with_reducible refine holdTable_only (subParts hL) ?_
    | with_reducible refine setChange_only (subParts hL) ?_
    | (with_reducible refine ite_only (fun _ => ?_) fun _ => ?_)
    | ((with_reducible refine update_only ?_ fun p => ?_); rotate_left;
        (cases p <;> first | exact .inl (hL (by decide)) | (refine .inr ?_; repeat' constructor));
        first
        | with_reducible exact hO
        | with_reducible refine tioConfigure_only (subParts hL) ?_
        | with_reducible refine rearmGate1_only (subParts hL) ?_
        | with_reducible refine genInstall_only (subParts hL) ?_
        | with_reducible refine relisten_only (subParts hL) ?_
        | with_reducible refine saveGens_only (subParts hL) ?_
        | with_reducible refine holdTable_only (subParts hL) ?_
        | with_reducible refine setChange_only (subParts hL) ?_
        | (with_reducible refine ite_only (fun _ => ?_) fun _ => ?_))

theorem authFailed_only {L : List Part} {z0 : State} {s : State} (hL : [.records, .modRetired, .tuple, .modRest,
    .rings, .events, .slots, .recorder, .faults, .selfTest, .firmware, .gates, .clocks, .heat, .cycle, .change,
    .stores, .network, .ile, .pair, .tripIo, .can, .analog, .out, .free] ⊆ L)
    (hO : onlyChanges L z0 s) : onlyChanges L z0 (authFailed s) := by
  unfold authFailed
  try dsimp only
  repeat' first
    | with_reducible exact hO
    | with_reducible refine occur_only (subParts hL) ?_
    | with_reducible refine silentRole_only (subParts hL) ?_
    | (with_reducible refine ite_only (fun _ => ?_) fun _ => ?_)
    | ((with_reducible refine update_only ?_ fun p => ?_); rotate_left;
        (cases p <;> first | exact .inl (hL (by decide)) | (refine .inr ?_; repeat' constructor));
        first
        | with_reducible exact hO
        | with_reducible refine occur_only (subParts hL) ?_
        | with_reducible refine silentRole_only (subParts hL) ?_
        | (with_reducible refine ite_only (fun _ => ?_) fun _ => ?_))

theorem sendAnswer_only {L : List Part} {z0 : State} {nonce : ℕ} {s : State} (hL : [.pair, .out] ⊆ L)
    (hO : onlyChanges L z0 s) : onlyChanges L z0 (sendAnswer nonce s) := by
  unfold sendAnswer
  try dsimp only
  repeat' first
    | with_reducible exact hO
    | with_reducible refine sendOn_only (subParts hL) ?_
    | (with_reducible refine ite_only (fun _ => ?_) fun _ => ?_)

theorem authTake_only {L : List Part} {z0 : State} {m : AuthMsg} {s : State} (hL : [.records, .modRetired, .tuple,
    .modRest, .rings, .events, .slots, .recorder, .faults, .selfTest, .firmware, .gates, .clocks, .heat, .cycle,
    .change, .stores, .network, .ile, .pair, .tripIo, .can, .analog, .out, .free] ⊆ L)
    (hO : onlyChanges L z0 s) : onlyChanges L z0 (authTake m s) := by
  unfold authTake
  try dsimp only
  repeat' first
    | with_reducible exact hO
    | with_reducible refine sendAnswer_only (subParts hL) ?_
    | with_reducible refine authFailed_only (subParts hL) ?_
    | (with_reducible refine ite_only (fun _ => ?_) fun _ => ?_)
    | ((with_reducible refine update_only ?_ fun p => ?_); rotate_left;
        (cases p <;> first | exact .inl (hL (by decide)) | (refine .inr ?_; repeat' constructor));
        first
        | with_reducible exact hO
        | with_reducible refine sendAnswer_only (subParts hL) ?_
        | with_reducible refine authFailed_only (subParts hL) ?_
        | (with_reducible refine ite_only (fun _ => ?_) fun _ => ?_))

theorem resyncTake_only {L : List Part} {z0 : State} {d : ResyncData} {s : State} (hL : [.time, .records, .tuple,
    .modRest, .rings, .events, .slots, .recorder, .firmware, .gates, .clocks, .heat, .cycle, .change, .stores,
    .times, .network, .ile, .pair, .tripIo, .can, .analog, .out] ⊆ L)
    (hO : onlyChanges L z0 s) : onlyChanges L z0 (resyncTake d s) := by
  unfold resyncTake
  try dsimp only
  repeat' first
    | with_reducible exact hO
    | with_reducible refine gensAdopt_only (subParts hL) ?_
    | with_reducible refine forcesTake_only (subParts hL) ?_
    | with_reducible refine cloverArm_only (subParts hL) ?_
    | (with_reducible refine ite_only (fun _ => ?_) fun _ => ?_)
    | ((with_reducible refine update_only ?_ fun p => ?_); rotate_left;
        (cases p <;> first | exact .inl (hL (by decide)) | (refine .inr ?_; repeat' constructor));
        first
        | with_reducible exact hO
        | with_reducible refine gensAdopt_only (subParts hL) ?_
        | with_reducible refine forcesTake_only (subParts hL) ?_
        | with_reducible refine cloverArm_only (subParts hL) ?_
        | (with_reducible refine ite_only (fun _ => ?_) fun _ => ?_))
    | split

theorem stepGo_only {L : List Part} {z0 : State} {k : ℕ} {s : State} (hL : [.pair] ⊆ L)
    (hO : onlyChanges L z0 s) : onlyChanges L z0 (stepGo k s) := by
  unfold stepGo
  try dsimp only
  repeat' first
    | with_reducible exact hO
    | ((with_reducible refine update_only ?_ fun p => ?_); rotate_left;
        (cases p <;> first | exact .inl (hL (by decide)) | (refine .inr ?_; repeat' constructor));
        first
        | with_reducible exact hO)

theorem adoptDecide_only {L : List Part} {z0 : State} {s : State} (hL : [.time, .records, .images, .tuple, .refusal,
    .modRest, .rings, .events, .vectors, .slots, .hxpRest, .recorder, .faults, .selfTest, .firmware, .gates,
    .clocks, .heat, .contacts, .cycle, .change, .times, .network, .ile, .pair, .tripIo, .can, .analog, .memory] ⊆ L)
    (hO : onlyChanges L z0 s) : onlyChanges L z0 (adoptDecide s) := by
  unfold adoptDecide
  try dsimp only
  repeat' first
    | with_reducible exact hO
    | with_reducible refine bgWant_only (subParts hL) ?_
    | with_reducible refine stepGo_only (subParts hL) ?_
    | with_reducible refine moduleReset_only (subParts hL) ?_
    | with_reducible refine ptrFall_only (subParts hL) ?_
    | with_reducible refine occur_only (subParts hL) ?_
    | (with_reducible refine ite_only (fun _ => ?_) fun _ => ?_)

theorem adoptBoot_only {L : List Part} {z0 : State} {s : State} (hL : [.time, .records, .images, .tuple, .refusal,
    .modRest, .rings, .events, .vectors, .slots, .hxpRest, .recorder, .faults, .selfTest, .firmware, .gates,
    .clocks, .heat, .contacts, .cycle, .change, .times, .network, .ile, .pair, .tripIo, .can, .analog, .memory] ⊆ L)
    (hO : onlyChanges L z0 s) : onlyChanges L z0 (adoptBoot s) := by
  unfold adoptBoot
  try dsimp only
  repeat' first
    | with_reducible exact hO
    | with_reducible refine moduleReset_only (subParts hL) ?_
    | with_reducible refine ptrPut_only (subParts hL) ?_
    | with_reducible refine updSlot_only (subParts hL) ?_
    | (with_reducible refine ite_only (fun _ => ?_) fun _ => ?_)

theorem targetStep_only {L : List Part} {z0 : State} {s : State} (hL : [.time, .records, .images, .tuple, .refusal,
    .modRest, .rings, .events, .vectors, .slots, .hxpRest, .recorder, .faults, .selfTest, .firmware, .gates,
    .clocks, .heat, .contacts, .cycle, .change, .times, .network, .ile, .pair, .tripIo, .can, .analog, .memory] ⊆ L)
    (hO : onlyChanges L z0 s) : onlyChanges L z0 (targetStep s) := by
  unfold targetStep
  try dsimp only
  repeat' first
    | with_reducible exact hO
    | with_reducible refine adoptDecide_only (subParts hL) ?_
    | with_reducible refine adoptBoot_only (subParts hL) ?_
    | with_reducible refine bgWant_only (subParts hL) ?_
    | with_reducible refine stepGo_only (subParts hL) ?_
    | with_reducible refine bgUnwant_only (subParts hL) ?_
    | (with_reducible refine ite_only (fun _ => ?_) fun _ => ?_)
    | ((with_reducible refine update_only ?_ fun p => ?_); rotate_left;
        (cases p <;> first | exact .inl (hL (by decide)) | (refine .inr ?_; repeat' constructor));
        first
        | with_reducible exact hO
        | with_reducible refine adoptDecide_only (subParts hL) ?_
        | with_reducible refine adoptBoot_only (subParts hL) ?_
        | with_reducible refine bgWant_only (subParts hL) ?_
        | with_reducible refine stepGo_only (subParts hL) ?_
        | with_reducible refine bgUnwant_only (subParts hL) ?_
        | (with_reducible refine ite_only (fun _ => ?_) fun _ => ?_))
    | split

theorem sendResync_only {L : List Part} {z0 : State} {k : ℕ} {pay : List ℕ} {s : State} (hL : [.pair, .out] ⊆ L)
    (hO : onlyChanges L z0 s) : onlyChanges L z0 (sendResync k pay s) := by
  unfold sendResync
  try dsimp only
  repeat' first
    | with_reducible exact hO
    | with_reducible refine sendBulk_only (subParts hL) ?_

theorem sentAll_only {L : List Part} {z0 : State} {s : State} (hL : [.pair] ⊆ L)
    (hO : onlyChanges L z0 s) : onlyChanges L z0 (sentAll s) := by
  unfold sentAll
  try dsimp only
  repeat' first
    | with_reducible exact hO
    | ((with_reducible refine update_only ?_ fun p => ?_); rotate_left;
        (cases p <;> first | exact .inl (hL (by decide)) | (refine .inr ?_; repeat' constructor));
        first
        | with_reducible exact hO)

theorem sourceGens_only {L : List Part} {z0 : State} {s : State} (hL : [.pair, .out] ⊆ L)
    (hO : onlyChanges L z0 s) : onlyChanges L z0 (sourceGens s) := by
  unfold sourceGens
  try dsimp only
  repeat' first
    | with_reducible exact hO
    | with_reducible refine stepGo_only (subParts hL) ?_
    | with_reducible refine sendResync_only (subParts hL) ?_

theorem sourceVars_only {L : List Part} {z0 : State} {s : State} (hL : [.pair, .out] ⊆ L)
    (hO : onlyChanges L z0 s) : onlyChanges L z0 (sourceVars s) := by
  unfold sourceVars
  try dsimp only
  repeat' first
    | with_reducible exact hO
    | with_reducible refine stepGo_only (subParts hL) ?_
    | with_reducible refine sentAll_only (subParts hL) ?_
    | with_reducible refine sendResync_only (subParts hL) ?_

theorem sourceDirty_only {L : List Part} {z0 : State} {s : State} (hL : [.heat, .pair, .out] ⊆ L)
    (hO : onlyChanges L z0 s) : onlyChanges L z0 (sourceDirty s) := by
  unfold sourceDirty
  try dsimp only
  repeat' first
    | with_reducible exact hO
    | with_reducible refine sentAll_only (subParts hL) ?_
    | with_reducible refine sendResync_only (subParts hL) ?_
    | with_reducible refine bgUnwant_only (subParts hL) ?_
    | with_reducible refine stepGo_only (subParts hL) ?_
    | (with_reducible refine ite_only (fun _ => ?_) fun _ => ?_)
    | ((with_reducible refine update_only ?_ fun p => ?_); rotate_left;
        (cases p <;> first | exact .inl (hL (by decide)) | (refine .inr ?_; repeat' constructor));
        first
        | with_reducible exact hO
        | with_reducible refine sentAll_only (subParts hL) ?_
        | with_reducible refine sendResync_only (subParts hL) ?_
        | with_reducible refine bgUnwant_only (subParts hL) ?_
        | with_reducible refine stepGo_only (subParts hL) ?_
        | (with_reducible refine ite_only (fun _ => ?_) fun _ => ?_))

theorem owesState_only {L : List Part} {z0 : State} {s : State} (hL : [.ile] ⊆ L)
    (hO : onlyChanges L z0 s) : onlyChanges L z0 (owesState s) := by
  unfold owesState
  try dsimp only
  repeat' first
    | with_reducible exact hO
    | ((with_reducible refine update_only ?_ fun p => ?_); rotate_left;
        (cases p <;> first | exact .inl (hL (by decide)) | (refine .inr ?_; repeat' constructor));
        first
        | with_reducible exact hO)

theorem sourceLast_only {L : List Part} {z0 : State} {s : State} (hL : [.ile, .pair, .out] ⊆ L)
    (hO : onlyChanges L z0 s) : onlyChanges L z0 (sourceLast s) := by
  unfold sourceLast
  try dsimp only
  repeat' first
    | with_reducible exact hO
    | with_reducible refine stepGo_only (subParts hL) ?_
    | with_reducible refine owesState_only (subParts hL) ?_
    | with_reducible refine sentAll_only (subParts hL) ?_
    | with_reducible refine sendResync_only (subParts hL) ?_
    | (with_reducible refine ite_only (fun _ => ?_) fun _ => ?_)

theorem sourceStep_only {L : List Part} {z0 : State} {s : State} (hL : [.heat, .ile, .pair, .out] ⊆ L)
    (hO : onlyChanges L z0 s) : onlyChanges L z0 (sourceStep s) := by
  unfold sourceStep
  try dsimp only
  repeat' first
    | with_reducible exact hO
    | with_reducible refine bulkRun_only (subParts hL) ?_ (fun _ _ => ?_)
    | with_reducible refine sourceGens_only (subParts hL) ?_
    | with_reducible refine sourceVars_only (subParts hL) ?_
    | with_reducible refine sourceDirty_only (subParts hL) ?_
    | with_reducible refine sourceLast_only (subParts hL) ?_
    | with_reducible assumption
    | ((with_reducible refine update_only ?_ fun p => ?_); rotate_left;
        (cases p <;> first | exact .inl (hL (by decide)) | (refine .inr ?_; repeat' constructor));
        first
        | with_reducible exact hO
        | with_reducible refine bulkRun_only (subParts hL) ?_ (fun _ _ => ?_)
        | with_reducible refine sourceGens_only (subParts hL) ?_
        | with_reducible refine sourceVars_only (subParts hL) ?_
        | with_reducible refine sourceDirty_only (subParts hL) ?_
        | with_reducible refine sourceLast_only (subParts hL) ?_
        | with_reducible assumption)
    | split

theorem engineStops_only {L : List Part} {z0 : State} {e : ℕ} {s : State} (hL : [.records, .tuple, .modRest, .rings,
    .events, .vectors, .slots, .hxpRest, .recorder, .faults, .firmware, .clocks, .cycle, .network, .pair, .tripIo,
    .can, .out] ⊆ L)
    (hO : onlyChanges L z0 s) : onlyChanges L z0 (engineStops e s) := by
  unfold engineStops
  try dsimp only
  repeat' first
    | with_reducible exact hO
    | with_reducible refine relisten_only (subParts hL) ?_
    | with_reducible refine sendP0_only (subParts hL) ?_
    | with_reducible refine latchAll_only (subParts hL) ?_
    | with_reducible refine tioDecide_only (subParts hL) ?_
    | with_reducible refine canGate_only (subParts hL) ?_
    | with_reducible refine canRelease_only (subParts hL) ?_
    | with_reducible refine hxpBlockReset_only (subParts hL) ?_
    | (with_reducible refine ite_only (fun _ => ?_) fun _ => ?_)
    | ((with_reducible refine update_only ?_ fun p => ?_); rotate_left;
        (cases p <;> first | exact .inl (hL (by decide)) | (refine .inr ?_; repeat' constructor));
        first
        | with_reducible exact hO
        | with_reducible refine relisten_only (subParts hL) ?_
        | with_reducible refine sendP0_only (subParts hL) ?_
        | with_reducible refine latchAll_only (subParts hL) ?_
        | with_reducible refine tioDecide_only (subParts hL) ?_
        | with_reducible refine canGate_only (subParts hL) ?_
        | with_reducible refine canRelease_only (subParts hL) ?_
        | with_reducible refine hxpBlockReset_only (subParts hL) ?_
        | (with_reducible refine ite_only (fun _ => ?_) fun _ => ?_))
    | split

theorem retireEngine_only {L : List Part} {z0 : State} {e : ℕ} {code : ℕ} {s : State} (hL : [.records, .faultStore,
    .modRetired, .tuple, .modRest, .rings, .events, .vectors, .slots, .hxpRest, .recorder, .faults, .firmware,
    .gates, .clocks, .heat, .cycle, .change, .stores, .network, .ile, .pair, .tripIo, .can, .analog, .out] ⊆ L)
    (hO : onlyChanges L z0 s) : onlyChanges L z0 (retireEngine e code s) := by
  unfold retireEngine
  try dsimp only
  repeat' first
    | with_reducible exact hO
    | with_reducible refine engineStops_only (subParts hL) ?_
    | with_reducible refine retireRecord_only (subParts hL) ?_
    | with_reducible refine retireModule_only (subParts hL) ?_
    | (with_reducible refine ite_only (fun _ => ?_) fun _ => ?_)

theorem engineFault_only {L : List Part} {z0 : State} {e : ℕ} {s : State} (hL : [.records, .faultStore, .modRetired,
    .tuple, .modRest, .rings, .events, .vectors, .slots, .hxpRest, .recorder, .faults, .firmware, .gates, .clocks,
    .heat, .cycle, .change, .stores, .network, .ile, .pair, .tripIo, .can, .analog, .out] ⊆ L)
    (hO : onlyChanges L z0 s) : onlyChanges L z0 (engineFault e s) := by
  unfold engineFault
  try dsimp only
  repeat' first
    | with_reducible exact hO
    | with_reducible refine bucketAdd_only (subParts hL) ?_
    | with_reducible refine retireEngine_only (subParts hL) ?_
    | (with_reducible refine ite_only (fun _ => ?_) fun _ => ?_)

theorem masterFails_only {L : List Part} {z0 : State} {m : ℕ} {s : State} (hL : [.records, .events, .recorder,
    .faults, .cycle] ⊆ L)
    (hO : onlyChanges L z0 s) : onlyChanges L z0 (masterFails m s) := by
  unfold masterFails
  try dsimp only
  repeat' first
    | with_reducible exact hO
    | with_reducible refine rollback_only (subParts hL) ?_
    | (with_reducible refine ite_only (fun _ => ?_) fun _ => ?_)
    | ((with_reducible refine update_only ?_ fun p => ?_); rotate_left;
        (cases p <;> first | exact .inl (hL (by decide)) | (refine .inr ?_; repeat' constructor));
        first
        | with_reducible exact hO
        | with_reducible refine rollback_only (subParts hL) ?_
        | (with_reducible refine ite_only (fun _ => ?_) fun _ => ?_))

theorem retireUnit_only {L : List Part} {z0 : State} {u : UnitId} {code : ℕ} {s : State} (hL : [.records,
    .faultStore, .modRetired, .tuple, .modRest, .rings, .events, .vectors, .slots, .hxpRest, .recorder, .faults,
    .firmware, .gates, .clocks, .heat, .cycle, .change, .stores, .network, .ile, .pair, .tripIo, .can, .analog,
    .out] ⊆ L)
    (hO : onlyChanges L z0 s) : onlyChanges L z0 (retireUnit u code s) := by
  unfold retireUnit
  try dsimp only
  repeat' first
    | with_reducible exact hO
    | with_reducible refine retireCellNow_only (subParts hL) ?_
    | with_reducible refine retireLane_only (subParts hL) ?_
    | with_reducible refine retirePlv_only (subParts hL) ?_
    | with_reducible refine retireTq_only (subParts hL) ?_
    | with_reducible refine tioDecide_only (subParts hL) ?_
    | with_reducible refine retireRecord_only (subParts hL) ?_
    | with_reducible refine retireAl_only (subParts hL) ?_
    | with_reducible refine retireCan_only (subParts hL) ?_
    | with_reducible refine retireEngine_only (subParts hL) ?_
    | with_reducible refine occur_only (subParts hL) ?_
    | (with_reducible refine ite_only (fun _ => ?_) fun _ => ?_)
    | split

theorem unitFault_only {L : List Part} {z0 : State} {u : UnitId} {code : ℕ} {s : State} (hL : [.records,
    .faultStore, .modRetired, .tuple, .modRest, .rings, .events, .vectors, .slots, .hxpRest, .recorder, .faults,
    .firmware, .gates, .clocks, .heat, .cycle, .change, .stores, .network, .ile, .pair, .tripIo, .can, .analog,
    .out] ⊆ L)
    (hO : onlyChanges L z0 s) : onlyChanges L z0 (unitFault u code s) := by
  unfold unitFault
  try dsimp only
  repeat' first
    | with_reducible exact hO
    | with_reducible refine bucketAdd_only (subParts hL) ?_
    | with_reducible refine retireUnit_only (subParts hL) ?_
    | (with_reducible refine ite_only (fun _ => ?_) fun _ => ?_)

theorem rowFault_only {L : List Part} {z0 : State} {mem : ℕ} {row : ℕ} {amt : ℕ} {s : State} (hL : [.records,
    .faultStore, .events, .recorder, .faults] ⊆ L)
    (hO : onlyChanges L z0 s) : onlyChanges L z0 (rowFault mem row amt s) := by
  unfold rowFault
  try dsimp only
  repeat' first
    | with_reducible exact hO
    | with_reducible refine noteFault_only (subParts hL) ?_
    | with_reducible refine bucketAdd_only (subParts hL) ?_
    | with_reducible refine occur_only (subParts hL) ?_
    | (with_reducible refine ite_only (fun _ => ?_) fun _ => ?_)
    | ((with_reducible refine update_only ?_ fun p => ?_); rotate_left;
        (cases p <;> first | exact .inl (hL (by decide)) | (refine .inr ?_; repeat' constructor));
        first
        | with_reducible exact hO
        | with_reducible refine noteFault_only (subParts hL) ?_
        | with_reducible refine bucketAdd_only (subParts hL) ?_
        | with_reducible refine occur_only (subParts hL) ?_
        | (with_reducible refine ite_only (fun _ => ?_) fun _ => ?_))

theorem poisonWord_only {L : List Part} {z0 : State} {a : ℕ} {s : State} (hL : [.faults] ⊆ L)
    (hO : onlyChanges L z0 s) : onlyChanges L z0 (poisonWord a s) := by
  unfold poisonWord
  try dsimp only
  repeat' first
    | with_reducible exact hO
    | ((with_reducible refine update_only ?_ fun p => ?_); rotate_left;
        (cases p <;> first | exact .inl (hL (by decide)) | (refine .inr ?_; repeat' constructor));
        first
        | with_reducible exact hO)

theorem compatStart_only {L : List Part} {z0 : State} {k : ℕ} {u : ℕ} {s : State} (hL : [.ile] ⊆ L)
    (hO : onlyChanges L z0 s) : onlyChanges L z0 (compatStart k u s) := by
  unfold compatStart
  try dsimp only
  repeat' first
    | with_reducible exact hO
    | with_reducible refine updLane_only (subParts hL) ?_
    | with_reducible refine foldl_only ?_ (fun _ _ _ => ?_)
    | with_reducible assumption
    | (with_reducible refine ite_only (fun _ => ?_) fun _ => ?_)

theorem compatEnd_only {L : List Part} {z0 : State} {k : ℕ} {u : ℕ} {s : State} (hL : [.selfTest, .clocks, .heat,
    .ile, .memory] ⊆ L)
    (hO : onlyChanges L z0 s) : onlyChanges L z0 (compatEnd k u s) := by
  unfold compatEnd
  try dsimp only
  repeat' first
    | with_reducible exact hO
    | with_reducible refine laneRejoin_only (subParts hL) ?_
    | with_reducible refine foldl_only ?_ (fun _ _ _ => ?_)
    | with_reducible assumption
    | (with_reducible refine ite_only (fun _ => ?_) fun _ => ?_)
    | ((with_reducible refine update_only ?_ fun p => ?_); rotate_left;
        (cases p <;> first | exact .inl (hL (by decide)) | (refine .inr ?_; repeat' constructor));
        first
        | with_reducible exact hO
        | with_reducible refine laneRejoin_only (subParts hL) ?_
        | with_reducible refine foldl_only ?_ (fun _ _ _ => ?_)
        | with_reducible assumption
        | (with_reducible refine ite_only (fun _ => ?_) fun _ => ?_))

theorem stageUnit_only {L : List Part} {z0 : State} {kind : ℕ} {s : State} (hL : [.heat, .change] ⊆ L)
    (hO : onlyChanges L z0 s) : onlyChanges L z0 (stageUnit kind s) := by
  unfold stageUnit
  try dsimp only
  repeat' first
    | with_reducible exact hO
    | with_reducible refine bgWant_only (subParts hL) ?_
    | ((with_reducible refine update_only ?_ fun p => ?_); rotate_left;
        (cases p <;> first | exact .inl (hL (by decide)) | (refine .inr ?_; repeat' constructor));
        first
        | with_reducible exact hO
        | with_reducible refine bgWant_only (subParts hL) ?_)
    | split

theorem marchFail_only {L : List Part} {z0 : State} {mem : ℕ} {rows : List ℕ} {s : State} (hL : [.records,
    .faultStore, .modRetired, .tuple, .modRest, .rings, .events, .slots, .recorder, .faults, .firmware, .gates,
    .clocks, .heat, .cycle, .change, .stores, .network, .ile, .pair, .tripIo, .can, .analog, .out] ⊆ L)
    (hO : onlyChanges L z0 s) : onlyChanges L z0 (marchFail mem rows s) := by
  unfold marchFail
  try dsimp only
  repeat' first
    | with_reducible exact hO
    | with_reducible refine rowFault_only (subParts hL) ?_
    | with_reducible refine retireModule_only (subParts hL) ?_
    | with_reducible refine foldl_only ?_ (fun _ _ _ => ?_)
    | with_reducible assumption
    | (with_reducible refine ite_only (fun _ => ?_) fun _ => ?_)

theorem engineTestFail_only {L : List Part} {z0 : State} {e : ℕ} {s : State} (hL : [.records, .faultStore,
    .modRetired, .tuple, .modRest, .rings, .events, .vectors, .slots, .hxpRest, .recorder, .faults, .selfTest,
    .firmware, .gates, .clocks, .heat, .cycle, .change, .stores, .network, .ile, .pair, .tripIo, .can, .analog,
    .out] ⊆ L)
    (hO : onlyChanges L z0 s) : onlyChanges L z0 (engineTestFail e s) := by
  unfold engineTestFail
  try dsimp only
  repeat' first
    | with_reducible exact hO
    | with_reducible refine retireEngine_only (subParts hL) ?_
    | (with_reducible refine ite_only (fun _ => ?_) fun _ => ?_)
    | ((with_reducible refine update_only ?_ fun p => ?_); rotate_left;
        (cases p <;> first | exact .inl (hL (by decide)) | (refine .inr ?_; repeat' constructor));
        first
        | with_reducible exact hO
        | with_reducible refine retireEngine_only (subParts hL) ?_
        | (with_reducible refine ite_only (fun _ => ?_) fun _ => ?_))

theorem testFail_only {L : List Part} {z0 : State} {kind : ℕ} {src : ℕ} {rows : List ℕ} {s : State} (hL : [.records,
    .faultStore, .modRetired, .tuple, .modRest, .rings, .events, .vectors, .slots, .hxpRest, .recorder, .faults,
    .selfTest, .firmware, .gates, .clocks, .heat, .cycle, .change, .stores, .network, .ile, .pair, .tripIo, .can,
    .analog, .out] ⊆ L)
    (hO : onlyChanges L z0 s) : onlyChanges L z0 (testFail kind src rows s) := by
  unfold testFail
  try dsimp only
  repeat' first
    | with_reducible exact hO
    | with_reducible refine occur_only (subParts hL) ?_
    | with_reducible refine retireModule_only (subParts hL) ?_
    | with_reducible refine marchFail_only (subParts hL) ?_
    | with_reducible refine engineTestFail_only (subParts hL) ?_
    | with_reducible refine retireUnit_only (subParts hL) ?_
    | with_reducible refine foldl_only ?_ (fun _ _ _ => ?_)
    | with_reducible assumption
    | (with_reducible refine ite_only (fun _ => ?_) fun _ => ?_)
    | ((with_reducible refine update_only ?_ fun p => ?_); rotate_left;
        (cases p <;> first | exact .inl (hL (by decide)) | (refine .inr ?_; repeat' constructor));
        first
        | with_reducible exact hO
        | with_reducible refine occur_only (subParts hL) ?_
        | with_reducible refine retireModule_only (subParts hL) ?_
        | with_reducible refine marchFail_only (subParts hL) ?_
        | with_reducible refine engineTestFail_only (subParts hL) ?_
        | with_reducible refine retireUnit_only (subParts hL) ?_
        | with_reducible refine foldl_only ?_ (fun _ _ _ => ?_)
        | with_reducible assumption
        | (with_reducible refine ite_only (fun _ => ?_) fun _ => ?_))
    | split

theorem testPass_only {L : List Part} {z0 : State} {kind : ℕ} {src : ℕ} {rows : List ℕ} {s : State} (hL : [.records,
    .faultStore, .events, .recorder, .faults, .selfTest] ⊆ L)
    (hO : onlyChanges L z0 s) : onlyChanges L z0 (testPass kind src rows s) := by
  unfold testPass
  try dsimp only
  repeat' first
    | with_reducible exact hO
    | with_reducible refine rowFault_only (subParts hL) ?_
    | with_reducible refine foldl_only ?_ (fun _ _ _ => ?_)
    | with_reducible assumption
    | (with_reducible refine ite_only (fun _ => ?_) fun _ => ?_)
    | ((with_reducible refine update_only ?_ fun p => ?_); rotate_left;
        (cases p <;> first | exact .inl (hL (by decide)) | (refine .inr ?_; repeat' constructor));
        first
        | with_reducible exact hO
        | with_reducible refine rowFault_only (subParts hL) ?_
        | with_reducible refine foldl_only ?_ (fun _ _ _ => ?_)
        | with_reducible assumption
        | (with_reducible refine ite_only (fun _ => ?_) fun _ => ?_))
    | split

theorem roundStep_only {L : List Part} {z0 : State} {k : ℕ} {s : State} (hL : [.selfTest] ⊆ L)
    (hO : onlyChanges L z0 s) : onlyChanges L z0 (roundStep k s) := by
  unfold roundStep
  try dsimp only
  repeat' first
    | with_reducible exact hO
    | (with_reducible refine ite_only (fun _ => ?_) fun _ => ?_)
    | ((with_reducible refine update_only ?_ fun p => ?_); rotate_left;
        (cases p <;> first | exact .inl (hL (by decide)) | (refine .inr ?_; repeat' constructor));
        first
        | with_reducible exact hO
        | (with_reducible refine ite_only (fun _ => ?_) fun _ => ?_))

theorem awaitedStep_only {L : List Part} {z0 : State} {u : UnitId} {left : ℕ} {r : SliceRes} {s : State} (hL :
    [.records, .faultStore, .modRetired, .tuple, .refusal, .modRest, .rings, .events, .vectors, .slots, .hxpRest,
    .recorder, .faults, .selfTest, .firmware, .gates, .clocks, .heat, .cycle, .change, .stores, .network, .ile,
    .pair, .tripIo, .can, .analog, .out] ⊆ L)
    (hO : onlyChanges L z0 s) : onlyChanges L z0 (awaitedStep u left r s) := by
  unfold awaitedStep
  try dsimp only
  repeat' first
    | with_reducible exact hO
    | with_reducible refine testFail_only (subParts hL) ?_
    | with_reducible refine bistDone_only (subParts hL) ?_
    | with_reducible refine occur_only (subParts hL) ?_
    | with_reducible refine testPass_only (subParts hL) ?_
    | (with_reducible refine ite_only (fun _ => ?_) fun _ => ?_)
    | ((with_reducible refine update_only ?_ fun p => ?_); rotate_left;
        (cases p <;> first | exact .inl (hL (by decide)) | (refine .inr ?_; repeat' constructor));
        first
        | with_reducible exact hO
        | with_reducible refine testFail_only (subParts hL) ?_
        | with_reducible refine bistDone_only (subParts hL) ?_
        | with_reducible refine occur_only (subParts hL) ?_
        | with_reducible refine testPass_only (subParts hL) ?_
        | (with_reducible refine ite_only (fun _ => ?_) fun _ => ?_))

theorem sliceEnd_only {L : List Part} {z0 : State} {s : State} (hL : [.selfTest, .clocks, .heat] ⊆ L)
    (hO : onlyChanges L z0 s) : onlyChanges L z0 (sliceEnd s) := by
  unfold sliceEnd
  try dsimp only
  repeat' first
    | with_reducible exact hO
    | with_reducible refine bgWant_only (subParts hL) ?_
    | with_reducible refine gateClose_only (subParts hL) ?_
    | ((with_reducible refine update_only ?_ fun p => ?_); rotate_left;
        (cases p <;> first | exact .inl (hL (by decide)) | (refine .inr ?_; repeat' constructor));
        first
        | with_reducible exact hO
        | with_reducible refine bgWant_only (subParts hL) ?_
        | with_reducible refine gateClose_only (subParts hL) ?_)

theorem pll0Fail_only {L : List Part} {z0 : State} {s : State} (hL : [.records, .modRest, .events, .recorder,
    .clocks, .heat, .pair, .out] ⊆ L)
    (hO : onlyChanges L z0 s) : onlyChanges L z0 (pll0Fail s) := by
  unfold pll0Fail
  try dsimp only
  repeat' first
    | with_reducible exact hO
    | with_reducible refine tierName_only (subParts hL) ?_
    | with_reducible refine wantTier_only (subParts hL) ?_
    | with_reducible refine switchReq_only (subParts hL) ?_
    | (with_reducible refine ite_only (fun _ => ?_) fun _ => ?_)
    | ((with_reducible refine update_only ?_ fun p => ?_); rotate_left;
        (cases p <;> first | exact .inl (hL (by decide)) | (refine .inr ?_; repeat' constructor));
        first
        | with_reducible exact hO
        | with_reducible refine tierName_only (subParts hL) ?_
        | with_reducible refine wantTier_only (subParts hL) ?_
        | with_reducible refine switchReq_only (subParts hL) ?_
        | (with_reducible refine ite_only (fun _ => ?_) fun _ => ?_))

theorem pllAct_only {L : List Part} {z0 : State} {n : ℕ} {s : State} (hL : [.records, .faultStore, .modRetired,
    .tuple, .modRest, .rings, .events, .slots, .recorder, .faults, .firmware, .gates, .clocks, .heat, .cycle,
    .change, .stores, .network, .ile, .pair, .tripIo, .can, .analog, .out] ⊆ L)
    (hO : onlyChanges L z0 s) : onlyChanges L z0 (pllAct n s) := by
  unfold pllAct
  try dsimp only
  repeat' first
    | with_reducible exact hO
    | with_reducible refine pll0Fail_only (subParts hL) ?_
    | with_reducible refine retireModule_only (subParts hL) ?_
    | with_reducible refine gateClose_only (subParts hL) ?_
    | with_reducible refine retireLane_only (subParts hL) ?_
    | split

theorem pllFails_only {L : List Part} {z0 : State} {n : ℕ} {s : State} (hL : [.records, .faultStore, .modRetired,
    .tuple, .modRest, .rings, .events, .vectors, .slots, .hxpRest, .recorder, .faults, .firmware, .gates, .clocks,
    .heat, .cycle, .change, .stores, .network, .ile, .pair, .tripIo, .can, .analog, .out] ⊆ L)
    (hO : onlyChanges L z0 s) : onlyChanges L z0 (pllFails n s) := by
  unfold pllFails
  try dsimp only
  repeat' first
    | with_reducible exact hO
    | with_reducible refine occur_only (subParts hL) ?_
    | with_reducible refine switchReq_only (subParts hL) ?_
    | with_reducible refine refLost_only (subParts hL) ?_
    | with_reducible refine pllAct_only (subParts hL) ?_
    | with_reducible refine foldl_only ?_ (fun _ _ _ => ?_)
    | with_reducible assumption
    | (with_reducible refine ite_only (fun _ => ?_) fun _ => ?_)
    | ((with_reducible refine update_only ?_ fun p => ?_); rotate_left;
        (cases p <;> first | exact .inl (hL (by decide)) | (refine .inr ?_; repeat' constructor));
        first
        | with_reducible exact hO
        | with_reducible refine occur_only (subParts hL) ?_
        | with_reducible refine switchReq_only (subParts hL) ?_
        | with_reducible refine refLost_only (subParts hL) ?_
        | with_reducible refine pllAct_only (subParts hL) ?_
        | with_reducible refine foldl_only ?_ (fun _ _ _ => ?_)
        | with_reducible assumption
        | (with_reducible refine ite_only (fun _ => ?_) fun _ => ?_))

theorem rollbackAll_only {L : List Part} {z0 : State} {s : State} (hL : [.records, .events, .recorder, .cycle] ⊆ L)
    (hO : onlyChanges L z0 s) : onlyChanges L z0 (rollbackAll s) := by
  unfold rollbackAll
  try dsimp only
  repeat' first
    | with_reducible exact hO
    | with_reducible refine rollback_only (subParts hL) ?_
    | with_reducible refine foldl_only ?_ (fun _ _ _ => ?_)
    | with_reducible assumption
    | (with_reducible refine ite_only (fun _ => ?_) fun _ => ?_)

theorem domainReset_only {L : List Part} {z0 : State} {dom : ℕ} {s : State} (hL : [.records, .events, .recorder,
    .cycle, .times, .ile, .tripIo, .can] ⊆ L)
    (hO : onlyChanges L z0 s) : onlyChanges L z0 (domainReset dom s) := by
  unfold domainReset
  try dsimp only
  repeat' first
    | with_reducible exact hO
    | with_reducible refine rollbackAll_only (subParts hL) ?_
    | with_reducible refine updLane_only (subParts hL) ?_
    | ((with_reducible refine update_only ?_ fun p => ?_); rotate_left;
        (cases p <;> first | exact .inl (hL (by decide)) | (refine .inr ?_; repeat' constructor));
        first
        | with_reducible exact hO
        | with_reducible refine rollbackAll_only (subParts hL) ?_
        | with_reducible refine updLane_only (subParts hL) ?_)
    | split

theorem forceSwitch_only {L : List Part} {z0 : State} {w : Switch} {s : State} (hL : [.records, .faultStore,
    .modRetired, .tuple, .modRest, .rings, .events, .slots, .recorder, .faults, .firmware, .gates, .clocks, .heat,
    .cycle, .change, .stores, .times, .network, .ile, .pair, .tripIo, .can, .analog, .out] ⊆ L)
    (hO : onlyChanges L z0 s) : onlyChanges L z0 (forceSwitch w s) := by
  unfold forceSwitch
  try dsimp only
  repeat' first
    | with_reducible exact hO
    | with_reducible refine occur_only (subParts hL) ?_
    | with_reducible refine domainReset_only (subParts hL) ?_
    | with_reducible refine switched_only (subParts hL) ?_
    | with_reducible refine pllAct_only (subParts hL) ?_
    | (with_reducible refine ite_only (fun _ => ?_) fun _ => ?_)
    | ((with_reducible refine update_only ?_ fun p => ?_); rotate_left;
        (cases p <;> first | exact .inl (hL (by decide)) | (refine .inr ?_; repeat' constructor));
        first
        | with_reducible exact hO
        | with_reducible refine occur_only (subParts hL) ?_
        | with_reducible refine domainReset_only (subParts hL) ?_
        | with_reducible refine switched_only (subParts hL) ?_
        | with_reducible refine pllAct_only (subParts hL) ?_
        | (with_reducible refine ite_only (fun _ => ?_) fun _ => ?_))
    | split

theorem bgHalt_only {L : List Part} {z0 : State} {s : State} (hL : [.selfTest, .clocks, .heat] ⊆ L)
    (hO : onlyChanges L z0 s) : onlyChanges L z0 (bgHalt s) := by
  unfold bgHalt
  try dsimp only
  repeat' first
    | with_reducible exact hO
    | with_reducible refine sliceStop_only (subParts hL) ?_
    | with_reducible refine bgWant_only (subParts hL) ?_
    | with_reducible refine foldl_only ?_ (fun _ _ _ => ?_)
    | with_reducible assumption
    | (with_reducible refine ite_only (fun _ => ?_) fun _ => ?_)
    | ((with_reducible refine update_only ?_ fun p => ?_); rotate_left;
        (cases p <;> first | exact .inl (hL (by decide)) | (refine .inr ?_; repeat' constructor));
        first
        | with_reducible exact hO
        | with_reducible refine sliceStop_only (subParts hL) ?_
        | with_reducible refine bgWant_only (subParts hL) ?_
        | with_reducible refine foldl_only ?_ (fun _ _ _ => ?_)
        | with_reducible assumption
        | (with_reducible refine ite_only (fun _ => ?_) fun _ => ?_))

theorem pfRecords_only {L : List Part} {z0 : State} {s : State} (hL : [.records, .events, .recorder] ⊆ L)
    (hO : onlyChanges L z0 s) : onlyChanges L z0 (pfRecords s) := by
  unfold pfRecords
  try dsimp only
  repeat' first
    | with_reducible exact hO
    | with_reducible refine occur_only (subParts hL) ?_
    | with_reducible refine flushAll_only (subParts hL) ?_
    | with_reducible refine flushCode_only (subParts hL) ?_
    | (with_reducible refine ite_only (fun _ => ?_) fun _ => ?_)
    | ((with_reducible refine update_only ?_ fun p => ?_); rotate_left;
        (cases p <;> first | exact .inl (hL (by decide)) | (refine .inr ?_; repeat' constructor));
        first
        | with_reducible exact hO
        | with_reducible refine occur_only (subParts hL) ?_
        | with_reducible refine flushAll_only (subParts hL) ?_
        | with_reducible refine flushCode_only (subParts hL) ?_
        | (with_reducible refine ite_only (fun _ => ?_) fun _ => ?_))

theorem powerStop_only {L : List Part} {z0 : State} {s : State} (hL : [.time, .records, .tuple, .refusal, .modRest,
    .rings, .events, .vectors, .slots, .hxpRest, .recorder, .faults, .selfTest, .firmware, .gates, .clocks, .heat,
    .contacts, .cycle, .change, .times, .network, .ile, .pair, .tripIo, .can, .analog, .memory] ⊆ L)
    (hO : onlyChanges L z0 s) : onlyChanges L z0 (powerStop s) := by
  unfold powerStop
  try dsimp only
  repeat' first
    | with_reducible exact hO
    | with_reducible refine moduleReset_only (subParts hL) ?_
    | (with_reducible refine ite_only (fun _ => ?_) fun _ => ?_)
    | ((with_reducible refine update_only ?_ fun p => ?_); rotate_left;
        (cases p <;> first | exact .inl (hL (by decide)) | (refine .inr ?_; repeat' constructor));
        first
        | with_reducible exact hO
        | with_reducible refine moduleReset_only (subParts hL) ?_
        | (with_reducible refine ite_only (fun _ => ?_) fun _ => ?_))

theorem ejectAct_only {L : List Part} {z0 : State} {s : State} (hL : [.records, .modRetired, .tuple, .modRest,
    .rings, .events, .slots, .recorder, .faults, .firmware, .gates, .clocks, .heat, .contacts, .cycle, .change,
    .stores, .network, .ile, .pair, .tripIo, .can, .analog, .out] ⊆ L)
    (hO : onlyChanges L z0 s) : onlyChanges L z0 (ejectAct s) := by
  unfold ejectAct
  try dsimp only
  repeat' first
    | with_reducible exact hO
    | with_reducible refine retireModule_only (subParts hL) ?_
    | with_reducible refine occur_only (subParts hL) ?_
    | (with_reducible refine ite_only (fun _ => ?_) fun _ => ?_)
    | ((with_reducible refine update_only ?_ fun p => ?_); rotate_left;
        (cases p <;> first | exact .inl (hL (by decide)) | (refine .inr ?_; repeat' constructor));
        first
        | with_reducible exact hO
        | with_reducible refine retireModule_only (subParts hL) ?_
        | with_reducible refine occur_only (subParts hL) ?_
        | (with_reducible refine ite_only (fun _ => ?_) fun _ => ?_))

theorem noteVerify_only {L : List Part} {z0 : State} {b : ℕ} {s : State} (hL : [.records, .events, .recorder] ⊆ L)
    (hO : onlyChanges L z0 s) : onlyChanges L z0 (noteVerify b s) := by
  unfold noteVerify
  try dsimp only
  repeat' first
    | with_reducible exact hO
    | with_reducible refine occur2_only (subParts hL) ?_
    | split

theorem runSlot_only {L : List Part} {z0 : State} {b : ℕ} {f : FwState} {cause : FbCause} {s : State} (hL : [.tuple,
    .modRest, .events, .slots, .firmware, .gates] ⊆ L)
    (hO : onlyChanges L z0 s) : onlyChanges L z0 (runSlot b f cause s) := by
  unfold runSlot
  try dsimp only
  repeat' first
    | with_reducible exact hO
    | with_reducible refine setFw_only (subParts hL) ?_
    | (with_reducible refine ite_only (fun _ => ?_) fun _ => ?_)
    | ((with_reducible refine update_only ?_ fun p => ?_); rotate_left;
        (cases p <;> first | exact .inl (hL (by decide)) | (refine .inr ?_; repeat' constructor));
        first
        | with_reducible exact hO
        | with_reducible refine setFw_only (subParts hL) ?_
        | (with_reducible refine ite_only (fun _ => ?_) fun _ => ?_))

theorem speedwellStart_only {L : List Part} {z0 : State} {s : State} (hL : [.firmware] ⊆ L)
    (hO : onlyChanges L z0 s) : onlyChanges L z0 (speedwellStart s) := by
  unfold speedwellStart
  try dsimp only
  repeat' first
    | with_reducible exact hO
    | ((with_reducible refine update_only ?_ fun p => ?_); rotate_left;
        (cases p <;> first | exact .inl (hL (by decide)) | (refine .inr ?_; repeat' constructor));
        first
        | with_reducible exact hO)

theorem formatBack_only {L : List Part} {z0 : State} {s : State} (hL : [.images] ⊆ L)
    (hO : onlyChanges L z0 s) : onlyChanges L z0 (formatBack s) := by
  unfold formatBack
  try dsimp only
  repeat' first
    | with_reducible exact hO
    | (with_reducible refine ite_only (fun _ => ?_) fun _ => ?_)
    | ((with_reducible refine update_only ?_ fun p => ?_); rotate_left;
        (cases p <;> first | exact .inl (hL (by decide)) | (refine .inr ?_; repeat' constructor));
        first
        | with_reducible exact hO
        | (with_reducible refine ite_only (fun _ => ?_) fun _ => ?_))

theorem chooseConf_only {L : List Part} {z0 : State} {s : State} (hL : [.records, .images, .tuple, .modRest,
    .events, .slots, .recorder, .firmware, .gates] ⊆ L)
    (hO : onlyChanges L z0 s) : onlyChanges L z0 (chooseConf s) := by
  unfold chooseConf
  try dsimp only
  repeat' first
    | with_reducible exact hO
    | with_reducible refine formatBack_only (subParts hL) ?_
    | with_reducible refine runSlot_only (subParts hL) ?_
    | with_reducible refine noteVerify_only (subParts hL) ?_
    | with_reducible refine speedwellStart_only (subParts hL) ?_
    | (with_reducible refine ite_only (fun _ => ?_) fun _ => ?_)

theorem chooseTry_only {L : List Part} {z0 : State} {s : State} (hL : [.records, .images, .tuple, .modRest, .events,
    .slots, .recorder, .firmware, .gates] ⊆ L)
    (hO : onlyChanges L z0 s) : onlyChanges L z0 (chooseTry s) := by
  unfold chooseTry
  try dsimp only
  repeat' first
    | with_reducible exact hO
    | with_reducible refine ptrPut_only (subParts hL) ?_
    | with_reducible refine runSlot_only (subParts hL) ?_
    | with_reducible refine chooseConf_only (subParts hL) ?_
    | with_reducible refine ptrFall_only (subParts hL) ?_
    | with_reducible refine noteVerify_only (subParts hL) ?_
    | (with_reducible refine ite_only (fun _ => ?_) fun _ => ?_)
    | split

theorem chooseSlot_only {L : List Part} {z0 : State} {s : State} (hL : [.records, .images, .tuple, .modRest,
    .events, .slots, .recorder, .firmware, .gates] ⊆ L)
    (hO : onlyChanges L z0 s) : onlyChanges L z0 (chooseSlot s) := by
  unfold chooseSlot
  try dsimp only
  repeat' first
    | with_reducible exact hO
    | with_reducible refine speedwellStart_only (subParts hL) ?_
    | with_reducible refine chooseTry_only (subParts hL) ?_
    | with_reducible refine ptrFall_only (subParts hL) ?_
    | (with_reducible refine ite_only (fun _ => ?_) fun _ => ?_)

theorem bootTest_only {L : List Part} {z0 : State} {r : Bool × State} {f : Nat × Nat} (hL : [.records, .faultStore,
    .modRetired, .tuple, .modRest, .rings, .events, .vectors, .slots, .hxpRest, .recorder, .faults, .selfTest,
    .firmware, .gates, .clocks, .heat, .cycle, .change, .stores, .network, .ile, .pair, .tripIo, .can, .analog,
    .out] ⊆ L)
    (hO : onlyChanges L z0 r.2) : onlyChanges L z0 (bootTest r f).2 := by
  have h : ∀ src : Nat, onlyChanges L z0 (occur Code.bstFail src 0 { r.2 with
      bst := { r.2.bst with fails := satInc 0xFF r.2.bst.fails, lastSrc := src, lastKind := f.1 }
      fwu := { r.2.fwu with bstOk := false } }) := by
    intro src
    refine occur_only (subParts hL) (update_only hO fun p => ?_)
    cases p <;> first | exact .inl (hL (by decide)) | (refine .inr ?_; repeat' constructor)
  have k : ∀ (us : List UnitId) (n : Nat) (s : State), onlyChanges L z0 s →
      onlyChanges L z0 (us.foldl (fun s u => retireUnit u n s) s) :=
    fun _ _ _ a => foldl_only a fun _ _ hs => retireUnit_only (subParts hL) hs
  unfold bootTest
  dsimp only
  split
  · exact hO
  · revert h
    generalize (if f.1 = 4 ∨ f.1 = 5 ∨ f.1 = 6 then Src.flt else f.2) = src
    intro h
    replace h := h src
    revert h
    generalize occur Code.bstFail src 0 _ = x
    intro h
    split
    · exact rowFault_only (subParts hL) h
    · exact rowFault_only (subParts hL) h
    · exact rowFault_only (subParts hL) h
    · split
      · exact h
      · refine foldl_only h fun s u hs => ?_
        split
        · exact engineTestFail_only (subParts hL) hs
        · exact hs
    · exact k _ _ _ h
    · exact k _ _ _ h
    · exact k _ _ _ h
    · exact k _ _ _ h
    · exact h

theorem bootKinds_only {L : List Part} {z0 : State} {k : ℕ} {fails : List (ℕ × ℕ)} {s : State} (hL : [.selfTest] ⊆
    L)
    (hO : onlyChanges L z0 s) : onlyChanges L z0 (bootKinds k fails s) := by
  unfold bootKinds
  try dsimp only
  repeat' first
    | with_reducible exact hO
    | (with_reducible refine ite_only (fun _ => ?_) fun _ => ?_)
    | ((with_reducible refine update_only ?_ fun p => ?_); rotate_left;
        (cases p <;> first | exact .inl (hL (by decide)) | (refine .inr ?_; repeat' constructor));
        first
        | with_reducible exact hO
        | (with_reducible refine ite_only (fun _ => ?_) fun _ => ?_))

theorem bootFail_only {L : List Part} {z0 : State} {s : State} (hL : [.time, .records, .images, .modRetired, .tuple,
    .refusal, .modRest, .rings, .events, .vectors, .slots, .hxpRest, .recorder, .faults, .selfTest, .firmware,
    .gates, .clocks, .heat, .contacts, .cycle, .change, .stores, .times, .network, .ile, .pair, .tripIo, .can,
    .analog, .memory, .out] ⊆ L)
    (hO : onlyChanges L z0 s) : onlyChanges L z0 (bootFail s) := by
  unfold bootFail
  try dsimp only
  repeat' first
    | with_reducible exact hO
    | with_reducible refine moduleReset_only (subParts hL) ?_
    | with_reducible refine ptrFall_only (subParts hL) ?_
    | with_reducible refine retireModule_only (subParts hL) ?_
    | (with_reducible refine ite_only (fun _ => ?_) fun _ => ?_)
    | ((with_reducible refine update_only ?_ fun p => ?_); rotate_left;
        (cases p <;> first | exact .inl (hL (by decide)) | (refine .inr ?_; repeat' constructor));
        first
        | with_reducible exact hO
        | with_reducible refine moduleReset_only (subParts hL) ?_
        | with_reducible refine ptrFall_only (subParts hL) ?_
        | with_reducible refine retireModule_only (subParts hL) ?_
        | (with_reducible refine ite_only (fun _ => ?_) fun _ => ?_))

theorem formatConvert_only {L : List Part} {z0 : State} {s : State} (hL : [.records, .images, .events, .recorder] ⊆
    L)
    (hO : onlyChanges L z0 s) : onlyChanges L z0 (formatConvert s) := by
  unfold formatConvert
  try dsimp only
  repeat' first
    | with_reducible exact hO
    | with_reducible refine occur2_only (subParts hL) ?_
    | (with_reducible refine ite_only (fun _ => ?_) fun _ => ?_)
    | ((with_reducible refine update_only ?_ fun p => ?_); rotate_left;
        (cases p <;> first | exact .inl (hL (by decide)) | (refine .inr ?_; repeat' constructor));
        first
        | with_reducible exact hO
        | with_reducible refine occur2_only (subParts hL) ?_
        | (with_reducible refine ite_only (fun _ => ?_) fun _ => ?_))
    | split

theorem loadStore_only {L : List Part} {z0 : State} {b : BootIn} {s : State} (hL : [.records, .tuple, .modRest,
    .rings, .events, .slots, .recorder, .clocks, .heat, .cycle, .change, .stores, .network, .ile, .tripIo, .can,
    .analog, .out] ⊆ L)
    (hO : onlyChanges L z0 s) : onlyChanges L z0 (loadStore b s) := by
  unfold loadStore
  try dsimp only
  repeat' first
    | with_reducible exact hO
    | with_reducible refine genInstall_only (subParts hL) ?_
    | with_reducible refine setChange_only (subParts hL) ?_
    | with_reducible refine migCodes_only (subParts hL) ?_
    | with_reducible refine occurU_only (subParts hL) ?_
    | with_reducible refine saveGens_only (subParts hL) ?_
    | with_reducible refine blockedLoad_only (subParts hL) ?_
    | (with_reducible refine ite_only (fun _ => ?_) fun _ => ?_)
    | ((with_reducible refine update_only ?_ fun p => ?_); rotate_left;
        (cases p <;> first | exact .inl (hL (by decide)) | (refine .inr ?_; repeat' constructor));
        first
        | with_reducible exact hO
        | with_reducible refine genInstall_only (subParts hL) ?_
        | with_reducible refine setChange_only (subParts hL) ?_
        | with_reducible refine migCodes_only (subParts hL) ?_
        | with_reducible refine occurU_only (subParts hL) ?_
        | with_reducible refine saveGens_only (subParts hL) ?_
        | with_reducible refine blockedLoad_only (subParts hL) ?_
        | (with_reducible refine ite_only (fun _ => ?_) fun _ => ?_))
    | split

theorem bootRetired_only {L : List Part} {z0 : State} {c : RetireCause} {s : State} (hL : [.records, .tuple,
    .modRest, .rings, .events, .slots, .recorder, .firmware, .network, .ile, .pair, .tripIo, .can, .analog, .out] ⊆
    L)
    (hO : onlyChanges L z0 s) : onlyChanges L z0 (bootRetired c s) := by
  unfold bootRetired
  try dsimp only
  repeat' first
    | with_reducible exact hO
    | with_reducible refine setTuple_only (subParts hL) ?_
    | with_reducible refine retireOutputs_only (subParts hL) ?_
    | with_reducible refine retireLinks_only (subParts hL) ?_
    | (with_reducible refine ite_only (fun _ => ?_) fun _ => ?_)
    | ((with_reducible refine update_only ?_ fun p => ?_); rotate_left;
        (cases p <;> first | exact .inl (hL (by decide)) | (refine .inr ?_; repeat' constructor));
        first
        | with_reducible exact hO
        | with_reducible refine setTuple_only (subParts hL) ?_
        | with_reducible refine retireOutputs_only (subParts hL) ?_
        | with_reducible refine retireLinks_only (subParts hL) ?_
        | (with_reducible refine ite_only (fun _ => ?_) fun _ => ?_))

theorem bootBegin_only {L : List Part} {z0 : State} {s : State} (hL : [.selfTest, .firmware, .clocks, .heat, .cycle,
    .times, .pair] ⊆ L)
    (hO : onlyChanges L z0 s) : onlyChanges L z0 (bootBegin s) := by
  unfold bootBegin
  try dsimp only
  repeat' first
    | with_reducible exact hO
    | with_reducible refine gateClose_only (subParts hL) ?_
    | ((with_reducible refine update_only ?_ fun p => ?_); rotate_left;
        (cases p <;> first | exact .inl (hL (by decide)) | (refine .inr ?_; repeat' constructor));
        first
        | with_reducible exact hO
        | with_reducible refine gateClose_only (subParts hL) ?_)

theorem bootEngine_only {L : List Part} {z0 : State} {r : Role} {s : State} (hL : [.records, .rings, .events,
    .recorder, .cycle, .stores, .ile, .pair, .tripIo, .can, .analog, .out, .free] ⊆ L)
    (hO : onlyChanges L z0 s) : onlyChanges L z0 (bootEngine r s) := by
  unfold bootEngine
  try dsimp only
  repeat' first
    | with_reducible exact hO
    | with_reducible refine beginResync_only (subParts hL) ?_
    | with_reducible refine ileCold_only (subParts hL) ?_
    | with_reducible refine applyLocal_only (subParts hL) ?_
    | with_reducible refine flip_only (subParts hL) ?_
    | (with_reducible refine ite_only (fun _ => ?_) fun _ => ?_)
    | ((with_reducible refine update_only ?_ fun p => ?_); rotate_left;
        (cases p <;> first | exact .inl (hL (by decide)) | (refine .inr ?_; repeat' constructor));
        first
        | with_reducible exact hO
        | with_reducible refine beginResync_only (subParts hL) ?_
        | with_reducible refine ileCold_only (subParts hL) ?_
        | with_reducible refine applyLocal_only (subParts hL) ?_
        | with_reducible refine flip_only (subParts hL) ?_
        | (with_reducible refine ite_only (fun _ => ?_) fun _ => ?_))
    | split

theorem bootLast_only {L : List Part} {z0 : State} {s : State} (hL : [.records, .modRetired, .tuple, .modRest,
    .rings, .events, .slots, .recorder, .faults, .firmware, .gates, .clocks, .heat, .contacts, .cycle, .change,
    .stores, .network, .ile, .pair, .tripIo, .can, .analog, .out] ⊆ L)
    (hO : onlyChanges L z0 s) : onlyChanges L z0 (bootLast s) := by
  unfold bootLast
  try dsimp only
  repeat' first
    | with_reducible exact hO
    | with_reducible refine ejectAct_only (subParts hL) ?_
    | (with_reducible refine ite_only (fun _ => ?_) fun _ => ?_)
    | ((with_reducible refine update_only ?_ fun p => ?_); rotate_left;
        (cases p <;> first | exact .inl (hL (by decide)) | (refine .inr ?_; repeat' constructor));
        first
        | with_reducible exact hO
        | with_reducible refine ejectAct_only (subParts hL) ?_
        | (with_reducible refine ite_only (fun _ => ?_) fun _ => ?_))

theorem bootRole_only {L : List Part} {z0 : State} {r : Role} {s : State} (hL : [.records, .modRetired, .tuple,
    .modRest, .rings, .events, .slots, .recorder, .faults, .selfTest, .firmware, .gates, .clocks, .heat, .contacts,
    .cycle, .change, .stores, .times, .network, .ile, .pair, .tripIo, .can, .analog, .out, .free] ⊆ L)
    (hO : onlyChanges L z0 s) : onlyChanges L z0 (bootRole r s) := by
  unfold bootRole
  try dsimp only
  repeat' first
    | with_reducible exact hO
    | with_reducible refine setTuple_only (subParts hL) ?_
    | with_reducible refine bootBegin_only (subParts hL) ?_
    | with_reducible refine setNet_only (subParts hL) ?_
    | with_reducible refine lanesBoot_only (subParts hL) ?_
    | with_reducible refine takeRecord_only (subParts hL) ?_
    | with_reducible refine bootLast_only (subParts hL) ?_
    | with_reducible refine bgWant_only (subParts hL) ?_
    | with_reducible refine alSettleAll_only (subParts hL) ?_
    | with_reducible refine bootEngine_only (subParts hL) ?_
    | (with_reducible refine ite_only (fun _ => ?_) fun _ => ?_)

theorem bootSettle_only {L : List Part} {z0 : State} {s : State} (hL : [.records, .modRetired, .tuple, .modRest,
    .rings, .events, .slots, .recorder, .faults, .selfTest, .firmware, .gates, .clocks, .heat, .contacts, .cycle,
    .change, .stores, .times, .network, .ile, .pair, .tripIo, .can, .analog, .out, .free] ⊆ L)
    (hO : onlyChanges L z0 s) : onlyChanges L z0 (bootSettle s) := by
  unfold bootSettle
  try dsimp only
  repeat' first
    | with_reducible exact hO
    | with_reducible refine bootRole_only (subParts hL) ?_
    | ((with_reducible refine update_only ?_ fun p => ?_); rotate_left;
        (cases p <;> first | exact .inl (hL (by decide)) | (refine .inr ?_; repeat' constructor));
        first
        | with_reducible exact hO
        | with_reducible refine bootRole_only (subParts hL) ?_)
    | split

theorem bootCodes_only {L : List Part} {z0 : State} {s : State} (hL : [.records, .images, .events, .recorder] ⊆ L)
    (hO : onlyChanges L z0 s) : onlyChanges L z0 (bootCodes s) := by
  unfold bootCodes
  try dsimp only
  repeat' first
    | with_reducible exact hO
    | with_reducible refine occurU_only (subParts hL) ?_
    | with_reducible refine occur_only (subParts hL) ?_
    | (with_reducible refine ite_only (fun _ => ?_) fun _ => ?_)
    | ((with_reducible refine update_only ?_ fun p => ?_); rotate_left;
        (cases p <;> first | exact .inl (hL (by decide)) | (refine .inr ?_; repeat' constructor));
        first
        | with_reducible exact hO
        | with_reducible refine occurU_only (subParts hL) ?_
        | with_reducible refine occur_only (subParts hL) ?_
        | (with_reducible refine ite_only (fun _ => ?_) fun _ => ?_))

theorem bootEnd_only {L : List Part} {z0 : State} {s : State} (hL : [.time, .records, .images, .modRetired, .tuple,
    .refusal, .modRest, .rings, .events, .vectors, .slots, .hxpRest, .recorder, .faults, .selfTest, .firmware,
    .gates, .clocks, .heat, .contacts, .cycle, .change, .stores, .times, .network, .ile, .pair, .tripIo, .can,
    .analog, .memory, .out, .free] ⊆ L)
    (hO : onlyChanges L z0 s) : onlyChanges L z0 (bootEnd s) := by
  have h : onlyChanges L z0 (armGates s.chg.cur.gates { s with bst := { s.bst with bootDone := true } }) :=
    armGates_only (subParts hL) (bst_only (hL (by decide)) hO)
  have k := bootCodes_only (L := L) (subParts hL) h
  unfold bootEnd
  dsimp only
  refine ite_only (fun _ => ?_) fun _ => ?_
  · exact bootFail_only (subParts hL) h
  · revert k
    generalize bootCodes _ = x
    intro k
    split
    · refine takeRecord_only (subParts hL) (bootRetired_only (subParts hL) (update_only k fun p => ?_))
      cases p <;> first | exact .inl (hL (by decide)) | (refine .inr ?_; repeat' constructor)
    · exact bootSettle_only (subParts hL) (fwu_only (hL (by decide)) k)

theorem unitGates_only {L : List Part} {z0 : State} {s : State} (hL : [.clocks] ⊆ L)
    (hO : onlyChanges L z0 s) : onlyChanges L z0 (unitGates s) := by
  unfold unitGates
  try dsimp only
  repeat' first
    | with_reducible exact hO
    | with_reducible refine gateOpen_only (subParts hL) ?_
    | with_reducible refine foldl_only ?_ (fun _ _ _ => ?_)
    | with_reducible assumption
    | (with_reducible refine ite_only (fun _ => ?_) fun _ => ?_)

theorem bootStepAct_only {L : List Part} {z0 : State} {k : ℕ} {b : BootIn} {s : State} (hL : [.time, .records,
    .images, .modRetired, .tuple, .refusal, .modRest, .rings, .events, .vectors, .slots, .hxpRest, .recorder,
    .faults, .selfTest, .firmware, .gates, .clocks, .heat, .contacts, .cycle, .change, .stores, .times, .network,
    .ile, .pair, .tripIo, .can, .analog, .memory, .out, .free] ⊆ L)
    (hO : onlyChanges L z0 s) : onlyChanges L z0 (bootStepAct k b s) := by
  unfold bootStepAct
  try dsimp only
  repeat' first
    | with_reducible exact hO
    | with_reducible refine chooseSlot_only (subParts hL) ?_
    | with_reducible refine unitGates_only (subParts hL) ?_
    | with_reducible refine loadStore_only (subParts hL) ?_
    | with_reducible refine formatConvert_only (subParts hL) ?_
    | with_reducible refine bootEnd_only (subParts hL) ?_
    | (with_reducible refine ite_only (fun _ => ?_) fun _ => ?_)
    | ((with_reducible refine update_only ?_ fun p => ?_); rotate_left;
        (cases p <;> first | exact .inl (hL (by decide)) | (refine .inr ?_; repeat' constructor));
        first
        | with_reducible exact hO
        | with_reducible refine chooseSlot_only (subParts hL) ?_
        | with_reducible refine unitGates_only (subParts hL) ?_
        | with_reducible refine loadStore_only (subParts hL) ?_
        | with_reducible refine formatConvert_only (subParts hL) ?_
        | with_reducible refine bootEnd_only (subParts hL) ?_
        | (with_reducible refine ite_only (fun _ => ?_) fun _ => ?_))
    | split

theorem presDropArb_only {L : List Part} {z0 : State} {solo : Bool} {s : State} (hL : [.modRest, .pair] ⊆ L)
    (hO : onlyChanges L z0 s) : onlyChanges L z0 (presDropArb solo s) := by
  unfold presDropArb
  try dsimp only
  repeat' first
    | with_reducible exact hO
    | ((with_reducible refine update_only ?_ fun p => ?_); rotate_left;
        (cases p <;> first | exact .inl (hL (by decide)) | (refine .inr ?_; repeat' constructor));
        first
        | with_reducible exact hO)

end Sys2Proof.Machine
end

