-- ==== Sys2Proof/Laws/FrameHost.lean ====
section
/-! SUPPORT. What each operation of the host commands, the gates of memory and the service line may change. -/

namespace Sys2Proof.Machine

set_option Elab.async false
set_option linter.unusedTactic false
set_option linter.unreachableTactic false

theorem ranged_only {L : List Part} {z0 : State} {ok : Bool} {c : Call} {op : ℕ} {f : State → State} {s : State} (hL
    : [.rings] ⊆ L)
    (hO : onlyChanges L z0 s)
    (k_f : ∀ z : State, onlyChanges L z0 z → onlyChanges L z0 (f z)) : onlyChanges L z0 (ranged ok c op f s) := by
  unfold ranged
  try dsimp only
  repeat' first
    | with_reducible exact hO
    | with_reducible apply k_f
    | with_reducible refine fail_only (subParts hL) ?_
    | (with_reducible refine ite_only (fun _ => ?_) fun _ => ?_)

theorem serve_only {L : List Part} {z0 : State} {c : Call} {f : Call → State → State} {s : State} (hL : [.rings,
    .hxpRest] ⊆ L)
    (hO : onlyChanges L z0 s)
    (k_f : ∀ a0 z, onlyChanges L z0 z → onlyChanges L z0 (f a0 z)) : onlyChanges L z0 (serve c f s) := by
  unfold serve
  try dsimp only
  repeat' first
    | with_reducible exact hO
    | with_reducible apply k_f
    | with_reducible refine fetchOne_only (subParts hL) ?_
    | (with_reducible refine ite_only (fun _ => ?_) fun _ => ?_)

theorem serveTurn_only {L : List Part} {z0 : State} {c : Call} {f : Call → State → State} {s : State} (hL : [.rings,
    .hxpRest] ⊆ L)
    (hO : onlyChanges L z0 s)
    (k_f : ∀ a0 z, onlyChanges L z0 z → onlyChanges L z0 (f a0 z)) : onlyChanges L z0 (serveTurn c f s) := by
  unfold serveTurn
  try dsimp only
  repeat' first
    | with_reducible exact hO
    | with_reducible apply k_f
    | with_reducible refine serve_only (subParts hL) ?_ (fun _ _ _ => ?_)
    | with_reducible assumption
    | (with_reducible refine ite_only (fun _ => ?_) fun _ => ?_)

theorem acceptOn_only {L : List Part} {z0 : State} {c : Call} {op : ℕ} {req : ℕ} {on : ℕ} {f : State → State} {s :
    State} (hL : [.records, .refusal, .rings, .events, .recorder] ⊆ L)
    (hO : onlyChanges L z0 s)
    (k_f : ∀ z : State, onlyChanges L z0 z → onlyChanges L z0 (f z)) : onlyChanges L z0 (acceptOn c op req on f s) := by
  unfold acceptOn
  try dsimp only
  repeat' first
    | with_reducible exact hO
    | with_reducible apply k_f
    | with_reducible refine fail_only (subParts hL) ?_
    | with_reducible refine refuse_only (subParts hL) ?_
    | (with_reducible refine ite_only (fun _ => ?_) fun _ => ?_)

theorem opening_only {L : List Part} {z0 : State} {c : Call} {op : ℕ} {req : ℕ} {on : ℕ} {needs : Bool} {bufOk :
    Bool} {f : State → State} {s : State} (hL : [.records, .refusal, .rings, .events, .recorder] ⊆ L)
    (hO : onlyChanges L z0 s)
    (k_f : ∀ z : State, onlyChanges L z0 z → onlyChanges L z0 (f z)) : onlyChanges L z0 (opening c op req on needs bufOk f s) := by
  unfold opening
  try dsimp only
  repeat' first
    | with_reducible exact hO
    | with_reducible apply k_f
    | with_reducible refine fail_only (subParts hL) ?_
    | with_reducible refine acceptOn_only (subParts hL) ?_ (fun _ _ => ?_)
    | with_reducible assumption
    | (with_reducible refine ite_only (fun _ => ?_) fun _ => ?_)

theorem grantFail_only {L : List Part} {z0 : State} {c : Call} {op : ℕ} {st : Status} {slot : ℕ} {s : State} (hL :
    [.records, .rings, .events, .hxpRest, .recorder] ⊆ L)
    (hO : onlyChanges L z0 s) : onlyChanges L z0 (grantFail c op st slot s) := by
  unfold grantFail
  try dsimp only
  repeat' first
    | with_reducible exact hO
    | with_reducible refine occur2_only (subParts hL) ?_
    | with_reducible refine fail_only (subParts hL) ?_
    | ((with_reducible refine update_only ?_ fun p => ?_); rotate_left;
        (cases p <;> first | exact .inl (hL (by decide)) | (refine .inr ?_; repeat' constructor));
        first
        | with_reducible exact hO
        | with_reducible refine occur2_only (subParts hL) ?_
        | with_reducible refine fail_only (subParts hL) ?_)

theorem nonceKeep_only {L : List Part} {z0 : State} {g : Grant} {s : State} (hL : [.nonces] ⊆ L)
    (hO : onlyChanges L z0 s) : onlyChanges L z0 (nonceKeep g s) := by
  unfold nonceKeep
  try dsimp only
  repeat' first
    | with_reducible exact hO
    | ((with_reducible refine update_only ?_ fun p => ?_); rotate_left;
        (cases p <;> first | exact .inl (hL (by decide)) | (refine .inr ?_; repeat' constructor));
        first
        | with_reducible exact hO)

theorem withGrantOr_only {L : List Part} {z0 : State} {onFail : State → State} {c : Call} {op : ℕ} {role : ℕ} {free
    : Bool} {tgt : List Byte → Bool} {f : Grant → State → State} {s : State} (hL : [.records, .nonces, .rings,
    .events, .hxpRest, .recorder] ⊆ L)
    (hO : onlyChanges L z0 s)
    (k_onFail : ∀ z : State, onlyChanges L z0 z → onlyChanges L z0 (onFail z))
    (k_f : ∀ a0 z, onlyChanges L z0 z → onlyChanges L z0 (f a0 z)) : onlyChanges L z0 (withGrantOr onFail c op role free tgt f s) := by
  unfold withGrantOr
  try dsimp only
  repeat' first
    | with_reducible exact hO
    | with_reducible apply k_onFail
    | with_reducible apply k_f
    | with_reducible refine grantFail_only (subParts hL) ?_
    | with_reducible refine fail_only (subParts hL) ?_
    | with_reducible refine nonceKeep_only (subParts hL) ?_
    | split

theorem withGrant_only {L : List Part} {z0 : State} {c : Call} {op role : Nat} {free : Bool} {tgt : List Byte →
    Bool} {f : Grant → State → State} {s : State} (hL : [.records, .nonces, .rings, .events, .hxpRest, .recorder] ⊆
    L)
    (hO : onlyChanges L z0 s)
    (k_f : ∀ a0 z, onlyChanges L z0 z → onlyChanges L z0 (f a0 z)) :
    onlyChanges L z0 (withGrant c op role free tgt f s) := by
  unfold withGrant
  exact withGrantOr_only (subParts hL) hO (fun _ h => h) k_f

theorem withFwGrant_only {L : List Part} {z0 : State} {c : Call} {op : ℕ} {tgt : List Byte → Bool} {f : State →
    State} {s : State} (hL : [.records, .nonces, .rings, .events, .hxpRest, .recorder] ⊆ L)
    (hO : onlyChanges L z0 s)
    (k_f : ∀ z : State, onlyChanges L z0 z → onlyChanges L z0 (f z)) : onlyChanges L z0 (withFwGrant c op tgt f s) := by
  unfold withFwGrant
  try dsimp only
  repeat' first
    | with_reducible exact hO
    | with_reducible apply k_f
    | with_reducible refine withGrant_only (subParts hL) ?_ (fun _ _ _ => ?_)
    | with_reducible assumption
    | (with_reducible refine ite_only (fun _ => ?_) fun _ => ?_)

theorem notBusy_only {L : List Part} {z0 : State} {c : Call} {op : ℕ} {req : ℕ} {f : State → State} {s : State} (hL
    : [.records, .refusal, .rings, .events, .recorder] ⊆ L)
    (hO : onlyChanges L z0 s)
    (k_f : ∀ z : State, onlyChanges L z0 z → onlyChanges L z0 (f z)) : onlyChanges L z0 (notBusy c op req f s) := by
  unfold notBusy
  try dsimp only
  repeat' first
    | with_reducible exact hO
    | with_reducible apply k_f
    | with_reducible refine refuse_only (subParts hL) ?_
    | (with_reducible refine ite_only (fun _ => ?_) fun _ => ?_)

theorem await_only {L : List Part} {z0 : State} {c : Call} {op : ℕ} {req : ℕ} {body : Pend} {s : State} (hL :
    [.cycle] ⊆ L)
    (hO : onlyChanges L z0 s) : onlyChanges L z0 (await c op req body s) := by
  unfold await
  try dsimp only
  repeat' first
    | with_reducible exact hO
    | with_reducible refine pushPend_only (subParts hL) ?_

theorem stageRefused_only {L : List Part} {z0 : State} {s : State} (hL : [.records, .events, .recorder] ⊆ L)
    (hO : onlyChanges L z0 s) : onlyChanges L z0 (stageRefused s) := by
  unfold stageRefused
  try dsimp only
  repeat' first
    | with_reducible exact hO
    | with_reducible refine occur_only (subParts hL) ?_

theorem stageBegin_only {L : List Part} {z0 : State} {op : ℕ} {box : Container} {c : Call} {s : State} (hL : [.heat,
    .change, .pair, .out] ⊆ L)
    (hO : onlyChanges L z0 s) : onlyChanges L z0 (stageBegin op box c s) := by
  unfold stageBegin
  try dsimp only
  repeat' first
    | with_reducible exact hO
    | with_reducible refine relay_only (subParts hL) ?_
    | with_reducible refine bgWant_only (subParts hL) ?_
    | ((with_reducible refine update_only ?_ fun p => ?_); rotate_left;
        (cases p <;> first | exact .inl (hL (by decide)) | (refine .inr ?_; repeat' constructor));
        first
        | with_reducible exact hO
        | with_reducible refine relay_only (subParts hL) ?_
        | with_reducible refine bgWant_only (subParts hL) ?_)

theorem stageEnter_only {L : List Part} {z0 : State} {op : ℕ} {c : Call} {f : State → State} {s : State} (hL :
    [.records, .refusal, .rings, .events, .recorder] ⊆ L)
    (hO : onlyChanges L z0 s)
    (k_f : ∀ z : State, onlyChanges L z0 z → onlyChanges L z0 (f z)) : onlyChanges L z0 (stageEnter op c f s) := by
  unfold stageEnter
  try dsimp only
  repeat' first
    | with_reducible exact hO
    | with_reducible apply k_f
    | with_reducible refine stageRefused_only (subParts hL) ?_
    | with_reducible refine refuse_only (subParts hL) ?_
    | with_reducible refine fail_only (subParts hL) ?_
    | (with_reducible refine ite_only (fun _ => ?_) fun _ => ?_)
    | split

theorem opStage_only {L : List Part} {z0 : State} {box : Container} {c : Call} {s : State} (hL : [.records, .nonces,
    .refusal, .rings, .events, .hxpRest, .recorder, .heat, .change, .pair, .out] ⊆ L)
    (hO : onlyChanges L z0 s) : onlyChanges L z0 (opStage box c s) := by
  unfold opStage
  try dsimp only
  repeat' first
    | with_reducible exact hO
    | with_reducible refine opening_only (subParts hL) ?_ (fun _ _ => ?_)
    | with_reducible refine withGrantOr_only (subParts hL) ?_ (fun _ _ => ?_) (fun _ _ _ => ?_)
    | with_reducible refine stageRefused_only (subParts hL) ?_
    | with_reducible refine stageEnter_only (subParts hL) ?_ (fun _ _ => ?_)
    | with_reducible refine stageBegin_only (subParts hL) ?_
    | with_reducible assumption

theorem opGenSelect_only {L : List Part} {z0 : State} {gen : ℕ} {c : Call} {s : State} (hL : [.records, .nonces,
    .refusal, .rings, .events, .hxpRest, .recorder, .heat, .change, .pair, .out] ⊆ L)
    (hO : onlyChanges L z0 s) : onlyChanges L z0 (opGenSelect gen c s) := by
  unfold opGenSelect
  try dsimp only
  repeat' first
    | with_reducible exact hO
    | with_reducible refine opening_only (subParts hL) ?_ (fun _ _ => ?_)
    | with_reducible refine withGrantOr_only (subParts hL) ?_ (fun _ _ => ?_) (fun _ _ _ => ?_)
    | with_reducible refine stageRefused_only (subParts hL) ?_
    | with_reducible refine stageEnter_only (subParts hL) ?_ (fun _ _ => ?_)
    | with_reducible refine stageBegin_only (subParts hL) ?_
    | with_reducible refine fail_only (subParts hL) ?_
    | with_reducible assumption
    | split

theorem changeCmd_only {L : List Part} {z0 : State} {op : ℕ} {req : ℕ} {role : ℕ} {body : Pend} {tgt : List Byte →
    Bool} {c : Call} {s : State} (hL : [.records, .nonces, .refusal, .rings, .events, .hxpRest, .recorder, .cycle] ⊆
    L)
    (hO : onlyChanges L z0 s) : onlyChanges L z0 (changeCmd op req role body tgt c s) := by
  unfold changeCmd
  try dsimp only
  repeat' first
    | with_reducible exact hO
    | with_reducible refine opening_only (subParts hL) ?_ (fun _ _ => ?_)
    | with_reducible refine withGrant_only (subParts hL) ?_ (fun _ _ _ => ?_)
    | with_reducible refine notBusy_only (subParts hL) ?_ (fun _ _ => ?_)
    | with_reducible refine await_only (subParts hL) ?_
    | with_reducible assumption

theorem opSwitch_only {L : List Part} {z0 : State} {cycle : ℕ} {c : Call} {s : State} (hL : [.records, .nonces,
    .refusal, .rings, .events, .hxpRest, .recorder, .cycle] ⊆ L)
    (hO : onlyChanges L z0 s) : onlyChanges L z0 (opSwitch cycle c s) := by
  unfold opSwitch
  try dsimp only
  repeat' first
    | with_reducible exact hO
    | with_reducible refine changeCmd_only (subParts hL) ?_

theorem opConfirm_only {L : List Part} {z0 : State} {gen : ℕ} {c : Call} {s : State} (hL : [.records, .nonces,
    .refusal, .rings, .events, .hxpRest, .recorder, .cycle] ⊆ L)
    (hO : onlyChanges L z0 s) : onlyChanges L z0 (opConfirm gen c s) := by
  unfold opConfirm
  try dsimp only
  repeat' first
    | with_reducible exact hO
    | with_reducible refine changeCmd_only (subParts hL) ?_

theorem opRevert_only {L : List Part} {z0 : State} {gen : ℕ} {c : Call} {s : State} (hL : [.records, .nonces,
    .refusal, .rings, .events, .hxpRest, .recorder, .cycle] ⊆ L)
    (hO : onlyChanges L z0 s) : onlyChanges L z0 (opRevert gen c s) := by
  unfold opRevert
  try dsimp only
  repeat' first
    | with_reducible exact hO
    | with_reducible refine changeCmd_only (subParts hL) ?_

theorem opDiscard_only {L : List Part} {z0 : State} {gen : ℕ} {c : Call} {s : State} (hL : [.records, .nonces,
    .refusal, .rings, .events, .hxpRest, .recorder, .cycle] ⊆ L)
    (hO : onlyChanges L z0 s) : onlyChanges L z0 (opDiscard gen c s) := by
  unfold opDiscard
  try dsimp only
  repeat' first
    | with_reducible exact hO
    | with_reducible refine changeCmd_only (subParts hL) ?_

theorem opCcvConfirm_only {L : List Part} {z0 : State} {ccv : ℕ} {gen : ℕ} {c : Call} {s : State} (hL : [.records,
    .nonces, .refusal, .rings, .events, .hxpRest, .recorder, .cycle] ⊆ L)
    (hO : onlyChanges L z0 s) : onlyChanges L z0 (opCcvConfirm ccv gen c s) := by
  unfold opCcvConfirm
  try dsimp only
  repeat' first
    | with_reducible exact hO
    | with_reducible refine opening_only (subParts hL) ?_ (fun _ _ => ?_)
    | with_reducible refine withGrant_only (subParts hL) ?_ (fun _ _ _ => ?_)
    | with_reducible refine fail_only (subParts hL) ?_
    | with_reducible refine await_only (subParts hL) ?_
    | with_reducible assumption
    | (with_reducible refine ite_only (fun _ => ?_) fun _ => ?_)

theorem stageAbort_only {L : List Part} {z0 : State} {st : Status} {s : State} (hL : [.records, .rings, .events,
    .recorder, .change, .pair, .out] ⊆ L)
    (hO : onlyChanges L z0 s) : onlyChanges L z0 (stageAbort st s) := by
  unfold stageAbort
  try dsimp only
  repeat' first
    | with_reducible exact hO
    | with_reducible refine relay_only (subParts hL) ?_
    | with_reducible refine stageFail_only (subParts hL) ?_

theorem stageReady_only {L : List Part} {z0 : State} {s : State} (hL : [.cycle] ⊆ L)
    (hO : onlyChanges L z0 s) : onlyChanges L z0 (stageReady s) := by
  unfold stageReady
  try dsimp only
  repeat' first
    | with_reducible exact hO
    | with_reducible refine pushPend_only (subParts hL) ?_
    | (with_reducible refine ite_only (fun _ => ?_) fun _ => ?_)
    | split

theorem ownChecks_only {L : List Part} {z0 : State} {j : StageJob} {s : State} (hL : [.records, .rings, .events,
    .recorder, .heat, .cycle, .change, .pair, .out] ⊆ L)
    (hO : onlyChanges L z0 s) : onlyChanges L z0 (ownChecks j s) := by
  unfold ownChecks
  try dsimp only
  repeat' first
    | with_reducible exact hO
    | with_reducible refine bgUnwant_only (subParts hL) ?_
    | with_reducible refine sendP0_only (subParts hL) ?_
    | with_reducible refine occur_only (subParts hL) ?_
    | with_reducible refine stageAbort_only (subParts hL) ?_
    | with_reducible refine stageReady_only (subParts hL) ?_
    | (with_reducible refine ite_only (fun _ => ?_) fun _ => ?_)
    | ((with_reducible refine update_only ?_ fun p => ?_); rotate_left;
        (cases p <;> first | exact .inl (hL (by decide)) | (refine .inr ?_; repeat' constructor));
        first
        | with_reducible exact hO
        | with_reducible refine bgUnwant_only (subParts hL) ?_
        | with_reducible refine sendP0_only (subParts hL) ?_
        | with_reducible refine occur_only (subParts hL) ?_
        | with_reducible refine stageAbort_only (subParts hL) ?_
        | with_reducible refine stageReady_only (subParts hL) ?_
        | (with_reducible refine ite_only (fun _ => ?_) fun _ => ?_))
    | split

theorem partnerChecks_only {L : List Part} {z0 : State} {ok : Bool} {j : StageJob} {s : State} (hL : [.records,
    .rings, .events, .recorder, .cycle, .change, .pair, .out] ⊆ L)
    (hO : onlyChanges L z0 s) : onlyChanges L z0 (partnerChecks ok j s) := by
  unfold partnerChecks
  try dsimp only
  repeat' first
    | with_reducible exact hO
    | with_reducible refine stageReady_only (subParts hL) ?_
    | with_reducible refine stageAbort_only (subParts hL) ?_
    | (with_reducible refine ite_only (fun _ => ?_) fun _ => ?_)
    | ((with_reducible refine update_only ?_ fun p => ?_); rotate_left;
        (cases p <;> first | exact .inl (hL (by decide)) | (refine .inr ?_; repeat' constructor));
        first
        | with_reducible exact hO
        | with_reducible refine stageReady_only (subParts hL) ?_
        | with_reducible refine stageAbort_only (subParts hL) ?_
        | (with_reducible refine ite_only (fun _ => ?_) fun _ => ?_))

theorem busPoke_only {L : List Part} {z0 : State} {s : State} {w : ℕ × Byte} (hL : [.cycle, .memory] ⊆ L)
    (hO : onlyChanges L z0 s) : onlyChanges L z0 (busPoke s w) := by
  unfold busPoke
  try dsimp only
  repeat' first
    | with_reducible exact hO
    | (with_reducible refine ite_only (fun _ => ?_) fun _ => ?_)
    | ((with_reducible refine update_only ?_ fun p => ?_); rotate_left;
        (cases p <;> first | exact .inl (hL (by decide)) | (refine .inr ?_; repeat' constructor));
        first
        | with_reducible exact hO
        | (with_reducible refine ite_only (fun _ => ?_) fun _ => ?_))

theorem busWrite_only {L : List Part} {z0 : State} {a : ℕ} {data : List Byte} {s : State} (hL : [.cycle, .memory] ⊆
    L)
    (hO : onlyChanges L z0 s) : onlyChanges L z0 (busWrite a data s) := by
  unfold busWrite
  try dsimp only
  repeat' first
    | with_reducible exact hO
    | with_reducible refine busPoke_only (subParts hL) ?_
    | with_reducible refine foldl_only ?_ (fun _ _ _ => ?_)
    | with_reducible assumption
    | (with_reducible refine ite_only (fun _ => ?_) fun _ => ?_)
    | ((with_reducible refine update_only ?_ fun p => ?_); rotate_left;
        (cases p <;> first | exact .inl (hL (by decide)) | (refine .inr ?_; repeat' constructor));
        first
        | with_reducible exact hO
        | with_reducible refine busPoke_only (subParts hL) ?_
        | with_reducible refine foldl_only ?_ (fun _ _ _ => ?_)
        | with_reducible assumption
        | (with_reducible refine ite_only (fun _ => ?_) fun _ => ?_))

theorem debugEff_only {L : List Part} {z0 : State} {a : Access} {s : State} (hL : [.records, .events, .recorder,
    .faults, .gates, .cycle, .memory, .out, .free] ⊆ L)
    (hO : onlyChanges L z0 s) : onlyChanges L z0 (debugEff a s) := by
  unfold debugEff
  try dsimp only
  repeat' first
    | with_reducible exact hO
    | with_reducible refine gateDecide_only (subParts hL) ?_
    | with_reducible refine emit_only (subParts hL) ?_
    | with_reducible refine busWrite_only (subParts hL) ?_
    | (with_reducible refine ite_only (fun _ => ?_) fun _ => ?_)
    | ((with_reducible refine update_only ?_ fun p => ?_); rotate_left;
        (cases p <;> first | exact .inl (hL (by decide)) | (refine .inr ?_; repeat' constructor));
        first
        | with_reducible exact hO
        | with_reducible refine gateDecide_only (subParts hL) ?_
        | with_reducible refine emit_only (subParts hL) ?_
        | with_reducible refine busWrite_only (subParts hL) ?_
        | (with_reducible refine ite_only (fun _ => ?_) fun _ => ?_))

theorem programFault_only {L : List Part} {z0 : State} {c : ℕ} {s : State} (hL : [.records, .events, .recorder,
    .faults, .cycle, .stores, .pair, .out] ⊆ L)
    (hO : onlyChanges L z0 s) : onlyChanges L z0 (programFault c s) := by
  unfold programFault
  try dsimp only
  repeat' first
    | with_reducible exact hO
    | with_reducible refine wdtHold_only (subParts hL) ?_
    | with_reducible refine occur_only (subParts hL) ?_

theorem cellDenied_only {L : List Part} {z0 : State} {c : ℕ} {s : State} (hL : [.records, .faultStore, .modRetired,
    .tuple, .modRest, .rings, .events, .vectors, .slots, .hxpRest, .recorder, .faults, .firmware, .gates, .clocks,
    .heat, .cycle, .change, .stores, .network, .ile, .pair, .tripIo, .can, .analog, .out] ⊆ L)
    (hO : onlyChanges L z0 s) : onlyChanges L z0 (cellDenied c s) := by
  unfold cellDenied
  try dsimp only
  repeat' first
    | with_reducible exact hO
    | with_reducible refine unitFault_only (subParts hL) ?_
    | with_reducible refine rollback_only (subParts hL) ?_
    | (with_reducible refine ite_only (fun _ => ?_) fun _ => ?_)

theorem unitDenied_only {L : List Part} {z0 : State} {m : ℕ} {s : State} (hL : [.records, .faultStore, .modRetired,
    .tuple, .modRest, .rings, .events, .vectors, .slots, .hxpRest, .recorder, .faults, .firmware, .gates, .clocks,
    .heat, .cycle, .change, .stores, .network, .ile, .pair, .tripIo, .can, .analog, .out] ⊆ L)
    (hO : onlyChanges L z0 s) : onlyChanges L z0 (unitDenied m s) := by
  unfold unitDenied
  try dsimp only
  repeat' first
    | with_reducible exact hO
    | with_reducible refine unitFault_only (subParts hL) ?_
    | with_reducible refine noteFault_only (subParts hL) ?_
    | split

theorem deniedEff_only {L : List Part} {z0 : State} {a : Access} {s : State} (hL : [.records, .faultStore,
    .modRetired, .tuple, .modRest, .rings, .events, .vectors, .slots, .hxpRest, .recorder, .faults, .firmware,
    .gates, .clocks, .heat, .cycle, .change, .stores, .network, .ile, .pair, .tripIo, .can, .analog, .out] ⊆ L)
    (hO : onlyChanges L z0 s) : onlyChanges L z0 (deniedEff a s) := by
  unfold deniedEff
  try dsimp only
  repeat' first
    | with_reducible exact hO
    | with_reducible refine cellDenied_only (subParts hL) ?_
    | with_reducible refine programFault_only (subParts hL) ?_
    | with_reducible refine unitFault_only (subParts hL) ?_
    | with_reducible refine unitDenied_only (subParts hL) ?_
    | (with_reducible refine ite_only (fun _ => ?_) fun _ => ?_)

theorem reading_only {L : List Part} {z0 : State} {c : Call} {op : ℕ} {on : ℕ} {bufOk : Bool} {f : State → State} {s
    : State} (hL : [.records, .refusal, .rings, .events, .recorder] ⊆ L)
    (hO : onlyChanges L z0 s)
    (k_f : ∀ z : State, onlyChanges L z0 z → onlyChanges L z0 (f z)) : onlyChanges L z0 (reading c op on bufOk f s) := by
  unfold reading
  try dsimp only
  repeat' first
    | with_reducible exact hO
    | with_reducible apply k_f
    | with_reducible refine opening_only (subParts hL) ?_ (fun _ _ => ?_)
    | with_reducible assumption

theorem opNop_only {L : List Part} {z0 : State} {c : Call} {s : State} (hL : [.records, .refusal, .rings, .events,
    .recorder] ⊆ L)
    (hO : onlyChanges L z0 s) : onlyChanges L z0 (opNop c s) := by
  unfold opNop
  try dsimp only
  repeat' first
    | with_reducible exact hO
    | with_reducible refine reading_only (subParts hL) ?_ (fun _ _ => ?_)
    | with_reducible refine done_only (subParts hL) ?_
    | with_reducible assumption

theorem opPointRead_only {L : List Part} {z0 : State} {image : ℕ} {first : ℕ} {count : ℕ} {c : Call} {s : State} (hL
    : [.records, .refusal, .rings, .events, .recorder, .out] ⊆ L)
    (hO : onlyChanges L z0 s) : onlyChanges L z0 (opPointRead image first count c s) := by
  unfold opPointRead
  try dsimp only
  repeat' first
    | with_reducible exact hO
    | with_reducible refine ranged_only (subParts hL) ?_ (fun _ _ => ?_)
    | with_reducible refine reading_only (subParts hL) ?_ (fun _ _ => ?_)
    | with_reducible refine doneBuf_only (subParts hL) ?_
    | with_reducible assumption
    | (with_reducible refine ite_only (fun _ => ?_) fun _ => ?_)

theorem opForceList_only {L : List Part} {z0 : State} {c : Call} {s : State} (hL : [.records, .refusal, .rings,
    .events, .recorder, .out] ⊆ L)
    (hO : onlyChanges L z0 s) : onlyChanges L z0 (opForceList c s) := by
  unfold opForceList
  try dsimp only
  repeat' first
    | with_reducible exact hO
    | with_reducible refine reading_only (subParts hL) ?_ (fun _ _ => ?_)
    | with_reducible refine doneBuf_only (subParts hL) ?_
    | with_reducible assumption

theorem opLRead_only {L : List Part} {z0 : State} {window : ℕ} {first : ℕ} {count : ℕ} {c : Call} {s : State} (hL :
    [.records, .refusal, .rings, .events, .recorder, .out] ⊆ L)
    (hO : onlyChanges L z0 s) : onlyChanges L z0 (opLRead window first count c s) := by
  unfold opLRead
  try dsimp only
  repeat' first
    | with_reducible exact hO
    | with_reducible refine fail_only (subParts hL) ?_
    | with_reducible refine ranged_only (subParts hL) ?_ (fun _ _ => ?_)
    | with_reducible refine reading_only (subParts hL) ?_ (fun _ _ => ?_)
    | with_reducible refine doneBuf_only (subParts hL) ?_
    | with_reducible assumption
    | (with_reducible refine ite_only (fun _ => ?_) fun _ => ?_)

theorem opLStatus_only {L : List Part} {z0 : State} {c : Call} {s : State} (hL : [.records, .refusal, .rings,
    .events, .recorder, .out] ⊆ L)
    (hO : onlyChanges L z0 s) : onlyChanges L z0 (opLStatus c s) := by
  unfold opLStatus
  try dsimp only
  repeat' first
    | with_reducible exact hO
    | with_reducible refine fail_only (subParts hL) ?_
    | with_reducible refine reading_only (subParts hL) ?_ (fun _ _ => ?_)
    | with_reducible refine doneBuf_only (subParts hL) ?_
    | with_reducible assumption
    | (with_reducible refine ite_only (fun _ => ?_) fun _ => ?_)

theorem opLegacyWrite_only {L : List Part} {z0 : State} {opcode : ℕ} {c : Call} {s : State} (hL : [.rings] ⊆ L)
    (hO : onlyChanges L z0 s) : onlyChanges L z0 (opLegacyWrite opcode c s) := by
  unfold opLegacyWrite
  try dsimp only
  repeat' first
    | with_reducible exact hO
    | with_reducible refine fail_only (subParts hL) ?_

theorem opBadOpcode_only {L : List Part} {z0 : State} {opcode : ℕ} {c : Call} {s : State} (hL : [.rings] ⊆ L)
    (hO : onlyChanges L z0 s) : onlyChanges L z0 (opBadOpcode opcode c s) := by
  unfold opBadOpcode
  try dsimp only
  repeat' first
    | with_reducible exact hO
    | with_reducible refine fail_only (subParts hL) ?_

theorem opCycleStatus_only {L : List Part} {z0 : State} {options : ℕ} {c : Call} {s : State} (hL : [.records,
    .refusal, .rings, .events, .recorder, .cycle, .out] ⊆ L)
    (hO : onlyChanges L z0 s) : onlyChanges L z0 (opCycleStatus options c s) := by
  unfold opCycleStatus
  try dsimp only
  repeat' first
    | with_reducible exact hO
    | with_reducible refine ranged_only (subParts hL) ?_ (fun _ _ => ?_)
    | with_reducible refine reading_only (subParts hL) ?_ (fun _ _ => ?_)
    | with_reducible refine doneBuf_only (subParts hL) ?_
    | with_reducible assumption
    | (with_reducible refine ite_only (fun _ => ?_) fun _ => ?_)
    | ((with_reducible refine update_only ?_ fun p => ?_); rotate_left;
        (cases p <;> first | exact .inl (hL (by decide)) | (refine .inr ?_; repeat' constructor));
        first
        | with_reducible exact hO
        | with_reducible refine ranged_only (subParts hL) ?_ (fun _ _ => ?_)
        | with_reducible refine reading_only (subParts hL) ?_ (fun _ _ => ?_)
        | with_reducible refine doneBuf_only (subParts hL) ?_
        | with_reducible assumption
        | (with_reducible refine ite_only (fun _ => ?_) fun _ => ?_))

theorem opChangeStatus_only {L : List Part} {z0 : State} {c : Call} {s : State} (hL : [.records, .refusal, .rings,
    .events, .recorder, .out] ⊆ L)
    (hO : onlyChanges L z0 s) : onlyChanges L z0 (opChangeStatus c s) := by
  unfold opChangeStatus
  try dsimp only
  repeat' first
    | with_reducible exact hO
    | with_reducible refine reading_only (subParts hL) ?_ (fun _ _ => ?_)
    | with_reducible refine doneBuf_only (subParts hL) ?_
    | with_reducible assumption

theorem opIdentity_only {L : List Part} {z0 : State} {c : Call} {s : State} (hL : [.records, .refusal, .rings,
    .events, .recorder, .out] ⊆ L)
    (hO : onlyChanges L z0 s) : onlyChanges L z0 (opIdentity c s) := by
  unfold opIdentity
  try dsimp only
  repeat' first
    | with_reducible exact hO
    | with_reducible refine reading_only (subParts hL) ?_ (fun _ _ => ?_)
    | with_reducible refine doneBuf_only (subParts hL) ?_
    | with_reducible assumption

theorem opRecRead_only {L : List Part} {z0 : State} {cf : ℕ} {cl : ℕ} {store : ℕ} {from_ : ℕ} {to_ : ℕ} {bad : List
    ℕ} {c : Call} {s : State} (hL : [.records, .refusal, .rings, .events, .hxpRest, .recorder, .out, .free] ⊆ L)
    (hO : onlyChanges L z0 s) : onlyChanges L z0 (opRecRead cf cl store from_ to_ bad c s) := by
  unfold opRecRead
  try dsimp only
  repeat' first
    | with_reducible exact hO
    | with_reducible refine ranged_only (subParts hL) ?_ (fun _ _ => ?_)
    | with_reducible refine reading_only (subParts hL) ?_ (fun _ _ => ?_)
    | with_reducible refine recReadEff_only (subParts hL) ?_
    | with_reducible assumption

theorem opRecClear_only {L : List Part} {z0 : State} {cf : ℕ} {cl : ℕ} {store : ℕ} {from_ : ℕ} {to_ : ℕ} {c : Call}
    {s : State} (hL : [.records, .nonces, .refusal, .rings, .events, .hxpRest, .recorder, .heat] ⊆ L)
    (hO : onlyChanges L z0 s) : onlyChanges L z0 (opRecClear cf cl store from_ to_ c s) := by
  unfold opRecClear
  try dsimp only
  repeat' first
    | with_reducible exact hO
    | with_reducible refine ranged_only (subParts hL) ?_ (fun _ _ => ?_)
    | with_reducible refine opening_only (subParts hL) ?_ (fun _ _ => ?_)
    | with_reducible refine withGrant_only (subParts hL) ?_ (fun _ _ _ => ?_)
    | with_reducible refine recClearEff_only (subParts hL) ?_
    | with_reducible assumption

theorem opSnapArm_only {L : List Part} {z0 : State} {id : ℕ} {at_ : ℕ} {c : Call} {s : State} (hL : [.time,
    .records, .refusal, .rings, .events, .recorder, .times, .pair, .out] ⊆ L)
    (hO : onlyChanges L z0 s) : onlyChanges L z0 (opSnapArm id at_ c s) := by
  unfold opSnapArm
  try dsimp only
  repeat' first
    | with_reducible exact hO
    | with_reducible refine ranged_only (subParts hL) ?_ (fun _ _ => ?_)
    | with_reducible refine opening_only (subParts hL) ?_ (fun _ _ => ?_)
    | with_reducible refine refuse_only (subParts hL) ?_
    | with_reducible refine done_only (subParts hL) ?_
    | with_reducible refine relay_only (subParts hL) ?_
    | with_reducible refine cloverArm_only (subParts hL) ?_
    | with_reducible assumption
    | (with_reducible refine ite_only (fun _ => ?_) fun _ => ?_)

theorem opSnapRead_only {L : List Part} {z0 : State} {first : ℕ} {count : ℕ} {c : Call} {s : State} (hL : [.records,
    .refusal, .rings, .events, .recorder, .out] ⊆ L)
    (hO : onlyChanges L z0 s) : onlyChanges L z0 (opSnapRead first count c s) := by
  unfold opSnapRead
  try dsimp only
  repeat' first
    | with_reducible exact hO
    | with_reducible refine reading_only (subParts hL) ?_ (fun _ _ => ?_)
    | with_reducible refine doneBuf_only (subParts hL) ?_
    | with_reducible assumption

theorem opIleRead_only {L : List Part} {z0 : State} {kind : ℕ} {first : ℕ} {count : ℕ} {c : Call} {s : State} (hL :
    [.records, .refusal, .rings, .events, .recorder, .out] ⊆ L)
    (hO : onlyChanges L z0 s) : onlyChanges L z0 (opIleRead kind first count c s) := by
  unfold opIleRead
  try dsimp only
  repeat' first
    | with_reducible exact hO
    | with_reducible refine ranged_only (subParts hL) ?_ (fun _ _ => ?_)
    | with_reducible refine reading_only (subParts hL) ?_ (fun _ _ => ?_)
    | with_reducible refine doneBuf_only (subParts hL) ?_
    | with_reducible assumption

theorem opIleOperator_only {L : List Part} {z0 : State} {cmd : ℕ} {b : OpBody} {c : Call} {s : State} (hL :
    [.records, .nonces, .refusal, .rings, .events, .hxpRest, .recorder, .ile, .pair, .out] ⊆ L)
    (hO : onlyChanges L z0 s) : onlyChanges L z0 (opIleOperator cmd b c s) := by
  unfold opIleOperator
  try dsimp only
  repeat' first
    | with_reducible exact hO
    | with_reducible refine ranged_only (subParts hL) ?_ (fun _ _ => ?_)
    | with_reducible refine opening_only (subParts hL) ?_ (fun _ _ => ?_)
    | with_reducible refine withGrant_only (subParts hL) ?_ (fun _ _ _ => ?_)
    | with_reducible refine relay_only (subParts hL) ?_
    | with_reducible assumption
    | (with_reducible refine ite_only (fun _ => ?_) fun _ => ?_)
    | ((with_reducible refine update_only ?_ fun p => ?_); rotate_left;
        (cases p <;> first | exact .inl (hL (by decide)) | (refine .inr ?_; repeat' constructor));
        first
        | with_reducible exact hO
        | with_reducible refine ranged_only (subParts hL) ?_ (fun _ _ => ?_)
        | with_reducible refine opening_only (subParts hL) ?_ (fun _ _ => ?_)
        | with_reducible refine withGrant_only (subParts hL) ?_ (fun _ _ _ => ?_)
        | with_reducible refine relay_only (subParts hL) ?_
        | with_reducible assumption
        | (with_reducible refine ite_only (fun _ => ?_) fun _ => ?_))

theorem modeCmd_only {L : List Part} {z0 : State} {req : ℕ} {arg : ℕ} {src : ℕ} {c : Call} {f : State → State} {s :
    State} (hL : [.records, .nonces, .refusal, .rings, .events, .hxpRest, .recorder] ⊆ L)
    (hO : onlyChanges L z0 s)
    (k_f : ∀ z : State, onlyChanges L z0 z → onlyChanges L z0 (f z)) : onlyChanges L z0 (modeCmd req arg src c f s) := by
  unfold modeCmd
  try dsimp only
  repeat' first
    | with_reducible exact hO
    | with_reducible apply k_f
    | with_reducible refine opening_only (subParts hL) ?_ (fun _ _ => ?_)
    | with_reducible refine withGrant_only (subParts hL) ?_ (fun _ _ _ => ?_)
    | with_reducible refine notBusy_only (subParts hL) ?_ (fun _ _ => ?_)
    | with_reducible assumption

theorem modeDone_only {L : List Part} {z0 : State} {c : Call} {s : State} (hL : [.rings] ⊆ L)
    (hO : onlyChanges L z0 s) : onlyChanges L z0 (modeDone c s) := by
  unfold modeDone
  try dsimp only
  repeat' first
    | with_reducible exact hO
    | with_reducible refine done_only (subParts hL) ?_

theorem opRun_only {L : List Part} {z0 : State} {req : ℕ} {body : Pend} {c : Call} {s : State} (hL : [.records,
    .nonces, .refusal, .rings, .events, .hxpRest, .recorder, .cycle] ⊆ L)
    (hO : onlyChanges L z0 s) : onlyChanges L z0 (opRun req body c s) := by
  unfold opRun
  try dsimp only
  repeat' first
    | with_reducible exact hO
    | with_reducible refine modeCmd_only (subParts hL) ?_ (fun _ _ => ?_)
    | with_reducible refine await_only (subParts hL) ?_
    | with_reducible assumption

theorem opRetire_only {L : List Part} {z0 : State} {c : Call} {s : State} (hL : [.records, .nonces, .modRetired,
    .tuple, .refusal, .modRest, .rings, .events, .slots, .hxpRest, .recorder, .faults, .firmware, .gates, .clocks,
    .heat, .cycle, .change, .stores, .network, .ile, .pair, .tripIo, .can, .analog, .out] ⊆ L)
    (hO : onlyChanges L z0 s) : onlyChanges L z0 (opRetire c s) := by
  unfold opRetire
  try dsimp only
  repeat' first
    | with_reducible exact hO
    | with_reducible refine modeCmd_only (subParts hL) ?_ (fun _ _ => ?_)
    | with_reducible refine modeDone_only (subParts hL) ?_
    | with_reducible refine retireModule_only (subParts hL) ?_
    | with_reducible assumption

theorem opBstMode_only {L : List Part} {z0 : State} {arg : ℕ} {c : Call} {s : State} (hL : [.records, .nonces,
    .tuple, .refusal, .rings, .events, .slots, .hxpRest, .recorder, .cycle] ⊆ L)
    (hO : onlyChanges L z0 s) : onlyChanges L z0 (opBstMode arg c s) := by
  unfold opBstMode
  try dsimp only
  repeat' first
    | with_reducible exact hO
    | with_reducible refine ranged_only (subParts hL) ?_ (fun _ _ => ?_)
    | with_reducible refine modeCmd_only (subParts hL) ?_ (fun _ _ => ?_)
    | with_reducible refine modeDone_only (subParts hL) ?_
    | with_reducible refine setBst_only (subParts hL) ?_
    | with_reducible refine await_only (subParts hL) ?_
    | with_reducible assumption
    | (with_reducible refine ite_only (fun _ => ?_) fun _ => ?_)

theorem opFwAck_only {L : List Part} {z0 : State} {c : Call} {s : State} (hL : [.records, .nonces, .refusal, .rings,
    .events, .hxpRest, .recorder, .cycle] ⊆ L)
    (hO : onlyChanges L z0 s) : onlyChanges L z0 (opFwAck c s) := by
  unfold opFwAck
  try dsimp only
  repeat' first
    | with_reducible exact hO
    | with_reducible refine modeCmd_only (subParts hL) ?_ (fun _ _ => ?_)
    | with_reducible refine await_only (subParts hL) ?_
    | with_reducible assumption

theorem readmitModule_only {L : List Part} {z0 : State} {c : Call} {testOk : Bool} {s : State} (hL : [.time,
    .records, .faultStore, .modRetired, .tuple, .refusal, .modRest, .rings, .events, .vectors, .slots, .hxpRest,
    .recorder, .faults, .selfTest, .firmware, .gates, .clocks, .heat, .contacts, .cycle, .change, .times, .network,
    .ile, .pair, .tripIo, .can, .analog, .memory, .out] ⊆ L)
    (hO : onlyChanges L z0 s) : onlyChanges L z0 (readmitModule c testOk s) := by
  unfold readmitModule
  try dsimp only
  repeat' first
    | with_reducible exact hO
    | with_reducible refine modeDone_only (subParts hL) ?_
    | with_reducible refine refuse_only (subParts hL) ?_
    | with_reducible refine readmitRecord_only (subParts hL) ?_
    | with_reducible refine occur_only (subParts hL) ?_
    | with_reducible refine moduleReset_only (subParts hL) ?_
    | with_reducible refine postCompletion_only (subParts hL) ?_
    | with_reducible refine done_only (subParts hL) ?_
    | with_reducible refine foldl_only ?_ (fun _ _ _ => ?_)
    | with_reducible assumption
    | (with_reducible refine ite_only (fun _ => ?_) fun _ => ?_)
    | ((with_reducible refine update_only ?_ fun p => ?_); rotate_left;
        (cases p <;> first | exact .inl (hL (by decide)) | (refine .inr ?_; repeat' constructor));
        first
        | with_reducible exact hO
        | with_reducible refine modeDone_only (subParts hL) ?_
        | with_reducible refine refuse_only (subParts hL) ?_
        | with_reducible refine readmitRecord_only (subParts hL) ?_
        | with_reducible refine occur_only (subParts hL) ?_
        | with_reducible refine moduleReset_only (subParts hL) ?_
        | with_reducible refine postCompletion_only (subParts hL) ?_
        | with_reducible refine done_only (subParts hL) ?_
        | with_reducible refine foldl_only ?_ (fun _ _ _ => ?_)
        | with_reducible assumption
        | (with_reducible refine ite_only (fun _ => ?_) fun _ => ?_))

theorem awaitTests_only {L : List Part} {z0 : State} {us : List UnitId} {mask : ℕ} {c : Call} {s : State} (hL :
    [.selfTest, .heat, .cycle] ⊆ L)
    (hO : onlyChanges L z0 s) : onlyChanges L z0 (awaitTests us mask c s) := by
  unfold awaitTests
  try dsimp only
  repeat' first
    | with_reducible exact hO
    | with_reducible refine bgWant_only (subParts hL) ?_
    | with_reducible refine await_only (subParts hL) ?_
    | ((with_reducible refine update_only ?_ fun p => ?_); rotate_left;
        (cases p <;> first | exact .inl (hL (by decide)) | (refine .inr ?_; repeat' constructor));
        first
        | with_reducible exact hO
        | with_reducible refine bgWant_only (subParts hL) ?_
        | with_reducible refine await_only (subParts hL) ?_)

theorem readmitLanes_only {L : List Part} {z0 : State} {mask : ℕ} {c : Call} {s : State} (hL : [.records, .refusal,
    .rings, .events, .recorder, .selfTest, .clocks, .heat, .cycle, .stores, .ile, .pair, .out] ⊆ L)
    (hO : onlyChanges L z0 s) : onlyChanges L z0 (readmitLanes mask c s) := by
  unfold readmitLanes
  try dsimp only
  repeat' first
    | with_reducible exact hO
    | with_reducible refine refuse_only (subParts hL) ?_
    | with_reducible refine lanesReturn_only (subParts hL) ?_
    | with_reducible refine modeDone_only (subParts hL) ?_
    | with_reducible refine awaitTests_only (subParts hL) ?_
    | (with_reducible refine ite_only (fun _ => ?_) fun _ => ?_)

theorem readmitUnit_only {L : List Part} {z0 : State} {u : UnitId} {testOk : Bool} {c : Call} {s : State} (hL :
    [.records, .faultStore, .refusal, .rings, .events, .recorder, .selfTest, .heat, .cycle, .network, .pair,
    .tripIo, .can, .analog] ⊆ L)
    (hO : onlyChanges L z0 s) : onlyChanges L z0 (readmitUnit u testOk c s) := by
  unfold readmitUnit
  try dsimp only
  repeat' first
    | with_reducible exact hO
    | with_reducible refine awaitTests_only (subParts hL) ?_
    | with_reducible refine modeDone_only (subParts hL) ?_
    | with_reducible refine observeStart_only (subParts hL) ?_
    | with_reducible refine await_only (subParts hL) ?_
    | with_reducible refine unitNow_only (subParts hL) ?_
    | with_reducible refine refuse_only (subParts hL) ?_
    | (with_reducible refine ite_only (fun _ => ?_) fun _ => ?_)
    | split

theorem readmitEff_only {L : List Part} {z0 : State} {arg : ℕ} {src : ℕ} {testOk : Bool} {c : Call} {s : State} (hL
    : [.time, .records, .faultStore, .modRetired, .tuple, .refusal, .modRest, .rings, .events, .vectors, .slots,
    .hxpRest, .recorder, .faults, .selfTest, .firmware, .gates, .clocks, .heat, .contacts, .cycle, .change, .stores,
    .times, .network, .ile, .pair, .tripIo, .can, .analog, .memory, .out] ⊆ L)
    (hO : onlyChanges L z0 s) : onlyChanges L z0 (readmitEff arg src testOk c s) := by
  unfold readmitEff
  try dsimp only
  repeat' first
    | with_reducible exact hO
    | with_reducible refine readmitModule_only (subParts hL) ?_
    | with_reducible refine readmitLanes_only (subParts hL) ?_
    | with_reducible refine refuse_only (subParts hL) ?_
    | with_reducible refine modeDone_only (subParts hL) ?_
    | with_reducible refine readmitUnit_only (subParts hL) ?_
    | with_reducible refine fail_only (subParts hL) ?_
    | (with_reducible refine ite_only (fun _ => ?_) fun _ => ?_)
    | split

theorem opReadmit_only {L : List Part} {z0 : State} {arg : ℕ} {src : ℕ} {testOk : Bool} {c : Call} {s : State} (hL :
    [.time, .records, .nonces, .faultStore, .modRetired, .tuple, .refusal, .modRest, .rings, .events, .vectors,
    .slots, .hxpRest, .recorder, .faults, .selfTest, .firmware, .gates, .clocks, .heat, .contacts, .cycle, .change,
    .stores, .times, .network, .ile, .pair, .tripIo, .can, .analog, .memory, .out] ⊆ L)
    (hO : onlyChanges L z0 s) : onlyChanges L z0 (opReadmit arg src testOk c s) := by
  unfold opReadmit
  try dsimp only
  repeat' first
    | with_reducible exact hO
    | with_reducible refine ranged_only (subParts hL) ?_ (fun _ _ => ?_)
    | with_reducible refine modeCmd_only (subParts hL) ?_ (fun _ _ => ?_)
    | with_reducible refine readmitEff_only (subParts hL) ?_
    | with_reducible assumption

theorem hostArrive_only {L : List Part} {z0 : State} {at_ : ℕ} {s : State} {r : PointRec} (hL : [.cycle] ⊆ L)
    (hO : onlyChanges L z0 s) : onlyChanges L z0 (hostArrive at_ s r) := by
  unfold hostArrive
  try dsimp only
  repeat' first
    | with_reducible exact hO
    | ((with_reducible refine update_only ?_ fun p => ?_); rotate_left;
        (cases p <;> first | exact .inl (hL (by decide)) | (refine .inr ?_; repeat' constructor));
        first
        | with_reducible exact hO)

theorem opPointWrite_only {L : List Part} {z0 : State} {count : ℕ} {recs : List PointRec} {c : Call} {s : State} (hL
    : [.records, .nonces, .refusal, .rings, .events, .hxpRest, .recorder, .cycle] ⊆ L)
    (hO : onlyChanges L z0 s) : onlyChanges L z0 (opPointWrite count recs c s) := by
  unfold opPointWrite
  try dsimp only
  repeat' first
    | with_reducible exact hO
    | with_reducible refine ranged_only (subParts hL) ?_ (fun _ _ => ?_)
    | with_reducible refine opening_only (subParts hL) ?_ (fun _ _ => ?_)
    | with_reducible refine withGrant_only (subParts hL) ?_ (fun _ _ _ => ?_)
    | with_reducible refine fail_only (subParts hL) ?_
    | with_reducible refine done_only (subParts hL) ?_
    | with_reducible refine hostArrive_only (subParts hL) ?_
    | with_reducible refine foldl_only ?_ (fun _ _ _ => ?_)
    | with_reducible assumption
    | (with_reducible refine ite_only (fun _ => ?_) fun _ => ?_)

theorem opForceSet_only {L : List Part} {z0 : State} {addr : ℕ} {ty : ℕ} {value : DWord} {c : Call} {s : State} (hL
    : [.records, .nonces, .refusal, .rings, .events, .hxpRest, .recorder, .cycle] ⊆ L)
    (hO : onlyChanges L z0 s) : onlyChanges L z0 (opForceSet addr ty value c s) := by
  unfold opForceSet
  try dsimp only
  repeat' first
    | with_reducible exact hO
    | with_reducible refine opening_only (subParts hL) ?_ (fun _ _ => ?_)
    | with_reducible refine withGrant_only (subParts hL) ?_ (fun _ _ _ => ?_)
    | with_reducible refine notBusy_only (subParts hL) ?_ (fun _ _ => ?_)
    | with_reducible refine await_only (subParts hL) ?_
    | with_reducible assumption

theorem opForceClear_only {L : List Part} {z0 : State} {addr : ℕ} {c : Call} {s : State} (hL : [.records, .nonces,
    .refusal, .rings, .events, .hxpRest, .recorder, .cycle] ⊆ L)
    (hO : onlyChanges L z0 s) : onlyChanges L z0 (opForceClear addr c s) := by
  unfold opForceClear
  try dsimp only
  repeat' first
    | with_reducible exact hO
    | with_reducible refine opening_only (subParts hL) ?_ (fun _ _ => ?_)
    | with_reducible refine withGrant_only (subParts hL) ?_ (fun _ _ _ => ?_)
    | with_reducible refine notBusy_only (subParts hL) ?_ (fun _ _ => ?_)
    | with_reducible refine await_only (subParts hL) ?_
    | with_reducible assumption

theorem chunkTake_only {L : List Part} {z0 : State} {off : ℕ} {total : ℕ} {data : List Byte} {hdr : Option ImageHdr}
    {c : Call} {s : State} (hL : [.records, .images, .refusal, .rings, .events, .recorder, .firmware, .heat] ⊆ L)
    (hO : onlyChanges L z0 s) : onlyChanges L z0 (chunkTake off total data hdr c s) := by
  unfold chunkTake
  try dsimp only
  repeat' first
    | with_reducible exact hO
    | with_reducible refine refuse_only (subParts hL) ?_
    | with_reducible refine done_only (subParts hL) ?_
    | with_reducible refine chunkStore_only (subParts hL) ?_
    | (with_reducible refine ite_only (fun _ => ?_) fun _ => ?_)

theorem opFwChunk_only {L : List Part} {z0 : State} {off : ℕ} {total : ℕ} {data : List Byte} {hdr : Option ImageHdr}
    {c : Call} {s : State} (hL : [.records, .nonces, .images, .refusal, .rings, .events, .hxpRest, .recorder,
    .firmware, .heat] ⊆ L)
    (hO : onlyChanges L z0 s) : onlyChanges L z0 (opFwChunk off total data hdr c s) := by
  unfold opFwChunk
  try dsimp only
  repeat' first
    | with_reducible exact hO
    | with_reducible refine ranged_only (subParts hL) ?_ (fun _ _ => ?_)
    | with_reducible refine opening_only (subParts hL) ?_ (fun _ _ => ?_)
    | with_reducible refine withFwGrant_only (subParts hL) ?_ (fun _ _ => ?_)
    | with_reducible refine chunkTake_only (subParts hL) ?_
    | with_reducible assumption

theorem speedwellInstall_only {L : List Part} {z0 : State} {path : ℕ} {s : State} (hL : [.images, .firmware,
    .stores] ⊆ L)
    (hO : onlyChanges L z0 s) : onlyChanges L z0 (speedwellInstall path s) := by
  unfold speedwellInstall
  try dsimp only
  repeat' first
    | with_reducible exact hO
    | with_reducible refine ptrPut_only (subParts hL) ?_
    | (with_reducible refine ite_only (fun _ => ?_) fun _ => ?_)
    | ((with_reducible refine update_only ?_ fun p => ?_); rotate_left;
        (cases p <;> first | exact .inl (hL (by decide)) | (refine .inr ?_; repeat' constructor));
        first
        | with_reducible exact hO
        | with_reducible refine ptrPut_only (subParts hL) ?_
        | (with_reducible refine ite_only (fun _ => ?_) fun _ => ?_))

theorem activateTake_only {L : List Part} {z0 : State} {c : Call} {s : State} (hL : [.images, .rings, .vectors,
    .firmware, .pair, .out] ⊆ L)
    (hO : onlyChanges L z0 s) : onlyChanges L z0 (activateTake c s) := by
  unfold activateTake
  try dsimp only
  repeat' first
    | with_reducible exact hO
    | with_reducible refine ptrPut_only (subParts hL) ?_
    | with_reducible refine leaveReset_only (subParts hL) ?_
    | with_reducible refine postCompletion_only (subParts hL) ?_
    | with_reducible refine done_only (subParts hL) ?_
    | (with_reducible refine ite_only (fun _ => ?_) fun _ => ?_)

theorem activateApp_only {L : List Part} {z0 : State} {c : Call} {s : State} (hL : [.records, .nonces, .images,
    .refusal, .rings, .events, .vectors, .hxpRest, .recorder, .firmware, .pair, .out] ⊆ L)
    (hO : onlyChanges L z0 s) : onlyChanges L z0 (activateApp c s) := by
  unfold activateApp
  try dsimp only
  repeat' first
    | with_reducible exact hO
    | with_reducible refine fail_only (subParts hL) ?_
    | with_reducible refine withGrant_only (subParts hL) ?_ (fun _ _ _ => ?_)
    | with_reducible refine refuse_only (subParts hL) ?_
    | with_reducible refine activateTake_only (subParts hL) ?_
    | with_reducible assumption
    | (with_reducible refine ite_only (fun _ => ?_) fun _ => ?_)
    | split

theorem activateSpeedwell_only {L : List Part} {z0 : State} {c : Call} {s : State} (hL : [.records, .nonces,
    .images, .rings, .events, .vectors, .hxpRest, .recorder, .firmware, .stores, .out] ⊆ L)
    (hO : onlyChanges L z0 s) : onlyChanges L z0 (activateSpeedwell c s) := by
  unfold activateSpeedwell
  try dsimp only
  repeat' first
    | with_reducible exact hO
    | with_reducible refine fail_only (subParts hL) ?_
    | with_reducible refine withFwGrant_only (subParts hL) ?_ (fun _ _ => ?_)
    | with_reducible refine speedwellInstall_only (subParts hL) ?_
    | with_reducible refine postCompletion_only (subParts hL) ?_
    | with_reducible refine done_only (subParts hL) ?_
    | with_reducible assumption
    | (with_reducible refine ite_only (fun _ => ?_) fun _ => ?_)
    | split

theorem opFwActivate_only {L : List Part} {z0 : State} {c : Call} {s : State} (hL : [.records, .nonces, .images,
    .refusal, .rings, .events, .vectors, .hxpRest, .recorder, .firmware, .stores, .pair, .out] ⊆ L)
    (hO : onlyChanges L z0 s) : onlyChanges L z0 (opFwActivate c s) := by
  unfold opFwActivate
  try dsimp only
  repeat' first
    | with_reducible exact hO
    | with_reducible refine opening_only (subParts hL) ?_ (fun _ _ => ?_)
    | with_reducible refine activateSpeedwell_only (subParts hL) ?_
    | with_reducible refine activateApp_only (subParts hL) ?_
    | with_reducible assumption
    | (with_reducible refine ite_only (fun _ => ?_) fun _ => ?_)

theorem opFwStatus_only {L : List Part} {z0 : State} {c : Call} {s : State} (hL : [.records, .refusal, .rings,
    .events, .recorder, .out] ⊆ L)
    (hO : onlyChanges L z0 s) : onlyChanges L z0 (opFwStatus c s) := by
  unfold opFwStatus
  try dsimp only
  repeat' first
    | with_reducible exact hO
    | with_reducible refine opening_only (subParts hL) ?_ (fun _ _ => ?_)
    | with_reducible refine doneBuf_only (subParts hL) ?_
    | with_reducible assumption

theorem timeSetTake_only {L : List Part} {z0 : State} {gt : ℕ} {c : Call} {s : State} (hL : [.time, .rings, .faults,
    .firmware, .times, .pair] ⊆ L)
    (hO : onlyChanges L z0 s) : onlyChanges L z0 (timeSetTake gt c s) := by
  unfold timeSetTake
  try dsimp only
  repeat' first
    | with_reducible exact hO
    | with_reducible refine done_only (subParts hL) ?_
    | with_reducible refine stationError_only (subParts hL) ?_
    | with_reducible refine gtStep_only (subParts hL) ?_
    | (with_reducible refine ite_only (fun _ => ?_) fun _ => ?_)
    | ((with_reducible refine update_only ?_ fun p => ?_); rotate_left;
        (cases p <;> first | exact .inl (hL (by decide)) | (refine .inr ?_; repeat' constructor));
        first
        | with_reducible exact hO
        | with_reducible refine done_only (subParts hL) ?_
        | with_reducible refine stationError_only (subParts hL) ?_
        | with_reducible refine gtStep_only (subParts hL) ?_
        | (with_reducible refine ite_only (fun _ => ?_) fun _ => ?_))

theorem opTimeSet_only {L : List Part} {z0 : State} {gt : ℕ} {c : Call} {s : State} (hL : [.time, .records, .nonces,
    .refusal, .rings, .events, .hxpRest, .recorder, .faults, .firmware, .times, .pair] ⊆ L)
    (hO : onlyChanges L z0 s) : onlyChanges L z0 (opTimeSet gt c s) := by
  unfold opTimeSet
  try dsimp only
  repeat' first
    | with_reducible exact hO
    | with_reducible refine opening_only (subParts hL) ?_ (fun _ _ => ?_)
    | with_reducible refine withGrant_only (subParts hL) ?_ (fun _ _ _ => ?_)
    | with_reducible refine timeSetTake_only (subParts hL) ?_
    | with_reducible refine refuse_only (subParts hL) ?_
    | with_reducible assumption
    | (with_reducible refine ite_only (fun _ => ?_) fun _ => ?_)

theorem hartPassTake_only {L : List Part} {z0 : State} {ch : ℕ} {cmd : ℕ} {data : List Byte} {c : Call} {s : State}
    (hL : [.rings, .analog, .out] ⊆ L)
    (hO : onlyChanges L z0 s) : onlyChanges L z0 (hartPassTake ch cmd data c s) := by
  unfold hartPassTake
  try dsimp only
  repeat' first
    | with_reducible exact hO
    | with_reducible refine hartNext_only (subParts hL) ?_
    | with_reducible refine updAl_only (subParts hL) ?_
    | with_reducible refine fail_only (subParts hL) ?_
    | (with_reducible refine ite_only (fun _ => ?_) fun _ => ?_)

theorem opHartPass_only {L : List Part} {z0 : State} {ch : ℕ} {cmd : ℕ} {len : ℕ} {data : List Byte} {c : Call} {s :
    State} (hL : [.records, .nonces, .refusal, .rings, .events, .hxpRest, .recorder, .analog, .out] ⊆ L)
    (hO : onlyChanges L z0 s) : onlyChanges L z0 (opHartPass ch cmd len data c s) := by
  unfold opHartPass
  try dsimp only
  repeat' first
    | with_reducible exact hO
    | with_reducible refine ranged_only (subParts hL) ?_ (fun _ _ => ?_)
    | with_reducible refine opening_only (subParts hL) ?_ (fun _ _ => ?_)
    | with_reducible refine withGrant_only (subParts hL) ?_ (fun _ _ _ => ?_)
    | with_reducible refine hartPassTake_only (subParts hL) ?_
    | with_reducible assumption

theorem opDebugUnlock_only {L : List Part} {z0 : State} {mask : ℕ} {c : Call} {s : State} (hL : [.records, .nonces,
    .refusal, .rings, .events, .hxpRest, .recorder, .gates] ⊆ L)
    (hO : onlyChanges L z0 s) : onlyChanges L z0 (opDebugUnlock mask c s) := by
  unfold opDebugUnlock
  try dsimp only
  repeat' first
    | with_reducible exact hO
    | with_reducible refine ranged_only (subParts hL) ?_ (fun _ _ => ?_)
    | with_reducible refine opening_only (subParts hL) ?_ (fun _ _ => ?_)
    | with_reducible refine withGrant_only (subParts hL) ?_ (fun _ _ _ => ?_)
    | with_reducible refine refuse_only (subParts hL) ?_
    | with_reducible refine done_only (subParts hL) ?_
    | with_reducible refine setUnlock_only (subParts hL) ?_
    | with_reducible assumption
    | (with_reducible refine ite_only (fun _ => ?_) fun _ => ?_)

theorem keyProvisionTake_only {L : List Part} {z0 : State} {k : KeyRec} {c : Call} {s : State} (hL : [.records,
    .refusal, .rings, .events, .recorder, .cycle] ⊆ L)
    (hO : onlyChanges L z0 s) : onlyChanges L z0 (keyProvisionTake k c s) := by
  unfold keyProvisionTake
  try dsimp only
  repeat' first
    | with_reducible exact hO
    | with_reducible refine fail_only (subParts hL) ?_
    | with_reducible refine refuse_only (subParts hL) ?_
    | with_reducible refine await_only (subParts hL) ?_
    | (with_reducible refine ite_only (fun _ => ?_) fun _ => ?_)

theorem opKeyProvision_only {L : List Part} {z0 : State} {k : KeyRec} {c : Call} {s : State} (hL : [.records,
    .nonces, .refusal, .rings, .events, .hxpRest, .recorder, .cycle] ⊆ L)
    (hO : onlyChanges L z0 s) : onlyChanges L z0 (opKeyProvision k c s) := by
  unfold opKeyProvision
  try dsimp only
  repeat' first
    | with_reducible exact hO
    | with_reducible refine opening_only (subParts hL) ?_ (fun _ _ => ?_)
    | with_reducible refine keyProvisionTake_only (subParts hL) ?_
    | with_reducible refine withGrant_only (subParts hL) ?_ (fun _ _ _ => ?_)
    | with_reducible assumption
    | (with_reducible refine ite_only (fun _ => ?_) fun _ => ?_)

theorem opGrantHold_only {L : List Part} {z0 : State} {slot : ℕ} {g : Grant} {c : Call} {s : State} (hL : [.records,
    .nonces, .refusal, .rings, .events, .slots, .hxpRest, .recorder] ⊆ L)
    (hO : onlyChanges L z0 s) : onlyChanges L z0 (opGrantHold slot g c s) := by
  unfold opGrantHold
  try dsimp only
  repeat' first
    | with_reducible exact hO
    | with_reducible refine ranged_only (subParts hL) ?_ (fun _ _ => ?_)
    | with_reducible refine opening_only (subParts hL) ?_ (fun _ _ => ?_)
    | with_reducible refine grantFail_only (subParts hL) ?_
    | with_reducible refine nonceKeep_only (subParts hL) ?_
    | with_reducible refine done_only (subParts hL) ?_
    | with_reducible assumption
    | (with_reducible refine ite_only (fun _ => ?_) fun _ => ?_)
    | ((with_reducible refine update_only ?_ fun p => ?_); rotate_left;
        (cases p <;> first | exact .inl (hL (by decide)) | (refine .inr ?_; repeat' constructor));
        first
        | with_reducible exact hO
        | with_reducible refine ranged_only (subParts hL) ?_ (fun _ _ => ?_)
        | with_reducible refine opening_only (subParts hL) ?_ (fun _ _ => ?_)
        | with_reducible refine grantFail_only (subParts hL) ?_
        | with_reducible refine nonceKeep_only (subParts hL) ?_
        | with_reducible refine done_only (subParts hL) ?_
        | with_reducible assumption
        | (with_reducible refine ite_only (fun _ => ?_) fun _ => ?_))
    | split

theorem opGrantDrop_only {L : List Part} {z0 : State} {slot : ℕ} {c : Call} {s : State} (hL : [.records, .refusal,
    .rings, .events, .slots, .recorder] ⊆ L)
    (hO : onlyChanges L z0 s) : onlyChanges L z0 (opGrantDrop slot c s) := by
  unfold opGrantDrop
  try dsimp only
  repeat' first
    | with_reducible exact hO
    | with_reducible refine ranged_only (subParts hL) ?_ (fun _ _ => ?_)
    | with_reducible refine opening_only (subParts hL) ?_ (fun _ _ => ?_)
    | with_reducible refine done_only (subParts hL) ?_
    | with_reducible assumption
    | (with_reducible refine ite_only (fun _ => ?_) fun _ => ?_)
    | ((with_reducible refine update_only ?_ fun p => ?_); rotate_left;
        (cases p <;> first | exact .inl (hL (by decide)) | (refine .inr ?_; repeat' constructor));
        first
        | with_reducible exact hO
        | with_reducible refine ranged_only (subParts hL) ?_ (fun _ _ => ?_)
        | with_reducible refine opening_only (subParts hL) ?_ (fun _ _ => ?_)
        | with_reducible refine done_only (subParts hL) ?_
        | with_reducible assumption
        | (with_reducible refine ite_only (fun _ => ?_) fun _ => ?_))

theorem lostBuf_only {L : List Part} {z0 : State} {op : ℕ} {req : ℕ} {on : ℕ} {needs : Bool} {c : Call} {s : State}
    (hL : [.records, .refusal, .rings, .events, .recorder] ⊆ L)
    (hO : onlyChanges L z0 s) : onlyChanges L z0 (lostBuf op req on needs c s) := by
  unfold lostBuf
  try dsimp only
  repeat' first
    | with_reducible exact hO
    | with_reducible refine opening_only (subParts hL) ?_ (fun _ _ => ?_)
    | with_reducible refine fail_only (subParts hL) ?_
    | with_reducible assumption

theorem runMode_only {L : List Part} {z0 : State} {a : List Byte} {c : Call} {s : State} (hL : [.time, .records,
    .nonces, .faultStore, .modRetired, .tuple, .refusal, .modRest, .rings, .events, .vectors, .slots, .hxpRest,
    .recorder, .faults, .selfTest, .firmware, .gates, .clocks, .heat, .contacts, .cycle, .change, .stores, .times,
    .network, .ile, .pair, .tripIo, .can, .analog, .memory, .out] ⊆ L)
    (hO : onlyChanges L z0 s) : onlyChanges L z0 (runMode a c s) := by
  unfold runMode
  try dsimp only
  repeat' first
    | with_reducible exact hO
    | with_reducible refine opRun_only (subParts hL) ?_
    | with_reducible refine opRetire_only (subParts hL) ?_
    | with_reducible refine opReadmit_only (subParts hL) ?_
    | with_reducible refine opBstMode_only (subParts hL) ?_
    | with_reducible refine opFwAck_only (subParts hL) ?_
    | split

theorem runIle_only {L : List Part} {z0 : State} {a : List Byte} {c : Call} {s : State} (hL : [.records, .nonces,
    .refusal, .rings, .events, .hxpRest, .recorder, .ile, .pair, .out] ⊆ L)
    (hO : onlyChanges L z0 s) : onlyChanges L z0 (runIle a c s) := by
  unfold runIle
  try dsimp only
  repeat' first
    | with_reducible exact hO
    | with_reducible refine opIleOperator_only (subParts hL) ?_

theorem runInput_only {L : List Part} {z0 : State} {op : ℕ} {a : List Byte} {buf : HostBuf} {c : Call} {s : State}
    (hL : [.records, .nonces, .images, .refusal, .rings, .events, .slots, .hxpRest, .recorder, .firmware, .heat,
    .cycle, .change, .pair, .analog, .out] ⊆ L)
    (hO : onlyChanges L z0 s) : onlyChanges L z0 (runInput op a buf c s) := by
  unfold runInput
  try dsimp only
  repeat' first
    | with_reducible exact hO
    | with_reducible refine opPointWrite_only (subParts hL) ?_
    | with_reducible refine lostBuf_only (subParts hL) ?_
    | with_reducible refine opStage_only (subParts hL) ?_
    | with_reducible refine opFwChunk_only (subParts hL) ?_
    | with_reducible refine opHartPass_only (subParts hL) ?_
    | with_reducible refine opKeyProvision_only (subParts hL) ?_
    | with_reducible refine opGrantHold_only (subParts hL) ?_
    | split

theorem runOp_only {L : List Part} {z0 : State} {op : ℕ} {a : List Byte} {buf : HostBuf} {c : Call} {s : State} (hL
    : [.time, .records, .nonces, .faultStore, .images, .modRetired, .tuple, .refusal, .modRest, .rings, .events,
    .vectors, .slots, .hxpRest, .recorder, .faults, .selfTest, .firmware, .gates, .clocks, .heat, .contacts, .cycle,
    .change, .stores, .times, .network, .ile, .pair, .tripIo, .can, .analog, .memory, .out, .free] ⊆ L)
    (hO : onlyChanges L z0 s) : onlyChanges L z0 (runOp op a buf c s) := by
  unfold runOp
  try dsimp only
  repeat' first
    | with_reducible exact hO
    | with_reducible refine opNop_only (subParts hL) ?_
    | with_reducible refine opPointRead_only (subParts hL) ?_
    | with_reducible refine opForceSet_only (subParts hL) ?_
    | with_reducible refine opForceClear_only (subParts hL) ?_
    | with_reducible refine opForceList_only (subParts hL) ?_
    | with_reducible refine runMode_only (subParts hL) ?_
    | with_reducible refine opSwitch_only (subParts hL) ?_
    | with_reducible refine opConfirm_only (subParts hL) ?_
    | with_reducible refine opRevert_only (subParts hL) ?_
    | with_reducible refine opDiscard_only (subParts hL) ?_
    | with_reducible refine opGenSelect_only (subParts hL) ?_
    | with_reducible refine opCcvConfirm_only (subParts hL) ?_
    | with_reducible refine opFwActivate_only (subParts hL) ?_
    | with_reducible refine opFwStatus_only (subParts hL) ?_
    | with_reducible refine opRecRead_only (subParts hL) ?_
    | with_reducible refine opRecClear_only (subParts hL) ?_
    | with_reducible refine opSnapArm_only (subParts hL) ?_
    | with_reducible refine opSnapRead_only (subParts hL) ?_
    | with_reducible refine runIle_only (subParts hL) ?_
    | with_reducible refine opIleRead_only (subParts hL) ?_
    | with_reducible refine opTimeSet_only (subParts hL) ?_
    | with_reducible refine opCycleStatus_only (subParts hL) ?_
    | with_reducible refine opChangeStatus_only (subParts hL) ?_
    | with_reducible refine opDebugUnlock_only (subParts hL) ?_
    | with_reducible refine opGrantDrop_only (subParts hL) ?_
    | with_reducible refine opIdentity_only (subParts hL) ?_
    | with_reducible refine opLRead_only (subParts hL) ?_
    | with_reducible refine opLStatus_only (subParts hL) ?_
    | with_reducible refine runInput_only (subParts hL) ?_
    | split

theorem runDesc_only {L : List Part} {z0 : State} {d : List Byte} {buf : HostBuf} {grant : Option Grant} {c : Call}
    {s : State} (hL : [.time, .records, .nonces, .faultStore, .images, .modRetired, .tuple, .refusal, .modRest,
    .rings, .events, .vectors, .slots, .hxpRest, .recorder, .faults, .selfTest, .firmware, .gates, .clocks, .heat,
    .contacts, .cycle, .change, .stores, .times, .network, .ile, .pair, .tripIo, .can, .analog, .memory, .out,
    .free] ⊆ L)
    (hO : onlyChanges L z0 s) : onlyChanges L z0 (runDesc d buf grant c s) := by
  unfold runDesc
  try dsimp only
  repeat' first
    | with_reducible exact hO
    | with_reducible refine opLegacyWrite_only (subParts hL) ?_
    | with_reducible refine fail_only (subParts hL) ?_
    | with_reducible refine opBadOpcode_only (subParts hL) ?_
    | with_reducible refine runOp_only (subParts hL) ?_
    | (with_reducible refine ite_only (fun _ => ?_) fun _ => ?_)

theorem hxpWrite_only {L : List Part} {z0 : State} {off : ℕ} {val : Word} {s : State} (hL : [.rings, .events,
    .hxpRest] ⊆ L)
    (hO : onlyChanges L z0 s) : onlyChanges L z0 (hxpWrite off val s) := by
  unfold hxpWrite
  try dsimp only
  repeat' first
    | with_reducible exact hO
    | with_reducible refine updRing_only (subParts hL) ?_
    | (with_reducible refine ite_only (fun _ => ?_) fun _ => ?_)
    | ((with_reducible refine update_only ?_ fun p => ?_); rotate_left;
        (cases p <;> first | exact .inl (hL (by decide)) | (refine .inr ?_; repeat' constructor));
        first
        | with_reducible exact hO
        | with_reducible refine updRing_only (subParts hL) ?_
        | (with_reducible refine ite_only (fun _ => ?_) fun _ => ?_))
    | split

theorem hxpDoorbell_only {L : List Part} {z0 : State} {off : ℕ} {val : Word} {s : State} (hL : [.rings, .events,
    .vectors, .hxpRest, .out] ⊆ L)
    (hO : onlyChanges L z0 s) : onlyChanges L z0 (hxpDoorbell off val s) := by
  unfold hxpDoorbell
  try dsimp only
  repeat' first
    | with_reducible exact hO
    | with_reducible refine evqDb_only (subParts hL) ?_
    | with_reducible refine ctlDb_only (subParts hL) ?_
    | with_reducible refine cmdqDb_only (subParts hL) ?_
    | with_reducible refine cplqDb_only (subParts hL) ?_
    | (with_reducible refine ite_only (fun _ => ?_) fun _ => ?_)

theorem writeReg_only {L : List Part} {z0 : State} {off : ℕ} {val : Word} {s : State} (hL : [.records, .rings,
    .events, .vectors, .hxpRest, .recorder, .selfTest, .gates, .clocks, .heat, .times, .out] ⊆ L)
    (hO : onlyChanges L z0 s) : onlyChanges L z0 (writeReg off val s) := by
  unfold writeReg
  try dsimp only
  repeat' first
    | with_reducible exact hO
    | with_reducible refine hxpWrite_only (subParts hL) ?_
    | with_reducible refine clkMonEff_only (subParts hL) ?_
    | with_reducible refine gateClrEff_only (subParts hL) ?_
    | with_reducible refine hxpDoorbell_only (subParts hL) ?_
    | (with_reducible refine ite_only (fun _ => ?_) fun _ => ?_)
    | ((with_reducible refine update_only ?_ fun p => ?_); rotate_left;
        (cases p <;> first | exact .inl (hL (by decide)) | (refine .inr ?_; repeat' constructor));
        first
        | with_reducible exact hO
        | with_reducible refine hxpWrite_only (subParts hL) ?_
        | with_reducible refine clkMonEff_only (subParts hL) ?_
        | with_reducible refine gateClrEff_only (subParts hL) ?_
        | with_reducible refine hxpDoorbell_only (subParts hL) ?_
        | (with_reducible refine ite_only (fun _ => ?_) fun _ => ?_))
    | split

theorem svcReply_only {L : List Part} {z0 : State} {f : List Byte} {ty : ℕ} {data : List Byte} {s : State} (hL :
    [.out] ⊆ L)
    (hO : onlyChanges L z0 s) : onlyChanges L z0 (svcReply f ty data s) := by
  unfold svcReply
  try dsimp only
  repeat' first
    | with_reducible exact hO
    | with_reducible refine emit_only (subParts hL) ?_

theorem svcAck_only {L : List Part} {z0 : State} {f : List Byte} {st : Status} {s : State} (hL : [.out] ⊆ L)
    (hO : onlyChanges L z0 s) : onlyChanges L z0 (svcAck f st s) := by
  unfold svcAck
  try dsimp only
  repeat' first
    | with_reducible exact hO
    | with_reducible refine svcReply_only (subParts hL) ?_

theorem svcTake_only {L : List Part} {z0 : State} {ty : ℕ} {f : List Byte} {g : State → State} {s : State} (hL : []
    ⊆ L)
    (hO : onlyChanges L z0 s)
    (k_g : ∀ z : State, onlyChanges L z0 z → onlyChanges L z0 (g z)) : onlyChanges L z0 (svcTake ty f g s) := by
  unfold svcTake
  try dsimp only
  repeat' first
    | with_reducible exact hO
    | with_reducible apply k_g
    | (with_reducible refine ite_only (fun _ => ?_) fun _ => ?_)

theorem svcSpeedwell_only {L : List Part} {z0 : State} {f : List Byte} {g : State → State} {s : State} (hL : [.out]
    ⊆ L)
    (hO : onlyChanges L z0 s)
    (k_g : ∀ z : State, onlyChanges L z0 z → onlyChanges L z0 (g z)) : onlyChanges L z0 (svcSpeedwell f g s) := by
  unfold svcSpeedwell
  try dsimp only
  repeat' first
    | with_reducible exact hO
    | with_reducible apply k_g
    | with_reducible refine svcAck_only (subParts hL) ?_
    | (with_reducible refine ite_only (fun _ => ?_) fun _ => ?_)

theorem svcHello_only {L : List Part} {z0 : State} {f : List Byte} {s : State} (hL : [.firmware, .out] ⊆ L)
    (hO : onlyChanges L z0 s) : onlyChanges L z0 (svcHello f s) := by
  unfold svcHello
  try dsimp only
  repeat' first
    | with_reducible exact hO
    | with_reducible refine svcReply_only (subParts hL) ?_
    | (with_reducible refine ite_only (fun _ => ?_) fun _ => ?_)
    | ((with_reducible refine update_only ?_ fun p => ?_); rotate_left;
        (cases p <;> first | exact .inl (hL (by decide)) | (refine .inr ?_; repeat' constructor));
        first
        | with_reducible exact hO
        | with_reducible refine svcReply_only (subParts hL) ?_
        | (with_reducible refine ite_only (fun _ => ?_) fun _ => ?_))

theorem svcGrant_only {L : List Part} {z0 : State} {f : List Byte} {g : Grant} {s : State} (hL : [.firmware, .out] ⊆
    L)
    (hO : onlyChanges L z0 s) : onlyChanges L z0 (svcGrant f g s) := by
  unfold svcGrant
  try dsimp only
  repeat' first
    | with_reducible exact hO
    | with_reducible refine svcAck_only (subParts hL) ?_
    | (with_reducible refine ite_only (fun _ => ?_) fun _ => ?_)
    | ((with_reducible refine update_only ?_ fun p => ?_); rotate_left;
        (cases p <;> first | exact .inl (hL (by decide)) | (refine .inr ?_; repeat' constructor));
        first
        | with_reducible exact hO
        | with_reducible refine svcAck_only (subParts hL) ?_
        | (with_reducible refine ite_only (fun _ => ?_) fun _ => ?_))

theorem svcRefuse_only {L : List Part} {z0 : State} {f : List Byte} {st : Status} {slot : ℕ} {s : State} (hL :
    [.records, .events, .hxpRest, .recorder, .out] ⊆ L)
    (hO : onlyChanges L z0 s) : onlyChanges L z0 (svcRefuse f st slot s) := by
  unfold svcRefuse
  try dsimp only
  repeat' first
    | with_reducible exact hO
    | with_reducible refine svcAck_only (subParts hL) ?_
    | with_reducible refine occur2_only (subParts hL) ?_
    | ((with_reducible refine update_only ?_ fun p => ?_); rotate_left;
        (cases p <;> first | exact .inl (hL (by decide)) | (refine .inr ?_; repeat' constructor));
        first
        | with_reducible exact hO
        | with_reducible refine svcAck_only (subParts hL) ?_
        | with_reducible refine occur2_only (subParts hL) ?_)

theorem svcGranted_only {L : List Part} {z0 : State} {f : List Byte} {op : ℕ} {tgt : List Byte → Bool} {k : State →
    State} {s : State} (hL : [.records, .nonces, .events, .hxpRest, .recorder, .firmware, .out] ⊆ L)
    (hO : onlyChanges L z0 s)
    (k_k : ∀ z : State, onlyChanges L z0 z → onlyChanges L z0 (k z)) : onlyChanges L z0 (svcGranted f op tgt k s) := by
  unfold svcGranted
  try dsimp only
  repeat' first
    | with_reducible exact hO
    | with_reducible apply k_k
    | with_reducible refine svcRefuse_only (subParts hL) ?_
    | with_reducible refine nonceKeep_only (subParts hL) ?_
    | (with_reducible refine ite_only (fun _ => ?_) fun _ => ?_)
    | ((with_reducible refine update_only ?_ fun p => ?_); rotate_left;
        (cases p <;> first | exact .inl (hL (by decide)) | (refine .inr ?_; repeat' constructor));
        first
        | with_reducible exact hO
        | with_reducible apply k_k
        | with_reducible refine svcRefuse_only (subParts hL) ?_
        | with_reducible refine nonceKeep_only (subParts hL) ?_
        | (with_reducible refine ite_only (fun _ => ?_) fun _ => ?_))
    | split

theorem svcStore_only {L : List Part} {z0 : State} {f : List Byte} {hdr : Option ImageHdr} {s : State} (hL :
    [.records, .images, .events, .recorder, .firmware, .heat, .out] ⊆ L)
    (hO : onlyChanges L z0 s) : onlyChanges L z0 (svcStore f hdr s) := by
  unfold svcStore
  try dsimp only
  repeat' first
    | with_reducible exact hO
    | with_reducible refine svcAck_only (subParts hL) ?_
    | with_reducible refine chunkStore_only (subParts hL) ?_

theorem svcChunk_only {L : List Part} {z0 : State} {f : List Byte} {hdr : Option ImageHdr} {s : State} (hL :
    [.records, .nonces, .images, .events, .hxpRest, .recorder, .firmware, .heat, .out] ⊆ L)
    (hO : onlyChanges L z0 s) : onlyChanges L z0 (svcChunk f hdr s) := by
  unfold svcChunk
  try dsimp only
  repeat' first
    | with_reducible exact hO
    | with_reducible refine svcAck_only (subParts hL) ?_
    | with_reducible refine svcGranted_only (subParts hL) ?_ (fun _ _ => ?_)
    | with_reducible refine svcStore_only (subParts hL) ?_
    | with_reducible assumption
    | (with_reducible refine ite_only (fun _ => ?_) fun _ => ?_)

theorem svcActivate_only {L : List Part} {z0 : State} {f : List Byte} {s : State} (hL : [.records, .nonces, .images,
    .events, .hxpRest, .recorder, .firmware, .stores, .out] ⊆ L)
    (hO : onlyChanges L z0 s) : onlyChanges L z0 (svcActivate f s) := by
  unfold svcActivate
  try dsimp only
  repeat' first
    | with_reducible exact hO
    | with_reducible refine svcAck_only (subParts hL) ?_
    | with_reducible refine svcGranted_only (subParts hL) ?_ (fun _ _ => ?_)
    | with_reducible refine speedwellInstall_only (subParts hL) ?_
    | with_reducible assumption
    | (with_reducible refine ite_only (fun _ => ?_) fun _ => ?_)
    | split

theorem svcStatus_only {L : List Part} {z0 : State} {f : List Byte} {s : State} (hL : [.out] ⊆ L)
    (hO : onlyChanges L z0 s) : onlyChanges L z0 (svcStatus f s) := by
  unfold svcStatus
  try dsimp only
  repeat' first
    | with_reducible exact hO
    | with_reducible refine svcReply_only (subParts hL) ?_

end Sys2Proof.Machine
end

