-- ==== Sys2Proof/Laws/FrameHostCommands.lean ====
section
/-! SUPPORT. What each host command may change. -/

namespace Sys2Proof.Machine

set_option Elab.async false
set_option linter.unusedTactic false
set_option linter.unreachableTactic false

theorem execStagingChecksDone_only {L : List Part} {z : State} {t : ℕ} {partner : Option Bool} {s0 : State} (hL :
    [.time, .records, .rings, .events, .recorder, .heat, .cycle, .change, .pair, .out] ⊆ L)
    (h : execStagingChecksDone t partner s0 = .next z) : onlyChanges L s0 z := by
  have hO : onlyChanges L s0 s0 := onlyChanges_refl
  unfold execStagingChecksDone at h
  injection h with h
  subst h
  try dsimp only
  repeat' first
    | with_reducible exact hO
    | with_reducible refine atT_only (subParts hL) ?_
    | with_reducible refine ownChecks_only (subParts hL) ?_
    | with_reducible refine partnerChecks_only (subParts hL) ?_
    | (with_reducible refine ite_only (fun _ => ?_) fun _ => ?_)
    | split

theorem execStage_only {L : List Part} {z : State} {t : ℕ} {c : Call} {box : Container} {s : State} (hL : [.time,
    .records, .nonces, .refusal, .rings, .events, .hxpRest, .recorder, .heat, .change, .pair, .out] ⊆ L)
    (h : execStage t c box s = .next z) : onlyChanges L s z := by
  have hO : onlyChanges L s s := onlyChanges_refl
  unfold execStage at h
  injection h with h
  subst h
  try dsimp only
  repeat' first
    | with_reducible exact hO
    | with_reducible refine serveTurn_only (subParts hL) ?_ (fun _ _ _ => ?_)
    | with_reducible refine opStage_only (subParts hL) ?_
    | with_reducible refine atT_only (subParts hL) ?_
    | with_reducible assumption

theorem execGenSelect_only {L : List Part} {z : State} {t : ℕ} {c : Call} {gen : ℕ} {s : State} (hL : [.time,
    .records, .nonces, .refusal, .rings, .events, .hxpRest, .recorder, .heat, .change, .pair, .out] ⊆ L)
    (h : execGenSelect t c gen s = .next z) : onlyChanges L s z := by
  have hO : onlyChanges L s s := onlyChanges_refl
  unfold execGenSelect at h
  injection h with h
  subst h
  try dsimp only
  repeat' first
    | with_reducible exact hO
    | with_reducible refine serveTurn_only (subParts hL) ?_ (fun _ _ _ => ?_)
    | with_reducible refine opGenSelect_only (subParts hL) ?_
    | with_reducible refine atT_only (subParts hL) ?_
    | with_reducible assumption

theorem execSwitch_only {L : List Part} {z : State} {t : ℕ} {c : Call} {cycle : ℕ} {s : State} (hL : [.time,
    .records, .nonces, .refusal, .rings, .events, .hxpRest, .recorder, .cycle] ⊆ L)
    (h : execSwitch t c cycle s = .next z) : onlyChanges L s z := by
  have hO : onlyChanges L s s := onlyChanges_refl
  unfold execSwitch at h
  injection h with h
  subst h
  try dsimp only
  repeat' first
    | with_reducible exact hO
    | with_reducible refine serveTurn_only (subParts hL) ?_ (fun _ _ _ => ?_)
    | with_reducible refine opSwitch_only (subParts hL) ?_
    | with_reducible refine atT_only (subParts hL) ?_
    | with_reducible assumption

theorem execConfirm_only {L : List Part} {z : State} {t : ℕ} {c : Call} {gen : ℕ} {s : State} (hL : [.time,
    .records, .nonces, .refusal, .rings, .events, .hxpRest, .recorder, .cycle] ⊆ L)
    (h : execConfirm t c gen s = .next z) : onlyChanges L s z := by
  have hO : onlyChanges L s s := onlyChanges_refl
  unfold execConfirm at h
  injection h with h
  subst h
  try dsimp only
  repeat' first
    | with_reducible exact hO
    | with_reducible refine serveTurn_only (subParts hL) ?_ (fun _ _ _ => ?_)
    | with_reducible refine opConfirm_only (subParts hL) ?_
    | with_reducible refine atT_only (subParts hL) ?_
    | with_reducible assumption

theorem execRevert_only {L : List Part} {z : State} {t : ℕ} {c : Call} {gen : ℕ} {s : State} (hL : [.time, .records,
    .nonces, .refusal, .rings, .events, .hxpRest, .recorder, .cycle] ⊆ L)
    (h : execRevert t c gen s = .next z) : onlyChanges L s z := by
  have hO : onlyChanges L s s := onlyChanges_refl
  unfold execRevert at h
  injection h with h
  subst h
  try dsimp only
  repeat' first
    | with_reducible exact hO
    | with_reducible refine serveTurn_only (subParts hL) ?_ (fun _ _ _ => ?_)
    | with_reducible refine opRevert_only (subParts hL) ?_
    | with_reducible refine atT_only (subParts hL) ?_
    | with_reducible assumption

theorem execDiscard_only {L : List Part} {z : State} {t : ℕ} {c : Call} {gen : ℕ} {s : State} (hL : [.time,
    .records, .nonces, .refusal, .rings, .events, .hxpRest, .recorder, .cycle] ⊆ L)
    (h : execDiscard t c gen s = .next z) : onlyChanges L s z := by
  have hO : onlyChanges L s s := onlyChanges_refl
  unfold execDiscard at h
  injection h with h
  subst h
  try dsimp only
  repeat' first
    | with_reducible exact hO
    | with_reducible refine serveTurn_only (subParts hL) ?_ (fun _ _ _ => ?_)
    | with_reducible refine opDiscard_only (subParts hL) ?_
    | with_reducible refine atT_only (subParts hL) ?_
    | with_reducible assumption

theorem execCcvConfirm_only {L : List Part} {z : State} {t : ℕ} {c : Call} {ccv : ℕ} {gen : ℕ} {s : State} (hL :
    [.time, .records, .nonces, .refusal, .rings, .events, .hxpRest, .recorder, .cycle] ⊆ L)
    (h : execCcvConfirm t c ccv gen s = .next z) : onlyChanges L s z := by
  have hO : onlyChanges L s s := onlyChanges_refl
  unfold execCcvConfirm at h
  injection h with h
  subst h
  try dsimp only
  repeat' first
    | with_reducible exact hO
    | with_reducible refine serveTurn_only (subParts hL) ?_ (fun _ _ _ => ?_)
    | with_reducible refine opCcvConfirm_only (subParts hL) ?_
    | with_reducible refine atT_only (subParts hL) ?_
    | with_reducible assumption

theorem execDebugAccess_only {L : List Part} {z : State} {t : ℕ} {a : Access} {s0 : State} (hL : [.time, .records,
    .events, .recorder, .faults, .gates, .cycle, .memory, .out, .free] ⊆ L)
    (h : execDebugAccess t a s0 = .next z) : onlyChanges L s0 z := by
  have hO : onlyChanges L s0 s0 := onlyChanges_refl
  unfold execDebugAccess at h
  injection h with h
  subst h
  try dsimp only
  repeat' first
    | with_reducible exact hO
    | with_reducible refine atT_only (subParts hL) ?_
    | with_reducible refine debugEff_only (subParts hL) ?_
    | (with_reducible refine ite_only (fun _ => ?_) fun _ => ?_)

theorem execGateProgramFault_only {L : List Part} {z : State} {t : ℕ} {a0 : Access} {s0 : State} (hL : [.time,
    .records, .faultStore, .modRetired, .tuple, .modRest, .rings, .events, .vectors, .slots, .hxpRest, .recorder,
    .faults, .firmware, .gates, .clocks, .heat, .cycle, .change, .stores, .network, .ile, .pair, .tripIo, .can,
    .analog, .out] ⊆ L)
    (h : execGateProgramFault t a0 s0 = .next z) : onlyChanges L s0 z := by
  have hO : onlyChanges L s0 s0 := onlyChanges_refl
  unfold execGateProgramFault at h
  injection h with h
  subst h
  try dsimp only
  repeat' first
    | with_reducible exact hO
    | with_reducible refine atT_only (subParts hL) ?_
    | with_reducible refine deniedEff_only (subParts hL) ?_
    | with_reducible refine violate_only (subParts hL) ?_
    | (with_reducible refine ite_only (fun _ => ?_) fun _ => ?_)
    | split

theorem execNop_only {L : List Part} {z : State} {t : ℕ} {c : Call} {s : State} (hL : [.time, .records, .refusal,
    .rings, .events, .hxpRest, .recorder] ⊆ L)
    (h : execNop t c s = .next z) : onlyChanges L s z := by
  have hO : onlyChanges L s s := onlyChanges_refl
  unfold execNop at h
  injection h with h
  subst h
  try dsimp only
  repeat' first
    | with_reducible exact hO
    | with_reducible refine serve_only (subParts hL) ?_ (fun _ _ _ => ?_)
    | with_reducible refine opNop_only (subParts hL) ?_
    | with_reducible refine atT_only (subParts hL) ?_
    | with_reducible assumption

theorem execPointRead_only {L : List Part} {z : State} {t : ℕ} {c : Call} {image : ℕ} {first : ℕ} {count : ℕ} {s :
    State} (hL : [.time, .records, .refusal, .rings, .events, .hxpRest, .recorder, .out] ⊆ L)
    (h : execPointRead t c image first count s = .next z) : onlyChanges L s z := by
  have hO : onlyChanges L s s := onlyChanges_refl
  unfold execPointRead at h
  injection h with h
  subst h
  try dsimp only
  repeat' first
    | with_reducible exact hO
    | with_reducible refine serve_only (subParts hL) ?_ (fun _ _ _ => ?_)
    | with_reducible refine opPointRead_only (subParts hL) ?_
    | with_reducible refine atT_only (subParts hL) ?_
    | with_reducible assumption

theorem execForceList_only {L : List Part} {z : State} {t : ℕ} {c : Call} {s : State} (hL : [.time, .records,
    .refusal, .rings, .events, .hxpRest, .recorder, .out] ⊆ L)
    (h : execForceList t c s = .next z) : onlyChanges L s z := by
  have hO : onlyChanges L s s := onlyChanges_refl
  unfold execForceList at h
  injection h with h
  subst h
  try dsimp only
  repeat' first
    | with_reducible exact hO
    | with_reducible refine serve_only (subParts hL) ?_ (fun _ _ _ => ?_)
    | with_reducible refine opForceList_only (subParts hL) ?_
    | with_reducible refine atT_only (subParts hL) ?_
    | with_reducible assumption

theorem execLRead_only {L : List Part} {z : State} {t : ℕ} {c : Call} {window : ℕ} {first : ℕ} {count : ℕ} {s :
    State} (hL : [.time, .records, .refusal, .rings, .events, .hxpRest, .recorder, .out] ⊆ L)
    (h : execLRead t c window first count s = .next z) : onlyChanges L s z := by
  have hO : onlyChanges L s s := onlyChanges_refl
  unfold execLRead at h
  injection h with h
  subst h
  try dsimp only
  repeat' first
    | with_reducible exact hO
    | with_reducible refine serve_only (subParts hL) ?_ (fun _ _ _ => ?_)
    | with_reducible refine opLRead_only (subParts hL) ?_
    | with_reducible refine atT_only (subParts hL) ?_
    | with_reducible assumption

theorem execLStatus_only {L : List Part} {z : State} {t : ℕ} {c : Call} {s : State} (hL : [.time, .records,
    .refusal, .rings, .events, .hxpRest, .recorder, .out] ⊆ L)
    (h : execLStatus t c s = .next z) : onlyChanges L s z := by
  have hO : onlyChanges L s s := onlyChanges_refl
  unfold execLStatus at h
  injection h with h
  subst h
  try dsimp only
  repeat' first
    | with_reducible exact hO
    | with_reducible refine serve_only (subParts hL) ?_ (fun _ _ _ => ?_)
    | with_reducible refine opLStatus_only (subParts hL) ?_
    | with_reducible refine atT_only (subParts hL) ?_
    | with_reducible assumption

theorem execLegacyWrite_only {L : List Part} {z : State} {t : ℕ} {c : Call} {opcode : ℕ} {s : State} (hL : [.time,
    .rings, .hxpRest] ⊆ L)
    (h : execLegacyWrite t c opcode s = .next z) : onlyChanges L s z := by
  have hO : onlyChanges L s s := onlyChanges_refl
  unfold execLegacyWrite at h
  injection h with h
  subst h
  try dsimp only
  repeat' first
    | with_reducible exact hO
    | with_reducible refine serve_only (subParts hL) ?_ (fun _ _ _ => ?_)
    | with_reducible refine opLegacyWrite_only (subParts hL) ?_
    | with_reducible refine atT_only (subParts hL) ?_
    | with_reducible assumption
    | (with_reducible refine ite_only (fun _ => ?_) fun _ => ?_)

theorem execBadOpcode_only {L : List Part} {z : State} {t : ℕ} {c : Call} {opcode : ℕ} {s : State} (hL : [.time,
    .rings, .hxpRest] ⊆ L)
    (h : execBadOpcode t c opcode s = .next z) : onlyChanges L s z := by
  have hO : onlyChanges L s s := onlyChanges_refl
  unfold execBadOpcode at h
  injection h with h
  subst h
  try dsimp only
  repeat' first
    | with_reducible exact hO
    | with_reducible refine atT_only (subParts hL) ?_
    | with_reducible refine serve_only (subParts hL) ?_ (fun _ _ _ => ?_)
    | with_reducible refine opBadOpcode_only (subParts hL) ?_
    | with_reducible assumption
    | (with_reducible refine ite_only (fun _ => ?_) fun _ => ?_)

theorem execCycleStatus_only {L : List Part} {z : State} {t : ℕ} {c : Call} {options : ℕ} {s : State} (hL : [.time,
    .records, .refusal, .rings, .events, .hxpRest, .recorder, .cycle, .out] ⊆ L)
    (h : execCycleStatus t c options s = .next z) : onlyChanges L s z := by
  have hO : onlyChanges L s s := onlyChanges_refl
  unfold execCycleStatus at h
  injection h with h
  subst h
  try dsimp only
  repeat' first
    | with_reducible exact hO
    | with_reducible refine serve_only (subParts hL) ?_ (fun _ _ _ => ?_)
    | with_reducible refine opCycleStatus_only (subParts hL) ?_
    | with_reducible refine atT_only (subParts hL) ?_
    | with_reducible assumption

theorem execChangeStatus_only {L : List Part} {z : State} {t : ℕ} {c : Call} {s : State} (hL : [.time, .records,
    .refusal, .rings, .events, .hxpRest, .recorder, .out] ⊆ L)
    (h : execChangeStatus t c s = .next z) : onlyChanges L s z := by
  have hO : onlyChanges L s s := onlyChanges_refl
  unfold execChangeStatus at h
  injection h with h
  subst h
  try dsimp only
  repeat' first
    | with_reducible exact hO
    | with_reducible refine serve_only (subParts hL) ?_ (fun _ _ _ => ?_)
    | with_reducible refine opChangeStatus_only (subParts hL) ?_
    | with_reducible refine atT_only (subParts hL) ?_
    | with_reducible assumption

theorem execIdentity_only {L : List Part} {z : State} {t : ℕ} {c : Call} {s : State} (hL : [.time, .records,
    .refusal, .rings, .events, .hxpRest, .recorder, .out] ⊆ L)
    (h : execIdentity t c s = .next z) : onlyChanges L s z := by
  have hO : onlyChanges L s s := onlyChanges_refl
  unfold execIdentity at h
  injection h with h
  subst h
  try dsimp only
  repeat' first
    | with_reducible exact hO
    | with_reducible refine serve_only (subParts hL) ?_ (fun _ _ _ => ?_)
    | with_reducible refine opIdentity_only (subParts hL) ?_
    | with_reducible refine atT_only (subParts hL) ?_
    | with_reducible assumption

theorem execRecRead_only {L : List Part} {z : State} {t : ℕ} {c : Call} {codeFirst : ℕ} {codeLast : ℕ} {store : ℕ}
    {fromGt : ℕ} {toGt : ℕ} {bad : List ℕ} {s : State} (hL : [.time, .records, .refusal, .rings, .events, .hxpRest,
    .recorder, .out, .free] ⊆ L)
    (h : execRecRead t c codeFirst codeLast store fromGt toGt bad s = .next z) : onlyChanges L s z := by
  have hO : onlyChanges L s s := onlyChanges_refl
  unfold execRecRead at h
  injection h with h
  subst h
  try dsimp only
  repeat' first
    | with_reducible exact hO
    | with_reducible refine serve_only (subParts hL) ?_ (fun _ _ _ => ?_)
    | with_reducible refine opRecRead_only (subParts hL) ?_
    | with_reducible refine atT_only (subParts hL) ?_
    | with_reducible assumption

theorem execRecClear_only {L : List Part} {z : State} {t : ℕ} {c : Call} {codeFirst : ℕ} {codeLast : ℕ} {store : ℕ}
    {fromGt : ℕ} {toGt : ℕ} {s : State} (hL : [.time, .records, .nonces, .refusal, .rings, .events, .hxpRest,
    .recorder, .heat] ⊆ L)
    (h : execRecClear t c codeFirst codeLast store fromGt toGt s = .next z) : onlyChanges L s z := by
  have hO : onlyChanges L s s := onlyChanges_refl
  unfold execRecClear at h
  injection h with h
  subst h
  try dsimp only
  repeat' first
    | with_reducible exact hO
    | with_reducible refine serveTurn_only (subParts hL) ?_ (fun _ _ _ => ?_)
    | with_reducible refine opRecClear_only (subParts hL) ?_
    | with_reducible refine atT_only (subParts hL) ?_
    | with_reducible assumption

theorem execSnapArm_only {L : List Part} {z : State} {t : ℕ} {c : Call} {id : ℕ} {at_ : ℕ} {s : State} (hL : [.time,
    .records, .refusal, .rings, .events, .hxpRest, .recorder, .times, .pair, .out] ⊆ L)
    (h : execSnapArm t c id at_ s = .next z) : onlyChanges L s z := by
  have hO : onlyChanges L s s := onlyChanges_refl
  unfold execSnapArm at h
  injection h with h
  subst h
  try dsimp only
  repeat' first
    | with_reducible exact hO
    | with_reducible refine serveTurn_only (subParts hL) ?_ (fun _ _ _ => ?_)
    | with_reducible refine opSnapArm_only (subParts hL) ?_
    | with_reducible refine atT_only (subParts hL) ?_
    | with_reducible assumption

theorem execSnapRead_only {L : List Part} {z : State} {t : ℕ} {c : Call} {first : ℕ} {count : ℕ} {s : State} (hL :
    [.time, .records, .refusal, .rings, .events, .hxpRest, .recorder, .out] ⊆ L)
    (h : execSnapRead t c first count s = .next z) : onlyChanges L s z := by
  have hO : onlyChanges L s s := onlyChanges_refl
  unfold execSnapRead at h
  injection h with h
  subst h
  try dsimp only
  repeat' first
    | with_reducible exact hO
    | with_reducible refine serve_only (subParts hL) ?_ (fun _ _ _ => ?_)
    | with_reducible refine opSnapRead_only (subParts hL) ?_
    | with_reducible refine atT_only (subParts hL) ?_
    | with_reducible assumption

theorem execIleRead_only {L : List Part} {z : State} {t : ℕ} {c : Call} {kind : ℕ} {first : ℕ} {count : ℕ} {s :
    State} (hL : [.time, .records, .refusal, .rings, .events, .hxpRest, .recorder, .out] ⊆ L)
    (h : execIleRead t c kind first count s = .next z) : onlyChanges L s z := by
  have hO : onlyChanges L s s := onlyChanges_refl
  unfold execIleRead at h
  injection h with h
  subst h
  try dsimp only
  repeat' first
    | with_reducible exact hO
    | with_reducible refine serve_only (subParts hL) ?_ (fun _ _ _ => ?_)
    | with_reducible refine opIleRead_only (subParts hL) ?_
    | with_reducible refine atT_only (subParts hL) ?_
    | with_reducible assumption

theorem execBlock_only {L : List Part} {z : State} {t : ℕ} {c : Call} {body : OpBody} {s : State} (hL : [.time,
    .records, .nonces, .refusal, .rings, .events, .hxpRest, .recorder, .ile, .pair, .out] ⊆ L)
    (h : execBlock t c body s = .next z) : onlyChanges L s z := by
  have hO : onlyChanges L s s := onlyChanges_refl
  unfold execBlock at h
  injection h with h
  subst h
  try dsimp only
  repeat' first
    | with_reducible exact hO
    | with_reducible refine serveTurn_only (subParts hL) ?_ (fun _ _ _ => ?_)
    | with_reducible refine opIleOperator_only (subParts hL) ?_
    | with_reducible refine atT_only (subParts hL) ?_
    | with_reducible assumption

theorem execUnblock_only {L : List Part} {z : State} {t : ℕ} {c : Call} {body : OpBody} {s : State} (hL : [.time,
    .records, .nonces, .refusal, .rings, .events, .hxpRest, .recorder, .ile, .pair, .out] ⊆ L)
    (h : execUnblock t c body s = .next z) : onlyChanges L s z := by
  have hO : onlyChanges L s s := onlyChanges_refl
  unfold execUnblock at h
  injection h with h
  subst h
  try dsimp only
  repeat' first
    | with_reducible exact hO
    | with_reducible refine serveTurn_only (subParts hL) ?_ (fun _ _ _ => ?_)
    | with_reducible refine opIleOperator_only (subParts hL) ?_
    | with_reducible refine atT_only (subParts hL) ?_
    | with_reducible assumption

theorem execEmergRelease_only {L : List Part} {z : State} {t : ℕ} {c : Call} {body : OpBody} {s : State} (hL :
    [.time, .records, .nonces, .refusal, .rings, .events, .hxpRest, .recorder, .ile, .pair, .out] ⊆ L)
    (h : execEmergRelease t c body s = .next z) : onlyChanges L s z := by
  have hO : onlyChanges L s s := onlyChanges_refl
  unfold execEmergRelease at h
  injection h with h
  subst h
  try dsimp only
  repeat' first
    | with_reducible exact hO
    | with_reducible refine serveTurn_only (subParts hL) ?_ (fun _ _ _ => ?_)
    | with_reducible refine opIleOperator_only (subParts hL) ?_
    | with_reducible refine atT_only (subParts hL) ?_
    | with_reducible assumption

theorem execStart_only {L : List Part} {z : State} {t : ℕ} {c : Call} {s : State} (hL : [.time, .records, .nonces,
    .refusal, .rings, .events, .hxpRest, .recorder, .cycle] ⊆ L)
    (h : execStart t c s = .next z) : onlyChanges L s z := by
  have hO : onlyChanges L s s := onlyChanges_refl
  unfold execStart at h
  injection h with h
  subst h
  try dsimp only
  repeat' first
    | with_reducible exact hO
    | with_reducible refine serveTurn_only (subParts hL) ?_ (fun _ _ _ => ?_)
    | with_reducible refine opRun_only (subParts hL) ?_
    | with_reducible refine atT_only (subParts hL) ?_
    | with_reducible assumption

theorem execHold_only {L : List Part} {z : State} {t : ℕ} {c : Call} {s : State} (hL : [.time, .records, .nonces,
    .refusal, .rings, .events, .hxpRest, .recorder, .cycle] ⊆ L)
    (h : execHold t c s = .next z) : onlyChanges L s z := by
  have hO : onlyChanges L s s := onlyChanges_refl
  unfold execHold at h
  injection h with h
  subst h
  try dsimp only
  repeat' first
    | with_reducible exact hO
    | with_reducible refine serveTurn_only (subParts hL) ?_ (fun _ _ _ => ?_)
    | with_reducible refine opRun_only (subParts hL) ?_
    | with_reducible refine atT_only (subParts hL) ?_
    | with_reducible assumption

theorem execStop_only {L : List Part} {z : State} {t : ℕ} {c : Call} {s : State} (hL : [.time, .records, .nonces,
    .refusal, .rings, .events, .hxpRest, .recorder, .cycle] ⊆ L)
    (h : execStop t c s = .next z) : onlyChanges L s z := by
  have hO : onlyChanges L s s := onlyChanges_refl
  unfold execStop at h
  injection h with h
  subst h
  try dsimp only
  repeat' first
    | with_reducible exact hO
    | with_reducible refine serveTurn_only (subParts hL) ?_ (fun _ _ _ => ?_)
    | with_reducible refine opRun_only (subParts hL) ?_
    | with_reducible refine atT_only (subParts hL) ?_
    | with_reducible assumption

theorem execHandover_only {L : List Part} {z : State} {t : ℕ} {c : Call} {s : State} (hL : [.time, .records,
    .nonces, .refusal, .rings, .events, .hxpRest, .recorder, .cycle] ⊆ L)
    (h : execHandover t c s = .next z) : onlyChanges L s z := by
  have hO : onlyChanges L s s := onlyChanges_refl
  unfold execHandover at h
  injection h with h
  subst h
  try dsimp only
  repeat' first
    | with_reducible exact hO
    | with_reducible refine serveTurn_only (subParts hL) ?_ (fun _ _ _ => ?_)
    | with_reducible refine opRun_only (subParts hL) ?_
    | with_reducible refine atT_only (subParts hL) ?_
    | with_reducible assumption

theorem execRetire_only {L : List Part} {z : State} {t : ℕ} {c : Call} {s : State} (hL : [.time, .records, .nonces,
    .modRetired, .tuple, .refusal, .modRest, .rings, .events, .slots, .hxpRest, .recorder, .faults, .firmware,
    .gates, .clocks, .heat, .cycle, .change, .stores, .network, .ile, .pair, .tripIo, .can, .analog, .out] ⊆ L)
    (h : execRetire t c s = .next z) : onlyChanges L s z := by
  have hO : onlyChanges L s s := onlyChanges_refl
  unfold execRetire at h
  injection h with h
  subst h
  try dsimp only
  repeat' first
    | with_reducible exact hO
    | with_reducible refine serveTurn_only (subParts hL) ?_ (fun _ _ _ => ?_)
    | with_reducible refine opRetire_only (subParts hL) ?_
    | with_reducible refine atT_only (subParts hL) ?_
    | with_reducible assumption

theorem execReadmit_only {L : List Part} {z : State} {t : ℕ} {c : Call} {arg : ℕ} {source : ℕ} {testOk : Bool} {s :
    State} (hL : [.time, .records, .nonces, .faultStore, .modRetired, .tuple, .refusal, .modRest, .rings, .events,
    .vectors, .slots, .hxpRest, .recorder, .faults, .selfTest, .firmware, .gates, .clocks, .heat, .contacts, .cycle,
    .change, .stores, .times, .network, .ile, .pair, .tripIo, .can, .analog, .memory, .out] ⊆ L)
    (h : execReadmit t c arg source testOk s = .next z) : onlyChanges L s z := by
  have hO : onlyChanges L s s := onlyChanges_refl
  unfold execReadmit at h
  injection h with h
  subst h
  try dsimp only
  repeat' first
    | with_reducible exact hO
    | with_reducible refine serveTurn_only (subParts hL) ?_ (fun _ _ _ => ?_)
    | with_reducible refine opReadmit_only (subParts hL) ?_
    | with_reducible refine atT_only (subParts hL) ?_
    | with_reducible assumption

theorem execBstMode_only {L : List Part} {z : State} {t : ℕ} {c : Call} {arg : ℕ} {s : State} (hL : [.time,
    .records, .nonces, .tuple, .refusal, .rings, .events, .slots, .hxpRest, .recorder, .cycle] ⊆ L)
    (h : execBstMode t c arg s = .next z) : onlyChanges L s z := by
  have hO : onlyChanges L s s := onlyChanges_refl
  unfold execBstMode at h
  injection h with h
  subst h
  try dsimp only
  repeat' first
    | with_reducible exact hO
    | with_reducible refine serveTurn_only (subParts hL) ?_ (fun _ _ _ => ?_)
    | with_reducible refine opBstMode_only (subParts hL) ?_
    | with_reducible refine atT_only (subParts hL) ?_
    | with_reducible assumption

theorem execFwAck_only {L : List Part} {z : State} {t : ℕ} {c : Call} {s : State} (hL : [.time, .records, .nonces,
    .refusal, .rings, .events, .hxpRest, .recorder, .cycle] ⊆ L)
    (h : execFwAck t c s = .next z) : onlyChanges L s z := by
  have hO : onlyChanges L s s := onlyChanges_refl
  unfold execFwAck at h
  injection h with h
  subst h
  try dsimp only
  repeat' first
    | with_reducible exact hO
    | with_reducible refine serveTurn_only (subParts hL) ?_ (fun _ _ _ => ?_)
    | with_reducible refine opFwAck_only (subParts hL) ?_
    | with_reducible refine atT_only (subParts hL) ?_
    | with_reducible assumption

theorem execPointWrite_only {L : List Part} {z : State} {t : ℕ} {c : Call} {count : ℕ} {recs : List PointRec} {s :
    State} (hL : [.time, .records, .nonces, .refusal, .rings, .events, .hxpRest, .recorder, .cycle] ⊆ L)
    (h : execPointWrite t c count recs s = .next z) : onlyChanges L s z := by
  have hO : onlyChanges L s s := onlyChanges_refl
  unfold execPointWrite at h
  injection h with h
  subst h
  try dsimp only
  repeat' first
    | with_reducible exact hO
    | with_reducible refine serveTurn_only (subParts hL) ?_ (fun _ _ _ => ?_)
    | with_reducible refine opPointWrite_only (subParts hL) ?_
    | with_reducible refine atT_only (subParts hL) ?_
    | with_reducible assumption

theorem execForceSet_only {L : List Part} {z : State} {t : ℕ} {c : Call} {addr : ℕ} {ty : ℕ} {value : DWord} {s :
    State} (hL : [.time, .records, .nonces, .refusal, .rings, .events, .hxpRest, .recorder, .cycle] ⊆ L)
    (h : execForceSet t c addr ty value s = .next z) : onlyChanges L s z := by
  have hO : onlyChanges L s s := onlyChanges_refl
  unfold execForceSet at h
  injection h with h
  subst h
  try dsimp only
  repeat' first
    | with_reducible exact hO
    | with_reducible refine serveTurn_only (subParts hL) ?_ (fun _ _ _ => ?_)
    | with_reducible refine opForceSet_only (subParts hL) ?_
    | with_reducible refine atT_only (subParts hL) ?_
    | with_reducible assumption

theorem execForceClear_only {L : List Part} {z : State} {t : ℕ} {c : Call} {addr : ℕ} {s : State} (hL : [.time,
    .records, .nonces, .refusal, .rings, .events, .hxpRest, .recorder, .cycle] ⊆ L)
    (h : execForceClear t c addr s = .next z) : onlyChanges L s z := by
  have hO : onlyChanges L s s := onlyChanges_refl
  unfold execForceClear at h
  injection h with h
  subst h
  try dsimp only
  repeat' first
    | with_reducible exact hO
    | with_reducible refine serveTurn_only (subParts hL) ?_ (fun _ _ _ => ?_)
    | with_reducible refine opForceClear_only (subParts hL) ?_
    | with_reducible refine atT_only (subParts hL) ?_
    | with_reducible assumption

theorem execFwActivateReset_only {L : List Part} {z : State} {t : ℕ} {s0 : State} (hL : [.time, .records, .tuple,
    .refusal, .modRest, .rings, .events, .vectors, .slots, .hxpRest, .recorder, .faults, .selfTest, .firmware,
    .gates, .clocks, .heat, .contacts, .cycle, .change, .times, .network, .ile, .pair, .tripIo, .can, .analog,
    .memory] ⊆ L)
    (h : execFwActivateReset t s0 = .next z) : onlyChanges L s0 z := by
  have hO : onlyChanges L s0 s0 := onlyChanges_refl
  unfold execFwActivateReset at h
  injection h with h
  subst h
  try dsimp only
  repeat' first
    | with_reducible exact hO
    | with_reducible refine atT_only (subParts hL) ?_
    | with_reducible refine moduleReset_only (subParts hL) ?_
    | (with_reducible refine ite_only (fun _ => ?_) fun _ => ?_)

theorem execFwChunk_only {L : List Part} {z : State} {t : ℕ} {c : Call} {offset : ℕ} {total : ℕ} {data : List Byte}
    {hdr : Option ImageHdr} {s : State} (hL : [.time, .records, .nonces, .images, .refusal, .rings, .events,
    .hxpRest, .recorder, .firmware, .heat] ⊆ L)
    (h : execFwChunk t c offset total data hdr s = .next z) : onlyChanges L s z := by
  have hO : onlyChanges L s s := onlyChanges_refl
  unfold execFwChunk at h
  injection h with h
  subst h
  try dsimp only
  repeat' first
    | with_reducible exact hO
    | with_reducible refine serveTurn_only (subParts hL) ?_ (fun _ _ _ => ?_)
    | with_reducible refine opFwChunk_only (subParts hL) ?_
    | with_reducible refine atT_only (subParts hL) ?_
    | with_reducible assumption

theorem execFwActivate_only {L : List Part} {z : State} {t : ℕ} {c : Call} {s : State} (hL : [.time, .records,
    .nonces, .images, .refusal, .rings, .events, .vectors, .hxpRest, .recorder, .firmware, .stores, .pair, .out] ⊆
    L)
    (h : execFwActivate t c s = .next z) : onlyChanges L s z := by
  have hO : onlyChanges L s s := onlyChanges_refl
  unfold execFwActivate at h
  injection h with h
  subst h
  try dsimp only
  repeat' first
    | with_reducible exact hO
    | with_reducible refine serveTurn_only (subParts hL) ?_ (fun _ _ _ => ?_)
    | with_reducible refine opFwActivate_only (subParts hL) ?_
    | with_reducible refine atT_only (subParts hL) ?_
    | with_reducible assumption

theorem execFwStatus_only {L : List Part} {z : State} {t : ℕ} {c : Call} {s : State} (hL : [.time, .records,
    .refusal, .rings, .events, .hxpRest, .recorder, .out] ⊆ L)
    (h : execFwStatus t c s = .next z) : onlyChanges L s z := by
  have hO : onlyChanges L s s := onlyChanges_refl
  unfold execFwStatus at h
  injection h with h
  subst h
  try dsimp only
  repeat' first
    | with_reducible exact hO
    | with_reducible refine serve_only (subParts hL) ?_ (fun _ _ _ => ?_)
    | with_reducible refine opFwStatus_only (subParts hL) ?_
    | with_reducible refine atT_only (subParts hL) ?_
    | with_reducible assumption

theorem execTimeSet_only {L : List Part} {z : State} {t : ℕ} {c : Call} {gt : ℕ} {s : State} (hL : [.time, .records,
    .nonces, .refusal, .rings, .events, .hxpRest, .recorder, .faults, .firmware, .times, .pair] ⊆ L)
    (h : execTimeSet t c gt s = .next z) : onlyChanges L s z := by
  have hO : onlyChanges L s s := onlyChanges_refl
  unfold execTimeSet at h
  injection h with h
  subst h
  try dsimp only
  repeat' first
    | with_reducible exact hO
    | with_reducible refine serveTurn_only (subParts hL) ?_ (fun _ _ _ => ?_)
    | with_reducible refine opTimeSet_only (subParts hL) ?_
    | with_reducible refine atT_only (subParts hL) ?_
    | with_reducible assumption

theorem execHartPass_only {L : List Part} {z : State} {t : ℕ} {c : Call} {ch : ℕ} {cmd : ℕ} {len : ℕ} {data : List
    Byte} {s : State} (hL : [.time, .records, .nonces, .refusal, .rings, .events, .hxpRest, .recorder, .analog,
    .out] ⊆ L)
    (h : execHartPass t c ch cmd len data s = .next z) : onlyChanges L s z := by
  have hO : onlyChanges L s s := onlyChanges_refl
  unfold execHartPass at h
  injection h with h
  subst h
  try dsimp only
  repeat' first
    | with_reducible exact hO
    | with_reducible refine serveTurn_only (subParts hL) ?_ (fun _ _ _ => ?_)
    | with_reducible refine opHartPass_only (subParts hL) ?_
    | with_reducible refine atT_only (subParts hL) ?_
    | with_reducible assumption

theorem execDebugUnlock_only {L : List Part} {z : State} {t : ℕ} {c : Call} {mask : ℕ} {s : State} (hL : [.time,
    .records, .nonces, .refusal, .rings, .events, .hxpRest, .recorder, .gates] ⊆ L)
    (h : execDebugUnlock t c mask s = .next z) : onlyChanges L s z := by
  have hO : onlyChanges L s s := onlyChanges_refl
  unfold execDebugUnlock at h
  injection h with h
  subst h
  try dsimp only
  repeat' first
    | with_reducible exact hO
    | with_reducible refine serveTurn_only (subParts hL) ?_ (fun _ _ _ => ?_)
    | with_reducible refine opDebugUnlock_only (subParts hL) ?_
    | with_reducible refine atT_only (subParts hL) ?_
    | with_reducible assumption

theorem execKeyProvision_only {L : List Part} {z : State} {t : ℕ} {c : Call} {k : KeyRec} {s : State} (hL : [.time,
    .records, .nonces, .refusal, .rings, .events, .hxpRest, .recorder, .cycle] ⊆ L)
    (h : execKeyProvision t c k s = .next z) : onlyChanges L s z := by
  have hO : onlyChanges L s s := onlyChanges_refl
  unfold execKeyProvision at h
  injection h with h
  subst h
  try dsimp only
  repeat' first
    | with_reducible exact hO
    | with_reducible refine serveTurn_only (subParts hL) ?_ (fun _ _ _ => ?_)
    | with_reducible refine opKeyProvision_only (subParts hL) ?_
    | with_reducible refine atT_only (subParts hL) ?_
    | with_reducible assumption

theorem execGrantHold_only {L : List Part} {z : State} {t : ℕ} {c : Call} {slot : ℕ} {g : Grant} {s : State} (hL :
    [.time, .records, .nonces, .refusal, .rings, .events, .slots, .hxpRest, .recorder] ⊆ L)
    (h : execGrantHold t c slot g s = .next z) : onlyChanges L s z := by
  have hO : onlyChanges L s s := onlyChanges_refl
  unfold execGrantHold at h
  injection h with h
  subst h
  try dsimp only
  repeat' first
    | with_reducible exact hO
    | with_reducible refine serveTurn_only (subParts hL) ?_ (fun _ _ _ => ?_)
    | with_reducible refine opGrantHold_only (subParts hL) ?_
    | with_reducible refine atT_only (subParts hL) ?_
    | with_reducible assumption

theorem execGrantDrop_only {L : List Part} {z : State} {t : ℕ} {c : Call} {slot : ℕ} {s : State} (hL : [.time,
    .records, .refusal, .rings, .events, .slots, .hxpRest, .recorder] ⊆ L)
    (h : execGrantDrop t c slot s = .next z) : onlyChanges L s z := by
  have hO : onlyChanges L s s := onlyChanges_refl
  unfold execGrantDrop at h
  injection h with h
  subst h
  try dsimp only
  repeat' first
    | with_reducible exact hO
    | with_reducible refine serve_only (subParts hL) ?_ (fun _ _ _ => ?_)
    | with_reducible refine opGrantDrop_only (subParts hL) ?_
    | with_reducible refine atT_only (subParts hL) ?_
    | with_reducible assumption

theorem execDescriptorFetch_only {L : List Part} {z : State} {t : ℕ} {ring : ℕ} {desc : List Byte} {buf : HostBuf}
    {grant : Option Grant} {_held : Bool} {s : State} (hL : [.time, .records, .nonces, .faultStore, .images,
    .modRetired, .tuple, .refusal, .modRest, .rings, .events, .vectors, .slots, .hxpRest, .recorder, .faults,
    .selfTest, .firmware, .gates, .clocks, .heat, .contacts, .cycle, .change, .stores, .times, .network, .ile,
    .pair, .tripIo, .can, .analog, .memory, .out, .free] ⊆ L)
    (h : execDescriptorFetch t ring desc buf grant _held s = .next z) : onlyChanges L s z := by
  have hO : onlyChanges L s s := onlyChanges_refl
  unfold execDescriptorFetch at h
  injection h with h
  subst h
  try dsimp only
  repeat' first
    | with_reducible exact hO
    | with_reducible refine atT_only (subParts hL) ?_
    | with_reducible refine serve_only (subParts hL) ?_ (fun _ _ _ => ?_)
    | with_reducible refine runDesc_only (subParts hL) ?_
    | with_reducible assumption
    | (with_reducible refine ite_only (fun _ => ?_) fun _ => ?_)
    | ((with_reducible refine update_only ?_ fun p => ?_); rotate_left;
        (cases p <;> first | exact .inl (hL (by decide)) | (refine .inr ?_; repeat' constructor));
        first
        | with_reducible exact hO
        | with_reducible refine atT_only (subParts hL) ?_
        | with_reducible refine serve_only (subParts hL) ?_ (fun _ _ _ => ?_)
        | with_reducible refine runDesc_only (subParts hL) ?_
        | with_reducible assumption
        | (with_reducible refine ite_only (fun _ => ?_) fun _ => ?_))

theorem execRegWrite_only {L : List Part} {z : State} {t : ℕ} {off : ℕ} {val : Word} {s : State} (hL : [.time,
    .records, .rings, .events, .vectors, .hxpRest, .recorder, .selfTest, .gates, .clocks, .heat, .times, .out] ⊆ L)
    (h : execRegWrite t off val s = .next z) : onlyChanges L s z := by
  have hO : onlyChanges L s s := onlyChanges_refl
  unfold execRegWrite at h
  injection h with h
  subst h
  try dsimp only
  repeat' first
    | with_reducible exact hO
    | with_reducible refine writeReg_only (subParts hL) ?_
    | with_reducible refine atT_only (subParts hL) ?_
    | with_reducible refine msixWrite_only (subParts hL) ?_
    | with_reducible refine pcieWrite_only (subParts hL) ?_
    | (with_reducible refine ite_only (fun _ => ?_) fun _ => ?_)

theorem execUnsupportedAccess_only {L : List Part} {z : State} {t : ℕ} {off : ℕ} {size : ℕ} {_write : Bool} {s0 :
    State} (hL : [.time, .out] ⊆ L)
    (h : execUnsupportedAccess t off size _write s0 = .next z) : onlyChanges L s0 z := by
  have hO : onlyChanges L s0 s0 := onlyChanges_refl
  unfold execUnsupportedAccess at h
  injection h with h
  subst h
  try dsimp only
  repeat' first
    | with_reducible exact hO
    | with_reducible refine atT_only (subParts hL) ?_
    | with_reducible refine emit_only (subParts hL) ?_
    | (with_reducible refine ite_only (fun _ => ?_) fun _ => ?_)

theorem execServiceHello_only {L : List Part} {z : State} {t : ℕ} {frame : List Byte} {s : State} (hL : [.time,
    .firmware, .out] ⊆ L)
    (h : execServiceHello t frame s = .next z) : onlyChanges L s z := by
  have hO : onlyChanges L s s := onlyChanges_refl
  unfold execServiceHello at h
  injection h with h
  subst h
  try dsimp only
  repeat' first
    | with_reducible exact hO
    | with_reducible refine svcTake_only (subParts hL) ?_ (fun _ _ => ?_)
    | with_reducible refine svcHello_only (subParts hL) ?_
    | with_reducible refine atT_only (subParts hL) ?_
    | with_reducible assumption

theorem execServiceGrant_only {L : List Part} {z : State} {t : ℕ} {frame : List Byte} {g : Grant} {s : State} (hL :
    [.time, .firmware, .out] ⊆ L)
    (h : execServiceGrant t frame g s = .next z) : onlyChanges L s z := by
  have hO : onlyChanges L s s := onlyChanges_refl
  unfold execServiceGrant at h
  injection h with h
  subst h
  try dsimp only
  repeat' first
    | with_reducible exact hO
    | with_reducible refine svcTake_only (subParts hL) ?_ (fun _ _ => ?_)
    | with_reducible refine svcSpeedwell_only (subParts hL) ?_ (fun _ _ => ?_)
    | with_reducible refine svcGrant_only (subParts hL) ?_
    | with_reducible refine atT_only (subParts hL) ?_
    | with_reducible assumption

theorem execServiceChunk_only {L : List Part} {z : State} {t : ℕ} {frame : List Byte} {hdr : Option ImageHdr} {s :
    State} (hL : [.time, .records, .nonces, .images, .events, .hxpRest, .recorder, .firmware, .heat, .out] ⊆ L)
    (h : execServiceChunk t frame hdr s = .next z) : onlyChanges L s z := by
  have hO : onlyChanges L s s := onlyChanges_refl
  unfold execServiceChunk at h
  injection h with h
  subst h
  try dsimp only
  repeat' first
    | with_reducible exact hO
    | with_reducible refine svcTake_only (subParts hL) ?_ (fun _ _ => ?_)
    | with_reducible refine svcSpeedwell_only (subParts hL) ?_ (fun _ _ => ?_)
    | with_reducible refine svcChunk_only (subParts hL) ?_
    | with_reducible refine atT_only (subParts hL) ?_
    | with_reducible assumption

theorem execServiceActivate_only {L : List Part} {z : State} {t : ℕ} {frame : List Byte} {s : State} (hL : [.time,
    .records, .nonces, .images, .events, .hxpRest, .recorder, .firmware, .stores, .out] ⊆ L)
    (h : execServiceActivate t frame s = .next z) : onlyChanges L s z := by
  have hO : onlyChanges L s s := onlyChanges_refl
  unfold execServiceActivate at h
  injection h with h
  subst h
  try dsimp only
  repeat' first
    | with_reducible exact hO
    | with_reducible refine svcTake_only (subParts hL) ?_ (fun _ _ => ?_)
    | with_reducible refine svcSpeedwell_only (subParts hL) ?_ (fun _ _ => ?_)
    | with_reducible refine svcActivate_only (subParts hL) ?_
    | with_reducible refine atT_only (subParts hL) ?_
    | with_reducible assumption

theorem execServiceStatus_only {L : List Part} {z : State} {t : ℕ} {frame : List Byte} {s : State} (hL : [.time,
    .out] ⊆ L)
    (h : execServiceStatus t frame s = .next z) : onlyChanges L s z := by
  have hO : onlyChanges L s s := onlyChanges_refl
  unfold execServiceStatus at h
  injection h with h
  subst h
  try dsimp only
  repeat' first
    | with_reducible exact hO
    | with_reducible refine svcTake_only (subParts hL) ?_ (fun _ _ => ?_)
    | with_reducible refine svcStatus_only (subParts hL) ?_
    | with_reducible refine atT_only (subParts hL) ?_
    | with_reducible assumption

end Sys2Proof.Machine
end

