-- ==== Sys2Proof/Laws/FramePairCommands.lean ====
section
/-! SUPPORT. What each command of the pair, faults, self-test, power and boot may change. -/

namespace Sys2Proof.Machine

set_option Elab.async false
set_option linter.unusedTactic false
set_option linter.unreachableTactic false

theorem execHeartbeatSend_only {L : List Part} {z : State} {t : ℕ} {s0 : State} (hL : [.time, .pair, .out] ⊆ L)
    (h : execHeartbeatSend t s0 = .next z) : onlyChanges L s0 z := by
  have hO : onlyChanges L s0 s0 := onlyChanges_refl
  unfold execHeartbeatSend at h
  injection h with h
  subst h
  try dsimp only
  repeat' first
    | with_reducible exact hO
    | with_reducible refine atT_only (subParts hL) ?_
    | with_reducible refine askAgain_only (subParts hL) ?_
    | with_reducible refine sendOn_only (subParts hL) ?_
    | (with_reducible refine ite_only (fun _ => ?_) fun _ => ?_)
    | ((with_reducible refine update_only ?_ fun p => ?_); rotate_left;
        (cases p <;> first | exact .inl (hL (by decide)) | (refine .inr ?_; repeat' constructor));
        first
        | with_reducible exact hO
        | with_reducible refine atT_only (subParts hL) ?_
        | with_reducible refine askAgain_only (subParts hL) ?_
        | with_reducible refine sendOn_only (subParts hL) ?_
        | (with_reducible refine ite_only (fun _ => ?_) fun _ => ?_))

theorem execPartnerSilent_only {L : List Part} {z : State} {t : ℕ} {s0 : State} (hL : [.time, .records, .modRetired,
    .tuple, .modRest, .rings, .events, .slots, .recorder, .faults, .selfTest, .firmware, .gates, .clocks, .heat,
    .cycle, .change, .stores, .network, .ile, .pair, .tripIo, .can, .analog, .out, .free] ⊆ L)
    (h : execPartnerSilent t s0 = .next z) : onlyChanges L s0 z := by
  have hO : onlyChanges L s0 s0 := onlyChanges_refl
  unfold execPartnerSilent at h
  injection h with h
  subst h
  try dsimp only
  repeat' first
    | with_reducible exact hO
    | with_reducible refine atT_only (subParts hL) ?_
    | with_reducible refine silentRole_only (subParts hL) ?_
    | with_reducible refine noteFault_only (subParts hL) ?_
    | (with_reducible refine ite_only (fun _ => ?_) fun _ => ?_)
    | ((with_reducible refine update_only ?_ fun p => ?_); rotate_left;
        (cases p <;> first | exact .inl (hL (by decide)) | (refine .inr ?_; repeat' constructor));
        first
        | with_reducible exact hO
        | with_reducible refine atT_only (subParts hL) ?_
        | with_reducible refine silentRole_only (subParts hL) ?_
        | with_reducible refine noteFault_only (subParts hL) ?_
        | (with_reducible refine ite_only (fun _ => ?_) fun _ => ?_))
    | split

theorem execAgree_only {L : List Part} {z : State} {t : ℕ} {h : PktHdr} {m : AgreeMsg} {s0 : State} (hL : [.time,
    .records, .tuple, .refusal, .modRest, .rings, .events, .slots, .recorder, .faults, .selfTest, .clocks, .heat,
    .cycle, .change, .stores, .network, .pair, .tripIo, .can, .analog, .out] ⊆ L)
    (h : execAgree t h m s0 = .next z) : onlyChanges L s0 z := by
  have hO : onlyChanges L s0 s0 := onlyChanges_refl
  unfold execAgree at h
  injection h with h
  subst h
  try dsimp only
  repeat' first
    | with_reducible exact hO
    | with_reducible refine atT_only (subParts hL) ?_
    | with_reducible refine onP0_only (subParts hL) ?_ (fun _ _ => ?_)
    | with_reducible refine agreeArrive_only (subParts hL) ?_
    | with_reducible assumption
    | (with_reducible refine ite_only (fun _ => ?_) fun _ => ?_)

theorem execSliceReq_only {L : List Part} {z : State} {t : ℕ} {h : PktHdr} {slices : List ℕ} {s0 : State} (hL :
    [.time, .pair, .out] ⊆ L)
    (h : execSliceReq t h slices s0 = .next z) : onlyChanges L s0 z := by
  have hO : onlyChanges L s0 s0 := onlyChanges_refl
  unfold execSliceReq at h
  injection h with h
  subst h
  try dsimp only
  repeat' first
    | with_reducible exact hO
    | with_reducible refine atT_only (subParts hL) ?_
    | with_reducible refine onP0_only (subParts hL) ?_ (fun _ _ => ?_)
    | with_reducible refine sendSlices_only (subParts hL) ?_
    | with_reducible assumption
    | (with_reducible refine ite_only (fun _ => ?_) fun _ => ?_)

theorem execSliceData_only {L : List Part} {z : State} {t : ℕ} {h : PktHdr} {slice : ℕ} {entries : List (ℕ × Entry)}
    {s0 : State} (hL : [.time, .records, .modRest, .rings, .events, .recorder, .faults, .selfTest, .clocks, .heat,
    .cycle, .stores, .pair, .tripIo, .can, .analog, .out] ⊆ L)
    (h : execSliceData t h slice entries s0 = .next z) : onlyChanges L s0 z := by
  have hO : onlyChanges L s0 s0 := onlyChanges_refl
  unfold execSliceData at h
  injection h with h
  subst h
  try dsimp only
  repeat' first
    | with_reducible exact hO
    | with_reducible refine atT_only (subParts hL) ?_
    | with_reducible refine onP0_only (subParts hL) ?_ (fun _ _ => ?_)
    | with_reducible refine sliceTake_only (subParts hL) ?_
    | with_reducible assumption
    | (with_reducible refine ite_only (fun _ => ?_) fun _ => ?_)

theorem execAgreeDone_only {L : List Part} {z : State} {t : ℕ} {h : PktHdr} {cycle : ℕ} {s0 : State} (hL : [.time,
    .records, .modRest, .rings, .events, .recorder, .faults, .selfTest, .clocks, .heat, .cycle, .stores, .pair,
    .tripIo, .can, .analog, .out] ⊆ L)
    (h : execAgreeDone t h cycle s0 = .next z) : onlyChanges L s0 z := by
  have hO : onlyChanges L s0 s0 := onlyChanges_refl
  unfold execAgreeDone at h
  injection h with h
  subst h
  try dsimp only
  repeat' first
    | with_reducible exact hO
    | with_reducible refine atT_only (subParts hL) ?_
    | with_reducible refine onP0_only (subParts hL) ?_ (fun _ _ => ?_)
    | with_reducible refine agreeDone_only (subParts hL) ?_
    | with_reducible assumption
    | (with_reducible refine ite_only (fun _ => ?_) fun _ => ?_)

theorem execSignature_only {L : List Part} {z : State} {t : ℕ} {h : PktHdr} {cycle : ℕ} {sig : ℕ} {s0 : State} (hL :
    [.time, .records, .modRest, .events, .recorder, .faults, .selfTest, .clocks, .heat, .cycle, .stores, .pair,
    .out] ⊆ L)
    (h : execSignature t h cycle sig s0 = .next z) : onlyChanges L s0 z := by
  have hO : onlyChanges L s0 s0 := onlyChanges_refl
  unfold execSignature at h
  injection h with h
  subst h
  try dsimp only
  repeat' first
    | with_reducible exact hO
    | with_reducible refine atT_only (subParts hL) ?_
    | with_reducible refine onP0_only (subParts hL) ?_ (fun _ _ => ?_)
    | with_reducible refine signatureTake_only (subParts hL) ?_
    | with_reducible assumption
    | (with_reducible refine ite_only (fun _ => ?_) fun _ => ?_)

theorem execForceTable_only {L : List Part} {z : State} {t : ℕ} {h : PktHdr} {version : ℕ} {boundary : ℕ} {forces :
    List Force} {s0 : State} (hL : [.time, .records, .keys, .faultStore, .images, .tuple, .refusal, .modRest,
    .rings, .events, .vectors, .slots, .hxpRest, .recorder, .faults, .selfTest, .firmware, .gates, .clocks, .heat,
    .contacts, .cycle, .change, .stores, .times, .network, .ile, .pair, .tripIo, .can, .analog, .memory, .out] ⊆ L)
    (h : execForceTable t h version boundary forces s0 = .next z) : onlyChanges L s0 z := by
  have hO : onlyChanges L s0 s0 := onlyChanges_refl
  unfold execForceTable at h
  injection h with h
  subst h
  try dsimp only
  repeat' first
    | with_reducible exact hO
    | with_reducible refine atT_only (subParts hL) ?_
    | with_reducible refine onP0_only (subParts hL) ?_ (fun _ _ => ?_)
    | with_reducible refine relayTake_only (subParts hL) ?_
    | with_reducible refine forcesTake_only (subParts hL) ?_
    | with_reducible assumption
    | (with_reducible refine ite_only (fun _ => ?_) fun _ => ?_)

theorem execRelease_only {L : List Part} {z : State} {t : ℕ} {h : PktHdr} {cycle : ℕ} {s0 : State} (hL : [.time,
    .records, .tuple, .modRest, .rings, .events, .slots, .recorder, .cycle, .pair, .tripIo, .can, .analog, .out] ⊆
    L)
    (h : execRelease t h cycle s0 = .next z) : onlyChanges L s0 z := by
  have hO : onlyChanges L s0 s0 := onlyChanges_refl
  unfold execRelease at h
  injection h with h
  subst h
  try dsimp only
  repeat' first
    | with_reducible exact hO
    | with_reducible refine atT_only (subParts hL) ?_
    | with_reducible refine onP0_only (subParts hL) ?_ (fun _ _ => ?_)
    | with_reducible refine takeActive_only (subParts hL) ?_
    | with_reducible refine pushPend_only (subParts hL) ?_
    | with_reducible assumption
    | (with_reducible refine ite_only (fun _ => ?_) fun _ => ?_)

theorem execLeaving_only {L : List Part} {z : State} {t : ℕ} {h : PktHdr} {s0 : State} (hL : [.time, .records,
    .tuple, .modRest, .rings, .events, .slots, .recorder, .heat, .change, .pair, .tripIo, .can, .analog, .out] ⊆ L)
    (h : execLeaving t h s0 = .next z) : onlyChanges L s0 z := by
  have hO : onlyChanges L s0 s0 := onlyChanges_refl
  unfold execLeaving at h
  injection h with h
  subst h
  try dsimp only
  repeat' first
    | with_reducible exact hO
    | with_reducible refine atT_only (subParts hL) ?_
    | with_reducible refine onP0_only (subParts hL) ?_ (fun _ _ => ?_)
    | with_reducible refine soloStep_only (subParts hL) ?_
    | with_reducible assumption
    | (with_reducible refine ite_only (fun _ => ?_) fun _ => ?_)
    | ((with_reducible refine update_only ?_ fun p => ?_); rotate_left;
        (cases p <;> first | exact .inl (hL (by decide)) | (refine .inr ?_; repeat' constructor));
        first
        | with_reducible exact hO
        | with_reducible refine atT_only (subParts hL) ?_
        | with_reducible refine onP0_only (subParts hL) ?_ (fun _ _ => ?_)
        | with_reducible refine soloStep_only (subParts hL) ?_
        | with_reducible assumption
        | (with_reducible refine ite_only (fun _ => ?_) fun _ => ?_))

theorem execArbStart_only {L : List Part} {z : State} {t : ℕ} {h : PktHdr} {cause : ArbCause} {td : ℕ} {s0 : State}
    (hL : [.time, .modRest, .selfTest, .clocks, .heat, .pair] ⊆ L)
    (h : execArbStart t h cause td s0 = .next z) : onlyChanges L s0 z := by
  have hO : onlyChanges L s0 s0 := onlyChanges_refl
  unfold execArbStart at h
  injection h with h
  subst h
  try dsimp only
  repeat' first
    | with_reducible exact hO
    | with_reducible refine atT_only (subParts hL) ?_
    | with_reducible refine onP0_only (subParts hL) ?_ (fun _ _ => ?_)
    | with_reducible refine arbSet_only (subParts hL) ?_
    | with_reducible assumption
    | (with_reducible refine ite_only (fun _ => ?_) fun _ => ?_)

theorem execTierAgree_only {L : List Part} {z : State} {t : ℕ} {h : PktHdr} {tier : ℕ} {boundary : ℕ} {s0 : State}
    (hL : [.time, .pair] ⊆ L)
    (h : execTierAgree t h tier boundary s0 = .next z) : onlyChanges L s0 z := by
  have hO : onlyChanges L s0 s0 := onlyChanges_refl
  unfold execTierAgree at h
  injection h with h
  subst h
  try dsimp only
  repeat' first
    | with_reducible exact hO
    | with_reducible refine atT_only (subParts hL) ?_
    | with_reducible refine onP0_only (subParts hL) ?_ (fun _ _ => ?_)
    | with_reducible assumption
    | (with_reducible refine ite_only (fun _ => ?_) fun _ => ?_)
    | ((with_reducible refine update_only ?_ fun p => ?_); rotate_left;
        (cases p <;> first | exact .inl (hL (by decide)) | (refine .inr ?_; repeat' constructor));
        first
        | with_reducible exact hO
        | with_reducible refine atT_only (subParts hL) ?_
        | with_reducible refine onP0_only (subParts hL) ?_ (fun _ _ => ?_)
        | with_reducible assumption
        | (with_reducible refine ite_only (fun _ => ?_) fun _ => ?_))

theorem execRelayedCommand_only {L : List Part} {z : State} {t : ℕ} {h : PktHdr} {r : Relay} {boundary : ℕ} {s0 :
    State} (hL : [.time, .records, .keys, .faultStore, .images, .tuple, .refusal, .modRest, .rings, .events,
    .vectors, .slots, .hxpRest, .recorder, .faults, .selfTest, .firmware, .gates, .clocks, .heat, .contacts, .cycle,
    .change, .stores, .times, .network, .ile, .pair, .tripIo, .can, .analog, .memory, .out] ⊆ L)
    (h : execRelayedCommand t h r boundary s0 = .next z) : onlyChanges L s0 z := by
  have hO : onlyChanges L s0 s0 := onlyChanges_refl
  unfold execRelayedCommand at h
  injection h with h
  subst h
  try dsimp only
  repeat' first
    | with_reducible exact hO
    | with_reducible refine atT_only (subParts hL) ?_
    | with_reducible refine onP0_only (subParts hL) ?_ (fun _ _ => ?_)
    | with_reducible refine relayApply_only (subParts hL) ?_
    | with_reducible assumption
    | (with_reducible refine ite_only (fun _ => ?_) fun _ => ?_)

theorem execIleSnap_only {L : List Part} {z : State} {t : ℕ} {h : PktHdr} {cycle : ℕ} {m : SnapSent} {s0 : State}
    (hL : [.time, .records, .faultStore, .events, .recorder, .faults, .selfTest, .clocks, .heat, .stores, .ile,
    .pair] ⊆ L)
    (h : execIleSnap t h cycle m s0 = .next z) : onlyChanges L s0 z := by
  have hO : onlyChanges L s0 s0 := onlyChanges_refl
  unfold execIleSnap at h
  injection h with h
  subst h
  try dsimp only
  repeat' first
    | with_reducible exact hO
    | with_reducible refine atT_only (subParts hL) ?_
    | with_reducible refine onP0_only (subParts hL) ?_ (fun _ _ => ?_)
    | with_reducible refine runShadow_only (subParts hL) ?_
    | with_reducible assumption
    | (with_reducible refine ite_only (fun _ => ?_) fun _ => ?_)
    | ((with_reducible refine update_only ?_ fun p => ?_); rotate_left;
        (cases p <;> first | exact .inl (hL (by decide)) | (refine .inr ?_; repeat' constructor));
        first
        | with_reducible exact hO
        | with_reducible refine atT_only (subParts hL) ?_
        | with_reducible refine onP0_only (subParts hL) ?_ (fun _ _ => ?_)
        | with_reducible refine runShadow_only (subParts hL) ?_
        | with_reducible assumption
        | (with_reducible refine ite_only (fun _ => ?_) fun _ => ?_))

theorem execIleDigest_only {L : List Part} {z : State} {t : ℕ} {h : PktHdr} {cycle : ℕ} {digest : ℕ} {s0 : State}
    (hL : [.time, .records, .modRest, .events, .recorder, .selfTest, .clocks, .heat, .ile, .pair, .out] ⊆ L)
    (h : execIleDigest t h cycle digest s0 = .next z) : onlyChanges L s0 z := by
  have hO : onlyChanges L s0 s0 := onlyChanges_refl
  unfold execIleDigest at h
  injection h with h
  subst h
  try dsimp only
  repeat' first
    | with_reducible exact hO
    | with_reducible refine atT_only (subParts hL) ?_
    | with_reducible refine onP0_only (subParts hL) ?_ (fun _ _ => ?_)
    | with_reducible refine ileMismatch_only (subParts hL) ?_
    | with_reducible assumption
    | (with_reducible refine ite_only (fun _ => ?_) fun _ => ?_)

theorem execIleState_only {L : List Part} {z : State} {t : ℕ} {h : PktHdr} {gen : ℕ} {cycle : ℕ} {m : IleCopy} {s0 :
    State} (hL : [.time, .stores, .ile, .pair] ⊆ L)
    (h : execIleState t h gen cycle m s0 = .next z) : onlyChanges L s0 z := by
  have hO : onlyChanges L s0 s0 := onlyChanges_refl
  unfold execIleState at h
  injection h with h
  subst h
  try dsimp only
  repeat' first
    | with_reducible exact hO
    | with_reducible refine atT_only (subParts hL) ?_
    | with_reducible refine onP0_only (subParts hL) ?_ (fun _ _ => ?_)
    | with_reducible refine ileStateTake_only (subParts hL) ?_
    | with_reducible assumption
    | (with_reducible refine ite_only (fun _ => ?_) fun _ => ?_)

theorem execPlvLaneFail_only {L : List Part} {z : State} {t : ℕ} {port : ℕ} {_lane : ℕ} {s0 : State} (hL : [.time,
    .records, .faultStore, .events, .recorder, .faults, .pair] ⊆ L)
    (h : execPlvLaneFail t port _lane s0 = .next z) : onlyChanges L s0 z := by
  have hO : onlyChanges L s0 s0 := onlyChanges_refl
  unfold execPlvLaneFail at h
  injection h with h
  subst h
  try dsimp only
  repeat' first
    | with_reducible exact hO
    | with_reducible refine atT_only (subParts hL) ?_
    | with_reducible refine plvFault_only (subParts hL) ?_
    | with_reducible refine updPort_only (subParts hL) ?_
    | (with_reducible refine ite_only (fun _ => ?_) fun _ => ?_)

theorem execPlvDiscardLimit_only {L : List Part} {z : State} {t : ℕ} {port : ℕ} {s0 : State} (hL : [.time, .records,
    .faultStore, .events, .recorder, .faults, .pair] ⊆ L)
    (h : execPlvDiscardLimit t port s0 = .next z) : onlyChanges L s0 z := by
  have hO : onlyChanges L s0 s0 := onlyChanges_refl
  unfold execPlvDiscardLimit at h
  injection h with h
  subst h
  try dsimp only
  repeat' first
    | with_reducible exact hO
    | with_reducible refine atT_only (subParts hL) ?_
    | with_reducible refine plvFault_only (subParts hL) ?_
    | with_reducible refine updPort_only (subParts hL) ?_
    | (with_reducible refine ite_only (fun _ => ?_) fun _ => ?_)

theorem execPlvPortTrained_only {L : List Part} {z : State} {t : ℕ} {port : ℕ} {lanes : ℕ} {s0 : State} (hL :
    [.time, .pair, .out] ⊆ L)
    (h : execPlvPortTrained t port lanes s0 = .next z) : onlyChanges L s0 z := by
  have hO : onlyChanges L s0 s0 := onlyChanges_refl
  unfold execPlvPortTrained at h
  injection h with h
  subst h
  try dsimp only
  repeat' first
    | with_reducible exact hO
    | with_reducible refine atT_only (subParts hL) ?_
    | with_reducible refine updPort_only (subParts hL) ?_
    | with_reducible refine sendDelay_only (subParts hL) ?_
    | (with_reducible refine ite_only (fun _ => ?_) fun _ => ?_)

theorem execBeaconSend_only {L : List Part} {z : State} {t : ℕ} {s0 : State} (hL : [.time, .pair, .out] ⊆ L)
    (h : execBeaconSend t s0 = .next z) : onlyChanges L s0 z := by
  have hO : onlyChanges L s0 s0 := onlyChanges_refl
  unfold execBeaconSend at h
  injection h with h
  subst h
  try dsimp only
  repeat' first
    | with_reducible exact hO
    | with_reducible refine atT_only (subParts hL) ?_
    | with_reducible refine sendRing_only (subParts hL) ?_
    | with_reducible refine beaconPut_only (subParts hL) ?_
    | (with_reducible refine ite_only (fun _ => ?_) fun _ => ?_)

theorem execBeacon_only {L : List Part} {z : State} {t : ℕ} {h : PktHdr} {data : List Byte} {s0 : State} (hL :
    [.time, .times, .pair, .out] ⊆ L)
    (h : execBeacon t h data s0 = .next z) : onlyChanges L s0 z := by
  have hO : onlyChanges L s0 s0 := onlyChanges_refl
  unfold execBeacon at h
  injection h with h
  subst h
  try dsimp only
  repeat' first
    | with_reducible exact hO
    | with_reducible refine atT_only (subParts hL) ?_
    | with_reducible refine onRing_only (subParts hL) ?_ (fun _ _ => ?_)
    | with_reducible refine beaconMaster_only (subParts hL) ?_
    | with_reducible refine beaconPut_only (subParts hL) ?_
    | with_reducible assumption
    | (with_reducible refine ite_only (fun _ => ?_) fun _ => ?_)

theorem execStmEvaluation_only {L : List Part} {z : State} {t : ℕ} {s0 : State} (hL : [.time, .records, .events,
    .recorder, .times] ⊆ L)
    (h : execStmEvaluation t s0 = .next z) : onlyChanges L s0 z := by
  have hO : onlyChanges L s0 s0 := onlyChanges_refl
  unfold execStmEvaluation at h
  injection h with h
  subst h
  try dsimp only
  repeat' first
    | with_reducible exact hO
    | with_reducible refine atT_only (subParts hL) ?_
    | with_reducible refine stmRate_only (subParts hL) ?_
    | with_reducible refine occur_only (subParts hL) ?_
    | (with_reducible refine ite_only (fun _ => ?_) fun _ => ?_)
    | ((with_reducible refine update_only ?_ fun p => ?_); rotate_left;
        (cases p <;> first | exact .inl (hL (by decide)) | (refine .inr ?_; repeat' constructor));
        first
        | with_reducible exact hO
        | with_reducible refine atT_only (subParts hL) ?_
        | with_reducible refine stmRate_only (subParts hL) ?_
        | with_reducible refine occur_only (subParts hL) ?_
        | (with_reducible refine ite_only (fun _ => ?_) fun _ => ?_))

theorem execTimeMessageSend_only {L : List Part} {z : State} {t : ℕ} {s0 : State} (hL : [.time, .pair, .out] ⊆ L)
    (h : execTimeMessageSend t s0 = .next z) : onlyChanges L s0 z := by
  have hO : onlyChanges L s0 s0 := onlyChanges_refl
  unfold execTimeMessageSend at h
  injection h with h
  subst h
  try dsimp only
  repeat' first
    | with_reducible exact hO
    | with_reducible refine atT_only (subParts hL) ?_
    | with_reducible refine sendOn_only (subParts hL) ?_
    | (with_reducible refine ite_only (fun _ => ?_) fun _ => ?_)

theorem execTime_only {L : List Part} {z : State} {t : ℕ} {h : PktHdr} {data : List Byte} {s0 : State} (hL : [.time,
    .faults, .firmware, .times, .pair, .out] ⊆ L)
    (h : execTime t h data s0 = .next z) : onlyChanges L s0 z := by
  have hO : onlyChanges L s0 s0 := onlyChanges_refl
  unfold execTime at h
  injection h with h
  subst h
  try dsimp only
  repeat' first
    | with_reducible exact hO
    | with_reducible refine atT_only (subParts hL) ?_
    | with_reducible refine onRing_only (subParts hL) ?_ (fun _ _ => ?_)
    | with_reducible refine timeTake_only (subParts hL) ?_
    | with_reducible assumption
    | (with_reducible refine ite_only (fun _ => ?_) fun _ => ?_)

theorem execDelay_only {L : List Part} {z : State} {t : ℕ} {h : PktHdr} {data : List Byte} {s0 : State} (hL :
    [.time, .pair, .out] ⊆ L)
    (h : execDelay t h data s0 = .next z) : onlyChanges L s0 z := by
  have hO : onlyChanges L s0 s0 := onlyChanges_refl
  unfold execDelay at h
  injection h with h
  subst h
  try dsimp only
  repeat' first
    | with_reducible exact hO
    | with_reducible refine atT_only (subParts hL) ?_
    | with_reducible refine onRing_only (subParts hL) ?_ (fun _ _ => ?_)
    | with_reducible refine delayTake_only (subParts hL) ?_
    | with_reducible assumption
    | (with_reducible refine ite_only (fun _ => ?_) fun _ => ?_)

theorem execRingLost_only {L : List Part} {z : State} {t : ℕ} {pair : ℕ} {s0 : State} (hL : [.time, .records,
    .events, .recorder, .pair] ⊆ L)
    (h : execRingLost t pair s0 = .next z) : onlyChanges L s0 z := by
  have hO : onlyChanges L s0 s0 := onlyChanges_refl
  unfold execRingLost at h
  injection h with h
  subst h
  try dsimp only
  repeat' first
    | with_reducible exact hO
    | with_reducible refine atT_only (subParts hL) ?_
    | with_reducible refine occurU_only (subParts hL) ?_
    | (with_reducible refine ite_only (fun _ => ?_) fun _ => ?_)
    | ((with_reducible refine update_only ?_ fun p => ?_); rotate_left;
        (cases p <;> first | exact .inl (hL (by decide)) | (refine .inr ?_; repeat' constructor));
        first
        | with_reducible exact hO
        | with_reducible refine atT_only (subParts hL) ?_
        | with_reducible refine occurU_only (subParts hL) ?_
        | (with_reducible refine ite_only (fun _ => ?_) fun _ => ?_))

theorem execSignals_only {L : List Part} {z : State} {t : ℕ} {h : PktHdr} {data : List Byte} {s0 : State} (hL :
    [.time, .cycle, .pair, .out] ⊆ L)
    (h : execSignals t h data s0 = .next z) : onlyChanges L s0 z := by
  have hO : onlyChanges L s0 s0 := onlyChanges_refl
  unfold execSignals at h
  injection h with h
  subst h
  try dsimp only
  repeat' first
    | with_reducible exact hO
    | with_reducible refine atT_only (subParts hL) ?_
    | with_reducible refine onRing_only (subParts hL) ?_ (fun _ _ => ?_)
    | with_reducible refine signalsTake_only (subParts hL) ?_
    | with_reducible assumption
    | (with_reducible refine ite_only (fun _ => ?_) fun _ => ?_)

theorem execSignalsForget_only {L : List Part} {z : State} {t : ℕ} {pair : ℕ} {s0 : State} (hL : [.time, .pair] ⊆ L)
    (h : execSignalsForget t pair s0 = .next z) : onlyChanges L s0 z := by
  have hO : onlyChanges L s0 s0 := onlyChanges_refl
  unfold execSignalsForget at h
  injection h with h
  subst h
  try dsimp only
  repeat' first
    | with_reducible exact hO
    | with_reducible refine atT_only (subParts hL) ?_
    | (with_reducible refine ite_only (fun _ => ?_) fun _ => ?_)
    | ((with_reducible refine update_only ?_ fun p => ?_); rotate_left;
        (cases p <;> first | exact .inl (hL (by decide)) | (refine .inr ?_; repeat' constructor));
        first
        | with_reducible exact hO
        | with_reducible refine atT_only (subParts hL) ?_
        | (with_reducible refine ite_only (fun _ => ?_) fun _ => ?_))
    | split

theorem execBoundary_only {L : List Part} {z : State} {t : ℕ} {h : PktHdr} {data : List Byte} {s0 : State} (hL :
    [.time, .ile, .pair, .out] ⊆ L)
    (h : execBoundary t h data s0 = .next z) : onlyChanges L s0 z := by
  have hO : onlyChanges L s0 s0 := onlyChanges_refl
  unfold execBoundary at h
  injection h with h
  subst h
  try dsimp only
  repeat' first
    | with_reducible exact hO
    | with_reducible refine atT_only (subParts hL) ?_
    | with_reducible refine onRing_only (subParts hL) ?_ (fun _ _ => ?_)
    | with_reducible refine takeBoundary_only (subParts hL) ?_
    | with_reducible assumption
    | (with_reducible refine ite_only (fun _ => ?_) fun _ => ?_)

theorem execP0LinkUp_only {L : List Part} {z : State} {t : ℕ} {s0 : State} (hL : [.time, .pair, .out, .free] ⊆ L)
    (h : execP0LinkUp t s0 = .next z) : onlyChanges L s0 z := by
  have hO : onlyChanges L s0 s0 := onlyChanges_refl
  unfold execP0LinkUp at h
  injection h with h
  subst h
  try dsimp only
  repeat' first
    | with_reducible exact hO
    | with_reducible refine atT_only (subParts hL) ?_
    | with_reducible refine sendDelay_only (subParts hL) ?_
    | with_reducible refine updPort_only (subParts hL) ?_
    | with_reducible refine sendAuth_only (subParts hL) ?_
    | (with_reducible refine ite_only (fun _ => ?_) fun _ => ?_)
    | ((with_reducible refine update_only ?_ fun p => ?_); rotate_left;
        (cases p <;> first | exact .inl (hL (by decide)) | (refine .inr ?_; repeat' constructor));
        first
        | with_reducible exact hO
        | with_reducible refine atT_only (subParts hL) ?_
        | with_reducible refine sendDelay_only (subParts hL) ?_
        | with_reducible refine updPort_only (subParts hL) ?_
        | with_reducible refine sendAuth_only (subParts hL) ?_
        | (with_reducible refine ite_only (fun _ => ?_) fun _ => ?_))

theorem execAuth_only {L : List Part} {z : State} {t : ℕ} {h : PktHdr} {m : AuthMsg} {s0 : State} (hL : [.time,
    .records, .modRetired, .tuple, .modRest, .rings, .events, .slots, .recorder, .faults, .selfTest, .firmware,
    .gates, .clocks, .heat, .cycle, .change, .stores, .network, .ile, .pair, .tripIo, .can, .analog, .out, .free] ⊆
    L)
    (h : execAuth t h m s0 = .next z) : onlyChanges L s0 z := by
  have hO : onlyChanges L s0 s0 := onlyChanges_refl
  unfold execAuth at h
  injection h with h
  subst h
  try dsimp only
  repeat' first
    | with_reducible exact hO
    | with_reducible refine atT_only (subParts hL) ?_
    | with_reducible refine onP0_only (subParts hL) ?_ (fun _ _ => ?_)
    | with_reducible refine authTake_only (subParts hL) ?_
    | with_reducible assumption
    | (with_reducible refine ite_only (fun _ => ?_) fun _ => ?_)

theorem execResync_only {L : List Part} {z : State} {t : ℕ} {h : PktHdr} {d : ResyncData} {s0 : State} (hL : [.time,
    .records, .tuple, .modRest, .rings, .events, .slots, .recorder, .firmware, .gates, .clocks, .heat, .cycle,
    .change, .stores, .times, .network, .ile, .pair, .tripIo, .can, .analog, .out] ⊆ L)
    (h : execResync t h d s0 = .next z) : onlyChanges L s0 z := by
  have hO : onlyChanges L s0 s0 := onlyChanges_refl
  unfold execResync at h
  injection h with h
  subst h
  try dsimp only
  repeat' first
    | with_reducible exact hO
    | with_reducible refine atT_only (subParts hL) ?_
    | with_reducible refine onP0_only (subParts hL) ?_ (fun _ _ => ?_)
    | with_reducible refine resyncTake_only (subParts hL) ?_
    | with_reducible assumption
    | (with_reducible refine ite_only (fun _ => ?_) fun _ => ?_)

theorem execImage_only {L : List Part} {z : State} {t : ℕ} {h : PktHdr} {offset : ℕ} {total : ℕ} {data : List Byte}
    {hdr : Option ImageHdr} {s0 : State} (hL : [.time, .records, .images, .events, .recorder, .firmware, .heat,
    .pair] ⊆ L)
    (h : execImage t h offset total data hdr s0 = .next z) : onlyChanges L s0 z := by
  have hO : onlyChanges L s0 s0 := onlyChanges_refl
  unfold execImage at h
  injection h with h
  subst h
  try dsimp only
  repeat' first
    | with_reducible exact hO
    | with_reducible refine atT_only (subParts hL) ?_
    | with_reducible refine onP0_only (subParts hL) ?_ (fun _ _ => ?_)
    | with_reducible refine chunkStore_only (subParts hL) ?_
    | with_reducible assumption
    | (with_reducible refine ite_only (fun _ => ?_) fun _ => ?_)

theorem execResyncStepDone_only {L : List Part} {z : State} {t : ℕ} {ok : Bool} {s0 : State} (hL : [.time, .records,
    .images, .tuple, .refusal, .modRest, .rings, .events, .vectors, .slots, .hxpRest, .recorder, .faults, .selfTest,
    .firmware, .gates, .clocks, .heat, .contacts, .cycle, .change, .times, .network, .ile, .pair, .tripIo, .can,
    .analog, .memory, .out] ⊆ L)
    (h : execResyncStepDone t ok s0 = .next z) : onlyChanges L s0 z := by
  have hO : onlyChanges L s0 s0 := onlyChanges_refl
  unfold execResyncStepDone at h
  injection h with h
  subst h
  try dsimp only
  repeat' first
    | with_reducible exact hO
    | with_reducible refine atT_only (subParts hL) ?_
    | with_reducible refine targetStep_only (subParts hL) ?_
    | with_reducible refine sourceStep_only (subParts hL) ?_
    | (with_reducible refine ite_only (fun _ => ?_) fun _ => ?_)

theorem execResyncStepTimeout_only {L : List Part} {z : State} {t : ℕ} {s0 : State} (hL : [.time, .records,
    .modRetired, .tuple, .modRest, .rings, .events, .slots, .recorder, .faults, .selfTest, .firmware, .gates,
    .clocks, .heat, .cycle, .change, .stores, .network, .ile, .pair, .tripIo, .can, .analog, .out, .free] ⊆ L)
    (h : execResyncStepTimeout t s0 = .next z) : onlyChanges L s0 z := by
  have hO : onlyChanges L s0 s0 := onlyChanges_refl
  unfold execResyncStepTimeout at h
  injection h with h
  subst h
  try dsimp only
  repeat' first
    | with_reducible exact hO
    | with_reducible refine atT_only (subParts hL) ?_
    | with_reducible refine resyncFail_only (subParts hL) ?_
    | with_reducible refine stepGo_only (subParts hL) ?_
    | (with_reducible refine ite_only (fun _ => ?_) fun _ => ?_)

theorem execResyncAttemptTimeout_only {L : List Part} {z : State} {t : ℕ} {s0 : State} (hL : [.time, .records,
    .modRetired, .tuple, .modRest, .rings, .events, .slots, .recorder, .faults, .selfTest, .firmware, .gates,
    .clocks, .heat, .cycle, .change, .stores, .network, .ile, .pair, .tripIo, .can, .analog, .out, .free] ⊆ L)
    (h : execResyncAttemptTimeout t s0 = .next z) : onlyChanges L s0 z := by
  have hO : onlyChanges L s0 s0 := onlyChanges_refl
  unfold execResyncAttemptTimeout at h
  injection h with h
  subst h
  try dsimp only
  repeat' first
    | with_reducible exact hO
    | with_reducible refine atT_only (subParts hL) ?_
    | with_reducible refine resyncFail_only (subParts hL) ?_
    | (with_reducible refine ite_only (fun _ => ?_) fun _ => ?_)

theorem execFltL0_only {L : List Part} {z : State} {t : ℕ} {target : ℕ} {master : ℕ} {s0 : State} (hL : [.time,
    .records, .faultStore, .modRetired, .tuple, .modRest, .rings, .events, .vectors, .slots, .hxpRest, .recorder,
    .faults, .firmware, .gates, .clocks, .heat, .cycle, .change, .stores, .network, .ile, .pair, .tripIo, .can,
    .analog, .out] ⊆ L)
    (h : execFltL0 t target master s0 = .next z) : onlyChanges L s0 z := by
  have hO : onlyChanges L s0 s0 := onlyChanges_refl
  unfold execFltL0 at h
  injection h with h
  subst h
  try dsimp only
  repeat' first
    | with_reducible exact hO
    | with_reducible refine atT_only (subParts hL) ?_
    | with_reducible refine occur_only (subParts hL) ?_
    | with_reducible refine noteFault_only (subParts hL) ?_
    | with_reducible refine engineFault_only (subParts hL) ?_
    | with_reducible refine retireModule_only (subParts hL) ?_
    | with_reducible refine masterFails_only (subParts hL) ?_
    | (with_reducible refine ite_only (fun _ => ?_) fun _ => ?_)
    | ((with_reducible refine update_only ?_ fun p => ?_); rotate_left;
        (cases p <;> first | exact .inl (hL (by decide)) | (refine .inr ?_; repeat' constructor));
        first
        | with_reducible exact hO
        | with_reducible refine atT_only (subParts hL) ?_
        | with_reducible refine occur_only (subParts hL) ?_
        | with_reducible refine noteFault_only (subParts hL) ?_
        | with_reducible refine engineFault_only (subParts hL) ?_
        | with_reducible refine retireModule_only (subParts hL) ?_
        | with_reducible refine masterFails_only (subParts hL) ?_
        | (with_reducible refine ite_only (fun _ => ?_) fun _ => ?_))
    | split

theorem execEngineWatchdogExpiry_only {L : List Part} {z : State} {t : ℕ} {engine : ℕ} {digestOk : Bool} {s0 :
    State} (hL : [.time, .records, .faultStore, .modRetired, .tuple, .modRest, .rings, .events, .vectors, .slots,
    .hxpRest, .recorder, .faults, .firmware, .gates, .clocks, .heat, .cycle, .change, .stores, .network, .ile,
    .pair, .tripIo, .can, .analog, .out] ⊆ L)
    (h : execEngineWatchdogExpiry t engine digestOk s0 = .next z) : onlyChanges L s0 z := by
  have hO : onlyChanges L s0 s0 := onlyChanges_refl
  unfold execEngineWatchdogExpiry at h
  injection h with h
  subst h
  try dsimp only
  repeat' first
    | with_reducible exact hO
    | with_reducible refine atT_only (subParts hL) ?_
    | with_reducible refine engineFault_only (subParts hL) ?_
    | with_reducible refine engineStops_only (subParts hL) ?_
    | with_reducible refine noteFault_only (subParts hL) ?_
    | with_reducible refine retireModule_only (subParts hL) ?_
    | (with_reducible refine ite_only (fun _ => ?_) fun _ => ?_)
    | ((with_reducible refine update_only ?_ fun p => ?_); rotate_left;
        (cases p <;> first | exact .inl (hL (by decide)) | (refine .inr ?_; repeat' constructor));
        first
        | with_reducible exact hO
        | with_reducible refine atT_only (subParts hL) ?_
        | with_reducible refine engineFault_only (subParts hL) ?_
        | with_reducible refine engineStops_only (subParts hL) ?_
        | with_reducible refine noteFault_only (subParts hL) ?_
        | with_reducible refine retireModule_only (subParts hL) ?_
        | (with_reducible refine ite_only (fun _ => ?_) fun _ => ?_))

theorem execL5Service_only {L : List Part} {z : State} {t : ℕ} {s0 : State} (hL : [.time, .faults] ⊆ L)
    (h : execL5Service t s0 = .next z) : onlyChanges L s0 z := by
  have hO : onlyChanges L s0 s0 := onlyChanges_refl
  unfold execL5Service at h
  injection h with h
  subst h
  try dsimp only
  repeat' first
    | with_reducible exact hO
    | with_reducible refine atT_only (subParts hL) ?_
    | (with_reducible refine ite_only (fun _ => ?_) fun _ => ?_)
    | ((with_reducible refine update_only ?_ fun p => ?_); rotate_left;
        (cases p <;> first | exact .inl (hL (by decide)) | (refine .inr ?_; repeat' constructor));
        first
        | with_reducible exact hO
        | with_reducible refine atT_only (subParts hL) ?_
        | (with_reducible refine ite_only (fun _ => ?_) fun _ => ?_))

theorem execFltL5_only {L : List Part} {z : State} {t : ℕ} {s0 : State} (hL : [.time, .records, .modRetired, .tuple,
    .refusal, .modRest, .rings, .events, .vectors, .slots, .hxpRest, .recorder, .faults, .selfTest, .firmware,
    .gates, .clocks, .heat, .contacts, .cycle, .change, .times, .network, .ile, .pair, .tripIo, .can, .analog,
    .memory] ⊆ L)
    (h : execFltL5 t s0 = .next z) : onlyChanges L s0 z := by
  have hO : onlyChanges L s0 s0 := onlyChanges_refl
  unfold execFltL5 at h
  injection h with h
  subst h
  try dsimp only
  repeat' first
    | with_reducible exact hO
    | with_reducible refine atT_only (subParts hL) ?_
    | with_reducible refine moduleReset_only (subParts hL) ?_
    | (with_reducible refine ite_only (fun _ => ?_) fun _ => ?_)
    | ((with_reducible refine update_only ?_ fun p => ?_); rotate_left;
        (cases p <;> first | exact .inl (hL (by decide)) | (refine .inr ?_; repeat' constructor));
        first
        | with_reducible exact hO
        | with_reducible refine atT_only (subParts hL) ?_
        | with_reducible refine moduleReset_only (subParts hL) ?_
        | (with_reducible refine ite_only (fun _ => ?_) fun _ => ?_))

theorem execDrainTick_only {L : List Part} {z : State} {t : ℕ} {s0 : State} (hL : [.time, .faultStore, .faults] ⊆ L)
    (h : execDrainTick t s0 = .next z) : onlyChanges L s0 z := by
  have hO : onlyChanges L s0 s0 := onlyChanges_refl
  unfold execDrainTick at h
  injection h with h
  subst h
  try dsimp only
  repeat' first
    | with_reducible exact hO
    | with_reducible refine atT_only (subParts hL) ?_
    | (with_reducible refine ite_only (fun _ => ?_) fun _ => ?_)
    | ((with_reducible refine update_only ?_ fun p => ?_); rotate_left;
        (cases p <;> first | exact .inl (hL (by decide)) | (refine .inr ?_; repeat' constructor));
        first
        | with_reducible exact hO
        | with_reducible refine atT_only (subParts hL) ?_
        | (with_reducible refine ite_only (fun _ => ?_) fun _ => ?_))

theorem execPersistenceExpiry_only {L : List Part} {z : State} {t : ℕ} {u : UnitId} {code : ℕ} {s0 : State} (hL :
    [.time, .records, .faultStore, .modRetired, .tuple, .modRest, .rings, .events, .vectors, .slots, .hxpRest,
    .recorder, .faults, .firmware, .gates, .clocks, .heat, .cycle, .change, .stores, .network, .ile, .pair, .tripIo,
    .can, .analog, .out] ⊆ L)
    (h : execPersistenceExpiry t u code s0 = .next z) : onlyChanges L s0 z := by
  have hO : onlyChanges L s0 s0 := onlyChanges_refl
  unfold execPersistenceExpiry at h
  injection h with h
  subst h
  try dsimp only
  repeat' first
    | with_reducible exact hO
    | with_reducible refine atT_only (subParts hL) ?_
    | with_reducible refine retireUnit_only (subParts hL) ?_
    | (with_reducible refine ite_only (fun _ => ?_) fun _ => ?_)

theorem execEccCorrected_only {L : List Part} {z : State} {t : ℕ} {mem : ℕ} {row : ℕ} {s0 : State} (hL : [.time,
    .records, .faultStore, .events, .recorder, .faults] ⊆ L)
    (h : execEccCorrected t mem row s0 = .next z) : onlyChanges L s0 z := by
  have hO : onlyChanges L s0 s0 := onlyChanges_refl
  unfold execEccCorrected at h
  injection h with h
  subst h
  try dsimp only
  repeat' first
    | with_reducible exact hO
    | with_reducible refine rowFault_only (subParts hL) ?_
    | with_reducible refine atT_only (subParts hL) ?_
    | (with_reducible refine ite_only (fun _ => ?_) fun _ => ?_)

theorem execEccUncorrectable_only {L : List Part} {z : State} {t : ℕ} {mem : ℕ} {x : BadWord} {s0 : State} (hL :
    [.time, .records, .faultStore, .events, .recorder, .faults, .cycle] ⊆ L)
    (h : execEccUncorrectable t mem x s0 = .next z) : onlyChanges L s0 z := by
  have hO : onlyChanges L s0 s0 := onlyChanges_refl
  unfold execEccUncorrectable at h
  injection h with h
  subst h
  try dsimp only
  repeat' first
    | with_reducible exact hO
    | with_reducible refine atT_only (subParts hL) ?_
    | with_reducible refine rowFault_only (subParts hL) ?_
    | with_reducible refine poisonWord_only (subParts hL) ?_
    | with_reducible refine rollback_only (subParts hL) ?_
    | (with_reducible refine ite_only (fun _ => ?_) fun _ => ?_)

theorem execNandProgramFail_only {L : List Part} {z : State} {t : ℕ} {blk : ℕ} {s0 : State} (hL : [.time,
    .faultStore] ⊆ L)
    (h : execNandProgramFail t blk s0 = .next z) : onlyChanges L s0 z := by
  have hO : onlyChanges L s0 s0 := onlyChanges_refl
  unfold execNandProgramFail at h
  injection h with h
  subst h
  try dsimp only
  repeat' first
    | with_reducible exact hO
    | with_reducible refine atT_only (subParts hL) ?_
    | (with_reducible refine ite_only (fun _ => ?_) fun _ => ?_)
    | ((with_reducible refine update_only ?_ fun p => ?_); rotate_left;
        (cases p <;> first | exact .inl (hL (by decide)) | (refine .inr ?_; repeat' constructor));
        first
        | with_reducible exact hO
        | with_reducible refine atT_only (subParts hL) ?_
        | (with_reducible refine ite_only (fun _ => ?_) fun _ => ?_))

theorem execBackgroundAdmit_only {L : List Part} {z : State} {t : ℕ} {kind : ℕ} {s0 : State} (hL : [.time,
    .selfTest, .clocks, .heat, .ile] ⊆ L)
    (h : execBackgroundAdmit t kind s0 = .next z) : onlyChanges L s0 z := by
  have hO : onlyChanges L s0 s0 := onlyChanges_refl
  unfold execBackgroundAdmit at h
  injection h with h
  subst h
  try dsimp only
  repeat' first
    | with_reducible exact hO
    | with_reducible refine atT_only (subParts hL) ?_
    | with_reducible refine bgUnwant_only (subParts hL) ?_
    | with_reducible refine gateOpen_only (subParts hL) ?_
    | with_reducible refine compatStart_only (subParts hL) ?_
    | (with_reducible refine ite_only (fun _ => ?_) fun _ => ?_)
    | ((with_reducible refine update_only ?_ fun p => ?_); rotate_left;
        (cases p <;> first | exact .inl (hL (by decide)) | (refine .inr ?_; repeat' constructor));
        first
        | with_reducible exact hO
        | with_reducible refine atT_only (subParts hL) ?_
        | with_reducible refine bgUnwant_only (subParts hL) ?_
        | with_reducible refine gateOpen_only (subParts hL) ?_
        | with_reducible refine compatStart_only (subParts hL) ?_
        | (with_reducible refine ite_only (fun _ => ?_) fun _ => ?_))
    | split

theorem execBackgroundUnitDone_only {L : List Part} {z : State} {t : ℕ} {kind : ℕ} {bad : List ℕ} {s0 : State} (hL :
    [.time, .records, .events, .recorder, .heat, .change] ⊆ L)
    (h : execBackgroundUnitDone t kind bad s0 = .next z) : onlyChanges L s0 z := by
  have hO : onlyChanges L s0 s0 := onlyChanges_refl
  unfold execBackgroundUnitDone at h
  injection h with h
  subst h
  try dsimp only
  repeat' first
    | with_reducible exact hO
    | with_reducible refine atT_only (subParts hL) ?_
    | with_reducible refine bgWant_only (subParts hL) ?_
    | with_reducible refine stageUnit_only (subParts hL) ?_
    | with_reducible refine rollUnit_only (subParts hL) ?_
    | (with_reducible refine ite_only (fun _ => ?_) fun _ => ?_)
    | ((with_reducible refine update_only ?_ fun p => ?_); rotate_left;
        (cases p <;> first | exact .inl (hL (by decide)) | (refine .inr ?_; repeat' constructor));
        first
        | with_reducible exact hO
        | with_reducible refine atT_only (subParts hL) ?_
        | with_reducible refine bgWant_only (subParts hL) ?_
        | with_reducible refine stageUnit_only (subParts hL) ?_
        | with_reducible refine rollUnit_only (subParts hL) ?_
        | (with_reducible refine ite_only (fun _ => ?_) fun _ => ?_))
    | split

theorem execBstSliceDone_only {L : List Part} {z : State} {t : ℕ} {r : SliceRes} {s0 : State} (hL : [.time,
    .records, .faultStore, .modRetired, .tuple, .refusal, .modRest, .rings, .events, .vectors, .slots, .hxpRest,
    .recorder, .faults, .selfTest, .firmware, .gates, .clocks, .heat, .cycle, .change, .stores, .network, .ile,
    .pair, .tripIo, .can, .analog, .memory, .out] ⊆ L)
    (h : execBstSliceDone t r s0 = .next z) : onlyChanges L s0 z := by
  have hO : onlyChanges L s0 s0 := onlyChanges_refl
  unfold execBstSliceDone at h
  injection h with h
  subst h
  try dsimp only
  repeat' first
    | with_reducible exact hO
    | with_reducible refine atT_only (subParts hL) ?_
    | with_reducible refine sliceEnd_only (subParts hL) ?_
    | with_reducible refine compatEnd_only (subParts hL) ?_
    | with_reducible refine awaitedStep_only (subParts hL) ?_
    | with_reducible refine roundStep_only (subParts hL) ?_
    | with_reducible refine testPass_only (subParts hL) ?_
    | with_reducible refine testFail_only (subParts hL) ?_
    | (with_reducible refine ite_only (fun _ => ?_) fun _ => ?_)
    | ((with_reducible refine update_only ?_ fun p => ?_); rotate_left;
        (cases p <;> first | exact .inl (hL (by decide)) | (refine .inr ?_; repeat' constructor));
        first
        | with_reducible exact hO
        | with_reducible refine atT_only (subParts hL) ?_
        | with_reducible refine sliceEnd_only (subParts hL) ?_
        | with_reducible refine compatEnd_only (subParts hL) ?_
        | with_reducible refine awaitedStep_only (subParts hL) ?_
        | with_reducible refine roundStep_only (subParts hL) ?_
        | with_reducible refine testPass_only (subParts hL) ?_
        | with_reducible refine testFail_only (subParts hL) ?_
        | (with_reducible refine ite_only (fun _ => ?_) fun _ => ?_))
    | split

theorem execBstTimeout_only {L : List Part} {z : State} {t : ℕ} {s0 : State} (hL : [.time, .records, .faultStore,
    .modRetired, .tuple, .modRest, .rings, .events, .vectors, .slots, .hxpRest, .recorder, .faults, .selfTest,
    .firmware, .gates, .clocks, .heat, .cycle, .change, .stores, .network, .ile, .pair, .tripIo, .can, .analog,
    .memory, .out] ⊆ L)
    (h : execBstTimeout t s0 = .next z) : onlyChanges L s0 z := by
  have hO : onlyChanges L s0 s0 := onlyChanges_refl
  unfold execBstTimeout at h
  injection h with h
  subst h
  try dsimp only
  repeat' first
    | with_reducible exact hO
    | with_reducible refine atT_only (subParts hL) ?_
    | with_reducible refine occur_only (subParts hL) ?_
    | with_reducible refine sliceEnd_only (subParts hL) ?_
    | with_reducible refine compatEnd_only (subParts hL) ?_
    | with_reducible refine engineFault_only (subParts hL) ?_
    | with_reducible refine unitFault_only (subParts hL) ?_
    | with_reducible refine foldl_only ?_ (fun _ _ _ => ?_)
    | with_reducible assumption
    | (with_reducible refine ite_only (fun _ => ?_) fun _ => ?_)
    | ((with_reducible refine update_only ?_ fun p => ?_); rotate_left;
        (cases p <;> first | exact .inl (hL (by decide)) | (refine .inr ?_; repeat' constructor));
        first
        | with_reducible exact hO
        | with_reducible refine atT_only (subParts hL) ?_
        | with_reducible refine occur_only (subParts hL) ?_
        | with_reducible refine sliceEnd_only (subParts hL) ?_
        | with_reducible refine compatEnd_only (subParts hL) ?_
        | with_reducible refine engineFault_only (subParts hL) ?_
        | with_reducible refine unitFault_only (subParts hL) ?_
        | with_reducible refine foldl_only ?_ (fun _ _ _ => ?_)
        | with_reducible assumption
        | (with_reducible refine ite_only (fun _ => ?_) fun _ => ?_))
    | split

theorem execBstRoundLate_only {L : List Part} {z : State} {t : ℕ} {s0 : State} (hL : [.time, .records, .events,
    .recorder, .selfTest] ⊆ L)
    (h : execBstRoundLate t s0 = .next z) : onlyChanges L s0 z := by
  have hO : onlyChanges L s0 s0 := onlyChanges_refl
  unfold execBstRoundLate at h
  injection h with h
  subst h
  try dsimp only
  repeat' first
    | with_reducible exact hO
    | with_reducible refine atT_only (subParts hL) ?_
    | with_reducible refine occur_only (subParts hL) ?_
    | (with_reducible refine ite_only (fun _ => ?_) fun _ => ?_)
    | ((with_reducible refine update_only ?_ fun p => ?_); rotate_left;
        (cases p <;> first | exact .inl (hL (by decide)) | (refine .inr ?_; repeat' constructor));
        first
        | with_reducible exact hO
        | with_reducible refine atT_only (subParts hL) ?_
        | with_reducible refine occur_only (subParts hL) ?_
        | (with_reducible refine ite_only (fun _ => ?_) fun _ => ?_))

theorem execClkSwitchDone_only {L : List Part} {z : State} {t : ℕ} {dom : ℕ} {s0 : State} (hL : [.time, .records,
    .tuple, .refusal, .modRest, .rings, .events, .slots, .recorder, .faults, .selfTest, .clocks, .heat, .cycle,
    .change, .stores, .network, .pair, .tripIo, .can, .analog, .out] ⊆ L)
    (h : execClkSwitchDone t dom s0 = .next z) : onlyChanges L s0 z := by
  have hO : onlyChanges L s0 s0 := onlyChanges_refl
  unfold execClkSwitchDone at h
  injection h with h
  subst h
  try dsimp only
  repeat' first
    | with_reducible exact hO
    | with_reducible refine agreeReady_only (subParts hL) ?_
    | with_reducible refine switchDone_only (subParts hL) ?_
    | with_reducible refine atT_only (subParts hL) ?_

theorem execPllLockLoss_only {L : List Part} {z : State} {t : ℕ} {n : ℕ} {s0 : State} (hL : [.time, .records,
    .faultStore, .modRetired, .tuple, .modRest, .rings, .events, .vectors, .slots, .hxpRest, .recorder, .faults,
    .firmware, .gates, .clocks, .heat, .cycle, .change, .stores, .network, .ile, .pair, .tripIo, .can, .analog,
    .out] ⊆ L)
    (h : execPllLockLoss t n s0 = .next z) : onlyChanges L s0 z := by
  have hO : onlyChanges L s0 s0 := onlyChanges_refl
  unfold execPllLockLoss at h
  injection h with h
  subst h
  try dsimp only
  repeat' first
    | with_reducible exact hO
    | with_reducible refine atT_only (subParts hL) ?_
    | with_reducible refine pllFails_only (subParts hL) ?_
    | with_reducible refine refLost_only (subParts hL) ?_
    | (with_reducible refine ite_only (fun _ => ?_) fun _ => ?_)
    | ((with_reducible refine update_only ?_ fun p => ?_); rotate_left;
        (cases p <;> first | exact .inl (hL (by decide)) | (refine .inr ?_; repeat' constructor));
        first
        | with_reducible exact hO
        | with_reducible refine atT_only (subParts hL) ?_
        | with_reducible refine pllFails_only (subParts hL) ?_
        | with_reducible refine refLost_only (subParts hL) ?_
        | (with_reducible refine ite_only (fun _ => ?_) fun _ => ?_))

theorem execClkForced_only {L : List Part} {z : State} {t : ℕ} {dom : ℕ} {s0 : State} (hL : [.time, .records,
    .faultStore, .modRetired, .tuple, .modRest, .rings, .events, .slots, .recorder, .faults, .firmware, .gates,
    .clocks, .heat, .cycle, .change, .stores, .times, .network, .ile, .pair, .tripIo, .can, .analog, .out] ⊆ L)
    (h : execClkForced t dom s0 = .next z) : onlyChanges L s0 z := by
  have hO : onlyChanges L s0 s0 := onlyChanges_refl
  unfold execClkForced at h
  injection h with h
  subst h
  try dsimp only
  repeat' first
    | with_reducible exact hO
    | with_reducible refine atT_only (subParts hL) ?_
    | with_reducible refine forceSwitch_only (subParts hL) ?_
    | (with_reducible refine ite_only (fun _ => ?_) fun _ => ?_)
    | split

theorem execPfw_only {L : List Part} {z : State} {t : ℕ} {s0 : State} (hL : [.time, .records, .tuple, .refusal,
    .modRest, .rings, .events, .vectors, .slots, .hxpRest, .recorder, .faults, .selfTest, .firmware, .gates,
    .clocks, .heat, .contacts, .cycle, .change, .times, .network, .ile, .pair, .tripIo, .can, .analog, .memory] ⊆ L)
    (h : execPfw t s0 = .next z) : onlyChanges L s0 z := by
  have hO : onlyChanges L s0 s0 := onlyChanges_refl
  unfold execPfw at h
  injection h with h
  subst h
  try dsimp only
  repeat' first
    | with_reducible exact hO
    | with_reducible refine atT_only (subParts hL) ?_
    | with_reducible refine pfRecords_only (subParts hL) ?_
    | with_reducible refine bgHalt_only (subParts hL) ?_
    | with_reducible refine powerStop_only (subParts hL) ?_
    | (with_reducible refine ite_only (fun _ => ?_) fun _ => ?_)
    | ((with_reducible refine update_only ?_ fun p => ?_); rotate_left;
        (cases p <;> first | exact .inl (hL (by decide)) | (refine .inr ?_; repeat' constructor));
        first
        | with_reducible exact hO
        | with_reducible refine atT_only (subParts hL) ?_
        | with_reducible refine pfRecords_only (subParts hL) ?_
        | with_reducible refine bgHalt_only (subParts hL) ?_
        | with_reducible refine powerStop_only (subParts hL) ?_
        | (with_reducible refine ite_only (fun _ => ?_) fun _ => ?_))

theorem execHlFeedDip_only {L : List Part} {z : State} {t : ℕ} {s0 : State} (hL : [.time, .records, .events,
    .recorder, .heat] ⊆ L)
    (h : execHlFeedDip t s0 = .next z) : onlyChanges L s0 z := by
  have hO : onlyChanges L s0 s0 := onlyChanges_refl
  unfold execHlFeedDip at h
  injection h with h
  subst h
  try dsimp only
  repeat' first
    | with_reducible exact hO
    | with_reducible refine atT_only (subParts hL) ?_
    | with_reducible refine occur_only (subParts hL) ?_
    | (with_reducible refine ite_only (fun _ => ?_) fun _ => ?_)
    | ((with_reducible refine update_only ?_ fun p => ?_); rotate_left;
        (cases p <;> first | exact .inl (hL (by decide)) | (refine .inr ?_; repeat' constructor));
        first
        | with_reducible exact hO
        | with_reducible refine atT_only (subParts hL) ?_
        | with_reducible refine occur_only (subParts hL) ?_
        | (with_reducible refine ite_only (fun _ => ?_) fun _ => ?_))
    | split

theorem execPfwStop_only {L : List Part} {z : State} {t : ℕ} {s0 : State} (hL : [.time, .records, .tuple, .refusal,
    .modRest, .rings, .events, .vectors, .slots, .hxpRest, .recorder, .faults, .selfTest, .firmware, .gates,
    .clocks, .heat, .contacts, .cycle, .change, .times, .network, .ile, .pair, .tripIo, .can, .analog, .memory] ⊆ L)
    (h : execPfwStop t s0 = .next z) : onlyChanges L s0 z := by
  have hO : onlyChanges L s0 s0 := onlyChanges_refl
  unfold execPfwStop at h
  injection h with h
  subst h
  try dsimp only
  repeat' first
    | with_reducible exact hO
    | with_reducible refine atT_only (subParts hL) ?_
    | with_reducible refine powerStop_only (subParts hL) ?_
    | (with_reducible refine ite_only (fun _ => ?_) fun _ => ?_)
    | split

theorem execEjectorOpen_only {L : List Part} {z : State} {t : ℕ} {s0 : State} (hL : [.time, .records, .modRetired,
    .tuple, .modRest, .rings, .events, .slots, .recorder, .faults, .firmware, .gates, .clocks, .heat, .contacts,
    .cycle, .change, .stores, .network, .ile, .pair, .tripIo, .can, .analog, .out] ⊆ L)
    (h : execEjectorOpen t s0 = .next z) : onlyChanges L s0 z := by
  have hO : onlyChanges L s0 s0 := onlyChanges_refl
  unfold execEjectorOpen at h
  injection h with h
  subst h
  try dsimp only
  repeat' first
    | with_reducible exact hO
    | with_reducible refine atT_only (subParts hL) ?_
    | with_reducible refine ejectAct_only (subParts hL) ?_
    | (with_reducible refine ite_only (fun _ => ?_) fun _ => ?_)
    | ((with_reducible refine update_only ?_ fun p => ?_); rotate_left;
        (cases p <;> first | exact .inl (hL (by decide)) | (refine .inr ?_; repeat' constructor));
        first
        | with_reducible exact hO
        | with_reducible refine atT_only (subParts hL) ?_
        | with_reducible refine ejectAct_only (subParts hL) ?_
        | (with_reducible refine ite_only (fun _ => ?_) fun _ => ?_))

theorem execPresSenseOpen_only {L : List Part} {z : State} {t : Nat} {s0 : State} (hL : [.time, .records,
    .modRetired, .tuple, .refusal, .modRest, .rings, .events, .vectors, .slots, .hxpRest, .recorder, .faults,
    .selfTest, .firmware, .gates, .clocks, .heat, .contacts, .cycle, .change, .stores, .times, .network, .ile,
    .pair, .tripIo, .can, .analog, .memory, .out] ⊆ L)
    (h : execPresSenseOpen t s0 = .next z) : onlyChanges L s0 z := by
  have hO : onlyChanges L s0 (atT t s0) := atT_only (subParts hL) onlyChanges_refl
  unfold execPresSenseOpen at h
  injection h with h
  subst h
  have k := con_only (v := { (atT t s0).con with sense := false, powered := false }) (hL (by decide)) hO
  have r := pfRecords_only (L := L) (subParts hL) (bgHalt_only (subParts hL) (retireModule_only (cause := .ejector)
    (subParts hL) k))
  exact ite_only (fun _ => hl_only (hL (by decide)) k)
    fun _ => ite_only (fun _ => hl_only (hL (by decide)) r) fun _ => powerStop_only (subParts hL) r

theorem execPresSenseClose_only {L : List Part} {z : State} {t : ℕ} {s0 : State} (hL : [.time, .records, .tuple,
    .refusal, .modRest, .rings, .events, .vectors, .slots, .hxpRest, .recorder, .faults, .selfTest, .firmware,
    .gates, .clocks, .heat, .contacts, .cycle, .change, .times, .network, .ile, .pair, .tripIo, .can, .analog,
    .memory] ⊆ L)
    (h : execPresSenseClose t s0 = .next z) : onlyChanges L s0 z := by
  have hO : onlyChanges L s0 s0 := onlyChanges_refl
  unfold execPresSenseClose at h
  injection h with h
  subst h
  try dsimp only
  repeat' first
    | with_reducible exact hO
    | with_reducible refine atT_only (subParts hL) ?_
    | with_reducible refine powerStop_only (subParts hL) ?_
    | (with_reducible refine ite_only (fun _ => ?_) fun _ => ?_)
    | ((with_reducible refine update_only ?_ fun p => ?_); rotate_left;
        (cases p <;> first | exact .inl (hL (by decide)) | (refine .inr ?_; repeat' constructor));
        first
        | with_reducible exact hO
        | with_reducible refine atT_only (subParts hL) ?_
        | with_reducible refine powerStop_only (subParts hL) ?_
        | (with_reducible refine ite_only (fun _ => ?_) fun _ => ?_))

theorem execBootStepDone_only {L : List Part} {z : State} {t : Nat} {b : BootIn} {s0 : State} (hL : [.time,
    .records, .faultStore, .images, .modRetired, .tuple, .refusal, .modRest, .rings, .events, .vectors, .slots,
    .hxpRest, .recorder, .faults, .selfTest, .firmware, .gates, .clocks, .heat, .contacts, .cycle, .change, .stores,
    .times, .network, .ile, .pair, .tripIo, .can, .analog, .memory, .out, .free] ⊆ L)
    (h : execBootStepDone t b s0 = .next z) : onlyChanges L s0 z := by
  have hO : onlyChanges L s0 (atT t s0) := atT_only (subParts hL) onlyChanges_refl
  unfold execBootStepDone at h
  injection h with h
  subst h
  dsimp only
  refine ite_only (fun _ => hO) fun _ => ite_only (fun _ => bootFail_only (subParts hL) hO) fun _ => ?_
  generalize hk : bootKinds _ _ _ = n
  have hr := foldlBy_only (l := L) (z0 := s0) (g := bootTest) (xs := b.fails ++
      if (decide ((atT t s0).fwu.bootStep = 3) && !b.keyDigestOk) = true then [(11, Src.sv)] else [])
    (b := (false, n)) Prod.snd (by subst hk; exact bootKinds_only (subParts hL) hO)
    fun _ _ h => bootTest_only (subParts hL) h
  revert hr
  generalize List.foldl bootTest _ _ = r
  intro hr
  have hs : onlyChanges L s0 { r.2 with nva := { r.2.nva with
      modRetired := if (atT t s0).mod.tup.fw = .trial then (atT t s0).nva.modRetired else r.2.nva.modRetired } } := by
    refine update_only hr fun p => ?_
    cases p <;> first | exact .inl (hL (by decide)) | (refine .inr ?_; repeat' constructor)
  refine ite_only (fun _ => ?_) fun _ => ite_only (fun _ => hs) fun _ => bootStepAct_only (subParts hL) hs
  refine bootFail_only (subParts hL) (update_only hr fun p => ?_)
  cases p <;> first | exact .inl (hL (by decide)) | (refine .inr ?_; repeat' constructor)

theorem execBootOverrun_only {L : List Part} {z : State} {t : ℕ} {s0 : State} (hL : [.time, .records, .images,
    .modRetired, .tuple, .refusal, .modRest, .rings, .events, .vectors, .slots, .hxpRest, .recorder, .faults,
    .selfTest, .firmware, .gates, .clocks, .heat, .contacts, .cycle, .change, .stores, .times, .network, .ile,
    .pair, .tripIo, .can, .analog, .memory, .out] ⊆ L)
    (h : execBootOverrun t s0 = .next z) : onlyChanges L s0 z := by
  have hO : onlyChanges L s0 s0 := onlyChanges_refl
  unfold execBootOverrun at h
  injection h with h
  subst h
  try dsimp only
  repeat' first
    | with_reducible exact hO
    | with_reducible refine atT_only (subParts hL) ?_
    | with_reducible refine bootFail_only (subParts hL) ?_
    | (with_reducible refine ite_only (fun _ => ?_) fun _ => ?_)

theorem execPowerOnResetRelease_only {L : List Part} {z : State} {t : ℕ} {p : PorIn} {s0 : State} (hL : [.time,
    .records, .boots, .modRest, .events, .recorder, .faults, .firmware, .clocks, .contacts] ⊆ L)
    (h : execPowerOnResetRelease t p s0 = .next z) : onlyChanges L s0 z := by
  have hO : onlyChanges L s0 s0 := onlyChanges_refl
  unfold execPowerOnResetRelease at h
  injection h with h
  subst h
  try dsimp only
  repeat' first
    | with_reducible exact hO
    | with_reducible refine atT_only (subParts hL) ?_
    | with_reducible refine gateOpen_only (subParts hL) ?_
    | with_reducible refine writeUnflushed_only (subParts hL) ?_
    | with_reducible refine occur_only (subParts hL) ?_
    | (with_reducible refine ite_only (fun _ => ?_) fun _ => ?_)
    | ((with_reducible refine update_only ?_ fun p => ?_); rotate_left;
        (cases p <;> first | exact .inl (hL (by decide)) | (refine .inr ?_; repeat' constructor));
        first
        | with_reducible exact hO
        | with_reducible refine atT_only (subParts hL) ?_
        | with_reducible refine gateOpen_only (subParts hL) ?_
        | with_reducible refine writeUnflushed_only (subParts hL) ?_
        | with_reducible refine occur_only (subParts hL) ?_
        | (with_reducible refine ite_only (fun _ => ?_) fun _ => ?_))

theorem execPairWaitExpiry_only {L : List Part} {z : State} {t : ℕ} {s0 : State} (hL : [.time, .records,
    .modRetired, .tuple, .modRest, .rings, .events, .slots, .recorder, .faults, .selfTest, .firmware, .gates,
    .clocks, .heat, .contacts, .cycle, .change, .stores, .times, .network, .ile, .pair, .tripIo, .can, .analog,
    .out, .free] ⊆ L)
    (h : execPairWaitExpiry t s0 = .next z) : onlyChanges L s0 z := by
  have hO : onlyChanges L s0 s0 := onlyChanges_refl
  unfold execPairWaitExpiry at h
  injection h with h
  subst h
  try dsimp only
  repeat' first
    | with_reducible exact hO
    | with_reducible refine atT_only (subParts hL) ?_
    | with_reducible refine bootRole_only (subParts hL) ?_
    | (with_reducible refine ite_only (fun _ => ?_) fun _ => ?_)

theorem execHeartbeat_only {L : List Part} {z : State} {t : ℕ} {h : PktHdr} {data : List Byte} {s0 : State} (hL :
    [.time, .records, .modRetired, .tuple, .modRest, .rings, .events, .slots, .recorder, .faults, .selfTest,
    .firmware, .gates, .clocks, .heat, .contacts, .cycle, .change, .stores, .times, .network, .ile, .pair, .tripIo,
    .can, .analog, .out, .free] ⊆ L)
    (h : execHeartbeat t h data s0 = .next z) : onlyChanges L s0 z := by
  have hO : onlyChanges L s0 s0 := onlyChanges_refl
  unfold execHeartbeat at h
  injection h with h
  subst h
  try dsimp only
  repeat' first
    | with_reducible exact hO
    | with_reducible refine atT_only (subParts hL) ?_
    | with_reducible refine onP0_only (subParts hL) ?_ (fun _ _ => ?_)
    | with_reducible refine hbTake_only (subParts hL) ?_
    | with_reducible refine bootSettle_only (subParts hL) ?_
    | with_reducible assumption
    | (with_reducible refine ite_only (fun _ => ?_) fun _ => ?_)

theorem execPairPresOpen_only {L : List Part} {z : State} {t : Nat} {s0 : State} (hL : [.time, .records,
    .modRetired, .tuple, .refusal, .modRest, .rings, .events, .slots, .recorder, .faults, .selfTest, .firmware,
    .gates, .clocks, .heat, .contacts, .cycle, .change, .stores, .times, .network, .ile, .pair, .tripIo, .can,
    .analog, .out, .free] ⊆ L)
    (h : execPairPresOpen t s0 = .next z) : onlyChanges L s0 z := by
  have hO : onlyChanges L s0 (alSettleAll { atT t s0 with mod := { s0.mod with present := false } }) := by
    refine alSettleAll_only (subParts hL)
      (update_only (atT_only (t := t) (subParts hL) onlyChanges_refl) fun p => ?_)
    cases p <;> first | exact .inl (hL (by decide)) | (refine .inr ?_; repeat' constructor)
  unfold execPairPresOpen at h
  revert h hO
  dsimp only
  generalize alSettleAll _ = s
  intro h hO
  injection h with h
  rw [← h]
  split
  · exact failover_only (subParts hL) (presDropArb_only (subParts hL) hO)
  · exact ite_only
      (fun _ => soloStep_only (subParts hL) (presDropArb_only (subParts hL) hO))
      fun _ => presDropArb_only (subParts hL) hO
  · exact ite_only (fun _ => bootSettle_only (subParts hL) hO) fun _ => hO

theorem execPairPresClose_only {L : List Part} {z : State} {t : ℕ} {s0 : State} (hL : [.time, .modRest, .rings,
    .analog, .out] ⊆ L)
    (h : execPairPresClose t s0 = .next z) : onlyChanges L s0 z := by
  have hO : onlyChanges L s0 s0 := onlyChanges_refl
  unfold execPairPresClose at h
  injection h with h
  subst h
  try dsimp only
  repeat' first
    | with_reducible exact hO
    | with_reducible refine atT_only (subParts hL) ?_
    | with_reducible refine alSettleAll_only (subParts hL) ?_
    | (with_reducible refine ite_only (fun _ => ?_) fun _ => ?_)
    | ((with_reducible refine update_only ?_ fun p => ?_); rotate_left;
        (cases p <;> first | exact .inl (hL (by decide)) | (refine .inr ?_; repeat' constructor));
        first
        | with_reducible exact hO
        | with_reducible refine atT_only (subParts hL) ?_
        | with_reducible refine alSettleAll_only (subParts hL) ?_
        | (with_reducible refine ite_only (fun _ => ?_) fun _ => ?_))

end Sys2Proof.Machine
end

