-- ==== Sys2Proof/Laws/FrameUnitCommands.lean ====
section
/-! SUPPORT. What each command of the units may change. -/

namespace Sys2Proof.Machine

set_option Elab.async false
set_option linter.unusedTactic false
set_option linter.unreachableTactic false

theorem execAlpConversion_only {L : List Part} {z : State} {t : ℕ} {x : ℕ} {na : ℤ} {raw : ℤ} {mv : ℤ} {noHeadroom :
    Bool} {s0 : State} (hL : [.time, .records, .faultStore, .rings, .events, .recorder, .faults, .selfTest, .heat,
    .cycle, .analog, .out] ⊆ L)
    (h : execAlpConversion t x na raw mv noHeadroom s0 = .next z) : onlyChanges L s0 z := by
  have hO : onlyChanges L s0 s0 := onlyChanges_refl
  unfold execAlpConversion at h
  injection h with h
  subst h
  try dsimp only
  repeat' first
    | with_reducible exact hO
    | with_reducible refine atT_only (subParts hL) ?_
    | with_reducible refine alRegsTake_only (subParts hL) ?_
    | with_reducible refine alDeliver_only (subParts hL) ?_
    | with_reducible refine alSettle_only (subParts hL) ?_
    | with_reducible refine alJudge_only (subParts hL) ?_
    | with_reducible refine alMeasure_only (subParts hL) ?_
    | with_reducible refine alKeep_only (subParts hL) ?_
    | with_reducible refine feTest_only (subParts hL) ?_
    | (with_reducible refine ite_only (fun _ => ?_) fun _ => ?_)

theorem execAlpRefresh_only {L : List Part} {z : State} {t : ℕ} {x : ℕ} {ok : Bool} {s0 : State} (hL : [.time,
    .rings, .analog, .out] ⊆ L)
    (h : execAlpRefresh t x ok s0 = .next z) : onlyChanges L s0 z := by
  have hO : onlyChanges L s0 s0 := onlyChanges_refl
  unfold execAlpRefresh at h
  injection h with h
  subst h
  try dsimp only
  repeat' first
    | with_reducible exact hO
    | with_reducible refine atT_only (subParts hL) ?_
    | with_reducible refine alSettle_only (subParts hL) ?_
    | with_reducible refine updAl_only (subParts hL) ?_
    | (with_reducible refine ite_only (fun _ => ?_) fun _ => ?_)

theorem execAlpLogicSilent_only {L : List Part} {z : State} {t : ℕ} {x : ℕ} {s0 : State} (hL : [.time, .rings,
    .analog, .out] ⊆ L)
    (h : execAlpLogicSilent t x s0 = .next z) : onlyChanges L s0 z := by
  have hO : onlyChanges L s0 s0 := onlyChanges_refl
  unfold execAlpLogicSilent at h
  injection h with h
  subst h
  try dsimp only
  repeat' first
    | with_reducible exact hO
    | with_reducible refine atT_only (subParts hL) ?_
    | with_reducible refine alSettle_only (subParts hL) ?_
    | with_reducible refine updAl_only (subParts hL) ?_
    | (with_reducible refine ite_only (fun _ => ?_) fun _ => ?_)

theorem execAlpReadback_only {L : List Part} {z : State} {t : ℕ} {x : ℕ} {s0 : State} (hL : [.time, .records,
    .faultStore, .rings, .events, .recorder, .faults, .analog, .out] ⊆ L)
    (h : execAlpReadback t x s0 = .next z) : onlyChanges L s0 z := by
  have hO : onlyChanges L s0 s0 := onlyChanges_refl
  unfold execAlpReadback at h
  injection h with h
  subst h
  try dsimp only
  repeat' first
    | with_reducible exact hO
    | with_reducible refine atT_only (subParts hL) ?_
    | with_reducible refine alFault_only (subParts hL) ?_
    | (with_reducible refine ite_only (fun _ => ?_) fun _ => ?_)

theorem execOverrange_only {L : List Part} {z : State} {t : ℕ} {x : ℕ} {s0 : State} (hL : [.time, .records,
    .faultStore, .rings, .events, .recorder, .faults, .analog, .out] ⊆ L)
    (h : execOverrange t x s0 = .next z) : onlyChanges L s0 z := by
  have hO : onlyChanges L s0 s0 := onlyChanges_refl
  unfold execOverrange at h
  injection h with h
  subst h
  try dsimp only
  repeat' first
    | with_reducible exact hO
    | with_reducible refine atT_only (subParts hL) ?_
    | with_reducible refine alFault_only (subParts hL) ?_
    | (with_reducible refine ite_only (fun _ => ?_) fun _ => ?_)

theorem execFeSilent_only {L : List Part} {z : State} {t : ℕ} {x : ℕ} {s0 : State} (hL : [.time, .records,
    .faultStore, .rings, .events, .recorder, .faults, .analog, .out] ⊆ L)
    (h : execFeSilent t x s0 = .next z) : onlyChanges L s0 z := by
  have hO : onlyChanges L s0 s0 := onlyChanges_refl
  unfold execFeSilent at h
  injection h with h
  subst h
  try dsimp only
  repeat' first
    | with_reducible exact hO
    | with_reducible refine atT_only (subParts hL) ?_
    | with_reducible refine alFault_only (subParts hL) ?_
    | with_reducible refine updAl_only (subParts hL) ?_
    | (with_reducible refine ite_only (fun _ => ?_) fun _ => ?_)
    | split

theorem execFeCheck_only {L : List Part} {z : State} {t : ℕ} {x : ℕ} {ok : Bool} {s0 : State} (hL : [.time,
    .records, .faultStore, .rings, .events, .recorder, .faults, .analog, .out] ⊆ L)
    (h : execFeCheck t x ok s0 = .next z) : onlyChanges L s0 z := by
  have hO : onlyChanges L s0 s0 := onlyChanges_refl
  unfold execFeCheck at h
  injection h with h
  subst h
  try dsimp only
  repeat' first
    | with_reducible exact hO
    | with_reducible refine atT_only (subParts hL) ?_
    | with_reducible refine alClear_only (subParts hL) ?_
    | with_reducible refine alFault_only (subParts hL) ?_
    | (with_reducible refine ite_only (fun _ => ?_) fun _ => ?_)

theorem execAlCompliance_only {L : List Part} {z : State} {t : ℕ} {x : ℕ} {s0 : State} (hL : [.time, .records,
    .events, .recorder, .analog] ⊆ L)
    (h : execAlCompliance t x s0 = .next z) : onlyChanges L s0 z := by
  have hO : onlyChanges L s0 s0 := onlyChanges_refl
  unfold execAlCompliance at h
  injection h with h
  subst h
  try dsimp only
  repeat' first
    | with_reducible exact hO
    | with_reducible refine atT_only (subParts hL) ?_
    | with_reducible refine occur_only (subParts hL) ?_
    | with_reducible refine updAl_only (subParts hL) ?_
    | (with_reducible refine ite_only (fun _ => ?_) fun _ => ?_)

theorem execAlpClockStepUp_only {L : List Part} {z : State} {t : ℕ} {x : ℕ} {s0 : State} (hL : [.time, .analog] ⊆ L)
    (h : execAlpClockStepUp t x s0 = .next z) : onlyChanges L s0 z := by
  have hO : onlyChanges L s0 s0 := onlyChanges_refl
  unfold execAlpClockStepUp at h
  injection h with h
  subst h
  try dsimp only
  repeat' first
    | with_reducible exact hO
    | with_reducible refine atT_only (subParts hL) ?_
    | with_reducible refine updAl_only (subParts hL) ?_
    | (with_reducible refine ite_only (fun _ => ?_) fun _ => ?_)

theorem execHartResponse_only {L : List Part} {z : State} {t : ℕ} {x : ℕ} {r : HartReply} {s0 : State} (hL : [.time,
    .rings, .cycle, .analog, .out] ⊆ L)
    (h : execHartResponse t x r s0 = .next z) : onlyChanges L s0 z := by
  have hO : onlyChanges L s0 s0 := onlyChanges_refl
  unfold execHartResponse at h
  injection h with h
  subst h
  try dsimp only
  repeat' first
    | with_reducible exact hO
    | with_reducible refine atT_only (subParts hL) ?_
    | with_reducible refine hartFailed_only (subParts hL) ?_
    | with_reducible refine hartEnd_only (subParts hL) ?_
    | with_reducible refine updAl_only (subParts hL) ?_
    | with_reducible refine deliver_only (subParts hL) ?_
    | with_reducible refine doneBuf_only (subParts hL) ?_
    | with_reducible refine foldl_only ?_ (fun _ _ _ => ?_)
    | with_reducible assumption
    | (with_reducible refine ite_only (fun _ => ?_) fun _ => ?_)
    | split

theorem execHartTimeout_only {L : List Part} {z : State} {t : ℕ} {x : ℕ} {s0 : State} (hL : [.time, .rings, .analog,
    .out] ⊆ L)
    (h : execHartTimeout t x s0 = .next z) : onlyChanges L s0 z := by
  have hO : onlyChanges L s0 s0 := onlyChanges_refl
  unfold execHartTimeout at h
  injection h with h
  subst h
  try dsimp only
  repeat' first
    | with_reducible exact hO
    | with_reducible refine atT_only (subParts hL) ?_
    | with_reducible refine hartFailed_only (subParts hL) ?_
    | (with_reducible refine ite_only (fun _ => ?_) fun _ => ?_)
    | split

theorem execHartRequest_only {L : List Part} {z : State} {t : ℕ} {x : ℕ} {cmd : ℕ} {r : HartReq} {s0 : State} (hL :
    [.time, .analog, .out, .free] ⊆ L)
    (h : execHartRequest t x cmd r s0 = .next z) : onlyChanges L s0 z := by
  have hO : onlyChanges L s0 s0 := onlyChanges_refl
  unfold execHartRequest at h
  injection h with h
  subst h
  try dsimp only
  repeat' first
    | with_reducible exact hO
    | with_reducible refine atT_only (subParts hL) ?_
    | with_reducible refine emit_only (subParts hL) ?_
    | (with_reducible refine ite_only (fun _ => ?_) fun _ => ?_)
    | ((with_reducible refine update_only ?_ fun p => ?_); rotate_left;
        (cases p <;> first | exact .inl (hL (by decide)) | (refine .inr ?_; repeat' constructor));
        first
        | with_reducible exact hO
        | with_reducible refine atT_only (subParts hL) ?_
        | with_reducible refine emit_only (subParts hL) ?_
        | (with_reducible refine ite_only (fun _ => ?_) fun _ => ?_))
    | split

theorem execGateClrDb_only {L : List Part} {z : State} {t : ℕ} {val : Word} {s : State} (hL : [.time, .records,
    .events, .recorder, .gates] ⊆ L)
    (h : execGateClrDb t val s = .next z) : onlyChanges L s z := by
  have hO : onlyChanges L s s := onlyChanges_refl
  unfold execGateClrDb at h
  injection h with h
  subst h
  try dsimp only
  repeat' first
    | with_reducible exact hO
    | with_reducible refine gateClrEff_only (subParts hL) ?_
    | with_reducible refine atT_only (subParts hL) ?_

theorem execDebugUnlockExpiry_only {L : List Part} {z : State} {t : ℕ} {s0 : State} (hL : [.time, .records, .events,
    .recorder, .gates] ⊆ L)
    (h : execDebugUnlockExpiry t s0 = .next z) : onlyChanges L s0 z := by
  have hO : onlyChanges L s0 s0 := onlyChanges_refl
  unfold execDebugUnlockExpiry at h
  injection h with h
  subst h
  try dsimp only
  repeat' first
    | with_reducible exact hO
    | with_reducible refine atT_only (subParts hL) ?_
    | with_reducible refine setUnlock_only (subParts hL) ?_
    | (with_reducible refine ite_only (fun _ => ?_) fun _ => ?_)

theorem execCanArbitrationStart_only {L : List Part} {z : State} {t : ℕ} {x : ℕ} {s0 : State} (hL : [.time,
    .records, .events, .recorder, .can] ⊆ L)
    (h : execCanArbitrationStart t x s0 = .next z) : onlyChanges L s0 z := by
  have hO : onlyChanges L s0 s0 := onlyChanges_refl
  unfold execCanArbitrationStart at h
  injection h with h
  subst h
  try dsimp only
  repeat' first
    | with_reducible exact hO
    | with_reducible refine atT_only (subParts hL) ?_
    | with_reducible refine canBegin_only (subParts hL) ?_
    | (with_reducible refine ite_only (fun _ => ?_) fun _ => ?_)

theorem execCanArbitrationLost_only {L : List Part} {z : State} {t : ℕ} {x : ℕ} {s : State} (hL : [.time, .can] ⊆ L)
    (h : execCanArbitrationLost t x s = .next z) : onlyChanges L s z := by
  have hO : onlyChanges L s s := onlyChanges_refl
  unfold execCanArbitrationLost at h
  injection h with h
  subst h
  try dsimp only
  repeat' first
    | with_reducible exact hO
    | with_reducible refine updCan_only (subParts hL) ?_
    | with_reducible refine atT_only (subParts hL) ?_

theorem execCanTxComplete_only {L : List Part} {z : State} {t : ℕ} {x : ℕ} {tec : ℕ} {rec : ℕ} {s0 : State} (hL :
    [.time, .records, .events, .recorder, .cycle, .can, .out] ⊆ L)
    (h : execCanTxComplete t x tec rec s0 = .next z) : onlyChanges L s0 z := by
  have hO : onlyChanges L s0 s0 := onlyChanges_refl
  unfold execCanTxComplete at h
  injection h with h
  subst h
  try dsimp only
  repeat' first
    | with_reducible exact hO
    | with_reducible refine atT_only (subParts hL) ?_
    | with_reducible refine emit_only (subParts hL) ?_
    | with_reducible refine updCan_only (subParts hL) ?_
    | with_reducible refine canSleepNow_only (subParts hL) ?_
    | with_reducible refine canWakeNow_only (subParts hL) ?_
    | (with_reducible refine ite_only (fun _ => ?_) fun _ => ?_)
    | split

theorem execCanFrameReceived_only {L : List Part} {z : State} {t : ℕ} {x : ℕ} {f : CanFrame} {s0 : State} (hL :
    [.time, .cycle, .can] ⊆ L)
    (h : execCanFrameReceived t x f s0 = .next z) : onlyChanges L s0 z := by
  have hO : onlyChanges L s0 s0 := onlyChanges_refl
  unfold execCanFrameReceived at h
  injection h with h
  subst h
  try dsimp only
  repeat' first
    | with_reducible exact hO
    | with_reducible refine atT_only (subParts hL) ?_
    | with_reducible refine updCan_only (subParts hL) ?_
    | with_reducible refine canTake_only (subParts hL) ?_
    | (with_reducible refine ite_only (fun _ => ?_) fun _ => ?_)

theorem execCanBusOff_only {L : List Part} {z : State} {t : ℕ} {x : ℕ} {e : CanOff} {s0 : State} (hL : [.time,
    .records, .faultStore, .events, .recorder, .faults, .clocks, .can] ⊆ L)
    (h : execCanBusOff t x e s0 = .next z) : onlyChanges L s0 z := by
  have hO : onlyChanges L s0 s0 := onlyChanges_refl
  unfold execCanBusOff at h
  injection h with h
  subst h
  try dsimp only
  repeat' first
    | with_reducible exact hO
    | with_reducible refine atT_only (subParts hL) ?_
    | with_reducible refine updCan_only (subParts hL) ?_
    | with_reducible refine canFault_only (subParts hL) ?_
    | (with_reducible refine ite_only (fun _ => ?_) fun _ => ?_)

theorem execCanBusOffRecovered_only {L : List Part} {z : State} {t : ℕ} {x : ℕ} {s0 : State} (hL : [.time, .can] ⊆
    L)
    (h : execCanBusOffRecovered t x s0 = .next z) : onlyChanges L s0 z := by
  have hO : onlyChanges L s0 s0 := onlyChanges_refl
  unfold execCanBusOffRecovered at h
  injection h with h
  subst h
  try dsimp only
  repeat' first
    | with_reducible exact hO
    | with_reducible refine atT_only (subParts hL) ?_
    | with_reducible refine updCan_only (subParts hL) ?_
    | (with_reducible refine ite_only (fun _ => ?_) fun _ => ?_)

theorem execCanErrorPassive_only {L : List Part} {z : State} {t : ℕ} {e : CanErr} {s0 : State} (hL : [.time,
    .records, .faultStore, .events, .recorder, .faults, .clocks, .can] ⊆ L)
    (h : execCanErrorPassive t e s0 = .next z) : onlyChanges L s0 z := by
  have hO : onlyChanges L s0 s0 := onlyChanges_refl
  unfold execCanErrorPassive at h
  injection h with h
  subst h
  try dsimp only
  repeat' first
    | with_reducible exact hO
    | with_reducible refine atT_only (subParts hL) ?_
    | with_reducible refine canFault_only (subParts hL) ?_
    | with_reducible refine updCan_only (subParts hL) ?_
    | (with_reducible refine ite_only (fun _ => ?_) fun _ => ?_)

theorem execStuckDominant_only {L : List Part} {z : State} {t : ℕ} {x : ℕ} {s0 : State} (hL : [.time, .records,
    .faultStore, .events, .recorder, .faults, .clocks, .can] ⊆ L)
    (h : execStuckDominant t x s0 = .next z) : onlyChanges L s0 z := by
  have hO : onlyChanges L s0 s0 := onlyChanges_refl
  unfold execStuckDominant at h
  injection h with h
  subst h
  try dsimp only
  repeat' first
    | with_reducible exact hO
    | with_reducible refine atT_only (subParts hL) ?_
    | with_reducible refine canFault_only (subParts hL) ?_
    | with_reducible refine updCan_only (subParts hL) ?_
    | (with_reducible refine ite_only (fun _ => ?_) fun _ => ?_)

theorem execTxdTimeout_only {L : List Part} {z : State} {t : ℕ} {x : ℕ} {s0 : State} (hL : [.time, .records,
    .faultStore, .events, .recorder, .faults, .clocks, .can] ⊆ L)
    (h : execTxdTimeout t x s0 = .next z) : onlyChanges L s0 z := by
  have hO : onlyChanges L s0 s0 := onlyChanges_refl
  unfold execTxdTimeout at h
  injection h with h
  subst h
  try dsimp only
  repeat' first
    | with_reducible exact hO
    | with_reducible refine atT_only (subParts hL) ?_
    | with_reducible refine canFault_only (subParts hL) ?_
    | with_reducible refine updCan_only (subParts hL) ?_
    | (with_reducible refine ite_only (fun _ => ?_) fun _ => ?_)

theorem execLoopbackRetry_only {L : List Part} {z : State} {t : ℕ} {x : ℕ} {ok : Bool} {s0 : State} (hL : [.time,
    .records, .faultStore, .events, .recorder, .faults, .clocks, .can] ⊆ L)
    (h : execLoopbackRetry t x ok s0 = .next z) : onlyChanges L s0 z := by
  have hO : onlyChanges L s0 s0 := onlyChanges_refl
  unfold execLoopbackRetry at h
  injection h with h
  subst h
  try dsimp only
  repeat' first
    | with_reducible exact hO
    | with_reducible refine atT_only (subParts hL) ?_
    | with_reducible refine updCan_only (subParts hL) ?_
    | with_reducible refine canFault_only (subParts hL) ?_
    | (with_reducible refine ite_only (fun _ => ?_) fun _ => ?_)
    | split

theorem execCanWake_only {L : List Part} {z : State} {t : ℕ} {x : ℕ} {frame : Option CanFrame} {s0 : State} (hL :
    [.time, .records, .events, .recorder, .cycle, .can] ⊆ L)
    (h : execCanWake t x frame s0 = .next z) : onlyChanges L s0 z := by
  have hO : onlyChanges L s0 s0 := onlyChanges_refl
  unfold execCanWake at h
  injection h with h
  subst h
  try dsimp only
  repeat' first
    | with_reducible exact hO
    | with_reducible refine atT_only (subParts hL) ?_
    | with_reducible refine canWakeNow_only (subParts hL) ?_
    | with_reducible refine updCan_only (subParts hL) ?_
    | (with_reducible refine ite_only (fun _ => ?_) fun _ => ?_)

theorem execCanRecessiveBits_only {L : List Part} {z : State} {t : ℕ} {x : ℕ} {s0 : State} (hL : [.time, .records,
    .faultStore, .events, .recorder, .clocks, .can] ⊆ L)
    (h : execCanRecessiveBits t x s0 = .next z) : onlyChanges L s0 z := by
  have hO : onlyChanges L s0 s0 := onlyChanges_refl
  unfold execCanRecessiveBits at h
  injection h with h
  subst h
  try dsimp only
  repeat' first
    | with_reducible exact hO
    | with_reducible refine atT_only (subParts hL) ?_
    | with_reducible refine canGate_only (subParts hL) ?_
    | with_reducible refine updCan_only (subParts hL) ?_
    | with_reducible refine readmitRecord_only (subParts hL) ?_
    | (with_reducible refine ite_only (fun _ => ?_) fun _ => ?_)

theorem execTioRefresh_only {L : List Part} {z : State} {t : ℕ} {ok : Bool} {s0 : State} (hL : [.time, .tripIo] ⊆ L)
    (h : execTioRefresh t ok s0 = .next z) : onlyChanges L s0 z := by
  have hO : onlyChanges L s0 s0 := onlyChanges_refl
  unfold execTioRefresh at h
  injection h with h
  subst h
  try dsimp only
  repeat' first
    | with_reducible exact hO
    | with_reducible refine atT_only (subParts hL) ?_
    | with_reducible refine tioRefreshNow_only (subParts hL) ?_
    | (with_reducible refine ite_only (fun _ => ?_) fun _ => ?_)

theorem execTioLinkSilent_only {L : List Part} {z : State} {t : ℕ} {s0 : State} (hL : [.time, .records, .events,
    .recorder, .tripIo] ⊆ L)
    (h : execTioLinkSilent t s0 = .next z) : onlyChanges L s0 z := by
  have hO : onlyChanges L s0 s0 := onlyChanges_refl
  unfold execTioLinkSilent at h
  injection h with h
  subst h
  try dsimp only
  repeat' first
    | with_reducible exact hO
    | with_reducible refine atT_only (subParts hL) ?_
    | with_reducible refine tioDecide_only (subParts hL) ?_
    | with_reducible refine latchAll_only (subParts hL) ?_
    | with_reducible refine occur_only (subParts hL) ?_
    | (with_reducible refine ite_only (fun _ => ?_) fun _ => ?_)
    | ((with_reducible refine update_only ?_ fun p => ?_); rotate_left;
        (cases p <;> first | exact .inl (hL (by decide)) | (refine .inr ?_; repeat' constructor));
        first
        | with_reducible exact hO
        | with_reducible refine atT_only (subParts hL) ?_
        | with_reducible refine tioDecide_only (subParts hL) ?_
        | with_reducible refine latchAll_only (subParts hL) ?_
        | with_reducible refine occur_only (subParts hL) ?_
        | (with_reducible refine ite_only (fun _ => ?_) fun _ => ?_))

theorem execTioSampleWindow_only {L : List Part} {z : State} {t : ℕ} {m : TioMeas} {s0 : State} (hL : [.time,
    .records, .events, .recorder, .cycle, .tripIo] ⊆ L)
    (h : execTioSampleWindow t m s0 = .next z) : onlyChanges L s0 z := by
  have hO : onlyChanges L s0 s0 := onlyChanges_refl
  unfold execTioSampleWindow at h
  injection h with h
  subst h
  try dsimp only
  repeat' first
    | with_reducible exact hO
    | with_reducible refine atT_only (subParts hL) ?_
    | with_reducible refine sampleWindow_only (subParts hL) ?_
    | (with_reducible refine ite_only (fun _ => ?_) fun _ => ?_)

theorem execPairDisc_only {L : List Part} {z : State} {t : ℕ} {pair : ℕ} {s0 : State} (hL : [.time, .records,
    .events, .recorder, .tripIo] ⊆ L)
    (h : execPairDisc t pair s0 = .next z) : onlyChanges L s0 z := by
  have hO : onlyChanges L s0 s0 := onlyChanges_refl
  unfold execPairDisc at h
  injection h with h
  subst h
  try dsimp only
  repeat' first
    | with_reducible exact hO
    | with_reducible refine atT_only (subParts hL) ?_
    | with_reducible refine tioDecide_only (subParts hL) ?_
    | with_reducible refine latchDemand_only (subParts hL) ?_
    | with_reducible refine tioFault_only (subParts hL) ?_
    | with_reducible refine updTi_only (subParts hL) ?_
    | (with_reducible refine ite_only (fun _ => ?_) fun _ => ?_)

theorem execSinkCheck_only {L : List Part} {z : State} {t : ℕ} {i : ℕ} {ok : Bool} {s0 : State} (hL : [.time,
    .records, .faultStore, .events, .recorder, .faults, .tripIo] ⊆ L)
    (h : execSinkCheck t i ok s0 = .next z) : onlyChanges L s0 z := by
  have hO : onlyChanges L s0 s0 := onlyChanges_refl
  unfold execSinkCheck at h
  injection h with h
  subst h
  try dsimp only
  repeat' first
    | with_reducible exact hO
    | with_reducible refine atT_only (subParts hL) ?_
    | with_reducible refine updTi_only (subParts hL) ?_
    | with_reducible refine bucketAdd_only (subParts hL) ?_
    | with_reducible refine tioFault_only (subParts hL) ?_
    | with_reducible refine tioDecide_only (subParts hL) ?_
    | with_reducible refine retireRecord_only (subParts hL) ?_
    | (with_reducible refine ite_only (fun _ => ?_) fun _ => ?_)

theorem execTioReadback_only {L : List Part} {z : State} {t : ℕ} {q : ℕ} {s0 : State} (hL : [.time, .records,
    .faultStore, .events, .recorder, .faults, .tripIo] ⊆ L)
    (h : execTioReadback t q s0 = .next z) : onlyChanges L s0 z := by
  have hO : onlyChanges L s0 s0 := onlyChanges_refl
  unfold execTioReadback at h
  injection h with h
  subst h
  try dsimp only
  repeat' first
    | with_reducible exact hO
    | with_reducible refine atT_only (subParts hL) ?_
    | with_reducible refine tqChannelFault_only (subParts hL) ?_
    | (with_reducible refine ite_only (fun _ => ?_) fun _ => ?_)

theorem execOvercurrent_only {L : List Part} {z : State} {t : ℕ} {q : ℕ} {short : Bool} {s0 : State} (hL : [.time,
    .records, .events, .recorder, .tripIo] ⊆ L)
    (h : execOvercurrent t q short s0 = .next z) : onlyChanges L s0 z := by
  have hO : onlyChanges L s0 s0 := onlyChanges_refl
  unfold execOvercurrent at h
  injection h with h
  subst h
  try dsimp only
  repeat' first
    | with_reducible exact hO
    | with_reducible refine atT_only (subParts hL) ?_
    | with_reducible refine tioDecide_only (subParts hL) ?_
    | with_reducible refine tqFieldFault_only (subParts hL) ?_
    | (with_reducible refine ite_only (fun _ => ?_) fun _ => ?_)

theorem execGroupOverload_only {L : List Part} {z : State} {t : ℕ} {g : ℕ} {s0 : State} (hL : [.time, .records,
    .events, .recorder, .tripIo] ⊆ L)
    (h : execGroupOverload t g s0 = .next z) : onlyChanges L s0 z := by
  have hO : onlyChanges L s0 s0 := onlyChanges_refl
  unfold execGroupOverload at h
  injection h with h
  subst h
  try dsimp only
  repeat' first
    | with_reducible exact hO
    | with_reducible refine atT_only (subParts hL) ?_
    | with_reducible refine tioDecide_only (subParts hL) ?_
    | with_reducible refine tioFault_only (subParts hL) ?_
    | with_reducible refine tqLatch_only (subParts hL) ?_
    | with_reducible refine foldl_only ?_ (fun _ _ _ => ?_)
    | with_reducible assumption
    | (with_reducible refine ite_only (fun _ => ?_) fun _ => ?_)

theorem execDarkTestStart_only {L : List Part} {z : State} {t : ℕ} {q : ℕ} {s0 : State} (hL : [.time, .tripIo] ⊆ L)
    (h : execDarkTestStart t q s0 = .next z) : onlyChanges L s0 z := by
  have hO : onlyChanges L s0 s0 := onlyChanges_refl
  unfold execDarkTestStart at h
  injection h with h
  subst h
  try dsimp only
  repeat' first
    | with_reducible exact hO
    | with_reducible refine atT_only (subParts hL) ?_
    | with_reducible refine updTq_only (subParts hL) ?_
    | (with_reducible refine ite_only (fun _ => ?_) fun _ => ?_)
    | ((with_reducible refine update_only ?_ fun p => ?_); rotate_left;
        (cases p <;> first | exact .inl (hL (by decide)) | (refine .inr ?_; repeat' constructor));
        first
        | with_reducible exact hO
        | with_reducible refine atT_only (subParts hL) ?_
        | with_reducible refine updTq_only (subParts hL) ?_
        | (with_reducible refine ite_only (fun _ => ?_) fun _ => ?_))

theorem execDarkTestEnd_only {L : List Part} {z : State} {t : ℕ} {q : ℕ} {m : DarkMeas} {s0 : State} (hL : [.time,
    .records, .faultStore, .events, .recorder, .faults, .tripIo] ⊆ L)
    (h : execDarkTestEnd t q m s0 = .next z) : onlyChanges L s0 z := by
  have hO : onlyChanges L s0 s0 := onlyChanges_refl
  unfold execDarkTestEnd at h
  injection h with h
  subst h
  try dsimp only
  repeat' first
    | with_reducible exact hO
    | with_reducible refine atT_only (subParts hL) ?_
    | with_reducible refine updTq_only (subParts hL) ?_
    | with_reducible refine tqFieldFault_only (subParts hL) ?_
    | with_reducible refine tioDecide_only (subParts hL) ?_
    | with_reducible refine tqChannelFault_only (subParts hL) ?_
    | with_reducible refine retireRecord_only (subParts hL) ?_
    | with_reducible refine tioFault_only (subParts hL) ?_
    | with_reducible refine foldl_only ?_ (fun _ _ _ => ?_)
    | with_reducible assumption
    | (with_reducible refine ite_only (fun _ => ?_) fun _ => ?_)
    | split

theorem execShortToSupply_only {L : List Part} {z : State} {t : ℕ} {q : ℕ} {s0 : State} (hL : [.time, .records,
    .faultStore, .events, .recorder, .tripIo] ⊆ L)
    (h : execShortToSupply t q s0 = .next z) : onlyChanges L s0 z := by
  have hO : onlyChanges L s0 s0 := onlyChanges_refl
  unfold execShortToSupply at h
  injection h with h
  subst h
  try dsimp only
  repeat' first
    | with_reducible exact hO
    | with_reducible refine atT_only (subParts hL) ?_
    | with_reducible refine retireTq_only (subParts hL) ?_
    | with_reducible refine tioFault_only (subParts hL) ?_
    | (with_reducible refine ite_only (fun _ => ?_) fun _ => ?_)

theorem execTioSupplyMeasure_only {L : List Part} {z : State} {t : ℕ} {g : ℕ} {mv : ℕ} {s0 : State} (hL : [.time,
    .tripIo] ⊆ L)
    (h : execTioSupplyMeasure t g mv s0 = .next z) : onlyChanges L s0 z := by
  have hO : onlyChanges L s0 s0 := onlyChanges_refl
  unfold execTioSupplyMeasure at h
  injection h with h
  subst h
  try dsimp only
  repeat' first
    | with_reducible exact hO
    | with_reducible refine atT_only (subParts hL) ?_
    | with_reducible refine updFs_only (subParts hL) ?_
    | (with_reducible refine ite_only (fun _ => ?_) fun _ => ?_)

theorem execTioSupplyDown_only {L : List Part} {z : State} {t : ℕ} {g : ℕ} {s0 : State} (hL : [.time, .records,
    .events, .recorder, .tripIo] ⊆ L)
    (h : execTioSupplyDown t g s0 = .next z) : onlyChanges L s0 z := by
  have hO : onlyChanges L s0 s0 := onlyChanges_refl
  unfold execTioSupplyDown at h
  injection h with h
  subst h
  try dsimp only
  repeat' first
    | with_reducible exact hO
    | with_reducible refine atT_only (subParts hL) ?_
    | with_reducible refine fsTake_only (subParts hL) ?_
    | (with_reducible refine ite_only (fun _ => ?_) fun _ => ?_)
    | split

theorem execTioSupplyUp_only {L : List Part} {z : State} {t : ℕ} {g : ℕ} {s0 : State} (hL : [.time, .records,
    .events, .recorder, .tripIo] ⊆ L)
    (h : execTioSupplyUp t g s0 = .next z) : onlyChanges L s0 z := by
  have hO : onlyChanges L s0 s0 := onlyChanges_refl
  unfold execTioSupplyUp at h
  injection h with h
  subst h
  try dsimp only
  repeat' first
    | with_reducible exact hO
    | with_reducible refine atT_only (subParts hL) ?_
    | with_reducible refine fsTake_only (subParts hL) ?_
    | (with_reducible refine ite_only (fun _ => ?_) fun _ => ?_)
    | split

theorem execHxpCmdqDb_only {L : List Part} {z : State} {t : ℕ} {n : ℕ} {val : Word} {s : State} (hL : [.time,
    .rings, .events, .vectors, .hxpRest, .out] ⊆ L)
    (h : execHxpCmdqDb t n val s = .next z) : onlyChanges L s z := by
  have hO : onlyChanges L s s := onlyChanges_refl
  unfold execHxpCmdqDb at h
  injection h with h
  subst h
  try dsimp only
  repeat' first
    | with_reducible exact hO
    | with_reducible refine cmdqDb_only (subParts hL) ?_
    | with_reducible refine atT_only (subParts hL) ?_

theorem execHxpCplqDb_only {L : List Part} {z : State} {t : ℕ} {n : ℕ} {val : Word} {s : State} (hL : [.time,
    .rings, .events, .vectors, .hxpRest, .out] ⊆ L)
    (h : execHxpCplqDb t n val s = .next z) : onlyChanges L s z := by
  have hO : onlyChanges L s s := onlyChanges_refl
  unfold execHxpCplqDb at h
  injection h with h
  subst h
  try dsimp only
  repeat' first
    | with_reducible exact hO
    | with_reducible refine cplqDb_only (subParts hL) ?_
    | with_reducible refine atT_only (subParts hL) ?_

theorem execHxpEvqDb_only {L : List Part} {z : State} {t : ℕ} {val : Word} {s : State} (hL : [.time, .events,
    .vectors, .hxpRest, .out] ⊆ L)
    (h : execHxpEvqDb t val s = .next z) : onlyChanges L s z := by
  have hO : onlyChanges L s s := onlyChanges_refl
  unfold execHxpEvqDb at h
  injection h with h
  subst h
  try dsimp only
  repeat' first
    | with_reducible exact hO
    | with_reducible refine evqDb_only (subParts hL) ?_
    | with_reducible refine atT_only (subParts hL) ?_

theorem execArm_only {L : List Part} {z : State} {t : ℕ} {val : Word} {s : State} (hL : [.time, .rings, .events,
    .vectors, .hxpRest, .out] ⊆ L)
    (h : execArm t val s = .next z) : onlyChanges L s z := by
  have hO : onlyChanges L s s := onlyChanges_refl
  unfold execArm at h
  injection h with h
  subst h
  try dsimp only
  repeat' first
    | with_reducible exact hO
    | with_reducible refine armEff_only (subParts hL) ?_
    | with_reducible refine atT_only (subParts hL) ?_
    | (with_reducible refine ite_only (fun _ => ?_) fun _ => ?_)

theorem execDisarm_only {L : List Part} {z : State} {t : ℕ} {val : Word} {s : State} (hL : [.time, .hxpRest] ⊆ L)
    (h : execDisarm t val s = .next z) : onlyChanges L s z := by
  have hO : onlyChanges L s s := onlyChanges_refl
  unfold execDisarm at h
  injection h with h
  subst h
  try dsimp only
  repeat' first
    | with_reducible exact hO
    | with_reducible refine disarmEff_only (subParts hL) ?_
    | with_reducible refine atT_only (subParts hL) ?_
    | (with_reducible refine ite_only (fun _ => ?_) fun _ => ?_)

theorem execDisarmComplete_only {L : List Part} {z : State} {t : ℕ} {s0 : State} (hL : [.time, .hxpRest] ⊆ L)
    (h : execDisarmComplete t s0 = .next z) : onlyChanges L s0 z := by
  have hO : onlyChanges L s0 s0 := onlyChanges_refl
  unfold execDisarmComplete at h
  injection h with h
  subst h
  try dsimp only
  repeat' first
    | with_reducible exact hO
    | with_reducible refine atT_only (subParts hL) ?_
    | (with_reducible refine ite_only (fun _ => ?_) fun _ => ?_)
    | ((with_reducible refine update_only ?_ fun p => ?_); rotate_left;
        (cases p <;> first | exact .inl (hL (by decide)) | (refine .inr ?_; repeat' constructor));
        first
        | with_reducible exact hO
        | with_reducible refine atT_only (subParts hL) ?_
        | (with_reducible refine ite_only (fun _ => ?_) fun _ => ?_))

theorem execRingReset_only {L : List Part} {z : State} {t : ℕ} {val : Word} {s : State} (hL : [.time, .rings,
    .hxpRest] ⊆ L)
    (h : execRingReset t val s = .next z) : onlyChanges L s z := by
  have hO : onlyChanges L s s := onlyChanges_refl
  unfold execRingReset at h
  injection h with h
  subst h
  try dsimp only
  repeat' first
    | with_reducible exact hO
    | with_reducible refine ringResetEff_only (subParts hL) ?_
    | with_reducible refine atT_only (subParts hL) ?_
    | (with_reducible refine ite_only (fun _ => ?_) fun _ => ?_)

theorem execEvqReset_only {L : List Part} {z : State} {t : ℕ} {val : Word} {s : State} (hL : [.time, .events] ⊆ L)
    (h : execEvqReset t val s = .next z) : onlyChanges L s z := by
  have hO : onlyChanges L s s := onlyChanges_refl
  unfold execEvqReset at h
  injection h with h
  subst h
  try dsimp only
  repeat' first
    | with_reducible exact hO
    | with_reducible refine evqResetEff_only (subParts hL) ?_
    | with_reducible refine atT_only (subParts hL) ?_
    | (with_reducible refine ite_only (fun _ => ?_) fun _ => ?_)

theorem execCompletionPost_only {L : List Part} {z : State} {t : ℕ} {n : ℕ} {s : State} (hL : [.time, .rings,
    .vectors, .out] ⊆ L)
    (h : execCompletionPost t n s = .next z) : onlyChanges L s z := by
  have hO : onlyChanges L s s := onlyChanges_refl
  unfold execCompletionPost at h
  injection h with h
  subst h
  try dsimp only
  repeat' first
    | with_reducible exact hO
    | with_reducible refine postCompletion_only (subParts hL) ?_
    | with_reducible refine atT_only (subParts hL) ?_

theorem execEventPost_only {L : List Part} {z : State} {t : ℕ} {s : State} (hL : [.time, .events, .vectors, .out] ⊆
    L)
    (h : execEventPost t s = .next z) : onlyChanges L s z := by
  have hO : onlyChanges L s s := onlyChanges_refl
  unfold execEventPost at h
  injection h with h
  subst h
  try dsimp only
  repeat' first
    | with_reducible exact hO
    | with_reducible refine postEvent_only (subParts hL) ?_
    | with_reducible refine atT_only (subParts hL) ?_

theorem execCoalesceExpiry_only {L : List Part} {z : State} {t : ℕ} {vec : ℕ} {s : State} (hL : [.time, .vectors,
    .out] ⊆ L)
    (h : execCoalesceExpiry t vec s = .next z) : onlyChanges L s z := by
  have hO : onlyChanges L s s := onlyChanges_refl
  unfold execCoalesceExpiry at h
  injection h with h
  subst h
  try dsimp only
  repeat' first
    | with_reducible exact hO
    | with_reducible refine coalesceEff_only (subParts hL) ?_
    | with_reducible refine atT_only (subParts hL) ?_

theorem execDmaTimeout_only {L : List Part} {z : State} {t : ℕ} {x : Xfer} {s0 : State} (hL : [.time, .rings,
    .events, .vectors, .hxpRest, .faults, .out] ⊆ L)
    (h : execDmaTimeout t x s0 = .next z) : onlyChanges L s0 z := by
  have hO : onlyChanges L s0 s0 := onlyChanges_refl
  unfold execDmaTimeout at h
  injection h with h
  subst h
  try dsimp only
  repeat' first
    | with_reducible exact hO
    | with_reducible refine atT_only (subParts hL) ?_
    | with_reducible refine dmaFail_only (subParts hL) ?_
    | with_reducible refine noteFault_only (subParts hL) ?_
    | (with_reducible refine ite_only (fun _ => ?_) fun _ => ?_)
    | ((with_reducible refine update_only ?_ fun p => ?_); rotate_left;
        (cases p <;> first | exact .inl (hL (by decide)) | (refine .inr ?_; repeat' constructor));
        first
        | with_reducible exact hO
        | with_reducible refine atT_only (subParts hL) ?_
        | with_reducible refine dmaFail_only (subParts hL) ?_
        | with_reducible refine noteFault_only (subParts hL) ?_
        | (with_reducible refine ite_only (fun _ => ?_) fun _ => ?_))

theorem execDmaError_only {L : List Part} {z : State} {t : ℕ} {x : Xfer} {s : State} (hL : [.time, .rings, .events,
    .vectors, .hxpRest, .out] ⊆ L)
    (h : execDmaError t x s = .next z) : onlyChanges L s z := by
  have hO : onlyChanges L s s := onlyChanges_refl
  unfold execDmaError at h
  injection h with h
  subst h
  try dsimp only
  repeat' first
    | with_reducible exact hO
    | with_reducible refine dmaFail_only (subParts hL) ?_
    | with_reducible refine atT_only (subParts hL) ?_

theorem execPcieReset_only {L : List Part} {z : State} {t : ℕ} {linkLoss : Bool} {s0 : State} (hL : [.time, .rings,
    .events, .vectors, .slots, .hxpRest] ⊆ L)
    (h : execPcieReset t linkLoss s0 = .next z) : onlyChanges L s0 z := by
  have hO : onlyChanges L s0 s0 := onlyChanges_refl
  unfold execPcieReset at h
  injection h with h
  subst h
  try dsimp only
  repeat' first
    | with_reducible exact hO
    | with_reducible refine hxpBlockReset_only (subParts hL) ?_
    | with_reducible refine atT_only (subParts hL) ?_
    | with_reducible refine linkDown_only (subParts hL) ?_
    | (with_reducible refine ite_only (fun _ => ?_) fun _ => ?_)

theorem execPciePerstChange_only {L : List Part} {z : State} {t : ℕ} {high : Bool} {s0 : State} (hL : [.time,
    .rings, .events, .vectors, .slots, .hxpRest] ⊆ L)
    (h : execPciePerstChange t high s0 = .next z) : onlyChanges L s0 z := by
  have hO : onlyChanges L s0 s0 := onlyChanges_refl
  unfold execPciePerstChange at h
  injection h with h
  subst h
  try dsimp only
  repeat' first
    | with_reducible exact hO
    | with_reducible refine atT_only (subParts hL) ?_
    | with_reducible refine linkDown_only (subParts hL) ?_
    | with_reducible refine hxpBlockReset_only (subParts hL) ?_
    | (with_reducible refine ite_only (fun _ => ?_) fun _ => ?_)
    | ((with_reducible refine update_only ?_ fun p => ?_); rotate_left;
        (cases p <;> first | exact .inl (hL (by decide)) | (refine .inr ?_; repeat' constructor));
        first
        | with_reducible exact hO
        | with_reducible refine atT_only (subParts hL) ?_
        | with_reducible refine linkDown_only (subParts hL) ?_
        | with_reducible refine hxpBlockReset_only (subParts hL) ?_
        | (with_reducible refine ite_only (fun _ => ?_) fun _ => ?_))

theorem execLinkTrained_only {L : List Part} {z : State} {t : ℕ} {s0 : State} (hL : [.time, .hxpRest, .free] ⊆ L)
    (h : execLinkTrained t s0 = .next z) : onlyChanges L s0 z := by
  have hO : onlyChanges L s0 s0 := onlyChanges_refl
  unfold execLinkTrained at h
  injection h with h
  subst h
  try dsimp only
  repeat' first
    | with_reducible exact hO
    | with_reducible refine atT_only (subParts hL) ?_
    | (with_reducible refine ite_only (fun _ => ?_) fun _ => ?_)
    | ((with_reducible refine update_only ?_ fun p => ?_); rotate_left;
        (cases p <;> first | exact .inl (hL (by decide)) | (refine .inr ?_; repeat' constructor));
        first
        | with_reducible exact hO
        | with_reducible refine atT_only (subParts hL) ?_
        | (with_reducible refine ite_only (fun _ => ?_) fun _ => ?_))

theorem execSorrelRateWrite_only {L : List Part} {z : State} {t : ℕ} {code : ℕ} {s0 : State} (hL : [.time, .records,
    .events, .recorder] ⊆ L)
    (h : execSorrelRateWrite t code s0 = .next z) : onlyChanges L s0 z := by
  have hO : onlyChanges L s0 s0 := onlyChanges_refl
  unfold execSorrelRateWrite at h
  injection h with h
  subst h
  try dsimp only
  repeat' first
    | with_reducible exact hO
    | with_reducible refine atT_only (subParts hL) ?_
    | with_reducible refine flushCode_only (subParts hL) ?_
    | (with_reducible refine ite_only (fun _ => ?_) fun _ => ?_)

theorem execSorrelSeal_only {L : List Part} {z : State} {t : ℕ} {epoch : ℕ} {s0 : State} (hL : [.time, .records,
    .heat] ⊆ L)
    (h : execSorrelSeal t epoch s0 = .next z) : onlyChanges L s0 z := by
  have hO : onlyChanges L s0 s0 := onlyChanges_refl
  unfold execSorrelSeal at h
  injection h with h
  subst h
  try dsimp only
  repeat' first
    | with_reducible exact hO
    | with_reducible refine atT_only (subParts hL) ?_
    | with_reducible refine bgWant_only (subParts hL) ?_
    | with_reducible refine rollDays_only (subParts hL) ?_
    | (with_reducible refine ite_only (fun _ => ?_) fun _ => ?_)
    | ((with_reducible refine update_only ?_ fun p => ?_); rotate_left;
        (cases p <;> first | exact .inl (hL (by decide)) | (refine .inr ?_; repeat' constructor));
        first
        | with_reducible exact hO
        | with_reducible refine atT_only (subParts hL) ?_
        | with_reducible refine bgWant_only (subParts hL) ?_
        | with_reducible refine rollDays_only (subParts hL) ?_
        | (with_reducible refine ite_only (fun _ => ?_) fun _ => ?_))

end Sys2Proof.Machine
end

