-- ==== Sys2Proof/Laws/Memory.lean ====
section
/-! SUPPORT. Every memory operation keeps the canonical form, and what a read gives after a write. -/

namespace Sys2Proof.Machine

theorem rising_tail {x : Host.Cell} {m : List Host.Cell} (h : rising (x :: m) = true) : rising m = true := by
  cases m with
  | nil => rfl
  | cons y r => simp only [rising, Bool.and_eq_true] at h; exact h.2

/-- A list rises exactly when its head lies below the head of a rising rest. -/
theorem rising_cons {x : Host.Cell} {m : List Host.Cell} :
    rising (x :: m) = true ↔ (∀ y ∈ m.head?, x.1 < y.1) ∧ rising m = true := by
  cases m with
  | nil => simp [rising]
  | cons y r => simp [rising]

theorem memSet_head {m : List Host.Cell} {a b : Nat} {v : Byte} (hb : b < a) (h : ∀ y ∈ m.head?, b < y.1) :
    ∀ y ∈ (memSet m a v).head?, b < y.1 := by
  cases m with
  | nil => simpa [memSet] using hb
  | cons x r =>
    have hx : b < x.1 := h x (by simp)
    unfold memSet
    split
    · simpa using hb
    · split
      · simpa using hb
      · simpa using hx

/-- A write of one byte keeps the canonical form. -/
theorem memSet_wf {m : List Host.Cell} {a : Nat} {v : Byte} (h : Memory.wf m = true) :
    Memory.wf (memSet m a v) = true := by
  unfold Memory.wf at *
  induction m with
  | nil => rfl
  | cons x r ih =>
    obtain ⟨hx, hr⟩ := rising_cons.mp h
    unfold memSet
    split
    · exact rising_cons.mpr ⟨by simpa using ‹_›, h⟩
    · split
      · next e => exact rising_cons.mpr ⟨by subst e; exact hx, hr⟩
      · exact rising_cons.mpr ⟨memSet_head (by omega) hx, ih hr⟩

/-- A write of bytes keeps the canonical form. -/
theorem memWrite_wf {m : List Host.Cell} {a : Nat} {l : List Byte} (h : Memory.wf m = true) :
    Memory.wf (memWrite m a l) = true := by
  induction l generalizing m a with
  | nil => exact h
  | cons v r ih => exact ih (memSet_wf h)

theorem memGet_below {m : List Host.Cell} {x : Nat} (h : rising m = true) (k : ∀ y ∈ m.head?, x < y.1) :
    memGet m x = none := by
  induction m with
  | nil => rfl
  | cons y r ih =>
    obtain ⟨hy, hr⟩ := rising_cons.mp h
    have := k y (by simp)
    simp only [memGet]
    rw [if_neg (by omega)]
    exact ih hr fun z hz => lt_trans this (hy z hz)

/-- A byte reads what was written to it, every other byte what it read before. -/
theorem memGet_memSet {m : List Host.Cell} {a x : Nat} {v : Byte} :
    memGet (memSet m a v) x = if x = a then some v else memGet m x := by
  induction m with
  | nil => simp only [memSet, memGet, eq_comm]
  | cons y r ih =>
    simp only [memSet]
    split
    · simp only [memGet]
      split <;> split <;> first | rfl | (exfalso; omega) | (simp_all; try omega)
    · split
      · simp only [memGet]
        split <;> split <;> first | rfl | (exfalso; omega) | (simp_all; try omega)
      · simp only [memGet, ih]
        split <;> split <;> first | rfl | (exfalso; omega)

/-- After a write of bytes each of its addresses reads its byte, every other what it read before. -/
theorem memGet_memWrite {m : List Host.Cell} {a x : Nat} {l : List Byte} :
    memGet (memWrite m a l) x = if a ≤ x ∧ x < a + l.length then l[x - a]? else memGet m x := by
  induction l generalizing m a with
  | nil => simp [memWrite]
  | cons v r ih =>
    simp only [memWrite, ih, memGet_memSet, List.length_cons]
    by_cases h : x = a
    · subst h
      simp
    · by_cases k : a + 1 ≤ x ∧ x < a + 1 + r.length
      · rw [if_pos k, if_pos (by omega)]
        obtain ⟨d, rfl⟩ : ∃ d, x = a + 1 + d := ⟨x - (a + 1), by omega⟩
        have : a + 1 + d - a = d + 1 := by omega
        simp [this]
      · rw [if_neg k, if_neg h, if_neg (by omega)]

end Sys2Proof.Machine
end

