-- ==== Sys2Proof/Laws/State.lean ====
section
/-! SUPPORT. One equation per field of State for every plain update: what it sets, and what it leaves alone. -/

namespace Sys2Proof.Machine

section
variable (t : Nat) (s : State)
@[simp] theorem atT_gt : (atT t s).gt = max s.gt t := rfl
@[simp] theorem atT_gtFrac : (atT t s).gtFrac = s.gtFrac := rfl
@[simp] theorem atT_nva : (atT t s).nva = s.nva := rfl
@[simp] theorem atT_mod : (atT t s).mod = s.mod := rfl
@[simp] theorem atT_hxp : (atT t s).hxp = s.hxp := rfl
@[simp] theorem atT_evr : (atT t s).evr = s.evr := rfl
@[simp] theorem atT_flt : (atT t s).flt = s.flt := rfl
@[simp] theorem atT_bst : (atT t s).bst = s.bst := rfl
@[simp] theorem atT_fwu : (atT t s).fwu = s.fwu := rfl
@[simp] theorem atT_gate : (atT t s).gate = s.gate := rfl
@[simp] theorem atT_clk : (atT t s).clk = s.clk := rfl
@[simp] theorem atT_hl : (atT t s).hl = s.hl := rfl
@[simp] theorem atT_con : (atT t s).con = s.con := rfl
@[simp] theorem atT_cyc : (atT t s).cyc = s.cyc := rfl
@[simp] theorem atT_chg : (atT t s).chg = s.chg := rfl
@[simp] theorem atT_nvb : (atT t s).nvb = s.nvb := rfl
@[simp] theorem atT_tim : (atT t s).tim = s.tim := rfl
@[simp] theorem atT_oxn : (atT t s).oxn = s.oxn := rfl
@[simp] theorem atT_ile : (atT t s).ile = s.ile := rfl
@[simp] theorem atT_plv : (atT t s).plv = s.plv := rfl
@[simp] theorem atT_tio : (atT t s).tio = s.tio := rfl
@[simp] theorem atT_can : (atT t s).can = s.can := rfl
@[simp] theorem atT_alp : (atT t s).alp = s.alp := rfl
@[simp] theorem atT_mem : (atT t s).mem = s.mem := rfl
@[simp] theorem atT_out : (atT t s).out = s.out := rfl
@[simp] theorem atT_free : (atT t s).free = s.free := rfl
@[simp] theorem atT_pending : (atT t s).pending = s.pending := rfl
end

section
variable (o : Out) (s : State)
@[simp] theorem emit_gt : (emit o s).gt = s.gt := rfl
@[simp] theorem emit_gtFrac : (emit o s).gtFrac = s.gtFrac := rfl
@[simp] theorem emit_clvPre : (emit o s).clvPre = s.clvPre := rfl
@[simp] theorem emit_nva : (emit o s).nva = s.nva := rfl
@[simp] theorem emit_mod : (emit o s).mod = s.mod := rfl
@[simp] theorem emit_hxp : (emit o s).hxp = s.hxp := rfl
@[simp] theorem emit_evr : (emit o s).evr = s.evr := rfl
@[simp] theorem emit_flt : (emit o s).flt = s.flt := rfl
@[simp] theorem emit_bst : (emit o s).bst = s.bst := rfl
@[simp] theorem emit_fwu : (emit o s).fwu = s.fwu := rfl
@[simp] theorem emit_gate : (emit o s).gate = s.gate := rfl
@[simp] theorem emit_clk : (emit o s).clk = s.clk := rfl
@[simp] theorem emit_hl : (emit o s).hl = s.hl := rfl
@[simp] theorem emit_con : (emit o s).con = s.con := rfl
@[simp] theorem emit_cyc : (emit o s).cyc = s.cyc := rfl
@[simp] theorem emit_chg : (emit o s).chg = s.chg := rfl
@[simp] theorem emit_nvb : (emit o s).nvb = s.nvb := rfl
@[simp] theorem emit_tim : (emit o s).tim = s.tim := rfl
@[simp] theorem emit_oxn : (emit o s).oxn = s.oxn := rfl
@[simp] theorem emit_ile : (emit o s).ile = s.ile := rfl
@[simp] theorem emit_plv : (emit o s).plv = s.plv := rfl
@[simp] theorem emit_tio : (emit o s).tio = s.tio := rfl
@[simp] theorem emit_can : (emit o s).can = s.can := rfl
@[simp] theorem emit_alp : (emit o s).alp = s.alp := rfl
@[simp] theorem emit_mem : (emit o s).mem = s.mem := rfl
@[simp] theorem emit_out : (emit o s).out = s.out ++ [o] := rfl
@[simp] theorem emit_free : (emit o s).free = s.free := rfl
@[simp] theorem emit_pending : (emit o s).pending = s.pending := rfl
end

section
variable (n : Nat) (f : RingS → RingS) (s : State)
@[simp] theorem updRing_gt : (updRing n f s).gt = s.gt := rfl
@[simp] theorem updRing_gtFrac : (updRing n f s).gtFrac = s.gtFrac := rfl
@[simp] theorem updRing_clvPre : (updRing n f s).clvPre = s.clvPre := rfl
@[simp] theorem updRing_nva : (updRing n f s).nva = s.nva := rfl
@[simp] theorem updRing_mod : (updRing n f s).mod = s.mod := rfl
@[simp] theorem updRing_hxp : (updRing n f s).hxp = { s.hxp with rings := updAt s.hxp.rings n f } := rfl
@[simp] theorem updRing_evr : (updRing n f s).evr = s.evr := rfl
@[simp] theorem updRing_flt : (updRing n f s).flt = s.flt := rfl
@[simp] theorem updRing_bst : (updRing n f s).bst = s.bst := rfl
@[simp] theorem updRing_fwu : (updRing n f s).fwu = s.fwu := rfl
@[simp] theorem updRing_gate : (updRing n f s).gate = s.gate := rfl
@[simp] theorem updRing_clk : (updRing n f s).clk = s.clk := rfl
@[simp] theorem updRing_hl : (updRing n f s).hl = s.hl := rfl
@[simp] theorem updRing_con : (updRing n f s).con = s.con := rfl
@[simp] theorem updRing_cyc : (updRing n f s).cyc = s.cyc := rfl
@[simp] theorem updRing_chg : (updRing n f s).chg = s.chg := rfl
@[simp] theorem updRing_nvb : (updRing n f s).nvb = s.nvb := rfl
@[simp] theorem updRing_tim : (updRing n f s).tim = s.tim := rfl
@[simp] theorem updRing_oxn : (updRing n f s).oxn = s.oxn := rfl
@[simp] theorem updRing_ile : (updRing n f s).ile = s.ile := rfl
@[simp] theorem updRing_plv : (updRing n f s).plv = s.plv := rfl
@[simp] theorem updRing_tio : (updRing n f s).tio = s.tio := rfl
@[simp] theorem updRing_can : (updRing n f s).can = s.can := rfl
@[simp] theorem updRing_alp : (updRing n f s).alp = s.alp := rfl
@[simp] theorem updRing_mem : (updRing n f s).mem = s.mem := rfl
@[simp] theorem updRing_out : (updRing n f s).out = s.out := rfl
@[simp] theorem updRing_free : (updRing n f s).free = s.free := rfl
@[simp] theorem updRing_pending : (updRing n f s).pending = s.pending := rfl
end

section
variable (n : Nat) (s : State)
@[simp] theorem fetchOne_gt : (fetchOne n s).gt = s.gt := rfl
@[simp] theorem fetchOne_gtFrac : (fetchOne n s).gtFrac = s.gtFrac := rfl
@[simp] theorem fetchOne_clvPre : (fetchOne n s).clvPre = s.clvPre := rfl
@[simp] theorem fetchOne_nva : (fetchOne n s).nva = s.nva := rfl
@[simp] theorem fetchOne_mod : (fetchOne n s).mod = s.mod := rfl
@[simp] theorem fetchOne_evr : (fetchOne n s).evr = s.evr := rfl
@[simp] theorem fetchOne_flt : (fetchOne n s).flt = s.flt := rfl
@[simp] theorem fetchOne_bst : (fetchOne n s).bst = s.bst := rfl
@[simp] theorem fetchOne_fwu : (fetchOne n s).fwu = s.fwu := rfl
@[simp] theorem fetchOne_gate : (fetchOne n s).gate = s.gate := rfl
@[simp] theorem fetchOne_clk : (fetchOne n s).clk = s.clk := rfl
@[simp] theorem fetchOne_hl : (fetchOne n s).hl = s.hl := rfl
@[simp] theorem fetchOne_con : (fetchOne n s).con = s.con := rfl
@[simp] theorem fetchOne_cyc : (fetchOne n s).cyc = s.cyc := rfl
@[simp] theorem fetchOne_chg : (fetchOne n s).chg = s.chg := rfl
@[simp] theorem fetchOne_nvb : (fetchOne n s).nvb = s.nvb := rfl
@[simp] theorem fetchOne_tim : (fetchOne n s).tim = s.tim := rfl
@[simp] theorem fetchOne_oxn : (fetchOne n s).oxn = s.oxn := rfl
@[simp] theorem fetchOne_ile : (fetchOne n s).ile = s.ile := rfl
@[simp] theorem fetchOne_plv : (fetchOne n s).plv = s.plv := rfl
@[simp] theorem fetchOne_tio : (fetchOne n s).tio = s.tio := rfl
@[simp] theorem fetchOne_can : (fetchOne n s).can = s.can := rfl
@[simp] theorem fetchOne_alp : (fetchOne n s).alp = s.alp := rfl
@[simp] theorem fetchOne_mem : (fetchOne n s).mem = s.mem := rfl
@[simp] theorem fetchOne_out : (fetchOne n s).out = s.out := rfl
@[simp] theorem fetchOne_free : (fetchOne n s).free = s.free := rfl
@[simp] theorem fetchOne_pending : (fetchOne n s).pending = s.pending := rfl
end

section
variable (c : Call) (op : Nat) (st : Status) (rs : Option Reason) (bytes result : Nat) (s : State)
@[simp] theorem complete_gt : (complete c op st rs bytes result s).gt = s.gt := rfl
@[simp] theorem complete_gtFrac : (complete c op st rs bytes result s).gtFrac = s.gtFrac := rfl
@[simp] theorem complete_clvPre : (complete c op st rs bytes result s).clvPre = s.clvPre := rfl
@[simp] theorem complete_nva : (complete c op st rs bytes result s).nva = s.nva := rfl
@[simp] theorem complete_mod : (complete c op st rs bytes result s).mod = s.mod := rfl
@[simp] theorem complete_evr : (complete c op st rs bytes result s).evr = s.evr := rfl
@[simp] theorem complete_flt : (complete c op st rs bytes result s).flt = s.flt := rfl
@[simp] theorem complete_bst : (complete c op st rs bytes result s).bst = s.bst := rfl
@[simp] theorem complete_fwu : (complete c op st rs bytes result s).fwu = s.fwu := rfl
@[simp] theorem complete_gate : (complete c op st rs bytes result s).gate = s.gate := rfl
@[simp] theorem complete_clk : (complete c op st rs bytes result s).clk = s.clk := rfl
@[simp] theorem complete_hl : (complete c op st rs bytes result s).hl = s.hl := rfl
@[simp] theorem complete_con : (complete c op st rs bytes result s).con = s.con := rfl
@[simp] theorem complete_cyc : (complete c op st rs bytes result s).cyc = s.cyc := rfl
@[simp] theorem complete_chg : (complete c op st rs bytes result s).chg = s.chg := rfl
@[simp] theorem complete_nvb : (complete c op st rs bytes result s).nvb = s.nvb := rfl
@[simp] theorem complete_tim : (complete c op st rs bytes result s).tim = s.tim := rfl
@[simp] theorem complete_oxn : (complete c op st rs bytes result s).oxn = s.oxn := rfl
@[simp] theorem complete_ile : (complete c op st rs bytes result s).ile = s.ile := rfl
@[simp] theorem complete_plv : (complete c op st rs bytes result s).plv = s.plv := rfl
@[simp] theorem complete_tio : (complete c op st rs bytes result s).tio = s.tio := rfl
@[simp] theorem complete_can : (complete c op st rs bytes result s).can = s.can := rfl
@[simp] theorem complete_alp : (complete c op st rs bytes result s).alp = s.alp := rfl
@[simp] theorem complete_mem : (complete c op st rs bytes result s).mem = s.mem := rfl
@[simp] theorem complete_out : (complete c op st rs bytes result s).out = s.out := rfl
@[simp] theorem complete_free : (complete c op st rs bytes result s).free = s.free := rfl
@[simp] theorem complete_pending : (complete c op st rs bytes result s).pending = s.pending := rfl
end

section
variable (c : Call) (op result : Nat) (s : State)
@[simp] theorem done_gt : (done c op result s).gt = s.gt := rfl
@[simp] theorem done_gtFrac : (done c op result s).gtFrac = s.gtFrac := rfl
@[simp] theorem done_clvPre : (done c op result s).clvPre = s.clvPre := rfl
@[simp] theorem done_nva : (done c op result s).nva = s.nva := rfl
@[simp] theorem done_mod : (done c op result s).mod = s.mod := rfl
@[simp] theorem done_evr : (done c op result s).evr = s.evr := rfl
@[simp] theorem done_flt : (done c op result s).flt = s.flt := rfl
@[simp] theorem done_bst : (done c op result s).bst = s.bst := rfl
@[simp] theorem done_fwu : (done c op result s).fwu = s.fwu := rfl
@[simp] theorem done_gate : (done c op result s).gate = s.gate := rfl
@[simp] theorem done_clk : (done c op result s).clk = s.clk := rfl
@[simp] theorem done_hl : (done c op result s).hl = s.hl := rfl
@[simp] theorem done_con : (done c op result s).con = s.con := rfl
@[simp] theorem done_cyc : (done c op result s).cyc = s.cyc := rfl
@[simp] theorem done_chg : (done c op result s).chg = s.chg := rfl
@[simp] theorem done_nvb : (done c op result s).nvb = s.nvb := rfl
@[simp] theorem done_tim : (done c op result s).tim = s.tim := rfl
@[simp] theorem done_oxn : (done c op result s).oxn = s.oxn := rfl
@[simp] theorem done_ile : (done c op result s).ile = s.ile := rfl
@[simp] theorem done_plv : (done c op result s).plv = s.plv := rfl
@[simp] theorem done_tio : (done c op result s).tio = s.tio := rfl
@[simp] theorem done_can : (done c op result s).can = s.can := rfl
@[simp] theorem done_alp : (done c op result s).alp = s.alp := rfl
@[simp] theorem done_mem : (done c op result s).mem = s.mem := rfl
@[simp] theorem done_out : (done c op result s).out = s.out := rfl
@[simp] theorem done_free : (done c op result s).free = s.free := rfl
@[simp] theorem done_pending : (done c op result s).pending = s.pending := rfl
end

section
variable (c : Call) (op : Nat) (st : Status) (s : State)
@[simp] theorem fail_gt : (fail c op st s).gt = s.gt := rfl
@[simp] theorem fail_gtFrac : (fail c op st s).gtFrac = s.gtFrac := rfl
@[simp] theorem fail_clvPre : (fail c op st s).clvPre = s.clvPre := rfl
@[simp] theorem fail_nva : (fail c op st s).nva = s.nva := rfl
@[simp] theorem fail_mod : (fail c op st s).mod = s.mod := rfl
@[simp] theorem fail_evr : (fail c op st s).evr = s.evr := rfl
@[simp] theorem fail_flt : (fail c op st s).flt = s.flt := rfl
@[simp] theorem fail_bst : (fail c op st s).bst = s.bst := rfl
@[simp] theorem fail_fwu : (fail c op st s).fwu = s.fwu := rfl
@[simp] theorem fail_gate : (fail c op st s).gate = s.gate := rfl
@[simp] theorem fail_clk : (fail c op st s).clk = s.clk := rfl
@[simp] theorem fail_hl : (fail c op st s).hl = s.hl := rfl
@[simp] theorem fail_con : (fail c op st s).con = s.con := rfl
@[simp] theorem fail_cyc : (fail c op st s).cyc = s.cyc := rfl
@[simp] theorem fail_chg : (fail c op st s).chg = s.chg := rfl
@[simp] theorem fail_nvb : (fail c op st s).nvb = s.nvb := rfl
@[simp] theorem fail_tim : (fail c op st s).tim = s.tim := rfl
@[simp] theorem fail_oxn : (fail c op st s).oxn = s.oxn := rfl
@[simp] theorem fail_ile : (fail c op st s).ile = s.ile := rfl
@[simp] theorem fail_plv : (fail c op st s).plv = s.plv := rfl
@[simp] theorem fail_tio : (fail c op st s).tio = s.tio := rfl
@[simp] theorem fail_can : (fail c op st s).can = s.can := rfl
@[simp] theorem fail_alp : (fail c op st s).alp = s.alp := rfl
@[simp] theorem fail_mem : (fail c op st s).mem = s.mem := rfl
@[simp] theorem fail_out : (fail c op st s).out = s.out := rfl
@[simp] theorem fail_free : (fail c op st s).free = s.free := rfl
@[simp] theorem fail_pending : (fail c op st s).pending = s.pending := rfl
end

section
variable (c : Call) (op : Nat) (data : List Byte) (result : Nat) (s : State)
@[simp] theorem doneBuf_gt : (doneBuf c op data result s).gt = s.gt := rfl
@[simp] theorem doneBuf_gtFrac : (doneBuf c op data result s).gtFrac = s.gtFrac := rfl
@[simp] theorem doneBuf_clvPre : (doneBuf c op data result s).clvPre = s.clvPre := rfl
@[simp] theorem doneBuf_nva : (doneBuf c op data result s).nva = s.nva := rfl
@[simp] theorem doneBuf_mod : (doneBuf c op data result s).mod = s.mod := rfl
@[simp] theorem doneBuf_evr : (doneBuf c op data result s).evr = s.evr := rfl
@[simp] theorem doneBuf_flt : (doneBuf c op data result s).flt = s.flt := rfl
@[simp] theorem doneBuf_bst : (doneBuf c op data result s).bst = s.bst := rfl
@[simp] theorem doneBuf_fwu : (doneBuf c op data result s).fwu = s.fwu := rfl
@[simp] theorem doneBuf_gate : (doneBuf c op data result s).gate = s.gate := rfl
@[simp] theorem doneBuf_clk : (doneBuf c op data result s).clk = s.clk := rfl
@[simp] theorem doneBuf_hl : (doneBuf c op data result s).hl = s.hl := rfl
@[simp] theorem doneBuf_con : (doneBuf c op data result s).con = s.con := rfl
@[simp] theorem doneBuf_cyc : (doneBuf c op data result s).cyc = s.cyc := rfl
@[simp] theorem doneBuf_chg : (doneBuf c op data result s).chg = s.chg := rfl
@[simp] theorem doneBuf_nvb : (doneBuf c op data result s).nvb = s.nvb := rfl
@[simp] theorem doneBuf_tim : (doneBuf c op data result s).tim = s.tim := rfl
@[simp] theorem doneBuf_oxn : (doneBuf c op data result s).oxn = s.oxn := rfl
@[simp] theorem doneBuf_ile : (doneBuf c op data result s).ile = s.ile := rfl
@[simp] theorem doneBuf_plv : (doneBuf c op data result s).plv = s.plv := rfl
@[simp] theorem doneBuf_tio : (doneBuf c op data result s).tio = s.tio := rfl
@[simp] theorem doneBuf_can : (doneBuf c op data result s).can = s.can := rfl
@[simp] theorem doneBuf_alp : (doneBuf c op data result s).alp = s.alp := rfl
@[simp] theorem doneBuf_mem : (doneBuf c op data result s).mem = s.mem := rfl
@[simp] theorem doneBuf_out : (doneBuf c op data result s).out = s.out ++ [.dma c.ring c.tag data] := rfl
@[simp] theorem doneBuf_free : (doneBuf c op data result s).free = s.free := rfl
@[simp] theorem doneBuf_pending : (doneBuf c op data result s).pending = s.pending := rfl
end

section
variable (g : Grant) (s : State)
@[simp] theorem nonceKeep_gt : (nonceKeep g s).gt = s.gt := rfl
@[simp] theorem nonceKeep_gtFrac : (nonceKeep g s).gtFrac = s.gtFrac := rfl
@[simp] theorem nonceKeep_clvPre : (nonceKeep g s).clvPre = s.clvPre := rfl
@[simp] theorem nonceKeep_nva : (nonceKeep g s).nva = { s.nva with nonces := (s.nva.nonces.filter fun p => decide (s.gt < p.2)) ++ [(g.nonce, g.expiry)] } := rfl
@[simp] theorem nonceKeep_mod : (nonceKeep g s).mod = s.mod := rfl
@[simp] theorem nonceKeep_hxp : (nonceKeep g s).hxp = s.hxp := rfl
@[simp] theorem nonceKeep_evr : (nonceKeep g s).evr = s.evr := rfl
@[simp] theorem nonceKeep_flt : (nonceKeep g s).flt = s.flt := rfl
@[simp] theorem nonceKeep_bst : (nonceKeep g s).bst = s.bst := rfl
@[simp] theorem nonceKeep_fwu : (nonceKeep g s).fwu = s.fwu := rfl
@[simp] theorem nonceKeep_gate : (nonceKeep g s).gate = s.gate := rfl
@[simp] theorem nonceKeep_clk : (nonceKeep g s).clk = s.clk := rfl
@[simp] theorem nonceKeep_hl : (nonceKeep g s).hl = s.hl := rfl
@[simp] theorem nonceKeep_con : (nonceKeep g s).con = s.con := rfl
@[simp] theorem nonceKeep_cyc : (nonceKeep g s).cyc = s.cyc := rfl
@[simp] theorem nonceKeep_chg : (nonceKeep g s).chg = s.chg := rfl
@[simp] theorem nonceKeep_nvb : (nonceKeep g s).nvb = s.nvb := rfl
@[simp] theorem nonceKeep_tim : (nonceKeep g s).tim = s.tim := rfl
@[simp] theorem nonceKeep_oxn : (nonceKeep g s).oxn = s.oxn := rfl
@[simp] theorem nonceKeep_ile : (nonceKeep g s).ile = s.ile := rfl
@[simp] theorem nonceKeep_plv : (nonceKeep g s).plv = s.plv := rfl
@[simp] theorem nonceKeep_tio : (nonceKeep g s).tio = s.tio := rfl
@[simp] theorem nonceKeep_can : (nonceKeep g s).can = s.can := rfl
@[simp] theorem nonceKeep_alp : (nonceKeep g s).alp = s.alp := rfl
@[simp] theorem nonceKeep_mem : (nonceKeep g s).mem = s.mem := rfl
@[simp] theorem nonceKeep_out : (nonceKeep g s).out = s.out := rfl
@[simp] theorem nonceKeep_free : (nonceKeep g s).free = s.free := rfl
@[simp] theorem nonceKeep_pending : (nonceKeep g s).pending = s.pending := rfl
end

section
variable (p : PendCmd) (s : State)
@[simp] theorem pushPend_gt : (pushPend p s).gt = s.gt := rfl
@[simp] theorem pushPend_gtFrac : (pushPend p s).gtFrac = s.gtFrac := rfl
@[simp] theorem pushPend_clvPre : (pushPend p s).clvPre = s.clvPre := rfl
@[simp] theorem pushPend_nva : (pushPend p s).nva = s.nva := rfl
@[simp] theorem pushPend_mod : (pushPend p s).mod = s.mod := rfl
@[simp] theorem pushPend_hxp : (pushPend p s).hxp = s.hxp := rfl
@[simp] theorem pushPend_evr : (pushPend p s).evr = s.evr := rfl
@[simp] theorem pushPend_flt : (pushPend p s).flt = s.flt := rfl
@[simp] theorem pushPend_bst : (pushPend p s).bst = s.bst := rfl
@[simp] theorem pushPend_fwu : (pushPend p s).fwu = s.fwu := rfl
@[simp] theorem pushPend_gate : (pushPend p s).gate = s.gate := rfl
@[simp] theorem pushPend_clk : (pushPend p s).clk = s.clk := rfl
@[simp] theorem pushPend_hl : (pushPend p s).hl = s.hl := rfl
@[simp] theorem pushPend_con : (pushPend p s).con = s.con := rfl
@[simp] theorem pushPend_cyc : (pushPend p s).cyc = { s.cyc with pend := s.cyc.pend ++ [p] } := rfl
@[simp] theorem pushPend_chg : (pushPend p s).chg = s.chg := rfl
@[simp] theorem pushPend_nvb : (pushPend p s).nvb = s.nvb := rfl
@[simp] theorem pushPend_tim : (pushPend p s).tim = s.tim := rfl
@[simp] theorem pushPend_oxn : (pushPend p s).oxn = s.oxn := rfl
@[simp] theorem pushPend_ile : (pushPend p s).ile = s.ile := rfl
@[simp] theorem pushPend_plv : (pushPend p s).plv = s.plv := rfl
@[simp] theorem pushPend_tio : (pushPend p s).tio = s.tio := rfl
@[simp] theorem pushPend_can : (pushPend p s).can = s.can := rfl
@[simp] theorem pushPend_alp : (pushPend p s).alp = s.alp := rfl
@[simp] theorem pushPend_mem : (pushPend p s).mem = s.mem := rfl
@[simp] theorem pushPend_out : (pushPend p s).out = s.out := rfl
@[simp] theorem pushPend_free : (pushPend p s).free = s.free := rfl
@[simp] theorem pushPend_pending : (pushPend p s).pending = s.pending := rfl
end

section
variable (c : Call) (op req : Nat) (body : Pend) (s : State)
@[simp] theorem await_gt : (await c op req body s).gt = s.gt := rfl
@[simp] theorem await_gtFrac : (await c op req body s).gtFrac = s.gtFrac := rfl
@[simp] theorem await_clvPre : (await c op req body s).clvPre = s.clvPre := rfl
@[simp] theorem await_nva : (await c op req body s).nva = s.nva := rfl
@[simp] theorem await_mod : (await c op req body s).mod = s.mod := rfl
@[simp] theorem await_hxp : (await c op req body s).hxp = s.hxp := rfl
@[simp] theorem await_evr : (await c op req body s).evr = s.evr := rfl
@[simp] theorem await_flt : (await c op req body s).flt = s.flt := rfl
@[simp] theorem await_bst : (await c op req body s).bst = s.bst := rfl
@[simp] theorem await_fwu : (await c op req body s).fwu = s.fwu := rfl
@[simp] theorem await_gate : (await c op req body s).gate = s.gate := rfl
@[simp] theorem await_clk : (await c op req body s).clk = s.clk := rfl
@[simp] theorem await_hl : (await c op req body s).hl = s.hl := rfl
@[simp] theorem await_con : (await c op req body s).con = s.con := rfl
@[simp] theorem await_chg : (await c op req body s).chg = s.chg := rfl
@[simp] theorem await_nvb : (await c op req body s).nvb = s.nvb := rfl
@[simp] theorem await_tim : (await c op req body s).tim = s.tim := rfl
@[simp] theorem await_oxn : (await c op req body s).oxn = s.oxn := rfl
@[simp] theorem await_ile : (await c op req body s).ile = s.ile := rfl
@[simp] theorem await_plv : (await c op req body s).plv = s.plv := rfl
@[simp] theorem await_tio : (await c op req body s).tio = s.tio := rfl
@[simp] theorem await_can : (await c op req body s).can = s.can := rfl
@[simp] theorem await_alp : (await c op req body s).alp = s.alp := rfl
@[simp] theorem await_mem : (await c op req body s).mem = s.mem := rfl
@[simp] theorem await_out : (await c op req body s).out = s.out := rfl
@[simp] theorem await_free : (await c op req body s).free = s.free := rfl
@[simp] theorem await_pending : (await c op req body s).pending = s.pending := rfl
end

section
variable (kind : Nat) (s : State)
@[simp] theorem bgUnwant_gt : (bgUnwant kind s).gt = s.gt := rfl
@[simp] theorem bgUnwant_gtFrac : (bgUnwant kind s).gtFrac = s.gtFrac := rfl
@[simp] theorem bgUnwant_clvPre : (bgUnwant kind s).clvPre = s.clvPre := rfl
@[simp] theorem bgUnwant_nva : (bgUnwant kind s).nva = s.nva := rfl
@[simp] theorem bgUnwant_mod : (bgUnwant kind s).mod = s.mod := rfl
@[simp] theorem bgUnwant_hxp : (bgUnwant kind s).hxp = s.hxp := rfl
@[simp] theorem bgUnwant_evr : (bgUnwant kind s).evr = s.evr := rfl
@[simp] theorem bgUnwant_flt : (bgUnwant kind s).flt = s.flt := rfl
@[simp] theorem bgUnwant_bst : (bgUnwant kind s).bst = s.bst := rfl
@[simp] theorem bgUnwant_fwu : (bgUnwant kind s).fwu = s.fwu := rfl
@[simp] theorem bgUnwant_gate : (bgUnwant kind s).gate = s.gate := rfl
@[simp] theorem bgUnwant_clk : (bgUnwant kind s).clk = s.clk := rfl
@[simp] theorem bgUnwant_hl : (bgUnwant kind s).hl = { s.hl with bgWait := Tab.erase s.hl.bgWait kind } := rfl
@[simp] theorem bgUnwant_con : (bgUnwant kind s).con = s.con := rfl
@[simp] theorem bgUnwant_cyc : (bgUnwant kind s).cyc = s.cyc := rfl
@[simp] theorem bgUnwant_chg : (bgUnwant kind s).chg = s.chg := rfl
@[simp] theorem bgUnwant_nvb : (bgUnwant kind s).nvb = s.nvb := rfl
@[simp] theorem bgUnwant_tim : (bgUnwant kind s).tim = s.tim := rfl
@[simp] theorem bgUnwant_oxn : (bgUnwant kind s).oxn = s.oxn := rfl
@[simp] theorem bgUnwant_ile : (bgUnwant kind s).ile = s.ile := rfl
@[simp] theorem bgUnwant_plv : (bgUnwant kind s).plv = s.plv := rfl
@[simp] theorem bgUnwant_tio : (bgUnwant kind s).tio = s.tio := rfl
@[simp] theorem bgUnwant_can : (bgUnwant kind s).can = s.can := rfl
@[simp] theorem bgUnwant_alp : (bgUnwant kind s).alp = s.alp := rfl
@[simp] theorem bgUnwant_mem : (bgUnwant kind s).mem = s.mem := rfl
@[simp] theorem bgUnwant_out : (bgUnwant kind s).out = s.out := rfl
@[simp] theorem bgUnwant_free : (bgUnwant kind s).free = s.free := rfl
@[simp] theorem bgUnwant_pending : (bgUnwant kind s).pending = s.pending := rfl
end

section
variable (n : Nat) (f : Gate → Gate) (s : State)
@[simp] theorem updGate_gt : (updGate n f s).gt = s.gt := rfl
@[simp] theorem updGate_gtFrac : (updGate n f s).gtFrac = s.gtFrac := rfl
@[simp] theorem updGate_clvPre : (updGate n f s).clvPre = s.clvPre := rfl
@[simp] theorem updGate_nva : (updGate n f s).nva = s.nva := rfl
@[simp] theorem updGate_mod : (updGate n f s).mod = s.mod := rfl
@[simp] theorem updGate_hxp : (updGate n f s).hxp = s.hxp := rfl
@[simp] theorem updGate_evr : (updGate n f s).evr = s.evr := rfl
@[simp] theorem updGate_flt : (updGate n f s).flt = s.flt := rfl
@[simp] theorem updGate_bst : (updGate n f s).bst = s.bst := rfl
@[simp] theorem updGate_fwu : (updGate n f s).fwu = s.fwu := rfl
@[simp] theorem updGate_clk : (updGate n f s).clk = s.clk := rfl
@[simp] theorem updGate_hl : (updGate n f s).hl = s.hl := rfl
@[simp] theorem updGate_con : (updGate n f s).con = s.con := rfl
@[simp] theorem updGate_cyc : (updGate n f s).cyc = s.cyc := rfl
@[simp] theorem updGate_chg : (updGate n f s).chg = s.chg := rfl
@[simp] theorem updGate_nvb : (updGate n f s).nvb = s.nvb := rfl
@[simp] theorem updGate_tim : (updGate n f s).tim = s.tim := rfl
@[simp] theorem updGate_oxn : (updGate n f s).oxn = s.oxn := rfl
@[simp] theorem updGate_ile : (updGate n f s).ile = s.ile := rfl
@[simp] theorem updGate_plv : (updGate n f s).plv = s.plv := rfl
@[simp] theorem updGate_tio : (updGate n f s).tio = s.tio := rfl
@[simp] theorem updGate_can : (updGate n f s).can = s.can := rfl
@[simp] theorem updGate_alp : (updGate n f s).alp = s.alp := rfl
@[simp] theorem updGate_mem : (updGate n f s).mem = s.mem := rfl
@[simp] theorem updGate_out : (updGate n f s).out = s.out := rfl
@[simp] theorem updGate_free : (updGate n f s).free = s.free := rfl
@[simp] theorem updGate_pending : (updGate n f s).pending = s.pending := rfl
end

section
variable (x : Nat) (f : AlChS → AlChS) (s : State)
@[simp] theorem updAl_gt : (updAl x f s).gt = s.gt := rfl
@[simp] theorem updAl_gtFrac : (updAl x f s).gtFrac = s.gtFrac := rfl
@[simp] theorem updAl_clvPre : (updAl x f s).clvPre = s.clvPre := rfl
@[simp] theorem updAl_nva : (updAl x f s).nva = s.nva := rfl
@[simp] theorem updAl_mod : (updAl x f s).mod = s.mod := rfl
@[simp] theorem updAl_hxp : (updAl x f s).hxp = s.hxp := rfl
@[simp] theorem updAl_evr : (updAl x f s).evr = s.evr := rfl
@[simp] theorem updAl_flt : (updAl x f s).flt = s.flt := rfl
@[simp] theorem updAl_bst : (updAl x f s).bst = s.bst := rfl
@[simp] theorem updAl_fwu : (updAl x f s).fwu = s.fwu := rfl
@[simp] theorem updAl_gate : (updAl x f s).gate = s.gate := rfl
@[simp] theorem updAl_clk : (updAl x f s).clk = s.clk := rfl
@[simp] theorem updAl_hl : (updAl x f s).hl = s.hl := rfl
@[simp] theorem updAl_con : (updAl x f s).con = s.con := rfl
@[simp] theorem updAl_cyc : (updAl x f s).cyc = s.cyc := rfl
@[simp] theorem updAl_chg : (updAl x f s).chg = s.chg := rfl
@[simp] theorem updAl_nvb : (updAl x f s).nvb = s.nvb := rfl
@[simp] theorem updAl_tim : (updAl x f s).tim = s.tim := rfl
@[simp] theorem updAl_oxn : (updAl x f s).oxn = s.oxn := rfl
@[simp] theorem updAl_ile : (updAl x f s).ile = s.ile := rfl
@[simp] theorem updAl_plv : (updAl x f s).plv = s.plv := rfl
@[simp] theorem updAl_tio : (updAl x f s).tio = s.tio := rfl
@[simp] theorem updAl_can : (updAl x f s).can = s.can := rfl
@[simp] theorem updAl_mem : (updAl x f s).mem = s.mem := rfl
@[simp] theorem updAl_out : (updAl x f s).out = s.out := rfl
@[simp] theorem updAl_free : (updAl x f s).free = s.free := rfl
@[simp] theorem updAl_pending : (updAl x f s).pending = s.pending := rfl
end

section
variable (x : Nat) (f : CanPortS → CanPortS) (s : State)
@[simp] theorem updCan_gt : (updCan x f s).gt = s.gt := rfl
@[simp] theorem updCan_gtFrac : (updCan x f s).gtFrac = s.gtFrac := rfl
@[simp] theorem updCan_clvPre : (updCan x f s).clvPre = s.clvPre := rfl
@[simp] theorem updCan_nva : (updCan x f s).nva = s.nva := rfl
@[simp] theorem updCan_mod : (updCan x f s).mod = s.mod := rfl
@[simp] theorem updCan_hxp : (updCan x f s).hxp = s.hxp := rfl
@[simp] theorem updCan_evr : (updCan x f s).evr = s.evr := rfl
@[simp] theorem updCan_flt : (updCan x f s).flt = s.flt := rfl
@[simp] theorem updCan_bst : (updCan x f s).bst = s.bst := rfl
@[simp] theorem updCan_fwu : (updCan x f s).fwu = s.fwu := rfl
@[simp] theorem updCan_gate : (updCan x f s).gate = s.gate := rfl
@[simp] theorem updCan_clk : (updCan x f s).clk = s.clk := rfl
@[simp] theorem updCan_hl : (updCan x f s).hl = s.hl := rfl
@[simp] theorem updCan_con : (updCan x f s).con = s.con := rfl
@[simp] theorem updCan_cyc : (updCan x f s).cyc = s.cyc := rfl
@[simp] theorem updCan_chg : (updCan x f s).chg = s.chg := rfl
@[simp] theorem updCan_nvb : (updCan x f s).nvb = s.nvb := rfl
@[simp] theorem updCan_tim : (updCan x f s).tim = s.tim := rfl
@[simp] theorem updCan_oxn : (updCan x f s).oxn = s.oxn := rfl
@[simp] theorem updCan_ile : (updCan x f s).ile = s.ile := rfl
@[simp] theorem updCan_plv : (updCan x f s).plv = s.plv := rfl
@[simp] theorem updCan_tio : (updCan x f s).tio = s.tio := rfl
@[simp] theorem updCan_alp : (updCan x f s).alp = s.alp := rfl
@[simp] theorem updCan_mem : (updCan x f s).mem = s.mem := rfl
@[simp] theorem updCan_out : (updCan x f s).out = s.out := rfl
@[simp] theorem updCan_free : (updCan x f s).free = s.free := rfl
@[simp] theorem updCan_pending : (updCan x f s).pending = s.pending := rfl
end

section
variable (q : Nat) (f : TqS → TqS) (s : State)
@[simp] theorem updTq_gt : (updTq q f s).gt = s.gt := rfl
@[simp] theorem updTq_gtFrac : (updTq q f s).gtFrac = s.gtFrac := rfl
@[simp] theorem updTq_clvPre : (updTq q f s).clvPre = s.clvPre := rfl
@[simp] theorem updTq_nva : (updTq q f s).nva = s.nva := rfl
@[simp] theorem updTq_mod : (updTq q f s).mod = s.mod := rfl
@[simp] theorem updTq_hxp : (updTq q f s).hxp = s.hxp := rfl
@[simp] theorem updTq_evr : (updTq q f s).evr = s.evr := rfl
@[simp] theorem updTq_flt : (updTq q f s).flt = s.flt := rfl
@[simp] theorem updTq_bst : (updTq q f s).bst = s.bst := rfl
@[simp] theorem updTq_fwu : (updTq q f s).fwu = s.fwu := rfl
@[simp] theorem updTq_gate : (updTq q f s).gate = s.gate := rfl
@[simp] theorem updTq_clk : (updTq q f s).clk = s.clk := rfl
@[simp] theorem updTq_hl : (updTq q f s).hl = s.hl := rfl
@[simp] theorem updTq_con : (updTq q f s).con = s.con := rfl
@[simp] theorem updTq_cyc : (updTq q f s).cyc = s.cyc := rfl
@[simp] theorem updTq_chg : (updTq q f s).chg = s.chg := rfl
@[simp] theorem updTq_nvb : (updTq q f s).nvb = s.nvb := rfl
@[simp] theorem updTq_tim : (updTq q f s).tim = s.tim := rfl
@[simp] theorem updTq_oxn : (updTq q f s).oxn = s.oxn := rfl
@[simp] theorem updTq_ile : (updTq q f s).ile = s.ile := rfl
@[simp] theorem updTq_plv : (updTq q f s).plv = s.plv := rfl
@[simp] theorem updTq_can : (updTq q f s).can = s.can := rfl
@[simp] theorem updTq_alp : (updTq q f s).alp = s.alp := rfl
@[simp] theorem updTq_mem : (updTq q f s).mem = s.mem := rfl
@[simp] theorem updTq_out : (updTq q f s).out = s.out := rfl
@[simp] theorem updTq_free : (updTq q f s).free = s.free := rfl
@[simp] theorem updTq_pending : (updTq q f s).pending = s.pending := rfl
end

section
variable (i : Nat) (f : TiS → TiS) (s : State)
@[simp] theorem updTi_gt : (updTi i f s).gt = s.gt := rfl
@[simp] theorem updTi_gtFrac : (updTi i f s).gtFrac = s.gtFrac := rfl
@[simp] theorem updTi_clvPre : (updTi i f s).clvPre = s.clvPre := rfl
@[simp] theorem updTi_nva : (updTi i f s).nva = s.nva := rfl
@[simp] theorem updTi_mod : (updTi i f s).mod = s.mod := rfl
@[simp] theorem updTi_hxp : (updTi i f s).hxp = s.hxp := rfl
@[simp] theorem updTi_evr : (updTi i f s).evr = s.evr := rfl
@[simp] theorem updTi_flt : (updTi i f s).flt = s.flt := rfl
@[simp] theorem updTi_bst : (updTi i f s).bst = s.bst := rfl
@[simp] theorem updTi_fwu : (updTi i f s).fwu = s.fwu := rfl
@[simp] theorem updTi_gate : (updTi i f s).gate = s.gate := rfl
@[simp] theorem updTi_clk : (updTi i f s).clk = s.clk := rfl
@[simp] theorem updTi_hl : (updTi i f s).hl = s.hl := rfl
@[simp] theorem updTi_con : (updTi i f s).con = s.con := rfl
@[simp] theorem updTi_cyc : (updTi i f s).cyc = s.cyc := rfl
@[simp] theorem updTi_chg : (updTi i f s).chg = s.chg := rfl
@[simp] theorem updTi_nvb : (updTi i f s).nvb = s.nvb := rfl
@[simp] theorem updTi_tim : (updTi i f s).tim = s.tim := rfl
@[simp] theorem updTi_oxn : (updTi i f s).oxn = s.oxn := rfl
@[simp] theorem updTi_ile : (updTi i f s).ile = s.ile := rfl
@[simp] theorem updTi_plv : (updTi i f s).plv = s.plv := rfl
@[simp] theorem updTi_can : (updTi i f s).can = s.can := rfl
@[simp] theorem updTi_alp : (updTi i f s).alp = s.alp := rfl
@[simp] theorem updTi_mem : (updTi i f s).mem = s.mem := rfl
@[simp] theorem updTi_out : (updTi i f s).out = s.out := rfl
@[simp] theorem updTi_free : (updTi i f s).free = s.free := rfl
@[simp] theorem updTi_pending : (updTi i f s).pending = s.pending := rfl
end

section
variable (g : Nat) (f : FsS → FsS) (s : State)
@[simp] theorem updFs_gt : (updFs g f s).gt = s.gt := rfl
@[simp] theorem updFs_gtFrac : (updFs g f s).gtFrac = s.gtFrac := rfl
@[simp] theorem updFs_clvPre : (updFs g f s).clvPre = s.clvPre := rfl
@[simp] theorem updFs_nva : (updFs g f s).nva = s.nva := rfl
@[simp] theorem updFs_mod : (updFs g f s).mod = s.mod := rfl
@[simp] theorem updFs_hxp : (updFs g f s).hxp = s.hxp := rfl
@[simp] theorem updFs_evr : (updFs g f s).evr = s.evr := rfl
@[simp] theorem updFs_flt : (updFs g f s).flt = s.flt := rfl
@[simp] theorem updFs_bst : (updFs g f s).bst = s.bst := rfl
@[simp] theorem updFs_fwu : (updFs g f s).fwu = s.fwu := rfl
@[simp] theorem updFs_gate : (updFs g f s).gate = s.gate := rfl
@[simp] theorem updFs_clk : (updFs g f s).clk = s.clk := rfl
@[simp] theorem updFs_hl : (updFs g f s).hl = s.hl := rfl
@[simp] theorem updFs_con : (updFs g f s).con = s.con := rfl
@[simp] theorem updFs_cyc : (updFs g f s).cyc = s.cyc := rfl
@[simp] theorem updFs_chg : (updFs g f s).chg = s.chg := rfl
@[simp] theorem updFs_nvb : (updFs g f s).nvb = s.nvb := rfl
@[simp] theorem updFs_tim : (updFs g f s).tim = s.tim := rfl
@[simp] theorem updFs_oxn : (updFs g f s).oxn = s.oxn := rfl
@[simp] theorem updFs_ile : (updFs g f s).ile = s.ile := rfl
@[simp] theorem updFs_plv : (updFs g f s).plv = s.plv := rfl
@[simp] theorem updFs_can : (updFs g f s).can = s.can := rfl
@[simp] theorem updFs_alp : (updFs g f s).alp = s.alp := rfl
@[simp] theorem updFs_mem : (updFs g f s).mem = s.mem := rfl
@[simp] theorem updFs_out : (updFs g f s).out = s.out := rfl
@[simp] theorem updFs_free : (updFs g f s).free = s.free := rfl
@[simp] theorem updFs_pending : (updFs g f s).pending = s.pending := rfl
end

section
variable (p : Nat) (f : PortS → PortS) (s : State)
@[simp] theorem updPort_gt : (updPort p f s).gt = s.gt := rfl
@[simp] theorem updPort_gtFrac : (updPort p f s).gtFrac = s.gtFrac := rfl
@[simp] theorem updPort_clvPre : (updPort p f s).clvPre = s.clvPre := rfl
@[simp] theorem updPort_nva : (updPort p f s).nva = s.nva := rfl
@[simp] theorem updPort_mod : (updPort p f s).mod = s.mod := rfl
@[simp] theorem updPort_hxp : (updPort p f s).hxp = s.hxp := rfl
@[simp] theorem updPort_evr : (updPort p f s).evr = s.evr := rfl
@[simp] theorem updPort_flt : (updPort p f s).flt = s.flt := rfl
@[simp] theorem updPort_bst : (updPort p f s).bst = s.bst := rfl
@[simp] theorem updPort_fwu : (updPort p f s).fwu = s.fwu := rfl
@[simp] theorem updPort_gate : (updPort p f s).gate = s.gate := rfl
@[simp] theorem updPort_clk : (updPort p f s).clk = s.clk := rfl
@[simp] theorem updPort_hl : (updPort p f s).hl = s.hl := rfl
@[simp] theorem updPort_con : (updPort p f s).con = s.con := rfl
@[simp] theorem updPort_cyc : (updPort p f s).cyc = s.cyc := rfl
@[simp] theorem updPort_chg : (updPort p f s).chg = s.chg := rfl
@[simp] theorem updPort_nvb : (updPort p f s).nvb = s.nvb := rfl
@[simp] theorem updPort_tim : (updPort p f s).tim = s.tim := rfl
@[simp] theorem updPort_oxn : (updPort p f s).oxn = s.oxn := rfl
@[simp] theorem updPort_ile : (updPort p f s).ile = s.ile := rfl
@[simp] theorem updPort_tio : (updPort p f s).tio = s.tio := rfl
@[simp] theorem updPort_can : (updPort p f s).can = s.can := rfl
@[simp] theorem updPort_alp : (updPort p f s).alp = s.alp := rfl
@[simp] theorem updPort_mem : (updPort p f s).mem = s.mem := rfl
@[simp] theorem updPort_out : (updPort p f s).out = s.out := rfl
@[simp] theorem updPort_free : (updPort p f s).free = s.free := rfl
@[simp] theorem updPort_pending : (updPort p f s).pending = s.pending := rfl
end

section
variable (l : Lane) (f : LaneS → LaneS) (s : State)
@[simp] theorem updLane_gt : (updLane l f s).gt = s.gt := rfl
@[simp] theorem updLane_gtFrac : (updLane l f s).gtFrac = s.gtFrac := rfl
@[simp] theorem updLane_clvPre : (updLane l f s).clvPre = s.clvPre := rfl
@[simp] theorem updLane_nva : (updLane l f s).nva = s.nva := rfl
@[simp] theorem updLane_mod : (updLane l f s).mod = s.mod := rfl
@[simp] theorem updLane_hxp : (updLane l f s).hxp = s.hxp := rfl
@[simp] theorem updLane_evr : (updLane l f s).evr = s.evr := rfl
@[simp] theorem updLane_flt : (updLane l f s).flt = s.flt := rfl
@[simp] theorem updLane_bst : (updLane l f s).bst = s.bst := rfl
@[simp] theorem updLane_fwu : (updLane l f s).fwu = s.fwu := rfl
@[simp] theorem updLane_gate : (updLane l f s).gate = s.gate := rfl
@[simp] theorem updLane_clk : (updLane l f s).clk = s.clk := rfl
@[simp] theorem updLane_hl : (updLane l f s).hl = s.hl := rfl
@[simp] theorem updLane_con : (updLane l f s).con = s.con := rfl
@[simp] theorem updLane_cyc : (updLane l f s).cyc = s.cyc := rfl
@[simp] theorem updLane_chg : (updLane l f s).chg = s.chg := rfl
@[simp] theorem updLane_nvb : (updLane l f s).nvb = s.nvb := rfl
@[simp] theorem updLane_tim : (updLane l f s).tim = s.tim := rfl
@[simp] theorem updLane_oxn : (updLane l f s).oxn = s.oxn := rfl
@[simp] theorem updLane_plv : (updLane l f s).plv = s.plv := rfl
@[simp] theorem updLane_tio : (updLane l f s).tio = s.tio := rfl
@[simp] theorem updLane_can : (updLane l f s).can = s.can := rfl
@[simp] theorem updLane_alp : (updLane l f s).alp = s.alp := rfl
@[simp] theorem updLane_mem : (updLane l f s).mem = s.mem := rfl
@[simp] theorem updLane_out : (updLane l f s).out = s.out := rfl
@[simp] theorem updLane_free : (updLane l f s).free = s.free := rfl
@[simp] theorem updLane_pending : (updLane l f s).pending = s.pending := rfl
end

section
variable (c : Chan) (f : ChanS → ChanS) (s : State)
@[simp] theorem updChan_gt : (updChan c f s).gt = s.gt := by cases c <;> rfl
@[simp] theorem updChan_gtFrac : (updChan c f s).gtFrac = s.gtFrac := by cases c <;> rfl
@[simp] theorem updChan_clvPre : (updChan c f s).clvPre = s.clvPre := by cases c <;> rfl
@[simp] theorem updChan_nva : (updChan c f s).nva = s.nva := by cases c <;> rfl
@[simp] theorem updChan_mod : (updChan c f s).mod = s.mod := by cases c <;> rfl
@[simp] theorem updChan_hxp : (updChan c f s).hxp = s.hxp := by cases c <;> rfl
@[simp] theorem updChan_evr : (updChan c f s).evr = s.evr := by cases c <;> rfl
@[simp] theorem updChan_flt : (updChan c f s).flt = s.flt := by cases c <;> rfl
@[simp] theorem updChan_bst : (updChan c f s).bst = s.bst := by cases c <;> rfl
@[simp] theorem updChan_fwu : (updChan c f s).fwu = s.fwu := by cases c <;> rfl
@[simp] theorem updChan_gate : (updChan c f s).gate = s.gate := by cases c <;> rfl
@[simp] theorem updChan_clk : (updChan c f s).clk = s.clk := by cases c <;> rfl
@[simp] theorem updChan_hl : (updChan c f s).hl = s.hl := by cases c <;> rfl
@[simp] theorem updChan_con : (updChan c f s).con = s.con := by cases c <;> rfl
@[simp] theorem updChan_cyc : (updChan c f s).cyc = s.cyc := by cases c <;> rfl
@[simp] theorem updChan_chg : (updChan c f s).chg = s.chg := by cases c <;> rfl
@[simp] theorem updChan_nvb : (updChan c f s).nvb = s.nvb := by cases c <;> rfl
@[simp] theorem updChan_tim : (updChan c f s).tim = s.tim := by cases c <;> rfl
@[simp] theorem updChan_ile : (updChan c f s).ile = s.ile := by cases c <;> rfl
@[simp] theorem updChan_plv : (updChan c f s).plv = s.plv := by cases c <;> rfl
@[simp] theorem updChan_tio : (updChan c f s).tio = s.tio := by cases c <;> rfl
@[simp] theorem updChan_can : (updChan c f s).can = s.can := by cases c <;> rfl
@[simp] theorem updChan_alp : (updChan c f s).alp = s.alp := by cases c <;> rfl
@[simp] theorem updChan_mem : (updChan c f s).mem = s.mem := by cases c <;> rfl
@[simp] theorem updChan_out : (updChan c f s).out = s.out := by cases c <;> rfl
@[simp] theorem updChan_free : (updChan c f s).free = s.free := by cases c <;> rfl
@[simp] theorem updChan_pending : (updChan c f s).pending = s.pending := by cases c <;> rfl
end

section
variable (b : Nat) (f : ImgSlot → ImgSlot) (s : State)
@[simp] theorem updSlot_gt : (updSlot b f s).gt = s.gt := by simp only [updSlot]; split <;> rfl
@[simp] theorem updSlot_gtFrac : (updSlot b f s).gtFrac = s.gtFrac := by simp only [updSlot]; split <;> rfl
@[simp] theorem updSlot_clvPre : (updSlot b f s).clvPre = s.clvPre := by simp only [updSlot]; split <;> rfl
@[simp] theorem updSlot_mod : (updSlot b f s).mod = s.mod := by simp only [updSlot]; split <;> rfl
@[simp] theorem updSlot_hxp : (updSlot b f s).hxp = s.hxp := by simp only [updSlot]; split <;> rfl
@[simp] theorem updSlot_evr : (updSlot b f s).evr = s.evr := by simp only [updSlot]; split <;> rfl
@[simp] theorem updSlot_flt : (updSlot b f s).flt = s.flt := by simp only [updSlot]; split <;> rfl
@[simp] theorem updSlot_bst : (updSlot b f s).bst = s.bst := by simp only [updSlot]; split <;> rfl
@[simp] theorem updSlot_fwu : (updSlot b f s).fwu = s.fwu := by simp only [updSlot]; split <;> rfl
@[simp] theorem updSlot_gate : (updSlot b f s).gate = s.gate := by simp only [updSlot]; split <;> rfl
@[simp] theorem updSlot_clk : (updSlot b f s).clk = s.clk := by simp only [updSlot]; split <;> rfl
@[simp] theorem updSlot_hl : (updSlot b f s).hl = s.hl := by simp only [updSlot]; split <;> rfl
@[simp] theorem updSlot_con : (updSlot b f s).con = s.con := by simp only [updSlot]; split <;> rfl
@[simp] theorem updSlot_cyc : (updSlot b f s).cyc = s.cyc := by simp only [updSlot]; split <;> rfl
@[simp] theorem updSlot_chg : (updSlot b f s).chg = s.chg := by simp only [updSlot]; split <;> rfl
@[simp] theorem updSlot_nvb : (updSlot b f s).nvb = s.nvb := by simp only [updSlot]; split <;> rfl
@[simp] theorem updSlot_tim : (updSlot b f s).tim = s.tim := by simp only [updSlot]; split <;> rfl
@[simp] theorem updSlot_oxn : (updSlot b f s).oxn = s.oxn := by simp only [updSlot]; split <;> rfl
@[simp] theorem updSlot_ile : (updSlot b f s).ile = s.ile := by simp only [updSlot]; split <;> rfl
@[simp] theorem updSlot_plv : (updSlot b f s).plv = s.plv := by simp only [updSlot]; split <;> rfl
@[simp] theorem updSlot_tio : (updSlot b f s).tio = s.tio := by simp only [updSlot]; split <;> rfl
@[simp] theorem updSlot_can : (updSlot b f s).can = s.can := by simp only [updSlot]; split <;> rfl
@[simp] theorem updSlot_alp : (updSlot b f s).alp = s.alp := by simp only [updSlot]; split <;> rfl
@[simp] theorem updSlot_mem : (updSlot b f s).mem = s.mem := by simp only [updSlot]; split <;> rfl
@[simp] theorem updSlot_out : (updSlot b f s).out = s.out := by simp only [updSlot]; split <;> rfl
@[simp] theorem updSlot_free : (updSlot b f s).free = s.free := by simp only [updSlot]; split <;> rfl
@[simp] theorem updSlot_pending : (updSlot b f s).pending = s.pending := by simp only [updSlot]; split <;> rfl
end

end Sys2Proof.Machine
end

