-- ==== Sys2Proof/Laws/Stamp.lean ====
section
/-! SUPPORT. What does not read GT has the same value before and after a command's stamp. -/

namespace Sys2Proof.Machine

@[simp] theorem ownNode_atT (t : Nat) (s : State) : ownNode (atT t s) = ownNode s := rfl
@[simp] theorem gateOf_atT (t : Nat) (s : State) (n : Nat) : gateOf (atT t s) n = gateOf s n := rfl
@[simp] theorem isRetired_atT (t : Nat) (s : State) (u : UnitId) : isRetired (atT t s) u = isRetired s u := rfl
@[simp] theorem coalesceNs_atT (t : Nat) (s : State) : coalesceNs (atT t s) = coalesceNs s := rfl
@[simp] theorem vecOpen_atT (t : Nat) (s : State) (vec : Nat) : vecOpen (atT t s) vec = vecOpen s vec := rfl
@[simp] theorem ringOf_atT (t : Nat) (s : State) (n : Nat) : ringOf (atT t s) n = ringOf s n := rfl
@[simp] theorem unitSrc_atT (t : Nat) (s : State) : unitSrc (atT t s) = unitSrc s := rfl
@[simp] theorem bucket_atT (t : Nat) (s : State) (u : UnitId) : bucket (atT t s) u = bucket s u := rfl
@[simp] theorem blkClosed_atT (t : Nat) (s : State) (blk : Nat) : blkClosed (atT t s) blk = blkClosed s blk := rfl
@[simp] theorem blkShut_atT (t : Nat) (s : State) (blk : Nat) : blkShut (atT t s) blk = blkShut s blk := rfl
@[simp] theorem srcOf_atT (t : Nat) (s : State) (xb : Bool) : srcOf (atT t s) xb = srcOf s xb := rfl
@[simp] theorem srcGood_atT (t : Nat) (s : State) (xb : Bool) : srcGood (atT t s) xb = srcGood s xb := rfl
@[simp] theorem fircOnly_atT (t : Nat) (s : State) : fircOnly (atT t s) = fircOnly s := rfl
@[simp] theorem outEntry_atT (t : Nat) (s : State) (a : Nat) : outEntry (atT t s) a = outEntry s a := rfl
@[simp] theorem inEntry_atT (t : Nat) (s : State) (a : Nat) : inEntry (atT t s) a = inEntry s a := rfl
@[simp] theorem alCh_atT (t : Nat) (s : State) (x : Nat) : alCh (atT t s) x = alCh s x := rfl
@[simp] theorem alPar_atT (t : Nat) (s : State) (x : Nat) : alPar (atT t s) x = alPar s x := rfl
@[simp] theorem alDriver_atT (t : Nat) (s : State) : alDriver (atT t s) = alDriver s := rfl
@[simp] theorem alSafeNow_atT (t : Nat) (s : State) (x : Nat) : alSafeNow (atT t s) x = alSafeNow s x := rfl
@[simp] theorem alChReg_atT (t : Nat) (s : State) (x : Nat) : alChReg (atT t s) x = alChReg s x := rfl
@[simp] theorem alStatusPoint_atT (t : Nat) (s : State) (x : Nat) : alStatusPoint (atT t s) x = alStatusPoint s x := rfl
@[simp] theorem alRegsNow_atT (t : Nat) (s : State) : alRegsNow (atT t s) = alRegsNow s := rfl
@[simp] theorem alQual_atT (t : Nat) (s : State) (x : Nat) (isI : Bool) : alQual (atT t s) x isI = alQual s x isI := rfl
@[simp] theorem readAnalog_atT (t : Nat) (s : State) (x : Nat) : readAnalog (atT t s) x = readAnalog s x := rfl
@[simp] theorem alAtStart_atT (t : Nat) (s : State) (cn : Nat) (x : Nat) : alAtStart (atT t s) cn x = alAtStart s cn x := rfl
@[simp] theorem hartAnswer_atT (t : Nat) (s : State) (x : Nat) (cmd : Nat) : hartAnswer (atT t s) x cmd = hartAnswer s x cmd := rfl
@[simp] theorem hartQual_atT (t : Nat) (s : State) (x : Nat) (addr : Nat) : hartQual (atT t s) x addr = hartQual s x addr := rfl
@[simp] theorem tAllow_atT (t : Nat) (s : State) : tAllow (atT t s) = tAllow s := rfl
@[simp] theorem cellsIn_atT (t : Nat) (s : State) : cellsIn (atT t s) = cellsIn s := rfl
@[simp] theorem scanBound_atT (u : Nat) (s : State) (t : Nat) : scanBound (atT u s) t = scanBound s t := rfl
@[simp] theorem wantPair_atT (t : Nat) (s : State) : wantPair (atT t s) = wantPair s := rfl
@[simp] theorem boundNow_atT (u : Nat) (s : State) (t : Nat) : boundNow (atT u s) t = boundNow s t := rfl
@[simp] theorem boundOver_atT (u : Nat) (s : State) (t : Nat) (limitNs : Nat) : boundOver (atT u s) t limitNs = boundOver s t limitNs := rfl
@[simp] theorem checkGranule_atT (t : Nat) (s : State) (n : Nat) (a : Access) (granule : Nat) : checkGranule (atT t s) n a granule = checkGranule s n a granule := rfl
@[simp] theorem gateCheck_atT (t : Nat) (s : State) (n : Nat) (a : Access) : gateCheck (atT t s) n a = gateCheck s n a := rfl
@[simp] theorem marched_atT (t : Nat) (s : State) (a : Nat) : marched (atT t s) a = marched s a := rfl
@[simp] theorem codeUnder_atT (t : Nat) (s : State) (a : Nat) : codeUnder (atT t s) a = codeUnder s a := rfl
@[simp] theorem isolated_atT (t : Nat) (s : State) (a : Access) : isolated (atT t s) a = isolated s a := rfl
@[simp] theorem targetShut_atT (t : Nat) (s : State) (n : Nat) : targetShut (atT t s) n = targetShut s n := rfl
@[simp] theorem allArmed_atT (t : Nat) (s : State) : allArmed (atT t s) = allArmed s := rfl
@[simp] theorem unlockLegal_atT (t : Nat) (s : State) : unlockLegal (atT t s) = unlockLegal s := rfl
@[simp] theorem gateReg1_atT (t : Nat) (s : State) (n : Nat) (off : Nat) : gateReg1 (atT t s) n off = gateReg1 s n off := rfl
@[simp] theorem gateReg_atT (t : Nat) (s : State) (off : Nat) : gateReg (atT t s) off = gateReg s off := rfl
@[simp] theorem canPort_atT (t : Nat) (s : State) (x : Nat) : canPort (atT t s) x = canPort s x := rfl
@[simp] theorem canPar_atT (t : Nat) (s : State) (x : Nat) : canPar (atT t s) x = canPar s x := rfl
@[simp] theorem canDriver_atT (t : Nat) (s : State) : canDriver (atT t s) = canDriver s := rfl
@[simp] theorem canLive_atT (t : Nat) (s : State) (x : Nat) : canLive (atT t s) x = canLive s x := rfl
@[simp] theorem canBegun_atT (t : Nat) (s : State) (x : Nat) : canBegun (atT t s) x = canBegun s x := rfl
@[simp] theorem canErrState_atT (t : Nat) (s : State) (x : Nat) : canErrState (atT t s) x = canErrState s x := rfl
@[simp] theorem canStatusPoint_atT (t : Nat) (s : State) (x : Nat) : canStatusPoint (atT t s) x = canStatusPoint s x := rfl
@[simp] theorem canQual_atT (t : Nat) (s : State) (x : Nat) (addr : Nat) (noComm : Nat) (retired : Nat) : canQual (atT t s) x addr noComm retired = canQual s x addr noComm retired := rfl
@[simp] theorem canRegsNow_atT (t : Nat) (s : State) : canRegsNow (atT t s) = canRegsNow s := rfl
@[simp] theorem tiOf_atT (t : Nat) (s : State) (i : Nat) : tiOf (atT t s) i = tiOf s i := rfl
@[simp] theorem tqOf_atT (t : Nat) (s : State) (q : Nat) : tqOf (atT t s) q = tqOf s q := rfl
@[simp] theorem tpOf_atT (t : Nat) (s : State) (p : Nat) : tpOf (atT t s) p = tpOf s p := rfl
@[simp] theorem fsOf_atT (t : Nat) (s : State) (g : Nat) : fsOf (atT t s) g = fsOf s g := rfl
@[simp] theorem tioDriver_atT (t : Nat) (s : State) : tioDriver (atT t s) = tioDriver s := rfl
@[simp] theorem tioDriving_atT (t : Nat) (s : State) : tioDriving (atT t s) = tioDriving s := rfl
@[simp] theorem tioLoaded_atT (t : Nat) (s : State) : tioLoaded (atT t s) = tioLoaded s := rfl
@[simp] theorem tiLevel_atT (t : Nat) (s : State) (i : Nat) : tiLevel (atT t s) i = tiLevel s i := rfl
@[simp] theorem tiBadFault_atT (t : Nat) (s : State) (i : Nat) : tiBadFault (atT t s) i = tiBadFault s i := rfl
@[simp] theorem tiQual_atT (t : Nat) (s : State) (i : Nat) : tiQual (atT t s) i = tiQual s i := rfl
@[simp] theorem tiVal_atT (t : Nat) (s : State) (i : Nat) : tiVal (atT t s) i = tiVal s i := rfl
@[simp] theorem pairDemand_atT (t : Nat) (s : State) (j : Nat) : pairDemand (atT t s) j = pairDemand s j := rfl
@[simp] theorem tqDemand_atT (t : Nat) (s : State) (q : Nat) : tqDemand (atT t s) q = tqDemand s q := rfl
@[simp] theorem tiReading_atT (t : Nat) (s : State) (i : Nat) : tiReading (atT t s) i = tiReading s i := rfl
@[simp] theorem tiAtStart_atT (t : Nat) (s : State) (cn : Nat) (i : Nat) : tiAtStart (atT t s) cn i = tiAtStart s cn i := rfl
@[simp] theorem tqEnergised_atT (t : Nat) (s : State) (q : Nat) : tqEnergised (atT t s) q = tqEnergised s q := rfl
@[simp] theorem tqGone_atT (t : Nat) (s : State) (q : Nat) (code : Nat) : tqGone (atT t s) q code = tqGone s q code := rfl
@[simp] theorem tqPermit_atT (t : Nat) (s : State) (q : Nat) : tqPermit (atT t s) q = tqPermit s q := rfl
@[simp] theorem pairState_atT (t : Nat) (s : State) (j : Nat) : pairState (atT t s) j = pairState s j := rfl
@[simp] theorem fnStatus_atT (t : Nat) (s : State) : fnStatus (atT t s) = fnStatus s := rfl
@[simp] theorem tqQual_atT (t : Nat) (s : State) (q : Nat) : tqQual (atT t s) q = tqQual s q := rfl
@[simp] theorem tioRegsNow_atT (t : Nat) (s : State) : tioRegsNow (atT t s) = tioRegsNow s := rfl
@[simp] theorem overloads_atT (t : Nat) (s : State) (g : Nat) : overloads (atT t s) g = overloads s g := rfl
@[simp] theorem darkPartner_atT (t : Nat) (s : State) (q : Nat) (prior : Nat) (m : DarkMeas) : darkPartner (atT t s) q prior m = darkPartner s q prior m := rfl
@[simp] theorem carriedPaths_atT (t : Nat) (s : State) : carriedPaths (atT t s) = carriedPaths s := rfl
@[simp] theorem genCur_atT (t : Nat) (s : State) : genCur (atT t s) = genCur s := rfl
@[simp] theorem genStaged_atT (t : Nat) (s : State) : genStaged (atT t s) = genStaged s := rfl
@[simp] theorem genPrev_atT (t : Nat) (s : State) : genPrev (atT t s) = genPrev s := rfl
@[simp] theorem genHighPair_atT (t : Nat) (s : State) : genHighPair (atT t s) = genHighPair s := rfl
@[simp] theorem changeRecord_atT (t : Nat) (s : State) : changeRecord (atT t s) = changeRecord s := rfl
@[simp] theorem retiredChange_atT (t : Nat) (s : State) : retiredChange (atT t s) = retiredChange s := rfl
@[simp] theorem pcieRead_atT (t : Nat) (s : State) (i : Nat) : pcieRead (atT t s) i = pcieRead s i := rfl
@[simp] theorem bar2Read_atT (t : Nat) (s : State) (off : Nat) : bar2Read (atT t s) off = bar2Read s off := rfl
@[simp] theorem fetchable_atT (t : Nat) (s : State) (n : Nat) : fetchable (atT t s) n = fetchable s n := rfl
@[simp] theorem pllOf_atT (t : Nat) (s : State) (n : Nat) : pllOf (atT t s) n = pllOf s n := rfl
@[simp] theorem refGood_atT (t : Nat) (s : State) : refGood (atT t s) = refGood s := rfl
@[simp] theorem pllWant_atT (t : Nat) (s : State) (n : Nat) : pllWant (atT t s) n = pllWant s n := rfl
@[simp] theorem muxNow_atT (t : Nat) (s : State) (dom : Nat) : muxNow (atT t s) dom = muxNow s dom := rfl
@[simp] theorem muxRuns_atT (t : Nat) (s : State) (dom : Nat) (i : MuxIn) : muxRuns (atT t s) dom i = muxRuns s dom i := rfl
@[simp] theorem pllFeeds_atT (t : Nat) (s : State) (n : Nat) : pllFeeds (atT t s) n = pllFeeds s n := rfl
@[simp] theorem muxHome_atT (t : Nat) (s : State) (dom : Nat) : muxHome (atT t s) dom = muxHome s dom := rfl
@[simp] theorem pllTakes_atT (t : Nat) (s : State) (n : Nat) : pllTakes (atT t s) n = pllTakes s n := rfl
@[simp] theorem isStm_atT (t : Nat) (s : State) : isStm (atT t s) = isStm s := rfl
@[simp] theorem settleNs_atT (t : Nat) (s : State) (xb : Bool) : settleNs (atT t s) xb = settleNs s xb := rfl
@[simp] theorem monHz_atT (t : Nat) (s : State) (sel : Nat) : monHz (atT t s) sel = monHz s sel := rfl
@[simp] theorem monDivNow_atT (t : Nat) (s : State) : monDivNow (atT t s) = monDivNow s := rfl
@[simp] theorem gateWaits_atT (t : Nat) (s : State) (blk : Nat) : gateWaits (atT t s) blk = gateWaits s blk := rfl
@[simp] theorem clkReg_atT (t : Nat) (s : State) : clkReg (atT t s) = clkReg s := rfl
@[simp] theorem mgtPayload_atT (t : Nat) (s : State) (ty : Nat) (len : Nat) (f : List Byte) : mgtPayload (atT t s) ty len f = mgtPayload s ty len f := rfl
@[simp] theorem bgBudget_atT (t : Nat) (s : State) : bgBudget (atT t s) = bgBudget s := rfl
@[simp] theorem bgAdmitOk_atT (t : Nat) (kind : Nat) (s : State) : bgAdmitOk kind (atT t s) = bgAdmitOk kind s := rfl
@[simp] theorem bgSliceUs_atT (t : Nat) (s : State) : bgSliceUs (atT t s) = bgSliceUs s := rfl
@[simp] theorem slewPpm_atT (t : Nat) (s : State) : slewPpm (atT t s) = slewPpm s := rfl
@[simp] theorem todEn_atT (t : Nat) (s : State) : todEn (atT t s) = todEn s := rfl
@[simp] theorem holdNow_atT (t : Nat) (s : State) : holdNow (atT t s) = holdNow s := rfl
@[simp] theorem firstEpoch_atT (t : Nat) (s : State) : firstEpoch (atT t s) = firstEpoch s := rfl
@[simp] theorem cloverStations_atT (t : Nat) (s : State) : cloverStations (atT t s) = cloverStations s := rfl
@[simp] theorem cloverEcho_atT (t : Nat) (s : State) (k : Nat) : cloverEcho (atT t s) k = cloverEcho s k := rfl
@[simp] theorem cloverAllIn_atT (t : Nat) (s : State) : cloverAllIn (atT t s) = cloverAllIn s := rfl
@[simp] theorem latchBarred_atT (t : Nat) (s : State) (src : Nat) : latchBarred (atT t s) src = latchBarred s src := rfl
@[simp] theorem srcRetired_atT (t : Nat) (s : State) (k : Nat × Nat × Nat × Nat) : srcRetired (atT t s) k = srcRetired s k := rfl
@[simp] theorem stationLatched_atT (t : Nat) (s : State) : stationLatched (atT t s) = stationLatched s := rfl
@[simp] theorem clvEntries_atT (t : Nat) (s : State) : clvEntries (atT t s) = clvEntries s := rfl
@[simp] theorem clvCounts_atT (t : Nat) (s : State) : clvCounts (atT t s) = clvCounts s := rfl
@[simp] theorem clvHeader_atT (t : Nat) (s : State) : clvHeader (atT t s) = clvHeader s := rfl
@[simp] theorem chanOf_atT (t : Nat) (s : State) : chanOf (atT t s) = chanOf s := rfl
@[simp] theorem chRetired_atT (t : Nat) (s : State) (c : Chan) : chRetired (atT t s) c = chRetired s c := rfl
@[simp] theorem netUp_atT (t : Nat) (s : State) : netUp (atT t s) = netUp s := rfl
@[simp] theorem joins_atT (t : Nat) (s : State) : joins (atT t s) = joins s := rfl
@[simp] theorem keepsCycle_atT (t : Nat) (s : State) : keepsCycle (atT t s) = keepsCycle s := rfl
@[simp] theorem runGen_atT (t : Nat) (s : State) : runGen (atT t s) = runGen s := rfl
@[simp] theorem planSched_atT (t : Nat) (s : State) : planSched (atT t s) = planSched s := rfl
@[simp] theorem tOcNs_atT (t : Nat) (s : State) : tOcNs (atT t s) = tOcNs s := rfl
@[simp] theorem nitNs_atT (t : Nat) (s : State) : nitNs (atT t s) = nitNs s := rfl
@[simp] theorem syncNodes_atT (t : Nat) (s : State) : syncNodes (atT t s) = syncNodes s := rfl
@[simp] theorem rankOf_atT (t : Nat) (s : State) (node : Nat) : rankOf (atT t s) node = rankOf s node := rfl
@[simp] theorem rxCtx_atT (t : Nat) (s : State) : rxCtx (atT t s) = rxCtx s := rfl
@[simp] theorem slotAt_atT (t : Nat) (s : State) (c : Chan) (slot : Nat) : slotAt (atT t s) c slot = slotAt s c slot := rfl
@[simp] theorem packsOf_atT (t : Nat) (s : State) (c : Chan) (slot : Nat) : packsOf (atT t s) c slot = packsOf s c slot := rfl
@[simp] theorem delayOf_atT (t : Nat) (s : State) (node : Nat) (c : Chan) : delayOf (atT t s) node c = delayOf s node c := rfl
@[simp] theorem frameOk_atT (t : Nat) (s : State) (f : RxFrame) : frameOk (atT t s) f = frameOk s f := rfl
@[simp] theorem slotEnd_atT (t : Nat) (s : State) (e : SlotEntry) : slotEnd (atT t s) e = slotEnd s e := rfl
@[simp] theorem hears_atT (t : Nat) (s : State) (c : Chan) : hears (atT t s) c = hears s c := rfl
@[simp] theorem looksValid_atT (t : Nat) (s : State) (f : RxFrame) : looksValid (atT t s) f = looksValid s f := rfl
@[simp] theorem genByNum_atT (t : Nat) (s : State) (n : Nat) : genByNum (atT t s) n = genByNum s n := rfl
@[simp] theorem txField_atT (t : Nat) (s : State) (addr : Nat) : txField (atT t s) addr = txField s addr := rfl
@[simp] theorem dataPayload_atT (t : Nat) (s : State) (es : List PackEntry) (len : Nat) : dataPayload (atT t s) es len = dataPayload s es len := rfl
@[simp] theorem rxConns_atT (t : Nat) (s : State) : rxConns (atT t s) = rxConns s := rfl
@[simp] theorem connOf_atT (t : Nat) (s : State) (conn : Nat) : connOf (atT t s) conn = connOf s conn := rfl
@[simp] theorem connValid_atT (t : Nat) (s : State) (c : SafetyConn) : connValid (atT t s) c = connValid s c := rfl
@[simp] theorem stationConn_atT (t : Nat) (s : State) (node : Nat) : stationConn (atT t s) node = stationConn s node := rfl
@[simp] theorem drivenBy_atT (t : Nat) (s : State) (at_ : Nat) : drivenBy (atT t s) at_ = drivenBy s at_ := rfl
@[simp] theorem pairBits_atT (t : Nat) (s : State) (e : SlotEntry) (c : SafetyConn) : pairBits (atT t s) e c = pairBits s e c := rfl
@[simp] theorem pairPdu_atT (t : Nat) (s : State) (e : SlotEntry) (c : SafetyConn) : pairPdu (atT t s) e c = pairPdu s e c := rfl
@[simp] theorem selfOk_atT (t : Nat) (s : State) : selfOk (atT t s) = selfOk s := rfl
@[simp] theorem srcState_atT (t : Nat) (s : State) : srcState (atT t s) = srcState s := rfl
@[simp] theorem voteBits_atT (t : Nat) (s : State) : voteBits (atT t s) = voteBits s := rfl
@[simp] theorem syncPayload_atT (t : Nat) (s : State) : syncPayload (atT t s) = syncPayload s := rfl
@[simp] theorem frameBytes_atT (t : Nat) (s : State) (c : Chan) (e : SlotEntry) (ftype : Nat) (flags : Nat) (pay : List Byte) : frameBytes (atT t s) c e ftype flags pay = frameBytes s c e ftype flags pay := rfl
@[simp] theorem txFrame_atT (t : Nat) (s : State) (c : Chan) (e : SlotEntry) : txFrame (atT t s) c e = txFrame s c e := rfl
@[simp] theorem oxnSrc_atT (t : Nat) (s : State) : oxnSrc (atT t s) = oxnSrc s := rfl
@[simp] theorem syncOn_atT (t : Nat) (s : State) (c : Chan) : syncOn (atT t s) c = syncOn s c := rfl
@[simp] theorem otherSyncs_atT (t : Nat) (s : State) : otherSyncs (atT t s) = otherSyncs s := rfl
@[simp] theorem voteCount_atT (t : Nat) (s : State) (c : Chan) : voteCount (atT t s) c = voteCount s c := rfl
@[simp] theorem driverRole_atT (t : Nat) (s : State) : driverRole (atT t s) = driverRole s := rfl
@[simp] theorem narrowTrigger_atT (t : Nat) (s : State) (c : Chan) : narrowTrigger (atT t s) c = narrowTrigger s c := rfl
@[simp] theorem announced_atT (t : Nat) (s : State) : announced (atT t s) = announced s := rfl
@[simp] theorem drivingNode_atT (t : Nat) (s : State) : drivingNode (atT t s) = drivingNode s := rfl
@[simp] theorem chReg_atT (t : Nat) (s : State) (c : Chan) : chReg (atT t s) c = chReg s c := rfl
@[simp] theorem oxnRegsNow_atT (t : Nat) (s : State) : oxnRegsNow (atT t s) = oxnRegsNow s := rfl
@[simp] theorem oxnReg_atT (t : Nat) (s : State) (off : Nat) : oxnReg (atT t s) off = oxnReg s off := rfl
@[simp] theorem nextStart_atT (t : Nat) (s : State) : nextStart (atT t s) = nextStart s := rfl
@[simp] theorem startOk_atT (t : Nat) (s : State) (f : RxFrame) : startOk (atT t s) f = startOk s f := rfl
@[simp] theorem onlyObserved_atT (t : Nat) (s : State) (c : Chan) : onlyObserved (atT t s) c = onlyObserved s c := rfl
@[simp] theorem syncOk_atT (t : Nat) (f : RxFrame) (s : State) : syncOk f (atT t s) = syncOk f s := rfl
@[simp] theorem syncHears_atT (t : Nat) (s : State) (c : Chan) : syncHears (atT t s) c = syncHears s c := rfl
@[simp] theorem netReachable_atT (t : Nat) (s : State) (addr : Nat) : netReachable (atT t s) addr = netReachable s addr := rfl
@[simp] theorem safetyDead_atT (t : Nat) (s : State) (addr : Nat) : safetyDead (atT t s) addr = safetyDead s addr := rfl
@[simp] theorem portOf_atT (t : Nat) (s : State) (p : Nat) : portOf (atT t s) p = portOf s p := rfl
@[simp] theorem portUp_atT (t : Nat) (s : State) (p : Nat) : portUp (atT t s) p = portUp s p := rfl
@[simp] theorem partnerSlot_atT (t : Nat) (s : State) : partnerSlot (atT t s) = partnerSlot s := rfl
@[simp] theorem pairNum_atT (t : Nat) (s : State) : pairNum (atT t s) = pairNum s := rfl
@[simp] theorem pktSeq_atT (t : Nat) (s : State) (ptype : Nat) : pktSeq (atT t s) ptype = pktSeq s ptype := rfl
@[simp] theorem partnerShadow_atT (t : Nat) (s : State) : partnerShadow (atT t s) = partnerShadow s := rfl
@[simp] theorem pairRuns_atT (t : Nat) (s : State) : pairRuns (atT t s) = pairRuns s := rfl
@[simp] theorem arbMay_atT (t : Nat) (s : State) : arbMay (atT t s) = arbMay s := rfl
@[simp] theorem tierPair_atT (t : Nat) (s : State) : tierPair (atT t s) = tierPair s := rfl
@[simp] theorem tierApart_atT (t : Nat) (s : State) (k : Nat) : tierApart (atT t s) k = tierApart s k := rfl
@[simp] theorem laneOf_atT (t : Nat) (s : State) (l : Lane) : laneOf (atT t s) l = laneOf s l := rfl
@[simp] theorem laneSetOf_atT (t : Nat) (s : State) (l : Lane) : laneSetOf (atT t s) l = laneSetOf s l := rfl
@[simp] theorem voteOfs_atT (t : Nat) (s : State) : voteOfs (atT t s) = voteOfs s := rfl
@[simp] theorem curTable_atT (t : Nat) (s : State) : curTable (atT t s) = curTable s := rfl
@[simp] theorem oldTable_atT (t : Nat) (s : State) : oldTable (atT t s) = oldTable s := rfl
@[simp] theorem admitted_atT (t : Nat) (s : State) : admitted (atT t s) = admitted s := rfl
@[simp] theorem evaluating_atT (t : Nat) (s : State) : evaluating (atT t s) = evaluating s := rfl
@[simp] theorem votable_atT (t : Nat) (s : State) : votable (atT t s) = votable s := rfl
@[simp] theorem shadows_atT (t : Nat) (s : State) : shadows (atT t s) = shadows s := rfl
@[simp] theorem bndDue_atT (t : Nat) (s : State) : bndDue (atT t s) = bndDue s := rfl
@[simp] theorem bndSnap_atT (t : Nat) (s : State) (rs : List Ref) (bs : List BndS) : bndSnap (atT t s) rs bs = bndSnap s rs bs := rfl
@[simp] theorem readLocal_atT (t : Nat) (s : State) (r : Ref) : readLocal (atT t s) r = readLocal s r := rfl
@[simp] theorem allRefs_atT (t : Nat) (s : State) : allRefs (atT t s) = allRefs s := rfl
@[simp] theorem ownSnap_atT (t : Nat) (s : State) : ownSnap (atT t s) = ownSnap s := rfl
@[simp] theorem shadowSnap_atT (t : Nat) (s : State) (m : SnapMsg) : shadowSnap (atT t s) m = shadowSnap s m := rfl
@[simp] theorem readConn_atT (t : Nat) (s : State) (x : LaneSet) (r : Ref) (f : List Byte → Int) : readConn (atT t s) x r f = readConn s x r f := rfl
@[simp] theorem readSource_atT (t : Nat) (s : State) (i : SnapIn) (x : LaneSet) (r : Ref) : readSource (atT t s) i x r = readSource s i x r := rfl
@[simp] theorem laneReads_atT (t : Nat) (s : State) (i : SnapIn) (devs : List LaneDev) (l : Lane) (x : LaneSet) : laneReads (atT t s) i devs l x = laneReads s i devs l x := rfl
@[simp] theorem laneAgree_atT (t : Nat) (s : State) (l : Lane) : laneAgree (atT t s) l = laneAgree s l := rfl
@[simp] theorem keyHas_atT (t : Nat) (s : State) (slot : Nat) (bit : Nat) : keyHas (atT t s) slot bit = keyHas s slot bit := rfl
@[simp] theorem tableUsable_atT (u : Nat) (s : State) (g : Gen) (t : IleTable) : tableUsable (atT u s) g t = tableUsable s g t := rfl
@[simp] theorem setLoaded_atT (t : Nat) (s : State) (x : LaneSet) : setLoaded (atT t s) x = setLoaded s x := rfl
@[simp] theorem reqValue_atT (u : Nat) (s : State) (t : IleTable) (i : Nat) : reqValue (atT u s) t i = reqValue s t i := rfl
@[simp] theorem reqIn_atT (u : Nat) (s : State) (t : IleTable) (i : Nat) : reqIn (atT u s) t i = reqIn s t i := rfl
@[simp] theorem reqPresent_atT (t : Nat) (s : State) (i : Nat) : reqPresent (atT t s) i = reqPresent s i := rfl
@[simp] theorem newMalformed_atT (u : Nat) (s : State) (t : IleTable) : newMalformed (atT u s) t = newMalformed s t := rfl
@[simp] theorem reqsNow_atT (t : Nat) (s : State) : reqsNow (atT t s) = reqsNow s := rfl
@[simp] theorem maxRelease_atT (t : Nat) (s : State) : maxRelease (atT t s) = maxRelease s := rfl
@[simp] theorem holdOn_atT (t : Nat) (s : State) : holdOn (atT t s) = holdOn s := rfl
@[simp] theorem opsDue_atT (t : Nat) (s : State) : opsDue (atT t s) = opsDue s := rfl
@[simp] theorem laneEval_atT (t : Nat) (s : State) (g : AgreeOut) (x : LaneSet) : laneEval (atT t s) g x = laneEval s g x := rfl
@[simp] theorem leadLane_atT (t : Nat) (s : State) : leadLane (atT t s) = leadLane s := rfl
@[simp] theorem heldTable_atT (t : Nat) (s : State) (gen : Nat) : heldTable (atT t s) gen = heldTable s gen := rfl
@[simp] theorem partnerServes_atT (t : Nat) (s : State) : partnerServes (atT t s) = partnerServes s := rfl
@[simp] theorem tableDigest_atT (t : Nat) (s : State) : tableDigest (atT t s) = tableDigest s := rfl
@[simp] theorem opsThrough_atT (t : Nat) (s : State) : opsThrough (atT t s) = opsThrough s := rfl
@[simp] theorem bndRefs_atT (t : Nat) (s : State) : bndRefs (atT t s) = bndRefs s := rfl
@[simp] theorem bndLane_atT (t : Nat) (s : State) (x : LaneS) : bndLane (atT t s) x = bndLane s x := rfl
@[simp] theorem laneVec_atT (t : Nat) (s : State) (l : Lane) (f : LaneFault) : laneVec (atT t s) l f = laneVec s l f := rfl
@[simp] theorem laneDig_atT (t : Nat) (s : State) (l : Lane) (f : LaneFault) : laneDig (atT t s) l f = laneDig s l f := rfl
@[simp] theorem presented_atT (t : Nat) (s : State) : presented (atT t s) = presented s := rfl
@[simp] theorem reseedFrom_atT (t : Nat) (s : State) (l : Lane) : reseedFrom (atT t s) l = reseedFrom s l := rfl
@[simp] theorem sweepSeen_atT (t : Nat) (faults : List (Lane × Bool)) (s : State) (l : Lane) : sweepSeen faults (atT t s) l = sweepSeen faults s l := rfl
@[simp] theorem buildSame_atT (t : Nat) (faults : List (Lane × Bool)) (s : State) (l : Lane) : buildSame faults (atT t s) l = buildSame faults s l := rfl
@[simp] theorem grantedPerms_atT (t : Nat) (s : State) : grantedPerms (atT t s) = grantedPerms s := rfl
@[simp] theorem boundaryOut_atT (t : Nat) (s : State) : boundaryOut (atT t s) = boundaryOut s := rfl
@[simp] theorem boundaryFrame_atT (t : Nat) (s : State) (dst : Nat) : boundaryFrame (atT t s) dst = boundaryFrame s dst := rfl
@[simp] theorem ileDigestNow_atT (t : Nat) (s : State) : ileDigestNow (atT t s) = ileDigestNow s := rfl
@[simp] theorem laneReg_atT (t : Nat) (s : State) (l : Lane) : laneReg (atT t s) l = laneReg s l := rfl
@[simp] theorem ileRegsNow_atT (t : Nat) (s : State) : ileRegsNow (atT t s) = ileRegsNow s := rfl
@[simp] theorem heldOk_atT (u : Nat) (s : State) (t : IleTable) : heldOk (atT u s) t = heldOk s t := rfl
@[simp] theorem vecOf_atT (u : Nat) (s : State) (t : IleTable) (old : IleTable) (d : IleDyn) : vecOf (atT u s) t old d = vecOf s t old d := rfl
@[simp] theorem dynLane_atT (t : Nat) (f : IleDyn → IleDyn) (s : State) (x : LaneSet) : dynLane f (atT t s) x = dynLane f s x := rfl
@[simp] theorem bndOf_atT (t : Nat) (s : State) (pair : Nat) : bndOf (atT t s) pair = bndOf s pair := rfl
@[simp] theorem pendDue_atT (t : Nat) (s : State) (p : PendCmd) : pendDue (atT t s) p = pendDue s p := rfl
@[simp] theorem forceCheck_atT (t : Nat) (s : State) (addr : Nat) (ty : Nat) (v : DWord) : forceCheck (atT t s) addr ty v = forceCheck s addr ty v := rfl
@[simp] theorem wouldDrop_atT (t : Nat) (old : List Point) (s : State) (addr : Nat) : wouldDrop old (atT t s) addr = wouldDrop old s addr := rfl
@[simp] theorem forceGuard_atT (t : Nat) (s : State) : forceGuard (atT t s) = forceGuard s := rfl
@[simp] theorem forcePay_atT (t : Nat) (s : State) : forcePay (atT t s) = forcePay s := rfl
@[simp] theorem forcesGo_atT (t : Nat) (s : State) : forcesGo (atT t s) = forcesGo s := rfl
@[simp] theorem commitDue_atT (t : Nat) (s : State) (tc : Nat) (p : PendCmd) : commitDue (atT t s) tc p = commitDue s tc p := rfl
@[simp] theorem lostNow_atT (t : Nat) (s : State) (p : Point) : lostNow (atT t s) p = lostNow s p := rfl
@[simp] theorem ownStatus_atT (t : Nat) (s : State) (p : Point) : ownStatus (atT t s) p = ownStatus s p := rfl
@[simp] theorem rawNext_atT (t : Nat) (s : State) (tc : Nat) (p : Point) (news : List Arr) : rawNext (atT t s) tc p news = rawNext s tc p news := rfl
@[simp] theorem qualOver_atT (t : Nat) (s : State) (p : Point) : qualOver (atT t s) p = qualOver s p := rfl
@[simp] theorem statusNew_atT (t : Nat) (s : State) (a : Nat) : statusNew (atT t s) a = statusNew s a := rfl
@[simp] theorem rawView_atT (t : Nat) (s : State) (tc : Nat) (p : Point) (r : RawPt) : rawView (atT t s) tc p r = rawView s tc p r := rfl
@[simp] theorem inputEntry_atT (t : Nat) (s : State) (tc : Nat) (p : Point) (r : RawPt) (count : Nat) : inputEntry (atT t s) tc p r count = inputEntry s tc p r count := rfl
@[simp] theorem cycleRecord_atT (t : Nat) (tc : Nat) (s : State) : cycleRecord tc (atT t s) = cycleRecord tc s := rfl
@[simp] theorem follows_atT (t : Nat) (s : State) : follows (atT t s) = follows s := rfl
@[simp] theorem cycleRun_atT (t : Nat) (s : State) : cycleRun (atT t s) = cycleRun s := rfl
@[simp] theorem willExecute_atT (t : Nat) (s : State) : willExecute (atT t s) = willExecute s := rfl
@[simp] theorem driving_atT (t : Nat) (s : State) : driving (atT t s) = driving s := rfl
@[simp] theorem writeBase_atT (t : Nat) (s : State) (base : Tab Entry) (w : Nat × DWord) : writeBase (atT t s) base w = writeBase s base w := rfl
@[simp] theorem idleBase_atT (t : Nat) (s : State) : idleBase (atT t s) = idleBase s := rfl
@[simp] theorem overlay_atT (t : Nat) (s : State) (base : Tab Entry) : overlay (atT t s) base = overlay s base := rfl
@[simp] theorem setpointOf_atT (t : Nat) (s : State) (x : Nat) : setpointOf (atT t s) x = setpointOf s x := rfl
@[simp] theorem signalBytes_atT (t : Nat) (s : State) (first : Nat) (addrs : List Nat) : signalBytes (atT t s) first addrs = signalBytes s first addrs := rfl
@[simp] theorem signatureOf_atT (t : Nat) (s : State) : signatureOf (atT t s) = signatureOf s := rfl
@[simp] theorem sigWaits_atT (t : Nat) (s : State) : sigWaits (atT t s) = sigWaits s := rfl
@[simp] theorem feedsShadow_atT (t : Nat) (s : State) : feedsShadow (atT t s) = feedsShadow s := rfl
@[simp] theorem agreePayload_atT (t : Nat) (s : State) : agreePayload (atT t s) = agreePayload s := rfl
@[simp] theorem handoverHolds_atT (t : Nat) (s : State) : handoverHolds (atT t s) = handoverHolds s := rfl
@[simp] theorem execInputs_atT (t : Nat) (s : State) : execInputs (atT t s) = execInputs s := rfl
@[simp] theorem partnerFollows_atT (t : Nat) (s : State) : partnerFollows (atT t s) = partnerFollows s := rfl
@[simp] theorem offlineOk_atT (t : Nat) (s : State) (b : Container) : offlineOk (atT t s) b = offlineOk s b := rfl
@[simp] theorem headerOk_atT (t : Nat) (s : State) (b : Container) : headerOk (atT t s) b = headerOk s b := rfl
@[simp] theorem limitsOk_atT (t : Nat) (s : State) (g : Gen) : limitsOk (atT t s) g = limitsOk s g := rfl
@[simp] theorem onlineOk_atT (t : Nat) (s : State) (b : Container) : onlineOk (atT t s) b = onlineOk s b := rfl
@[simp] theorem keptBytes_atT (t : Nat) (s : State) (g : Gen) : keptBytes (atT t s) g = keptBytes s g := rfl
@[simp] theorem ileChecksOk_atT (t : Nat) (s : State) (g : Gen) : ileChecksOk (atT t s) g = ileChecksOk s g := rfl
@[simp] theorem storeFits_atT (t : Nat) (s : State) (gs : List Gen) : storeFits (atT t s) gs = storeFits s gs := rfl
@[simp] theorem stageChecks_atT (t : Nat) (s : State) (own : Bool) (b : Container) : stageChecks (atT t s) own b = stageChecks s own b := rfl
@[simp] theorem stageGuard_atT (t : Nat) (s : State) : stageGuard (atT t s) = stageGuard s := rfl
@[simp] theorem stagedCcv_atT (t : Nat) (s : State) (g : Gen) : stagedCcv (atT t s) g = stagedCcv s g := rfl
@[simp] theorem fwId_atT (t : Nat) (s : State) : fwId (atT t s) = fwId s := rfl
@[simp] theorem ownXfer_atT (t : Nat) (s : State) : ownXfer (atT t s) = ownXfer s := rfl
@[simp] theorem ownXferMin_atT (t : Nat) (s : State) : ownXferMin (atT t s) = ownXferMin s := rfl
@[simp] theorem xferCompatible_atT (t : Nat) (s : State) : xferCompatible (atT t s) = xferCompatible s := rfl
@[simp] theorem keyDigest_atT (t : Nat) (s : State) : keyDigest (atT t s) = keyDigest s := rfl
@[simp] theorem judges_atT (t : Nat) (s : State) : judges (atT t s) = judges s := rfl
@[simp] theorem quorum_atT (t : Nat) (s : State) : quorum (atT t s) = quorum s := rfl
@[simp] theorem against_atT (t : Nat) (s : State) (b : Nat) : against (atT t s) b = against s b := rfl
@[simp] theorem haveQuorum_atT (t : Nat) (s : State) : haveQuorum (atT t s) = haveQuorum s := rfl
@[simp] theorem quorumOf_atT (t : Nat) (s : State) (l : List ViewSeen) (f : ViewSeen → Bool) : quorumOf (atT t s) l f = quorumOf s l f := rfl
@[simp] theorem partnerUnheard_atT (t : Nat) (s : State) (w : ViewSeen) : partnerUnheard (atT t s) w = partnerUnheard s w := rfl
@[simp] theorem countDue_atT (t : Nat) (s : State) : countDue (atT t s) = countDue s := rfl
@[simp] theorem dualRetires_atT (t : Nat) (s : State) : dualRetires (atT t s) = dualRetires s := rfl
@[simp] theorem handoverOk_atT (t : Nat) (s : State) : handoverOk (atT t s) = handoverOk s := rfl
@[simp] theorem unitsOfSrc_atT (t : Nat) (s : State) (src : Nat) : unitsOfSrc (atT t s) src = unitsOfSrc s src := rfl
@[simp] theorem altSlot_atT (t : Nat) (s : State) : altSlot (atT t s) = altSlot s := rfl
@[simp] theorem ptrNow_atT (t : Nat) (s : State) : ptrNow (atT t s) = ptrNow s := rfl
@[simp] theorem trialPairOk_atT (t : Nat) (s : State) : trialPairOk (atT t s) = trialPairOk s := rfl
@[simp] theorem sliceDiffs_atT (t : Nat) (m : AgreeMsg) (s : State) : sliceDiffs m (atT t s) = sliceDiffs m s := rfl
@[simp] theorem atBoundary_atT (t : Nat) (s : State) : atBoundary (atT t s) = atBoundary s := rfl
@[simp] theorem silentWait_atT (t : Nat) (s : State) : silentWait (atT t s) = silentWait s := rfl
@[simp] theorem startGuard_atT (t : Nat) (s : State) : startGuard (atT t s) = startGuard s := rfl
@[simp] theorem startIllegal_atT (t : Nat) (s : State) : startIllegal (atT t s) = startIllegal s := rfl
@[simp] theorem runGuard_atT (t : Nat) (req : Nat) (s : State) : runGuard req (atT t s) = runGuard req s := rfl
@[simp] theorem changeRole_atT (t : Nat) (s : State) : changeRole (atT t s) = changeRole s := rfl
@[simp] theorem switchCycle_atT (t : Nat) (s : State) (c : Nat) : switchCycle (atT t s) c = switchCycle s c := rfl
@[simp] theorem switchBarred_atT (t : Nat) (s : State) : switchBarred (atT t s) = switchBarred s := rfl
@[simp] theorem inWindow_atT (t : Nat) (s : State) (p : PendCmd) : inWindow (atT t s) p = inWindow s p := rfl
@[simp] theorem cancelCause_atT (t : Nat) (s : State) (atS : Bool) : cancelCause (atT t s) atS = cancelCause s atS := rfl
@[simp] theorem confirmWaits_atT (t : Nat) (s : State) : confirmWaits (atT t s) = confirmWaits s := rfl
@[simp] theorem compatLegal_atT (t : Nat) (s : State) : compatLegal (atT t s) = compatLegal s := rfl
@[simp] theorem imagesAgree_atT (t : Nat) (s : State) : imagesAgree (atT t s) = imagesAgree s := rfl
@[simp] theorem standbyOk_atT (t : Nat) (s : State) : standbyOk (atT t s) = standbyOk s := rfl
@[simp] theorem autoHandover_atT (t : Nat) (s : State) : autoHandover (atT t s) = autoHandover s := rfl
@[simp] theorem sliceRuns_atT (t : Nat) (s : State) : sliceRuns (atT t s) = sliceRuns s := rfl
@[simp] theorem losesGuard_atT (t : Nat) (s : State) (p : PendCmd) : losesGuard (atT t s) p = losesGuard s p := rfl
@[simp] theorem rxUp_atT (t : Nat) (s : State) (p : Nat) : rxUp (atT t s) p = rxUp s p := rfl
@[simp] theorem chunkWanted_atT (t : Nat) (s : State) : chunkWanted (atT t s) = chunkWanted s := rfl
@[simp] theorem resyncLacks_atT (t : Nat) (s : State) : resyncLacks (atT t s) = resyncLacks s := rfl
@[simp] theorem plvOn_atT (t : Nat) (s : State) : plvOn (atT t s) = plvOn s := rfl
@[simp] theorem senderValid_atT (t : Nat) (s : State) (origin : Nat) : senderValid (atT t s) origin = senderValid s origin := rfl
@[simp] theorem signalPoints_atT (t : Nat) (s : State) (pair : Nat) (idx : Nat) : signalPoints (atT t s) pair idx = signalPoints s pair idx := rfl
@[simp] theorem signalsTaken_atT (t : Nat) (d : List Byte) (s : State) : signalsTaken d (atT t s) = signalsTaken d s := rfl
@[simp] theorem portReg_atT (t : Nat) (s : State) (p : Nat) : portReg (atT t s) p = portReg s p := rfl
@[simp] theorem adoptable_atT (t : Nat) (s : State) (gs : List Gen) : adoptable (atT t s) gs = adoptable s gs := rfl
@[simp] theorem dirtyMax_atT (t : Nat) (s : State) : dirtyMax (atT t s) = dirtyMax s := rfl
@[simp] theorem ileCopied_atT (t : Nat) (s : State) : ileCopied (atT t s) = ileCopied s := rfl
@[simp] theorem dirtyVars_atT (t : Nat) (s : State) : dirtyVars (atT t s) = dirtyVars s := rfl
@[simp] theorem dirtyOf_atT (t : Nat) (s : State) : dirtyOf (atT t s) = dirtyOf s := rfl
@[simp] theorem engineServed_atT (t : Nat) (e : Nat) (s : State) : engineServed e (atT t s) = engineServed e s := rfl
@[simp] theorem engineLimit_atT (t : Nat) (e : Nat) (s : State) : engineLimit e (atT t s) = engineLimit e s := rfl
@[simp] theorem retAt_atT (t : Nat) (s : State) : retAt (atT t s) = retAt s := rfl
@[simp] theorem tqSince_atT (t : Nat) (s : State) (q : Nat) (code : Nat) : tqSince (atT t s) q code = tqSince s q code := rfl
@[simp] theorem sparesUsed_atT (t : Nat) (s : State) (mem : Nat) : sparesUsed (atT t s) mem = sparesUsed s mem := rfl
@[simp] theorem rowStuck_atT (t : Nat) (s : State) (mem : Nat) (row : Nat) : rowStuck (atT t s) mem row = rowStuck s mem row := rfl
@[simp] theorem recCursorOf_atT (t : Nat) (s : State) (ring : Nat) (cf : Nat) (cl : Nat) (st : Nat) (from_ : Nat) (to_ : Nat) : recCursorOf (atT t s) ring cf cl st from_ to_ = recCursorOf s ring cf cl st from_ to_ := rfl
@[simp] theorem evrReg_atT (t : Nat) (s : State) : evrReg (atT t s) = evrReg s := rfl
@[simp] theorem liveCells_atT (t : Nat) (s : State) : liveCells (atT t s) = liveCells s := rfl
@[simp] theorem liveLanes_atT (t : Nat) (s : State) : liveLanes (atT t s) = liveLanes s := rfl
@[simp] theorem roundSlices_atT (t : Nat) (s : State) : roundSlices (atT t s) = roundSlices s := rfl
@[simp] theorem kindDone_atT (t : Nat) (s : State) (k : Nat) : kindDone (atT t s) k = kindDone s k := rfl
@[simp] theorem sliceUnit_atT (t : Nat) (s : State) (k : Nat) : sliceUnit (atT t s) k = sliceUnit s k := rfl
@[simp] theorem sliceFits_atT (t : Nat) (s : State) (k : Nat) : sliceFits (atT t s) k = sliceFits s k := rfl
@[simp] theorem kindFirst_atT (t : Nat) (s : State) (a : Nat) (b : Nat) : kindFirst (atT t s) a b = kindFirst s a b := rfl
@[simp] theorem compatEnds_atT (t : Nat) (s : State) : compatEnds (atT t s) = compatEnds s := rfl
@[simp] theorem sliceMay_atT (t : Nat) (s : State) : sliceMay (atT t s) = sliceMay s := rfl
@[simp] theorem testedUnits_atT (t : Nat) (s : State) (src : Nat) : testedUnits (atT t s) src = testedUnits s src := rfl
@[simp] theorem roundLimit_atT (t : Nat) (s : State) : roundLimit (atT t s) = roundLimit s := rfl
@[simp] theorem roundParts_atT (t : Nat) (s : State) : roundParts (atT t s) = roundParts s := rfl
@[simp] theorem bstReg_atT (t : Nat) (s : State) : bstReg (atT t s) = bstReg s := rfl
@[simp] theorem pllRefGood_atT (t : Nat) (s : State) (p : PllS) : pllRefGood (atT t s) p = pllRefGood s p := rfl
@[simp] theorem stoppedPll_atT (t : Nat) (s : State) (w : Switch) : stoppedPll (atT t s) w = stoppedPll s w := rfl
@[simp] theorem formatFits_atT (t : Nat) (s : State) (h : ImageHdr) : formatFits (atT t s) h = formatFits s h := rfl
@[simp] theorem verify6_atT (t : Nat) (s : State) (x : ImgSlot) : verify6 (atT t s) x = verify6 s x := rfl
@[simp] theorem verifySlot_atT (t : Nat) (s : State) (b : Nat) : verifySlot (atT t s) b = verifySlot s b := rfl
@[simp] theorem evenSlot_atT (t : Nat) (s : State) : evenSlot (atT t s) = evenSlot s := rfl
@[simp] theorem bootDecide_atT (t : Nat) (s : State) : bootDecide (atT t s) = bootDecide s := rfl
@[simp] theorem bootDeadline_atT (t : Nat) (s : State) (k : Nat) : bootDeadline (atT t s) k = bootDeadline s k := rfl
@[simp] theorem booting_atT (t : Nat) (s : State) : booting (atT t s) = booting s := rfl
@[simp] theorem ringWaits_atT (t : Nat) (s : State) (n : Nat) : ringWaits (atT t s) n = ringWaits s n := rfl
@[simp] theorem comesBefore_atT (t : Nat) (s : State) (m : Nat) (n : Nat) : comesBefore (atT t s) m n = comesBefore s m n := rfl
@[simp] theorem firstInLine_atT (t : Nat) (s : State) (n : Nat) : firstInLine (atT t s) n = firstInLine s n := rfl
@[simp] theorem nextRing_atT (t : Nat) (s : State) : nextRing (atT t s) = nextRing s := rfl
@[simp] theorem letterOf_atT (t : Nat) (s : State) : letterOf (atT t s) = letterOf s := rfl
@[simp] theorem noFirmwareKey_atT (t : Nat) (s : State) : noFirmwareKey (atT t s) = noFirmwareKey s := rfl
@[simp] theorem xferBars_atT (t : Nat) (s : State) : xferBars (atT t s) = xferBars s := rfl
@[simp] theorem selected_atT (t : Nat) (s : State) (gen : Nat) : selected (atT t s) gen = selected s gen := rfl
@[simp] theorem busPeek_atT (t : Nat) (s : State) (a : Nat) (i : Nat) : busPeek (atT t s) a i = busPeek s a i := rfl
@[simp] theorem busRead_atT (t : Nat) (s : State) (a : Nat) (n : Nat) : busRead (atT t s) a n = busRead s a n := rfl
@[simp] theorem inCycle_atT (t : Nat) (s : State) : inCycle (atT t s) = inCycle s := rfl
@[simp] theorem outCycle_atT (t : Nat) (s : State) : outCycle (atT t s) = outCycle s := rfl
@[simp] theorem forceBytes_atT (t : Nat) (s : State) : forceBytes (atT t s) = forceBytes s := rfl
@[simp] theorem legacyOn_atT (t : Nat) (s : State) : legacyOn (atT t s) = legacyOn s := rfl
@[simp] theorem knownOpcode_atT (t : Nat) (s : State) (op : Nat) : knownOpcode (atT t s) op = knownOpcode s op := rfl
@[simp] theorem snapPart_atT (t : Nat) (first : Nat) (count : Nat) (s : State) : snapPart first count (atT t s) = snapPart first count s := rfl
@[simp] theorem ileDown_atT (t : Nat) (s : State) : ileDown (atT t s) = ileDown s := rfl
@[simp] theorem ileObject_atT (t : Nat) (s : State) (kind : Nat) (i : Nat) : ileObject (atT t s) kind i = ileObject s kind i := rfl
@[simp] theorem ileObjects_atT (t : Nat) (s : State) : ileObjects (atT t s) = ileObjects s := rfl
@[simp] theorem safetyEngine_atT (t : Nat) (s : State) (src : Nat) : safetyEngine (atT t s) src = safetyEngine s src := rfl
@[simp] theorem hostPoint_atT (t : Nat) (s : State) (a : Nat) : hostPoint (atT t s) a = hostPoint s a := rfl
@[simp] theorem recordOk_atT (t : Nat) (s : State) (r : PointRec) : recordOk (atT t s) r = recordOk s r := rfl
@[simp] theorem speedwellStatus_atT (t : Nat) (s : State) : speedwellStatus (atT t s) = speedwellStatus s := rfl
@[simp] theorem activateGuard_atT (t : Nat) (s : State) : activateGuard (atT t s) = activateGuard s := rfl
@[simp] theorem runHdr_atT (t : Nat) (s : State) (f : ImageHdr → Nat) : runHdr (atT t s) f = runHdr s f := rfl
@[simp] theorem altHdr_atT (t : Nat) (s : State) (f : ImageHdr → Nat) : altHdr (atT t s) f = altHdr s f := rfl
@[simp] theorem altOf_atT (t : Nat) (s : State) : altOf (atT t s) = altOf s := rfl
@[simp] theorem fwFlags_atT (t : Nat) (s : State) : fwFlags (atT t s) = fwFlags s := rfl
@[simp] theorem trialEndOf_atT (t : Nat) (s : State) : trialEndOf (atT t s) = trialEndOf s := rfl
@[simp] theorem fwRecord_atT (t : Nat) (s : State) : fwRecord (atT t s) = fwRecord s := rfl
@[simp] theorem timeSettable_atT (t : Nat) (s : State) : timeSettable (atT t s) = timeSettable s := rfl
@[simp] theorem hartMaster_atT (t : Nat) (s : State) (ch : Nat) : hartMaster (atT t s) ch = hartMaster s ch := rfl
@[simp] theorem keyWaits_atT (t : Nat) (s : State) : keyWaits (atT t s) = keyWaits s := rfl
@[simp] theorem firstKey_atT (t : Nat) (s : State) (k : KeyRec) : firstKey (atT t s) k = firstKey s k := rfl
@[simp] theorem modStatus_atT (t : Nat) (s : State) : modStatus (atT t s) = modStatus s := rfl
@[simp] theorem ledRun_atT (t : Nat) (s : State) : ledRun (atT t s) = ledRun s := rfl
@[simp] theorem ledFault_atT (t : Nat) (s : State) : ledFault (atT t s) = ledFault s := rfl
@[simp] theorem modLed_atT (t : Nat) (s : State) : modLed (atT t s) = modLed s := rfl
@[simp] theorem spareLow_atT (t : Nat) (s : State) (mem : Nat) : spareLow (atT t s) mem = spareLow s mem := rfl
@[simp] theorem fltStatus_atT (t : Nat) (s : State) : fltStatus (atT t s) = fltStatus s := rfl
@[simp] theorem fltRetired_atT (t : Nat) (s : State) : fltRetired (atT t s) = fltRetired s := rfl
@[simp] theorem fwuStatus_atT (t : Nat) (s : State) : fwuStatus (atT t s) = fwuStatus s := rfl
@[simp] theorem hxpReg_atT (t : Nat) (s : State) (off : Nat) : hxpReg (atT t s) off = hxpReg s off := rfl
@[simp] theorem modId_atT (t : Nat) (s : State) : modId (atT t s) = modId s := rfl
@[simp] theorem endpointIds_atT (t : Nat) (s : State) : endpointIds (atT t s) = endpointIds s := rfl
@[simp] theorem modReg_atT (t : Nat) (s : State) : modReg (atT t s) = modReg s := rfl
@[simp] theorem cfgWindow_atT (t : Nat) (s : State) : cfgWindow (atT t s) = cfgWindow s := rfl

end Sys2Proof.Machine
end

