-- ==== Sys2Proof/WellFormed.lean ====
section
/-! DEFINITION. Well-formed commands: every operand fits the field or the format that carries it (R11, Tables 13.2,
13.5, 13.6, 14.3, 9.1). -/

namespace Sys2Proof

/-- A number fits a field of w bits. -/
def fits (w n : Nat) : Bool := decide (n < 2 ^ w)

/-- A grant has the length of Table 13.6. -/
def grantFits (g : Grant) : Bool := g.raw.length = 196

/-- An authorisation names a slot of 8 bits or carries a grant. -/
def authFits : Auth → Bool
  | .none => true
  | .grant g => grantFits g
  | .standing n => fits 8 n
  | .lost => true

/-- A command's call context fits its descriptor (Table 13.2). -/
def callOk (c : Call) : Bool :=
  fits 3 c.ring && fits 16 c.tag && fits 64 c.doorbell && authFits c.auth && fits 64 c.bufAddr && fits 32 c.bufLen

/-- A Plovlink header's fields fit Table 9.1. -/
def hdrFits (h : PktHdr) : Bool :=
  decide (h.port < 3) && fits 8 h.ptype && fits 8 h.hops && fits 8 h.origin && fits 8 h.dest && fits 32 h.seq
      && fits 32 h.len
    && fits 32 h.rsvd && fits 32 h.pcrc

/-- A key record's fields fit R349. -/
def keyFits (k : KeyRec) : Bool := fits 8 k.slot && fits 16 k.roles && fits 528 k.qx && fits 528 k.qy

/-- An access names a master of Table 14.3 and a kind. -/
def accessFits (a : Access) : Bool := decide (a.master < 18) && fits 64 a.addr && decide (a.kind < 3) && fits 4 a.key

/-- An ILE operator body's fields fit Table 5.8. -/
def bodyFits (b : OpBody) : Bool := fits 16 b.index && fits 64 b.key

/-- A frame's stamps are GT counts. -/
def rxFits (f : RxFrame) : Bool := fits 64 f.sof && fits 64 f.eof

/-- Data bytes of a frame by its DLC (ISO 11898-1, Table of R314's lengths). -/
def canDlcLen (fdf : Bool) (dlc : Nat) : Nat :=
  if dlc ≤ 8 then dlc else if fdf then [12, 16, 20, 24, 32, 48, 64].getD (dlc - 9) 64 else 8

/-- A CAN frame carries at most 64 bytes. -/
def canFits (f : CanFrame) : Bool :=
  fits 29 f.id && fits 4 f.dlc && fits 8 f.errs && f.data.length = (if f.rtr then 0 else canDlcLen f.fdf f.dlc)

/-- Point records fit Table 13.5. -/
def recsFit (rs : List PointRec) : Bool := rs.all fun r => fits 32 r.addr && fits 8 r.ty

/-- A grant that may be absent. -/
def optGrantFits : Option Grant → Bool
  | none => true
  | some g => grantFits g

/-- A host buffer's content fits its format. -/
def bufFits : HostBuf → Bool
  | .none => true
  | .points rs => recsFit rs
  | .container _ => true
  | .bytes _ _ => true
  | .key k => keyFits k
  | .grant g => grantFits g

/-- Every operand of a command fits its field. -/
def wellFormed (i : Instr) : Bool :=
  match i with
  | .unsupportedAccess t off size _ => fits 64 t && fits 32 off && fits 8 size
  | .regWrite t off _ => fits 64 t && fits 32 off
  | .timeGtLoRead t => fits 64 t
  | .hxpCmdqDb t n _ => fits 64 t && fits 3 n
  | .hxpCplqDb t n _ => fits 64 t && fits 3 n
  | .hxpEvqDb t _ => fits 64 t
  | .arm t _ => fits 64 t
  | .disarm t _ => fits 64 t
  | .disarmComplete t => fits 64 t
  | .ringReset t _ => fits 64 t
  | .evqReset t _ => fits 64 t
  | .gateClrDb t _ => fits 64 t
  | .clkMonDb t _ => fits 64 t
  | .descriptorFetch t ring _ buf grant _ => fits 64 t && fits 3 ring && bufFits buf && optGrantFits grant
  | .nop t c => fits 64 t && callOk c
  | .pointRead t c image first count => fits 64 t && callOk c && fits 8 image && fits 32 first && fits 32 count
  | .pointWrite t c count recs => fits 64 t && callOk c && fits 32 count && recsFit recs
  | .forceSet t c addr ty _ => fits 64 t && callOk c && fits 32 addr && fits 8 ty
  | .forceClear t c addr => fits 64 t && callOk c && fits 32 addr
  | .forceList t c => fits 64 t && callOk c
  | .start t c => fits 64 t && callOk c
  | .hold t c => fits 64 t && callOk c
  | .stop t c => fits 64 t && callOk c
  | .handover t c => fits 64 t && callOk c
  | .retire t c => fits 64 t && callOk c
  | .readmit t c arg source _ => fits 64 t && callOk c && fits 8 arg && fits 32 source
  | .bstMode t c arg => fits 64 t && callOk c && fits 8 arg
  | .fwAck t c => fits 64 t && callOk c
  | .stage t c _ => fits 64 t && callOk c
  | .switch t c cycle => fits 64 t && callOk c && fits 64 cycle
  | .confirm t c gen => fits 64 t && callOk c && fits 32 gen
  | .revert t c gen => fits 64 t && callOk c && fits 32 gen
  | .discard t c gen => fits 64 t && callOk c && fits 32 gen
  | .genSelect t c gen => fits 64 t && callOk c && fits 32 gen
  | .ccvConfirm t c ccv gen => fits 64 t && callOk c && fits 32 ccv && fits 32 gen
  | .fwChunk t c offset total _ _ => fits 64 t && callOk c && fits 32 offset && fits 32 total
  | .fwActivate t c => fits 64 t && callOk c
  | .fwStatus t c => fits 64 t && callOk c
  | .recRead t c codeFirst codeLast store fromGt toGt _ =>
      fits 64 t && callOk c && fits 16 codeFirst && fits 16 codeLast && fits 8 store && fits 64 fromGt && fits 64 toGt
  | .recClear t c codeFirst codeLast store fromGt toGt =>
      fits 64 t && callOk c && fits 16 codeFirst && fits 16 codeLast && fits 8 store && fits 64 fromGt && fits 64 toGt
  | .snapArm t c id at_ => fits 64 t && callOk c && fits 16 id && fits 64 at_
  | .snapRead t c first count => fits 64 t && callOk c && fits 32 first && fits 32 count
  | .block t c body => fits 64 t && callOk c && bodyFits body
  | .unblock t c body => fits 64 t && callOk c && bodyFits body
  | .emergRelease t c body => fits 64 t && callOk c && bodyFits body
  | .ileRead t c kind first count => fits 64 t && callOk c && fits 8 kind && fits 16 first && fits 16 count
  | .timeSet t c gt => fits 64 t && callOk c && fits 64 gt
  | .cycleStatus t c options => fits 64 t && callOk c && fits 8 options
  | .changeStatus t c => fits 64 t && callOk c
  | .hartPass t c ch cmd len _ => fits 64 t && callOk c && fits 8 ch && fits 8 cmd && fits 8 len
  | .debugUnlock t c mask => fits 64 t && callOk c && fits 32 mask
  | .keyProvision t c k => fits 64 t && callOk c && keyFits k
  | .grantHold t c slot g => fits 64 t && callOk c && fits 8 slot && grantFits g
  | .grantDrop t c slot => fits 64 t && callOk c && fits 8 slot
  | .identity t c => fits 64 t && callOk c
  | .lRead t c window first count => fits 64 t && callOk c && fits 8 window && fits 16 first && fits 16 count
  | .lStatus t c => fits 64 t && callOk c
  | .legacyWrite t c opcode => fits 64 t && callOk c && fits 8 opcode
  | .badOpcode t c opcode => fits 64 t && callOk c && fits 8 opcode
  | .completionPost t ring => fits 64 t && fits 3 ring
  | .eventPost t => fits 64 t
  | .coalesceExpiry t vec => fits 64 t && fits 4 vec
  | .dmaTimeout t _ => fits 64 t
  | .dmaError t _ => fits 64 t
  | .pcieReset t _ => fits 64 t
  | .pciePerstChange t _ => fits 64 t
  | .linkTrained t => fits 64 t
  | .tCommit t => fits 64 t
  | .minCycleElapsed t => fits 64 t
  | .agreeTimeout t => fits 64 t
  | .executeDone t _ => fits 64 t
  | .lockstepMismatch t m => fits 64 t && fits 2 m.cell
  | .scanWdt t => fits 64 t
  | .signatureWaitBound t => fits 64 t
  | .programCycleBoundary t => fits 64 t
  | .migrationDone t => fits 64 t
  | .stagingChecksDone t _ => fits 64 t
  | .trialWindowEnd t => fits 64 t
  | .oxugerCycleStart t n _ => fits 64 t && fits 64 n
  | .oxnActionPoint t _ slot => fits 64 t && fits 16 slot
  | .dataFrame t f => fits 64 t && rxFits f
  | .safetyFrame t f => fits 64 t && rxFits f
  | .syncFrame t f => fits 64 t && rxFits f
  | .coldstartFrame t f => fits 64 t && rxFits f
  | .viewFrame t f => fits 64 t && rxFits f
  | .oxnIdlePhase t _ _ => fits 64 t
  | .oxnSafetyTimeout t conn => fits 64 t && fits 64 conn
  | .listenTimeout t => fits 64 t
  | .coldstartAlone t => fits 64 t
  | .integrationFail t => fits 64 t
  | .oxnSyncLost t => fits 64 t
  | .oxnReadmitFail t _ => fits 64 t
  | .lanePresent t _ _ => fits 64 t
  | .presentationDeadline t => fits 64 t
  | .voterUpdate t _ => fits 64 t
  | .reseedTablePhaseDone t _ _ => fits 64 t
  | .pathSetTimeout t path => fits 64 t && fits 64 path
  | .releaseDelayElapsed t path => fits 64 t && fits 64 path
  | .ileDetectFault t elem => fits 64 t && fits 64 elem
  | .coldHoldEnd t => fits 64 t
  | .ileBndTimeout t pair => fits 64 t && fits 3 pair
  | .p0LinkUp t => fits 64 t
  | .auth t h _ => fits 64 t && hdrFits h
  | .heartbeatSend t => fits 64 t
  | .heartbeat t h data => fits 64 t && hdrFits h && decide (data = h.pay)
  | .partnerSilent t => fits 64 t
  | .agree t h _ => fits 64 t && hdrFits h
  | .sliceReq t h _ => fits 64 t && hdrFits h
  | .sliceData t h slice _ => fits 64 t && hdrFits h && fits 64 slice
  | .agreeDone t h cycle => fits 64 t && hdrFits h && fits 64 cycle
  | .signature t h cycle sig => fits 64 t && hdrFits h && fits 64 cycle && fits 128 sig
  | .forceTable t h version boundary _ => fits 64 t && hdrFits h && fits 32 version && fits 64 boundary
  | .ileSnap t h cycle m => fits 64 t && hdrFits h && fits 64 cycle && m.frames.all rxFits
  | .ileDigest t h cycle digest => fits 64 t && hdrFits h && fits 64 cycle && fits 64 digest
  | .ileState t h gen cycle m => fits 64 t && hdrFits h && fits 32 gen && fits 64 cycle && fits 64 m.tables
  | .release t h cycle => fits 64 t && hdrFits h && fits 64 cycle
  | .leaving t h => fits 64 t && hdrFits h
  | .arbStart t h _ td => fits 64 t && hdrFits h && fits 64 td
  | .tierAgree t h tier boundary => fits 64 t && hdrFits h && fits 2 tier && fits 64 boundary
  | .relayedCommand t h _ boundary => fits 64 t && hdrFits h && fits 64 boundary
  | .resync t h _ => fits 64 t && hdrFits h
  | .image t h offset total _ _ => fits 64 t && hdrFits h && fits 64 offset && fits 64 total
  | .resyncStepDone t _ => fits 64 t
  | .resyncStepTimeout t => fits 64 t
  | .resyncAttemptTimeout t => fits 64 t
  | .pairNoQuorum t => fits 64 t
  | .pairWaitExpiry t => fits 64 t
  | .handoverRelease t => fits 64 t
  | .plvLaneFail t port lane => fits 64 t && fits 2 port && fits 2 lane
  | .plvDiscardLimit t port => fits 64 t && fits 2 port
  | .beaconSend t => fits 64 t
  | .beacon t h data => fits 64 t && hdrFits h && decide (data = h.pay)
  | .stmEvaluation t => fits 64 t
  | .timeMessageSend t => fits 64 t
  | .time t h data => fits 64 t && hdrFits h && decide (data = h.pay)
  | .delay t h data => fits 64 t && hdrFits h && decide (data = h.pay)
  | .stationHold t => fits 64 t
  | .ringLost t pair => fits 64 t && fits 3 pair
  | .signals t h data => fits 64 t && hdrFits h && decide (data = h.pay)
  | .signalsForget t pair => fits 64 t && fits 3 pair
  | .boundary t h data => fits 64 t && hdrFits h && decide (data = h.pay)
  | .ejectorOpen t => fits 64 t
  | .presSenseOpen t => fits 64 t
  | .presSenseClose t => fits 64 t
  | .pairPresOpen t => fits 64 t
  | .pairPresClose t => fits 64 t
  | .tioSampleWindow t _ => fits 64 t
  | .tioRefresh t _ => fits 64 t
  | .tioLinkSilent t => fits 64 t
  | .pairDisc t pair => fits 64 t && fits 4 pair
  | .sinkCheck t ti _ => fits 64 t && fits 5 ti
  | .tioReadback t q => fits 64 t && fits 4 q
  | .overcurrent t q _ => fits 64 t && fits 4 q
  | .groupOverload t group => fits 64 t && fits 1 group
  | .darkTestStart t q => fits 64 t && fits 4 q
  | .darkTestEnd t q _ => fits 64 t && fits 4 q
  | .shortToSupply t q => fits 64 t && fits 4 q
  | .tioSupplyMeasure t group mV => fits 64 t && fits 1 group && fits 64 mV
  | .tioSupplyDown t group => fits 64 t && fits 1 group
  | .tioSupplyUp t group => fits 64 t && fits 1 group
  | .tioOverlapEnd t => fits 64 t
  | .alpConversion t ch _ _ _ _ => fits 64 t && fits 8 ch
  | .alpRefresh t ch _ => fits 64 t && fits 8 ch
  | .alpLogicSilent t ch => fits 64 t && fits 8 ch
  | .alpReadback t ch => fits 64 t && fits 8 ch
  | .overrange t ch => fits 64 t && fits 8 ch
  | .feSilent t ch => fits 64 t && fits 8 ch
  | .feCheck t ch _ => fits 64 t && fits 8 ch
  | .alCompliance t ch => fits 64 t && fits 8 ch
  | .alpClockStepUp t ch => fits 64 t && fits 8 ch
  | .alpRampEnd t => fits 64 t
  | .hartResponse t ch _ => fits 64 t && fits 8 ch
  | .hartTimeout t ch => fits 64 t && fits 8 ch
  | .hartRequest t ch cmd r => fits 64 t && fits 8 ch && fits 8 cmd && fits 6 r.poll
  | .canFrameReceived t port f => fits 64 t && fits 2 port && canFits f
  | .canArbitrationStart t port => fits 64 t && fits 2 port
  | .canArbitrationLost t port => fits 64 t && fits 2 port
  | .canTxComplete t port tec rec => fits 64 t && fits 2 port && fits 16 tec && fits 16 rec
  | .canBusOff t port e => fits 64 t && fits 2 port && fits 16 e.tec && fits 16 e.rec_
  | .canBusOffRecovered t port => fits 64 t && fits 2 port
  | .canErrorPassive t e => fits 64 t && fits 2 e.port && fits 16 e.tec && fits 16 e.rec_
  | .stuckDominant t port => fits 64 t && fits 2 port
  | .txdTimeout t port => fits 64 t && fits 2 port
  | .loopbackRetry t port _ => fits 64 t && fits 2 port
  | .canWake t port _ => fits 64 t && fits 2 port
  | .sourceSettled t _ => fits 64 t
  | .freqWindowEnd t _ _ _ => fits 64 t
  | .sourceEdgeLoss t _ => fits 64 t
  | .pllLocked t n => fits 64 t && fits 3 n
  | .pllLockLoss t n => fits 64 t && fits 3 n
  | .clkSwitchDone t dom => fits 64 t && fits 5 dom
  | .clkForced t dom => fits 64 t && fits 5 dom
  | .quiesceAck t blk => fits 64 t && fits 5 blk
  | .clkQuiesceTimeout t blk => fits 64 t && fits 5 blk
  | .gateResetRelease t blk => fits 64 t && fits 5 blk
  | .feedLow t _ mv => fits 64 t && fits 64 mv
  | .feedRecovered t _ mv => fits 64 t && fits 64 mv
  | .pfw t => fits 64 t
  | .hlFeedDip t => fits 64 t
  | .pfwStop t => fits 64 t
  | .mgtAllow t _ => fits 64 t
  | .allowStale t => fits 64 t
  | .powerSample t mw => fits 64 t && fits 64 mw
  | .dieTempRead t _ => fits 64 t
  | .inletRead t _ => fits 64 t
  | .tierRule2 t => fits 64 t
  | .tierRule3 t => fits 64 t
  | .tierRule5 t => fits 64 t
  | .hot t => fits 64 t
  | .hlOvertemp t => fits 64 t
  | .backgroundAdmit t kind => fits 64 t && fits 8 kind
  | .backgroundUnitDone t kind _ => fits 64 t && fits 8 kind
  | .hlDefer t kind => fits 64 t && fits 8 kind
  | .hlRail t _ => fits 64 t
  | .fltL0 t target master => fits 64 t && fits 24 target && fits 5 master
  | .engineWatchdogExpiry t engine _ => fits 64 t && fits 3 engine
  | .l5Service t => fits 64 t
  | .fltL5 t => fits 64 t
  | .drainTick t => fits 64 t
  | .persistenceExpiry t _ code => fits 64 t && fits 16 code
  | .eccCorrected t mem row => fits 64 t && fits 2 mem && fits 64 row
  | .eccUncorrectable t mem x => fits 64 t && fits 2 mem && fits 64 x.row && fits 8 x.word && fits 5 x.master
  | .nandProgramFail t blk => fits 64 t && fits 32 blk
  | .bstSliceDone t _ => fits 64 t
  | .bstTimeout t => fits 64 t
  | .bstRoundLate t => fits 64 t
  | .sorrelRateWrite t code => fits 64 t && fits 16 code
  | .sorrelSeal t epoch => fits 64 t && fits 64 epoch
  | .powerOnResetRelease t _ => fits 64 t
  | .bootStepDone t _ => fits 64 t
  | .bootOverrun t => fits 64 t
  | .imageHashDone t digest => fits 64 t && fits 512 digest
  | .fwActivateReset t => fits 64 t
  | .fwTrialWindowEnd t => fits 64 t
  | .serviceHello t _ => fits 64 t
  | .serviceGrant t _ g => fits 64 t && grantFits g
  | .serviceChunk t _ _ => fits 64 t
  | .serviceActivate t _ => fits 64 t
  | .serviceStatus t _ => fits 64 t
  | .mgtIdentity t _ => fits 64 t
  | .identityTimeout t => fits 64 t
  | .mgtTod t _ => fits 64 t
  | .ppsEdge t => fits 64 t
  | .todPpsTimeout t => fits 64 t
  | .cloverLatch t => fits 64 t
  | .cloverDeadline t => fits 64 t
  | .debugUnlockExpiry t => fits 64 t
  | .debugAccess t a => fits 64 t && accessFits a
  | .gateProgramFault t a => fits 64 t && accessFits a
  | .plvReadmitSecond t port => fits 64 t && fits 2 port
  | .canRecessiveBits t port => fits 64 t && fits 2 port
  | .holdUpCharged t => fits 64 t
  | .plvPortTrained t port lanes => fits 64 t && fits 2 port && fits 8 lanes

end Sys2Proof
end

