-- ==== Sys2Proof/Tests/Slice0.lean ====
section
/-! SUPPORT. The model's own tests: a witness for the hypotheses of every clause of every obligation, worked examples of
the manual, and ill-formed commands that `wellFormed` refuses. Expected values are the manual's or published ones. -/
open Sys2Proof Sys2Proof.Machine
set_option Elab.async false
set_option linter.unusedVariables false
set_option maxRecDepth 4000

/-! ### States and operands that the tests share -/

/-- A signed grant of Table 13.6 for slot `slot`, opcode `op` and FLAGS, with a TARGET. Its key is the base point of P-521
(private key 1), and its signature uses the nonce 1. -/
def grantWith (slot op flags : Nat) (target : List Byte) : Grant :=
  let b := le 4 0x544E5247 ++ [1] ++ le 1 slot ++ le 1 op ++ le 1 flags ++ pad 8 ++ le 8 3600000000000 ++ le 16 5
    ++ target ++ pad (16 - target.length) ++ pad 8
  let r := p521G.1 % p521Order
  ⟨b ++ be 66 r ++ be 66 ((ofLe (sha512 b).reverse + r) % p521Order)⟩

/-- A grant for a command of opcode `op` with a TARGET, which passes every check in `ready`. -/
def grantFor (op : Nat) (target : List Byte) : Grant := grantWith 0 op 0 target

/-- A command on ring 0 with an authorisation and a buffer length. -/
def callWith (a : Auth) (n : Nat) : Call := ⟨0, 7, false, 0, a, 0, n⟩

/-- A SOLO module in IDLE whose host exchange is armed and holds one descriptor on ring 0, with valid time, a good
clock source and a key that has every role. -/
def ready : State :=
  { State.reset with
    mod := { State.reset.mod with tup := { State.reset.mod.tup with role := .solo, run := .idle } }
    hxp := { State.reset.hxp with
      armed := true
      rings := (State.reset.hxp.rings).set 0 { ringReset with cfg := 0x9, times := [0], tail := 1 } }
    nva := { State.reset.nva with keys := [(0, ⟨0, 4095, p521G.1, p521G.2⟩)] }
    tim := { State.reset.tim with valid := true }
    con := { State.reset.con with inReset := false }
    clk := { State.reset.clk with xa := { State.reset.clk.xa with st := 2 }, gated := 0 } }

/-- The state that an outcome carries. -/
def stateOf (o : Host.Outcome State Fault Refusal) : State :=
  match o with
  | .next u => u
  | .fault _ => State.reset
  | .refused _ => State.reset

/-- The module of `ready` with trained ports and an authenticated partner. -/
def paired : State :=
  { ready with
    mod := { ready.mod with present := true, valid := true }
    plv := { ready.plv with
      ports := [⟨4, 0, [], none⟩, ⟨4, 0, [], none⟩, ⟨4, 0, [], none⟩], authOk := true, tH := 0 } }

/-- A good packet from slot 1 on a port, with its HOPS and payload. -/
def packetOn (port ptype hops : Nat) (pay : List Byte) : PktHdr :=
  ⟨port, ptype, hops, 1, 0xFF, 0, pay.length, 0, pay, pktCrc (pktBody ptype hops 1 0xFF 0 pay.length 0 pay)⟩

/-- A good packet on P0 that took no hop. -/
def fromPartner (ptype : Nat) (pay : List Byte) : PktHdr := packetOn 0 ptype 0 pay

/-- Gate 4 armed with one region over its first 256 granules, and a debug unlock in force. -/
def opened : State :=
  { ready with gate := { ready.gate with
    mask := 1
    gates := List.replicate 4 gateReset1 ++
      [{ gateReset1 with armed := true, bank0 := [(0, ⟨0x30000, 0x30100, 0, 0, false, 0, 0, true⟩)] }] } }

/-- A debug write of 4 bytes in that region. -/
def debugWrite : Access := ⟨17, 0x30000FFE, 4, 1, 15, false, true, [1, 2, 3, 4], []⟩

/-- A schedule of five slots on channel A: a sync slot, a data slot and a view slot of node 1, a safety slot, and the
module's own sync slot. -/
def slots5 : List SlotEntry :=
  [⟨0, .a, 1, 10, true, 50, 0x30, 48, true⟩, ⟨1, .a, 1, 70, false, 50, 0x10, 4, true⟩,
    ⟨2, .a, 1, 130, false, 50, 0x20, 24, true⟩, ⟨3, .a, 1, 190, false, 50, 0x40, 16, true⟩,
    ⟨4, .a, 0x400, 250, true, 50, 0x30, 48, true⟩]

/-- A SYNCED module under that schedule, in the cycle that began at GT 0. -/
def networked : State :=
  { ready with
    mod := { ready.mod with tup := { ready.mod.tup with net := .synced } }
    oxn := { ready.oxn with run := some { genNone with
      num := 1
      sched := { genNone.sched with
        tOc := 1000, nitUs := 100, apOfsNs := 500, voteOfsUs := 100, nCs := 2, syncList := [1, 0x400], judgeList := [1]
        slots := slots5 }
      conns := [⟨9, 1, true, 4, some 3, 2, [], []⟩] } } }

/-- The frame that the slot's owner sends in slot `n` of `networked`. -/
def frameIn (n ftype : Nat) (pay : List Byte) : RxFrame :=
  let e := slots5.getD n default
  ⟨.a, e.start * 100, e.start * 100 + 10, frameBytes networked .a e ftype 0 pay⟩

/-- A management frame to every slot with a good check value. -/
def mgtFrame (ty : Nat) (pay : List Byte) : List Byte :=
  let body := le 1 ty ++ le 1 0xFF ++ le 2 pay.length ++ pay
  le 2 0xC33C ++ body ++ le 4 (crc32c body)

/-- A service frame with data. -/
def svc (ty : Nat) (data : List Byte) : List Byte :=
  let body := le 1 ty ++ le 1 7 ++ le 2 data.length ++ le 4 0 ++ data
  le 2 0xA55A ++ body ++ le 4 (crc32c body)

/-- The table of generation 7 whose one element is a node without contacts, decoded from its 304 bytes (Table 5.9). -/
def oneNode : IleTable :=
  let node := le 8 1 ++ [5, 0] ++ pad 2 ++ le 4 0xFFFFFFFF ++ pad 12 ++ le 4 0xFFFFFFFF
  (decodeTable true (le 4 0x31544C49 ++ le 4 1 ++ le 4 7 ++ le 4 304 ++ le 2 1 ++ pad 6 ++ le 4 272 ++ pad 36
    ++ sha512 node ++ pad 144 ++ node)).getD tableNone

/-! ### Witnesses: for each clause of an obligation, a state and operands that meet its hypotheses -/

/-- Witnesses for `Obligations.EmptyQueueIsOneTick`, clause by clause. -/
theorem test_witness_EmptyQueueIsOneTick :
    ∃ (s : State), s.pending = [] :=
  ⟨ready, by decide +kernel⟩

/-- Witnesses for `Obligations.EveryStepKeepsSound`, clause by clause. -/
theorem test_witness_EveryStepKeepsSound :
    ∃ (s : State) (u : State), s.sound = true ∧ step s = .next u :=
  ⟨ready, stateOf (step ready), by decide, rfl⟩

/-- Witnesses for `Obligations.SecurityFloorNeverFalls`, clause by clause. -/
theorem test_witness_SecurityFloorNeverFalls :
    ∃ (s : State) (u : State), s.nva.secFloor ≤ 64 ∧ step s = .next u :=
  ⟨ready, stateOf (step ready), by decide, rfl⟩

/-- Witnesses for `Obligations.CommandsLeaveTheQueue`, clause by clause. -/
theorem test_witness_CommandsLeaveTheQueue :
    ∃ (c : Instr) (s : State) (u : State), exec c s = .next u :=
  ⟨.tCommit 5, ready, _, rfl⟩

/-- Witnesses for `Obligations.OnlyDebugWritesMemory`, clause by clause. -/
theorem test_witness_OnlyDebugWritesMemory :
    ∃ (c : Instr) (s : State) (u : State), exec c s = .next u ∧ (∀ t a, c ≠ .debugAccess t a) :=
  ⟨.tCommit 5, ready, _, rfl, fun _ _ h => nomatch h⟩

/-- Witnesses for `Obligations.DebugAccessAndMemory`, clause by clause. -/
theorem test_witness_DebugAccessAndMemory :
    (∃ (t : Nat) (x : Nat) (a : Access) (s : State) (u : State), Memory.wf s.mem = true ∧ accessOk a = true ∧ a.kind =
      1 ∧ (gateDecide (asDebug a) s).1 = true ∧ exec (.debugAccess t a) s = .next u) ∧
    (∃ (t : Nat) (a : Access) (s : State) (u : State), (a.kind ≠ 1 ∨ (gateDecide (asDebug a) s).1 = false) ∧ exec
      (.debugAccess t a) s = .next u) :=
  ⟨⟨0, 0x30001001, debugWrite, opened, _, by decide, by decide, by decide, by decide, rfl⟩,
    ⟨0, { debugWrite with kind := 0, data := [] }, opened, _, by decide, rfl⟩⟩

/-- Witnesses for `Obligations.ResetValuesOfRegisters`, clause by clause. -/
theorem test_witness_ResetValuesOfRegisters :
    ∃ off : Nat, off < 0x10000 ∧ off % 4 = 0 :=
  ⟨0xFFFC, by decide⟩

/-- Witnesses for `Obligations.OffsetsWithoutRegister`, clause by clause. -/
theorem test_witness_OffsetsWithoutRegister :
    ∃ (t : Nat) (off : Nat) (val : Word) (s : State), off < 0x10000 ∧ off % 4 = 0 ∧ registerAt off = false :=
  ⟨1000000000000, 0xFFFC, (0 : Word), ready, by decide +kernel⟩

/-- Witnesses for `Obligations.SetupRegistersLockAndReadBack`, clause by clause. -/
theorem test_witness_SetupRegistersLockAndReadBack :
    (∃ (t : Nat) (off : Nat) (val : Word) (s : State), off < 0x400 ∧ s.hxp.armed = true) ∧
    (∃ (t : Nat) (n : Nat) (val : Word) (s : State) (x : Nat × Nat), n < 8 ∧ s.hxp.armed = false ∧ s.hxp.rings.length
      = 8 ∧ x ∈
      [(0x00C, 0x3FFF1), (0x010, 0xFFFFFFFF), (0x014, 0xFFFFFFFF), (0x018, 0x1FF), (0x100 + 0x20 * n, 0xFFFFFFFF), (0x104 + 0x20 * n, 0xFFFFFFFF), (0x108 + 0x20 * n, 0xFFFFFFFF), (0x10C + 0x20 * n, 0xFFFFFFFF), (0x110 + 0x20 * n, 0x1FF)]) ∧
    (∃ (t : Nat) (val : Word) (s : State) (x : Nat × Nat × Bool), x ∈
      [(0x3004, 0x1FFF, s.hl.armed), (0xC004, 0xFF, s.bst.armed), (0xF004, 0xFF01, s.tim.armed)] ∧ x.2.2 = false ∧
      s.hxp.trained = true ∧ s.mod.tup.run = .boot ∧ s.fwu.speedwell = false) ∧
    (∃ (t : Nat) (off : Nat) (val : Word) (s : State), 0x1000 ≤ off ∧ off < 0x10000 ∧ off % 4 = 0 ∧ off ∉
      [0x2024, 0x3004, 0x400C, 0xC004, 0xF004]) :=
  ⟨⟨1000000000000, 0, (0 : Word), { ready with hxp := { ready.hxp with armed := true } }, by decide +kernel⟩,
    ⟨1000000000000, 7, (0 : Word),
      { ready with hxp := { ready.hxp with armed := false, rings := List.replicate 8 ringReset } }, (0x1F0, 0x1FF),
      by decide +kernel⟩,
    ⟨1000000000000, (0 : Word),
      { ready with hxp := { ready.hxp with trained := true }, mod := { ready.mod with tup := { ready.mod.tup with run := .boot } }, fwu := { ready.fwu with speedwell := false } },
      (0xF004, 0xFF01, false), by decide +kernel⟩,
    ⟨1000000000000, 0x1000, (0 : Word), ready, by decide +kernel⟩⟩

/-- Witnesses for `Obligations.RegisterAndRingCommandsComplete`, clause by clause. -/
theorem test_witness_RegisterAndRingCommandsComplete :
    (∃ (t : Nat) (off : Nat) (size : Nat) (w : Bool) (s : State), ¬(size = 4 ∧ off % 4 = 0)) ∧
    (∃ (t : Nat) (n : Nat) (val : Word) (s : State), n < 8 ∧ s.hxp.armed = false) ∧
    (∃ (t : Nat) (n : Nat) (val : Word) (s : State), s.hxp.armed = true ∧ cfgEn (ringOf s n).cfg = true ∧ n < 8 ∧ bits
      val.toNat 0 12 < ringLen (ringOf s n).cfg) ∧
    (∃ (t : Nat) (n : Nat) (val : Word) (s : State), s.hxp.armed = true ∧ cfgEn (ringOf s n).cfg = true ∧ n < 8 ∧ bits
      val.toNat 0 12 < ringLen (ringOf s n).cfg) ∧
    (∃ (t : Nat) (val : Word) (s : State), s.hxp.armed = true ∧ cfgEn s.hxp.evq.cfg = true ∧ bits val.toNat 0 12 <
      ringLen s.hxp.evq.cfg) ∧
    (∃ (t : Nat) (val : Word) (s : State), bits val.toNat 0 4 = 1 ∧ s.hxp.armed = false ∧ isRetired s (.engine 5) =
      false ∧ armOk s.hxp = true) ∧
    (∃ (t : Nat) (val : Word) (s : State), bits val.toNat 0 4 = 2 ∧ s.hxp.armed = true) ∧
    (∃ (t : Nat) (s : State), s.hxp.armed = true ∧ s.hxp.disarming = true ∧ (∀ r ∈ s.hxp.rings, r.busy = false ∧
      r.queue = [])) ∧
    (∃ (t : Nat) (val : Word) (s : State), bits val.toNat 0 4 = 4 ∧ (ringOf s (bits val.toNat 4 3)).halted = true) ∧
    (∃ (t : Nat) (val : Word) (s : State), bits val.toNat 0 4 = 8 ∧ s.hxp.evq.halted = true) ∧
    (∃ (t : Nat) (val : Word) (s : State), 15 < 16 ∧ 15 < s.gate.gates.length) ∧
    (∃ (t : Nat) (val : Word) (s : State), ¬(22 ≤ bits val.toNat 0 5 ∧ bits val.toNat 0 5 ≤ 30)) ∧
    (∃ (t : Nat) (n : Nat) (k : Completion) (q : List Completion) (s : State), n < 8 ∧ s.hxp.armed = true ∧ (ringOf s
      n).halted = false ∧ (ringOf s n).queue = k :: q ∧ (ringOf s n).out < ringLen (ringOf s n).cfg ∧ k.irq = false) ∧
    (∃ (t : Nat) (e : Event) (es : List Event) (s : State), s.hxp.armed = true ∧ cfgEn s.hxp.evq.cfg = true ∧
      s.hxp.evq.halted = false ∧ s.hxp.events = e :: es ∧ s.hxp.evq.out < ringLen s.hxp.evq.cfg ∧ s.hxp.lostPending =
      0) ∧
    (∃ (t : Nat) (vec : Nat) (v : VecS) (s : State), Tab.find? s.hxp.vecs vec = some v ∧ v.waiting = true ∧ v.last +
      coalesceNs s ≤ max s.gt t ∧ s.hxp.pcie.msixEn = true ∧ vecOpen s vec = true) ∧
    (∃ (t : Nat) (x : Xfer) (s : State), s.hxp.armed = true) ∧
    (∃ (t : Nat) (x : Xfer) (s : State), s.hxp.armed = true) ∧
    (∃ (t : Nat) (s : State), s.hxp.perst = false ∧ s.mod.tup.run ≠ .boot ∧ (s.clk.plls.getD 6 ⟨0, false, false⟩).lock
      = true ∧ (s.clk.xa.st = 2 ∨ s.clk.xb.st = 2)) :=
  ⟨⟨1000000000000, 0, 0, true, ready, by decide +kernel⟩,
    ⟨1000000000000, 0, (0 : Word), { ready with hxp := { ready.hxp with armed := false } }, by decide +kernel⟩,
    ⟨1000000000000, 0, (0 : Word), { ready with hxp := { ready.hxp with armed := true } }, by decide +kernel⟩,
    ⟨1000000000000, 0, (0 : Word), { ready with hxp := { ready.hxp with armed := true } }, by decide +kernel⟩,
    ⟨1000000000000, (0 : Word),
      { ready with hxp := { ready.hxp with evq := { ready.hxp.evq with cfg := 0x9 }, armed := true } },
      by decide +kernel⟩,
    ⟨1000000000000, 1, { ready with hxp := { ready.hxp with armed := false } }, by decide +kernel⟩,
    ⟨1000000000000, 2, { ready with hxp := { ready.hxp with armed := true } }, by decide +kernel⟩,
    ⟨1000000000000, { ready with hxp := { ready.hxp with armed := true, disarming := true } }, by decide +kernel⟩,
    ⟨1000000000000, 4, { ready with hxp := { ready.hxp with rings := [{ ringReset with halted := true }] } },
      by decide +kernel⟩,
    ⟨1000000000000, 8, { ready with hxp := { ready.hxp with evq := { ready.hxp.evq with halted := true } } },
      by decide +kernel⟩,
    ⟨1000000000000, (0 : Word), ready, by decide +kernel⟩,
    ⟨1000000000000, (0 : Word), ready, by decide +kernel⟩,
    ⟨1000000000000, 0, default, [],
      { ready with hxp := { ready.hxp with rings := [{ ringReset with cfg := 0x9, queue := [default] }], armed := true } },
      by decide +kernel⟩,
    ⟨1000000000000, default, [],
      { ready with hxp := { ready.hxp with evq := { ready.hxp.evq with cfg := 0x9, halted := false }, events := [default], armed := true, lostPending := 0 } },
      by decide +kernel⟩,
    ⟨1000000000000, 0, ⟨0, true⟩,
      { ready with hxp := { ready.hxp with vecs := [(0, ⟨0, true⟩)], msixTab := List.replicate 4 0, pcie := { ready.hxp.pcie with msixEn := true } } },
      by decide +kernel⟩,
    ⟨1000000000000, default, { ready with hxp := { ready.hxp with armed := true } }, by decide +kernel⟩,
    ⟨1000000000000, default, { ready with hxp := { ready.hxp with armed := true } }, by decide +kernel⟩,
    ⟨1000000000000,
      { ready with clk := { ready.clk with plls := List.replicate 7 ⟨1, true, true⟩, xa := { ready.clk.xa with st := 2 } }, hxp := { ready.hxp with perst := false } },
      by decide +kernel⟩⟩

/-- Witnesses for `Obligations.HostReadCommandsComplete`, clause by clause. -/
theorem test_witness_HostReadCommandsComplete :
    (∃ (t : Nat) (c : Call) (s : State), accepts c (accDSYX + accB) s = true ∧ noGrant c = true ∧ noBuf c = true) ∧
    (∃ (t : Nat) (c : Call) (first : Nat) (count : Nat) (s : State), accepts c accDSYX s = true ∧ noGrant c = true ∧ 0
      < count ∧ count ≤ 65536 ∧ first + count ≤ 262144 ∧ 16 * count ≤ c.bufLen) ∧
    (∃ (t : Nat) (c : Call) (first : Nat) (count : Nat) (s : State), accepts c accDSYX s = true ∧ noGrant c = true ∧ 0
      < count ∧ count ≤ 65536 ∧ first + count ≤ 262144 ∧ 16 * count ≤ c.bufLen) ∧
    (∃ (t : Nat) (c : Call) (s : State), accepts c accDSYX s = true ∧ noGrant c = true ∧ 16 * s.cyc.forces.length ≤
      c.bufLen) ∧
    (∃ (t : Nat) (c : Call) (first : Nat) (last : Nat) (store : Nat) (from_ : Nat) (to_ : Nat) (bad : List Nat) (s :
      State), accepts c accDSYX s = true ∧ noGrant c = true ∧ 128 ≤ c.bufLen ∧ store ≤ 3) ∧
    (∃ (t : Nat) (c : Call) (first : Nat) (count : Nat) (s : State), accepts c (accD + accS) s = true ∧ noGrant c =
      true ∧ 32 + 24 * (snapPart first count s).length ≤ c.bufLen) ∧
    (∃ (t : Nat) (c : Call) (kind : Nat) (first : Nat) (count : Nat) (s : State), accepts c accDSYX s = true ∧ noGrant
      c = true ∧ 0 < count ∧ count ≤ 32768 ∧ first + count ≤ ileObjects s kind ∧ 8 * count ≤ c.bufLen) ∧
    (∃ (t : Nat) (c : Call) (s : State), accepts c accDSYX s = true ∧ noGrant c = true ∧ 64 ≤ c.bufLen) ∧
    (∃ (t : Nat) (c : Call) (s : State), accepts c accDSYX s = true ∧ noGrant c = true ∧ 64 ≤ c.bufLen) ∧
    (∃ (t : Nat) (c : Call) (s : State), accepts c accDSYX s = true ∧ noGrant c = true ∧ 64 ≤ c.bufLen) ∧
    (∃ (t : Nat) (c : Call) (s : State), accepts c (accDSYX + accB) s = true ∧ noGrant c = true ∧ 64 ≤ c.bufLen) ∧
    (∃ (t : Nat) (c : Call) (s : State), accepts c (accDSYX + accB) s = true ∧ noGrant c = true ∧ 204 ≤ c.bufLen) ∧
    (∃ (t : Nat) (c : Call) (window : Nat) (first : Nat) (count : Nat) (s : State), accepts c accDSYX s = true ∧
      noGrant c = true ∧ legacyOn s = true ∧ window ≤ 3 ∧ first ≤ 65535 ∧ 0 < count ∧ count ≤ 4096 ∧ window * 65536 +
      first + count ≤ 262144 ∧ 8 * count ≤ c.bufLen) ∧
    (∃ (t : Nat) (c : Call) (s : State), accepts c accDSYX s = true ∧ noGrant c = true ∧ legacyOn s = true ∧ 16 ≤
      c.bufLen) ∧
    (∃ (t : Nat) (c : Call) (opcode : Nat) (s : State), fetchable s c.ring = true ∧ 0x88 ≤ opcode ∧ opcode ≤ 0x8F) ∧
    (∃ (t : Nat) (c : Call) (opcode : Nat) (s : State), fetchable s c.ring = true ∧ knownOpcode s opcode = false) :=
  ⟨⟨1000000000000, (callWith .none 0), ready, by decide +kernel⟩,
    ⟨1000000000000, (callWith .none 1048576), 0, 1, ready, by decide +kernel⟩,
    ⟨1000000000000, (callWith .none 1048576), 0, 1, ready, by decide +kernel⟩,
    ⟨1000000000000, (callWith .none 1048576), ready, by decide +kernel⟩,
    ⟨1000000000000, (callWith .none 1048576), 0, 0, 0, 0, 0, [], ready, by decide +kernel⟩,
    ⟨1000000000000, (callWith .none 1048576), 0, 0, ready, by decide +kernel⟩,
    ⟨1000000000000, (callWith .none 1048576), 2, 0, 1,
      { ready with ile := { ready.ile with table := some { tableNone with paths := [default] } } }, by decide +kernel⟩,
    ⟨1000000000000, (callWith .none 1048576), ready, by decide +kernel⟩,
    ⟨1000000000000, (callWith .none 1048576), ready, by decide +kernel⟩,
    ⟨1000000000000, (callWith .none 1048576), ready, by decide +kernel⟩,
    ⟨1000000000000, (callWith .none 1048576), ready, by decide +kernel⟩,
    ⟨1000000000000, (callWith .none 1048576), ready, by decide +kernel⟩,
    ⟨1000000000000, (callWith .none 1048576), 3, 65535, 1, { ready with hxp := { ready.hxp with cfg := 1 } },
      by decide +kernel⟩,
    ⟨1000000000000, (callWith .none 1048576), { ready with hxp := { ready.hxp with cfg := 1 } }, by decide +kernel⟩,
    ⟨1000000000000, (callWith .none 0), 0x8F, ready, by decide +kernel⟩,
    ⟨1000000000000, (callWith .none 0), 0x80, ready, by decide +kernel⟩⟩

/-- Witnesses for `Obligations.ModeCommandsComplete`, clause by clause. -/
theorem test_witness_ModeCommandsComplete :
    (∃ (t : Nat) (c : Call) (g : Grant) (s : State), accepts c accD s = true ∧ noBuf c = true ∧ carries c 0x10
      roleOperate false (modeTarget 1 0 0) g t s = true ∧ s.mod.arb = false) ∧
    (∃ (t : Nat) (c : Call) (g : Grant) (s : State), accepts c accD s = true ∧ noBuf c = true ∧ carries c 0x10
      roleOperate false (modeTarget 2 0 0) g t s = true ∧ s.mod.arb = false) ∧
    (∃ (t : Nat) (c : Call) (g : Grant) (s : State), accepts c accD s = true ∧ noBuf c = true ∧ carries c 0x10
      roleOperate false (modeTarget 3 0 0) g t s = true ∧ s.mod.arb = false) ∧
    (∃ (t : Nat) (c : Call) (g : Grant) (s : State), accepts c accD s = true ∧ noBuf c = true ∧ carries c 0x10
      roleOperate false (modeTarget 4 0 0) g t s = true ∧ s.mod.arb = false) ∧
    (∃ (t : Nat) (c : Call) (g : Grant) (s : State), accepts c accD s = true ∧ noBuf c = true ∧ carries c 0x10
      roleSafety false (modeTarget 5 0 0) g t s = true ∧ s.mod.arb = false) ∧
    (∃ (t : Nat) (c : Call) (g : Grant) (s : State), accepts c (accD + accX) s = true ∧ noBuf c = true ∧ carries c
      0x10 roleSafety true (modeTarget 6 0 0) g t s = true ∧ s.mod.arb = false ∧ s.mod.tup.role = .retired) ∧
    (∃ (t : Nat) (c : Call) (g : Grant) (arg : Nat) (s : State), accepts c (accD + accX) s = true ∧ noBuf c = true ∧
      carries c 0x10 roleDebug false (modeTarget 7 arg 0) g t s = true ∧ s.mod.arb = false ∧ arg ≤ 1 ∧ s.mod.tup.role
      ≠ .retired) ∧
    (∃ (t : Nat) (c : Call) (g : Grant) (s : State), accepts c (accD + accS + accY) s = true ∧ noBuf c = true ∧
      carries c 0x10 roleFirmware false (modeTarget 8 0 0) g t s = true ∧ s.mod.arb = false) :=
  ⟨⟨1000000000000, (callWith (.grant (grantFor 0x10 (le 1 1 ++ le 1 0 ++ pad 2 ++ le 4 0))) 0), (grantFor 0x10 (le 1
      1 ++ le 1 0 ++ pad 2 ++ le 4 0)), { ready with mod := { ready.mod with arb := false } }, by decide +kernel⟩,
    ⟨1000000000000, (callWith (.grant (grantFor 0x10 (le 1 2 ++ le 1 0 ++ pad 2 ++ le 4 0))) 0), (grantFor 0x10 (le 1
      2 ++ le 1 0 ++ pad 2 ++ le 4 0)), { ready with mod := { ready.mod with arb := false } }, by decide +kernel⟩,
    ⟨1000000000000, (callWith (.grant (grantFor 0x10 (le 1 3 ++ le 1 0 ++ pad 2 ++ le 4 0))) 0), (grantFor 0x10 (le 1
      3 ++ le 1 0 ++ pad 2 ++ le 4 0)), { ready with mod := { ready.mod with arb := false } }, by decide +kernel⟩,
    ⟨1000000000000, (callWith (.grant (grantFor 0x10 (le 1 4 ++ le 1 0 ++ pad 2 ++ le 4 0))) 0), (grantFor 0x10 (le 1
      4 ++ le 1 0 ++ pad 2 ++ le 4 0)), { ready with mod := { ready.mod with arb := false } }, by decide +kernel⟩,
    ⟨1000000000000, (callWith (.grant (grantFor 0x10 (le 1 5 ++ le 1 0 ++ pad 2 ++ le 4 0))) 0), (grantFor 0x10 (le 1
      5 ++ le 1 0 ++ pad 2 ++ le 4 0)), { ready with mod := { ready.mod with arb := false } }, by decide +kernel⟩,
    ⟨1000000000000, (callWith (.grant (grantFor 0x10 (le 1 6 ++ le 1 0 ++ pad 2 ++ le 4 0))) 0), (grantFor 0x10 (le 1
      6 ++ le 1 0 ++ pad 2 ++ le 4 0)),
      { ready with mod := { ready.mod with arb := false, tup := { ready.mod.tup with role := .retired } } },
      by decide +kernel⟩,
    ⟨1000000000000, (callWith (.grant (grantFor 0x10 (le 1 7 ++ le 1 (0) ++ pad 2 ++ le 4 0))) 0), (grantFor 0x10 (le
      1 7 ++ le 1 (0) ++ pad 2 ++ le 4 0)), 0, { ready with mod := { ready.mod with arb := false } },
      by decide +kernel⟩,
    ⟨1000000000000, (callWith (.grant (grantFor 0x10 (le 1 8 ++ le 1 0 ++ pad 2 ++ le 4 0))) 0), (grantFor 0x10 (le 1
      8 ++ le 1 0 ++ pad 2 ++ le 4 0)), { ready with mod := { ready.mod with arb := false } }, by decide +kernel⟩⟩

/-- Witnesses for `Obligations.GenerationCommandsComplete`, clause by clause. -/
theorem test_witness_GenerationCommandsComplete :
    (∃ (t : Nat) (c : Call) (g : Grant) (box : Container) (s : State), accepts c accD s = true ∧ carries c 0x20
      roleStage false (stageTarget box) g t s = true ∧ stageGuard s = none ∧ xferBars s = false) ∧
    (∃ (t : Nat) (c : Call) (g : Grant) (gen : Nat) (x : Gen) (s : State), accepts c accD s = true ∧ noBuf c = true ∧
      carries c 0x25 roleStage false (tgtEq (le 4 gen)) g t s = true ∧ stageGuard s = none ∧ xferBars s = false ∧
      selected s gen = some x) ∧
    (∃ (t : Nat) (c : Call) (g : Grant) (cycle : Nat) (s : State), accepts c accD s = true ∧ noBuf c = true ∧ carries
      c 0x21 roleStage false (tgtEq (le 4 (genStaged s) ++ pad 4 ++ le 8 cycle)) g t s = true ∧ s.mod.arb = false) ∧
    (∃ (t : Nat) (c : Call) (g : Grant) (gen : Nat) (s : State), accepts c accD s = true ∧ noBuf c = true ∧ carries c
      0x22 roleConfirm false (tgtEq (le 4 gen)) g t s = true ∧ s.mod.arb = false) ∧
    (∃ (t : Nat) (c : Call) (g : Grant) (gen : Nat) (s : State), accepts c accD s = true ∧ noBuf c = true ∧ carries c
      0x23 roleConfirm false (tgtEq (le 4 gen)) g t s = true ∧ s.mod.arb = false) ∧
    (∃ (t : Nat) (c : Call) (g : Grant) (gen : Nat) (s : State), accepts c accD s = true ∧ noBuf c = true ∧ carries c
      0x24 roleStage false (tgtEq (le 4 gen)) g t s = true ∧ s.mod.arb = false) ∧
    (∃ (t : Nat) (c : Call) (g : Grant) (ccv : Nat) (gen : Nat) (s : State), accepts c accD s = true ∧ noBuf c = true
      ∧ carries c 0x26 roleSafety false (tgtEq (le 4 ccv ++ le 4 gen)) g t s = true ∧ ccv = ccvOf s.tio.section_) ∧
    (∃ (t : Nat) (j : StageJob) (s : State), s.chg.job = some j ∧ j.own = none ∧ checksRan j = true) ∧
    (∃ (t : Nat) (start : Nat) (revert : Bool) (cause : Nat) (s : State), s.chg.mig = some (start, revert, cause) ∧
      s.cyc.phase = .boundary) ∧
    (∃ (t : Nat) (s : State), s.cyc.phase = .boundary ∧ s.chg.mig = none) :=
  ⟨⟨1000000000000, (callWith (.grant (grantFor 0x20 ([]))) 0), (grantFor 0x20 ([])), default, ready,
      by decide +kernel⟩,
    ⟨1000000000000, (callWith (.grant (grantFor 0x25 (le 4 (1)))) 0), (grantFor 0x25 (le 4 (1))), 1,
      { (default : Gen) with num := 1 },
      { ready with chg := { ready.chg with cur := { (default : Gen) with num := 1 }, loaded := true } },
      by decide +kernel⟩,
    ⟨1000000000000, (callWith (.grant (grantFor 0x21 (le 4 (genStaged
      ({ ready with mod := { ready.mod with arb := false } })) ++ pad 4 ++ le 8 (0)))) 0), (grantFor 0x21 (le 4
      (genStaged ({ ready with mod := { ready.mod with arb := false } })) ++ pad 4 ++ le 8 (0))), 0,
      { ready with mod := { ready.mod with arb := false } }, by decide +kernel⟩,
    ⟨1000000000000, (callWith (.grant (grantFor 0x22 (le 4 (0)))) 0), (grantFor 0x22 (le 4 (0))), 0,
      { ready with mod := { ready.mod with arb := false } }, by decide +kernel⟩,
    ⟨1000000000000, (callWith (.grant (grantFor 0x23 (le 4 (0)))) 0), (grantFor 0x23 (le 4 (0))), 0,
      { ready with mod := { ready.mod with arb := false } }, by decide +kernel⟩,
    ⟨1000000000000, (callWith (.grant (grantFor 0x24 (le 4 (0)))) 0), (grantFor 0x24 (le 4 (0))), 0,
      { ready with mod := { ready.mod with arb := false } }, by decide +kernel⟩,
    ⟨1000000000000, (callWith (.grant (grantFor 0x26 (le 4 (0) ++ le 4 (0)))) 0), (grantFor 0x26 (le 4 (0) ++ le 4
      (0))), 0, 0, ready, by decide +kernel⟩,
    ⟨1000000000000, { (default : StageJob) with units := [2, 3] },
      { ready with chg := { ready.chg with job := some ({ (default : StageJob) with units := [2, 3] }) } },
      by decide +kernel⟩,
    ⟨1000000000000, 0, true, 0,
      { ready with chg := { ready.chg with mig := some ((0), true, (0)) }, cyc := { ready.cyc with phase := .boundary } },
      by decide +kernel⟩,
    ⟨1000000000000,
      { ready with cyc := { ready.cyc with phase := .boundary }, chg := { ready.chg with mig := none } },
      by decide +kernel⟩⟩

/-- Witnesses for `Obligations.HostWriteCommandsComplete`, clause by clause. -/
theorem test_witness_HostWriteCommandsComplete :
    (∃ (t : Nat) (c : Call) (g : Grant) (recs : List PointRec) (s : State), accepts c accD s = true ∧ 0 < recs.length
      ∧ recs.length ≤ 4096 ∧ c.bufLen = 16 * recs.length ∧ carries c 0x02 roleWrite false (writeTarget recs) g t s =
      true ∧ (∀ r ∈ recs, recordOk s r = true)) ∧
    (∃ (t : Nat) (c : Call) (g : Grant) (addr : Nat) (ty : Nat) (value : DWord) (s : State), accepts c accD s = true ∧
      noBuf c = true ∧ carries c 0x03 roleForce false (tgtEq (le 4 addr ++ le 1 ty ++ pad 3 ++ le 8 value.toNat)) g t
      s = true ∧ s.mod.arb = false) ∧
    (∃ (t : Nat) (c : Call) (g : Grant) (addr : Nat) (s : State), accepts c accD s = true ∧ noBuf c = true ∧ carries c
      0x04 roleForce false (tgtEq (le 4 addr)) g t s = true ∧ s.mod.arb = false) ∧
    (∃ (t : Nat) (c : Call) (g : Grant) (off : Nat) (total : Nat) (data : List Byte) (hdr : Option ImageHdr) (s :
      State), accepts c (accD + accS + accY) s = true ∧ c.bufLen = data.length ∧ 4 ≤ data.length ∧ data.length ≤
      1048576 ∧ carries c 0x30 roleFirmware false (tgtEq (le 4 total)) g t s = true ∧ s.mod.tup.fw ≠ .trial ∧
      chunkArgsOk off total data.length = true) ∧
    (∃ (t : Nat) (c : Call) (g : Grant) (s : State), accepts c (accD + accS + accY) s = true ∧ noBuf c = true ∧
      (slotOf s.nva (altSlot s)).complete = true ∧ carries c 0x31 roleFirmware false (tgtEq (le 16 (slotOf s.nva
      (altSlot s)).digest)) g t s = true ∧ activateGuard s = none) ∧
    (∃ (t : Nat) (c : Call) (g : Grant) (first : Nat) (last : Nat) (store : Nat) (from_ : Nat) (to_ : Nat) (s :
      State), accepts c accD s = true ∧ noBuf c = true ∧ carries c 0x41 roleRecord false (recTarget first last store
      from_ to_) g t s = true ∧ store ≤ 3 ∧ from_ % (3600 * sec) = 0 ∧ to_ % (3600 * sec) = 0) ∧
    (∃ (t : Nat) (c : Call) (id : Nat) (at_ : Nat) (s : State), accepts c accD s = true ∧ noGrant c = true ∧ noBuf c =
      true ∧ firstInLine s c.ring = true ∧ 0 < id ∧ id ≤ 65535 ∧ max s.gt t + 5 * ms ≤ at_ ∧ at_ < max s.gt t + 60 *
      sec ∧ s.tim.clv.st ≠ 1 ∧ s.tim.clv.st ≠ 2) ∧
    (∃ (t : Nat) (c : Call) (g : Grant) (b : OpBody) (s : State), accepts c accD s = true ∧ noBuf c = true ∧
      b.reservedZero = true ∧ carries c 0x50 roleIle false (tgtEq (opBodyBytes 1 b)) g t s = true) ∧
    (∃ (t : Nat) (c : Call) (g : Grant) (b : OpBody) (s : State), accepts c accD s = true ∧ noBuf c = true ∧
      b.reservedZero = true ∧ carries c 0x50 roleIle false (tgtEq (opBodyBytes 2 b)) g t s = true) ∧
    (∃ (t : Nat) (c : Call) (g : Grant) (b : OpBody) (void : Bool) (s : State), accepts c accD s = true ∧ noBuf c =
      true ∧ void = (decide (s.mod.tup.ile = .withdrawn) || s.ile.withdrawnNow) ∧ b.reservedZero = true ∧ carries c
      0x50 roleIle false (tgtEq (opBodyBytes 3 b)) g t s = true) ∧
    (∃ (t : Nat) (c : Call) (g : Grant) (gt : Nat) (s : State), accepts c (accD + accY + accX) s = true ∧ noBuf c =
      true ∧ carries c 0x58 roleTime true (tgtEq (le 8 gt)) g t s = true ∧ (s.mod.tup.net = .listen ∨ s.mod.tup.net =
      .passive) ∧ isStm s = false) ∧
    (∃ (t : Nat) (c : Call) (g : Grant) (ch : Nat) (cmd : Nat) (data : List Byte) (s : State), accepts c accD s = true
      ∧ data.length ≤ c.bufLen ∧ data.length ≤ 31 ∧ cmd ≤ 255 ∧ ch ≤ 3 ∧ carries c 0x62 roleOperate false (hartTarget
      ch) g t s = true ∧ hartMaster s ch = true) ∧
    (∃ (t : Nat) (c : Call) (g : Grant) (mask : Nat) (s : State), accepts c accDSYX s = true ∧ noBuf c = true ∧
      carries c 0x63 roleDebug false (tgtEq (le 4 mask)) g t s = true ∧ 0 < mask ∧ mask ≤ 127 ∧ unlockLegal s = true) ∧
    (∃ (t : Nat) (c : Call) (g : Grant) (k : KeyRec) (s : State), accepts c accD s = true ∧ c.bufLen = 140 ∧ firstKey
      s k = false ∧ carries c 0x64 roleKeys true (keyTarget k) g t s = true ∧ k.slot ≤ 7 ∧ k.roles ≤ 4095 ∧ changeRole
      s = true ∧ keysHeld (keysWith k s.nva.keys) = true) ∧
    (∃ (t : Nat) (c : Call) (slot : Nat) (g : Grant) (s : State), accepts c (accD + accS + accY) s = true ∧ noGrant c
      = true ∧ firstInLine s c.ring = true ∧ c.bufLen = 196 ∧ slot ≤ 15 ∧ grantCheck (taken c t s) true false
      (standingRole g.action) (standingRole g.action).isSome (heldTarget g.action) g = none) ∧
    (∃ (t : Nat) (c : Call) (slot : Nat) (s : State), accepts c accDSYX s = true ∧ noGrant c = true ∧ noBuf c = true ∧
      slot ≤ 15) ∧
    (∃ (t : Nat) (ring : Nat) (desc : List Byte) (buf : HostBuf) (g : Option Grant) (held : Bool) (s : State),
      desc.length = 64 ∧ nextRing s = some ring ∧ (isChanging (field desc 0 1) = true → firstInLine s ring = true)) :=
  ⟨⟨1000000000000, (callWith (.grant (grantFor 0x02 (le 4 3 ++ le 4 1))) (16 * (([⟨3, 1, 1⟩] : List
      PointRec)).length)), (grantFor 0x02 (le 4 3 ++ le 4 1)), ([⟨3, 1, 1⟩] : List PointRec),
      { ready with chg := { ready.chg with cur := { ready.chg.cur with points := [⟨3, false, .bool, 0, none, 0, .host⟩] } } },
      by decide +kernel⟩,
    ⟨1000000000000, (callWith (.grant (grantFor 0x03 (le 4 (0) ++ le 1 (0) ++ pad 3 ++ le 8 ((0 : DWord)).toNat))) 0),
      (grantFor 0x03 (le 4 (0) ++ le 1 (0) ++ pad 3 ++ le 8 ((0 : DWord)).toNat)), 0, 0, (0 : DWord),
      { ready with mod := { ready.mod with arb := false } }, by decide +kernel⟩,
    ⟨1000000000000, (callWith (.grant (grantFor 0x04 (le 4 (0)))) 0), (grantFor 0x04 (le 4 (0))), 0,
      { ready with mod := { ready.mod with arb := false } }, by decide +kernel⟩,
    ⟨1000000000000, (callWith (.grant (grantFor 0x30 (le 4 (4096)))) (([0, 0, 0, 0]).length)), (grantFor 0x30 (le 4
      (4096))), 0, 4096, [0, 0, 0, 0], none, ready, by decide +kernel⟩,
    ⟨1000000000000, (callWith (.grant (grantFor 0x31 (le 16 (slotOf
      ({ ready with nva := { ready.nva with slotA := { (default : ImgSlot) with complete := true }, slotB := { (default : ImgSlot) with complete := true } } }).nva
      (altSlot
      ({ ready with nva := { ready.nva with slotA := { (default : ImgSlot) with complete := true }, slotB := { (default : ImgSlot) with complete := true } } }))).digest)))
      0), (grantFor 0x31 (le 16 (slotOf
      ({ ready with nva := { ready.nva with slotA := { (default : ImgSlot) with complete := true }, slotB := { (default : ImgSlot) with complete := true } } }).nva
      (altSlot
      ({ ready with nva := { ready.nva with slotA := { (default : ImgSlot) with complete := true }, slotB := { (default : ImgSlot) with complete := true } } }))).digest)),
      { ready with nva := { ready.nva with slotA := { (default : ImgSlot) with complete := true }, slotB := { (default : ImgSlot) with complete := true } } },
      by decide +kernel⟩,
    ⟨1000000000000, (callWith (.grant (grantFor 0x41 ([]))) 0), (grantFor 0x41 ([])), 0, 0, 0, 0, 0, ready,
      by decide +kernel⟩,
    ⟨1000000000000, (callWith .none 0), 65535, 1000005000000, ready, by decide +kernel⟩,
    ⟨1000000000000, (callWith (.grant (grantFor 0x50 (opBodyBytes 1 (⟨1, 2, true⟩)))) 0), (grantFor 0x50 (opBodyBytes
      1 (⟨1, 2, true⟩))), ⟨1, 2, true⟩, ready, by decide +kernel⟩,
    ⟨1000000000000, (callWith (.grant (grantFor 0x50 (opBodyBytes 2 (⟨1, 2, true⟩)))) 0), (grantFor 0x50 (opBodyBytes
      2 (⟨1, 2, true⟩))), ⟨1, 2, true⟩, ready, by decide +kernel⟩,
    ⟨1000000000000, (callWith (.grant (grantFor 0x50 (opBodyBytes 3 (⟨1, 2, true⟩)))) 0), (grantFor 0x50 (opBodyBytes
      3 (⟨1, 2, true⟩))), ⟨1, 2, true⟩, true, ready, by decide +kernel⟩,
    ⟨1000000000000, (callWith (.grant (grantFor 0x58 (le 8 (0)))) 0), (grantFor 0x58 (le 8 (0))), 0, ready,
      by decide +kernel⟩,
    ⟨1000000000000, (callWith (.grant (grantFor 0x62 ([8]))) 1048576), (grantFor 0x62 ([8])), 3, 0, [],
      { ready with alp := { ready.alp with par := List.replicate 4 { alParamOff with mode := .input }, ch := List.replicate 4 { alChReset with en := true } } },
      by decide +kernel⟩,
    ⟨1000000000000, (callWith (.grant (grantFor 0x63 (le 4 (127)))) 0), (grantFor 0x63 (le 4 (127))), 127, ready,
      by decide +kernel⟩,
    ⟨1000000000000, (callWith (.grant (grantFor 0x64 (le 1 7 ++ pad 1 ++ le 2 4095 ++ (sha512 (keyBytes ⟨7, 4095, 0,
      0⟩)).take 12))) 140), (grantFor 0x64 (le 1 7 ++ pad 1 ++ le 2 4095 ++ (sha512 (keyBytes ⟨7, 4095, 0, 0⟩)).take
      12)), ⟨7, 4095, 0, 0⟩, ready, by decide +kernel⟩,
    ⟨1000000000000, (callWith .none 196), 15, (grantWith 0 0x02 1 []), ready, by decide +kernel⟩,
    ⟨1000000000000, (callWith .none 0), 0, ready, by decide +kernel⟩,
    ⟨1000000000000, 0, (List.replicate 64 0), default, none, true, ready, by decide +kernel⟩⟩

/-- Witnesses for `Obligations.ProgramCycleCommandsComplete`, clause by clause. -/
theorem test_witness_ProgramCycleCommandsComplete :
    (∃ (t : Nat) (s : State), driving s = true ∧ s.mod.tup.run = .run ∧ s.cyc.phase = .boundary ∧ s.chg.mig = none ∧
      handoverHolds s = false ∧ s.cyc.minDone = true ∧ s.clk.gapFrom = none) ∧
    (∃ (t : Nat) (s : State), s.cyc.phase = .boundary ∧ minPassed (atT t s) = true) ∧
    (∃ (t : Nat) (s : State), s.mod.tup.role = .active ∧ s.cyc.phase = .agree ∧ s.cyc.tc + s.cyc.par.agreeTimeout ≤
      max s.gt t) ∧
    (∃ (t : Nat) (m : ExecMeas) (s : State), s.cyc.phase = .execute) ∧
    (∃ (t : Nat) (c : Nat) (equal : Bool) (s : State), s.cyc.phase = .execute ∧ c < 4 ∧ isRetired s (.cell c) = false) ∧
    (∃ (t : Nat) (s : State), s.cyc.executing = true ∧ (s.cyc.phase = .execute ∨ s.cyc.phase = .agree) ∧ s.cyc.attempt
      + s.cyc.par.scanWdt ≤ max s.gt t ∧ s.cyc.retried = false) ∧
    (∃ (t : Nat) (s : State), s.cyc.phase = .sig ∧ s.cyc.tc + 2 * s.cyc.par.scanWdt ≤ max s.gt t ∧ s.mod.valid =
      false) ∧
    (∃ (t : Nat) (s : State), s.cyc.phase = .sig ∧ s.cyc.tc + 2 * s.cyc.par.scanWdt ≤ max s.gt t ∧ s.mod.valid = true) ∧
    (∃ (t : Nat) (s : State), s.cyc.phase = .house ∧ sliceRuns s = false) :=
  ⟨⟨1000000000000,
      { ready with mod := { ready.mod with tup := { ready.mod.tup with run := .run } }, cyc := { ready.cyc with phase := .boundary, minDone := true }, chg := { ready.chg with mig := none }, clk := { ready.clk with gapFrom := none } },
      by decide +kernel⟩,
    ⟨1000000000000, { ready with cyc := { ready.cyc with phase := .boundary } }, by decide +kernel⟩,
    ⟨1000000000000,
      { ready with mod := { ready.mod with tup := { ready.mod.tup with role := .active } }, cyc := { ready.cyc with phase := .agree } },
      by decide +kernel⟩,
    ⟨1000000000000, default, { ready with cyc := { ready.cyc with phase := .execute } }, by decide +kernel⟩,
    ⟨1000000000000, 0, true, { ready with cyc := { ready.cyc with phase := .execute } }, by decide +kernel⟩,
    ⟨1000000000000, { ready with cyc := { ready.cyc with executing := true, phase := .execute, retried := false } },
      by decide +kernel⟩,
    ⟨1000000000000, { ready with cyc := { ready.cyc with phase := .sig }, mod := { ready.mod with valid := false } },
      by decide +kernel⟩,
    ⟨1000000000000, { ready with cyc := { ready.cyc with phase := .sig }, mod := { ready.mod with valid := true } },
      by decide +kernel⟩,
    ⟨1000000000000, { ready with cyc := { ready.cyc with phase := .house } }, by decide +kernel⟩⟩

/-- Witnesses for `Obligations.NetworkCommandsComplete`, clause by clause. -/
theorem test_witness_NetworkCommandsComplete :
    (∃ (t : Nat) (n : Nat) (devs : List LaneDev) (s : State), cycleDue n (atT t s) = true) ∧
    (∃ (t : Nat) (slot : Nat) (c : Chan) (e : SlotEntry) (b : List Byte) (s : State), slotAt s c slot = some e ∧
      mayBegin (atT t s) c e = true ∧ txFrame (atT t s) c e = some b) ∧
    (∃ (t : Nat) (f : RxFrame) (e : SlotEntry) (s : State), chRetired s f.chan = false ∧ keepsCycle s = true ∧ hears s
      f.chan = true ∧ (frameHdr f.bytes).ftype = 0x10 ∧ frameOk (atT t s) f = some e ∧ dataPadOk (packsOf s f.chan
      e.slot) (framePay f.bytes) = true) ∧
    (∃ (t : Nat) (f : RxFrame) (e : SlotEntry) (s : State), chRetired s f.chan = false ∧ keepsCycle s = true ∧ hears s
      f.chan = true ∧ (frameHdr f.bytes).ftype = 0x20 ∧ frameOk (atT t s) f = some e ∧ pduZeros (framePay f.bytes) =
      true) ∧
    (∃ (t : Nat) (f : RxFrame) (e : SlotEntry) (s : State), netUp s = true ∧ syncHears s f.chan = true ∧ (frameHdr
      f.bytes).ftype = 0x30 ∧ frameOk (atT t s) f = some e ∧ e.ftype = 0x30 ∧ syncOk f s = true) ∧
    (∃ (t : Nat) (f : RxFrame) (e : SlotEntry) (s : State), s.mod.tup.net = .listen ∧ joins s = false ∧ syncHears s
      f.chan = true ∧ (frameHdr f.bytes).ftype = 0x31 ∧ startOk (atT t s) f = some e) ∧
    (∃ (t : Nat) (f : RxFrame) (e : SlotEntry) (s : State), chRetired s f.chan = false ∧ keepsCycle s = true ∧ hears s
      f.chan = true ∧ (frameHdr f.bytes).ftype = 0x40 ∧ frameOk (atT t s) f = some e ∧ (framePay f.bytes).length = 16
      ∧ field (framePay f.bytes) 12 4 = crc32cFrom (0x56490000 + e.owner) ((framePay f.bytes).take 12) ∧ zeros
      (framePay f.bytes) 9 3 = true ∧ field (framePay f.bytes) 8 1 < 4 ∧ field (framePay f.bytes) 4 2 < 4096 ∧ field
      (framePay f.bytes) 6 2 < 4096 ∧ e.owner ∈ (runGen s).sched.judgeList ∧ field (framePay f.bytes) 0 4 = (s.oxn.n +
      2 ^ 32 - 1) % 2 ^ 32 ∧ (∀ v ∈ s.oxn.views, v.judge ≠ e.owner)) ∧
    (∃ (t : Nat) (a : Bool) (b : Bool) (s : State), idleDue (atT t s) = true) ∧
    (∃ (t : Nat) (conn : Nat) (c : SafetyConn) (s : State), (rxConns s).find? (·.conn = conn) = some c ∧ connValid
      (atT t s) c = false ∧ (connOf s conn).invalid = false) ∧
    (∃ (t : Nat) (r : Nat) (s : State), rankOf s (ownNode s) = some r ∧ s.mod.tup.net = .listen ∧ refGood s = true ∧
      s.mod.tup.run ≠ .boot ∧ s.oxn.netNext = none ∧ 0 < tOcNs s ∧ s.oxn.listenAt + (4 + 2 * r) * tOcNs s ≤ max s.gt t
      ∧ (chRetired s .a = false ∨ chRetired s .b = false)) ∧
    (∃ (t : Nat) (s : State), s.mod.tup.net = .coldLead ∧ 64 ≤ s.oxn.leadCycles ∧ s.oxn.netNext = none) ∧
    (∃ (t : Nat) (s : State), s.mod.tup.net = .integrating ∧ 16 ≤ s.oxn.intFails) ∧
    (∃ (t : Nat) (s : State), netUp s = true ∧ (4 ≤ s.oxn.noSync ∨ 2 ≤ s.tim.oobRun) ∧ s.oxn.netNext ≠ some .listen) ∧
    (∃ (t : Nat) (t0 : Nat) (k : Nat) (c : Chan) (s : State), (chanOf s c).observe = some (t0, k) ∧ t0 + 10 * sec ≤
      max s.gt t) :=
  ⟨⟨1000000000000, 1, [], networked, by decide +kernel⟩,
    ⟨26000, 4, .a, (slots5.getD 4 default), ((txFrame (atT 26000 networked) .a (slots5.getD 4 default)).getD []),
      networked, by decide +kernel⟩,
    ⟨1000000000000, (frameIn 1 0x10 (pad 4)), (slots5.getD 1 default), networked, by decide +kernel⟩,
    ⟨1000000000000, (frameIn 2 0x20 (List.replicate 24 0)), (slots5.getD 2 default), networked, by decide +kernel⟩,
    ⟨1000000000000, (frameIn 0 0x30 (pad 48)), (slots5.getD 0 default), networked, by decide +kernel⟩,
    ⟨1000000000000, (frameIn 0 0x31 (pad 48)), (slots5.getD 0 default),
      { networked with mod := { networked.mod with tup := { networked.mod.tup with net := .listen } } },
      by decide +kernel⟩,
    ⟨1000000000000, (frameIn 3 0x40 ((le 4 0xFFFFFFFF ++ pad 8) ++ le 4 (crc32cFrom (0x56490000 + 1) (le 4 0xFFFFFFFF
      ++ pad 8)))), (slots5.getD 3 default), networked, by decide +kernel⟩,
    ⟨1000000000000, true, true, networked, by decide +kernel⟩,
    ⟨1000000000000, 9, ⟨9, 1, true, 4, some 3, 2, [], []⟩,
      { networked with oxn := { networked.oxn with conns := [⟨9, none, [], 0, false⟩] } }, by decide +kernel⟩,
    ⟨1000000000000, 1,
      { networked with mod := { networked.mod with tup := { networked.mod.tup with net := .listen } }, clk := { networked.clk with plls := List.replicate 7 ⟨1, true, true⟩, xa := { networked.clk.xa with st := 2 } }, oxn := { networked.oxn with netNext := none } },
      by decide +kernel⟩,
    ⟨1000000000000,
      { networked with mod := { networked.mod with tup := { networked.mod.tup with net := .coldLead } }, oxn := { networked.oxn with leadCycles := 64, netNext := none } },
      by decide +kernel⟩,
    ⟨1000000000000,
      { networked with mod := { networked.mod with tup := { networked.mod.tup with net := .integrating } }, oxn := { networked.oxn with intFails := 16 } },
      by decide +kernel⟩,
    ⟨1000000000000, { networked with oxn := { networked.oxn with noSync := 4 } }, by decide +kernel⟩,
    ⟨1000000000000, 0, 3, .a,
      { networked with oxn := { networked.oxn with chA := { networked.oxn.chA with observe := some (0, 3) } } },
      by decide +kernel⟩⟩

/-- Witnesses for `Obligations.InterlockingCommandsComplete`, clause by clause. -/
theorem test_witness_InterlockingCommandsComplete :
    (∃ (t : Nat) (l : Lane) (fault : LaneFault) (s : State), s.ile.evald = true ∧ l ∈ evaluating s ∧ (laneOf s
      l).reseed = 0 ∧ (laneOf s l).pres = none ∧ max s.gt t + 20 * us < s.ile.cn + voteOfs s) ∧
    (∃ (t : Nat) (s : State), s.ile.cn + voteOfs s ≤ max s.gt t + 20 * us ∧ s.ile.upN ≠ s.ile.n ∧ s.ile.withdrawnNow =
      false ∧ s.ile.evald = true) ∧
    (∃ (t : Nat) (sweep : List (Lane × Bool)) (s : State), s.ile.table ≠ none ∧ s.ile.upN ≠ s.ile.n ∧ s.ile.cn +
      voteOfs s ≤ max s.gt t ∧ s.mod.tup.run ≠ .boot ∧ s.ile.withdrawnNow = false ∧ s.ile.evald = true) ∧
    (∃ (t : Nat) (sweep : List (Lane × Bool)) (s : State), s.ile.upN ≠ s.ile.n ∧ s.ile.cn + voteOfs s ≤ max s.gt t ∧
      s.mod.tup.run ≠ .boot ∧ (s.ile.table = none ∨ s.ile.withdrawnNow = true ∨ s.ile.evald = false)) ∧
    (∃ (t : Nat) (l : Lane) (m : Lane) (s : State), (laneOf s l).reseed = 1 ∧ reseedFrom s l = some m ∧ (∀ x ∈
      setTables (laneSetOf s m), heldOk s x = true)) ∧
    (∃ (t : Nat) (i : Nat) (s : State), s.ile.evald = true ∧ (s.ile.dyn.paths.getD i pathFree).st = .requested ∧
      (s.ile.dyn.paths.getD i pathFree).setN ≠ s.ile.n ∧ reqPresent s i = true ∧ (s.ile.dyn.paths.getD i
      pathFree).setStart + (pathAt (curTable s) i).setTimeoutS * sec ≤ s.ile.cn) ∧
    (∃ (t : Nat) (i : Nat) (s : State), s.ile.evald = true ∧ (s.ile.dyn.paths.getD i pathFree).st = .releasing ∧
      (s.ile.dyn.paths.getD i pathFree).relN ≠ s.ile.n ∧ (s.ile.dyn.paths.getD i pathFree).relStart + releaseNs
      (pathAt (curTable s) i) (s.ile.dyn.paths.getD i pathFree) ≤ s.ile.cn ∧ (posOf s.ile.dyn.elems (pathAt (curTable
      s) i).dst = .a ∨ (s.ile.dyn.paths.getD i pathFree).emerg = true) ∧ posOf s.ile.dyn.elems (pathAt (curTable s)
      i).closer = .a ∧ reqPresent s i = false) ∧
    (∃ (t : Nat) (i : Nat) (s : State), s.ile.evald = true ∧ i < s.ile.dyn.elems.length ∧ (s.ile.dyn.elems.getD i
      elemNone).fault = false ∧ (s.ile.dyn.elems.getD i elemNone).combo ≠ 0 ∧ ((s.ile.dyn.elems.getD i elemNone).combo
      = 2 ∨ (s.ile.dyn.elems.getD i elemNone).since + (elemAt (curTable s) i).travel ≤ s.ile.cn)) ∧
    (∃ (t : Nat) (h : Nat) (s : State), s.ile.hold = some h ∧ h ≤ max s.gt t) ∧
    (∃ (t : Nat) (pair : Nat) (b : BndS) (s : State), bndOf s pair = some b ∧ b.invalid = false ∧ bndNewest s.ile.cn
      s.cyc.par.bndTimeout b = none) :=
  ⟨⟨1000000000000, .a, default,
      { ready with ile := { ready.ile with evald := true, lanes := (List.replicate 3 { laneReset with admitted := true }), cn := 1000000020001 } },
      by decide +kernel⟩,
    ⟨1000000000000, { ready with ile := { ready.ile with evald := true, withdrawnNow := false, n := 1 } },
      by decide +kernel⟩,
    ⟨1000000000000, [],
      { ready with ile := { ready.ile with table := some { tableNone with paths := [⟨1, 0, 0, 0, [], [], [], 1, 0, 10, 0, 0, none⟩], elems := [elemAbsent] }, evald := true, withdrawnNow := false, n := 1 } },
      by decide +kernel⟩,
    ⟨1000000000000, [],
      { ready with ile := { ready.ile with table := some { tableNone with paths := [⟨1, 0, 0, 0, [], [], [], 1, 0, 10, 0, 0, none⟩], elems := [elemAbsent] }, n := 1 } },
      by decide +kernel⟩,
    ⟨1000000000000, .a, .b,
      { ready with ile := { ready.ile with lanes := [{ laneReset with reseed := 1 }, { laneReset with admitted := true, set := { laneSetReset with table := some oneNode } }] } },
      by decide +kernel⟩,
    ⟨1000000000000, 0,
      { ready with ile := { ready.ile with table := some { tableNone with paths := [⟨1, 0, 0, 0, [], [], [], 1, 0, 10, 0, 0, none⟩], elems := [elemAbsent] }, cn := 1000000000, dyn := { ready.ile.dyn with paths := [{ pathFree with st := .requested, setN := 7 }] }, evald := true }, oxn := { ready.oxn with txImg := [(0, { Entry.zero with value := 0x1000001 })] } },
      by decide +kernel⟩,
    ⟨1000000000000, 0,
      { ready with ile := { ready.ile with table := some { tableNone with paths := [⟨1, 0, 0, 0, [], [], [], 1, 0, 10, 0, 0, none⟩], elems := [elemAbsent] }, cn := 1000000000, dyn := { ready.ile.dyn with paths := [{ pathFree with st := .releasing, relN := 7 }], elems := [{ elemNone with pos := .a }] }, evald := true } },
      by decide +kernel⟩,
    ⟨1000000000000, 0,
      { ready with ile := { ready.ile with dyn := { ready.ile.dyn with elems := [{ elemNone with combo := 2 }] }, evald := true } },
      by decide +kernel⟩,
    ⟨1000000000000, 0, { ready with ile := { ready.ile with hold := some (0) } }, by decide +kernel⟩,
    ⟨1000000000000, 5, ⟨5, none, [], false⟩, { ready with ile := { ready.ile with bnd := [⟨5, none, [], false⟩] } },
      by decide +kernel⟩⟩

/-- Witnesses for `Obligations.PairCommandsComplete`, clause by clause. -/
theorem test_witness_PairCommandsComplete :
    (∃ (t : Nat) (s : State), plvOn s = true ∧ s.mod.tup.role ≠ .retired ∧ 0 < s.plv.ports.length) ∧
    (∃ (t : Nat) (h : PktHdr) (m : AuthMsg) (s : State), h.port = 0 ∧ pktOk h 0x0E = true ∧ portUp s 0 = true) ∧
    (∃ (t : Nat) (s : State), s.mod.tup.run ≠ .boot ∧ s.mod.tup.run ≠ .safe ∧ s.plv.authOk = true ∧ portUp s 0 = true
      ∧ (∀ l, s.plv.hbSent = some l → l + 990 * us ≤ max s.gt t)) ∧
    (∃ (t : Nat) (h : PktHdr) (data : List Byte) (s : State), p0Good 0x01 h s = true ∧ data = h.pay ∧ hbOk data = true
      ∧ s.plv.pairWait = none ∧ (hbTake data (atT t s)).plv.pairWait = none) ∧
    (∃ (t : Nat) (l : Nat) (s : State), s.plv.lastHb = some l ∧ s.plv.silent = false ∧ l + 3 * ms ≤ max s.gt t) ∧
    (∃ (t : Nat) (h : PktHdr) (m : AgreeMsg) (s : State), p0Good 0x02 h s = true) ∧
    (∃ (t : Nat) (h : PktHdr) (l : List Nat) (s : State), p0Good 0x03 h s = true) ∧
    (∃ (t : Nat) (h : PktHdr) (k : Nat) (es : List (Nat × Entry)) (s : State), p0Good 0x04 h s = true) ∧
    (∃ (t : Nat) (h : PktHdr) (n : Nat) (s : State), p0Good 0x05 h s = true) ∧
    (∃ (t : Nat) (h : PktHdr) (n : Nat) (g : Nat) (s : State), p0Good 0x06 h s = true) ∧
    (∃ (t : Nat) (h : PktHdr) (ver : Nat) (at_ : Nat) (fs : List Force) (s : State), p0Good 0x07 h s = true ∧
      s.mod.tup.role = .standby) ∧
    (∃ (t : Nat) (h : PktHdr) (m : SnapSent) (s : State), p0Good 0x08 h s = true ∧ shadows s = true ∧ s.ile.table ≠
      none ∧ s.ile.evald = false ∧ s.ile.pairStep = false ∧ s.ile.withdrawnNow = false) ∧
    (∃ (t : Nat) (h : PktHdr) (d : Nat) (s : State), p0Good 0x09 h s = true ∧ s.mod.tup.role = .standby ∧ s.ile.evald
      = true ∧ s.ile.digest ≠ d) ∧
    (∃ (t : Nat) (h : PktHdr) (n : Nat) (dyn : IleDyn) (old : Option IleTable) (s : State), p0Good 0x0A h s = true ∧
      shadows s = true ∧ s.ile.withdrawnNow = false) ∧
    (∃ (t : Nat) (h : PktHdr) (n : Nat) (s : State), p0Good 0x0B h s = true ∧ s.mod.tup.role = .standby ∧ atBoundary s
      = true ∧ n ≤ s.cyc.cycle) ∧
    (∃ (t : Nat) (h : PktHdr) (s : State), p0Good 0x0B h s = true ∧ s.mod.tup.role = .active ∧ s.cyc.phase ≠
      .boundary) ∧
    (∃ (t : Nat) (h : PktHdr) (cause : ArbCause) (td : Nat) (s : State), p0Good 0x0B h s = true ∧ arbMay s = true ∧
      s.mod.arb = false) ∧
    (∃ (t : Nat) (h : PktHdr) (tier : Nat) (at_ : Nat) (s : State), p0Good 0x0B h s = true ∧ tier < 4 ∧ s.mod.tup.role
      = .standby) ∧
    (∃ (t : Nat) (h : PktHdr) (r : Relay) (at_ : Nat) (s : State), p0Good 0x0B h s = true) ∧
    (∃ (t : Nat) (h : PktHdr) (d : ResyncData) (s : State), p0Good 0x0C h s = true ∧ s.mod.tup.role = .syncing ∧
      s.plv.source = false) ∧
    (∃ (t : Nat) (h : PktHdr) (off : Nat) (tot : Nat) (data : List Byte) (hdr : Option ImageHdr) (s : State), p0Good
      0x0D h s = true ∧ s.mod.tup.role = .syncing ∧ s.plv.step = 2 ∧ off % 4096 = 0 ∧ off + data.length ≤ tot) ∧
    (∃ (t : Nat) (s : State), s.mod.tup.role = .syncing) ∧
    (∃ (t : Nat) (s : State), s.mod.tup.role = .active ∧ s.plv.source = true) ∧
    (∃ (t : Nat) (s : State), s.mod.tup.role = .syncing ∧ stepLate (atT t s) = true) ∧
    (∃ (t : Nat) (s : State), s.mod.tup.role = .syncing ∧ s.plv.step ≠ 0 ∧ s.plv.attemptStart + 120 * sec ≤ max s.gt
      t) ∧
    (∃ (t : Nat) (s : State), s.mod.arb = true ∧ s.oxn.judged = true ∧ s.plv.arbTd + 500 * ms + nitNs s ≤ s.oxn.cn +
      tOcNs s ∧ s.mod.tup.role = .standby) ∧
    (∃ (t : Nat) (w : Nat) (s : State), s.plv.pairWait = some w ∧ w + s.chg.cur.modCfg.pairWaitS * sec ≤ max s.gt t) ∧
    (∃ (t : Nat) (s : State), s.plv.handoverAt.isSome = true ∧ s.cyc.phase = .boundary ∧ s.mod.arb = false ∧
      handoverOk (atT t s) = true ∧ (keepsCycle s = true → clearOfBoundary (atT t s) = true)) ∧
    (∃ (t : Nat) (port : Nat) (lane : Nat) (s : State), (portOf s port).lanes ≠ 0) ∧
    (∃ (t : Nat) (port : Nat) (s : State), 16 < (portOf s port).recent.length) ∧
    (∃ (t : Nat) (port : Nat) (r : Nat) (s : State), (portOf s port).readmit = some r ∧ (portOf s port).lanes ≠ 0 ∧ r
      + sec ≤ max s.gt t ∧ isRetired s (.plv port) = true) ∧
    (∃ (t : Nat) (port : Nat) (lanes : Nat) (s : State), plvOn s = true ∧ port < 3 ∧ (lanes = 2 ∨ lanes = 4) ∧ (port =
      0 → s.mod.tup.role ≠ .retired)) :=
  ⟨⟨1000000000000, paired, by decide +kernel⟩,
    ⟨1000000000000, (fromPartner 0x0E []), default, paired, by decide +kernel⟩,
    ⟨1000000000000, { paired with plv := { paired.plv with authOk := true } }, by decide +kernel⟩,
    ⟨1000000000000, (fromPartner 0x01 (hbBytes paired)), (hbBytes paired),
      { paired with plv := { paired.plv with pairWait := none } }, by decide +kernel⟩,
    ⟨1000000000000, 0, { paired with plv := { paired.plv with lastHb := some (0), silent := false } },
      by decide +kernel⟩,
    ⟨1000000000000, (fromPartner 0x02 []), default, paired, by decide +kernel⟩,
    ⟨1000000000000, (fromPartner 0x03 []), [], paired, by decide +kernel⟩,
    ⟨1000000000000, (fromPartner 0x04 []), 0, [], paired, by decide +kernel⟩,
    ⟨1000000000000, (fromPartner 0x05 []), 0, paired, by decide +kernel⟩,
    ⟨1000000000000, (fromPartner 0x06 []), 0, 0, paired, by decide +kernel⟩,
    ⟨1000000000000, (fromPartner 0x07 []), 0, 0, [],
      { paired with mod := { paired.mod with tup := { paired.mod.tup with role := .standby } } }, by decide +kernel⟩,
    ⟨1000000000000, (fromPartner 0x08 []), default,
      { paired with mod := { paired.mod with tup := { paired.mod.tup with role := .standby } }, ile := { paired.ile with table := some tableNone, evald := false, pairStep := false, withdrawnNow := false } },
      by decide +kernel⟩,
    ⟨1000000000000, (fromPartner 0x09 []), 1,
      { paired with mod := { paired.mod with tup := { paired.mod.tup with role := .standby } }, ile := { paired.ile with evald := true } },
      by decide +kernel⟩,
    ⟨1000000000000, (fromPartner 0x0A []), 0, default, none,
      { paired with mod := { paired.mod with tup := { paired.mod.tup with role := .standby } }, ile := { paired.ile with withdrawnNow := false } },
      by decide +kernel⟩,
    ⟨1000000000000, (fromPartner 0x0B []), 0,
      { paired with mod := { paired.mod with tup := { paired.mod.tup with role := .standby } } }, by decide +kernel⟩,
    ⟨1000000000000, (fromPartner 0x0B []),
      { paired with cyc := { paired.cyc with phase := .execute }, mod := { paired.mod with tup := { paired.mod.tup with role := .active } } },
      by decide +kernel⟩,
    ⟨1000000000000, (fromPartner 0x0B []), default, 0,
      { paired with mod := { paired.mod with tup := { paired.mod.tup with role := .standby }, arb := false } },
      by decide +kernel⟩,
    ⟨1000000000000, (fromPartner 0x0B []), 0, 0,
      { paired with mod := { paired.mod with tup := { paired.mod.tup with role := .standby } } }, by decide +kernel⟩,
    ⟨1000000000000, (fromPartner 0x0B []), default, 0, paired, by decide +kernel⟩,
    ⟨1000000000000, (fromPartner 0x0C []), default,
      { paired with mod := { paired.mod with tup := { paired.mod.tup with role := .syncing } }, plv := { paired.plv with source := false } },
      by decide +kernel⟩,
    ⟨1000000000000, (fromPartner 0x0D []), 0, 0, [], none,
      { paired with mod := { paired.mod with tup := { paired.mod.tup with role := .syncing } }, plv := { paired.plv with step := 2 } },
      by decide +kernel⟩,
    ⟨1000000000000, { paired with mod := { paired.mod with tup := { paired.mod.tup with role := .syncing } } },
      by decide +kernel⟩,
    ⟨1000000000000,
      { paired with mod := { paired.mod with tup := { paired.mod.tup with role := .active } }, plv := { paired.plv with source := true } },
      by decide +kernel⟩,
    ⟨1000000000000,
      { paired with plv := { paired.plv with step := 1, authOk := false }, mod := { paired.mod with tup := { paired.mod.tup with role := .syncing } } },
      by decide +kernel⟩,
    ⟨1000000000000,
      { paired with plv := { paired.plv with step := 1 }, mod := { paired.mod with tup := { paired.mod.tup with role := .syncing } } },
      by decide +kernel⟩,
    ⟨1000000000000,
      { paired with oxn := { paired.oxn with cn := 1000000000000, judged := true }, mod := { paired.mod with arb := true, tup := { paired.mod.tup with role := .standby } } },
      by decide +kernel⟩,
    ⟨1000000000000, 0, { paired with plv := { paired.plv with pairWait := some (0) } }, by decide +kernel⟩,
    ⟨1000000000000,
      { paired with mod := { paired.mod with tup := { paired.mod.tup with role := .active }, partner := { paired.mod.partner with role := .standby }, arb := false }, cyc := { paired.cyc with sigEqual := true, phase := .boundary }, plv := { paired.plv with handoverAt := some default } },
      by decide +kernel⟩,
    ⟨1000000000000, 0, 0, paired, by decide +kernel⟩,
    ⟨1000000000000, 0, { paired with plv := { paired.plv with ports := [⟨4, 0, List.replicate 17 0, none⟩] } },
      by decide +kernel⟩,
    ⟨1000000000000, 0, 7,
      { paired with plv := { paired.plv with ports := [⟨4, 0, [], some 7⟩] }, nva := { paired.nva with retired := [⟨.plv 0, 0, 0, 0⟩] } },
      by decide +kernel⟩,
    ⟨1000000000000, 1, 2, paired, by decide +kernel⟩⟩

/-- Witnesses for `Obligations.RingAndTimeCommandsComplete`, clause by clause. -/
theorem test_witness_RingAndTimeCommandsComplete :
    (∃ (t : Nat) (s : State), driving s = true) ∧
    (∃ (t : Nat) (h : PktHdr) (data : List Byte) (s : State), ringGood 0x10 h s = true ∧ data = h.pay ∧ data.length =
      16 ∧ field data 0 1 < 8 ∧ field data 1 1 < 5 ∧ field data 2 1 < 16 ∧ zeros data 3 5 = true) ∧
    (∃ (t : Nat) (s : State), driving s = true ∧ stmOf (atT t s) ≠ s.tim.stmPair) ∧
    (∃ (t : Nat) (s : State), isStm s = true ∧ s.tim.stmSince / ms < max s.gt t / ms) ∧
    (∃ (t : Nat) (h : PktHdr) (data : List Byte) (s : State), ringGood 0x11 h s = true ∧ data = h.pay ∧ data.length =
      8) ∧
    (∃ (t : Nat) (h : PktHdr) (data : List Byte) (s : State), ringGood 0x14 h s = true ∧ data = h.pay ∧ data.length =
      28 ∧ (field data 0 4 = 1 ∨ field data 0 4 = 2)) ∧
    (∃ (t : Nat) (l : Nat) (s : State), isStm s = false ∧ (s.mod.tup.role = .solo ∨ s.mod.tup.role = .active) ∧
      s.mod.tup.run ≠ .boot ∧ s.tim.lastTime = some l ∧ l + 10 * ms ≤ max s.gt t) ∧
    (∃ (t : Nat) (pair : Nat) (b : BeaconS) (s : State), b ∈ newestEach s.plv.beacons ∧ b.pair = pair ∧ b.at_ + 10 *
      ms ≤ max s.gt t ∧ pair ∉ s.plv.ringLost) ∧
    (∃ (t : Nat) (h : PktHdr) (data : List Byte) (s : State), ringGood 0x12 h s = true ∧ data = h.pay ∧ signalsOk data
      = true) ∧
    (∃ (t : Nat) (pair : Nat) (c : Nat × Nat) (s : State), Tab.find? s.plv.sigCycle pair = some c ∧ c.2 + sec ≤ max
      s.gt t) ∧
    (∃ (t : Nat) (h : PktHdr) (data : List Byte) (s : State), ringGood 0x13 h s = true ∧ data = h.pay) ∧
    (∃ (t : Nat) (frame : List Byte) (p : List Byte) (s : State), mgtPayload s 0x12 8 frame = some p ∧ todEn s = true) ∧
    (∃ (t : Nat) (v : Nat) (at_ : Nat) (s : State), s.tim.tod = some (v, at_) ∧ max s.gt t < at_ + sec ∧ isStm s =
      true) ∧
    (∃ (t : Nat) (v : Nat) (at_ : Nat) (s : State), s.tim.tod = some (v, at_) ∧ at_ + sec ≤ max s.gt t) ∧
    (∃ (t : Nat) (s : State), (s.tim.clv.st = 1 ∨ s.tim.clv.st = 2) ∧ s.tim.clv.at_ ≤ max s.gt t) ∧
    (∃ (t : Nat) (s : State), (s.tim.clv.st = 1 ∨ s.tim.clv.st = 2) ∧ s.tim.clv.at_ + sec ≤ max s.gt t) :=
  ⟨⟨1000000000000, paired, by decide +kernel⟩,
    ⟨1000000000000, (fromPartner 0x10 (List.replicate 16 0)), (List.replicate 16 0), paired, by decide +kernel⟩,
    ⟨1000000000000,
      { paired with mod := { paired.mod with tup := { paired.mod.tup with run := .idle }, stmElig := true }, tim := { paired.tim with stmPair := some 3 } },
      by decide +kernel⟩,
    ⟨1000000000000, { paired with tim := { paired.tim with stm := true } }, by decide +kernel⟩,
    ⟨1000000000000, (fromPartner 0x11 (List.replicate 8 0)), (List.replicate 8 0), paired, by decide +kernel⟩,
    ⟨1000000000000, (fromPartner 0x14 (le 4 1 ++ pad 24)), (le 4 1 ++ pad 24), paired, by decide +kernel⟩,
    ⟨1000000000000, 0, { paired with tim := { paired.tim with lastTime := some (0) } }, by decide +kernel⟩,
    ⟨1000000000000, 5, ⟨5, 0, true, true, true⟩,
      { paired with plv := { paired.plv with beacons := [⟨5, 0, true, true, true⟩] } }, by decide +kernel⟩,
    ⟨1000000000000, (fromPartner 0x12 (le 4 0 ++ le 2 1 ++ pad 38)), (le 4 0 ++ le 2 1 ++ pad 38), paired,
      by decide +kernel⟩,
    ⟨1000000000000, 5, (7, 0), { paired with plv := { paired.plv with sigCycle := [(5, 7, 0)] } }, by decide +kernel⟩,
    ⟨1000000000000, (fromPartner 0x13 []), [], paired, by decide +kernel⟩,
    ⟨1000000000000, (mgtFrame 0x12 (le 8 77)), (le 8 77), paired, by decide +kernel⟩,
    ⟨1000000000000, 5, 999999999999,
      { paired with tim := { paired.tim with tod := some (5, 999999999999), stm := true } }, by decide +kernel⟩,
    ⟨1000000000000, 0, 0, { paired with tim := { paired.tim with tod := some ((0), (0)) } }, by decide +kernel⟩,
    ⟨1000000000000, { paired with tim := { paired.tim with clv := { paired.tim.clv with st := 2 } } },
      by decide +kernel⟩,
    ⟨1000000000000, { paired with tim := { paired.tim with clv := { paired.tim.clv with st := 1 } } },
      by decide +kernel⟩⟩

/-- Witnesses for `Obligations.PowerAndHeatCommandsComplete`, clause by clause. -/
theorem test_witness_PowerAndHeatCommandsComplete :
    (∃ (t : Nat) (s : State), s.con.inReset = false ∧ s.mod.tup.run ≠ .boot) ∧
    (∃ (t : Nat) (s : State), s.con.inReset = false ∧ s.hl.charged = true) ∧
    (∃ (t : Nat) (s : State), s.con.sense = false ∧ s.con.inReset = true) ∧
    (∃ (t : Nat) (s : State), s.mod.tup.role = .standby) ∧
    (∃ (t : Nat) (mv : Nat) (vb : Bool) (s : State), mv < 19200) ∧
    (∃ (t : Nat) (mv : Nat) (vb : Bool) (s : State), 19200 ≤ mv) ∧
    (∃ (t : Nat) (s : State), s.con.inReset = false ∧ s.hl.pfw = none ∧ s.hl.charged = true) ∧
    (∃ (t : Nat) (p : Nat) (s : State), s.hl.pfw = some p ∧ s.con.powered = true ∧ p + 5 * ms ≤ max s.gt t ∧ max s.gt
      t < p + 12 * ms) ∧
    (∃ (t : Nat) (p : Nat) (s : State), s.hl.pfw = some p ∧ p + 12 * ms ≤ max s.gt t) ∧
    (∃ (t : Nat) (frame : List Byte) (p : List Byte) (s : State), mgtPayload s 0x11 2 frame = some p) ∧
    (∃ (t : Nat) (s : State), s.hl.lastMsg + 5 * sec ≤ max s.gt t) ∧
    (∃ (t : Nat) (x : Int) (m : Int) (s : State), s.hl.inletMax = some m) ∧
    (∃ (t : Nat) (o : Nat) (s : State), s.hl.overPower = some o ∧ o + sec ≤ max s.gt t ∧ s.hl.bgRun = [] ∧ s.hl.allow
      < s.hl.pIn) ∧
    (∃ (t : Nat) (o : Nat) (s : State), s.hl.over105 = some o ∧ o + sec ≤ max s.gt t ∧ s.hl.last3 = none ∧ s.hl.want <
      3) ∧
    (∃ (t : Nat) (s : State), rule5Ok (atT t s) = true) ∧
    (∃ (t : Nat) (o : Nat) (s : State), s.hl.over115 = some o ∧ o + sec ≤ max s.gt t) ∧
    (∃ (t : Nat) (o : Nat) (s : State), s.hl.over120 = some o ∧ o + sec ≤ max s.gt t ∧ s.mod.tup.role ≠ .retired) ∧
    (∃ (t : Nat) (kind : Nat) (w : Nat) (s : State), Tab.find? s.hl.bgWait kind = some w ∧ w + 60 * sec ≤ max s.gt t ∧
      Tab.find? s.hl.bgDefer kind = none) ∧
    (∃ (t : Nat) (rails : List Nat) (s : State), s.hl.railMin ≠ some (max s.gt t / (60 * sec))) ∧
    (∃ (t : Nat) (s : State), s.con.powered = true) ∧
    (∃ (t : Nat) (kind : Nat) (s : State), bgAdmitOk kind (atT t s) = true ∧ kind ∉ s.hl.bgRun ∧ kind ≠ 4) ∧
    (∃ (t : Nat) (s : State), 2 ∈ s.hl.bgRun ∧ s.fwu.hashing = false ∧ s.chg.job = none) ∧
    (∃ (t : Nat) (frame : List Byte) (p : List Byte) (s : State), mgtPayload s 0x10 16 frame = some p ∧ s.con.identity
      = false ∧ s.clk.xbSettle = none) ∧
    (∃ (t : Nat) (s : State), s.con.identity = false ∧ s.clk.xbSettle = none ∧ s.con.porAt + 2 * sec ≤ max s.gt t) :=
  ⟨⟨1000000000000, { ready with con := { ready.con with inReset := false } }, by decide +kernel⟩,
    ⟨1000000000000,
      { ready with con := { ready.con with inReset := false }, hl := { ready.hl with charged := true } },
      by decide +kernel⟩,
    ⟨1000000000000, { ready with con := { ready.con with sense := false, inReset := true } }, by decide +kernel⟩,
    ⟨1000000000000, { ready with mod := { ready.mod with tup := { ready.mod.tup with role := .standby } } },
      by decide +kernel⟩,
    ⟨1000000000000, 0, true, ready, by decide +kernel⟩,
    ⟨1000000000000, 19200, true, ready, by decide +kernel⟩,
    ⟨1000000000000,
      { ready with con := { ready.con with inReset := false }, hl := { ready.hl with pfw := none, charged := true } },
      by decide +kernel⟩,
    ⟨1000000000000, 999994000000,
      { ready with hl := { ready.hl with pfw := some (999994000000) }, con := { ready.con with powered := true } },
      by decide +kernel⟩,
    ⟨1000000000000, 0, { ready with hl := { ready.hl with pfw := some (0) } }, by decide +kernel⟩,
    ⟨1000000000000, (mgtFrame 0x11 [44, 1]), [44, 1], ready, by decide +kernel⟩,
    ⟨1000000000000, ready, by decide +kernel⟩,
    ⟨1000000000000, default, default, { ready with hl := { ready.hl with inletMax := some (default) } },
      by decide +kernel⟩,
    ⟨1000000000000, 3,
      { ready with hl := { ready.hl with overPower := some 3, allow := 600, pIn := 700, bgRun := [] } },
      by decide +kernel⟩,
    ⟨1000000000000, 0, { ready with hl := { ready.hl with over105 := some (0), last3 := none } }, by decide +kernel⟩,
    ⟨1000000000000,
      { ready with hl := { ready.hl with want := 1, under95 := some 0, allow := 600, cycles := 64, lastChange := 0 } },
      by decide +kernel⟩,
    ⟨1000000000000, 0, { ready with hl := { ready.hl with over115 := some (0) } }, by decide +kernel⟩,
    ⟨1000000000000, 0, { ready with hl := { ready.hl with over120 := some (0) } }, by decide +kernel⟩,
    ⟨1000000000000, 0, 3, { ready with hl := { ready.hl with bgWait := [(0, 3)] } }, by decide +kernel⟩,
    ⟨1000000000000, [], ready, by decide +kernel⟩,
    ⟨1000000000000, { ready with con := { ready.con with powered := true } }, by decide +kernel⟩,
    ⟨1000000000000, 0, { ready with hl := { ready.hl with bgWait := [(0, 3)], allow := 600 } }, by decide +kernel⟩,
    ⟨1000000000000,
      { ready with hl := { ready.hl with bgRun := [2] }, fwu := { ready.fwu with hashing := false }, chg := { ready.chg with job := none } },
      by decide +kernel⟩,
    ⟨1000000000000, (mgtFrame 0x10 (pad 16)), (pad 16),
      { ready with con := { ready.con with identity := false }, clk := { ready.clk with xbSettle := none } },
      by decide +kernel⟩,
    ⟨1000000000000,
      { ready with con := { ready.con with identity := false }, clk := { ready.clk with xbSettle := none } },
      by decide +kernel⟩⟩

/-- Witnesses for `Obligations.TripIoCommandsComplete`, clause by clause. -/
theorem test_witness_TripIoCommandsComplete :
    (∃ (t : Nat) (m : TioMeas) (s : State), tioLoaded s = true ∧ fircOnly s = false ∧ max s.gt t % (500 * us) ≤ 20 *
      us ∧ s.tio.win ≠ some (max s.gt t / (500 * us))) ∧
    (∃ (t : Nat) (s : State), tioLoaded s = true ∧ s.tio.silent = false ∧ s.tio.lastRefresh + field s.tio.section_ 14
      2 * ms ≤ max s.gt t) ∧
    (∃ (t : Nat) (pair : Nat) (d : Nat) (s : State), tiPair s.tio.section_ pair ≠ 0 ∧ (tiOf s (2 * pair)).disc = false
      ∧ (tiOf s (2 * pair)).discSince = some d ∧ d + (tiDisc s.tio.section_ pair * ms + 1) ≤ max s.gt t) ∧
    (∃ (t : Nat) (i : Nat) (s : State), tioDriving s = true ∧ tiMode s.tio.section_ i ≠ 0 ∧ isRetired s (.ti i) =
      false ∧ i < 24) ∧
    (∃ (t : Nat) (q : Nat) (b : Nat) (s : State), tioDriving s = true ∧ (tqOf s q).breach = some b ∧ b + 2 * ms ≤ max
      s.gt t ∧ (∀ f ∈ (tqOf s q).faults, f.1 ≠ 12)) ∧
    (∃ (t : Nat) (q : Nat) (s : State), tioDriving s = true) ∧
    (∃ (t : Nat) (q : Nat) (o : Nat) (s : State), tioDriving s = true ∧ (tqOf s q).ovr = some o ∧ o + (5 * ms + 1) ≤
      max s.gt t) ∧
    (∃ (t : Nat) (g : Nat) (o : Nat) (s : State), tioDriving s = true ∧ (fsOf s g).ovr = some o ∧ o + 5 * ms ≤ max
      s.gt t ∧ overloads s g ≠ []) ∧
    (∃ (t : Nat) (q : Nat) (s : State), (tqOf s q).on = true ∧ darkRuns (atT t s) q = false ∧ (fsOf s (tqGroup
      q)).level ≤ 1 ∧ tioQuiet (atT t s) = false ∧ s.tio.lastDark = none ∧ darkDue (atT t s) q = true) ∧
    (∃ (t : Nat) (q : Nat) (a : Nat) (p : Nat) (m : DarkMeas) (s : State), (tqOf s q).dark = some (false, a, p) ∧
      darkRuns (atT t s) q = true ∧ m.loCur < 2000 ∧ m.hiCur < 2000) ∧
    (∃ (t : Nat) (q : Nat) (a : Nat) (p : Nat) (m : DarkMeas) (s : State), (tqOf s q).dark = some (false, a, p) ∧
      darkRuns (atT t s) q = true ∧ 2000 ≤ m.loCur) ∧
    (∃ (t : Nat) (q : Nat) (h : Nat) (s : State), tioDriving s = true ∧ (tqOf s q).heldUp = some h ∧ h + field
      s.tio.section_ 10 2 * sec ≤ max s.gt t ∧ isRetired s (.tq q) = false ∧ (∀ f ∈ (tqOf s q).faults, f.1 ≠ 8)) ∧
    (∃ (t : Nat) (g : Nat) (l : Nat) (s : State), ([3, 2, 1].find? fun l => held ((fsOf s g).below.getD (l - 1) none)
      ms (max s.gt t)) = some l ∧ (fsOf s g).level < l) ∧
    (∃ (t : Nat) (g : Nat) (l : Nat) (s : State), ([0, 1, 2].find? fun l => held ((fsOf s g).above.getD l none) (50 *
      ms) (max s.gt t)) = some l ∧ l < (fsOf s g).level) ∧
    (∃ (t : Nat) (e : Nat) (s : State), s.tio.overlap = some e ∧ e ≤ max s.gt t) :=
  ⟨⟨1000000000000, default, { ready with tio := { ready.tio with section_ := List.replicate 288 1 } },
      by decide +kernel⟩,
    ⟨1000000000000, { ready with tio := { ready.tio with section_ := List.replicate 288 1, silent := false } },
      by decide +kernel⟩,
    ⟨1000000000000, 0, 4,
      { ready with tio := { ready.tio with section_ := List.replicate 288 1, ti := [{ tiReset with discSince := some 4 }] } },
      by decide +kernel⟩,
    ⟨1000000000000, 0, { ready with tio := { ready.tio with section_ := List.replicate 288 1, drive := true } },
      by decide +kernel⟩,
    ⟨1000000000000, 0, 3,
      { ready with tio := { ready.tio with drive := true, tq := [{ tqReset with breach := some 3 }] } },
      by decide +kernel⟩,
    ⟨1000000000000, 0, { ready with tio := { ready.tio with drive := true, tq := [{ tqReset with on := true }] } },
      by decide +kernel⟩,
    ⟨1000000000000, 0, 3,
      { ready with tio := { ready.tio with drive := true, tq := [{ tqReset with on := true, ovr := some 3 }] } },
      by decide +kernel⟩,
    ⟨1000000000000, 0, 3,
      { ready with tio := { ready.tio with drive := true, section_ := List.replicate 288 1, fs := [{ fsReset with ovr := some 3 }] } },
      by decide +kernel⟩,
    ⟨1000000000000, 0,
      { ready with tio := { ready.tio with tq := [{ tqReset with on := true }], fs := [{ fsReset with level := 1 }], lastDark := none } },
      by decide +kernel⟩,
    ⟨1000000000000, 0, 1000000000000, 4, default,
      { ready with tio := { ready.tio with tq := [{ tqReset with dark := some (false, 1000000000000, 4) }] } },
      by decide +kernel⟩,
    ⟨1000000000000, 0, 1000000000000, 4, { (default : DarkMeas) with loCur := 2000 },
      { ready with tio := { ready.tio with tq := [{ tqReset with dark := some (false, 1000000000000, 4) }] } },
      by decide +kernel⟩,
    ⟨1000000000000, 0, 3,
      { ready with tio := { ready.tio with drive := true, tq := [{ tqReset with heldUp := some 3 }] } },
      by decide +kernel⟩,
    ⟨1000000000000, 0, 1,
      { ready with tio := { ready.tio with fs := [{ fsReset with level := 0, below := [some 3, none, none] }] } },
      by decide +kernel⟩,
    ⟨1000000000000, 0, 2,
      { ready with tio := { ready.tio with fs := [{ fsReset with level := 3, above := [none, none, some 3] }] } },
      by decide +kernel⟩,
    ⟨1000000000000, 0, { ready with tio := { ready.tio with overlap := some (0) } }, by decide +kernel⟩⟩

/-- Witnesses for `Obligations.AnalogLoopCommandsComplete`, clause by clause. -/
theorem test_witness_AnalogLoopCommandsComplete :
    (∃ (t : Nat) (x : Nat) (na : Int) (raw : Int) (mv : Int) (nh : Bool) (s : State), (alPar s x).mode ≠ .off ∧ x < 4
      ∧ fircOnly s = false ∧ (alCh s x).lastConv + alConvTime (alCh s x).clk ≤ max s.gt t) ∧
    (∃ (t : Nat) (x : Nat) (s : State), (alPar s x).mode ≠ .off ∧ (alCh s x).lastRefresh + (alPar s x).timeout ≤ max
      s.gt t) ∧
    (∃ (t : Nat) (x : Nat) (r : Nat) (s : State), alDrives (alPar s x).mode = true ∧ (alCh s x).readback = some r ∧ r
      + 100 * ms ≤ max s.gt t ∧ alHas (alCh s x) 1 = false) ∧
    (∃ (t : Nat) (x : Nat) (r : Nat) (s : State), (alPar s x).mode = .input ∧ (alCh s x).readback = some r ∧ r + 100 *
      ms ≤ max s.gt t ∧ alHas (alCh s x) 3 = false) ∧
    (∃ (t : Nat) (x : Nat) (s : State), (alPar s x).mode = .sink ∧ (alCh s x).en = true ∧ (alCh s x).lastConv + 32 *
      ms ≤ max s.gt t ∧ alHas (alCh s x) 5 = false) ∧
    (∃ (t : Nat) (x : Nat) (s : State), (alPar s x).mode = .source ∧ (alCh s x).lastConv + ms ≤ max s.gt t ∧ alHas
      (alCh s x) 4 = false ∧ fircOnly s = false) ∧
    (∃ (t : Nat) (x : Nat) (s : State), (alPar s x).mode ≠ .off ∧ fircOnly s = false) ∧
    (∃ (t : Nat) (x : Nat) (s : State), (alPar s x).mode ≠ .off ∧ fircOnly s = false) ∧
    (∃ (t : Nat) (x : Nat) (k : Nat) (s : State), (alCh s x).compl = some k ∧ k + 2 * sec ≤ max s.gt t ∧ (alCh s
      x).complNoted = false) ∧
    (∃ (t : Nat) (x : Nat) (f : Nat) (s : State), (alPar s x).mode = .sink ∧ (alCh s x).fit = some f ∧ f + 50 * ms ≤
      max s.gt t ∧ (alCh s x).clk < 5) ∧
    (∃ (t : Nat) (t0 : Nat) (up : Bool) (s : State), s.alp.ramp = some (up, t0) ∧ t0 + 2 * ms ≤ max s.gt t) ∧
    (∃ (t : Nat) (x : Nat) (a : Nat) (k : Nat) (r : HartReply) (s : State), (alCh s x).job = some (.identify, a, k) ∧
      r.commErr = false) ∧
    (∃ (t : Nat) (x : Nat) (a : Nat) (k : Nat) (j : HartJob) (s : State), (alCh s x).job = some (j, a, k) ∧ a + 500 *
      ms ≤ max s.gt t) ∧
    (∃ (t : Nat) (x : Nat) (cmd : Nat) (r : HartReq) (d : List Byte) (s : State), (alPar s x).mode = .sink ∧ (alCh s
      x).en = true ∧ x < 4 ∧ hartMine r = true ∧ 2 ≤ (alCh s x).clk ∧ hartAnswer s x cmd = some d) :=
  ⟨⟨1000000000000, 0, default, default, default, true,
      { ready with alp := { ready.alp with par := [{ alParamOff with mode := .input }], ch := [{ alChReset with en := true }] }, mod := { ready.mod with tup := { ready.mod.tup with run := .idle } } },
      by decide +kernel⟩,
    ⟨1000000000000, 0,
      { ready with alp := { ready.alp with par := [{ alParamOff with mode := .input }], ch := [{ alChReset with en := true }] } },
      by decide +kernel⟩,
    ⟨1000000000000, 0, 3,
      { ready with alp := { ready.alp with par := [{ alParamOff with mode := .source }], ch := [{ alChReset with en := true, readback := some 3 }] } },
      by decide +kernel⟩,
    ⟨1000000000000, 0, 3,
      { ready with alp := { ready.alp with par := [{ alParamOff with mode := .input }], ch := [{ alChReset with en := true, readback := some 3 }] } },
      by decide +kernel⟩,
    ⟨1000000000000, 0,
      { ready with alp := { ready.alp with par := [{ alParamOff with mode := .sink }], ch := [{ alChReset with en := true }] } },
      by decide +kernel⟩,
    ⟨1000000000000, 0,
      { ready with alp := { ready.alp with par := [{ alParamOff with mode := .source }], ch := [{ alChReset with en := true }] } },
      by decide +kernel⟩,
    ⟨1000000000000, 0,
      { ready with alp := { ready.alp with par := [{ alParamOff with mode := .sink }], ch := [{ alChReset with en := true }] } },
      by decide +kernel⟩,
    ⟨1000000000000, 0,
      { ready with alp := { ready.alp with par := [{ alParamOff with mode := .sink }], ch := [{ alChReset with en := true }] } },
      by decide +kernel⟩,
    ⟨1000000000000, 0, 3,
      { ready with alp := { ready.alp with par := [{ alParamOff with mode := .sink }], ch := [{ alChReset with en := true, compl := some 3 }] } },
      by decide +kernel⟩,
    ⟨1000000000000, 0, 3,
      { ready with alp := { ready.alp with par := [{ alParamOff with mode := .sink }], ch := [{ alChReset with en := true, fit := some 3 }] } },
      by decide +kernel⟩,
    ⟨1000000000000, 0, true, { ready with alp := { ready.alp with ramp := some (true, (0)) } }, by decide +kernel⟩,
    ⟨1000000000000, 0, 3, 4, default,
      { ready with alp := { ready.alp with par := [{ alParamOff with mode := .sink }], ch := [{ alChReset with en := true, job := some (.identify, 3, 4) }] } },
      by decide +kernel⟩,
    ⟨1000000000000, 0, 3, 4, .identify,
      { ready with alp := { ready.alp with par := [{ alParamOff with mode := .sink }], ch := [{ alChReset with en := true, job := some (.identify, 3, 4) }] } },
      by decide +kernel⟩,
    ⟨1000000000000, 0, 0, default, [],
      { ready with alp := { ready.alp with par := [{ alParamOff with mode := .sink }], ch := [{ alChReset with en := true, clk := 2 }] } },
      by decide +kernel⟩⟩

/-- Witnesses for `Obligations.CanCommandsComplete`, clause by clause. -/
theorem test_witness_CanCommandsComplete :
    (∃ (t : Nat) (x : Nat) (f : CanFrame) (s : State), (canPar s x).en = true ∧ isRetired s (.can x) = false ∧
      (canPort s x).sleep = false ∧ f.rtr = false ∧ (f.fdf = false ∨ (canPar s x).fd = true) ∧ (canPort s x).err ≠ 2 ∧
      x < 4 ∧ fircOnly s = false) ∧
    (∃ (t : Nat) (x : Nat) (e : CanEntry) (r : List CanEntry) (s : State), (canPort s x).fifo = e :: r ∧ (canPort s
      x).sending = false ∧ (canPort s x).sleep = false ∧ (canPort s x).err ≠ 2 ∧ canLive s x = true ∧ canStale (atT t
      s) x e = false) ∧
    (∃ (t : Nat) (x : Nat) (e : CanEntry) (r : List CanEntry) (s : State), (canPort s x).fifo = e :: r ∧ (canPort s
      x).sending = false ∧ (canPort s x).sleep = false ∧ (canPort s x).err ≠ 2 ∧ canLive s x = true ∧ canStale (atT t
      s) x e = true) ∧
    (∃ (t : Nat) (x : Nat) (tec : Nat) (rec' : Nat) (e : CanEntry) (r : List CanEntry) (s : State), (canPort s x).fifo
      = e :: r ∧ (canPort s x).sending = true ∧ (canPort s x).sleepAfter = false) ∧
    (∃ (t : Nat) (x : Nat) (tec : Nat) (rec : Nat) (s : State), canLive s x = true ∧ 255 < tec) ∧
    (∃ (t : Nat) (x : Nat) (tec : Nat) (rec : Nat) (s : State), canLive s x = true ∧ 255 < tec) ∧
    (∃ (t : Nat) (x : Nat) (s : State), (canPort s x).err = 2) ∧
    (∃ (t : Nat) (x : Nat) (tec : Nat) (rec : Nat) (s : State), canLive s x = true ∧ (canPort s x).err = 0 ∧ (128 ≤
      tec ∨ 128 ≤ rec)) ∧
    (∃ (t : Nat) (x : Nat) (s : State), (canPar s x).en = true ∧ isRetired s (.can x) = false ∧ (canPort s x).sending
      = false ∧ fircOnly s = false) ∧
    (∃ (t : Nat) (x : Nat) (s : State), canLive s x = true) ∧
    (∃ (t : Nat) (x : Nat) (h : Nat) (s : State), (canPort s x).held = some h ∧ h + sec ≤ max s.gt t) ∧
    (∃ (t : Nat) (x : Nat) (f : Option CanFrame) (s : State), isRetired s (.can x) = false ∧ (canPort s x).sleep =
      true ∧ fircOnly s = false) ∧
    (∃ (t : Nat) (x : Nat) (s : State), (canPort s x).readmit = true ∧ isRetired s (.can x) = true) :=
  ⟨⟨1000000000000, 0, default,
      { ready with can := { ready.can with par := [{ canParamOff with en := true }], ports := [{ canPortReset with err := 0 }] } },
      by decide +kernel⟩,
    ⟨1000000000000, 0, ⟨5, false, false, false, [1], 3, false⟩, [],
      { ready with can := { ready.can with par := [{ canParamOff with en := true }], ports := [{ canPortReset with fifo := [⟨5, false, false, false, [1], 3, false⟩] }] }, clk := { ready.clk with xa := { ready.clk.xa with st := 2 }, plls := List.replicate 7 ⟨1, true, true⟩ } },
      by decide +kernel⟩,
    ⟨1000000000000, 0, ⟨5, false, false, false, [1], 3, false⟩, [],
      { ready with can := { ready.can with par := [{ canParamOff with en := true, txStale := 9 }], ports := [{ canPortReset with fifo := [⟨5, false, false, false, [1], 3, false⟩] }] }, clk := { ready.clk with xa := { ready.clk.xa with st := 2 }, plls := List.replicate 7 ⟨1, true, true⟩ } },
      by decide +kernel⟩,
    ⟨1000000000000, 0, 0, 0, ⟨5, false, false, false, [1], 3, false⟩, [],
      { ready with can := { ready.can with par := [{ canParamOff with en := true }], ports := [{ canPortReset with fifo := [⟨5, false, false, false, [1], 3, false⟩], sending := true }] } },
      by decide +kernel⟩,
    ⟨1000000000000, 0, 256, 0,
      { ready with can := { ready.can with par := [{ canParamOff with en := true }], ports := [{ canPortReset with err := 0 }] }, clk := { ready.clk with xa := { ready.clk.xa with st := 2 }, plls := List.replicate 7 ⟨1, true, true⟩ } },
      by decide +kernel⟩,
    ⟨1000000000000, 0, 256, 0,
      { ready with can := { ready.can with par := [{ canParamOff with en := true }], ports := [{ canPortReset with err := 0 }] }, clk := { ready.clk with xa := { ready.clk.xa with st := 2 }, plls := List.replicate 7 ⟨1, true, true⟩ } },
      by decide +kernel⟩,
    ⟨1000000000000, 0,
      { ready with can := { ready.can with par := [{ canParamOff with en := true }], ports := [{ canPortReset with err := 2 }] } },
      by decide +kernel⟩,
    ⟨1000000000000, 0, 128, 0,
      { ready with can := { ready.can with par := [{ canParamOff with en := true }], ports := [{ canPortReset with err := 0 }] }, clk := { ready.clk with xa := { ready.clk.xa with st := 2 }, plls := List.replicate 7 ⟨1, true, true⟩ } },
      by decide +kernel⟩,
    ⟨1000000000000, 0,
      { ready with can := { ready.can with par := [{ canParamOff with en := true }], ports := [{ canPortReset with err := 0 }] } },
      by decide +kernel⟩,
    ⟨1000000000000, 0,
      { ready with can := { ready.can with par := [{ canParamOff with en := true }], ports := [{ canPortReset with err := 0 }] }, clk := { ready.clk with xa := { ready.clk.xa with st := 2 }, plls := List.replicate 7 ⟨1, true, true⟩ } },
      by decide +kernel⟩,
    ⟨1000000000000, 0, 3,
      { ready with can := { ready.can with par := [{ canParamOff with en := true }], ports := [{ canPortReset with held := some 3 }] } },
      by decide +kernel⟩,
    ⟨1000000000000, 0, none,
      { ready with can := { ready.can with par := [{ canParamOff with en := true }], ports := [{ canPortReset with sleep := true }] } },
      by decide +kernel⟩,
    ⟨1000000000000, 0,
      { ready with can := { ready.can with par := [{ canParamOff with en := true }], ports := [{ canPortReset with readmit := true }] }, nva := { ready.nva with retired := [⟨.can 0, 0, 0, 0⟩] } },
      by decide +kernel⟩⟩

/-- Witnesses for `Obligations.ClockCommandsComplete`, clause by clause. -/
theorem test_witness_ClockCommandsComplete :
    (∃ (t : Nat) (d : Nat) (s : State), s.clk.on = true ∧ s.clk.xa.st ≠ 2 ∧ s.clk.xa.barred = false ∧
      s.clk.xa.checking = false ∧ settleNs s false = some d ∧ s.clk.xa.since + d ≤ max s.gt t) ∧
    (∃ (t : Nat) (d : Nat) (s : State), s.clk.on = true ∧ s.clk.xb.st ≠ 2 ∧ s.clk.xb.barred = false ∧
      s.clk.xb.checking = false ∧ settleNs s true = some d ∧ s.clk.xb.since + d ≤ max s.gt t) ∧
    (∃ (t : Nat) (a : Int) (b : Int) (r : Int) (s : State), s.clk.xa.st = 2) ∧
    (∃ (t : Nat) (xb : Bool) (s : State), srcGood s xb = true) ∧
    (∃ (t : Nat) (n : Nat) (s : State), 0 < n ∧ n < 7 ∧ (pllOf s n).ref ≠ 0 ∧ (pllOf s n).fault = false) ∧
    (∃ (t : Nat) (s : State), (pllOf s 0).ref ≠ 0 ∧ (pllOf s 0).fault = false ∧ s.mod.tup.tier ≠ .t3) ∧
    (∃ (t : Nat) (n : Nat) (s : State), n < 7 ∧ (pllOf s n).lock = true ∧ (pllOf s n).fault = false ∧ (pllOf s n).ref
      = 3) ∧
    (∃ (t : Nat) (dom : Nat) (w : Switch) (s : State), s.clk.switching.find? (·.dom = dom) = some w ∧ muxRuns s dom
      (muxNow s dom) = true ∧ muxRuns s dom w.dst = true) ∧
    (∃ (t : Nat) (dom : Nat) (w : Switch) (s : State), s.clk.switching.find? (·.dom = dom) = some w ∧ (muxRuns s dom
      (muxNow s dom) = false ∨ muxRuns s dom w.dst = false)) ∧
    (∃ (t : Nat) (dom : Nat) (w : Switch) (s : State), (s.clk.switching.find? fun w => w.dom = dom && decide (w.at_ +
      61 * us ≤ max s.gt t)) = some w) ∧
    (∃ (t : Nat) (blk : Nat) (at_ : Nat) (s : State), (blk, at_) ∈ s.clk.quiesce ∧ gateWaits s blk = false ∧
      s.clk.gated.testBit blk = false) ∧
    (∃ (t : Nat) (blk : Nat) (at_ : Nat) (s : State), (blk, at_) ∈ s.clk.quiesce ∧ at_ + 50 * us ≤ max s.gt t ∧
      gateWaits s blk = false ∧ s.clk.gated.testBit blk = false) ∧
    (∃ (t : Nat) (blk : Nat) (s : State), s.clk.gated.testBit blk = false) :=
  ⟨⟨1000000000000, 0,
      { ready with clk := { ready.clk with xa := { ready.clk.xa with st := 0, barred := false, checking := false }, on := true } },
      by decide +kernel⟩,
    ⟨1000000000000, 3000000,
      { ready with clk := { ready.clk with xbSettle := some 3, on := true, xb := { ready.clk.xb with barred := false, checking := false } } },
      by decide +kernel⟩,
    ⟨1000000000000, default, default, default,
      { ready with clk := { ready.clk with xa := { ready.clk.xa with st := 2 } } }, by decide +kernel⟩,
    ⟨1000000000000, true,
      { ready with clk := { ready.clk with xb := { ready.clk.xb with st := 2 }, xbSettle := some 3, plls := List.replicate 7 ⟨1, true, true⟩, xa := { ready.clk.xa with st := 2 } } },
      by decide +kernel⟩,
    ⟨1000000000000, 1, { ready with clk := { ready.clk with plls := List.replicate 7 ⟨1, false, false⟩ } },
      by decide +kernel⟩,
    ⟨1000000000000, { ready with clk := { ready.clk with plls := List.replicate 7 ⟨3, true, false⟩ } },
      by decide +kernel⟩,
    ⟨1000000000000, 0, { ready with clk := { ready.clk with plls := List.replicate 7 ⟨3, true, false⟩ } },
      by decide +kernel⟩,
    ⟨1000000000000, 0, ⟨0, .firc, 3⟩,
      { ready with clk := { ready.clk with switching := [⟨0, .firc, 3⟩], domFirc := 0, plls := List.replicate 7 ⟨1, true, false⟩ } },
      by decide +kernel⟩,
    ⟨1000000000000, 0, ⟨0, .firc, 3⟩,
      { ready with clk := { ready.clk with switching := [⟨0, .firc, 3⟩], domFirc := 0, plls := List.replicate 7 ⟨1, true, true⟩ } },
      by decide +kernel⟩,
    ⟨1000000000000, 0, ⟨0, .firc, 3⟩,
      { ready with clk := { ready.clk with switching := [⟨0, .firc, 3⟩], domFirc := 0, plls := List.replicate 7 ⟨1, true, false⟩ } },
      by decide +kernel⟩,
    ⟨1000000000000, 2, 3, { ready with clk := { ready.clk with quiesce := [(2, 3)], gated := 0 } }, by decide +kernel⟩,
    ⟨1000000000000, 2, 3, { ready with clk := { ready.clk with quiesce := [(2, 3)], gated := 0 } }, by decide +kernel⟩,
    ⟨1000000000000, 0, { ready with clk := { ready.clk with gated := 0 } }, by decide +kernel⟩⟩

/-- Witnesses for `Obligations.FaultAndTestCommandsComplete`, clause by clause. -/
theorem test_witness_FaultAndTestCommandsComplete :
    (∃ (t : Nat) (target : Nat) (s : State), engineOfSrc target = none ∧ Tab.find? s.flt.l0Last target = none) ∧
    (∃ (t : Nat) (engine : Nat) (s : State), 0 < engine ∧ engine ≤ 6 ∧ isRetired s (.engine engine) = false ∧
      engineServed engine s + engineLimit engine s ≤ max s.gt t) ∧
    (∃ (t : Nat) (s : State), s.con.inReset = false) ∧
    (∃ (t : Nat) (s : State), s.con.inReset = false ∧ s.flt.l5Served + 476 * ms ≤ max s.gt t) ∧
    (∃ (t : Nat) (s : State), max s.gt t % (125 * ms) = 0 ∧ s.flt.lastDrain ≠ max s.gt t) ∧
    (∃ (t : Nat) (code : Nat) (u : UnitId) (s : State), faultLong (atT t s) u code = true) ∧
    (∃ (t : Nat) (mem : Nat) (row : Nat) (s : State), mem < 3) ∧
    (∃ (t : Nat) (mem : Nat) (row : Nat) (word : Nat) (s : State), mem < 3) ∧
    (∃ (t : Nat) (blk : Nat) (s : State), blk ∉ s.nva.nandOut) ∧
    (∃ (t : Nat) (r : SliceRes) (s : State), s.bst.running = some (r.kind, r.unit) ∧ r.pass = true ∧ (sliceEnd
      (compatEnd r.kind r.unit
      { atT t s with bst := { s.bst with slices := satInc 0xFFFF s.bst.slices } })).bst.awaited = []) ∧
    (∃ (t : Nat) (k : Nat) (u : Nat) (s : State), s.bst.running = some (k, u) ∧ s.bst.startedAt + 2 * sliceNs k < max
      s.gt t) ∧
    (∃ (t : Nat) (s : State), s.bst.armed = true ∧ s.bst.late = false ∧ s.bst.roundStart + roundLimit s ≤ max s.gt t) ∧
    (∃ (t : Nat) (code : Nat) (s : State), codeDue code (atT t s) = true) ∧
    (∃ (t : Nat) (epoch : Nat) (r : Rec) (s : State), epoch % epochLen 1 = 0 ∧ epoch + epochLen 1 + 2 * sec ≤ max s.gt
      t ∧ r ∈ s.nva.recCur ∧ r.epoch = epoch ∧ r.isSealed = false) :=
  ⟨⟨1000000000000, 0, ready, by decide +kernel⟩,
    ⟨1000000000000, 6, ready, by decide +kernel⟩,
    ⟨1000000000000, { ready with con := { ready.con with inReset := false } }, by decide +kernel⟩,
    ⟨1000000000000, { ready with con := { ready.con with inReset := false } }, by decide +kernel⟩,
    ⟨1000000000000, ready, by decide +kernel⟩,
    ⟨1000000000000, 0, (.cell 7), { ready with cyc := { ready.cyc with cellFails := [(7, 3)] } }, by decide +kernel⟩,
    ⟨1000000000000, 0, 0, ready, by decide +kernel⟩,
    ⟨1000000000000, 0, 0, 0, ready, by decide +kernel⟩,
    ⟨1000000000000, 0, ready, by decide +kernel⟩,
    ⟨1000000000000, ⟨0, 1, true, []⟩, { ready with bst := { ready.bst with running := some (0, 1) } },
      by decide +kernel⟩,
    ⟨1000000000000, 1, 3, { ready with bst := { ready.bst with running := some (1, 3) } }, by decide +kernel⟩,
    ⟨1000000000000000, { ready with bst := { ready.bst with armed := true, late := false } }, by decide +kernel⟩,
    ⟨1000000000000, 0, ready, by decide +kernel⟩,
    ⟨10000000000000, 0, { (default : Rec) with seq := 1 },
      { ready with nva := { ready.nva with recCur := [{ (default : Rec) with seq := 1 }] } }, by decide +kernel⟩⟩

/-- Witnesses for `Obligations.BootServiceAndGateCommandsComplete`, clause by clause. -/
theorem test_witness_BootServiceAndGateCommandsComplete :
    (∃ (t : Nat) (p : PorIn) (s : State), s.con.inReset = true) ∧
    (∃ (t : Nat) (b : BootIn) (s : State), booting s = true ∧ bootLate (atT t s) = false ∧ b.fails = [] ∧
      b.keyDigestOk = true ∧ s.mod.tup.role ≠ .retired) ∧
    (∃ (t : Nat) (s : State), booting s = true ∧ bootLate (atT t s) = true) ∧
    (∃ (t : Nat) (digest : Nat) (s : State), s.fwu.hashing = true ∧ s.chg.job = none) ∧
    (∃ (t : Nat) (s : State), s.fwu.resetAt.isSome = true) ∧
    (∃ (t : Nat) (s : State), s.mod.tup.fw = .trial ∧ s.fwu.trialEnd ≠ 0 ∧ s.fwu.trialEnd ≤ max s.gt t ∧
      s.fwu.windowFall = false) ∧
    (∃ (t : Nat) (frame : List Byte) (s : State), svcOk frame = true ∧ field frame 2 1 = 0x01 ∧ s.con.inReset = false) ∧
    (∃ (t : Nat) (frame : List Byte) (g : Grant) (s : State), svcOk frame = true ∧ field frame 2 1 = 0x02 ∧
      s.con.inReset = false ∧ s.fwu.speedwell = true ∧ field frame 4 2 = 196) ∧
    (∃ (t : Nat) (frame : List Byte) (hdr : Option ImageHdr) (s : State), svcOk frame = true ∧ field frame 2 1 = 0x03
      ∧ s.con.inReset = false ∧ s.fwu.speedwell = true ∧ field frame 4 2 ≠ 0 ∧ field frame 4 2 % 4 = 0 ∧ noFirmwareKey
      s = true ∧ chunkArgsOk (field frame 6 4) s.fwu.speedTotal (field frame 4 2) = true) ∧
    (∃ (t : Nat) (frame : List Byte) (s : State), svcOk frame = true ∧ field frame 2 1 = 0x04 ∧ s.con.inReset = false
      ∧ s.fwu.speedwell = true ∧ noFirmwareKey s = true ∧ s.nva.slotA.complete = true ∧ speedwellStatus s = none) ∧
    (∃ (t : Nat) (frame : List Byte) (s : State), svcOk frame = true ∧ field frame 2 1 = 0x05 ∧ s.con.inReset = false) ∧
    (∃ (t : Nat) (s : State), s.gate.mask ≠ 0 ∧ s.gate.expiry ≤ max s.gt t) ∧
    (∃ (t : Nat) (a : Access) (s : State), accessOk a = true ∧ a.kind = 1 ∧ (gateDecide (asDebug a) s).1 = true) ∧
    (∃ (t : Nat) (a : Access) (s : State), accessOk a = true ∧ a.kind = 1 ∧ (gateDecide (asDebug a) s).1 = true ∧
      besideImages a.addr a.data.length = true) ∧
    (∃ (t : Nat) (a : Access) (s : State), accessOk a = true ∧ a.kind ≠ 1 ∧ (gateDecide (asDebug a) s).1 = true ∧ (∀ w
      ∈ s.flt.poison, touches a w = false)) ∧
    (∃ (t : Nat) (n : Nat) (a : Access) (b : Access) (k : Nat × Nat × Nat × Bool) (s : State), b = asIssued a ∧ gateAt
      b.addr = some n ∧ accessOk b = true ∧ b.master < 17 ∧ (gateOf s n).armed = true ∧ isolated s b = false ∧
      targetShut s n = false ∧ gateCheck s n b = some k) :=
  ⟨⟨1000000000000, default, { ready with con := { ready.con with inReset := true } }, by decide +kernel⟩,
    ⟨1000000000000, { (default : BootIn) with keyDigestOk := true },
      { ready with fwu := { ready.fwu with bootStep := 9, bootStart := 999999999999 }, mod := { ready.mod with tup := { ready.mod.tup with run := .boot } } },
      by decide +kernel⟩,
    ⟨1000000000000,
      { ready with fwu := { ready.fwu with bootStep := 9 }, mod := { ready.mod with tup := { ready.mod.tup with run := .boot } } },
      by decide +kernel⟩,
    ⟨1000000000000, 0,
      { ready with fwu := { ready.fwu with hashing := true }, chg := { ready.chg with job := none } },
      by decide +kernel⟩,
    ⟨1000000000000, { ready with fwu := { ready.fwu with resetAt := some default } }, by decide +kernel⟩,
    ⟨1000000000000,
      { ready with fwu := { ready.fwu with trialEnd := 3, windowFall := false }, mod := { ready.mod with tup := { ready.mod.tup with fw := .trial } } },
      by decide +kernel⟩,
    ⟨1000000000000, (svc 1 []), { ready with con := { ready.con with inReset := false } }, by decide +kernel⟩,
    ⟨1000000000000, (svc 2 (pad 196)), default,
      { ready with con := { ready.con with inReset := false }, fwu := { ready.fwu with speedwell := true } },
      by decide +kernel⟩,
    ⟨1000000000000, (svc 3 (pad 4)), none,
      { ready with nva := { ready.nva with keys := [] }, fwu := { ready.fwu with speedTotal := 4096, speedwell := true }, con := { ready.con with inReset := false } },
      by decide +kernel⟩,
    ⟨1000000000000, (svc 4 []),
      { ready with nva := { ready.nva with keys := [], slotA := { ready.nva.slotA with hdr := some { (default : ImageHdr) with magic := 0x474D4955, format := 1, reservedZero := true, sigOk := true, manifestOk := true, compsOk := true }, complete := true } }, con := { ready.con with inReset := false }, fwu := { ready.fwu with speedwell := true } },
      by decide +kernel⟩,
    ⟨1000000000000, (svc 5 []), { ready with con := { ready.con with inReset := false } }, by decide +kernel⟩,
    ⟨1000000000000, { ready with gate := { ready.gate with mask := 16 } }, by decide +kernel⟩,
    ⟨1000000000000, debugWrite, opened, by decide +kernel⟩,
    ⟨1000000000000, debugWrite, opened, by decide +kernel⟩,
    ⟨1000000000000, { debugWrite with kind := 0, data := [] }, opened, by decide +kernel⟩,
    ⟨1000000000000, 4, { debugWrite with master := 3 }, (asIssued { debugWrite with master := 3 }), (2, 0x30000, 0x3F,
      false), opened, by decide +kernel⟩⟩

/-- Witnesses for `Obligations.TripOutputsFollowTheTest`, clause by clause. -/
theorem test_witness_TripOutputsFollowTheTest :
    ∃ (t : Nat) (q : Nat) (s : State), q < 12 :=
  ⟨1000000000000, 0, ready, by decide +kernel⟩

/-- `ready` as a STANDBY module. -/
def standingBy : State :=
  { ready with mod := { ready.mod with tup := { ready.mod.tup with role := .standby } } }

/-- A START command with a good grant. -/
def goodStart : Grant := grantFor 0x10 (le 1 1)

/-- A witness for `Obligations.CommandsNeedADrivingModule`. -/
theorem test_witness_CommandsNeedADrivingModule_a :
    ∃ (t : Nat) (c : Call) (n ty : Nat) (v : DWord) (s : State) (x : Ordered), x ∈ ordered t c n ty v s ∧
      fetchable s c.ring = true ∧ firstInLine s c.ring = true ∧ bufAligned c = true ∧ noBuf c = true ∧ authOk true c.auth = true ∧
      s.fwu.speedwell = false ∧ s.mod.tup.run ≠ .boot ∧
      (s.mod.tup.role = .standby ∨ s.mod.tup.role = .syncing ∨ s.mod.tup.role = .retired) :=
  ⟨5, callWith .none 0, 0, 0, 0, standingBy, _, .head _, by decide +kernel⟩

/-- A witness for `Obligations.CommandsNeedADrivingModule`. -/
theorem test_witness_CommandsNeedADrivingModule_b :
    ∃ (t : Nat) (c : Call) (n ty : Nat) (v : DWord) (s : State) (x : Ordered), x ∈ ordered t c n ty v s ∧
      fetchable s c.ring = true ∧ firstInLine s c.ring = true ∧ bufAligned c = true ∧ noBuf c = true ∧ authOk true c.auth = true ∧
      s.fwu.speedwell = false ∧ s.mod.tup.run = .boot :=
  ⟨5, callWith .none 0, 0, 0, 0,
    { ready with mod := { ready.mod with tup := { ready.mod.tup with run := .boot } } }, _, .head _, by decide +kernel⟩

/-- A witness for `Obligations.FailedGrantsEndTheCommand`. -/
theorem test_witness_FailedGrantsEndTheCommand_a :
    ∃ (t : Nat) (c : Call) (n ty : Nat) (v : DWord) (s : State) (x : Ordered) (st : Status) (slot : Nat),
      x ∈ ordered t c n ty v s ∧ accepts c accD s = true ∧ firstInLine s c.ring = true ∧ noBuf c = true ∧
      ∃ g, c.auth = .grant g ∧ slot = g.keySlot ∧
        grantCheck (taken c t s) false false (some x.2.2.2.1) (g.action = x.2.1) x.2.2.2.2 g = some st :=
  ⟨5, callWith (.grant (grantWith 7 0x10 0 (le 1 1))) 0, 0, 0, 0, ready, _, .grantKey, 7, .head _,
    by decide +kernel, by decide +kernel, rfl, _, rfl, rfl, by decide +kernel⟩

/-- A witness for `Obligations.FailedGrantsEndTheCommand`. -/
theorem test_witness_FailedGrantsEndTheCommand_b :
    ∃ (t : Nat) (c : Call) (n ty : Nat) (v : DWord) (s : State) (x : Ordered) (st : Status) (slot : Nat),
      x ∈ ordered t c n ty v s ∧ accepts c accD s = true ∧ firstInLine s c.ring = true ∧ noBuf c = true ∧
      c.auth = .none ∧ slot = 0 ∧ st = .grantMissing :=
  ⟨5, callWith .none 0, 0, 0, 0, ready, _, _, _, .head _, by decide +kernel, by decide +kernel, rfl, rfl, rfl, rfl⟩

/-- A witness for `Obligations.GrantActsAtMostOnce`. -/
theorem test_witness_GrantActsAtMostOnce_a :
    ∃ (t t2 : Nat) (c c2 : Call) (g : Grant) (op role : Nat) (free : Bool) (tgt : List Byte → Bool) (s u v : State),
      (accepts c accD s = true ∧ noBuf c = true ∧ carries c 0x10 roleOperate false (modeTarget 1 0 0) g t s = true) ∧
      exec (.start t c) s = .next u ∧ (∀ p ∈ u.nva.nonces, p ∈ v.nva.nonces) ∧ v.fwu.speedwell = false :=
  ⟨5, 6, callWith (.grant goodStart) 0, callWith (.grant goodStart) 0, goodStart, 0x10, roleOperate, false,
    modeTarget 1 0 0, ready, _, _, by decide +kernel, rfl, fun _ h => h, by decide +kernel⟩

/-- A witness for `Obligations.GrantActsAtMostOnce`. -/
theorem test_witness_GrantActsAtMostOnce_b : ∃ (c : Instr) (s u : State), exec c s = .next u := ⟨.nop 5 (callWith .none 0), ready, _, rfl⟩

/-- A witness for `Obligations.ArbitrationRefusesCommands`. -/
theorem test_witness_ArbitrationRefusesCommands :
    ∃ (t : Nat) (c : Call) (n ty : Nat) (v : DWord) (g : Grant) (s : State) (x : Ordered), x ∈ ordered t c n ty v s ∧
      accepts c accD s = true ∧ noBuf c = true ∧ carries c x.2.1 x.2.2.2.1 false x.2.2.2.2 g t s = true ∧
      s.mod.arb = true :=
  ⟨5, callWith (.grant goodStart) 0, 0, 0, 0, goodStart, { ready with mod := { ready.mod with arb := true } }, _,
    .head _, by decide +kernel, rfl, by decide +kernel, rfl⟩

/-- A witness for `Obligations.DebugUnlockOnlyAtRest`. -/
theorem test_witness_DebugUnlockOnlyAtRest :
    ∃ (t : Nat) (c : Call) (g : Grant) (mask : Nat) (s : State), accepts c accDSYX s = true ∧ noBuf c = true ∧
      carries c 0x63 roleDebug false (tgtEq (le 4 mask)) g t s = true ∧ mask ≤ 127 ∧
      ¬ (s.mod.tup.role = .retired ∨ (s.mod.tup.role = .solo ∧ (s.mod.tup.run = .idle ∨ s.mod.tup.run = .hold))) :=
  ⟨5, callWith (.grant (grantFor 0x63 (le 4 127))) 0, grantFor 0x63 (le 4 127), 127, standingBy, by decide +kernel⟩

/-- A witness for `Obligations.StagingAndActivationExclude`. -/
theorem test_witness_StagingAndActivationExclude_a :
    ∃ (t : Nat) (c : Call) (g : Grant) (box : Container) (s : State), accepts c accD s = true ∧
      carries c 0x20 roleStage false (stageTarget box) g t s = true ∧ s.mod.arb = false ∧ s.mod.tup.fw = .trial :=
  ⟨5, callWith (.grant (grantFor 0x20 [])) 0, grantFor 0x20 [], default,
    { ready with mod := { ready.mod with tup := { ready.mod.tup with fw := .trial } } }, by decide +kernel⟩

/-- A witness for `Obligations.StagingAndActivationExclude`. -/
theorem test_witness_StagingAndActivationExclude_b :
    ∃ (t : Nat) (c : Call) (g : Grant) (s : State), accepts c (accD + accS + accY) s = true ∧ noBuf c = true ∧
      (slotOf s.nva (altSlot s)).complete = true ∧
      carries c 0x31 roleFirmware false (tgtEq (le 16 (slotOf s.nva (altSlot s)).digest)) g t s = true ∧
      s.mod.arb = false ∧ (s.mod.tup.change = .staged ∨ s.mod.tup.change = .trial) :=
  ⟨5, callWith (.grant (grantFor 0x31 [])) 0, grantFor 0x31 [],
    { ready with
      mod := { ready.mod with tup := { ready.mod.tup with change := .trial } }
      nva := { ready.nva with
        slotA := { ready.nva.slotA with complete := true }, slotB := { ready.nva.slotB with complete := true } } },
    by decide +kernel⟩

/-- A host input point at address 3. -/
def hostPoint : Point := ⟨3, false, .int64, 0, none, 0, .host⟩

/-- A witness for `Obligations.CommitTakesTheNewestArrival`. -/
theorem test_witness_CommitTakesTheNewestArrival :
    ∃ (t : Nat) (p : Point) (a : Arr) (s : State), (s.mod.tup.role = .solo ∧ s.mod.tup.run = .run ∧
      s.cyc.phase = .boundary ∧ s.chg.mig = none ∧ s.cyc.minDone = true ∧ s.clk.gapFrom = none ∧
      (∀ q ∈ s.cyc.pend, isForce q.body = false) ∧ p ∈ s.chg.cur.points ∧ p.isOut = false ∧ p.link = .host ∧ p.freshNs = 0) ∧ (∀ q ∈ s.chg.cur.points, q.addr = p.addr → q = p) ∧
      (forceOn s.cyc.forces p.addr = none ∧ a ∈ s.cyc.inbox ∧ a.addr = p.addr ∧ a.at_ < max s.gt t) ∧
      ∀ b ∈ s.cyc.inbox, b.addr = p.addr → b.at_ < max s.gt t → b = a ∨ b.at_ < a.at_ :=
  ⟨50, hostPoint, ⟨3, 49, 7, none, 0, false⟩,
    { ready with
      mod := { ready.mod with tup := { ready.mod.tup with run := .run } }
      chg := { ready.chg with cur := { ready.chg.cur with points := [hostPoint] } }
      cyc := { ready.cyc with
        minDone := true, inbox := [⟨3, 48, 6, none, 0, false⟩, ⟨3, 49, 7, none, 0, false⟩, ⟨3, 50, 8, none, 0, false⟩] } },
    by decide +kernel⟩

/-- A witness for `Obligations.SecondWatchdogExpiryHolds`. -/
theorem test_witness_SecondWatchdogExpiryHolds :
    ∃ (t : Nat) (s : State), s.cyc.executing = true ∧ (s.cyc.phase = .execute ∨ s.cyc.phase = .agree) ∧
      s.cyc.attempt + s.cyc.par.scanWdt ≤ max s.gt t ∧ s.cyc.retried = true :=
  ⟨1000000000000, { ready with cyc := { ready.cyc with executing := true, phase := .agree, retried := true } },
    by decide +kernel⟩

/-- `ready` in phase 3 with a retirement level of the cells. -/
def executingAt (level : Nat) : State :=
  { ready with cyc := { ready.cyc with phase := .execute, par := { ready.cyc.par with retAtCell := level } } }

/-- A witness for `Obligations.MismatchRollsBackOrRetires`. -/
theorem test_witness_MismatchRollsBackOrRetires_a :
    ∃ (t c : Nat) (equal : Bool) (s : State), s.cyc.phase = .execute ∧ c < 4 ∧ isRetired s (.cell c) = false ∧
      min 63 (bucket s (.cell c) + 8) < s.cyc.par.retAtCell ∧
      (equal = true ∨ max s.gt t < Tab.getD s.cyc.cellFails c (max s.gt t) + 1000000000) :=
  ⟨5, 3, false, executingAt 9, by decide +kernel⟩

/-- A witness for `Obligations.MismatchRollsBackOrRetires`. -/
theorem test_witness_MismatchRollsBackOrRetires_b :
    ∃ (t c : Nat) (s : State), s.cyc.phase = .execute ∧ c < 4 ∧ isRetired s (.cell c) = false ∧
      s.cyc.par.retAtCell ≤ min 63 (bucket s (.cell c) + 8) :=
  ⟨5, 0, executingAt 8, by decide +kernel⟩

/-- A table with one permissive. -/
def onePerm : IleTable := { tableNone with perms := [⟨.close, false, 0, 0, 0, [], 0, ⟨0, 0, 0⟩, none⟩] }

/-- A lane that granted the permissive and presented with a deviation. -/
def granting (dig : Nat) : LaneS :=
  { laneReset with
    admitted := true, pres := some ⟨[], dig⟩, set := { laneSetReset with table := some onePerm, vec := [true] } }

/-- Two lanes that presented the same vector, at the voter update. -/
def twoLanes : State :=
  { ready with ile := { ready.ile with
    table := some onePerm
    n := 1, evald := true, withdrawnNow := false, vec := [true], lanes := [granting 0, granting 0, laneReset] } }

/-- A witness for `Obligations.PermissivesNeedTwoEqualLanes`. -/
theorem test_witness_PermissivesNeedTwoEqualLanes :
    ∃ (t : Nat) (sweep : List (Lane × Bool)) (s u : State) (i : Nat), (s.ile.table ≠ none ∧ s.ile.upN ≠ s.ile.n ∧
      s.ile.cn + voteOfs s ≤ max s.gt t ∧ s.mod.tup.run ≠ .boot ∧ s.ile.withdrawnNow = false ∧ s.ile.evald = true) ∧
      exec (.voterUpdate t sweep) s = .next u ∧ u.ile.granted.getD i false = true :=
  ⟨1000000000000, [], twoLanes, stateOf (exec (.voterUpdate 1000000000000 []) twoLanes), 0, by decide +kernel, rfl,
    by decide +kernel⟩

/-- A witness for `Obligations.NamurQuality`. -/
theorem test_witness_NamurQuality : ∃ (p : AlParam) (c : AlChS), p.mode = .input ∧ p.namur = true ∧ c.compl = none :=
  ⟨{ alParamOff with mode := .input, namur := true }, { alChReset with i := 3600000 }, by decide⟩

/-- `ready` with CAN port 3 enabled and two receive objects. -/
def listening : State :=
  { ready with can := { ready.can with par := List.replicate 4 { canParamOff with
    en := true, rx := [⟨5, 0x7FF, false, [9]⟩, ⟨4, 0x7FE, false, [1, 2]⟩] } } }

/-- A classic CAN frame of eight bytes. -/
def canFrame (id : Nat) : CanFrame := ⟨id, false, false, false, 8, [1, 2, 3, 4, 5, 6, 7, 8], 0⟩

/-- A witness for `Obligations.CanFrameGoesToItsFirstObject`. -/
theorem test_witness_CanFrameGoesToItsFirstObject_a :
    ∃ (t x : Nat) (f : CanFrame) (s : State), (canPar s x).en = true ∧ isRetired s (.can x) = false ∧
      (canPort s x).sleep = false ∧ f.rtr = false ∧ (f.fdf = true → (canPar s x).fd = true) ∧ (canPort s x).err ≠ 2 ∧
      x < 4 ∧ fircOnly s = false ∧
      ∃ (pre post : List RxObj) (o : RxObj), (canPar s x).rx = pre ++ o :: post ∧
        (∀ r ∈ pre, ¬(f.id &&& r.mask = r.id &&& r.mask ∧ f.ide = r.ide)) ∧
        f.id &&& o.mask = o.id &&& o.mask ∧ f.ide = o.ide :=
  ⟨5, 3, canFrame 4, listening, by decide +kernel, by decide +kernel, rfl, rfl, by decide, by decide, by decide, by decide,
    [⟨5, 0x7FF, false, [9]⟩], [], ⟨4, 0x7FE, false, [1, 2]⟩, by decide +kernel⟩

/-- A witness for `Obligations.CanFrameGoesToItsFirstObject`. -/
theorem test_witness_CanFrameGoesToItsFirstObject_b :
    ∃ (t x : Nat) (f : CanFrame) (s : State), (canPar s x).en = true ∧ isRetired s (.can x) = false ∧
      (canPort s x).sleep = false ∧ f.rtr = false ∧ (f.fdf = true → (canPar s x).fd = true) ∧ (canPort s x).err ≠ 2 ∧
      x < 4 ∧ fircOnly s = false ∧
      (∀ r ∈ (canPar s x).rx, ¬(f.id &&& r.mask = r.id &&& r.mask ∧ f.ide = r.ide)) ∧ x < s.can.ports.length :=
  ⟨5, 3, canFrame 6, listening, by decide +kernel⟩

/-- A witness for `Obligations.RestrictedPortsSendNothing`. -/
theorem test_witness_RestrictedPortsSendNothing :
    ∃ (_t x : Nat) (s : State), ¬((s.mod.tup.role = .solo ∨ s.mod.tup.role = .active) ∧
      (s.mod.tup.run = .idle ∨ s.mod.tup.run = .run ∨ s.mod.tup.run = .hold) ∧ fircOnly s = false) ∧
      (canPort s x).fifo ≠ [] ∧ ∀ e ∈ (canPort s x).fifo.head?, e.begun = false :=
  ⟨5, 0, { standingBy with can := { standingBy.can with ports := [{ canPortReset with fifo := [default] }] } },
    by decide +kernel⟩

/-- A witness for `Obligations.BadPacketsAreDiscarded`. -/
theorem test_witness_BadPacketsAreDiscarded_a :
    ∃ (t n k : Nat) (h : PktHdr) (d : List Byte) (m : AgreeMsg) (l : List Nat) (es : List (Nat × Entry))
      (fs : List Force) (sm : SnapSent) (ic : IleCopy) (cause : ArbCause) (r : Relay)
      (rd : ResyncData) (hdr : Option ImageHdr) (x : Instr × Nat) (s : State),
      x ∈ [(Instr.heartbeat t h d, 0x01), (.agree t h m, 0x02), (.sliceReq t h l, 0x03), (.sliceData t h n es, 0x04),
        (.agreeDone t h n, 0x05), (.signature t h n k, 0x06), (.forceTable t h n k fs, 0x07), (.ileSnap t h n sm, 0x08),
        (.ileDigest t h n k, 0x09), (.ileState t h n k ic, 0x0A), (.release t h n, 0x0B), (.leaving t h, 0x0B),
        (.arbStart t h cause k, 0x0B), (.tierAgree t h n k, 0x0B), (.relayedCommand t h r k, 0x0B),
        (.resync t h rd, 0x0C), (.image t h n k d hdr, 0x0D)] ∧
      ¬(h.port = 0 ∧ pktOk h x.2 = true ∧ s.plv.authOk = true) :=
  ⟨5, 0, 0, { fromPartner 1 [] with rsvd := 1 }, [], default, [], [], [], default, default, .none, .staged,
    .dirty 0 [], none, _, paired, .head _, by decide +kernel⟩

/-- A witness for `Obligations.BadPacketsAreDiscarded`. -/
theorem test_witness_BadPacketsAreDiscarded_b :
    ∃ (t : Nat) (h : PktHdr) (am : AuthMsg) (x : Instr × Nat), x = (Instr.auth t h am, 0x0E) ∧
      ¬(h.port = 0 ∧ pktOk h x.2 = true) :=
  ⟨5, { fromPartner 0x0E [] with pcrc := 0 }, default, _, rfl, by decide +kernel⟩

/-- A witness for `Obligations.BadPacketsAreDiscarded_c`. -/
theorem test_witness_BadPacketsAreDiscarded_c :
    ∃ (t : Nat) (h : PktHdr) (d : List Byte) (x : Instr × Nat), x ∈ [(Instr.beacon t h d, 0x10), (.time t h d, 0x11),
      (.signals t h d, 0x12), (.boundary t h d, 0x13), (.delay t h d, 0x14)] ∧ ¬(h.port < 3 ∧ pktOk h x.2 = true) :=
  ⟨5, fromPartner 0x11 [], [], _, .head _, by decide +kernel⟩

/-- What all clauses about a beacon ask. -/
def beaconData : List Byte := List.replicate 16 0

/-- A witness for `Obligations.RingPacketsAreForwarded`. -/
theorem test_witness_RingPacketsAreForwarded_a :
    ∃ (t : Nat) (h : PktHdr) (data : List Byte) (s : State), (portUp s h.port = true ∧ h.port < 3 ∧
      pktOk h 0x10 = true ∧ data = h.pay ∧ data.length = 16 ∧ field data 0 1 < 8 ∧ field data 1 1 < 5 ∧ field data 2 1 < 16 ∧
      zeros data 3 5 = true) ∧ h.hops < 15 ∧ h.origin ≠ s.mod.slot ∧
      ∀ r ∈ s.plv.forwarded, r.1 = h.origin → r.2.1 = 0x10 → r.2.2.1 = h.seq → r.2.2.2 + 10000000 ≤ max s.gt t :=
  ⟨10000000, packetOn 2 0x10 14 beaconData, beaconData,
    { paired with plv := { paired.plv with forwarded := [(1, 0x10, 0, 0)] } }, by decide +kernel⟩

/-- A witness for `Obligations.RingPacketsAreForwarded`. -/
theorem test_witness_RingPacketsAreForwarded_b :
    ∃ (t : Nat) (h : PktHdr) (data : List Byte) (s : State), (portUp s h.port = true ∧ h.port < 3 ∧
      pktOk h 0x10 = true ∧ data = h.pay ∧ data.length = 16 ∧ field data 0 1 < 8 ∧ field data 1 1 < 5 ∧ field data 2 1 < 16 ∧
      zeros data 3 5 = true) ∧ (15 ≤ h.hops ∨ h.origin = s.mod.slot ∨
        ∃ r ∈ s.plv.forwarded, r.1 = h.origin ∧ r.2.1 = 0x10 ∧ r.2.2.1 = h.seq ∧ max s.gt t < r.2.2.2 + 10000000) :=
  ⟨9999999, fromPartner 0x10 beaconData, beaconData, { paired with plv := { paired.plv with forwarded := [(1, 0x10, 0, 0)] } },
    by decide +kernel, .inr (.inr ⟨(1, 0x10, 0, 0), .head _, by decide +kernel⟩)⟩

/-- A witness for `Obligations.ServiceFramesOutsideSpeedwell`. -/
theorem test_witness_ServiceFramesOutsideSpeedwell_a : ∃ f : List Byte, svcOk f = false := ⟨[], by decide⟩

/-- A witness for `Obligations.ServiceFramesOutsideSpeedwell`. -/
theorem test_witness_ServiceFramesOutsideSpeedwell_b :
    ∃ (t : Nat) (f : List Byte) (g : Grant) (hdr : Option ImageHdr) (s : State) (x : Instr × Nat), (svcOk f = true ∧
      s.con.inReset = false ∧ s.fwu.speedwell = false) ∧
      x ∈ [(Instr.serviceGrant t f g, 2), (.serviceChunk t f hdr, 3), (.serviceActivate t f, 4)] ∧ field f 2 1 = x.2 :=
  ⟨5, svc 2 [], goodStart, none, ready, _, by decide +kernel, .head _, by decide +kernel⟩

/-- A SAFETY PDU of connection 9 in cycle 0. -/
def goodPdu : List Byte :=
  let b := le 4 9 ++ le 2 1 ++ le 2 0xFFE ++ le 4 0 ++ le 2 4 ++ pad 2 ++ [1, 2, 3, 4]
  b ++ le 4 (crc32cFrom 9 b)

/-- A witness for `Obligations.SafetyPdusAreChecked`. -/
theorem test_witness_SafetyPdusAreChecked :
    ∃ (t : Nat) (f : RxFrame) (s u : State), (frameHdr f.bytes).ftype = 0x20 ∧
      exec (.safetyFrame t f) s = .next u ∧ u.oxn.conns ≠ s.oxn.conns :=
  ⟨20000, frameIn 2 0x20 goodPdu, { networked with oxn := { networked.oxn with conns := [⟨9, none, [], 0, false⟩] } },
    _, by decide +kernel, rfl, by decide +kernel⟩

/-- A witness for `Obligations.BucketLevelsStayWithin63`. -/
theorem test_witness_BucketLevelsStayWithin63 : ∃ s u : State, (∀ b ∈ s.nva.buckets, b.2 ≤ 63) ∧ step s = .next u :=
  ⟨{ ready with nva := { ready.nva with buckets := [(.cell 0, 63)] } }, _, by decide +kernel, rfl⟩

/-- `paired` with a retirement level of the ports. -/
def portsAt (level : Nat) (r : List RetRec) : State :=
  { paired with
    cyc := { paired.cyc with par := { paired.cyc.par with retAtPlv := level } }
    nva := { paired.nva with retired := r } }

/-- A witness for `Obligations.PortFaultsFillTheBucket`. -/
theorem test_witness_PortFaultsFillTheBucket_a :
    ∃ (p : Nat) (s : State), (portOf s p).lanes ≠ 0 ∧ isRetired s (.plv p) = false ∧
      s.cyc.par.retAtPlv ≤ min 63 (bucket s (.plv p) + 8) :=
  ⟨2, portsAt 8 [], by decide +kernel⟩

/-- A witness for `Obligations.PortFaultsFillTheBucket`. -/
theorem test_witness_PortFaultsFillTheBucket_b :
    ∃ (p : Nat) (s : State), (portOf s p).lanes ≠ 0 ∧ isRetired s (.plv p) = true :=
  ⟨2, portsAt 8 [⟨.plv 2, 0, 0, 0⟩], by decide +kernel⟩

/-- A witness for `Obligations.RetirementOutlastsAllButReadmit`. -/
theorem test_witness_RetirementOutlastsAllButReadmit :
    ∃ (c : Instr) (s u : State), exec c s = .next u ∧
      (s.nva.modRetired = some .fault ∨ s.nva.modRetired = some .judged ∨ s.nva.modRetired = some .command) ∧
      (∀ t k arg src ok, c ≠ .readmit t k arg src ok) ∧ (∀ t n d b g ok, c ≠ .descriptorFetch t n d b g ok) :=
  ⟨.pfwStop 5, { ready with nva := { ready.nva with modRetired := some .judged } }, _, rfl, by decide +kernel,
    fun _ _ _ _ _ h => (nomatch h), fun _ _ _ _ _ _ h => (nomatch h)⟩

/-- A witness for `Obligations.CodesAreWrittenOncePerSecond`. -/
theorem test_witness_CodesAreWrittenOncePerSecond_a :
    ∃ (code src : Nat) (val : Int) (s : State), isRetired s (.engine 6) = false ∧
      (s.evr.mramFull = true ∨ s.nva.recCur.length + s.evr.accs.length < 65536) ∧
      ∃ w, Tab.find? s.evr.lastWrite code = some w ∧ s.gt < w + 1000000000 :=
  ⟨7, 0, 0, { ready with gt := 999999999, evr := { ready.evr with lastWrite := [(7, 0)] } }, by decide +kernel,
    by decide +kernel, 0, by decide +kernel⟩

/-- A witness for `Obligations.CodesAreWrittenOncePerSecond`. -/
theorem test_witness_CodesAreWrittenOncePerSecond_b :
    ∃ (code src : Nat) (val : Int) (s : State), isRetired s (.engine 6) = false ∧
      (s.evr.mramFull = true ∨ s.nva.recCur.length + s.evr.accs.length < 65536) ∧
      ∀ w, Tab.find? s.evr.lastWrite code = some w → w + 1000000000 ≤ s.gt :=
  ⟨7, 0, 0, { ready with gt := 1000000000, evr := { ready.evr with lastWrite := [(7, 0)] } }, by decide +kernel,
    by decide +kernel, fun w h => by have e := Option.some.inj h; subst e; decide +kernel⟩

/-- A clear record of the current store. -/
def clearRecord : Rec := { (default : Rec) with clear := true, seq := 1 }

/-- A witness for `Obligations.ClearRecordsAreCopiedUnchanged`. -/
theorem test_witness_ClearRecordsAreCopiedUnchanged :
    ∃ (t : Nat) (bad : List Nat) (k e : Nat) (rest : List (Nat × Nat)) (r : Rec) (s u : State), (5 ∈ s.hl.bgRun ∧
      s.nva.rollWait = (k, e) :: rest ∧ r ∈ s.nva.recCur ∧ r.epoch = e ∧ r.clear = true) ∧
      (∀ i ∈ bad, (s.nva.recCur.filter (·.epoch = e))[i]? ≠ some r) ∧
      exec (.backgroundUnitDone t 5 bad) s = .next u :=
  ⟨5, [1], 1, 0, [], clearRecord, { ready with
      hl := { ready.hl with bgRun := [5] }
      nva := { ready.nva with rollWait := [(1, 0)], recCur := [clearRecord, { clearRecord with seq := 2 }] } }, _,
    by decide +kernel, by decide +kernel, rfl⟩

/-- A witness for `Obligations.HostCommandsChangeOnlyTheirParts`. -/
theorem test_witness_HostCommandsChangeOnlyTheirParts :
    ∃ (c : Instr) (s u : State), familyOf c ∈ [.registers, .hostReads, .hostWrites] ∧ exec c s = .next u :=
  ⟨.nop 5 (callWith .none 0), ready, _, by decide, rfl⟩

/-- A witness for `Obligations.ModeCycleAndNetworkCommandsChangeOnlyTheirParts`. -/
theorem test_witness_ModeCycleAndNetworkCommandsChangeOnlyTheirParts :
    ∃ (c : Instr) (s u : State), familyOf c ∈ [.modes, .cycle, .network] ∧ exec c s = .next u :=
  ⟨.start 5 (callWith (.grant goodStart) 0), ready, _, by decide, rfl⟩

/-- A witness for `Obligations.InterlockingPairAndRingCommandsChangeOnlyTheirParts`. -/
theorem test_witness_InterlockingPairAndRingCommandsChangeOnlyTheirParts :
    ∃ (c : Instr) (s u : State), familyOf c ∈ [.interlocking, .pair, .ring] ∧ exec c s = .next u :=
  ⟨.voterUpdate 5 [], twoLanes, _, by decide, rfl⟩

/-- A witness for `Obligations.PowerAndBootCommandsChangeOnlyTheirParts`. -/
theorem test_witness_PowerAndBootCommandsChangeOnlyTheirParts :
    ∃ (c : Instr) (s u : State), familyOf c ∈ [.power, .boot] ∧ exec c s = .next u :=
  ⟨.pfw 5, ready, _, by decide, rfl⟩

/-- A witness for `Obligations.InputOutputCommandsChangeOnlyTheirParts`. -/
theorem test_witness_InputOutputCommandsChangeOnlyTheirParts :
    ∃ (c : Instr) (s u : State), familyOf c ∈ [.tripIo, .analog, .can] ∧ exec c s = .next u :=
  ⟨.canFrameReceived 5 3 (canFrame 4), listening, _, by decide, rfl⟩

/-- A witness for `Obligations.ClockAndFaultCommandsChangeOnlyTheirParts`. -/
theorem test_witness_ClockAndFaultCommandsChangeOnlyTheirParts :
    ∃ (c : Instr) (s u : State), familyOf c ∈ [.clocks, .faults] ∧ exec c s = .next u :=
  ⟨.eccCorrected 5 1 3, ready, _, by decide, rfl⟩

/-- A witness for `Obligations.SetupRegistersLockAndReadBack`. -/
theorem test_witness_SetupRegistersLockAndReadBack_locked :
    ∃ (s : State) (x : Nat × Nat × Bool),
      x ∈ [(0x3004, 0x1FFF, s.hl.armed), (0xC004, 0xFF, s.bst.armed), (0xF004, 0xFF01, s.tim.armed)] ∧
      (x.2.2 = true ∨ s.hxp.trained = false ∨ s.mod.tup.run ≠ .boot ∨ s.fwu.speedwell = true) :=
  ⟨ready, (0xF004, 0xFF01, false), by decide +kernel⟩

/-! ### Worked examples of the manual -/

/-- `ready` while BOOT has not armed the setup registers. -/
def settingUp : State :=
  { ready with
    mod := { ready.mod with tup := { ready.mod.tup with run := .boot } }
    hxp := { ready.hxp with armed := false, trained := true } }

/-- What a register reads after a write of it in `settingUp`. -/
def setUp (off : Nat) (val : Word) : Word := readReg (stateOf (exec (.regWrite 5 off val) settingUp)) off

/-- Table 22.3: each set-up write reads back. -/
theorem test_table_22_3 :
    [(0xF004, 0x501), (0xC, 0x32F0), (0x10, 0x40020000), (0x14, 8), (0x18, 0x39), (0x100, 0x40000000), (0x104, 8),
      (0x108, 0x40010000), (0x10C, 8), (0x110, 0x15)].all (fun p => setUp p.1 p.2 = p.2) = true := by decide +kernel

/-- After Table 22.3: a TIME_CFG write after BOOT leaves 0x0000_0A01. -/
theorem test_time_cfg_after_boot :
    readReg (stateOf (exec (.regWrite 5 0xF004 0x501) ready)) 0xF004 = 0xA01 := by decide +kernel

/-- After Table 22.3: the registers that read after ARM. -/
theorem test_arm :
    let s := stateOf (exec (.arm 5 1) { settingUp with hxp := { settingUp.hxp with
      rings := (State.reset.hxp.rings).set 0 { ringReset with cfg := 0x15 } } })
    readReg s 8 = 1 ∧ readReg s 0x114 = 0 ∧ readReg s 0x118 = 0x1000 := by decide +kernel

/-- Gate 0 with the output image at index 9 under lock 2 and the force table at index 10 under lock 3. -/
def lockBoundary : State :=
  { ready with gate := { ready.gate with
    mask := 2
    gates := [{ gateReset1 with
      armed := true
      bank0 := [(9, ⟨0x10400, 0x10800, 1, 5, false, 2, 0x3F, true⟩), (10, ⟨0x10800, 0x10900, 1, 6, false, 3, 0x3F, true⟩)] }] } }

/-- The engineer's read of 64 bytes. -/
def burst : Access := ⟨17, 0x107FFFE0, 64, 0, 15, false, true, [], []⟩

/-- Table 14.6: the latched violation. -/
theorem test_table_14_6 :
    let s := stateOf (exec (.debugAccess 5 burst) lockBoundary)
    readReg s 0x4100 = 0x107FFFE0 ∧ readReg s 0x4104 = 0 ∧ readReg s 0x4108 = 0x02A8EDF1 ∧ readReg s 0x4114 = 0x00010001 := by
  decide +kernel

/-- Chapter 14: the first half alone is returned, and no violation is latched. -/
theorem test_lock_boundary_half :
    (stateOf (exec (.debugAccess 5 { burst with len := 32 }) lockBoundary)).gate = lockBoundary.gate := by decide +kernel

/-- A SOURCE channel AL1 at a bucket level, its readback off since 0, retired at 24. -/
def drifting (level : Nat) : State :=
  { ready with
    alp := { ready.alp with
      par := List.replicate 4 { alParamOff with mode := .source }
      ch := List.replicate 4 { alChReset with en := true, readback := some 0 } }
    cyc := { ready.cyc with par := { ready.cyc.par with retAtAlp := 24 } }
    nva := { ready.nva with buckets := if level = 0 then [] else [(.al 1, level)] } }

/-- Table 17.4a, steps 1, 3 and 5: the levels after a READBACK fault. -/
theorem test_table_17_4a :
    [(0, 8), (5, 13), (11, 19)].all (fun p =>
      let s := stateOf (exec (.alpReadback 100000000 1) (drifting p.1))
      bucket s (.al 1) = p.2 && !isRetired s (.al 1)) = true := by decide +kernel

/-- Table 17.4a, step 7: 26 ≥ 24 retires AL1. -/
theorem test_table_17_4a_retires :
    let s := stateOf (exec (.alpReadback 100000000 1) (drifting 18))
    bucket s (.al 1) = 26 ∧ isRetired s (.al 1) = true := by decide +kernel

/-- Table 17.4a, step 6: a drain tick takes 1. -/
theorem test_table_17_4a_drain : bucket (stateOf (exec (.drainTick 125000000) (drifting 19))) (.al 1) = 18 := by
  decide +kernel

/-- Table 16.5: B_t with N = 400 µs and max(P, W / 4) = 5,160,000 cycles, four cells in service, in µs. -/
theorem test_table_16_5 :
    let s := { ready with hl := { ready.hl with nMax := 400, pMax := 5160000, wMax := 0 } }
    (scanBound s 0, scanBound s 1, scanBound s 2, scanBound s 3) = (9860, 11752, 14590, 19320) := by decide +kernel

/-- Chapter 16: an allowance of 20 W makes t_allow T2. -/
theorem test_allowance_20_w : tAllow { ready with hl := { ready.hl with allow := 200 } } = 2 := by decide +kernel

/-- Table 8.2: the deviations kept. -/
theorem test_table_8_2 : ftaKept [0, 18, -12, 7, 140, 25, -31, 4] = [0, 4, 7, 18] := by
  decide +kernel

/-- Table 8.2: A = 8.59375 ns, in units of 2^-32 ns, of 8 values with k = 2. -/
theorem test_offset_correction :
    let s := timCorrect 0 2000000 40000 (some 1) false true { ready with tim := { ready.tim with devs :=
      [(1, .a, 18), (0x11, .a, -12), (0x12, .a, 7), (0xA3, .a, 140), (0x117, .a, 25), (0x200, .a, -31), (0x201, .a, 4)] } }
    s.tim.prevA = 36909875200 ∧ s.tim.nVals = 8 ∧ s.tim.kVals = 2 := by decide +kernel

/-- Chapter 8: ρ = +1.6 ppm and r_drv = +2.0 ppm take 850,000 units from RATE. -/
theorem test_rate_correction :
    (timCorrect 1 10000000 40000 (some 1) false false { ready with tim := { ready.tim with
      rate := 0, prevDevs := [(1, 0), (2, 0)], devs := [(1, .a, 20), (2, .a, 12)] } }).tim.rateNext = some (-850000) := by
  decide +kernel

/-- Table 19.4, with E at 3,600 s: CAN_TX_DROP was written at E + 3,599.400 s, two drops wait in epoch E's
accumulator. -/
def drops : State :=
  let first := occRec 1 0x802 0x400001 7199400000000 2 0
  let wait := occRec 1 0x802 0x400001 7199600000000 2 1
  { ready with
    gt := 7200000000000
    evr := { ready.evr with accs := accumulate wait [wait], lastWrite := [(0x802, 7199400000000)] }
    nva := { ready.nva with recCur := [{ first with seq := 1 }] } }

/-- Table 19.4, step 1: a first drop is written at once, with COUNT 1, SUPPRESSED 0 and bin 15 at 1. -/
theorem test_table_19_4_first :
    (occur 0x802 0x400001 2 { ready with gt := 7199400000000 }).nva.recCur.map (fun r =>
      (r.epoch, r.count, r.supp, r.hist.getD 15 0)) = [(3600000000000, 1, 0, 1)] := by decide +kernel

/-- Table 19.4, steps 3 to 5: one write updates both epochs' records. -/
theorem test_table_19_4_boundary :
    let s := occur 0x802 0x400001 2 drops
    let u := occur 0x802 0x400001 2 { s with gt := 7200200000000 }
    (stateOf (exec (.sorrelRateWrite 7200400000000 0x802) u)).nva.recCur.map (fun r =>
      (r.epoch, r.count, r.supp, r.hist.getD (if r.epoch = 3600000000000 then 15 else 0) 0, r.min, r.max)) =
    [(3600000000000, 3, 2, 3, 2, 2), (7200000000000, 2, 2, 2, 2, 2)] := by decide +kernel

/-- Chapter 0: an event at 7,200 s belongs to the following epoch. -/
theorem test_epoch_boundary :
    (occRec 1 7 0x200005 7200000000000 0 0).epoch = 7200000000000 := by decide +kernel

/-- FS1 in state OFF of Table 10.6, its voltages held above 12.0, 16.0 and 18.0 V from given times. -/
def supplyAt (level : Nat) (below above : List (Option Nat)) : State :=
  { ready with tio := { ready.tio with fs := [fsReset, { fsReset with level := level, below := below, above := above }] } }

/-- Table 10.6, steps 2 and 9: WARN after 1 ms below 18.0 V, LOW after 50 ms above 12.0 V. -/
theorem test_table_10_6 :
    (fsOf (stateOf (exec (.tioSupplyDown 121000000 1) (supplyAt 0 [some 120000000, none, none] [none, none, none]))) 1).level = 1 ∧
    (fsOf (stateOf (exec (.tioSupplyUp 950000000 1) (supplyAt 3 [none, none, none] [none, none, some 900000000]))) 1).level = 2 := by
  decide +kernel

/-- Table 15.7, step 3: CLK_FORCED reads 0x0003_0001 after the forced switch of D3, and lane B is retired. -/
theorem test_table_15_7 :
    let s := stateOf (exec (.clkForced 365000 3) { ready with clk := { ready.clk with
      domFirc := 0, switching := [⟨3, .firc, 301000⟩], plls := List.replicate 7 ⟨1, true, false⟩ } })
    readReg s 0x2018 = 0x00030001 := by decide +kernel

/-- Table 6.7, step 1: lane B's digest differs, so its bucket is 8 and the others vote. -/
theorem test_table_6_7 :
    let s := stateOf (exec (.voterUpdate 1000000 []) { twoLanes with ile := { twoLanes.ile with
      lanes := [granting 0, granting 1, granting 0] } })
    bucket s (.lane .b) = 8 ∧ s.ile.granted = [true] := by decide +kernel

/-- The published check values of the codes that chapter 0 names, over the digits 1 to 9. -/
theorem test_check_values :
    let d : List Byte := [0x31, 0x32, 0x33, 0x34, 0x35, 0x36, 0x37, 0x38, 0x39]
    crc32 d = 0xCBF43926 ∧ crc32c d = 0xE3069283 ∧ crc64 d = 0x995DC9BBDF1939FA := by decide +kernel

/-- FIPS 180-4: SHA-512 of "abc" begins DDAF35A1 93617ABA. -/
theorem test_sha512 : (sha512 [0x61, 0x62, 0x63]).take 8 = [0xDD, 0xAF, 0x35, 0xA1, 0x93, 0x61, 0x7A, 0xBA] := by
  decide +kernel

/-- RFC 6979, A.2.7: the signature with P-521 and SHA-512 of "sample" verifies, and not of "tampl". -/
theorem test_ecdsa :
    let ok := ecdsaOk
      0x1894550D0785932E00EAA23B694F213F8C3121F86DC97A04E5A7167DB4E5BCD371123D46E45DB6B5D5370A7F20FB633155D38FFA16D2BD761DCAC474B9A2F5023A4
      0x0493101C962CD4D2FDDF782285E64584139C2F91B47F87FF82354D6630F746A28A0DB25741B5B34A828008B22ACC23F924FAAFBD4D33F81EA66956DFEAA2BFDFCF5
    let r := 0x0C328FAFCBD79DD77850370C46325D987CB525569FB63C5D3BC53950E6D4C5F174E25A1EE9017B5D450606ADD152B534931D7D4E8455CC91F9B15BF05EC36E377FA
    let sg := 0x0617CCE7CF5064806C467F678D3B4080D6F1CC50AF26CA209417308281B68AF282623EAA63E5B5C0723D8B8C37FF0777B1A20F8CCB1DCCC43997F1EE0E44DA4A67A
    ok [0x73, 0x61, 0x6D, 0x70, 0x6C, 0x65] r sg = true ∧ ok [0x74, 0x61, 0x6D, 0x70, 0x6C] r sg = false := by
  decide +kernel

/-! ### Ill-formed commands are refused -/

/-- A time stamp of more than 64 bits. -/
theorem test_wf_time : wellFormed (.tCommit (2 ^ 64)) = false ∧ wellFormed (.tCommit (2 ^ 64 - 1)) = true := by decide

/-- A call context that does not fit its descriptor. -/
theorem test_wf_call :
    [(⟨8, 0, false, 0, .none, 0, 0⟩ : Call), ⟨0, 65536, false, 0, .none, 0, 0⟩, ⟨0, 0, false, 2 ^ 64, .none, 0, 0⟩,
      ⟨0, 0, false, 0, .standing 256, 0, 0⟩, ⟨0, 0, false, 0, .none, 2 ^ 64, 0⟩, ⟨0, 0, false, 0, .none, 0, 2 ^ 32⟩].all
      (fun c => !wellFormed (.nop 0 c)) = true := by decide

/-- A grant that is not the 196 bytes of Table 13.6. -/
theorem test_wf_grant :
    [(⟨[]⟩ : Grant), ⟨List.replicate 195 0⟩, ⟨List.replicate 197 0⟩].all
      (fun g => !wellFormed (.start 0 (callWith (.grant g) 0)) && !wellFormed (.serviceGrant 0 [] g)) = true := by
  decide

/-- Arguments that do not fit their field of Table 13.5. -/
theorem test_wf_arguments :
    [Instr.pointRead 0 (callWith .none 0) 256 0 0, .pointRead 0 (callWith .none 0) 0 (2 ^ 32) 0,
      .pointRead 0 (callWith .none 0) 0 0 (2 ^ 32), .pointWrite 0 (callWith .none 0) 1 [⟨2 ^ 32, 0, 0⟩],
      .pointWrite 0 (callWith .none 0) 1 [⟨0, 256, 0⟩], .pointWrite 0 (callWith .none 0) (2 ^ 32) [],
      .forceSet 0 (callWith .none 0) (2 ^ 32) 0 0, .forceSet 0 (callWith .none 0) 0 256 0,
      .readmit 0 (callWith .none 0) 256 0 true, .readmit 0 (callWith .none 0) 0 (2 ^ 32) true,
      .switch 0 (callWith .none 0) (2 ^ 64), .confirm 0 (callWith .none 0) (2 ^ 32),
      .snapArm 0 (callWith .none 0) 65536 0, .block 0 (callWith .none 0) ⟨65536, 0, true⟩,
      .block 0 (callWith .none 0) ⟨0, 2 ^ 64, true⟩, .ileRead 0 (callWith .none 0) 0 65536 0,
      .keyProvision 0 (callWith .none 0) ⟨256, 0, 0, 0⟩, .keyProvision 0 (callWith .none 0) ⟨0, 65536, 0, 0⟩,
      .keyProvision 0 (callWith .none 0) ⟨0, 0, 2 ^ 528, 0⟩, .keyProvision 0 (callWith .none 0) ⟨0, 0, 0, 2 ^ 528⟩,
      .cycleStatus 0 (callWith .none 0) 256, .badOpcode 0 (callWith .none 0) 256].all
      (fun i => !wellFormed i) = true := by decide

/-- Ring numbers, host buffers, packet headers, accesses, frames and unit numbers that do not fit. -/
theorem test_wf_other_operands :
    [Instr.regWrite 0 (2 ^ 32) 0, .hxpCmdqDb 0 8 0, .descriptorFetch 0 8 [] .none none true,
      .descriptorFetch 0 0 [] (.key ⟨256, 0, 0, 0⟩) none true,
      .descriptorFetch 0 0 [] .none (some ⟨[]⟩) true, .coalesceExpiry 0 16,
      .lockstepMismatch 0 ⟨4, false⟩, .oxnActionPoint 0 .a 65536, .dataFrame 0 ⟨.a, 2 ^ 64, 0, []⟩, .dataFrame 0 ⟨.a, 0, 2 ^ 64, []⟩,
      .heartbeat 0 { fromPartner 1 [] with port := 3 } [], .heartbeat 0 { fromPartner 1 [] with hops := 256 } [],
      .heartbeat 0 { fromPartner 1 [] with origin := 256 } [], .heartbeat 0 { fromPartner 1 [] with dest := 256 } [],
      .heartbeat 0 { fromPartner 1 [] with seq := 2 ^ 32 } [], .heartbeat 0 { fromPartner 1 [] with ptype := 256 } [],
      .heartbeat 0 { fromPartner 1 [] with len := 2 ^ 32 } [], .heartbeat 0 { fromPartner 1 [] with rsvd := 2 ^ 32 } [],
      .heartbeat 0 { fromPartner 1 [] with pcrc := 2 ^ 32 } [], .heartbeat 0 (fromPartner 1 []) [1], .p0LinkUp (2 ^ 64),
      .ileSnap 0 (fromPartner 8 []) (2 ^ 64) ⟨[], [], []⟩, .canFrameReceived 0 0 { canFrame 0 with errs := 256 },
      .canTxComplete 0 0 65536 0, .fltL0 0 0 32, .eccUncorrectable 0 0 ⟨0, 256, 0⟩, .plvPortTrained 0 4 2,
      .ringLost 0 8, .pairDisc 0 16, .sinkCheck 0 32 true,
      .overcurrent 0 16 true, .groupOverload 0 2, .canFrameReceived 0 4 (canFrame 0),
      .canFrameReceived 0 0 { canFrame 0 with id := 2 ^ 29 }, .canFrameReceived 0 0 { canFrame 0 with dlc := 16 },
      .canFrameReceived 0 0 { canFrame 0 with data := List.replicate 65 0 }, .pllLocked 0 8, .clkForced 0 32,
      .debugAccess 0 { burst with master := 18 }, .debugAccess 0 { burst with addr := 2 ^ 64 },
      .debugAccess 0 { burst with kind := 3 }, .debugAccess 0 { burst with key := 16 }, .engineWatchdogExpiry 0 8 true,
      .eccCorrected 0 4 0, .persistenceExpiry 0 (.cell 0) 65536, .imageHashDone 0 (2 ^ 512)].all
      (fun i => !wellFormed i) = true := by decide
end

/-! PROOFS. Registers: what BAR0 does at an offset where Table 22.1 has no register (R7). -/

namespace Sys2Proof.Machine

/-- The gaps of the HXP block that matter for a write: the last word of each ring's setup block, and everything above
HXP_CTL_DB. -/
theorem hxp_gap_of_no_register {off : Nat} (ha : off % 4 = 0) (hr : registerAt off = false) (hb : off < 0x1000) :
    (0x100 ≤ off → off < 0x200 → off % 0x20 = 0x1C) ∧ (0x400 ≤ off → 0x444 < off) := by
  have hblk : off / 4096 = 0 := by omega
  simp [registerAt, registerIn, ha, hblk] at hr
  omega

theorem updAt_of_fixes {α : Type} {f : α → α} (h : ∀ x, f x = x) (l : List α) (i : Nat) : updAt l i f = l := by
  induction l generalizing i with
  | nil => rfl
  | cons x xs ih =>
    cases i with
    | zero => simp [updAt, h]
    | succ i => simp [updAt, ih]

theorem updRing_of_fixes {f : RingS → RingS} (h : ∀ r, f r = r) (n : Nat) (s : State) : updRing n f s = s := by
  simp [updRing, updAt_of_fixes h]

theorem hxpWrite_of_no_register {off : Nat} (val : Word) (s : State) (ha : off % 4 = 0)
    (hr : registerAt off = false) (hb : off < 0x400) : hxpWrite off val s = s := by
  unfold hxpWrite
  split
  case h_5 =>
    split
    next hring =>
      obtain ⟨hlo, hhi⟩ := hring
      rw [(hxp_gap_of_no_register ha hr (by omega)).1 hlo hhi]
      exact updRing_of_fixes (fun _ => rfl) _ s
    next => rfl
  all_goals exact absurd hr (by decide)

theorem hxpDoorbell_of_no_register {off : Nat} (val : Word) (s : State) (ha : off % 4 = 0)
    (hr : registerAt off = false) (hlo : 0x400 ≤ off) (hb : off < 0x1000) : hxpDoorbell off val s = s := by
  have habove : 0x444 < off := (hxp_gap_of_no_register ha hr hb).2 hlo
  unfold hxpDoorbell
  rw [if_neg (by omega), if_neg (by omega), if_neg (by omega)]

/-- The arms of `writeReg` for single offsets stand at registers, so only the HXP block's two ranges are left. -/
theorem writeReg_of_no_register {off : Nat} (val : Word) (s : State) (ha : off % 4 = 0)
    (hr : registerAt off = false) : writeReg off val s = s := by
  unfold writeReg
  split
  next hsetup => rw [hxpWrite_of_no_register val s ha hr hsetup, ite_self]
  next hsetup =>
    split
    case h_6 =>
      split
      next hdb => exact hxpDoorbell_of_no_register val s ha hr (by omega) hdb
      next => rfl
    all_goals exact absurd hr (by decide)

theorem readReg_of_no_register {off : Nat} (s : State) (hr : registerAt off = false) : readReg s off = 0 := by
  simp [readReg, hr]

/-- Settles O11: the read by the map's guard, the write because every offset that `writeReg` acts on has a register. -/
theorem offsetsWithoutRegister : Obligations.OffsetsWithoutRegister := by
  intro t off val s hoff ha hr
  refine ⟨readReg_of_no_register s hr, ?_⟩
  change execRegWrite t off val s = .next (atT t s)
  rw [execRegWrite, if_pos hoff, writeReg_of_no_register val _ ha hr]

end Sys2Proof.Machine

/-! PROOFS. The frames of the register, host read and host write commands, from the frame of each command. -/

namespace Sys2Proof.Machine

/-- Parts that all stand in a list, by computation; the list may be `mayChange c` of a command with open operands. -/
theorem partsWithin {a l : List Part} (h : decide (a ⊆ l) = true := by rfl) : a ⊆ l := of_decide_eq_true h

theorem registerCommand_only {c : Instr} {s u : State} (hf : familyOf c = .registers)
    (h : exec c s = .next u) : onlyChanges (mayChange c) s u := by
  cases c with
  | unsupportedAccess _ _ _ write => exact execUnsupportedAccess_only (_write := write) partsWithin h
  | regWrite => exact execRegWrite_only partsWithin h
  | timeGtLoRead => exact execTimeGtLoRead_only partsWithin h
  | hxpCmdqDb => exact execHxpCmdqDb_only partsWithin h
  | hxpCplqDb => exact execHxpCplqDb_only partsWithin h
  | hxpEvqDb => exact execHxpEvqDb_only partsWithin h
  | arm => exact execArm_only partsWithin h
  | disarm => exact execDisarm_only partsWithin h
  | disarmComplete => exact execDisarmComplete_only partsWithin h
  | ringReset => exact execRingReset_only partsWithin h
  | evqReset => exact execEvqReset_only partsWithin h
  | gateClrDb => exact execGateClrDb_only partsWithin h
  | clkMonDb => exact execClkMonDb_only partsWithin h
  | completionPost => exact execCompletionPost_only partsWithin h
  | eventPost => exact execEventPost_only partsWithin h
  | coalesceExpiry => exact execCoalesceExpiry_only partsWithin h
  | dmaTimeout => exact execDmaTimeout_only partsWithin h
  | dmaError => exact execDmaError_only partsWithin h
  | pcieReset => exact execPcieReset_only partsWithin h
  | pciePerstChange => exact execPciePerstChange_only partsWithin h
  | linkTrained => exact execLinkTrained_only partsWithin h
  | _ => cases hf

theorem hostReadCommand_only {c : Instr} {s u : State} (hf : familyOf c = .hostReads)
    (h : exec c s = .next u) : onlyChanges (mayChange c) s u := by
  cases c with
  | nop => exact execNop_only partsWithin h
  | pointRead => exact execPointRead_only partsWithin h
  | forceList => exact execForceList_only partsWithin h
  | fwStatus => exact execFwStatus_only partsWithin h
  | recRead => exact execRecRead_only partsWithin h
  | snapRead => exact execSnapRead_only partsWithin h
  | ileRead => exact execIleRead_only partsWithin h
  | cycleStatus => exact execCycleStatus_only partsWithin h
  | changeStatus => exact execChangeStatus_only partsWithin h
  | identity => exact execIdentity_only partsWithin h
  | lRead => exact execLRead_only partsWithin h
  | lStatus => exact execLStatus_only partsWithin h
  | legacyWrite => exact execLegacyWrite_only partsWithin h
  | badOpcode => exact execBadOpcode_only partsWithin h
  | _ => cases hf

theorem hostWriteCommand_only {c : Instr} {s u : State} (hf : familyOf c = .hostWrites)
    (h : exec c s = .next u) : onlyChanges (mayChange c) s u := by
  cases c with
  | descriptorFetch _ _ _ _ _ held => exact execDescriptorFetch_only (_held := held) partsWithin h
  | pointWrite => exact execPointWrite_only partsWithin h
  | forceSet => exact execForceSet_only partsWithin h
  | forceClear => exact execForceClear_only partsWithin h
  | fwChunk => exact execFwChunk_only partsWithin h
  | fwActivate => exact execFwActivate_only partsWithin h
  | recClear => exact execRecClear_only partsWithin h
  | snapArm => exact execSnapArm_only partsWithin h
  | block => exact execBlock_only partsWithin h
  | unblock => exact execUnblock_only partsWithin h
  | emergRelease => exact execEmergRelease_only partsWithin h
  | timeSet => exact execTimeSet_only partsWithin h
  | hartPass => exact execHartPass_only partsWithin h
  | debugUnlock => exact execDebugUnlock_only partsWithin h
  | keyProvision => exact execKeyProvision_only partsWithin h
  | grantHold => exact execGrantHold_only partsWithin h
  | grantDrop => exact execGrantDrop_only partsWithin h
  | _ => cases hf

/-- Settles O55: each of the three families by the frames of its commands. -/
theorem hostCommandsChangeOnlyTheirParts : Obligations.HostCommandsChangeOnlyTheirParts := by
  intro c s u hf h
  simp only [List.mem_cons, List.not_mem_nil, or_false] at hf
  obtain hr | hr | hr := hf
  · exact registerCommand_only hr h
  · exact hostReadCommand_only hr h
  · exact hostWriteCommand_only hr h

end Sys2Proof.Machine

/-! PROOFS. The network's commands complete: what a received frame's counts leave alone, then each command under the
conditions of its rule (R179 to R208). -/

namespace Sys2Proof.Machine

/-! ### What an occurrence leaves to the network -/

@[simp] theorem occur_oxn (code src : Nat) (val : Int) (s : State) : (occur code src val s).oxn = s.oxn :=
  occur_only (L := recording) partsWithin onlyChanges_refl .network (by decide)

@[simp] theorem occur_tup (code src : Nat) (val : Int) (s : State) : (occur code src val s).mod.tup = s.mod.tup :=
  (occur_only (L := recording) partsWithin onlyChanges_refl .tuple (by decide)).1

/-! ### What the counts of a received frame leave alone -/

@[simp] theorem updChan_views (c : Chan) (f : ChanS → ChanS) (s : State) :
    (updChan c f s).oxn.views = s.oxn.views := by
  cases c <;> rfl

@[simp] theorem listenAgain_views (s : State) : (listenAgain s).oxn.views = s.oxn.views := by
  unfold listenAgain
  split <;> rfl

@[simp] theorem noteLcrc_views (f : RxFrame) (s : State) : (noteLcrc f s).oxn.views = s.oxn.views := by
  unfold noteLcrc
  split <;> simp

@[simp] theorem noteFrame_views (f : RxFrame) (s : State) : (noteFrame f s).oxn.views = s.oxn.views := by
  unfold noteFrame
  split <;> simp

@[simp] theorem noteHeard_views (s : State) (f : RxFrame) : (noteHeard s f).oxn.views = s.oxn.views := by
  unfold noteHeard
  split <;> simp

theorem noteLcrc_tup (f : RxFrame) (s : State) : (noteLcrc f s).mod.tup = s.mod.tup :=
  (noteLcrc_only (L := [.network]) partsWithin onlyChanges_refl .tuple (by decide)).1

@[simp] theorem noteFrame_ile (f : RxFrame) (s : State) : (noteFrame f s).ile = s.ile :=
  noteFrame_only (L := [.network]) partsWithin onlyChanges_refl .ile (by decide)

/-! ### Network states -/

theorem netUp_iff {s : State} : netUp s = true ↔ s.mod.tup.net = .synced ∨ s.mod.tup.net = .narrow := by
  simp [netUp]

theorem joins_of_netUp {s : State} (h : netUp s = true) : joins s = false := by
  rcases netUp_iff.1 h with hn | hn <;> simp [joins, hn]

/-- Only an integrating node follows the plan of a sync frame (R207). -/
theorem planFollow_of_netUp {s : State} (f : RxFrame) (h : netUp s = true) : planFollow f s = s := by
  rcases netUp_iff.1 h with hn | hn <;> simp [planFollow, hn]

/-! ### Cycle start and transmission -/

theorem execOxugerCycleStart_of_due {t n : Nat} {s : State} (devs : List LaneDev) (h : cycleDue n (atT t s) = true) :
    execOxugerCycleStart t n devs s = .next (idleCycle (ileStart devs (oxnStart n (atT t s)))) := by
  rw [execOxugerCycleStart, if_pos h]

theorem execOxnActionPoint_of_frame {t slot : Nat} {c : Chan} {e : SlotEntry} {b : List Byte} {s : State}
    (he : slotAt s c slot = some e) (hmay : mayBegin (atT t s) c e = true) (htx : txFrame s c e = some b) :
    execOxnActionPoint t c slot s = .next (emit (.oxnFrame c b) { atT t s with
      oxn := { s.oxn with sent := s.oxn.sent ++ [(c, e.slot)] } }) := by
  simp [execOxnActionPoint, he, hmay, htx]

/-! ### Frames received -/

section
variable {t : Nat} {f : RxFrame} {e : SlotEntry} {s : State}

/-- A frame that passes R183 is accepted when its payload passes the check of its type. -/
theorem frameOk_filter {p : SlotEntry → Bool} (hok : frameOk s f = some e) (hp : p e = true) :
    (frameOk s f).filter p = some e := by
  rw [hok, Option.filter_some_pos hp]

theorem execDataFrame_of_valid (hr : chRetired s f.chan = false) (hk : keepsCycle s = true)
    (hh : hears s f.chan = true) (hty : (frameHdr f.bytes).ftype = 0x10) (hok : frameOk s f = some e)
    (hpad : dataPadOk (packsOf s f.chan e.slot) (framePay f.bytes) = true) :
    execDataFrame t f s = .next (deliverData (packsOf s f.chan e.slot) (framePay f.bytes) (slotEnd s e)
      (noteHeard (noteFrame f (atT t s)) f)) := by
  have hacc := frameOk_filter (p := fun e => dataPadOk (packsOf s f.chan e.slot) (framePay f.bytes)) hok hpad
  simp [execDataFrame, hr, hk, hh, hty, hacc]

theorem execSafetyFrame_of_valid (hr : chRetired s f.chan = false) (hk : keepsCycle s = true)
    (hh : hears s f.chan = true) (hty : (frameHdr f.bytes).ftype = 0x20) (hok : frameOk s f = some e)
    (hz : pduZeros (framePay f.bytes) = true) :
    execSafetyFrame t f s = .next (takePdu (framePay f.bytes) (slotEnd s e)
      (noteHeard { noteFrame f (atT t s) with
        ile := { s.ile with rxNow := s.ile.rxNow ++ [f] } } f)) := by
  have hacc := frameOk_filter (p := fun _ => pduZeros (framePay f.bytes)) hok hz
  simp [execSafetyFrame, hr, hk, hh, hty, hacc]

/-- While the network is up the plan of a sync frame is not followed, so its checks and effects are
on the state itself. -/
theorem execSyncFrame_of_valid (hup : netUp s = true) (hh : syncHears s f.chan = true)
    (hty : (frameHdr f.bytes).ftype = 0x30) (hok : frameOk s f = some e) (hslot : e.ftype = 0x30)
    (hsync : syncOk f s = true) :
    execSyncFrame t f s = .next (takeSync f e (noteHeard (noteLcrc f (atT t s)) f)) := by
  have hfollow := planFollow_of_netUp f (s := atT t s) hup
  have hcounted : planFollow f (noteLcrc f (atT t s)) = noteLcrc f (atT t s) :=
    planFollow_of_netUp f (by rw [netUp, noteLcrc_tup]; exact hup)
  rcases netUp_iff.1 hup with hn | hn <;>
    simp [execSyncFrame, rxSync, hh, hty, joins_of_netUp hup, hn, hfollow, hcounted, hok, hslot, hsync]

theorem execColdstartFrame_of_listen (hnet : s.mod.tup.net = .listen) (hj : joins s = false)
    (hh : syncHears s f.chan = true) (hty : (frameHdr f.bytes).ftype = 0x31) (hok : startOk s f = some e) :
    execColdstartFrame t f s = .next (integrate f e (noteLcrc f (atT t s))) := by
  simp [execColdstartFrame, rxSync, hh, hty, hj, hnet, hok]

theorem viewZeros_iff {p : List Byte} : viewZeros p = true ↔
    zeros p 9 3 = true ∧ field p 8 1 < 4 ∧ field p 4 2 < 4096 ∧ field p 6 2 < 4096 := by
  simp [viewZeros, and_assoc]

/-- A VIEW frame of a judge that was not heard yet is added to the views; the counts of its arrival leave them alone. -/
theorem execViewFrame_of_valid (hr : chRetired s f.chan = false) (hk : keepsCycle s = true)
    (hh : hears s f.chan = true) (hty : (frameHdr f.bytes).ftype = 0x40) (hok : frameOk s f = some e)
    (hlen : (framePay f.bytes).length = 16)
    (hcrc : field (framePay f.bytes) 12 4 = crc32cFrom (0x56490000 + e.owner) ((framePay f.bytes).take 12))
    (hz : viewZeros (framePay f.bytes) = true) (hj : e.owner ∈ (runGen s).sched.judgeList)
    (hcycle : field (framePay f.bytes) 0 4 = (s.oxn.n + 2 ^ 32 - 1) % 2 ^ 32)
    (hnew : ∀ v ∈ s.oxn.views, v.judge ≠ e.owner) :
    execViewFrame t f s = .next { noteHeard (noteFrame f (atT t s)) f with
      oxn := { (noteHeard (noteFrame f (atT t s)) f).oxn with
        views := s.oxn.views ++ [⟨e.owner, field (framePay f.bytes) 4 2, field (framePay f.bytes) 6 2,
          field (framePay f.bytes) 8 1⟩] } } := by
  have hacc := frameOk_filter (p := fun _ => viewZeros (framePay f.bytes)) hok hz
  have hfirst : s.oxn.views.any (·.judge = e.owner) = false := by simpa using hnew
  have hguard : (decide ((framePay f.bytes).length = 16)
      && decide (field (framePay f.bytes) 12 4 = crc32cFrom (0x56490000 + e.owner) ((framePay f.bytes).take 12))
      && decide (e.owner ∈ (runGen s).sched.judgeList)
      && decide (field (framePay f.bytes) 0 4 = (s.oxn.n + 2 ^ 32 - 1) % 2 ^ 32)
      && !(s.oxn.views.any (·.judge = e.owner))) = true := by
    rw [decide_eq_true hlen, decide_eq_true hcrc, decide_eq_true hj, decide_eq_true hcycle, hfirst]
    rfl
  have hhear : (keepsCycle s && hears s f.chan && decide ((frameHdr f.bytes).ftype = 0x40)) = true := by
    simp [hk, hh, hty]
  simp only [execViewFrame, chRetired_atT, keepsCycle_atT, hears_atT, frameOk_atT, hr, hhear, hacc, Bool.not_true,
    Bool.false_eq_true, if_false]
  exact congrArg Host.Outcome.next ((if_pos hguard).trans (by rw [noteHeard_views, noteFrame_views]; rfl))

end

/-! ### Timeouts and changes of the network state -/

theorem execOxnIdlePhase_of_due {t : Nat} {s : State} (a b : Bool) (h : idleDue (atT t s) = true) :
    execOxnIdlePhase t a b s = .next (oxnIdle a b (pairIdle (atT t s))) := by
  rw [execOxnIdlePhase, if_pos h]

theorem execOxnSafetyTimeout_of_stale {t conn : Nat} {c : SafetyConn} {s : State}
    (hc : (rxConns s).find? (·.conn = conn) = some c) (hstale : connValid s c = false)
    (hnew : (connOf s conn).invalid = false) :
    execOxnSafetyTimeout t conn s = .next (occur Code.oxnSafetyTimeout (Src.oxn c.station 0xFF) 0
      { atT t s with oxn := { s.oxn with
        conns := s.oxn.conns.map fun x => if x.conn = conn then { x with invalid := true } else x } }) := by
  simp [execOxnSafetyTimeout, hc, hstale, hnew]

/-- The occurrence of OXN_COLDSTART leaves the tuple and the network's own state as the command set them. -/
theorem execListenTimeout_of_due {t r : Nat} {s : State} (hrank : rankOf s (ownNode s) = some r)
    (hnet : s.mod.tup.net = .listen) (href : refGood s = true) (hrun : s.mod.tup.run ≠ .boot)
    (hnext : s.oxn.netNext = none) (htoc : 0 < tOcNs s)
    (hdue : s.oxn.listenAt + (4 + 2 * r) * tOcNs s ≤ max s.gt t)
    (hch : chRetired s .a = false ∨ chRetired s .b = false) :
    ∃ u, execListenTimeout t s = .next u ∧ u.mod.tup = s.mod.tup ∧ u.oxn.netNext = some .coldLead ∧
      u.oxn.lead = some (max s.gt t / tOcNs s + 2) ∧ u.oxn.leader = ownNode s ∧
      u.oxn.coldstarts = satInc 0xFF s.oxn.coldstarts ∧
      u.oxn.plan = (if chRetired s .a then .narrowB else if chRetired s .b then .narrowA else .full) := by
  have hone : (chRetired s .a && chRetired s .b) = false := Bool.and_eq_false_iff.2 hch
  refine ⟨_, rfl, ?_⟩
  simp [hrank, hnet, href, hrun, hnext, htoc, hdue, hone]
  rfl

theorem execColdstartAlone_of_due {t : Nat} {s : State} (hnet : s.mod.tup.net = .coldLead)
    (h64 : 64 ≤ s.oxn.leadCycles) (hnext : s.oxn.netNext = none) :
    execColdstartAlone t s = .next (netListen (atT t s)) := by
  simp [execColdstartAlone, hnet, h64, hnext]

theorem execIntegrationFail_of_due {t : Nat} {s : State} (hnet : s.mod.tup.net = .integrating)
    (h16 : 16 ≤ s.oxn.intFails) : execIntegrationFail t s = .next (netListen (atT t s)) := by
  simp [execIntegrationFail, hnet, h16]

theorem execOxnSyncLost_of_lost {t : Nat} {s : State} (hup : netUp s = true)
    (hlost : 4 ≤ s.oxn.noSync ∨ 2 ≤ s.tim.oobRun) (hnext : s.oxn.netNext ≠ some .listen) :
    execOxnSyncLost t s = .next (occur Code.oxnSyncLost (oxnSrc s) 0 { atT t s with
      oxn := { s.oxn with netNext := some .listen }
      tim := { s.tim with
        losses := if 2 ≤ s.tim.oobRun then satInc 0xFFFF s.tim.losses else s.tim.losses
        prevDevs := []
        prevA := 0
        rateNext := none } }) := by
  have hguard : (netUp s && (decide (4 ≤ s.oxn.noSync) || decide (2 ≤ s.tim.oobRun))
      && decide (s.oxn.netNext ≠ some .listen)) = true := by
    simp [hup, hlost, hnext]
  exact congrArg Host.Outcome.next (if_pos hguard)

theorem execOxnReadmitFail_of_due {t t0 k : Nat} {c : Chan} {s : State} (hobs : (chanOf s c).observe = some (t0, k))
    (hdue : t0 + 10 * sec ≤ max s.gt t) :
    execOxnReadmitFail t c s = .next (occur Code.oxnReadmitFail (Src.oxn (ownNode s) (chanNum c)) 0
      (observeEnd c (atT t s))) := by
  simp [execOxnReadmitFail, hobs, hdue]

/-- Settles O20: each clause is its command's effect where the conditions of its rule hold. -/
theorem networkCommandsComplete : Obligations.NetworkCommandsComplete := by
  refine ⟨?start, ?action, ?data, ?safety, ?sync, ?coldstart, ?view, ?idle, ?timeout, ?listen, ?alone, ?integration,
    ?lost, ?readmit⟩
  case start => exact fun _ _ devs _ => execOxugerCycleStart_of_due devs
  case action => exact fun _ _ _ _ _ _ => execOxnActionPoint_of_frame
  case data => exact fun _ _ _ _ => execDataFrame_of_valid
  case safety => exact fun _ _ _ _ => execSafetyFrame_of_valid
  case sync => exact fun _ _ _ _ => execSyncFrame_of_valid
  case coldstart => exact fun _ _ _ _ => execColdstartFrame_of_listen
  case view =>
    intro _ _ _ _ hr hk hh hty hok hlen hcrc h9 h8 h4 h6
      hj hcycle hnew
    have hz := viewZeros_iff.2 ⟨h9, h8, h4, h6⟩
    exact ⟨_, execViewFrame_of_valid hr hk hh hty hok hlen hcrc hz hj hcycle hnew, rfl⟩
  case idle => exact fun _ a b _ => execOxnIdlePhase_of_due a b
  case timeout => exact fun _ _ _ _ => execOxnSafetyTimeout_of_stale
  case listen => exact fun _ _ _ => execListenTimeout_of_due
  case alone => exact fun _ _ => execColdstartAlone_of_due
  case integration => exact fun _ _ => execIntegrationFail_of_due
  case lost => exact fun _ _ => execOxnSyncLost_of_lost
  case readmit => exact fun _ _ _ _ _ => execOxnReadmitFail_of_due

end Sys2Proof.Machine

/-! PROOFS. The frames of the mode, program cycle and network commands, and then of every command, each from the frame
of its own meaning. -/

namespace Sys2Proof.Machine

-- One proof at a time: proofs that wait for one another in parallel each hold a stack against the memory limit.
set_option Elab.async false

theorem modeCommand_only {c : Instr} {s u : State} (hf : familyOf c = .modes)
    (h : exec c s = .next u) : onlyChanges (mayChange c) s u := by
  cases c with
  | start => exact execStart_only partsWithin h
  | hold => exact execHold_only partsWithin h
  | stop => exact execStop_only partsWithin h
  | handover => exact execHandover_only partsWithin h
  | retire => exact execRetire_only partsWithin h
  | readmit => exact execReadmit_only partsWithin h
  | bstMode => exact execBstMode_only partsWithin h
  | fwAck => exact execFwAck_only partsWithin h
  | stage => exact execStage_only partsWithin h
  | switch => exact execSwitch_only partsWithin h
  | confirm => exact execConfirm_only partsWithin h
  | revert => exact execRevert_only partsWithin h
  | discard => exact execDiscard_only partsWithin h
  | genSelect => exact execGenSelect_only partsWithin h
  | ccvConfirm => exact execCcvConfirm_only partsWithin h
  | _ => cases hf

theorem cycleCommand_only {c : Instr} {s u : State} (hf : familyOf c = .cycle)
    (h : exec c s = .next u) : onlyChanges (mayChange c) s u := by
  cases c with
  | tCommit => exact execTCommit_only partsWithin h
  | minCycleElapsed => exact execMinCycleElapsed_only partsWithin h
  | agreeTimeout => exact execAgreeTimeout_only partsWithin h
  | executeDone => exact execExecuteDone_only partsWithin h
  | lockstepMismatch => exact execLockstepMismatch_only partsWithin h
  | scanWdt => exact execScanWdt_only partsWithin h
  | signatureWaitBound => exact execSignatureWaitBound_only partsWithin h
  | programCycleBoundary => exact execProgramCycleBoundary_only partsWithin h
  | migrationDone => exact execMigrationDone_only partsWithin h
  | stagingChecksDone => exact execStagingChecksDone_only partsWithin h
  | trialWindowEnd => exact execTrialWindowEnd_only partsWithin h
  | _ => cases hf

theorem networkCommand_only {c : Instr} {s u : State} (hf : familyOf c = .network)
    (h : exec c s = .next u) : onlyChanges (mayChange c) s u := by
  cases c with
  | oxugerCycleStart => exact execOxugerCycleStart_only partsWithin h
  | oxnActionPoint => exact execOxnActionPoint_only partsWithin h
  | dataFrame => exact execDataFrame_only partsWithin h
  | safetyFrame => exact execSafetyFrame_only partsWithin h
  | syncFrame => exact execSyncFrame_only partsWithin h
  | coldstartFrame => exact execColdstartFrame_only partsWithin h
  | viewFrame => exact execViewFrame_only partsWithin h
  | oxnIdlePhase => exact execOxnIdlePhase_only partsWithin h
  | oxnSafetyTimeout => exact execOxnSafetyTimeout_only partsWithin h
  | listenTimeout => exact execListenTimeout_only partsWithin h
  | coldstartAlone => exact execColdstartAlone_only partsWithin h
  | integrationFail => exact execIntegrationFail_only partsWithin h
  | oxnSyncLost => exact execOxnSyncLost_only partsWithin h
  | oxnReadmitFail => exact execOxnReadmitFail_only partsWithin h
  | _ => cases hf

/-- Settles O56: each of the three families by the frames of its commands. -/
theorem modeCycleAndNetworkCommandsChangeOnlyTheirParts :
    Obligations.ModeCycleAndNetworkCommandsChangeOnlyTheirParts := by
  intro c s u hf h
  simp only [List.mem_cons, List.not_mem_nil, or_false] at hf
  obtain hm | hm | hm := hf
  · exact modeCommand_only hm h
  · exact cycleCommand_only hm h
  · exact networkCommand_only hm h

theorem interlockingCommand_only {c : Instr} {s u : State} (hf : familyOf c = .interlocking)
    (h : exec c s = .next u) : onlyChanges (mayChange c) s u := by
  cases c with
  | lanePresent => exact execLanePresent_only partsWithin h
  | presentationDeadline => exact execPresentationDeadline_only partsWithin h
  | voterUpdate => exact execVoterUpdate_only partsWithin h
  | reseedTablePhaseDone => exact execReseedTablePhaseDone_only partsWithin h
  | pathSetTimeout => exact execPathSetTimeout_only partsWithin h
  | releaseDelayElapsed => exact execReleaseDelayElapsed_only partsWithin h
  | ileDetectFault => exact execIleDetectFault_only partsWithin h
  | coldHoldEnd => exact execColdHoldEnd_only partsWithin h
  | ileBndTimeout => exact execIleBndTimeout_only partsWithin h
  | _ => cases hf

theorem pairCommand_only {c : Instr} {s u : State} (hf : familyOf c = .pair)
    (h : exec c s = .next u) : onlyChanges (mayChange c) s u := by
  cases c with
  | p0LinkUp => exact execP0LinkUp_only partsWithin h
  | auth => exact execAuth_only partsWithin h
  | heartbeatSend => exact execHeartbeatSend_only partsWithin h
  | heartbeat => exact execHeartbeat_only partsWithin h
  | partnerSilent => exact execPartnerSilent_only partsWithin h
  | agree => exact execAgree_only partsWithin h
  | sliceReq => exact execSliceReq_only partsWithin h
  | sliceData => exact execSliceData_only partsWithin h
  | agreeDone => exact execAgreeDone_only partsWithin h
  | signature => exact execSignature_only partsWithin h
  | forceTable => exact execForceTable_only partsWithin h
  | ileSnap => exact execIleSnap_only partsWithin h
  | ileDigest => exact execIleDigest_only partsWithin h
  | ileState => exact execIleState_only partsWithin h
  | release => exact execRelease_only partsWithin h
  | leaving => exact execLeaving_only partsWithin h
  | arbStart => exact execArbStart_only partsWithin h
  | tierAgree => exact execTierAgree_only partsWithin h
  | relayedCommand => exact execRelayedCommand_only partsWithin h
  | resync => exact execResync_only partsWithin h
  | image => exact execImage_only partsWithin h
  | resyncStepDone => exact execResyncStepDone_only partsWithin h
  | resyncStepTimeout => exact execResyncStepTimeout_only partsWithin h
  | resyncAttemptTimeout => exact execResyncAttemptTimeout_only partsWithin h
  | pairNoQuorum => exact execPairNoQuorum_only partsWithin h
  | pairWaitExpiry => exact execPairWaitExpiry_only partsWithin h
  | handoverRelease => exact execHandoverRelease_only partsWithin h
  | plvLaneFail _ _ lane => exact execPlvLaneFail_only (_lane := lane) partsWithin h
  | plvDiscardLimit => exact execPlvDiscardLimit_only partsWithin h
  | plvReadmitSecond => exact execPlvReadmitSecond_only partsWithin h
  | plvPortTrained => exact execPlvPortTrained_only partsWithin h
  | _ => cases hf

theorem ringCommand_only {c : Instr} {s u : State} (hf : familyOf c = .ring)
    (h : exec c s = .next u) : onlyChanges (mayChange c) s u := by
  cases c with
  | beaconSend => exact execBeaconSend_only partsWithin h
  | beacon => exact execBeacon_only partsWithin h
  | stmEvaluation => exact execStmEvaluation_only partsWithin h
  | timeMessageSend => exact execTimeMessageSend_only partsWithin h
  | time => exact execTime_only partsWithin h
  | delay => exact execDelay_only partsWithin h
  | stationHold => exact execStationHold_only partsWithin h
  | ringLost => exact execRingLost_only partsWithin h
  | signals => exact execSignals_only partsWithin h
  | signalsForget => exact execSignalsForget_only partsWithin h
  | boundary => exact execBoundary_only partsWithin h
  | mgtTod => exact execMgtTod_only partsWithin h
  | ppsEdge => exact execPpsEdge_only partsWithin h
  | todPpsTimeout => exact execTodPpsTimeout_only partsWithin h
  | cloverLatch => exact execCloverLatch_only partsWithin h
  | cloverDeadline => exact execCloverDeadline_only partsWithin h
  | _ => cases hf

theorem powerCommand_only {c : Instr} {s u : State} (hf : familyOf c = .power)
    (h : exec c s = .next u) : onlyChanges (mayChange c) s u := by
  cases c with
  | ejectorOpen => exact execEjectorOpen_only partsWithin h
  | presSenseOpen => exact execPresSenseOpen_only partsWithin h
  | presSenseClose => exact execPresSenseClose_only partsWithin h
  | pairPresOpen t => exact execPairPresOpen_only (t := t) partsWithin h
  | pairPresClose => exact execPairPresClose_only partsWithin h
  | feedLow => exact execFeedLow_only partsWithin h
  | feedRecovered => exact execFeedRecovered_only partsWithin h
  | pfw => exact execPfw_only partsWithin h
  | hlFeedDip => exact execHlFeedDip_only partsWithin h
  | pfwStop => exact execPfwStop_only partsWithin h
  | mgtAllow => exact execMgtAllow_only partsWithin h
  | allowStale => exact execAllowStale_only partsWithin h
  | powerSample => exact execPowerSample_only partsWithin h
  | dieTempRead => exact execDieTempRead_only partsWithin h
  | inletRead => exact execInletRead_only partsWithin h
  | tierRule2 => exact execTierRule2_only partsWithin h
  | tierRule3 => exact execTierRule3_only partsWithin h
  | tierRule5 => exact execTierRule5_only partsWithin h
  | hot => exact execHot_only partsWithin h
  | hlOvertemp => exact execHlOvertemp_only partsWithin h
  | backgroundAdmit => exact execBackgroundAdmit_only partsWithin h
  | backgroundUnitDone => exact execBackgroundUnitDone_only partsWithin h
  | hlDefer => exact execHlDefer_only partsWithin h
  | hlRail => exact execHlRail_only partsWithin h
  | mgtIdentity => exact execMgtIdentity_only partsWithin h
  | identityTimeout => exact execIdentityTimeout_only partsWithin h
  | holdUpCharged => exact execHoldUpCharged_only partsWithin h
  | _ => cases hf

theorem tripIoCommand_only {c : Instr} {s u : State} (hf : familyOf c = .tripIo)
    (h : exec c s = .next u) : onlyChanges (mayChange c) s u := by
  cases c with
  | tioSampleWindow => exact execTioSampleWindow_only partsWithin h
  | tioRefresh => exact execTioRefresh_only partsWithin h
  | tioLinkSilent => exact execTioLinkSilent_only partsWithin h
  | pairDisc => exact execPairDisc_only partsWithin h
  | sinkCheck => exact execSinkCheck_only partsWithin h
  | tioReadback => exact execTioReadback_only partsWithin h
  | overcurrent => exact execOvercurrent_only partsWithin h
  | groupOverload => exact execGroupOverload_only partsWithin h
  | darkTestStart => exact execDarkTestStart_only partsWithin h
  | darkTestEnd => exact execDarkTestEnd_only partsWithin h
  | shortToSupply => exact execShortToSupply_only partsWithin h
  | tioSupplyMeasure => exact execTioSupplyMeasure_only partsWithin h
  | tioSupplyDown => exact execTioSupplyDown_only partsWithin h
  | tioSupplyUp => exact execTioSupplyUp_only partsWithin h
  | tioOverlapEnd => exact execTioOverlapEnd_only partsWithin h
  | _ => cases hf

theorem analogCommand_only {c : Instr} {s u : State} (hf : familyOf c = .analog)
    (h : exec c s = .next u) : onlyChanges (mayChange c) s u := by
  cases c with
  | alpConversion => exact execAlpConversion_only partsWithin h
  | alpRefresh => exact execAlpRefresh_only partsWithin h
  | alpLogicSilent => exact execAlpLogicSilent_only partsWithin h
  | alpReadback => exact execAlpReadback_only partsWithin h
  | overrange => exact execOverrange_only partsWithin h
  | feSilent => exact execFeSilent_only partsWithin h
  | feCheck => exact execFeCheck_only partsWithin h
  | alCompliance => exact execAlCompliance_only partsWithin h
  | alpClockStepUp => exact execAlpClockStepUp_only partsWithin h
  | alpRampEnd => exact execAlpRampEnd_only partsWithin h
  | hartResponse => exact execHartResponse_only partsWithin h
  | hartTimeout => exact execHartTimeout_only partsWithin h
  | hartRequest => exact execHartRequest_only partsWithin h
  | _ => cases hf

theorem canCommand_only {c : Instr} {s u : State} (hf : familyOf c = .can)
    (h : exec c s = .next u) : onlyChanges (mayChange c) s u := by
  cases c with
  | canFrameReceived => exact execCanFrameReceived_only partsWithin h
  | canArbitrationStart => exact execCanArbitrationStart_only partsWithin h
  | canArbitrationLost => exact execCanArbitrationLost_only partsWithin h
  | canTxComplete => exact execCanTxComplete_only partsWithin h
  | canBusOff => exact execCanBusOff_only partsWithin h
  | canBusOffRecovered => exact execCanBusOffRecovered_only partsWithin h
  | canErrorPassive => exact execCanErrorPassive_only partsWithin h
  | stuckDominant => exact execStuckDominant_only partsWithin h
  | txdTimeout => exact execTxdTimeout_only partsWithin h
  | loopbackRetry => exact execLoopbackRetry_only partsWithin h
  | canWake => exact execCanWake_only partsWithin h
  | canRecessiveBits => exact execCanRecessiveBits_only partsWithin h
  | _ => cases hf

theorem clockCommand_only {c : Instr} {s u : State} (hf : familyOf c = .clocks)
    (h : exec c s = .next u) : onlyChanges (mayChange c) s u := by
  cases c with
  | sourceSettled => exact execSourceSettled_only partsWithin h
  | freqWindowEnd => exact execFreqWindowEnd_only partsWithin h
  | sourceEdgeLoss => exact execSourceEdgeLoss_only partsWithin h
  | pllLocked => exact execPllLocked_only partsWithin h
  | pllLockLoss => exact execPllLockLoss_only partsWithin h
  | clkSwitchDone => exact execClkSwitchDone_only partsWithin h
  | clkForced => exact execClkForced_only partsWithin h
  | quiesceAck => exact execQuiesceAck_only partsWithin h
  | clkQuiesceTimeout => exact execClkQuiesceTimeout_only partsWithin h
  | gateResetRelease => exact execGateResetRelease_only partsWithin h
  | _ => cases hf

theorem faultCommand_only {c : Instr} {s u : State} (hf : familyOf c = .faults)
    (h : exec c s = .next u) : onlyChanges (mayChange c) s u := by
  cases c with
  | fltL0 => exact execFltL0_only partsWithin h
  | engineWatchdogExpiry => exact execEngineWatchdogExpiry_only partsWithin h
  | l5Service => exact execL5Service_only partsWithin h
  | fltL5 => exact execFltL5_only partsWithin h
  | drainTick => exact execDrainTick_only partsWithin h
  | persistenceExpiry => exact execPersistenceExpiry_only partsWithin h
  | eccCorrected => exact execEccCorrected_only partsWithin h
  | eccUncorrectable => exact execEccUncorrectable_only partsWithin h
  | nandProgramFail => exact execNandProgramFail_only partsWithin h
  | bstSliceDone => exact execBstSliceDone_only partsWithin h
  | bstTimeout => exact execBstTimeout_only partsWithin h
  | bstRoundLate => exact execBstRoundLate_only partsWithin h
  | sorrelRateWrite => exact execSorrelRateWrite_only partsWithin h
  | sorrelSeal => exact execSorrelSeal_only partsWithin h
  | _ => cases hf

theorem bootCommand_only {c : Instr} {s u : State} (hf : familyOf c = .boot)
    (h : exec c s = .next u) : onlyChanges (mayChange c) s u := by
  cases c with
  | powerOnResetRelease => exact execPowerOnResetRelease_only partsWithin h
  | bootStepDone => exact execBootStepDone_only partsWithin h
  | bootOverrun => exact execBootOverrun_only partsWithin h
  | imageHashDone => exact execImageHashDone_only partsWithin h
  | fwActivateReset => exact execFwActivateReset_only partsWithin h
  | fwTrialWindowEnd => exact execFwTrialWindowEnd_only partsWithin h
  | serviceHello => exact execServiceHello_only partsWithin h
  | serviceGrant => exact execServiceGrant_only partsWithin h
  | serviceChunk => exact execServiceChunk_only partsWithin h
  | serviceActivate => exact execServiceActivate_only partsWithin h
  | serviceStatus => exact execServiceStatus_only partsWithin h
  | debugUnlockExpiry => exact execDebugUnlockExpiry_only partsWithin h
  | debugAccess => exact execDebugAccess_only partsWithin h
  | gateProgramFault => exact execGateProgramFault_only partsWithin h
  | _ => cases hf

/-- What a command may change (Safety's list), for every command. -/
theorem exec_only {c : Instr} {s u : State} (h : exec c s = .next u) : onlyChanges (mayChange c) s u := by
  cases hf : familyOf c with
  | registers => exact registerCommand_only hf h
  | hostReads => exact hostReadCommand_only hf h
  | hostWrites => exact hostWriteCommand_only hf h
  | modes => exact modeCommand_only hf h
  | cycle => exact cycleCommand_only hf h
  | network => exact networkCommand_only hf h
  | interlocking => exact interlockingCommand_only hf h
  | pair => exact pairCommand_only hf h
  | ring => exact ringCommand_only hf h
  | power => exact powerCommand_only hf h
  | tripIo => exact tripIoCommand_only hf h
  | analog => exact analogCommand_only hf h
  | can => exact canCommand_only hf h
  | clocks => exact clockCommand_only hf h
  | faults => exact faultCommand_only hf h
  | boot => exact bootCommand_only hf h

end Sys2Proof.Machine

/-! PROOFS. What MRAM keeps of a retirement outlasts every command but READMIT (R42): an EJECTOR replaces only SELF and
RESYNC (R415), every other cause is kept itself, and a reset leaves MRAM alone. -/

namespace Sys2Proof.Machine

-- One proof at a time: proofs that wait for one another in parallel each hold a stack against the memory limit.
set_option Elab.async false

/-! ### What MRAM keeps of a retirement -/

/-- MRAM keeps a retirement of the module, of whatever cause. -/
def retirementKept (s : State) : Prop := s.nva.modRetired ≠ none

/-- MRAM keeps a retirement of one of the causes that a cause decided later does not end (R42, R415). -/
def lastingCause (s : State) : Prop :=
  s.nva.modRetired = some .fault ∨ s.nva.modRetired = some .judged ∨ s.nva.modRetired = some .command

/-- Every part but what MRAM keeps of the module's retirement. -/
abbrev besidesRetirement : List Part := allBut [.modRetired]

theorem mem_besidesRetirement {p : Part} (h : p ≠ .modRetired) : p ∈ besidesRetirement := by
  cases p with
  | modRetired => exact absurd rfl h
  | _ => decide

/-- Parts among which a kept retirement does not stand. -/
theorem besides {l : List Part} (h : .modRetired ∉ l := by decide) : l ⊆ besidesRetirement :=
  fun _ hp => mem_besidesRetirement (ne_of_mem_of_not_mem hp h)

theorem modRetired_of_only {a b : State} (h : onlyChanges besidesRetirement a b) :
    b.nva.modRetired = a.nva.modRetired :=
  h .modRetired (by decide)

theorem kept_of_only {a b : State} (ha : retirementKept a) (h : onlyChanges besidesRetirement a b) :
    retirementKept b := by
  rwa [retirementKept, modRetired_of_only h]

/-- A record update that leaves what MRAM and NAND keep. -/
theorem kept_of_nva {a b : State} (ha : retirementKept a) (h : b.nva = a.nva := by rfl) : retirementKept b := by
  rwa [retirementKept, h]

theorem lasting_of_only {a b : State} (ha : lastingCause a) (h : onlyChanges besidesRetirement a b) :
    lastingCause b := by
  rwa [lastingCause, modRetired_of_only h]

theorem retirementKept_of_lasting {s : State} (h : lastingCause s) : retirementKept s := by
  rcases h with h | h | h <;> simp [retirementKept, h]

theorem ite_kept {c : Prop} [Decidable c] {a b : State} (ha : retirementKept a) (hb : retirementKept b) :
    retirementKept (if c then a else b) := by
  split
  · exact ha
  · exact hb

theorem foldl_kept {α : Type} {g : State → α → State} {xs : List α} {s : State} (h : retirementKept s)
    (hg : ∀ s x, retirementKept s → retirementKept (g s x)) : retirementKept (xs.foldl g s) := by
  induction xs generalizing s with
  | nil => exact h
  | cons x _ ih => exact ih (hg s x h)

/-! ### Retirement (R414, R415) -/

/-- Only an EJECTOR leaves what MRAM kept; every other cause is kept itself. -/
theorem setCause_kept {cause : RetireCause} {kept : Option RetireCause} (s : State)
    (h : cause = .ejector → kept ≠ none) : retirementKept (setCause cause kept s) := by
  change (if cause = .ejector then kept else some cause) ≠ none
  split
  next hc => exact h hc
  next => exact Option.some_ne_none _

/-- The sequence of a module that is not yet RETIRED leaves what its first step kept. -/
theorem retireModule_kept_of_serving {cause : RetireCause} {s : State} (hr : s.mod.tup.role ≠ .retired)
    (h : retirementKept s) : retirementKept (retireModule cause s) := by
  rw [retireModule, if_neg hr]
  have hcause : ∀ x, retirementKept (setCause cause s.nva.modRetired x) := fun x => setCause_kept x fun _ => h
  exact kept_of_only (hcause _) (retireData_only besides (retireOutputs_only besides
    (retireLinks_only besides (occur_only besides onlyChanges_refl))))

theorem retireModule_kept {cause : RetireCause} {s : State} (hc : cause ≠ .ejector) (h : retirementKept s) :
    retirementKept (retireModule cause s) := by
  by_cases hr : s.mod.tup.role = .retired
  · rw [retireModule, if_pos hr]
    exact ite_kept (setCause_kept s fun he => absurd he hc) h
  · exact retireModule_kept_of_serving hr h

/-- An EJECTOR drops what MRAM keeps only where it replaces SELF or RESYNC (R415). -/
theorem retireModule_kept_of_lasting {s : State} (h : lastingCause s) : retirementKept (retireModule .ejector s) := by
  by_cases hr : s.mod.tup.role = .retired
  · rw [retireModule, if_pos hr]
    split
    next hnow =>
      refine setCause_kept s fun _ => ?_
      split
      next heq =>
        rcases h with h | h | h <;> rw [h, Option.some.injEq] at heq <;> simp [← heq, causeCode] at hnow
      next => exact retirementKept_of_lasting h
    next => exact retirementKept_of_lasting h
  · exact retireModule_kept_of_serving hr (retirementKept_of_lasting h)

theorem retireModule_fault_kept {s : State} (h : retirementKept s) : retirementKept (retireModule .fault s) :=
  retireModule_kept (by decide) h

/-! ### Clocks, heat and units -/

theorem refLost_kept {s : State} (h : retirementKept s) : retirementKept (refLost s) := by
  have h1 : retirementKept (if refGood s then s else if s.mod.tup.net = .passive then s else setNet .passive s) :=
    ite_kept h (ite_kept h (kept_of_only h (setNet_only besides onlyChanges_refl)))
  exact ite_kept h1 (ite_kept (kept_of_only h1 (fircDown_only besides onlyChanges_refl))
    (kept_of_only (retireModule_fault_kept h1) (fircDown_only besides onlyChanges_refl)))


theorem srcLost_kept {xb edges : Bool} {s : State} (h : retirementKept s) : retirementKept (srcLost xb edges s) := by
  have hlost (v : SrcS) (x : State) (hx : x.nva = s.nva) :
      retirementKept (pllsFollow (occur Code.clkSrcLost Src.clocks 0 (setSrc xb v x))) :=
    kept_of_only (kept_of_nva h hx) (pllsFollow_only besides (occur_only besides
      (setSrc_only besides onlyChanges_refl)))
  unfold srcLost
  exact refLost_kept (hlost _ _ rfl)

theorem judgeSrc_kept {xb : Bool} {ppm : Int} {vsXa : Option Int} {s : State} (h : retirementKept s) :
    retirementKept (judgeSrc xb ppm vsXa s) := by
  have hset : ∀ v, retirementKept (setSrc xb v s) := fun v =>
    kept_of_only h (setSrc_only besides onlyChanges_refl)
  unfold judgeSrc
  dsimp only
  split
  · refine ite_kept h (ite_kept (kept_of_only h (srcFound_only besides onlyChanges_refl)) (ite_kept (hset _) ?_))
    exact kept_of_only (hset _) (pllsFollow_only besides onlyChanges_refl)
  · exact ite_kept (ite_kept (srcLost_kept h) (hset _)) h

theorem retireCell_kept {c code : Nat} {s : State} (h : retirementKept s) : retirementKept (retireCell c code s) := by
  have hout : retirementKept (gateClose c (hlFlags (occur Code.cellRetired (Src.cell c) 0
      (retireRecord (.cell c) code s)))) :=
    kept_of_only h (gateClose_only besides (hlFlags_only besides (occur_only besides
      (retireRecord_only besides onlyChanges_refl))))
  exact ite_kept h (ite_kept (retireModule_fault_kept hout) hout)

theorem retireCellNow_kept {c code : Nat} {s : State} (h : retirementKept s) :
    retirementKept (retireCellNow c code s) :=
  ite_kept (kept_of_only (retireCell_kept h) (rollback_only besides onlyChanges_refl)) (retireCell_kept h)

theorem retireEngine_kept {e code : Nat} {s : State} (h : retirementKept s) :
    retirementKept (retireEngine e code s) := by
  have hout : retirementKept (engineStops e (retireRecord (.engine e) code s)) :=
    kept_of_only h (engineStops_only besides (retireRecord_only besides onlyChanges_refl))
  exact ite_kept (retireModule_fault_kept hout) hout

theorem engineFault_kept {e : Nat} {s : State} (h : retirementKept s) : retirementKept (engineFault e s) := by
  have hfill : retirementKept (bucketAdd (.engine e) 8 s) :=
    kept_of_only h (bucketAdd_only besides onlyChanges_refl)
  exact ite_kept h (ite_kept (retireEngine_kept hfill) hfill)

/-- Of the units only a cell and an engine may take the module with them (R75, R405). -/
theorem retireUnit_kept {u : UnitId} {code : Nat} {s : State} (h : retirementKept s) :
    retirementKept (retireUnit u code s) := by
  have hrec : retirementKept (retireRecord u code s) := kept_of_only h (retireRecord_only besides onlyChanges_refl)
  refine ite_kept h ?_
  cases u with
  | cell n => exact retireCellNow_kept h
  | engine e => exact retireEngine_kept h
  | lane l => exact kept_of_only h (retireLane_only besides onlyChanges_refl)
  | plv p => exact kept_of_only h (retirePlv_only besides onlyChanges_refl)
  | tq q => exact kept_of_only h (retireTq_only besides onlyChanges_refl)
  | ti i => exact kept_of_only hrec (tioDecide_only besides onlyChanges_refl)
  | al x => exact kept_of_only h (retireAl_only besides onlyChanges_refl)
  | can x => exact kept_of_only h (retireCan_only besides onlyChanges_refl)
  | oxn c => exact kept_of_only h (occur_only besides (retireRecord_only besides onlyChanges_refl))
  | _ => exact hrec

theorem unitFault_kept {u : UnitId} {code : Nat} {s : State} (h : retirementKept s) :
    retirementKept (unitFault u code s) := by
  have hfill : retirementKept (bucketAdd u 8 s) := kept_of_only h (bucketAdd_only besides onlyChanges_refl)
  exact ite_kept (retireUnit_kept hfill) hfill

theorem pllAct_kept {n : Nat} {s : State} (h : retirementKept s) : retirementKept (pllAct n s) := by
  unfold pllAct
  split
  case h_1 => exact kept_of_only h (pll0Fail_only besides onlyChanges_refl)
  case h_5 => exact kept_of_only h (gateClose_only besides (retireLane_only besides onlyChanges_refl))
  all_goals exact retireModule_fault_kept h

theorem switchReqs_kept {i : MuxIn} {doms : List Nat} {s : State} (h : retirementKept s) :
    retirementKept (doms.foldl (switchReq i) s) :=
  foldl_kept h fun _ _ hs => kept_of_only hs (switchReq_only besides onlyChanges_refl)

theorem pllFails_kept {n : Nat} {s : State} (h : retirementKept s) : retirementKept (pllFails n s) := by
  have hocc : retirementKept (occur Code.clkPllFault Src.clocks 0 { s with clk := { s.clk with
      plls := updAt s.clk.plls n fun p => { p with fault := true } } }) :=
    kept_of_only h (occur_only besides (clk_only (by decide) onlyChanges_refl))
  have hreq := switchReqs_kept (i := .firc) (doms := pllFeeds s n) (ite_kept (c := n = 6) (refLost_kept hocc) hocc)
  exact ite_kept (pllAct_kept hreq) hreq

theorem forceSwitch_kept {w : Switch} {s : State} (h : retirementKept s) : retirementKept (forceSwitch w s) := by
  have hforced (v : ClkS) : retirementKept (occur Code.clkForced Src.clocks 0
      (domainReset w.dom (switched w.dom .firc { s with clk := v }))) :=
    kept_of_only h (occur_only besides (domainReset_only besides (switched_only besides
      (clk_only (by decide) onlyChanges_refl))))
  unfold forceSwitch
  dsimp only
  split
  · exact pllAct_kept (hforced _)
  · exact hforced _

/-! ### Self-test and denied accesses -/

theorem marchFail_kept {mem : Nat} {rows : List Nat} {s : State} (h : retirementKept s) :
    retirementKept (marchFail mem rows s) := by
  have hrows : retirementKept (rows.foldl (fun s r => rowFault mem r 32 s) s) :=
    foldl_kept h fun _ _ hs => kept_of_only hs (rowFault_only besides onlyChanges_refl)
  exact ite_kept (retireModule_fault_kept hrows) hrows

theorem engineTestFail_kept {e : Nat} {s : State} (h : retirementKept s) : retirementKept (engineTestFail e s) :=
  ite_kept (retireEngine_kept h) h

/-- A failed test of engines reaches those that the tested source number names. -/
theorem engineTests_kept {us : List UnitId} {s : State} (h : retirementKept s) :
    retirementKept (us.foldl (fun s u => match u with
      | .engine e => engineTestFail e s
      | _ => s) s) := by
  refine foldl_kept h fun s u hs => ?_
  cases u with
  | engine e => exact engineTestFail_kept hs
  | _ => exact hs

theorem retireUnits_kept {us : List UnitId} {code : Nat} {s : State} (h : retirementKept s) :
    retirementKept (us.foldl (fun s u => retireUnit u code s) s) :=
  foldl_kept h fun _ _ hs => retireUnit_kept hs

theorem testFail_kept {kind src : Nat} {rows : List Nat} {s : State} (h : retirementKept s) :
    retirementKept (testFail kind src rows s) := by
  have hocc (v : BstS) : retirementKept (occur Code.bstFail src 0 { s with bst := v }) :=
    kept_of_only h (occur_only besides (bst_only (by decide) onlyChanges_refl))
  unfold testFail
  dsimp only
  split
  case h_1 => exact retireModule_fault_kept (hocc _)
  case h_5 => exact engineTests_kept (hocc _)
  case h_6 => exact retireUnits_kept (hocc _)
  all_goals exact marchFail_kept (hocc _)

theorem awaitedStep_kept {u : UnitId} {left : Nat} {r : SliceRes} {s : State} (h : retirementKept s) :
    retirementKept (awaitedStep u left r s) := by
  refine ite_kept (testFail_kept (kept_of_nva h)) (ite_kept ?failed (ite_kept ?passed h))
  case failed =>
    exact kept_of_only (kept_of_nva h) (bistDone_only besides (occur_only besides onlyChanges_refl))
  case passed =>
    exact kept_of_only (kept_of_nva h) (bistDone_only besides (testPass_only besides onlyChanges_refl))

theorem deniedEff_kept {a : Access} {s : State} (h : retirementKept s) : retirementKept (deniedEff a s) := by
  have hcell (c : Nat) : retirementKept (cellDenied c s) :=
    ite_kept (kept_of_only (unitFault_kept h) (rollback_only besides onlyChanges_refl)) (unitFault_kept h)
  have hunit (m : Nat) : retirementKept (unitDenied m s) := by
    unfold unitDenied
    split
    · exact unitFault_kept h
    · exact kept_of_only h (noteFault_only besides onlyChanges_refl)
  exact ite_kept (ite_kept h (ite_kept (hcell _) (ite_kept
    (kept_of_only h (programFault_only besides onlyChanges_refl)) (unitFault_kept h)))) (hunit _)

/-! ### The pair -/

theorem resyncFail_kept {auth : Bool} {s : State} (h : retirementKept s) : retirementKept (resyncFail auth s) := by
  have hocc (v : PlvS) : retirementKept (occur Code.resyncFail pairSrc 0 { s with plv := v }) :=
    kept_of_only (kept_of_nva h) (occur_only besides onlyChanges_refl)
  have hgo (v : PlvS) : retirementKept (unfollow (occur Code.resyncFail pairSrc 0 { s with plv := v })) :=
    kept_of_only (hocc v) (unfollow_only besides onlyChanges_refl)
  unfold resyncFail
  refine ite_kept h (ite_kept (retireModule_kept (by decide) (hocc _)) (ite_kept ?auth ?copy))
  case auth => exact kept_of_only (kept_of_nva (hgo _)) (sendAuth_only besides onlyChanges_refl)
  case copy => exact kept_of_only (hgo _) (bgWant_only besides onlyChanges_refl)

theorem writeDecision_kept {s : State} (h : retirementKept s) : retirementKept (writeDecision s) :=
  kept_of_only h (writeDecision_only besides onlyChanges_refl)

theorem decideArb_kept {s : State} (h : retirementKept s) : retirementKept (decideArb s) := by
  have hout (m : ModS) (v : PlvS) : retirementKept (writeDecision { s with mod := m, plv := v }) :=
    writeDecision_kept (kept_of_nva h)
  unfold decideArb
  refine ite_kept (ite_kept (retireModule_kept (by decide) (hout _ _)) (kept_of_nva (hout _ _)))
    (ite_kept (retireModule_kept (by decide) (hout _ _)) (ite_kept ?_ (retireModule_kept (by decide) (hout _ _))))
  exact kept_of_only (kept_of_nva (hout _ _)) (failover_only besides onlyChanges_refl)

theorem dualDrive_kept {s : State} (h : retirementKept s) : retirementKept (dualDrive s) := by
  have hout (m : ModS) (v : PlvS) : retirementKept (writeDecision { s with mod := m, plv := v }) :=
    writeDecision_kept (kept_of_nva h)
  unfold dualDrive
  exact ite_kept (retireModule_kept (by decide) (hout _ _)) (kept_of_nva (hout _ _))

theorem pairIdle_kept {s : State} (h : retirementKept s) : retirementKept (pairIdle s) := by
  have hnoted : retirementKept (if s.oxn.views.isEmpty then s else noteVotes s) := ite_kept h h
  exact ite_kept hnoted (ite_kept (dualDrive_kept hnoted) (ite_kept (decideArb_kept hnoted) (ite_kept hnoted hnoted)))

theorem silentRole_kept {s : State} (h : retirementKept s) : retirementKept (silentRole s) := by
  unfold silentRole
  split
  next =>
    refine ite_kept h ?_
    have harb : retirementKept (arbDetect .silent s) := kept_of_only h (arbDetect_only besides onlyChanges_refl)
    exact kept_of_only (kept_of_nva (ite_kept harb h)) (passPhases_only besides onlyChanges_refl)
  next => exact kept_of_only h (unfollow_only besides (arbDetect_only besides onlyChanges_refl))
  next => exact resyncFail_kept h
  next => exact h

theorem authFailed_kept {s : State} (h : retirementKept s) : retirementKept (authFailed s) := by
  have hocc (v : PlvS) : retirementKept (occur Code.pairAuthFail pairSrc 0 { s with plv := v }) :=
    kept_of_only (kept_of_nva h) (occur_only besides onlyChanges_refl)
  unfold authFailed
  exact kept_of_nva (silentRole_kept (hocc _))

theorem authTake_kept {m : AuthMsg} {s : State} (h : retirementKept s) : retirementKept (authTake m s) := by
  have hsent (v : PlvS) : retirementKept (sendAnswer m.nonce { s with plv := v }) :=
    kept_of_only h (sendAnswer_only besides (plv_only (by decide) onlyChanges_refl))
  exact ite_kept (ite_kept (hsent _) (authFailed_kept (hsent _))) (ite_kept h (authFailed_kept h))

theorem onP0_kept {ptype : Nat} {h : PktHdr} {ok : Bool} {f : State → State} {s : State} (hs : retirementKept s)
    (hf : retirementKept (f s)) : retirementKept (onP0 ptype h ok f s) :=
  ite_kept hs (ite_kept (kept_of_only hs (discardPkt_only besides onlyChanges_refl)) hf)

/-! ### The ejector and the program cycle boundary -/

/-- An opening retires only a module that is not yet RETIRED (R41). -/
theorem ejectAct_kept {s : State} (h : retirementKept s) : retirementKept (ejectAct s) := by
  have hocc : retirementKept (occur Code.ejectUnsafe Src.sv 0 s) :=
    kept_of_only h (occur_only besides onlyChanges_refl)
  unfold ejectAct
  split
  next => exact h
  next hr =>
    have hserving : (occur Code.ejectUnsafe Src.sv 0 s).mod.tup.role ≠ .retired := by rwa [occur_tup]
    exact ite_kept (retireModule_kept_of_serving hr h) (ite_kept (kept_of_nva h)
      (ite_kept (retireModule_kept_of_serving hserving hocc) (kept_of_nva hocc)))

theorem ejectFinish_kept {s : State} (h : lastingCause s) : retirementKept (ejectFinish s) :=
  ite_kept (retireModule_kept_of_lasting h) (retirementKept_of_lasting h)

/-- What may retire the module at a boundary does not see the commands that are due there. -/
theorem retireDue_kept {f : State → State} {s : State} (hf : ∀ x, x.nva = s.nva → retirementKept (f x)) :
    retirementKept (retireDue f s) := by
  have hmay (c : CycS) (g : ChgS) : retirementKept (f { s with cyc := c, chg := g }) := hf _ rfl
  have heff (j : Option StageJob) (x : State) (p : PendCmd) (hx : retirementKept x) :
      retirementKept (retiredEff j p x) := kept_of_only hx (retiredEff_only besides onlyChanges_refl)
  unfold retireDue
  exact ite_kept (foldl_kept (kept_of_nva (hmay _ _)) fun x p hx => heff _ x p hx) (kept_of_nva (hmay _ _))

theorem ejectStep_kept {s : State} (h : lastingCause s) : retirementKept (ejectStep s) := by
  have hs := retirementKept_of_lasting h
  refine ite_kept hs (ite_kept (kept_of_only hs (cancelBoth_only besides onlyChanges_refl)) (ite_kept ?_ hs))
  refine retireDue_kept fun x hx => retireModule_kept_of_lasting ?_
  rwa [lastingCause, hx]

theorem shadowStep_kept {s : State} (h : retirementKept s) : retirementKept (shadowStep s) := by
  have htaken : retirementKept (takeStandby s) := kept_of_only h (takeStandby_only besides onlyChanges_refl)
  exact ite_kept (ite_kept (retireDue_kept fun x hx => resyncFail_kept (by rwa [retirementKept, hx]))
    (ite_kept htaken h)) h


theorem boundaryRole_kept {s : State} (h : retirementKept s) : retirementKept (boundaryRole s) := by
  have hasked : retirementKept (soloStep (handoverRefused (if s.mod.arb then .busy else .guard) s)) :=
    kept_of_only h (soloStep_only besides (handoverRefused_only besides onlyChanges_refl))
  have hrole := kept_of_only (shadowStep_kept hasked) (takeClass_only (f := isHandover) (eff := handoverEff) besides
    (activeStep_only besides (relaysDrop_only besides onlyChanges_refl))
    fun _ _ hx => handoverEff_only besides hx)
  unfold boundaryRole
  dsimp only
  generalize takeClass _ _ _ = x at hrole ⊢
  exact ite_kept (kept_of_nva hrole) hrole

theorem programBoundary_kept {s : State} (h : lastingCause s) : retirementKept (programBoundary s) := by
  have heject (v : HlS) (c : CycS) : retirementKept (ejectStep { s with hl := v, cyc := c }) := ejectStep_kept h
  unfold programBoundary
  have hrole (v : HlS) (c : CycS) : retirementKept (if (ejectStep { s with hl := v, cyc := c }).mod.tup.role = .retired
      then ejectStep { s with hl := v, cyc := c } else boundaryRole (ejectStep { s with hl := v, cyc := c })) :=
    ite_kept (heject v c) (boundaryRole_kept (heject v c))
  exact ite_kept (hrole _ _) (kept_of_only (hrole _ _) (boundaryTail_only besides onlyChanges_refl))

/-- A lowered RET_AT may retire the last cell, and the module with it. -/
theorem retLower_kept {s : State} (h : retirementKept s) : retirementKept (retLower s) := by
  have hcells : retirementKept ((List.range 4).foldl (fun x n =>
      if s.cyc.par.retAtCell ≤ bucket x (.cell n) then retireCell n 0 x else x) s) :=
    foldl_kept h fun _ _ hx => ite_kept (retireCell_kept hx) hx
  unfold retLower
  refine foldl_kept (foldl_kept (foldl_kept (foldl_kept hcells ?lanes) ?ports) ?loops) ?can
  case lanes => exact fun _ _ hx => ite_kept (kept_of_only hx (retireLane_only besides onlyChanges_refl)) hx
  case ports => exact fun _ _ hx => ite_kept (kept_of_only hx (retirePlv_only besides onlyChanges_refl)) hx
  case loops => exact fun _ _ hx => ite_kept (kept_of_only hx (retireAl_only besides onlyChanges_refl)) hx
  case can => exact fun _ _ hx => ite_kept (kept_of_only hx (retireCan_only besides onlyChanges_refl)) hx

theorem migrationEnd_kept {start cause : Nat} {revert : Bool} {s : State} (h : retirementKept s) :
    retirementKept (migrationEnd start revert cause s) := by
  have htaken : retirementKept (if revert then revertTake cause s else switchTake s) :=
    ite_kept (kept_of_only h (revertTake_only besides onlyChanges_refl))
      (kept_of_only h (switchTake_only besides onlyChanges_refl))
  have hlower (x : State) (hx : retirementKept x) : retirementKept (retireDue retLower (revertAnswer x)) :=
    retireDue_kept fun y hy => retLower_kept (by
      rw [retirementKept, hy]
      exact kept_of_only hx (revertAnswer_only besides onlyChanges_refl))
  unfold migrationEnd
  refine ite_kept (retireDue_kept fun y hy => retireModule_fault_kept ?_) (ite_kept (hlower _ ?_) ?_)
  · rw [retirementKept, hy]
    exact htaken
  · exact kept_of_nva htaken
  · exact kept_of_only (hlower _ (kept_of_nva htaken))
      (boundaryLate_only besides (regens_only besides onlyChanges_refl))

/-! ### Boot -/

theorem bootTest_kept {r : Bool × State} {f : Nat × Nat} (h : retirementKept r.2) :
    retirementKept (bootTest r f).2 := by
  have hocc (src : Nat) (v : BstS) (w : FwuS) :
      retirementKept (occur Code.bstFail src 0 { r.2 with bst := v, fwu := w }) :=
    kept_of_only (kept_of_nva h) (occur_only besides onlyChanges_refl)
  have hrow (mem row src : Nat) (v : BstS) (w : FwuS) :
      retirementKept (rowFault mem row 32 (occur Code.bstFail src 0 { r.2 with bst := v, fwu := w })) :=
    kept_of_only (hocc src v w) (rowFault_only besides onlyChanges_refl)
  unfold bootTest
  dsimp only
  split
  · exact h
  · split
    case h_1 => exact hrow _ _ _ _ _
    case h_2 => exact hrow _ _ _ _ _
    case h_3 => exact hrow _ _ _ _ _
    case h_4 =>
      split
      · exact hocc _ _ _
      · exact engineTests_kept (hocc _ _ _)
    case h_9 => exact hocc _ _ _
    all_goals exact retireUnits_kept (hocc _ _ _)

theorem bootTests_kept {fs : List (Nat × Nat)} {r : Bool × State} (h : retirementKept r.2) :
    retirementKept (fs.foldl bootTest r).2 := by
  induction fs generalizing r with
  | nil => exact h
  | cons f _ ih => exact ih (bootTest_kept h)

theorem bootFail_kept {s : State} (h : retirementKept s) : retirementKept (bootFail s) :=
  ite_kept (kept_of_only h (moduleReset_only besides (ptrFall_only besides onlyChanges_refl)))
    (retireModule_fault_kept (kept_of_nva h))

theorem bootLast_kept {s : State} (h : retirementKept s) : retirementKept (bootLast s) := by
  have htrial : retirementKept (if s.mod.tup.fw = .trial
      then { s with fwu := { s.fwu with trialEnd := s.gt + 600 * sec } } else s) := ite_kept (kept_of_nva h) h
  exact ite_kept (ejectAct_kept (kept_of_nva htrial)) htrial

theorem bootRole_kept {r : Role} {s : State} (h : retirementKept s) : retirementKept (bootRole r s) := by
  have hrole : retirementKept (setTuple (fun m => { m with role := r, run := .idle }) (bootBegin s)) :=
    kept_of_only h (setTuple_only besides (bootBegin_only besides onlyChanges_refl))
  unfold bootRole
  refine kept_of_only (bootLast_kept (kept_of_only hrole ?_)) (takeRecord_only besides onlyChanges_refl)
  exact bgWant_only besides (alSettleAll_only besides (bootEngine_only besides
    (setNet_only besides (lanesBoot_only besides onlyChanges_refl))))

theorem bootSettle_kept {s : State} (h : retirementKept s) : retirementKept (bootSettle s) := by
  unfold bootSettle
  split
  · exact bootRole_kept h
  · exact kept_of_nva h

theorem bootEnd_kept {s : State} (h : retirementKept s) : retirementKept (bootEnd s) := by
  have harmed (v : BstS) : retirementKept (armGates s.chg.cur.gates { s with bst := v }) :=
    kept_of_only (kept_of_nva h) (armGates_only besides onlyChanges_refl)
  unfold bootEnd
  refine ite_kept (bootFail_kept (harmed _)) ?_
  generalize hx : bootCodes _ = x
  have hcodes : retirementKept x := by
    rw [← hx]
    exact kept_of_only (harmed _) (bootCodes_only besides onlyChanges_refl)
  dsimp only
  split
  · exact kept_of_only (kept_of_nva hcodes)
      (takeRecord_only besides (bootRetired_only besides onlyChanges_refl))
  · exact bootSettle_kept (kept_of_nva hcodes)

theorem bootStepAct_kept {k : Nat} {b : BootIn} {s : State} (h : retirementKept s) :
    retirementKept (bootStepAct k b s) := by
  unfold bootStepAct
  dsimp only
  split
  · exact kept_of_only (kept_of_nva h) (chooseSlot_only besides onlyChanges_refl)
  · exact kept_of_only (kept_of_nva h) (unitGates_only besides onlyChanges_refl)
  · exact kept_of_only (kept_of_nva h) (loadStore_only besides (formatConvert_only besides onlyChanges_refl))
  · exact bootEnd_kept (kept_of_nva h)
  · exact kept_of_nva h


/-! ### Host commands -/

theorem serveTurn_kept {c : Call} {f : Call → State → State} {s : State} (h : retirementKept s)
    (hf : ∀ c x, retirementKept x → retirementKept (f c x)) : retirementKept (serveTurn c f s) :=
  ite_kept (ite_kept (hf _ _ (kept_of_only h (fetchOne_only besides onlyChanges_refl))) h) h

theorem fail_kept {c : Call} {op : Nat} {st : Status} {s : State} (h : retirementKept s) :
    retirementKept (fail c op st s) :=
  kept_of_only h (fail_only besides onlyChanges_refl)

theorem refuse_kept {c : Call} {op req : Nat} {r : Reason} {s : State} (h : retirementKept s) :
    retirementKept (refuse c op req r s) :=
  kept_of_only h (refuse_only besides onlyChanges_refl)

theorem withGrant_kept {c : Call} {op role : Nat} {free : Bool} {tgt : List Byte → Bool}
    {f : Grant → State → State} {s : State} (h : retirementKept s)
    (hf : ∀ g x, retirementKept x → retirementKept (f g x)) :
    retirementKept (withGrant c op role free tgt f s) := by
  have hno (st : Status) (slot : Nat) : retirementKept (grantFail c op st slot s) :=
    kept_of_only h (grantFail_only besides onlyChanges_refl)
  unfold withGrant withGrantOr
  split
  · exact hno _ _
  · exact fail_kept h
  · split
    · exact hno _ _
    · exact hf _ _ (kept_of_only h (nonceKeep_only besides onlyChanges_refl))
  · split
    · exact hno _ _
    · split
      · exact hno _ _
      · exact hf _ _ h

theorem modeCmd_kept {req arg src : Nat} {c : Call} {f : State → State} {s : State} (h : retirementKept s)
    (hf : ∀ x, retirementKept x → retirementKept (f x)) : retirementKept (modeCmd req arg src c f s) := by
  have hcmd : retirementKept (withGrant c 0x10 (modeRole req) (req = 6) (modeTarget req arg src)
      (fun _ => notBusy c 0x10 req f) s) :=
    withGrant_kept h fun _ _ hx => ite_kept (refuse_kept hx) (hf _ hx)
  exact ite_kept (fail_kept h) (ite_kept (fail_kept h)
    (ite_kept (ite_kept hcmd (fail_kept h)) (ite_kept hcmd (ite_kept (fail_kept h) (refuse_kept h)))))

/-! ### Commands that may change what MRAM keeps of a retirement -/

section
variable {t : Nat} {s u : State}

theorem kept_of_next {v : State} (h : (.next v : Host.Outcome State Fault Refusal) = .next u)
    (hv : retirementKept v) : retirementKept u :=
  Host.Outcome.next.inj h ▸ hv

/-- A command whose list of parts leaves out what MRAM keeps of a retirement. -/
theorem kept_of_unretiring {c : Instr} (hs : retirementKept s) (h : exec c s = .next u)
    (hc : decide (Part.modRetired ∈ mayChange c) = false) : retirementKept u := by
  rwa [retirementKept, exec_only h .modRetired (of_decide_eq_false hc)]

theorem atT_kept (hs : retirementKept s) : retirementKept (atT t s) := kept_of_nva hs

theorem atT_lasting (hs : lastingCause s) : lastingCause (atT t s) := hs

theorem execRetire_kept {c : Call} (hs : retirementKept s) (h : execRetire t c s = .next u) : retirementKept u :=
  kept_of_next h (serveTurn_kept (atT_kept hs) fun _ _ hx => modeCmd_kept hx fun _ hy =>
    kept_of_only (retireModule_kept (by decide) hy) (modeDone_only besides onlyChanges_refl))

theorem execHlOvertemp_kept (hs : retirementKept s) (h : execHlOvertemp t s = .next u) : retirementKept u :=
  kept_of_next h (ite_kept (retireModule_fault_kept (kept_of_only (atT_kept hs)
    (occur_only besides onlyChanges_refl))) (atT_kept hs))

theorem execFreqWindowEnd_kept {a b x : Int} (hs : retirementKept s) (h : execFreqWindowEnd t a b x s = .next u) :
    retirementKept u :=
  kept_of_next h (kept_of_nva (judgeSrc_kept (judgeSrc_kept (atT_kept hs))))

theorem execSourceEdgeLoss_kept {xb : Bool} (hs : retirementKept s) (h : execSourceEdgeLoss t xb s = .next u) :
    retirementKept u :=
  kept_of_next h (ite_kept (srcLost_kept (atT_kept hs)) (atT_kept hs))

theorem execPllLockLoss_kept {n : Nat} (hs : retirementKept s) (h : execPllLockLoss t n s = .next u) :
    retirementKept u :=
  kept_of_next h (ite_kept (atT_kept hs) (ite_kept (pllFails_kept (kept_of_nva hs))
    (refLost_kept (kept_of_nva hs))))

theorem execClkForced_kept {dom : Nat} (hs : retirementKept s) (h : execClkForced t dom s = .next u) :
    retirementKept u := by
  refine kept_of_next h ?_
  split
  · exact atT_kept hs
  · exact forceSwitch_kept (atT_kept hs)

theorem execLockstepMismatch_kept {m : CellMiss} (hs : retirementKept s)
    (h : execLockstepMismatch t m s = .next u) : retirementKept u := by
  have hroll (v : CycS) : retirementKept (rollback m.cell (bucketAdd (.cell m.cell) 8 { atT t s with cyc := v })) :=
    kept_of_only (kept_of_nva hs) (rollback_only besides (bucketAdd_only besides onlyChanges_refl))
  exact kept_of_next h (ite_kept (ite_kept (retireCell_kept (hroll _)) (hroll _)) (atT_kept hs))

theorem execProgramCycleBoundary_kept (hs : lastingCause s) (h : execProgramCycleBoundary t s = .next u) :
    retirementKept u :=
  kept_of_next h (ite_kept
    (kept_of_only (programBoundary_kept (atT_lasting hs)) (agreeReady_only besides onlyChanges_refl))
    (atT_kept (retirementKept_of_lasting hs)))

theorem execMigrationDone_kept (hs : retirementKept s) (h : execMigrationDone t s = .next u) : retirementKept u := by
  refine kept_of_next h ?_
  split
  · exact ite_kept (kept_of_only (migrationEnd_kept (atT_kept hs)) (agreeReady_only besides onlyChanges_refl))
      (atT_kept hs)
  · exact atT_kept hs

theorem execOxnIdlePhase_kept {a b : Bool} (hs : retirementKept s) (h : execOxnIdlePhase t a b s = .next u) :
    retirementKept u :=
  kept_of_next h (ite_kept (kept_of_only (pairIdle_kept (atT_kept hs)) (oxnIdle_only besides onlyChanges_refl))
    (atT_kept hs))

theorem execPairNoQuorum_kept (hs : retirementKept s) (h : execPairNoQuorum t s = .next u) : retirementKept u := by
  have hocc (m : ModS) (v : PlvS) :
      retirementKept (occurU Code.pairNoQuorum pairSrc 4 { atT t s with mod := m, plv := v }) :=
    kept_of_only (kept_of_nva hs) (occurU_only besides onlyChanges_refl)
  exact kept_of_next h (ite_kept (ite_kept (retireModule_kept (by decide) (hocc _ _)) (kept_of_nva (hocc _ _)))
    (atT_kept hs))

theorem execPartnerSilent_kept (hs : retirementKept s) (h : execPartnerSilent t s = .next u) : retirementKept u := by
  have hnoted (v : PlvS) : retirementKept (noteFault pairSrc 6 { atT t s with plv := v }) :=
    kept_of_only (kept_of_nva hs) (noteFault_only besides onlyChanges_refl)
  refine kept_of_next h ?_
  split
  · exact ite_kept (atT_kept hs) (kept_of_nva (silentRole_kept (hnoted _)))
  · exact atT_kept hs

theorem execAuth_kept {p : PktHdr} {m : AuthMsg} (hs : retirementKept s) (h : execAuth t p m s = .next u) :
    retirementKept u :=
  kept_of_next h (onP0_kept (atT_kept hs) (authTake_kept (atT_kept hs)))

theorem execResyncStepTimeout_kept (hs : retirementKept s) (h : execResyncStepTimeout t s = .next u) :
    retirementKept u :=
  kept_of_next h (ite_kept (ite_kept (resyncFail_kept (atT_kept hs)) (atT_kept hs))
    (ite_kept (kept_of_nva hs) (atT_kept hs)))

theorem execResyncAttemptTimeout_kept (hs : retirementKept s) (h : execResyncAttemptTimeout t s = .next u) :
    retirementKept u :=
  kept_of_next h (ite_kept (resyncFail_kept (atT_kept hs)) (atT_kept hs))

theorem execFltL0_kept {target master : Nat} (hs : retirementKept s) (h : execFltL0 t target master s = .next u) :
    retirementKept u := by
  have hocc (v : FltS) : retirementKept (occur Code.fltL0 target 0 (noteFault target 0 { atT t s with flt := v })) :=
    kept_of_only (kept_of_nva hs) (occur_only besides (noteFault_only besides onlyChanges_refl))
  refine kept_of_next h (kept_of_only ?_ (masterFails_only besides onlyChanges_refl))
  split
  · exact engineFault_kept (hocc _)
  · exact ite_kept (retireModule_fault_kept (hocc _)) (hocc _)

theorem execEngineWatchdogExpiry_kept {engine : Nat} {digestOk : Bool} (hs : retirementKept s)
    (h : execEngineWatchdogExpiry t engine digestOk s = .next u) : retirementKept u := by
  have hrestart (v : FltS) : retirementKept (engineFault engine (engineStops engine
      (noteFault (unitSrc (atT t s) (.engine engine)) 4 { atT t s with flt := v }))) :=
    engineFault_kept (kept_of_only (kept_of_nva hs) (engineStops_only besides
      (noteFault_only besides onlyChanges_refl)))
  exact kept_of_next h (ite_kept (atT_kept hs) (ite_kept (kept_of_nva (hrestart _))
    (retireModule_fault_kept (kept_of_nva (hrestart _)))))

/-- FLT_L5 keeps its own retirement, with cause FAULT (R407). -/
theorem execFltL5_kept (hs : retirementKept s) (h : execFltL5 t s = .next u) : retirementKept u := by
  have hfault (v : NvA) (hv : v.modRetired ≠ none) : retirementKept (moduleReset { atT t s with nva := v }) :=
    kept_of_only (show retirementKept { atT t s with nva := v } from hv)
      (moduleReset_only besides onlyChanges_refl)
  exact kept_of_next h (ite_kept (atT_kept hs) (kept_of_nva (hfault _ (Option.some_ne_none _))))

theorem execPersistenceExpiry_kept {n : UnitId} {code : Nat} (hs : retirementKept s)
    (h : execPersistenceExpiry t n code s = .next u) : retirementKept u :=
  kept_of_next h (ite_kept (retireUnit_kept (atT_kept hs)) (atT_kept hs))

theorem execGateProgramFault_kept {a : Access} (hs : retirementKept s)
    (h : execGateProgramFault t a s = .next u) : retirementKept u := by
  refine kept_of_next h ?_
  split
  · exact atT_kept hs
  · refine ite_kept ?_ (atT_kept hs)
    split
    · exact deniedEff_kept (kept_of_only (atT_kept hs) (violate_only besides onlyChanges_refl))
    · exact atT_kept hs

theorem execBstSliceDone_kept {r : SliceRes} (hs : retirementKept s) (h : execBstSliceDone t r s = .next u) :
    retirementKept u := by
  have hend (v : BstS) : retirementKept (sliceEnd (compatEnd r.kind r.unit { atT t s with bst := v })) :=
    kept_of_only (kept_of_nva hs) (sliceEnd_only besides (compatEnd_only besides onlyChanges_refl))
  have hround (v : BstS) : retirementKept (roundStep r.kind (sliceEnd (compatEnd r.kind r.unit
      { atT t s with bst := v }))) :=
    kept_of_only (hend v) (roundStep_only besides onlyChanges_refl)
  refine kept_of_next h (ite_kept (atT_kept hs) ?_)
  dsimp only
  split
  · exact ite_kept (awaitedStep_kept (hend _)) (hend _)
  · exact ite_kept (kept_of_only (hround _) (testPass_only besides onlyChanges_refl)) (testFail_kept (hround _))

theorem execBstTimeout_kept (hs : retirementKept s) (h : execBstTimeout t s = .next u) : retirementKept u := by
  have hocc (k w : Nat) (v : BstS) :
      retirementKept (occur Code.bstTimeout w 0 (sliceEnd (compatEnd k w { atT t s with bst := v }))) :=
    kept_of_only (kept_of_nva hs) (occur_only besides (sliceEnd_only besides
      (compatEnd_only besides onlyChanges_refl)))
  refine kept_of_next h ?_
  split
  · refine ite_kept (atT_kept hs) (foldl_kept (hocc _ _ _) fun x n hx => ite_kept hx ?_)
    cases n with
    | engine e => exact engineFault_kept hx
    | _ => exact unitFault_kept hx
  · exact atT_kept hs

theorem execEjectorOpen_kept (hs : retirementKept s) (h : execEjectorOpen t s = .next u) : retirementKept u :=
  kept_of_next h (ite_kept (kept_of_nva hs) (ite_kept (kept_of_nva hs) (ejectAct_kept (kept_of_nva hs))))

theorem execTioOverlapEnd_kept (hs : lastingCause s) (h : execTioOverlapEnd t s = .next u) : retirementKept u := by
  have hdecide (v : TioS) : lastingCause (tioDecide { atT t s with tio := v }) :=
    lasting_of_only (a := { atT t s with tio := v }) hs (tioDecide_only besides onlyChanges_refl)
  have hnow := atT_kept (t := t) (retirementKept_of_lasting hs)
  refine kept_of_next h ?_
  split
  · exact ite_kept (ejectFinish_kept (hdecide _)) hnow
  · exact hnow

theorem execAlpRampEnd_kept (hs : lastingCause s) (h : execAlpRampEnd t s = .next u) : retirementKept u := by
  have hsettle (v : AlpS) : lastingCause (alSettleAll { atT t s with alp := v }) :=
    lasting_of_only (a := { atT t s with alp := v }) hs (alSettleAll_only besides onlyChanges_refl)
  have hnow := atT_kept (t := t) (retirementKept_of_lasting hs)
  refine kept_of_next h ?_
  split
  · exact ite_kept (ejectFinish_kept (hsettle _)) hnow
  · exact hnow

/-- A removal: the EJECTOR retirement comes first, and what MRAM keeps outlasts the stop that follows (R251, R42). -/
theorem execPresSenseOpen_kept (hs : lastingCause s) (h : execPresSenseOpen t s = .next u) : retirementKept u := by
  have hretired (v : ConS) : retirementKept (retireModule .ejector { atT t s with con := v }) :=
    retireModule_kept_of_lasting (s := { atT t s with con := v }) hs
  refine kept_of_next h (ite_kept (kept_of_nva (retirementKept_of_lasting hs)) ?_)
  generalize hx : pfRecords _ = x
  have hrec : retirementKept x := by
    rw [← hx]
    exact kept_of_only (hretired _) (pfRecords_only besides (bgHalt_only besides onlyChanges_refl))
  exact ite_kept (kept_of_nva hrec) (kept_of_only hrec (powerStop_only besides onlyChanges_refl))

theorem execPairPresOpen_kept (hs : retirementKept s) (h : execPairPresOpen t s = .next u) : retirementKept u := by
  unfold execPairPresOpen at h
  generalize hx : alSettleAll _ = x at h
  have hopen : retirementKept x := by
    rw [← hx]
    exact kept_of_only (kept_of_nva hs) (alSettleAll_only besides onlyChanges_refl)
  refine kept_of_next h ?_
  split
  · exact kept_of_only (kept_of_nva hopen) (failover_only besides onlyChanges_refl)
  · exact ite_kept (kept_of_only (kept_of_nva hopen) (soloStep_only besides onlyChanges_refl)) (kept_of_nva hopen)
  · exact ite_kept (bootSettle_kept hopen) hopen

theorem execPairWaitExpiry_kept (hs : retirementKept s) (h : execPairWaitExpiry t s = .next u) : retirementKept u :=
  kept_of_next h (ite_kept (bootRole_kept (atT_kept hs)) (atT_kept hs))

theorem execHeartbeat_kept {p : PktHdr} {data : List Byte} (hs : retirementKept s)
    (h : execHeartbeat t p data s = .next u) : retirementKept u := by
  have htaken : retirementKept (hbTake data (atT t s)) :=
    kept_of_only (atT_kept hs) (hbTake_only besides onlyChanges_refl)
  exact kept_of_next h (onP0_kept (atT_kept hs) (ite_kept (bootSettle_kept htaken) htaken))

/-- A trial image's boot tests leave what MRAM kept as it was. -/
theorem execBootStepDone_kept {b : BootIn} (hs : retirementKept s) (h : execBootStepDone t b s = .next u) :
    retirementKept u := by
  have htests (fs : List (Nat × Nat)) (k : Nat) :
      retirementKept (fs.foldl bootTest (false, bootKinds k fs (atT t s))).2 :=
    bootTests_kept (kept_of_nva hs)
  have hjudged (x : State) (hx : retirementKept x) : retirementKept { x with nva := { x.nva with
      modRetired := if (atT t s).mod.tup.fw = .trial then (atT t s).nva.modRetired else x.nva.modRetired } } := by
    change (if (atT t s).mod.tup.fw = .trial then s.nva.modRetired else x.nva.modRetired) ≠ none
    split
    · exact hs
    · exact hx
  have hdone (fs : List (Nat × Nat)) (k : Nat) := hjudged _ (htests fs k)
  exact kept_of_next h (ite_kept (atT_kept hs) (ite_kept (bootFail_kept (atT_kept hs))
    (ite_kept (bootFail_kept (kept_of_nva (hdone _ _))) (ite_kept (hdone _ _) (bootStepAct_kept (hdone _ _))))))

theorem execBootOverrun_kept (hs : retirementKept s) (h : execBootOverrun t s = .next u) : retirementKept u :=
  kept_of_next h (ite_kept (bootFail_kept (atT_kept hs)) (atT_kept hs))

end

/-- Every command but READMIT and a fetched one, in a state whose kept retirement is lasting. -/
theorem exec_kept {c : Instr} {s u : State} (hs : lastingCause s) (h : exec c s = .next u)
    (hr : ∀ t k arg src ok, c ≠ .readmit t k arg src ok)
    (hd : ∀ t n d b g ok, c ≠ .descriptorFetch t n d b g ok) :
    retirementKept u := by
  have hk := retirementKept_of_lasting hs
  cases c with
  | readmit t k arg src ok => exact absurd rfl (hr t k arg src ok)
  | descriptorFetch t n d b g ok => exact absurd rfl (hd t n d b g ok)
  | retire => exact execRetire_kept hk h
  | programCycleBoundary => exact execProgramCycleBoundary_kept hs h
  | migrationDone => exact execMigrationDone_kept hk h
  | lockstepMismatch => exact execLockstepMismatch_kept hk h
  | oxnIdlePhase => exact execOxnIdlePhase_kept hk h
  | auth => exact execAuth_kept hk h
  | heartbeat => exact execHeartbeat_kept hk h
  | partnerSilent => exact execPartnerSilent_kept hk h
  | pairNoQuorum => exact execPairNoQuorum_kept hk h
  | pairWaitExpiry => exact execPairWaitExpiry_kept hk h
  | resyncStepTimeout => exact execResyncStepTimeout_kept hk h
  | resyncAttemptTimeout => exact execResyncAttemptTimeout_kept hk h
  | ejectorOpen => exact execEjectorOpen_kept hk h
  | presSenseOpen => exact execPresSenseOpen_kept hs h
  | pairPresOpen t => exact execPairPresOpen_kept (t := t) hk h
  | hlOvertemp => exact execHlOvertemp_kept hk h
  | tioOverlapEnd => exact execTioOverlapEnd_kept hs h
  | alpRampEnd => exact execAlpRampEnd_kept hs h
  | freqWindowEnd => exact execFreqWindowEnd_kept hk h
  | sourceEdgeLoss => exact execSourceEdgeLoss_kept hk h
  | pllLockLoss => exact execPllLockLoss_kept hk h
  | clkForced => exact execClkForced_kept hk h
  | fltL0 => exact execFltL0_kept hk h
  | engineWatchdogExpiry => exact execEngineWatchdogExpiry_kept hk h
  | fltL5 => exact execFltL5_kept hk h
  | persistenceExpiry => exact execPersistenceExpiry_kept hk h
  | bstSliceDone => exact execBstSliceDone_kept hk h
  | bstTimeout => exact execBstTimeout_kept hk h
  | gateProgramFault => exact execGateProgramFault_kept hk h
  | bootStepDone => exact execBootStepDone_kept hk h
  | bootOverrun => exact execBootOverrun_kept hk h
  | _ => exact kept_of_unretiring hk h rfl

/-- Settles O52: an EJECTOR decided later drops nothing of a lasting cause, every other cause is kept itself,
and no reset clears MRAM. -/
theorem retirementOutlastsAllButReadmit : Obligations.RetirementOutlastsAllButReadmit :=
  fun _ _ _ h hs hr hd => exec_kept hs h hr hd

end Sys2Proof.Machine

/-! PROOFS. MOD_STATE, and the host commands that change the mode: how a fetched command reaches its effect (R331 to R350),
what an accepted grant leaves to its checks, and the mode commands themselves. -/

namespace Sys2Proof.Machine

-- One proof at a time: proofs that wait for one another in parallel each hold a stack against the memory limit.
set_option Elab.async false

/-! ### MOD_STATE (Tables 2.1 and 2.13) -/

theorem role_of_code (r : Role) : [Role.solo, .active, .standby, .syncing, .retired][roleCode r]? = some r := by
  cases r <;> rfl

theorem run_of_code (r : RunState) : [RunState.boot, .idle, .run, .hold, .safe][runCode r]? = some r := by
  cases r <;> rfl

theorem change_of_code (c : ChangeState) :
    [ChangeState.none, .staged, .trial, .confirmed][changeCode c]? = some c := by
  cases c <;> rfl

theorem ile_of_code (i : IleState) : [IleState.lane3, .ab, .ac, .bc, .withdrawn][ileCode i]? = some i := by
  cases i <;> rfl

theorem net_of_code (n : NetState) :
    [NetState.listen, .coldLead, .integrating, .synced, .narrow, .passive][netCode n]? = some n := by
  cases n <;> rfl

theorem tier_of_num (k : Tier) : [Tier.t0, .t1, .t2, .t3][tierNum k]? = some k := by
  cases k <;> rfl

theorem fw_of_code (f : FwState) : [FwState.confirmed, .trial, .fallback][fwCode f]? = some f := by
  cases f <;> rfl

/-- A number below the length of a table from a look-up in it. -/
theorem lt_of_look {α : Type} {l : List α} {i : Nat} {x : α} (h : l[i]? = some x) : i < l.length :=
  (List.getElem?_eq_some_iff.1 h).1

/-- Fields of 3, 3, 2, 1, 3, 3, 2, 2 and 1 bits do not overlap. -/
theorem fields_of_word {a b c d e f g h i w : Nat}
    (hw : w = a + 8 * b + 64 * c + 256 * d + 512 * e + 4096 * f + 32768 * g + 131072 * h + 524288 * i)
    (ha : a < 8) (hb : b < 8) (hc : c < 4) (hd : d < 2) (he : e < 8) (hf : f < 8) (hg : g < 4) (hh : h < 4)
    (hi : i < 2) :
    w % 8 = a ∧ w / 8 % 8 = b ∧ w / 64 % 4 = c ∧ w / 256 % 2 = d ∧ w / 512 % 8 = e ∧ w / 4096 % 8 = f ∧
      w / 32768 % 4 = g ∧ w / 131072 % 4 = h ∧ w / 524288 % 2 = i ∧ w / 1048576 = 0 := by
  omega

/-- The fields of the tuple's word (Table 2.13). -/
theorem tupleWord_fields (m : ModeTuple) :
    let w := tupleWord m
    w % 8 = roleCode m.role ∧ w / 8 % 8 = runCode m.run ∧ w / 64 % 4 = changeCode m.change ∧
      w / 256 % 2 = (if m.forced then 1 else 0) ∧ w / 512 % 8 = ileCode m.ile ∧ w / 4096 % 8 = netCode m.net ∧
      w / 32768 % 4 = tierNum m.tier ∧ w / 131072 % 4 = fwCode m.fw ∧
      w / 524288 % 2 = (match m.bst with | .native => 0 | .compat => 1) ∧ w / 1048576 = 0 := by
  refine fields_of_word rfl ((lt_of_look (role_of_code _)).trans_le (by decide))
    ((lt_of_look (run_of_code _)).trans_le (by decide)) (lt_of_look (change_of_code _)) ?_
    ((lt_of_look (ile_of_code _)).trans_le (by decide)) ((lt_of_look (net_of_code _)).trans_le (by decide))
    (lt_of_look (tier_of_num _)) ((lt_of_look (fw_of_code _)).trans_le (by decide)) ?_
  · split <;> decide
  · cases m.bst <;> decide

theorem readReg_modState (s : State) : (readReg s 0x1010).toNat = tupleWord s.mod.tup := by
  have hlt : tupleWord s.mod.tup < 2 ^ 32 := by
    obtain ⟨-, -, -, -, -, -, -, -, -, hhigh⟩ := tupleWord_fields s.mod.tup
    omega
  exact (BitVec.toNat_ofNat _ _).trans (Nat.mod_eq_of_lt hlt)

/-- Settles O13: the register reads the tuple's word, whose fields hold the codes, and each code names its value. -/
theorem modStateShowsTheTuple : Obligations.ModStateShowsTheTuple := by
  intro s w m
  have hw : w = tupleWord m := readReg_modState s
  obtain ⟨hrole, hrun, hchange, hforced, hile, hnet, htier, hfw, hbst, hhigh⟩ := tupleWord_fields m
  rw [hw, hrole, hrun, hchange, hforced, hile, hnet, htier, hfw, hbst]
  refine ⟨role_of_code _, run_of_code _, change_of_code _, ?_, ile_of_code _, net_of_code _, tier_of_num _,
    fw_of_code _, ?_, hhigh⟩
  · cases m.forced <;> rfl
  · cases m.bst <;> rfl

/-! ### How a host command with a good grant reaches its effect (R333, R339, R343) -/

section
variable {c : Call} {g : Grant} {t on op req role : Nat} {free : Bool} {tgt : List Byte → Bool} {s : State}

/-- What `accepts` holds of the state in which the command is served. -/
theorem accepts_iff : accepts c on s = true ↔
    fetchable s c.ring = true ∧ bufAligned c = true ∧ s.fwu.speedwell = false ∧
      on.testBit (letterOf s) = true := by
  simp [accepts, and_assoc]

theorem carries_iff : carries c op role free tgt g t s = true ↔
    firstInLine s c.ring = true ∧ c.auth = .grant g ∧
      grantCheck (taken c t s) false free (some role) (g.action = op) tgt g = none := by
  simp [carries, and_assoc]

theorem serveTurn_of_first (f : Call → State → State) (hl : firstInLine s c.ring = true)
    (hf : fetchable s c.ring = true) : serveTurn c f (atT t s) = f (stamped c t s) (taken c t s) :=
  (if_pos hl).trans (if_pos hf)

theorem opening_of_accepts {needs bufOk : Bool} (f : State → State) (ha : accepts c on s = true)
    (hauth : authOk needs c.auth = true) (hbuf : bufOk = true) :
    opening (stamped c t s) op req on needs bufOk f (taken c t s) = f (taken c t s) := by
  obtain ⟨-, hal, hsw, hon⟩ := accepts_iff.1 ha
  have hauth' : authOk needs (stamped c t s).auth = true := hauth
  have hal' : bufAligned (stamped c t s) = true := hal
  have hsw' : (taken c t s).fwu.speedwell = false := hsw
  have hon' : on.testBit (letterOf (taken c t s)) = true := hon
  simp [opening, acceptOn, hauth', hal', hbuf, hsw', hon']

theorem withGrantOr_of_carries (onFail : State → State) (f : Grant → State → State)
    (hc : carries c op role free tgt g t s = true) :
    withGrantOr onFail (stamped c t s) op role free tgt f (taken c t s) = f g (authorised c g t s) := by
  obtain ⟨-, hauth, hcheck⟩ := carries_iff.1 hc
  have hauth' : (stamped c t s).auth = .grant g := hauth
  simp only [withGrantOr, hauth', hcheck]
  rfl

/-- A changing command is served when its turn has come (R333). -/
theorem serveTurn_of_carries (f : Call → State → State) (ha : accepts c on s = true)
    (hc : carries c op role free tgt g t s = true) :
    serveTurn c f (atT t s) = f (stamped c t s) (taken c t s) :=
  serveTurn_of_first f (carries_iff.1 hc).1 (accepts_iff.1 ha).1

/-- With a grant that passes, the command has its effect in the state in which its grant has been used. -/
theorem opening_of_carries {bufOk : Bool} {onFail : State → State} (f : Grant → State → State)
    (ha : accepts c on s = true) (hbuf : bufOk = true) (hc : carries c op role free tgt g t s = true) :
    opening (stamped c t s) op req on true bufOk (withGrantOr onFail (stamped c t s) op role free tgt f) (taken c t s) =
      f g (authorised c g t s) := by
  have hauth : authOk true c.auth = true := by rw [(carries_iff.1 hc).2.1]; rfl
  rw [opening_of_accepts _ ha hauth hbuf, withGrantOr_of_carries onFail f hc]

/-- A command that R39 holds back is refused while the judges decide; its grant has been used. -/
theorem opening_busy {bufOk : Bool} {h : State → State} (ha : accepts c on s = true) (hbuf : bufOk = true)
    (hc : carries c op role free tgt g t s = true) (harb : s.mod.arb = true) :
    opening (stamped c t s) op req on true bufOk (withGrant (stamped c t s) op role free tgt fun _ =>
      notBusy (stamped c t s) op req h) (taken c t s) = refuse (stamped c t s) op req .busy (authorised c g t s) :=
  (opening_of_carries _ ha hbuf hc).trans (if_pos harb)

theorem opening_free {bufOk : Bool} {h : State → State} (ha : accepts c on s = true) (hbuf : bufOk = true)
    (hc : carries c op role free tgt g t s = true) (harb : s.mod.arb = false) :
    opening (stamped c t s) op req on true bufOk (withGrant (stamped c t s) op role free tgt fun _ =>
      notBusy (stamped c t s) op req h) (taken c t s) = h (authorised c g t s) :=
  (opening_of_carries _ ha hbuf hc).trans (if_neg (Bool.eq_false_iff.1 harb))

/-- A command with ARGS in range. -/
theorem ranged_of_ok {ok : Bool} (f : State → State) (h : ok = true) : ranged ok c op f s = f s := if_pos h

end

/-! ### Refusals of commands with a good grant (R39, R48, R58) -/

/-- Settles O35: each of the eleven commands is held back by R39 after its grant. -/
theorem arbitrationRefusesCommands : Obligations.ArbitrationRefusesCommands := by
  intro t c n ty v g s x hx ha hbuf hc harb
  simp only [ordered, List.mem_cons, List.not_mem_nil, or_false] at hx
  rcases hx with rfl | rfl | rfl | rfl | rfl | rfl | rfl | rfl | rfl | rfl | rfl <;>
    exact congrArg Host.Outcome.next ((serveTurn_of_carries _ ha hc).trans (opening_busy ha hbuf hc harb))

/-- Settles O36: outside the states of R58 the unlock is not legal. -/
theorem debugUnlockOnlyAtRest : Obligations.DebugUnlockOnlyAtRest := by
  intro t c g mask s ha hbuf hc hmask hrest
  have hlegal : (!unlockLegal (authorised c g t s)) = true := by
    change (!unlockLegal s) = true
    simpa [unlockLegal, imp_iff_not_or] using hrest
  exact congrArg Host.Outcome.next ((serveTurn_of_carries _ ha hc).trans
    ((ranged_of_ok _ (decide_eq_true hmask)).trans ((opening_of_carries _ ha hbuf hc).trans (if_pos hlegal))))

theorem stageGuard_of_trial {s : State} (harb : s.mod.arb = false) (hfw : s.mod.tup.fw = .trial) :
    stageGuard s = some .notLegal := by
  simp [stageGuard, harb, hfw]

theorem stageEnter_of_guard {op : Nat} {c : Call} {f : State → State} {r : Reason} {s : State}
    (h : stageGuard s = some r) : stageEnter op c f s = stageRefused (refuse c op (stageReq op) r s) := by
  simp only [stageEnter, h]

theorem activateGuard_of_change {s : State} (harb : s.mod.arb = false)
    (hc : s.mod.tup.change = .staged ∨ s.mod.tup.change = .trial) : activateGuard s = some .notLegal := by
  rcases hc with hc | hc <;> simp [activateGuard, harb, hc]

/-- Settles O37: the guards of STAGE and of FW_ACTIVATE come after R39 and before every other. -/
theorem stagingAndActivationExclude : Obligations.StagingAndActivationExclude := by
  refine ⟨?stage, ?activate⟩
  case stage =>
    intro t c g box s ha hc harb hfw
    exact congrArg Host.Outcome.next ((serveTurn_of_carries _ ha hc).trans ((opening_of_carries _ ha rfl hc).trans
      (stageEnter_of_guard (stageGuard_of_trial harb hfw))))
  case activate =>
    intro t c g s ha hbuf himage hc harb hchange
    have hauth : authOk true c.auth = true := by rw [(carries_iff.1 hc).2.1]; rfl
    have hspeed : ¬ (taken c t s).fwu.speedwell = true := by simp [taken, (accepts_iff.1 ha).2.2.1]
    have hstored : (slotOf (taken c t s).nva (altSlot (taken c t s))).complete = true := himage
    have hslot : ¬ (!(slotOf (taken c t s).nva (altSlot (taken c t s))).complete) = true := by simp [hstored]
    have hguard : activateGuard (authorised c g t s) = some .notLegal := activateGuard_of_change harb hchange
    refine congrArg Host.Outcome.next ((serveTurn_of_carries _ ha hc).trans ((opening_of_accepts _ ha hauth hbuf).trans
      ((if_neg hspeed).trans ((if_neg hslot).trans ((withGrantOr_of_carries _ _ hc).trans ?_)))))
    simp only [hguard]

/-! ### Mode commands complete -/

/-- A MODE request that waits for its boundary (R36). -/
theorem serveTurn_mode {c : Call} {g : Grant} {t req arg : Nat} {h : Call → State → State} {s : State}
    (ha : accepts c (modeOn req 0) s = true) (hbuf : noBuf c = true)
    (hc : carries c 0x10 (modeRole req) (req = 6) (modeTarget req arg 0) g t s = true) (harb : s.mod.arb = false) :
    serveTurn c (fun c => modeCmd req arg 0 c (h c)) (atT t s) = h (stamped c t s) (authorised c g t s) :=
  (serveTurn_of_carries _ ha hc).trans (opening_free ha hbuf hc harb)

/-- READMIT of a RETIRED module ends what MRAM keeps, and reboots. -/
theorem readmitModule_of_retired {c : Call} {s : State} (hr : s.mod.tup.role = .retired) :
    (readmitModule c true s).mod.tup = tupleReset ∧ (readmitModule c true s).nva.modRetired = none := by
  have hself : readmitModule c true s = moduleReset (postCompletion c.ring (done c 0x10 (tupleWord tupleReset)
      (occur Code.unitReadmitted Src.sv 0 (([1, 2, 3].map UnitId.engine).foldl
        (fun s u => if isRetired s u then readmitRecord u s else s)
        { s with nva := { s.nva with modRetired := none } })))) := by
    rw [readmitModule, if_neg (not_not.2 hr), if_neg (by decide)]
  rw [hself]
  exact ⟨rfl, modRetired_of_only (a := { s with nva := { s.nva with modRetired := none } })
    (moduleReset_only partsWithin (postCompletion_only partsWithin (done_only partsWithin (occur_only partsWithin
      (foldl_only onlyChanges_refl fun _ _ hx =>
        ite_only (fun _ => readmitRecord_only partsWithin hx) fun _ => hx)))))⟩

/-- Settles O16: each request by its own effect after acceptance; RETIRE and READMIT act at once. -/
theorem modeCommandsComplete : Obligations.ModeCommandsComplete := by
  refine ⟨?start, ?hold, ?stop, ?handover, ?retire, ?readmit, ?bst, ?ack⟩
  case start => exact fun t c g s ha hbuf hc harb => congrArg Host.Outcome.next (serveTurn_mode ha hbuf hc harb)
  case hold => exact fun t c g s ha hbuf hc harb => congrArg Host.Outcome.next (serveTurn_mode ha hbuf hc harb)
  case stop => exact fun t c g s ha hbuf hc harb => congrArg Host.Outcome.next (serveTurn_mode ha hbuf hc harb)
  case handover => exact fun t c g s ha hbuf hc harb => congrArg Host.Outcome.next (serveTurn_mode ha hbuf hc harb)
  case retire => exact fun t c g s ha hbuf hc harb => congrArg Host.Outcome.next (serveTurn_mode ha hbuf hc harb)
  case readmit =>
    intro t c g s ha hbuf hc harb hr
    have hserve : exec (.readmit t c 0 0 true) s =
        .next (readmitModule (stamped c t s) true (authorised c g t s)) :=
      congrArg Host.Outcome.next (serveTurn_mode (h := fun c => readmitModule c true) ha hbuf hc harb)
    exact ⟨_, hserve, readmitModule_of_retired hr⟩
  case bst =>
    intro t c g arg s ha hbuf hc harb harg hr
    exact congrArg Host.Outcome.next ((serveTurn_of_carries _ ha hc).trans
      ((ranged_of_ok _ (decide_eq_true harg)).trans ((opening_free ha hbuf hc harb).trans (if_neg hr))))
  case ack => exact fun t c g s ha hbuf hc harb => congrArg Host.Outcome.next (serveTurn_mode ha hbuf hc harb)

end Sys2Proof.Machine

/-! PROOFS. The pair's commands complete: each under the conditions of its rule. -/

namespace Sys2Proof.Machine

-- One proof at a time: proofs that wait for one another in parallel each hold a stack against the memory limit.
set_option Elab.async false

/-! ### Packets on P0 -/

/-- A packet of P0 that counts reaches the module's logic (R238). -/
theorem onP0_of_good {ptype t : Nat} {h : PktHdr} {ok : Bool} {s : State} (f : State → State)
    (hp : p0Good ptype h s = true) (hok : ok = true) : onP0 ptype h ok f (atT t s) = f (atT t s) := by
  have hparts : ((h.port = 0 ∧ pktOk h ptype = true) ∧ s.plv.authOk = true) ∧ portUp s 0 = true := by
    simpa [p0Good] using hp
  obtain ⟨⟨⟨hport, hpkt⟩, hauth⟩, hup⟩ := hparts
  have hauth' : (atT t s).plv.authOk = true := hauth
  have hup' : rxUp (atT t s) 0 = true := hup
  rw [onP0, hport, hup', hpkt, hok, hauth']
  simp

/-- AUTH alone needs no authenticated partner. -/
theorem onP0_of_auth {t : Nat} {h : PktHdr} {s : State} (f : State → State) (hport : h.port = 0)
    (hpkt : pktOk h 0x0E = true) (hup : portUp s 0 = true) : onP0 0x0E h true f (atT t s) = f (atT t s) := by
  have hup' : rxUp (atT t s) 0 = true := hup
  simp [onP0, hport, hpkt, hup']

/-! ### What sending leaves alone -/

theorem emits_plv {α : Type} (o : State → α → Out) (l : List α) (s : State) :
    (l.foldl (fun s x => emit (o s x) s) s).plv = s.plv := by
  induction l generalizing s with
  | nil => rfl
  | cons x _ ih => exact ih (emit (o s x) s)

/-- What leaves on ports raises the SEQ of its type and nothing else of the pair's state. -/
theorem sendOn_plv (ports : List Nat) (ptype dest : Nat) (pay : List Nat) (s : State) :
    ∃ q, (sendOn ports ptype dest pay s).plv = { s.plv with seqs := q } := by
  unfold sendOn
  dsimp only
  split
  · exact ⟨_, rfl⟩
  · exact ⟨_, emits_plv (fun s p => pktOut p ptype 0 s.mod.slot dest _ pay) _ _⟩

theorem sendOn_ports (ports : List Nat) (ptype dest : Nat) (pay : List Nat) (s : State) :
    (sendOn ports ptype dest pay s).plv.ports = s.plv.ports := by
  obtain ⟨q, hq⟩ := sendOn_plv ports ptype dest pay s
  rw [hq]

theorem sendOn_authOk (ports : List Nat) (ptype dest : Nat) (pay : List Nat) (s : State) :
    (sendOn ports ptype dest pay s).plv.authOk = s.plv.authOk := by
  obtain ⟨q, hq⟩ := sendOn_plv ports ptype dest pay s
  rw [hq]

theorem sendAuth_ports (s : State) : (sendAuth s).plv.ports = s.plv.ports := by
  unfold sendAuth
  split
  · rfl
  · exact sendOn_ports _ _ _ _ _

theorem sendAuth_authOk (s : State) : (sendAuth s).plv.authOk = s.plv.authOk := by
  unfold sendAuth
  split
  · rfl
  · exact sendOn_authOk _ _ _ _ _

theorem updAt_zero_getD {α : Type} {l : List α} (f : α → α) (d : α) (h : 0 < l.length) :
    (updAt l 0 f).getD 0 d = f (l.getD 0 d) := by
  cases l with
  | nil => exact absurd h (Nat.lt_irrefl 0)
  | cons x xs => rfl

theorem portOf_congr {a b : State} (h : a.plv.ports = b.plv.ports) (p : Nat) : portOf a p = portOf b p :=
  congrArg (fun l => l.getD p portReset) h

/-- P0_LINK_UP: neither the delay request nor AUTH touches the ports or the authentication. -/
theorem execP0LinkUp_of_on {t : Nat} {s : State} (hon : plvOn s = true) (hr : s.mod.tup.role ≠ .retired)
    (hp : 0 < s.plv.ports.length) : ∃ u, execP0LinkUp t s = .next u ∧ u.plv.authOk = false ∧
      (portOf u 0).lanes = if (portOf s 0).lanes = 0 then 4 else (portOf s 0).lanes := by
  have hguard : (plvOn (atT t s) && decide ((atT t s).mod.tup.role ≠ .retired)) = true :=
    Bool.and_eq_true_iff.2 ⟨hon, decide_eq_true hr⟩
  refine ⟨_, congrArg Host.Outcome.next (if_pos hguard), sendAuth_authOk _, ?_⟩
  refine (congrArg PortS.lanes (portOf_congr (sendAuth_ports _) 0)).trans ?_
  refine (congrArg PortS.lanes (portOf_congr (sendOn_ports _ _ _ _ _) 0)).trans ?_
  exact congrArg PortS.lanes (updAt_zero_getD _ portReset hp)

/-! ### Heartbeats and silence -/

theorem execHeartbeatSend_of_due {t : Nat} {s : State} (hb : s.mod.tup.run ≠ .boot) (hs : s.mod.tup.run ≠ .safe)
    (ha : s.plv.authOk = true) (hu : portUp s 0 = true)
    (hl : ∀ l, s.plv.hbSent = some l → l + 990 * us ≤ max s.gt t) :
    execHeartbeatSend t s = .next (askAgain (sendOn [0] 0x01 (partnerSlot s) (payBytes (hbBytes (atT t s)))
      { atT t s with plv := { s.plv with hbSeq := (s.plv.hbSeq + 1) % 2 ^ 16, hbSent := some (max s.gt t) } })) := by
  have hdue : (match s.plv.hbSent with | some l => decide (l + 990 * us ≤ max s.gt t) | none => true) = true := by
    split
    next l hsent => exact decide_eq_true (hl l hsent)
    next => rfl
  have hguard : ((decide (s.mod.tup.run ≠ .boot) || s.plv.pairWait.isSome) && decide (s.mod.tup.run ≠ .safe)
      && s.plv.authOk && portUp s 0
      && (match s.plv.hbSent with | some l => decide (l + 990 * us ≤ max s.gt t) | none => true)) = true := by
    rw [hdue, decide_eq_true hb, decide_eq_true hs, ha, hu]
    rfl
  exact congrArg Host.Outcome.next (if_pos hguard)

theorem execHeartbeat_of_good {t : Nat} {h : PktHdr} {data : List Byte} {s : State} (hp : p0Good 0x01 h s = true)
    (hd : data = h.pay) (hok : hbOk data = true) (hw : (hbTake data (atT t s)).plv.pairWait = none) :
    execHeartbeat t h data s = .next (hbTake data (atT t s)) := by
  have hno : ¬ (hbTake data (atT t s)).plv.pairWait.isSome = true := by simp [hw]
  exact congrArg Host.Outcome.next ((onP0_of_good _ hp (Bool.and_eq_true_iff.2 ⟨decide_eq_true hd, hok⟩)).trans
    (if_neg hno))

theorem execPartnerSilent_of_due {t l : Nat} {s : State} (hl : s.plv.lastHb = some l) (hn : s.plv.silent = false)
    (hdue : l + 3 * ms ≤ max s.gt t) :
    ∃ u, execPartnerSilent t s = .next u ∧ u.mod.valid = false ∧ u.mod.partner = tupleReset := by
  refine ⟨_, rfl, ?_⟩
  have hl' : (atT t s).plv.lastHb = some l := hl
  have hguard : ¬ ((atT t s).plv.silent || decide ((atT t s).gt < l + 3 * ms)) = true := by
    have hn' : (atT t s).plv.silent = false := hn
    rw [hn', decide_eq_false (show ¬ (atT t s).gt < l + 3 * ms from Nat.not_lt.2 hdue)]
    decide
  simp only [hl', if_neg hguard, and_self]

/-! ### What the active sends -/

theorem execForceTable_of_standby {t ver at_ : Nat} {h : PktHdr} {fs : List Force} {s : State}
    (hp : p0Good 0x07 h s = true) (hr : s.mod.tup.role = .standby) :
    execForceTable t h ver at_ fs s = .next (relayTake (.forceTable ver fs) at_ (atT t s)) :=
  congrArg Host.Outcome.next ((onP0_of_good _ hp rfl).trans (if_pos hr))

theorem execIleSnap_of_now {t : Nat} {h : PktHdr} {m : SnapSent} {s : State} (hp : p0Good 0x08 h s = true)
    (hsh : shadows s = true) (htab : s.ile.table ≠ none) (he : s.ile.evald = false) (hpair : s.ile.pairStep = false)
    (hw : s.ile.withdrawnNow = false) :
    execIleSnap t h s.ile.n m s = .next (runShadow ⟨m, s.ile.n⟩ [] (atT t s)) := by
  have hmay : ¬ (!shadows (atT t s) || decide ((atT t s).ile.table = none)) = true := by
    have hsh' : shadows (atT t s) = true := hsh
    rw [hsh', decide_eq_false (show ¬ (atT t s).ile.table = none from htab)]
    decide
  have hnow : (decide (s.ile.n = (atT t s).ile.n) && !(atT t s).ile.evald && !(atT t s).ile.pairStep
      && !(atT t s).ile.withdrawnNow) = true := by
    simp [he, hpair, hw]
  exact congrArg Host.Outcome.next ((onP0_of_good _ hp rfl).trans ((if_neg hmay).trans (if_pos hnow)))

theorem execIleDigest_of_differs {t d : Nat} {h : PktHdr} {s : State} (hp : p0Good 0x09 h s = true)
    (hr : s.mod.tup.role = .standby) (he : s.ile.evald = true) (hd : s.ile.digest ≠ d) :
    execIleDigest t h s.ile.upN d s = .next (ileMismatch (atT t s)) := by
  have hguard : (decide ((atT t s).mod.tup.role = .standby) && decide ((atT t s).ile.upN = s.ile.upN)
      && (atT t s).ile.evald && decide ((atT t s).ile.digest ≠ d)) = true := by
    simp [hr, he, hd]
  exact congrArg Host.Outcome.next ((onP0_of_good _ hp rfl).trans (if_pos hguard))

theorem execIleState_of_same {t n : Nat} {h : PktHdr} {dyn : IleDyn} {old : Option IleTable} {s : State}
    (hp : p0Good 0x0A h s = true) (hsh : shadows s = true) (hw : s.ile.withdrawnNow = false) :
    execIleState t h (genCur s) n ⟨tableDigest s, dyn, old⟩ s =
      .next { atT t s with ile := { s.ile with adopt := some (dyn, old, n) } } := by
  have hmay : ¬ (!((atT t s).ile.lanes.any (·.joining))
      && (!shadows (atT t s) || (atT t s).ile.withdrawnNow)) = true := by
    have hsh' : shadows (atT t s) = true := hsh
    simp [hsh', hw]
  have hsame : (decide (genCur s = genCur (atT t s)) && decide (tableDigest s = tableDigest (atT t s))) = true :=
    Bool.and_eq_true_iff.2 ⟨decide_eq_true rfl, decide_eq_true rfl⟩
  exact congrArg Host.Outcome.next ((onP0_of_good _ hp rfl).trans ((if_neg hmay).trans (if_pos hsame)))

theorem execRelease_of_standby {t n : Nat} {h : PktHdr} {s : State} (hp : p0Good 0x0B h s = true)
    (hr : s.mod.tup.role = .standby) (hb : atBoundary s = true) (hn : n ≤ s.cyc.cycle) :
    execRelease t h n s = .next (takeActive (atT t s)) := by
  have hguard : (atBoundary (atT t s) && decide (n ≤ (atT t s).cyc.cycle)) = true :=
    Bool.and_eq_true_iff.2 ⟨hb, decide_eq_true hn⟩
  exact congrArg Host.Outcome.next ((onP0_of_good _ hp rfl).trans ((if_neg (not_not.2 hr)).trans (if_pos hguard)))

theorem execLeaving_of_active {t : Nat} {h : PktHdr} {s : State} (hp : p0Good 0x0B h s = true)
    (hr : s.mod.tup.role = .active) (hph : s.cyc.phase ≠ .boundary) :
    execLeaving t h s = .next { atT t s with plv := { s.plv with leaving := true, soloNext := true } } := by
  have hno : ¬ atBoundary { atT t s with plv := { s.plv with leaving := true, soloNext := true } } = true := by
    simp [atBoundary, hph]
  exact congrArg Host.Outcome.next ((onP0_of_good _ hp rfl).trans ((if_neg (not_not.2 hr)).trans (if_neg hno)))

theorem execArbStart_of_free {t td : Nat} {h : PktHdr} {cause : ArbCause} {s : State} (hp : p0Good 0x0B h s = true)
    (hm : arbMay s = true) (ha : s.mod.arb = false) :
    execArbStart t h cause td s = .next (sliceStop { atT t s with
      mod := { s.mod with arb := true }
      plv := { s.plv with
        arbCause := arbCode cause, arbTd := td, arbTh := s.plv.tH, arbOutcome := 0
        arbCount := satInc 0xFF s.plv.arbCount } }) := by
  have hmay : ¬ (!arbMay (atT t s)) = true := by
    have hm' : arbMay (atT t s) = true := hm
    simp [hm']
  exact congrArg Host.Outcome.next ((onP0_of_good _ hp rfl).trans ((if_neg hmay).trans
    (if_neg (Bool.eq_false_iff.1 ha))))

theorem execTierAgree_of_standby {t tier at_ : Nat} {h : PktHdr} {s : State} (hp : p0Good 0x0B h s = true)
    (ht : tier < 4) (hr : s.mod.tup.role = .standby) :
    execTierAgree t h tier at_ s = .next { atT t s with plv := { s.plv with tierAt := some (tier, at_) } } :=
  congrArg Host.Outcome.next ((onP0_of_good _ hp (decide_eq_true ht)).trans
    (if_pos (Bool.or_eq_true_iff.2 (.inl (decide_eq_true hr)))))

/-! ### Resynchronisation and arbitration -/

theorem execResync_of_syncing {t : Nat} {h : PktHdr} {d : ResyncData} {s : State} (hp : p0Good 0x0C h s = true)
    (hr : s.mod.tup.role = .syncing) (hs : s.plv.source = false) :
    execResync t h d s = .next (resyncTake d (atT t s)) := by
  have hguard : (decide ((atT t s).mod.tup.role = .syncing) && !(atT t s).plv.source) = true := by simp [hr, hs]
  exact congrArg Host.Outcome.next ((onP0_of_good _ hp rfl).trans (if_pos hguard))

theorem execImage_of_step2 {t off tot : Nat} {h : PktHdr} {data : List Byte} {hdr : Option ImageHdr} {s : State}
    (hp : p0Good 0x0D h s = true) (hr : s.mod.tup.role = .syncing) (hs : s.plv.step = 2) (ho : off % 4096 = 0)
    (hl : off + data.length ≤ tot) :
    execImage t h off tot data hdr s = .next (chunkStore off tot data.length hdr (atT t s)) := by
  have hguard : (decide ((atT t s).mod.tup.role = .syncing) && decide ((atT t s).plv.step = 2)
      && decide (off % 4096 = 0) && decide (off + data.length ≤ tot)) = true := by
    simp [hr, hs, ho, hl]
  exact congrArg Host.Outcome.next ((onP0_of_good _ hp rfl).trans (if_pos hguard))

theorem execResyncStepDone_of_source {t : Nat} {s : State} (hr : s.mod.tup.role = .active)
    (hs : s.plv.source = true) : execResyncStepDone t true s = .next (sourceStep (atT t s)) := by
  have hno : ¬ (atT t s).mod.tup.role = .syncing := by simp [hr]
  have hguard : (decide ((atT t s).mod.tup.role = .active) && (atT t s).plv.source) = true := by simp [hr, hs]
  exact congrArg Host.Outcome.next ((if_neg hno).trans (if_pos hguard))

theorem execResyncAttemptTimeout_of_due {t : Nat} {s : State} (hr : s.mod.tup.role = .syncing)
    (hs : s.plv.step ≠ 0) (hdue : s.plv.attemptStart + 120 * sec ≤ max s.gt t) :
    execResyncAttemptTimeout t s = .next (resyncFail false (atT t s)) := by
  have hguard : (decide ((atT t s).mod.tup.role = .syncing) && decide ((atT t s).plv.step ≠ 0)
      && decide ((atT t s).plv.attemptStart + 120 * sec ≤ (atT t s).gt)) = true := by
    simp [hr, hs, hdue]
  exact congrArg Host.Outcome.next (if_pos hguard)

theorem execPairNoQuorum_of_standby {t : Nat} {s : State} (ha : s.mod.arb = true) (hj : s.oxn.judged = true)
    (hdue : s.plv.arbTd + 500 * ms + nitNs s ≤ s.oxn.cn + tOcNs s) (hr : s.mod.tup.role = .standby) :
    execPairNoQuorum t s = .next (retireModule .self (occurU Code.pairNoQuorum pairSrc 4 { atT t s with
      mod := { s.mod with arb := false }
      plv := { s.plv with arbOutcome := 4, won := false, silenceDone := true } })) := by
  have hguard : ((atT t s).mod.arb && (atT t s).oxn.judged
      && decide ((atT t s).plv.arbTd + 500 * ms + nitNs (atT t s) ≤ (atT t s).oxn.cn + tOcNs (atT t s))) = true :=
    Bool.and_eq_true_iff.2 ⟨Bool.and_eq_true_iff.2 ⟨ha, hj⟩, decide_eq_true hdue⟩
  exact congrArg Host.Outcome.next ((if_pos hguard).trans (if_pos hr))

theorem held_of_since {o : Option Nat} {w d now : Nat} (ho : o = some w) (h : w + d ≤ now) : held o d now = true := by
  simp [held, ho, h]

/-! ### Handover and ports -/

theorem execHandoverRelease_of_ok {t : Nat} {s : State} (hh : s.plv.handoverAt.isSome = true)
    (hph : s.cyc.phase = .boundary) (ha : s.mod.arb = false) (hok : handoverOk (atT t s) = true)
    (hclear : keepsCycle s = true → clearOfBoundary (atT t s) = true) :
    execHandoverRelease t s = .next (releaseAll (atT t s)) := by
  have hin : ¬ ((atT t s).plv.handoverAt.isNone || decide ((atT t s).cyc.phase ≠ .boundary)) = true := by
    simp [Option.isNone_eq_false_iff.2 hh, hph]
  have hrefused : ¬ (!handoverOk (atT t s)) = true := by simp [hok]
  have hwaits : ¬ (keepsCycle (atT t s) && !clearOfBoundary (atT t s)) = true := by
    have hclear' : keepsCycle (atT t s) = true → clearOfBoundary (atT t s) = true := hclear
    simpa using hclear'
  exact congrArg Host.Outcome.next ((if_neg hin).trans ((if_neg (Bool.eq_false_iff.1 ha)).trans
    ((if_neg hrefused).trans (if_neg hwaits))))

theorem execPlvReadmitSecond_of_due {t port r : Nat} {s : State} (hr : (portOf s port).readmit = some r)
    (hl : (portOf s port).lanes ≠ 0) (hdue : r + sec ≤ max s.gt t) (hret : isRetired s (.plv port) = true) :
    execPlvReadmitSecond t port s = .next (bistDone (.plv port) true (readmitRecord (.plv port)
      (updPort port (fun x => { x with readmit := none }) (atT t s)))) := by
  have hguard : (portOf (atT t s) port).lanes ≠ 0 ∧ r + sec ≤ (atT t s).gt
      ∧ isRetired (atT t s) (.plv port) = true :=
    ⟨hl, hdue, hret⟩
  have hr' : (portOf (atT t s) port).readmit = some r := hr
  simp only [execPlvReadmitSecond, hr', if_pos hguard]

theorem execPlvPortTrained_of_on {t port lanes : Nat} {s : State} (hon : plvOn s = true) (hp : port < 3)
    (hl : lanes = 2 ∨ lanes = 4) (hr : port = 0 → s.mod.tup.role ≠ .retired) :
    execPlvPortTrained t port lanes s = .next (sendDelay port (updPort port (fun x => { x with
      lanes := lanes, readmit := x.readmit.map fun _ => max s.gt t }) (atT t s))) := by
  have hguard : (plvOn (atT t s) && decide (port < 3) && (decide (lanes = 2) || decide (lanes = 4))
      && !(decide (port = 0) && decide ((atT t s).mod.tup.role = .retired))) = true := by
    have hon' : plvOn (atT t s) = true := hon
    have hport : (decide (port = 0) && decide ((atT t s).mod.tup.role = .retired)) = false := by
      by_cases h0 : port = 0
      · rw [decide_eq_false (show ¬ (atT t s).mod.tup.role = .retired from hr h0), Bool.and_false]
      · rw [decide_eq_false h0, Bool.false_and]
    rw [hport, hon', decide_eq_true hp]
    simpa using hl
  exact congrArg Host.Outcome.next (if_pos hguard)

/-- Settles O22: each clause is its command's effect where the conditions of its rule hold. -/
theorem pairCommandsComplete : Obligations.PairCommandsComplete := by
  refine ⟨?linkUp, ?auth, ?hbSend, ?hb, ?silent, ?agree, ?sliceReq, ?sliceData, ?agreeDone, ?signature, ?forces,
    ?snap, ?digest, ?state, ?release, ?leaving, ?arb, ?tier, ?relayed, ?resync, ?image, ?target, ?source, ?stepLate,
    ?attempt, ?noQuorum, ?wait, ?handover, ?laneFail, ?discards, ?readmit, ?trained⟩
  case linkUp => exact fun _ _ => execP0LinkUp_of_on
  case auth => exact fun _ _ _ _ hport hpkt hup => congrArg Host.Outcome.next (onP0_of_auth _ hport hpkt hup)
  case hbSend => exact fun _ _ => execHeartbeatSend_of_due
  case hb => exact fun _ _ _ _ hp hd hok _ hw => execHeartbeat_of_good hp hd hok hw
  case silent => exact fun _ _ _ => execPartnerSilent_of_due
  case agree => exact fun _ _ _ _ hp => congrArg Host.Outcome.next (onP0_of_good _ hp rfl)
  case sliceReq => exact fun _ _ _ _ hp => congrArg Host.Outcome.next (onP0_of_good _ hp rfl)
  case sliceData => exact fun _ _ _ _ _ hp => congrArg Host.Outcome.next (onP0_of_good _ hp rfl)
  case agreeDone => exact fun _ _ _ _ hp => congrArg Host.Outcome.next (onP0_of_good _ hp rfl)
  case signature => exact fun _ _ _ _ _ hp => congrArg Host.Outcome.next (onP0_of_good _ hp rfl)
  case forces => exact fun _ _ _ _ _ _ => execForceTable_of_standby
  case snap => exact fun _ _ _ _ => execIleSnap_of_now
  case digest => exact fun _ _ _ _ => execIleDigest_of_differs
  case state => exact fun _ _ _ _ _ _ => execIleState_of_same
  case release => exact fun _ _ _ _ => execRelease_of_standby
  case leaving => exact fun _ _ _ => execLeaving_of_active
  case arb => exact fun _ _ _ _ _ => execArbStart_of_free
  case tier => exact fun _ _ _ _ _ => execTierAgree_of_standby
  case relayed => exact fun _ _ _ _ _ hp => congrArg Host.Outcome.next (onP0_of_good _ hp rfl)
  case resync => exact fun _ _ _ _ => execResync_of_syncing
  case image => exact fun _ _ _ _ _ _ _ => execImage_of_step2
  case target => exact fun _ _ hr => congrArg Host.Outcome.next (if_pos hr)
  case source => exact fun _ _ => execResyncStepDone_of_source
  case stepLate => exact fun _ _ hr hl => congrArg Host.Outcome.next ((if_pos hr).trans (if_pos hl))
  case attempt => exact fun _ _ => execResyncAttemptTimeout_of_due
  case noQuorum => exact fun _ _ => execPairNoQuorum_of_standby
  case wait => exact fun _ _ _ hw hdue => congrArg Host.Outcome.next (if_pos (held_of_since hw hdue))
  case handover => exact fun _ _ => execHandoverRelease_of_ok
  case laneFail => exact fun _ _ _ _ hl => congrArg Host.Outcome.next (if_neg hl)
  case discards => exact fun _ _ _ hd => congrArg Host.Outcome.next (if_pos hd)
  case readmit => exact fun _ _ _ _ => execPlvReadmitSecond_of_due
  case trained => exact fun _ _ _ _ => execPlvPortTrained_of_on

end Sys2Proof.Machine

/-! PROOFS. The commands of power, contacts and heat complete: each under the conditions of its rule. -/

namespace Sys2Proof.Machine

-- One proof at a time: proofs that wait for one another in parallel each hold a stack against the memory limit.
set_option Elab.async false

/-! ### Contacts -/

theorem execEjectorOpen_of_serving {t : Nat} {s : State} (hr : s.con.inReset = false) (hb : s.mod.tup.run ≠ .boot) :
    execEjectorOpen t s = .next (ejectAct { atT t s with mod := { s.mod with ejector := true } }) := by
  have hreset : ¬ (atT t s).con.inReset = true := by simp [hr]
  exact congrArg Host.Outcome.next ((if_neg hreset).trans (if_neg hb))

theorem execPresSenseOpen_of_charged {t : Nat} {s : State} (hr : s.con.inReset = false) (hc : s.hl.charged = true) :
    ∃ u, execPresSenseOpen t s = .next u ∧ u.hl.pfw = some (s.hl.pfw.getD (max s.gt t)) ∧
      (let v := pfRecords (bgHalt (retireModule .ejector { atT t s with
          con := { s.con with sense := false, powered := false } }))
       u = { v with hl := { v.hl with pfw := some (s.hl.pfw.getD (max s.gt t)) } }) := by
  have hreset : ¬ (atT t s).con.inReset = true := by simp [hr]
  have hcharged : (atT t s).hl.charged = true := hc
  unfold execPresSenseOpen
  dsimp only
  rw [if_neg hreset, if_pos hcharged]
  simp only [atT_con, atT_hl, atT_gt]
  generalize pfRecords _ = v
  exact ⟨_, rfl, rfl, rfl⟩

theorem execPresSenseClose_of_inReset {t : Nat} {s : State} (ho : s.con.sense = false) (hr : s.con.inReset = true) :
    execPresSenseClose t s = .next { atT t s with con := { s.con with sense := true, powered := true } } := by
  have hopen : ¬ (atT t s).con.sense = true := by simp [ho]
  have hreset : (atT t s).con.inReset = true := hr
  refine congrArg Host.Outcome.next ((if_neg hopen).trans ?_)
  rw [if_pos hreset]
  rfl

/-- The analog outputs settle without a change of the mode tuple. -/
theorem alSettleAll_tup (s : State) : (alSettleAll s).mod.tup = s.mod.tup :=
  (alSettleAll_only (L := [.rings, .analog, .out]) (List.Subset.refl _) onlyChanges_refl .tuple (by decide)).1

theorem execPairPresOpen_of_standby {t : Nat} {s : State} (hr : s.mod.tup.role = .standby) :
    execPairPresOpen t s = .next (failover (presDropArb false (alSettleAll { atT t s with
      mod := { s.mod with present := false } }))) := by
  have hsettled : (alSettleAll { atT t s with mod := { s.mod with present := false } }).mod.tup.role = .standby :=
    (congrArg ModeTuple.role (alSettleAll_tup _)).trans hr
  unfold execPairPresOpen
  dsimp only
  rw [hsettled]

/-! ### Power failure -/

theorem execPfw_of_charged {t : Nat} {s : State} (hr : s.con.inReset = false) (hp : s.hl.pfw = none)
    (hc : s.hl.charged = true) :
    execPfw t s = .next (pfRecords (bgHalt { atT t s with hl := { s.hl with pfw := some (max s.gt t) } })) := by
  have hfirst : ¬ ((atT t s).con.inReset || (atT t s).hl.pfw.isSome) = true := by simp [hr, hp]
  exact congrArg Host.Outcome.next ((if_neg hfirst).trans (if_pos hc))

theorem execHlFeedDip_of_recovered {t p : Nat} {s : State} (hp : s.hl.pfw = some p) (hon : s.con.powered = true)
    (hfrom : p + 5 * ms ≤ max s.gt t) (hto : max s.gt t < p + 12 * ms) :
    execHlFeedDip t s = .next (occur Code.hlFeedDip Src.heat 0 { atT t s with
      hl := { s.hl with pfw := none, dips := satInc 0xFF s.hl.dips }
      evr := { s.evr with pf := false } }) := by
  have hp' : (atT t s).hl.pfw = some p := hp
  have hguard : ((atT t s).con.powered && decide (p + 5 * ms ≤ (atT t s).gt ∧ (atT t s).gt < p + 12 * ms)) = true :=
    Bool.and_eq_true_iff.2 ⟨hon, decide_eq_true ⟨hfrom, hto⟩⟩
  simp only [execHlFeedDip, hp', if_pos hguard]
  rfl

theorem execPfwStop_of_due {t p : Nat} {s : State} (hp : s.hl.pfw = some p) (hdue : p + 12 * ms ≤ max s.gt t) :
    execPfwStop t s = .next (powerStop (atT t s)) := by
  have hp' : (atT t s).hl.pfw = some p := hp
  have hdue' : p + 12 * ms ≤ (atT t s).gt := hdue
  simp only [execPfwStop, hp', if_pos hdue']

/-! ### Management frames -/

theorem execMgtAllow_of_valid {t : Nat} {frame p : List Byte} {s : State}
    (hp : mgtPayload s 0x11 2 frame = some p) :
    execMgtAllow t frame s = .next (setAllow (min 600 (max 150 (ofLe p))) { atT t s with hl := { s.hl with
      msgs := satInc 0xFFFF s.hl.msgs, lastMsg := max s.gt t, stale := false, allowLow := ofLe p < 150 } }) := by
  have hp' : mgtPayload (atT t s) 0x11 2 frame = some p := hp
  simp only [execMgtAllow, hp']
  rfl

theorem execMgtIdentity_of_first {t : Nat} {frame p : List Byte} {s : State}
    (hp : mgtPayload s 0x10 16 frame = some p) (hi : s.con.identity = false) (hx : s.clk.xbSettle = none) :
    execMgtIdentity t frame s = .next { atT t s with
      con := { s.con with identity := true }
      clk := { s.clk with
        xbSettle := some (if 1 ≤ field p 8 2 ∧ field p 8 2 ≤ 5000 then field p 8 2 else 1000)
        xb := { s.clk.xb with st := 1, since := max s.gt t } } } := by
  have hp' : mgtPayload (atT t s) 0x10 16 frame = some p := hp
  have hfirst : ¬ ((atT t s).con.identity || (atT t s).clk.xbSettle.isSome) = true := by simp [hi, hx]
  simp only [execMgtIdentity, hp', if_neg hfirst]
  rfl

theorem execIdentityTimeout_of_due {t : Nat} {s : State} (hi : s.con.identity = false) (hx : s.clk.xbSettle = none)
    (hdue : s.con.porAt + 2 * sec ≤ max s.gt t) :
    execIdentityTimeout t s = .next { atT t s with clk := { s.clk with
      xbSettle := some 1000, xb := { s.clk.xb with st := 1, since := max s.gt t } } } := by
  have hguard : (!(atT t s).con.identity && (atT t s).clk.xbSettle = none
      && decide ((atT t s).con.porAt + 2 * sec ≤ (atT t s).gt)) = true := by simp [hi, hx, hdue]
  exact congrArg Host.Outcome.next (if_pos hguard)

/-! ### Measurements -/

theorem execPowerSample_window (t mw : Nat) (s : State) : ∃ u, execPowerSample t mw s = .next u ∧
    (let w := s.hl.samples.filter fun p => decide (max s.gt t ≤ p.1 + sec)
     u.hl.samples = w ++ [(max s.gt t, mw)] ∧
     u.hl.pIn = (if w.isEmpty then s.hl.pIn else (w.map (·.2)).sum / w.length / 100) ∧
     u.hl.pPeak = max s.hl.pPeak u.hl.pIn) :=
  ⟨_, rfl, rfl, rfl, rfl⟩

theorem execDieTempRead_marks (t : Nat) (x : Int) (temps : List Int) (s : State) :
    ∃ u, execDieTempRead t (x :: temps) s = .next u ∧
    u.hl.tDie = (hottestOf ((x :: temps).take 12)).1 ∧ u.hl.hottest = (hottestOf ((x :: temps).take 12)).2 ∧
    u.hl.over105 = mark (decide (105 ≤ u.hl.tDie)) s.hl.over105 (max s.gt t) ∧
    u.hl.over120 = mark (decide (120 ≤ u.hl.tDie)) s.hl.over120 (max s.gt t) ∧
    u.hl.under95 = mark (decide (u.hl.tDie ≤ 95)) s.hl.under95 (max s.gt t) :=
  ⟨_, rfl, rfl, rfl, rfl, rfl, rfl⟩

theorem execInletRead_of_seen {t : Nat} {x m : Int} {s : State} (hm : s.hl.inletMax = some m) :
    execInletRead t x s = .next { atT t s with hl := { s.hl with inlet := x, inletMax := some (max m x) } } := by
  have hm' : (atT t s).hl.inletMax = some m := hm
  simp only [execInletRead, hm']
  rfl

/-! ### Heat tiers -/

theorem execTierRule2_of_due {t o : Nat} {s : State} (ho : s.hl.overPower = some o) (hdue : o + sec ≤ max s.gt t)
    (hbg : s.hl.bgRun = []) (hover : s.hl.allow < s.hl.pIn) :
    execTierRule2 t s = .next (tierName (wantTier 2 (min 3 (s.hl.want + 1))
      { atT t s with hl := { s.hl with overPower := some (max s.gt t) } })) := by
  have hguard : (held (atT t s).hl.overPower sec (atT t s).gt && (atT t s).hl.bgRun.isEmpty
      && decide ((atT t s).hl.allow < (atT t s).hl.pIn)) = true :=
    Bool.and_eq_true_iff.2
      ⟨Bool.and_eq_true_iff.2 ⟨held_of_since ho hdue, List.isEmpty_iff.2 hbg⟩, decide_eq_true hover⟩
  exact congrArg Host.Outcome.next (if_pos hguard)

theorem execTierRule3_of_first {t o : Nat} {s : State} (ho : s.hl.over105 = some o) (hdue : o + sec ≤ max s.gt t)
    (h3 : s.hl.last3 = none) (hw : s.hl.want < 3) :
    execTierRule3 t s = .next (tierName (wantTier 3 (s.hl.want + 1) { atT t s with hl := { s.hl with
      last3 := some (max s.gt t), hotSteps := satInc 0xFF s.hl.hotSteps } })) := by
  have hguard : (held (atT t s).hl.over105 sec (atT t s).gt
      && ((atT t s).hl.last3 = none || held (atT t s).hl.last3 (5 * sec) (atT t s).gt)) = true :=
    Bool.and_eq_true_iff.2 ⟨held_of_since ho hdue, by simp [h3]⟩
  exact congrArg Host.Outcome.next ((if_pos hguard).trans (if_pos hw))

theorem execHlOvertemp_of_serving {t o : Nat} {s : State} (ho : s.hl.over120 = some o) (hdue : o + sec ≤ max s.gt t)
    (hr : s.mod.tup.role ≠ .retired) :
    execHlOvertemp t s = .next (retireModule .fault (occur Code.hlOvertemp Src.heat 0 (atT t s))) := by
  have hguard : (held (atT t s).hl.over120 sec (atT t s).gt && (atT t s).mod.tup.role ≠ .retired) = true :=
    Bool.and_eq_true_iff.2 ⟨held_of_since ho hdue, decide_eq_true hr⟩
  exact congrArg Host.Outcome.next (if_pos hguard)

/-! ### Background work -/

theorem execHlDefer_of_first {t kind w : Nat} {s : State} (hw : Tab.find? s.hl.bgWait kind = some w)
    (hdue : w + 60 * sec ≤ max s.gt t) (hd : Tab.find? s.hl.bgDefer kind = none) :
    execHlDefer t kind s = .next (occur Code.hlDefer Src.heat 0 { atT t s with hl := { s.hl with
      bgDefer := Tab.set s.hl.bgDefer kind (max s.gt t) } }) := by
  have hguard : (held (Tab.find? (atT t s).hl.bgWait kind) (60 * sec) (atT t s).gt
      && (Tab.find? (atT t s).hl.bgDefer kind = none
        || held (Tab.find? (atT t s).hl.bgDefer kind) (3600 * sec) (atT t s).gt)) = true :=
    Bool.and_eq_true_iff.2 ⟨held_of_since hw hdue, by simp [hd]⟩
  exact congrArg Host.Outcome.next (if_pos hguard)

theorem execBackgroundAdmit_of_ok {t kind : Nat} {s : State} (hok : bgAdmitOk kind (atT t s) = true)
    (hrun : kind ∉ s.hl.bgRun) (hk : kind ≠ 4) :
    execBackgroundAdmit t kind s =
      .next (bgUnwant kind { atT t s with hl := { s.hl with bgRun := s.hl.bgRun ++ [kind] } }) := by
  have hguard : ¬ (!bgAdmitOk kind (atT t s) || decide (kind ∈ (atT t s).hl.bgRun)) = true := by simp [hok, hrun]
  exact congrArg Host.Outcome.next ((if_neg hguard).trans (if_pos hk))

/-- Without a staging in progress and without hashing the kind has no work left. -/
theorem execBackgroundUnitDone_of_last {t : Nat} {s : State} (hrun : 2 ∈ s.hl.bgRun) (hh : s.fwu.hashing = false)
    (hj : s.chg.job = none) :
    execBackgroundUnitDone t 2 [] s =
      .next { atT t s with hl := { s.hl with bgRun := s.hl.bgRun.filter (· ≠ 2) } } := by
  have hguard : ¬ (2 ∉ (atT t s).hl.bgRun ∨ 2 = 4) := by simp [hrun]
  have hidle : ¬ (atT t s).fwu.hashing = true := by simp [hh]
  have hj' : (atT t s).chg.job = none := hj
  unfold execBackgroundUnitDone
  dsimp only
  rw [if_neg hguard, if_neg hidle]
  simp only [stageUnit, hj']
  rfl

/-- Settles O24: each clause is its command's effect where the conditions of its rule hold. -/
theorem powerAndHeatCommandsComplete : Obligations.PowerAndHeatCommandsComplete := by
  refine ⟨?ejector, ?senseOpen, ?senseClose, ?presOpen, ?presClose, ?feedLow, ?feedOk, ?pfw, ?dip, ?stop, ?allow,
    ?stale, ?sample, ?die, ?inlet, ?rule2, ?rule3, ?rule5, ?hot, ?overtemp, ?defer, ?rail, ?charged, ?admission,
    ?unitDone, ?identity, ?noIdentity⟩
  case ejector => exact fun _ _ => execEjectorOpen_of_serving
  case senseOpen => exact fun _ _ => execPresSenseOpen_of_charged
  case senseClose => exact fun _ _ => execPresSenseClose_of_inReset
  case presOpen => exact fun t _ => execPairPresOpen_of_standby (t := t)
  case presClose => exact fun _ _ => rfl
  case feedLow => exact fun _ _ _ _ hlow => congrArg Host.Outcome.next (if_pos hlow)
  case feedOk => exact fun _ _ _ _ hok => congrArg Host.Outcome.next (if_pos hok)
  case pfw => exact fun _ _ => execPfw_of_charged
  case dip => exact fun _ _ _ => execHlFeedDip_of_recovered
  case stop => exact fun _ _ _ => execPfwStop_of_due
  case allow => exact fun _ _ _ _ => execMgtAllow_of_valid
  case stale => exact fun _ _ hdue => congrArg Host.Outcome.next (if_pos hdue)
  case sample => exact execPowerSample_window
  case die => exact execDieTempRead_marks
  case inlet => exact fun _ _ _ _ => execInletRead_of_seen
  case rule2 => exact fun _ _ _ => execTierRule2_of_due
  case rule3 => exact fun _ _ _ => execTierRule3_of_first
  case rule5 => exact fun _ _ hok => congrArg Host.Outcome.next (if_pos hok)
  case hot => exact fun _ _ _ ho hdue => congrArg Host.Outcome.next (if_pos (held_of_since ho hdue))
  case overtemp => exact fun _ _ _ => execHlOvertemp_of_serving
  case defer => exact fun _ _ _ _ => execHlDefer_of_first
  case rail => exact fun _ _ _ hnew => congrArg Host.Outcome.next (if_neg hnew)
  case charged => exact fun _ _ hon => congrArg Host.Outcome.next (if_pos hon)
  case admission => exact fun _ _ _ => execBackgroundAdmit_of_ok
  case unitDone => exact fun _ _ => execBackgroundUnitDone_of_last
  case identity => exact fun _ _ _ _ => execMgtIdentity_of_first
  case noIdentity => exact fun _ _ => execIdentityTimeout_of_due

end Sys2Proof.Machine

/-! PROOFS. The program cycle's watchdog and the cells' comparison: what a second expiry of SCAN_WDT leaves (R79, R53), and
when a mismatch rolls the cycle back or retires the cell (R74, R75, R408). -/

namespace Sys2Proof.Machine

-- One proof at a time: proofs that wait for one another in parallel each hold a stack against the memory limit.
set_option Elab.async false

/-! ### What a change within some parts leaves alone -/

theorem mod_of_only {L : List Part} {a b : State} (h : onlyChanges L a b) (ht : Part.tuple ∉ L)
    (hr : Part.refusal ∉ L) (hm : Part.modRest ∉ L) : b.mod = a.mod := by
  have htuple := h .tuple ht
  have hrefusal := h .refusal hr
  have hrest := h .modRest hm
  cases hb : b.mod
  cases ha : a.mod
  simp_all [Part.same]

theorem isRetired_of_only {L : List Part} {a b : State} (h : onlyChanges L a b) (hL : Part.faultStore ∉ L)
    (u : UnitId) : isRetired b u = isRetired a u := by
  obtain ⟨-, hretired, -⟩ := h .faultStore hL
  rw [isRetired, hretired, isRetired]

theorem bucket_of_only {L : List Part} {a b : State} (h : onlyChanges L a b) (hL : Part.faultStore ∉ L)
    (u : UnitId) : bucket b u = bucket a u := by
  obtain ⟨hbuckets, -⟩ := h .faultStore hL
  rw [bucket, hbuckets, bucket]

/-! ### What an occurrence leaves to the program cycle -/

theorem occur_recording (code src : Nat) (val : Int) (s : State) : onlyChanges recording s (occur code src val s) :=
  occur_only partsWithin onlyChanges_refl

@[simp] theorem occur_cyc (code src : Nat) (val : Int) (s : State) : (occur code src val s).cyc = s.cyc :=
  occur_recording code src val s .cycle (by decide)

@[simp] theorem occur_gt (code src : Nat) (val : Int) (s : State) : (occur code src val s).gt = s.gt :=
  (occur_recording code src val s .time (by decide)).1

@[simp] theorem occur_mod (code src : Nat) (val : Int) (s : State) : (occur code src val s).mod = s.mod :=
  mod_of_only (occur_recording code src val s) (by decide) (by decide) (by decide)

@[simp] theorem occur_isRetired (code src : Nat) (val : Int) (s : State) (u : UnitId) :
    isRetired (occur code src val s) u = isRetired s u :=
  isRetired_of_only (occur_recording code src val s) (by decide) u

@[simp] theorem occur_bucket (code src : Nat) (val : Int) (s : State) (u : UnitId) :
    bucket (occur code src val s) u = bucket s u :=
  bucket_of_only (occur_recording code src val s) (by decide) u

/-! ### The watchdog (R79) -/

/-- What every expiry of SCAN_WDT notes: its count, the retry's start, and an L3 fault. -/
def wdtNoted (s : State) : State :=
  noteFault Src.sv 3 (occur Code.scanWdt Src.sv 0 { s with
    cyc := { s.cyc with wdtExpiries := satInc 0xFFFFFFFF s.cyc.wdtExpiries, attempt := s.gt, retried := true }
    flt := { s.flt with l3 := satInc 0xFFFF s.flt.l3 } })

theorem wdtNoted_cyc (s : State) : (wdtNoted s).cyc =
    { s.cyc with wdtExpiries := satInc 0xFFFFFFFF s.cyc.wdtExpiries, attempt := s.gt, retried := true } :=
  occur_cyc _ _ _ _

theorem wdtNoted_mod (s : State) : (wdtNoted s).mod = s.mod := occur_mod _ _ _ _

/-- A condition that decides only whether the changed granules are dropped. -/
theorem exists_lag_of_ite (p : Prop) [Decidable p] (c : CycS) :
    ∃ l, (if p then { c with lag := [] } else c) = { c with lag := l } := by
  split
  next => exact ⟨[], rfl⟩
  next => exact ⟨c.lag, rfl⟩

/-- Housekeeping takes the changed granules into the journal, or leaves them (R25). -/
theorem journalAppend_cyc (s : State) : ∃ l, (journalAppend s).cyc = { s.cyc with lag := l } := by
  simp only [journalAppend, apply_ite State.cyc, occur_cyc, ite_self]
  split
  next => exact ⟨s.cyc.lag, rfl⟩
  next => exact exists_lag_of_ite _ s.cyc

theorem toHouse_cyc (s : State) : ∃ l, (toHouse s).cyc = { s.cyc with phase := .house, lag := l } :=
  journalAppend_cyc { s with cyc := { s.cyc with phase := .house } }

/-- A cycle that ends without a publication goes to housekeeping, and a driving module is to take HOLD (R53). -/
theorem wdtHold_cyc (s : State) :
    ∃ l, (wdtHold s).cyc = { s.cyc with phase := .house, holdNext := driving s, lag := l } := by
  obtain ⟨l, hl⟩ := toHouse_cyc { s with cyc := { s.cyc with holdNext := driving s } }
  exact ⟨l, (relay_only (L := [.pair, .out]) partsWithin onlyChanges_refl .cycle (by decide)).trans hl⟩

theorem wdtHold_mod (s : State) : (wdtHold s).mod = s.mod :=
  mod_of_only (wdtHold_only (L := recording ++ [.faults, .cycle, .stores, .pair, .out]) partsWithin onlyChanges_refl)
    (by decide) (by decide) (by decide)

theorem driving_congr {a b : State} (h : a.mod = b.mod) : driving a = driving b := by
  rw [driving, h, driving]

theorem execScanWdt_of_expired {t : Nat} {s : State} (he : s.cyc.executing = true)
    (hp : s.cyc.phase = .execute ∨ s.cyc.phase = .agree) (hw : s.cyc.attempt + s.cyc.par.scanWdt ≤ max s.gt t) :
    execScanWdt t s =
      .next (if s.cyc.retried then wdtHold (wdtNoted (atT t s)) else wdtNoted (atT t s)) := by
  have hguard : (s.cyc.executing && (decide (s.cyc.phase = .execute) || decide (s.cyc.phase = .agree))
      && decide (s.cyc.attempt + s.cyc.par.scanWdt ≤ max s.gt t)) = true := by
    simp [he, hp, hw]
  exact congrArg Host.Outcome.next (if_pos hguard)

/-- Settles O39: after the second expiry is noted, the cycle goes to housekeeping and only its journal entries differ. -/
theorem secondWatchdogExpiryHolds : Obligations.SecondWatchdogExpiryHolds := by
  intro t s he hp hw hr
  obtain ⟨l, hcyc⟩ := wdtHold_cyc (wdtNoted (atT t s))
  have hdriving : driving (wdtNoted (atT t s)) = driving s := driving_congr (wdtNoted_mod _)
  rw [wdtNoted_cyc, hdriving] at hcyc
  refine ⟨_, (execScanWdt_of_expired he hp hw).trans (congrArg Host.Outcome.next (if_pos hr)), ?_⟩
  rw [hcyc]
  exact ⟨rfl, rfl, rfl, rfl, rfl, rfl, (wdtHold_mod _).trans (wdtNoted_mod _)⟩

/-! ### Buckets and retirement records (R408, R412) -/

theorem find_bucketSet (u : UnitId) (v : Nat) (l : List (UnitId × Nat)) :
    (bucketSet u v l).find? (·.1 = u) = if v = 0 then none else some (u, v) := by
  have hnone : (l.filter (·.1 ≠ u)).find? (·.1 = u) = none := by simp
  unfold bucketSet
  dsimp only
  split
  · exact hnone
  · rw [List.find?_append, hnone]
    simp

theorem bucketAdd_bucket {u : UnitId} {s : State} (amt : Nat) (h : isRetired s u = false) :
    bucket (bucketAdd u amt s) u = min 63 (bucket s u + amt) := by
  rw [bucketAdd, if_neg (Bool.eq_false_iff.1 h), bucket, find_bucketSet]
  split_ifs with hzero
  · exact hzero.symm
  · rfl

theorem bucketAdd_isRetired (u v : UnitId) (amt : Nat) (s : State) : isRetired (bucketAdd u amt s) v = isRetired s v := by
  unfold bucketAdd
  dsimp only
  split <;> rfl

theorem bucketAdd_within (u : UnitId) (amt : Nat) (s : State) :
    onlyChanges [.faultStore, .faults] s (bucketAdd u amt s) :=
  bucketAdd_only partsWithin onlyChanges_refl

theorem retireRecord_isRetired (u : UnitId) (code : Nat) (s : State) : isRetired (retireRecord u code s) u = true := by
  unfold retireRecord
  split
  next h => exact h
  next => exact (occur_isRetired _ _ _ _ _).trans (by simp [isRetired])

theorem retireRecord_bucket (u v : UnitId) (code : Nat) (s : State) : bucket (retireRecord u code s) v = bucket s v := by
  unfold retireRecord
  split
  · rfl
  · exact occur_bucket _ _ _ _ _

/-! ### A mismatch of a cell (R74, R75) -/

/-- The parts that the retirement of a cell may change once its record stands. -/
def cellOut : List Part :=
  allBut [.time, .keys, .nonces, .faultStore, .images, .boots, .refusal, .vectors, .hxpRest, .selfTest, .contacts,
    .times, .memory, .free, .queue]

/-- After its record stands, what a cell's retirement does leaves records and buckets alone, with the last cell too. -/
theorem retireCell_only_after_record {c code : Nat} {s : State} (h : isRetired s (.cell c) = false) :
    onlyChanges cellOut (retireRecord (.cell c) code s) (retireCell c code s) := by
  have hout : onlyChanges cellOut (retireRecord (.cell c) code s) (gateClose c (hlFlags (occur Code.cellRetired
      (Src.cell c) 0 (retireRecord (.cell c) code s)))) :=
    gateClose_only partsWithin (hlFlags_only partsWithin (occur_only partsWithin onlyChanges_refl))
  rw [retireCell, if_neg (Bool.eq_false_iff.1 h)]
  exact ite_only (fun _ => retireModule_only partsWithin (cyc_only (by decide) hout)) fun _ =>
    cyc_only (by decide) hout

theorem retireCell_isRetired {c code : Nat} {s : State} (h : isRetired s (.cell c) = false) :
    isRetired (retireCell c code s) (.cell c) = true :=
  (isRetired_of_only (retireCell_only_after_record h) (by decide) _).trans (retireRecord_isRetired _ _ _)

theorem retireCell_bucket {c code : Nat} {s : State} (h : isRetired s (.cell c) = false) :
    bucket (retireCell c code s) (.cell c) = bucket s (.cell c) :=
  (bucket_of_only (retireCell_only_after_record h) (by decide) _).trans (retireRecord_bucket _ _ _ _)

/-- The instant from which a cell that mismatches now has failed: a window compared equal starts it again (R408). -/
def failingSince (t c : Nat) (equal : Bool) (s : State) : Nat :=
  if equal then max s.gt t else Tab.getD s.cyc.cellFails c (max s.gt t)

/-- The state in which a mismatching cell is judged: phase 3 starts again, and the mismatch stands in its bucket. -/
def rolledBack (c since : Nat) (s : State) : State :=
  rollback c (bucketAdd (.cell c) 8 { s with cyc := { s.cyc with cellFails := Tab.set s.cyc.cellFails c since } })

theorem rolledBack_cyc (c since : Nat) (s : State) : (rolledBack c since s).cyc = { s.cyc with
    rollbacks := satInc 0xFFFFFFFF s.cyc.rollbacks, cellFails := Tab.set s.cyc.cellFails c since } := by
  rw [rolledBack, rollback, occur_cyc]
  dsimp only
  rw [bucketAdd_within _ _ _ .cycle (by decide)]

theorem rolledBack_gt (c since : Nat) (s : State) : (rolledBack c since s).gt = s.gt :=
  (occur_gt _ _ _ _).trans (bucketAdd_within (.cell c) 8
    { s with cyc := { s.cyc with cellFails := Tab.set s.cyc.cellFails c since } } .time (by decide)).1

theorem rolledBack_isRetired (c since : Nat) (s : State) (u : UnitId) :
    isRetired (rolledBack c since s) u = isRetired s u :=
  (occur_isRetired _ _ _ _ _).trans (bucketAdd_isRetired _ _ _ _)

theorem rolledBack_bucket {c : Nat} {s : State} (since : Nat) (h : isRetired s (.cell c) = false) :
    bucket (rolledBack c since s) (.cell c) = min 63 (bucket s (.cell c) + 8) :=
  (occur_bucket _ _ _ _ _).trans (bucketAdd_bucket (s := { s with cyc := _ }) 8 h)

/-- LOCKSTEP_MISMATCH in phase 3: the cell is judged after the rollback, by its bucket and by how long it has failed. -/
theorem execLockstepMismatch_of_serving {t c : Nat} {equal : Bool} {s : State} (hp : s.cyc.phase = .execute)
    (hc : c < 4) (hr : isRetired s (.cell c) = false) :
    execLockstepMismatch t ⟨c, equal⟩ s =
      .next (if (rolledBack c (failingSince t c equal s) (atT t s)).cyc.par.retAtCell ≤
          bucket (rolledBack c (failingSince t c equal s) (atT t s)) (.cell c) ∨
          failingSince t c equal s + sec ≤ (rolledBack c (failingSince t c equal s) (atT t s)).gt
        then retireCell c 0 (rolledBack c (failingSince t c equal s) (atT t s))
        else rolledBack c (failingSince t c equal s) (atT t s)) := by
  have hguard : (decide (s.cyc.phase = .execute) && decide (c < 4) && !isRetired s (.cell c)) = true := by
    simp [hp, hc, hr]
  exact congrArg Host.Outcome.next (if_pos hguard)

/-- The judgement in terms of the state before: RET_AT_CELL against the raised level, 1 s against now (R75, R408). -/
theorem execLockstepMismatch_judged {t c : Nat} {equal : Bool} {s : State} (hp : s.cyc.phase = .execute)
    (hc : c < 4) (hr : isRetired s (.cell c) = false) :
    execLockstepMismatch t ⟨c, equal⟩ s =
      .next (if s.cyc.par.retAtCell ≤ min 63 (bucket s (.cell c) + 8) ∨ failingSince t c equal s + sec ≤ max s.gt t
        then retireCell c 0 (rolledBack c (failingSince t c equal s) (atT t s))
        else rolledBack c (failingSince t c equal s) (atT t s)) := by
  have hr' : isRetired (atT t s) (.cell c) = false := hr
  rw [execLockstepMismatch_of_serving hp hc hr, rolledBack_cyc, rolledBack_bucket _ hr', rolledBack_gt]
  rfl

/-- Settles O40: the judged state keeps the cycle's inputs; the judgement follows the level and the age of the failure. -/
theorem mismatchRollsBackOrRetires : Obligations.MismatchRollsBackOrRetires := by
  refine ⟨?rollsBack, ?retires⟩
  case rollsBack =>
    intro t c equal s hp hc hr hlevel hyoung
    have hr' : isRetired (atT t s) (.cell c) = false := hr
    have hrecent : max s.gt t < failingSince t c equal s + sec := by
      unfold failingSince
      split
      next => exact Nat.lt_add_of_pos_right (by decide)
      next hdiffers => exact hyoung.resolve_left hdiffers
    have hstays : ¬ (s.cyc.par.retAtCell ≤ min 63 (bucket s (.cell c) + 8) ∨
        failingSince t c equal s + sec ≤ max s.gt t) := by
      omega
    exact ⟨_, (execLockstepMismatch_judged hp hc hr).trans (congrArg Host.Outcome.next (if_neg hstays)),
      rolledBack_cyc _ _ _, rolledBack_bucket _ hr', (rolledBack_isRetired _ _ _ _).trans hr⟩
  case retires =>
    intro t c equal s hp hc hr hlevel
    have hr' : isRetired (atT t s) (.cell c) = false := hr
    have hserving : isRetired (rolledBack c (failingSince t c equal s) (atT t s)) (.cell c) = false :=
      (rolledBack_isRetired _ _ _ _).trans hr
    exact ⟨_, (execLockstepMismatch_judged hp hc hr).trans (congrArg Host.Outcome.next (if_pos (.inl hlevel))),
      retireCell_isRetired hserving, (retireCell_bucket hserving).trans (rolledBack_bucket _ hr')⟩

end Sys2Proof.Machine

/-! PROOFS. The host's read commands complete: each is fetched, passes its checks without a grant, and answers from the
state in which it is served (Tables 13.4, 13.5 and 13.12). -/

namespace Sys2Proof.Machine

-- One proof at a time: proofs that wait for one another in parallel each hold a stack against the memory limit.
set_option Elab.async false

/-! ### How a read reaches its effect (R333, R339) -/

section
variable {c : Call} {t on op : Nat} {ok bufOk : Bool} {s : State}

theorem serve_of_fetchable (f : Call → State → State) (hf : fetchable s c.ring = true) :
    serve c f (atT t s) = f (stamped c t s) (taken c t s) := if_pos hf

theorem serve_of_accepts (f : Call → State → State) (ha : accepts c on s = true) :
    serve c f (atT t s) = f (stamped c t s) (taken c t s) := serve_of_fetchable f (accepts_iff.1 ha).1

theorem reading_of_accepts (f : State → State) (ha : accepts c on s = true) (hg : noGrant c = true)
    (hbuf : bufOk = true) : reading (stamped c t s) op on bufOk f (taken c t s) = f (taken c t s) :=
  opening_of_accepts f ha hg hbuf

/-- A read with ARGS in range. -/
theorem rangedReading_of_accepts (f : State → State) (hok : ok = true) (ha : accepts c on s = true)
    (hg : noGrant c = true) (hbuf : bufOk = true) :
    ranged ok (stamped c t s) op (reading (stamped c t s) op on bufOk f) (taken c t s) = f (taken c t s) :=
  (ranged_of_ok _ hok).trans (reading_of_accepts f ha hg hbuf)

theorem stamped_bufAtLeast {n : Nat} (h : n ≤ c.bufLen) : bufAtLeast n (stamped c t s) = true := decide_eq_true h

end

/-! ### Reads with ARGS -/

/-- Only paths, elements and permissives have objects. -/
theorem kind_of_ileObjects {kind n : Nat} {s : State} (h : 0 < n) (hn : n ≤ ileObjects s kind) :
    2 ≤ kind ∧ kind ≤ 4 := by
  unfold ileObjects at hn
  split at hn <;> omega

section
variable {c : Call} {t : Nat} {s : State} (ha : accepts c accDSYX s = true) (hg : noGrant c = true)
include ha hg

theorem execPointRead_of_image {image first count : Nat} (himage : image ≤ 1) (hpos : 0 < count)
    (hmax : count ≤ 65536) (hend : first + count ≤ 262144) (hbuf : 16 * count ≤ c.bufLen) :
    execPointRead t c image first count s = .next (if image = 0
      then doneBuf (stamped c t s) 0x01 (imageBytes s.cyc.img first count) (inCycle s) (taken c t s)
      else doneBuf (stamped c t s) 0x01 (imageBytes s.cyc.outImg first count) (outCycle s) (taken c t s)) :=
  congrArg Host.Outcome.next ((serve_of_accepts _ ha).trans (rangedReading_of_accepts _
    (decide_eq_true ⟨himage, hpos, hmax, hend⟩) ha hg (stamped_bufAtLeast hbuf)))

theorem execRecRead_of_store {first last store from_ to_ : Nat} {bad : List Nat} (hbuf : 128 ≤ c.bufLen)
    (hstore : store ≤ 3) : execRecRead t c first last store from_ to_ bad s =
      .next (recReadEff (stamped c t s) first last store from_ to_ bad (taken c t s)) :=
  congrArg Host.Outcome.next ((serve_of_accepts _ ha).trans (rangedReading_of_accepts _ (decide_eq_true hstore) ha hg
    (stamped_bufAtLeast hbuf)))

theorem execIleRead_of_objects {kind first count : Nat} (hpos : 0 < count) (hmax : count ≤ 32768)
    (hend : first + count ≤ ileObjects s kind) (hbuf : 8 * count ≤ c.bufLen) :
    execIleRead t c kind first count s = .next (doneBuf (stamped c t s) 0x51
      ((List.range count).map fun i => le 8 (ileObject s kind (first + i)).toNat).flatten s.ile.upN (taken c t s)) := by
  obtain ⟨hlow, hhigh⟩ := kind_of_ileObjects (Nat.add_pos_right first hpos) hend
  exact congrArg Host.Outcome.next ((serve_of_accepts _ ha).trans (rangedReading_of_accepts _
    (decide_eq_true ⟨hlow, hhigh, hpos, hmax, hend⟩) ha hg (stamped_bufAtLeast hbuf)))

theorem execCycleStatus_of_options {options : Nat} (hopt : options ≤ 1) (hbuf : 64 ≤ c.bufLen) :
    execCycleStatus t c options s = .next (doneBuf (stamped c t s) 0x60 (cycleBytes s.cyc.rec91) (s.cyc.rec91.getD 0 0)
      (if options = 1 then { taken c t s with cyc := { s.cyc with cycleMax := 0 } } else taken c t s)) :=
  congrArg Host.Outcome.next ((serve_of_accepts _ ha).trans (rangedReading_of_accepts _ (decide_eq_true hopt) ha hg
    (stamped_bufAtLeast hbuf)))

/-! ### The legacy set (R353) -/

theorem execLRead_of_window {window first count : Nat} (hl : legacyOn s = true) (hwin : window ≤ 3)
    (hfirst : first ≤ 65535) (hpos : 0 < count) (hmax : count ≤ 4096)
    (hend : window * 65536 + first + count ≤ 262144) (hbuf : 8 * count ≤ c.bufLen) :
    execLRead t c window first count s = .next (doneBuf (stamped c t s) 0x80
      ((List.range count).map fun i => legacyBytes (inEntry s (window * 65536 + first + i))).flatten
      (inCycle s % 2 ^ 32) (taken c t s)) := by
  have hon : ¬ (!legacyOn s) = true := by simp [hl]
  exact congrArg Host.Outcome.next ((serve_of_accepts _ ha).trans ((if_neg hon).trans (rangedReading_of_accepts _
    (decide_eq_true ⟨hwin, hfirst, hpos, hmax, hend⟩) ha hg (stamped_bufAtLeast hbuf))))

theorem execLStatus_of_on (hl : legacyOn s = true) (hbuf : 16 ≤ c.bufLen) :
    execLStatus t c s = .next (doneBuf (stamped c t s) 0x81 (rowBytes [(4, s.cyc.rec91.getD 0 0),
      (4, tupleWord s.mod.tup), (4, s.cyc.rec91.getD 2 0), (2, s.cyc.forces.length), (2, 0)]) 0 (taken c t s)) := by
  have hon : ¬ (!legacyOn s) = true := by simp [hl]
  exact congrArg Host.Outcome.next ((serve_of_accepts _ ha).trans ((if_neg hon).trans
    (reading_of_accepts _ ha hg (stamped_bufAtLeast hbuf))))

end

theorem execLegacyWrite_of_opcode {t opcode : Nat} {c : Call} {s : State} (hf : fetchable s c.ring = true)
    (hlow : 0x88 ≤ opcode) (hhigh : opcode ≤ 0x8F) : execLegacyWrite t c opcode s =
      .next (complete (stamped c t s) opcode .legacyWrite none 0 0 (taken c t s)) :=
  congrArg Host.Outcome.next ((if_pos ⟨hlow, hhigh⟩).trans (serve_of_fetchable _ hf))

theorem execBadOpcode_of_unknown {t opcode : Nat} {c : Call} {s : State} (hf : fetchable s c.ring = true)
    (hk : knownOpcode s opcode = false) : execBadOpcode t c opcode s =
      .next (complete (stamped c t s) opcode .badOpcode none 0 0 (taken c t s)) :=
  congrArg Host.Outcome.next ((if_neg (Bool.eq_false_iff.1 hk)).trans (serve_of_fetchable _ hf))

/-- Settles O15: each read by its checks; what it answers with does not read the ring that its fetch has moved. -/
theorem hostReadCommandsComplete : Obligations.HostReadCommandsComplete := by
  refine ⟨?nop, ?inImage, ?outImage, ?forces, ?records, ?snapshot, ?ile, ?status, ?statusReset, ?change, ?firmware,
    ?identity, ?legacyRead, ?legacyStatus, ?legacyWrite, ?badOpcode⟩
  case nop =>
    exact fun t c s ha hg hbuf => congrArg Host.Outcome.next ((serve_of_accepts _ ha).trans
      (reading_of_accepts _ ha hg hbuf))
  case inImage => exact fun t c first count s ha hg => execPointRead_of_image ha hg (by decide)
  case outImage => exact fun t c first count s ha hg => execPointRead_of_image ha hg (by decide)
  case forces =>
    exact fun t c s ha hg hbuf => congrArg Host.Outcome.next ((serve_of_accepts _ ha).trans
      (reading_of_accepts _ ha hg (stamped_bufAtLeast hbuf)))
  case records => exact fun t c first last store from_ to_ bad s ha hg => execRecRead_of_store ha hg
  case snapshot =>
    exact fun t c first count s ha hg hbuf => congrArg Host.Outcome.next ((serve_of_accepts _ ha).trans
      (reading_of_accepts _ ha hg (stamped_bufAtLeast hbuf)))
  case ile => exact fun t c kind first count s ha hg => execIleRead_of_objects ha hg
  case status => exact fun t c s ha hg => execCycleStatus_of_options ha hg (by decide)
  case statusReset => exact fun t c s ha hg => execCycleStatus_of_options ha hg (by decide)
  case change =>
    exact fun t c s ha hg hbuf => congrArg Host.Outcome.next ((serve_of_accepts _ ha).trans
      (reading_of_accepts _ ha hg (stamped_bufAtLeast hbuf)))
  case firmware =>
    exact fun t c s ha hg hbuf => congrArg Host.Outcome.next ((serve_of_accepts _ ha).trans
      (opening_of_accepts _ ha hg (stamped_bufAtLeast hbuf)))
  case identity =>
    exact fun t c s ha hg hbuf => congrArg Host.Outcome.next ((serve_of_accepts _ ha).trans
      (reading_of_accepts _ ha hg (stamped_bufAtLeast hbuf)))
  case legacyRead => exact fun t c window first count s ha hg => execLRead_of_window ha hg
  case legacyStatus => exact fun t c s ha hg => execLStatus_of_on ha hg
  case legacyWrite => exact fun t c opcode s => execLegacyWrite_of_opcode
  case badOpcode => exact fun t c opcode s => execBadOpcode_of_unknown

end Sys2Proof.Machine

/-! PROOFS. The host's other commands complete: points, forces, firmware, records, snapshots, the interlocking engine, time,
HART, the debug unlock, keys and grants, each with a grant that passes or where it needs none. -/

namespace Sys2Proof.Machine

-- One proof at a time: proofs that wait for one another in parallel each hold a stack against the memory limit.
set_option Elab.async false

/-! ### How a command reaches its effect that looks at its grant late, or needs none (R333, R343) -/

section
variable {c : Call} {g : Grant} {t on op req role : Nat} {free bufOk : Bool} {tgt : List Byte → Bool} {s : State}

theorem authOk_of_carries (hc : carries c op role free tgt g t s = true) : authOk true c.auth = true := by
  rw [(carries_iff.1 hc).2.1]
  rfl

/-- Acceptance of a command that looks at its grant only after other checks. -/
theorem opening_before_grant (f : State → State) (ha : accepts c on s = true) (hbuf : bufOk = true)
    (hc : carries c op role free tgt g t s = true) :
    opening (stamped c t s) op req on true bufOk f (taken c t s) = f (taken c t s) :=
  opening_of_accepts f ha (authOk_of_carries hc) hbuf

theorem not_speedwell_of_accepts (ha : accepts c on s = true) : ¬ (taken c t s).fwu.speedwell = true :=
  Bool.eq_false_iff.1 (accepts_iff.1 ha).2.2.1

/-- A changing command that needs no grant waits for its turn all the same (R333). -/
theorem serveTurn_of_accepts (f : Call → State → State) (hl : firstInLine s c.ring = true)
    (ha : accepts c on s = true) : serveTurn c f (atT t s) = f (stamped c t s) (taken c t s) :=
  serveTurn_of_first f hl (accepts_iff.1 ha).1

end

/-! ### Points (R341) -/

theorem foldl_hostArrive (at_ : Nat) (recs : List PointRec) (s : State) :
    recs.foldl (hostArrive at_) s = { s with cyc := { s.cyc with
      inbox := s.cyc.inbox ++ recs.map fun r => ⟨r.addr, at_, r.value, none, qGood, false⟩ } } := by
  induction recs generalizing s with
  | nil => simp
  | cons r rs ih => simp [ih, hostArrive]

theorem hostPoint_of_recordOk {s : State} {r : PointRec} (h : recordOk s r = true) : (hostPoint s r.addr).isSome = true := by
  unfold recordOk at h
  split at h
  next hp => rw [hp]; rfl
  next => cases h

theorem execPointWrite_of_records {t : Nat} {c : Call} {g : Grant} {recs : List PointRec} {s : State}
    (ha : accepts c accD s = true) (hpos : 0 < recs.length) (hmax : recs.length ≤ 4096)
    (hbuf : c.bufLen = 16 * recs.length) (hc : carries c 0x02 roleWrite false (writeTarget recs) g t s = true)
    (hok : ∀ r ∈ recs, recordOk s r = true) :
    execPointWrite t c recs.length recs s = .next (done (stamped c t s) 0x02
      (max (stamped c t s).doorbell (max s.gt t)) { authorised c g t s with cyc := { s.cyc with
        inbox := s.cyc.inbox ++ recs.map fun r =>
          ⟨r.addr, max (stamped c t s).doorbell (max s.gt t), r.value, none, qGood, false⟩ } }) := by
  have hbuf' : (bufExactly (16 * recs.length) (stamped c t s) && decide (recs.length = recs.length)) = true :=
    Bool.and_eq_true_iff.2 ⟨decide_eq_true hbuf, decide_eq_true rfl⟩
  have hhost : ¬ (!(recs.all fun r => (hostPoint s r.addr).isSome)) = true := by
    rw [List.all_eq_true.2 fun r hr => hostPoint_of_recordOk (hok r hr)]
    decide
  have hvalid : ¬ (!(recs.all (recordOk s))) = true := by
    rw [List.all_eq_true.2 hok]
    decide
  exact congrArg Host.Outcome.next ((serveTurn_of_carries _ ha hc).trans ((ranged_of_ok _
    (decide_eq_true ⟨hpos, hmax⟩)).trans ((opening_of_carries _ ha hbuf' hc).trans ((if_neg hhost).trans
      ((if_neg hvalid).trans (congrArg (done _ _ _) (foldl_hostArrive _ _ _)))))))

/-! ### Firmware (R458, R459) -/

theorem execFwChunk_of_chunk {t off total : Nat} {c : Call} {g : Grant} {data : List Byte} {hdr : Option ImageHdr}
    {s : State} (ha : accepts c (accD + accS + accY) s = true) (hbuf : c.bufLen = data.length)
    (hmin : 4 ≤ data.length) (hmax : data.length ≤ 1048576)
    (hc : carries c 0x30 roleFirmware false (tgtEq (le 4 total)) g t s = true) (hfw : s.mod.tup.fw ≠ .trial)
    (hargs : chunkArgsOk off total data.length = true) :
    execFwChunk t c off total data hdr s = .next (done (stamped c t s) 0x30 data.length
      (chunkStore off total data.length hdr (authorised c g t s))) := by
  have hbuf' : (bufExactly data.length (stamped c t s) && decide (4 ≤ data.length ∧ data.length ≤ 1048576)) = true :=
    Bool.and_eq_true_iff.2 ⟨decide_eq_true hbuf, decide_eq_true ⟨hmin, hmax⟩⟩
  have hneeds : ¬ ((taken c t s).fwu.speedwell && noFirmwareKey (taken c t s)) = true := by
    simp [Bool.eq_false_iff.2 (not_speedwell_of_accepts (t := t) ha)]
  exact congrArg Host.Outcome.next ((serveTurn_of_carries _ ha hc).trans ((ranged_of_ok _ hargs).trans
    ((opening_before_grant _ ha hbuf' hc).trans ((if_neg hneeds).trans ((withGrantOr_of_carries _ _ hc).trans
      (if_neg hfw))))))

theorem execFwActivate_of_image {t : Nat} {c : Call} {g : Grant} {s : State}
    (ha : accepts c (accD + accS + accY) s = true) (hbuf : noBuf c = true)
    (himage : (slotOf s.nva (altSlot s)).complete = true)
    (hc : carries c 0x31 roleFirmware false (tgtEq (le 16 (slotOf s.nva (altSlot s)).digest)) g t s = true)
    (hguard : activateGuard s = none) :
    execFwActivate t c s = .next (activateTake (stamped c t s) (authorised c g t s)) := by
  have hstored : ¬ (!(slotOf s.nva (altSlot s)).complete) = true := by simp [himage]
  have hguard' : activateGuard (authorised c g t s) = none := hguard
  refine congrArg Host.Outcome.next ((serveTurn_of_carries _ ha hc).trans ((opening_before_grant _ ha hbuf hc).trans
    ((if_neg (not_speedwell_of_accepts ha)).trans ((if_neg hstored).trans
      ((withGrantOr_of_carries _ _ hc).trans ?_)))))
  simp only [hguard']

/-! ### Snapshots (R230) -/

theorem execSnapArm_of_idle {t id at_ : Nat} {c : Call} {s : State} (ha : accepts c accD s = true)
    (hg : noGrant c = true) (hbuf : noBuf c = true) (hl : firstInLine s c.ring = true) (hid : 0 < id)
    (hmax : id ≤ 65535) (hfrom : max s.gt t + 5 * ms ≤ at_) (hto : at_ < max s.gt t + 60 * sec)
    (hst1 : s.tim.clv.st ≠ 1) (hst2 : s.tim.clv.st ≠ 2) :
    execSnapArm t c id at_ s =
      .next (done (stamped c t s) 0x48 id (relay kSnap [id, at_] (cloverArm id at_ (taken c t s)))) := by
  have hinTime : ¬ (decide (at_ < max s.gt t + 5 * ms) || decide (max s.gt t + 60 * sec ≤ at_)) = true := by
    simp only [Bool.or_eq_true, decide_eq_true_eq]
    omega
  have hidle : ¬ (decide (s.tim.clv.st = 1) || decide (s.tim.clv.st = 2)) = true := by simp [hst1, hst2]
  exact congrArg Host.Outcome.next ((serveTurn_of_accepts _ hl ha).trans ((ranged_of_ok _
    (decide_eq_true ⟨hid, hmax⟩)).trans ((opening_of_accepts _ ha hg hbuf).trans ((if_neg hinTime).trans
      (if_neg hidle)))))

/-! ### The interlocking engine (R144, R146) -/

/-- What an ILE_OPERATOR command queues and relays; only an EMERG_RELEASE, command 3, can be void. -/
theorem serveTurn_ileOperator {t cmd : Nat} {c : Call} {g : Grant} {b : OpBody} {s : State} (hcmd : 1 ≤ cmd ∧ cmd ≤ 3)
    (ha : accepts c accD s = true) (hbuf : noBuf c = true) (hz : b.reservedZero = true)
    (hc : carries c 0x50 roleIle false (tgtEq (opBodyBytes cmd b)) g t s = true) :
    let void := decide (cmd = 3) && (decide (s.mod.tup.ile = .withdrawn) || s.ile.withdrawnNow)
    serveTurn c (opIleOperator cmd b) (atT t s) =
      relay kIleOp [cmd, b.index, b.key, s.ile.n + 2, b2n void] { authorised c g t s with
        ile := { s.ile with
          ops := s.ile.ops ++ [⟨some (stamped c t s), s.hxp.era, cmd, b, s.ile.n + 2, void, partnerFollows s⟩] } } :=
  (serveTurn_of_carries _ ha hc).trans ((ranged_of_ok _ (Bool.and_eq_true_iff.2 ⟨decide_eq_true hcmd, hz⟩)).trans
    (opening_of_carries _ ha hbuf hc))

/-! ### Time (R214) and HART (R306) -/

theorem execTimeSet_of_listening {t gt : Nat} {c : Call} {g : Grant} {s : State}
    (ha : accepts c (accD + accY + accX) s = true) (hbuf : noBuf c = true)
    (hc : carries c 0x58 roleTime true (tgtEq (le 8 gt)) g t s = true)
    (hnet : s.mod.tup.net = .listen ∨ s.mod.tup.net = .passive) (hstm : isStm s = false) :
    execTimeSet t c gt s =
      .next (done (stamped c t s) 0x58 (max s.gt t) (gtStep gt 4 true (authorised c g t s))) := by
  have hset : timeSettable s = true := by simpa [timeSettable] using Or.inl hnet
  have hslave : ¬ isStm (authorised c g t s) = true := Bool.eq_false_iff.1 hstm
  exact congrArg Host.Outcome.next ((serveTurn_of_carries _ ha hc).trans ((opening_before_grant _ ha hbuf hc).trans
    ((if_pos hset).trans ((withGrantOr_of_carries _ _ hc).trans (if_neg hslave)))))

theorem execHartPass_of_master {t ch cmd : Nat} {c : Call} {g : Grant} {data : List Byte} {s : State}
    (ha : accepts c accD s = true) (hbuf : data.length ≤ c.bufLen) (hlen : data.length ≤ 31) (hcmd : cmd ≤ 255)
    (hch : ch ≤ 3) (hc : carries c 0x62 roleOperate false (hartTarget ch) g t s = true)
    (hm : hartMaster s ch = true) :
    execHartPass t c ch cmd data.length data s = .next (hartNext ch (updAl ch (fun a => { a with
      passQ := a.passQ ++ [.pass (stamped c t s) s.hxp.era cmd data] }) (authorised c g t s))) := by
  have hbuf' : (bufAtLeast data.length (stamped c t s) && decide (data.length = data.length)) = true :=
    Bool.and_eq_true_iff.2 ⟨stamped_bufAtLeast hbuf, decide_eq_true rfl⟩
  exact congrArg Host.Outcome.next ((serveTurn_of_carries _ ha hc).trans ((ranged_of_ok _
    (decide_eq_true ⟨hch, hlen, hcmd⟩)).trans ((opening_of_carries _ ha hbuf' hc).trans (if_pos hm))))

/-! ### The debug unlock and keys (R368, R349) -/

theorem execDebugUnlock_of_legal {t mask : Nat} {c : Call} {g : Grant} {s : State} (ha : accepts c accDSYX s = true)
    (hbuf : noBuf c = true) (hc : carries c 0x63 roleDebug false (tgtEq (le 4 mask)) g t s = true)
    (hmask : mask ≤ 127) (hlegal : unlockLegal s = true) :
    execDebugUnlock t c mask s =
      .next (done (stamped c t s) 0x63 mask (setUnlock mask g.expiry (authorised c g t s))) := by
  have hlegal' : ¬ (!unlockLegal s) = true := by simp [hlegal]
  exact congrArg Host.Outcome.next ((serveTurn_of_carries _ ha hc).trans ((ranged_of_ok _
    (decide_eq_true hmask)).trans ((opening_of_carries _ ha hbuf hc).trans (if_neg hlegal'))))

theorem keyProvisionTake_of_ok {k : KeyRec} {c : Call} {s : State} (hslot : k.slot ≤ 7) (hroles : k.roles ≤ 4095)
    (hrole : changeRole s = true) (hheld : keysHeld (keysWith k s.nva.keys) = true) :
    keyProvisionTake k c s = await c 0x64 0 (.key k) s := by
  simp [keyProvisionTake, Nat.not_lt.2 hslot, Nat.not_lt.2 hroles, hrole, hheld]

theorem execKeyProvision_of_ok {t : Nat} {c : Call} {g : Grant} {k : KeyRec} {s : State}
    (ha : accepts c accD s = true) (hbuf : c.bufLen = 140) (hfirst : firstKey s k = false)
    (hc : carries c 0x64 roleKeys true (keyTarget k) g t s = true) (hslot : k.slot ≤ 7) (hroles : k.roles ≤ 4095)
    (hrole : changeRole s = true) (hheld : keysHeld (keysWith k s.nva.keys) = true) :
    execKeyProvision t c k s = .next (await (stamped c t s) 0x64 0 (.key k) (authorised c g t s)) := by
  have hgranted : ¬ (firstKey s k && decide (c.auth = .none)) = true := by simp [hfirst]
  exact congrArg Host.Outcome.next ((serveTurn_of_carries _ ha hc).trans ((opening_before_grant _ ha
    (decide_eq_true hbuf) hc).trans ((if_neg hgranted).trans ((withGrantOr_of_carries _ _ hc).trans
      (keyProvisionTake_of_ok hslot hroles hrole hheld)))))

/-! ### Held grants (R346) -/

theorem execGrantHold_of_passes {t slot : Nat} {c : Call} {g : Grant} {s : State}
    (ha : accepts c (accD + accS + accY) s = true) (hg : noGrant c = true) (hl : firstInLine s c.ring = true)
    (hbuf : c.bufLen = 196) (hslot : slot ≤ 15)
    (hcheck : grantCheck (taken c t s) true false (standingRole g.action) (standingRole g.action).isSome
      (heldTarget g.action) g = none) :
    execGrantHold t c slot g s = .next (done (stamped c t s) 0x68 g.expiry { authorised c g t s with
      hxp := { (taken c t s).hxp with slots := Tab.set s.hxp.slots slot g } }) := by
  refine congrArg Host.Outcome.next ((serveTurn_of_accepts _ hl ha).trans ((ranged_of_ok _
    (decide_eq_true hslot)).trans ((opening_of_accepts _ ha hg (decide_eq_true hbuf)).trans ?_)))
  simp only [hcheck]
  rfl

theorem execGrantDrop_of_slot {t slot : Nat} {c : Call} {s : State} (ha : accepts c accDSYX s = true)
    (hg : noGrant c = true) (hbuf : noBuf c = true) (hslot : slot ≤ 15) :
    execGrantDrop t c slot s = .next (done (stamped c t s) 0x69 0 { taken c t s with
      hxp := { (taken c t s).hxp with slots := Tab.erase s.hxp.slots slot } }) := by
  have hone : ¬ slot = 0xFF := by omega
  exact congrArg Host.Outcome.next ((serve_of_accepts _ ha).trans ((ranged_of_ok _
    (decide_eq_true (.inl hslot))).trans ((opening_of_accepts _ ha hg hbuf).trans (if_neg hone))))

/-! ### Descriptors (R333) -/

theorem fetchable_of_nextRing {s : State} {ring : Nat} (h : nextRing s = some ring) : fetchable s ring = true :=
  List.find?_some h

theorem execDescriptorFetch_of_turn {t ring : Nat} {desc : List Byte} {buf : HostBuf} {g : Option Grant}
    {s : State} (held : Bool) (hlen : desc.length = 64) (hring : nextRing s = some ring)
    (hturn : isChanging (field desc 0 1) = true → firstInLine s ring = true) :
    execDescriptorFetch t ring desc buf g held s = .next (runDesc desc buf g
      { descCall ring desc with doorbell := (ringOf s ring).times.headD (max s.gt t) } (fetchOne ring (atT t s))) := by
  have hnow : ¬ (desc.length ≠ 64 ∨ nextRing (atT t s) ≠ some ring) := by
    rintro (h | h)
    · exact h hlen
    · exact h hring
  have hfirst : ¬ (isChanging (field desc 0 1) && !firstInLine s ring) = true := by
    simpa using hturn
  exact congrArg Host.Outcome.next ((if_neg hnow).trans ((if_neg hfirst).trans
    (serve_of_fetchable (c := descCall ring desc) _ (fetchable_of_nextRing hring))))

/-- Settles O18: each command by its checks, its grant and its own effect. -/
theorem hostWriteCommandsComplete : Obligations.HostWriteCommandsComplete := by
  refine ⟨?points, ?force, ?forceClear, ?chunk, ?activate, ?recClear, ?snap, ?block, ?unblock, ?emerg, ?time, ?hart,
    ?unlock, ?key, ?hold, ?drop, ?fetch⟩
  case points => exact fun t c g recs s => execPointWrite_of_records
  case force =>
    exact fun t c g addr ty value s ha hbuf hc harb => congrArg Host.Outcome.next
      ((serveTurn_of_carries _ ha hc).trans (opening_free ha hbuf hc harb))
  case forceClear =>
    exact fun t c g addr s ha hbuf hc harb => congrArg Host.Outcome.next
      ((serveTurn_of_carries _ ha hc).trans (opening_free ha hbuf hc harb))
  case chunk => exact fun t c g off total data hdr s => execFwChunk_of_chunk
  case activate => exact fun t c g s => execFwActivate_of_image
  case recClear =>
    exact fun t c g first last store from_ to_ s ha hbuf hc hstore hfrom hto => congrArg Host.Outcome.next
      ((serveTurn_of_carries _ ha hc).trans ((ranged_of_ok _ (decide_eq_true ⟨hstore, hfrom, hto⟩)).trans
        (opening_of_carries _ ha hbuf hc)))
  case snap => exact fun t c id at_ s => execSnapArm_of_idle
  case block =>
    exact fun t c g b s ha hbuf hz hc => congrArg Host.Outcome.next
      (serveTurn_ileOperator (by decide) ha hbuf hz hc)
  case unblock =>
    exact fun t c g b s ha hbuf hz hc => congrArg Host.Outcome.next
      (serveTurn_ileOperator (by decide) ha hbuf hz hc)
  case emerg =>
    rintro t c g b _ s ha hbuf rfl hz hc
    exact congrArg Host.Outcome.next (serveTurn_ileOperator (by decide) ha hbuf hz hc)
  case time => exact fun t c g gt s => execTimeSet_of_listening
  case hart => exact fun t c g ch cmd data s => execHartPass_of_master
  case unlock => exact fun t c g mask s ha hbuf hc _ => execDebugUnlock_of_legal ha hbuf hc
  case key => exact fun t c g k s => execKeyProvision_of_ok
  case hold => exact fun t c slot g s => execGrantHold_of_passes
  case drop => exact fun t c slot s => execGrantDrop_of_slot
  case fetch => exact fun t ring desc buf g held s => execDescriptorFetch_of_turn held

end Sys2Proof.Machine

/-! PROOFS. The commands of the program cycle complete: each under the conditions of its rule (R60 to R79). -/

namespace Sys2Proof.Machine

-- One proof at a time: proofs that wait for one another in parallel each hold a stack against the memory limit.
set_option Elab.async false

theorem execTCommit_of_ready {t : Nat} {s : State} (hd : driving s = true) (hr : s.mod.tup.run = .run)
    (hp : s.cyc.phase = .boundary) (hm : s.chg.mig = none) (hh : handoverHolds s = false)
    (hmin : s.cyc.minDone = true) (hgap : s.clk.gapFrom = none) :
    execTCommit t s = .next (beginCycle (atT t s)) := by
  have hguard : (driving s && decide (s.mod.tup.run = .run) && decide (s.cyc.phase = .boundary)
      && decide (s.chg.mig = none) && !handoverHolds s && s.clk.gapFrom.isNone
      && (s.cyc.minDone || minPassed (atT t s))) = true := by
    simp [hd, hr, hp, hm, hh, hmin, hgap]
  exact congrArg Host.Outcome.next (if_pos hguard)

theorem execMinCycleElapsed_of_passed {t : Nat} {s : State} (hp : s.cyc.phase = .boundary)
    (hmin : minPassed (atT t s) = true) :
    execMinCycleElapsed t s = .next { atT t s with cyc := { s.cyc with minDone := true } } :=
  congrArg Host.Outcome.next (if_pos (Bool.and_eq_true_iff.2 ⟨decide_eq_true hp, hmin⟩))

theorem execAgreeTimeout_of_due {t : Nat} {s : State} (hr : s.mod.tup.role = .active) (hp : s.cyc.phase = .agree)
    (hdue : s.cyc.tc + s.cyc.par.agreeTimeout ≤ max s.gt t) : execAgreeTimeout t s = .next (afterAgree (atT t s)) := by
  have hguard : (decide (s.mod.tup.role = .active) && decide (s.cyc.phase = .agree)
      && decide (s.cyc.tc + s.cyc.par.agreeTimeout ≤ max s.gt t)) = true := by
    simp [hr, hp, hdue]
  exact congrArg Host.Outcome.next (if_pos hguard)

/-- The bound on the wait for a signature is counted; on a pair whose partner is valid an arbitration begins (R242). -/
theorem execSignatureWaitBound_of_due {t : Nat} {s : State} (hp : s.cyc.phase = .sig)
    (hdue : s.cyc.tc + 2 * s.cyc.par.scanWdt ≤ max s.gt t) :
    execSignatureWaitBound t s = .next (toHouse (if s.mod.valid
      then arbDetect .sigMissing { atT t s with cyc := { s.cyc with
        sigMissed := satInc 0xFFFFFFFF s.cyc.sigMissed } }
      else { atT t s with cyc := { s.cyc with sigMissed := satInc 0xFFFFFFFF s.cyc.sigMissed } })) :=
  congrArg Host.Outcome.next (if_pos (Bool.and_eq_true_iff.2 ⟨decide_eq_true hp, decide_eq_true hdue⟩))

theorem execProgramCycleBoundary_of_house {t : Nat} {s : State} (hp : s.cyc.phase = .house)
    (hs : sliceRuns s = false) : execProgramCycleBoundary t s = .next (agreeReady (programBoundary (atT t s))) := by
  have hidle : (!sliceRuns s) = true := by simp [hs]
  exact congrArg Host.Outcome.next (if_pos (Bool.and_eq_true_iff.2 ⟨decide_eq_true hp, hidle⟩))

/-- Settles O19: each command's effect where the conditions of its rule hold. -/
theorem programCycleCommandsComplete : Obligations.ProgramCycleCommandsComplete := by
  refine ⟨?commit, ?minCycle, ?agree, ?execute, ?mismatch, ?watchdog, ?signature, ?arbitration, ?boundary⟩
  case commit => exact fun t s => execTCommit_of_ready
  case minCycle => exact fun t s => execMinCycleElapsed_of_passed
  case agree => exact fun t s => execAgreeTimeout_of_due
  case execute => exact fun t m s hp => congrArg Host.Outcome.next (if_pos hp)
  case mismatch => exact fun t c equal s hp hc hr => ⟨_, execLockstepMismatch_of_serving hp hc hr, rfl⟩
  case watchdog =>
    exact fun t s he hp hw hr => (execScanWdt_of_expired he hp hw).trans
      (congrArg Host.Outcome.next (if_neg (Bool.eq_false_iff.1 hr)))
  case signature =>
    exact fun t s hp hdue hv => (execSignatureWaitBound_of_due hp hdue).trans
      (congrArg (Host.Outcome.next ∘ toHouse) (if_neg (Bool.eq_false_iff.1 hv)))
  case arbitration =>
    exact fun t s hp hdue hv => (execSignatureWaitBound_of_due hp hdue).trans
      (congrArg (Host.Outcome.next ∘ toHouse) (if_pos hv))
  case boundary => exact fun t s => execProgramCycleBoundary_of_house

end Sys2Proof.Machine

/-! PROOFS. The generation commands complete: staging and selection begin where check 2 and R467 let them (R94, R97), and
the others wait for their boundary (R100, R101, R120, R122, R289). -/

namespace Sys2Proof.Machine

-- One proof at a time: proofs that wait for one another in parallel each hold a stack against the memory limit.
set_option Elab.async false

/-! ### Staging begins (R94, R97, R467) -/

theorem stageEnter_of_free {op : Nat} {c : Call} {f : State → State} {s : State} (hguard : stageGuard s = none)
    (hxfer : xferBars s = false) : stageEnter op c f s = f s := by
  simp [stageEnter, hguard, hxfer]

theorem execStage_of_free {t : Nat} {c : Call} {g : Grant} {box : Container} {s : State}
    (ha : accepts c accD s = true) (hc : carries c 0x20 roleStage false (stageTarget box) g t s = true)
    (hguard : stageGuard s = none) (hxfer : xferBars s = false) :
    execStage t c box s = .next (stageBegin 0x20 box (stamped c t s) (authorised c g t s)) :=
  congrArg Host.Outcome.next ((serveTurn_of_carries _ ha hc).trans ((opening_of_carries _ ha rfl hc).trans
    (stageEnter_of_free hguard hxfer)))

/-- The selected generation is staged as a copy under the next number of the pair. -/
theorem execGenSelect_of_selected {t gen : Nat} {c : Call} {g : Grant} {x : Gen} {s : State}
    (ha : accepts c accD s = true) (hbuf : noBuf c = true)
    (hc : carries c 0x25 roleStage false (tgtEq (le 4 gen)) g t s = true) (hguard : stageGuard s = none)
    (hxfer : xferBars s = false) (hsel : selected s gen = some x) :
    execGenSelect t c gen s = .next (stageBegin 0x25 (copyBox (renumber (genHighPair s + 1) x))
      (stamped c t s) (authorised c g t s)) := by
  have hguard' : stageGuard (authorised c g t s) = none := hguard
  have hxfer' : xferBars (authorised c g t s) = false := hxfer
  have hsel' : selected (authorised c g t s) gen = some x := hsel
  refine congrArg Host.Outcome.next ((serveTurn_of_carries _ ha hc).trans ((opening_of_carries _ ha hbuf hc).trans
    ((stageEnter_of_free hguard' hxfer').trans ?_)))
  simp only [hsel']
  rfl

/-! ### Commands that wait for their boundary (R100, R101, R120, R122, R289) -/

theorem changeCmd_of_carries {op req role t : Nat} {body : Pend} {tgt : List Byte → Bool} {c : Call} {g : Grant}
    {s : State} (ha : accepts c accD s = true) (hbuf : noBuf c = true)
    (hc : carries c op role false tgt g t s = true) (harb : s.mod.arb = false) :
    changeCmd op req role body tgt (stamped c t s) (taken c t s) =
      await (stamped c t s) op req body (authorised c g t s) :=
  opening_free ha hbuf hc harb

theorem execCcvConfirm_of_match {t ccv gen : Nat} {c : Call} {g : Grant} {s : State}
    (ha : accepts c accD s = true) (hbuf : noBuf c = true)
    (hc : carries c 0x26 roleSafety false (tgtEq (le 4 ccv ++ le 4 gen)) g t s = true)
    (hccv : ccv = ccvOf s.tio.section_) :
    execCcvConfirm t c ccv gen s =
      .next (await (stamped c t s) 0x26 0 (.ccv ccv gen) (authorised c g t s)) :=
  congrArg Host.Outcome.next ((serveTurn_of_carries _ ha hc).trans ((opening_of_carries _ ha hbuf hc).trans
    (if_neg (not_not.2 hccv))))

/-! ### Staging checks, migration and the trial window end (R99, R109, R119) -/

theorem execStagingChecksDone_of_ran {t : Nat} {j : StageJob} {s : State} (hjob : s.chg.job = some j)
    (hown : j.own = none) (hran : checksRan j = true) :
    execStagingChecksDone t none s = .next (ownChecks j (atT t s)) := by
  have hready : ¬ (j.own.isSome || !checksRan j) = true := by simp [hown, hran]
  simp only [execStagingChecksDone, atT_chg, hjob, if_neg hready]

theorem execMigrationDone_of_boundary {t start cause : Nat} {revert : Bool} {s : State}
    (hmig : s.chg.mig = some (start, revert, cause)) (hp : s.cyc.phase = .boundary) :
    execMigrationDone t s = .next (agreeReady (migrationEnd start revert cause (atT t s))) := by
  simp only [execMigrationDone, atT_chg, atT_cyc, hmig, hp, if_true]

theorem execTrialWindowEnd_of_boundary {t : Nat} {s : State} (hp : s.cyc.phase = .boundary)
    (hmig : s.chg.mig = none) : execTrialWindowEnd t s = .next (windowStep (atT t s)) := by
  have hguard : (decide (s.cyc.phase = .boundary) && decide (s.chg.mig = none)) = true := by simp [hp, hmig]
  exact congrArg Host.Outcome.next (if_pos hguard)

/-- Settles O17: each command by its checks, its grant and its own effect; each end of work where its rule holds. -/
theorem generationCommandsComplete : Obligations.GenerationCommandsComplete := by
  refine ⟨?stage, ?select, ?switch, ?confirm, ?revert, ?discard, ?ccv, ?checks, ?migration, ?window⟩
  case stage => exact fun t c g box s => execStage_of_free
  case select => exact fun t c g gen x s => execGenSelect_of_selected
  case switch =>
    exact fun t c g cycle s ha hbuf hc harb => congrArg Host.Outcome.next
      ((serveTurn_of_carries _ ha hc).trans (changeCmd_of_carries ha hbuf hc harb))
  case confirm =>
    exact fun t c g gen s ha hbuf hc harb => congrArg Host.Outcome.next
      ((serveTurn_of_carries _ ha hc).trans (changeCmd_of_carries ha hbuf hc harb))
  case revert =>
    exact fun t c g gen s ha hbuf hc harb => congrArg Host.Outcome.next
      ((serveTurn_of_carries _ ha hc).trans (changeCmd_of_carries ha hbuf hc harb))
  case discard =>
    exact fun t c g gen s ha hbuf hc harb => congrArg Host.Outcome.next
      ((serveTurn_of_carries _ ha hc).trans (changeCmd_of_carries ha hbuf hc harb))
  case ccv => exact fun t c g ccv gen s => execCcvConfirm_of_match
  case checks => exact fun t j s => execStagingChecksDone_of_ran
  case migration => exact fun t start revert cause s => execMigrationDone_of_boundary
  case window => exact fun t s => execTrialWindowEnd_of_boundary

end Sys2Proof.Machine

/-! PROOFS. The interlocking engine's commands complete: a lane presents in time, the voter updates or withdraws,
and each event that an evaluation finds has its effect under the conditions of its rule (R125 to R170). -/

namespace Sys2Proof.Machine

-- One proof at a time: proofs that wait for one another in parallel each hold a stack against the memory limit.
set_option Elab.async false

/-! ### A lane after its change -/

theorem updAt_getD {α : Type} (f : α → α) (d : α) {l : List α} {i : Nat} (h : i < l.length) :
    (updAt l i f).getD i d = f (l.getD i d) := by
  induction l generalizing i with
  | nil => exact absurd h (Nat.not_lt_zero i)
  | cons x xs ih =>
    cases i with
    | zero => exact updAt_zero_getD f d h
    | succ i => simpa [updAt] using ih (Nat.lt_of_succ_lt_succ h)

/-- A lane beyond those of the state reads as one that is not admitted. -/
theorem laneIx_lt_of_admitted {l : Lane} {s : State} (h : (laneOf s l).admitted = true) :
    laneIx l < s.ile.lanes.length := by
  by_contra hout
  have hreset : laneOf s l = laneReset := List.getD_eq_default _ _ (Nat.le_of_not_lt hout)
  rw [hreset] at h
  exact Bool.false_ne_true h

theorem admitted_of_evaluating {l : Lane} {s : State} (h : l ∈ evaluating s) : (laneOf s l).admitted = true := by
  have hruns := (List.mem_filter.1 h).2
  rw [Bool.and_eq_true, Bool.and_eq_true] at hruns
  exact hruns.1.1

theorem laneOf_updLane_same {l : Lane} {s : State} (f : LaneS → LaneS) (h : laneIx l < s.ile.lanes.length) :
    laneOf (updLane l f s) l = f (laneOf s l) :=
  updAt_getD f laneReset h

/-! ### Presentation (R153, R159) -/

theorem inTime_iff {s : State} : inTime s = true ↔ s.gt + 20 * us < s.ile.cn + voteOfs s := decide_eq_true_iff

theorem not_inTime_iff {s : State} : inTime s = false ↔ s.ile.cn + voteOfs s ≤ s.gt + 20 * us :=
  decide_eq_false_iff_not.trans Nat.not_lt

theorem execLanePresent_of_inTime {t : Nat} {l : Lane} {fault : LaneFault} {s : State} (he : s.ile.evald = true)
    (hl : l ∈ evaluating s) (hr : (laneOf s l).reseed = 0) (hp : (laneOf s l).pres = none)
    (ht : inTime (atT t s) = true) :
    ∃ u, execLanePresent t l fault s = .next u ∧ (laneOf u l).pres = some fault ∧
      u.ile.latest = max s.ile.latest (min 0xFFFF ((max s.gt t - s.ile.cn) / us)) := by
  have hguard : (s.ile.evald && decide (l ∈ evaluating s) && (laneOf s l).pres = none && inTime (atT t s)) = true := by
    simp [he, hl, hp, ht]
  have hlane := laneOf_updLane_same (s := s) (fun x => { x with pres := some fault })
    (laneIx_lt_of_admitted (admitted_of_evaluating hl))
  exact ⟨_, congrArg Host.Outcome.next ((if_pos hguard).trans (if_pos hr)), congrArg LaneS.pres hlane, rfl⟩

theorem execPresentationDeadline_of_evald {t : Nat} {s : State} (hdue : inTime (atT t s) = false)
    (hn : s.ile.upN ≠ s.ile.n) (hw : s.ile.withdrawnNow = false) (he : s.ile.evald = true) :
    execPresentationDeadline t s = .next ((evaluating s).foldl markLate (atT t s)) := by
  have hguard : (!inTime (atT t s) && s.ile.upN ≠ s.ile.n && !s.ile.withdrawnNow) = true := by simp [hdue, hn, hw]
  exact congrArg Host.Outcome.next ((if_pos hguard).trans (if_pos he))

/-! ### The voter (R156 to R160) -/

/-- An update of the cycle that is due, outside BOOT, votes where the lanes have evaluated with a table and the ILE
has not withdrawn. -/
theorem execVoterUpdate_of_due {t : Nat} (sweep : List (Lane × Bool)) {s : State} (hn : s.ile.upN ≠ s.ile.n)
    (hdue : s.ile.cn + voteOfs s ≤ max s.gt t) (hrun : s.mod.tup.run ≠ .boot) :
    execVoterUpdate t sweep s = .next (
      if s.ile.table = none || s.ile.withdrawnNow || !s.ile.evald then updateTail (atT t s)
      else updateTail (voteStep sweep (atT t s))) := by
  refine congrArg Host.Outcome.next (if_neg ?_)
  simp [hn, Nat.not_lt.2 hdue, hrun]

theorem execReseedTablePhaseDone_of_held {t : Nat} {l m : Lane} {s : State} (hr : (laneOf s l).reseed = 1)
    (hm : reseedFrom s l = some m) (hheld : ∀ x ∈ setTables (laneSetOf s m), heldOk s x = true) :
    execReseedTablePhaseDone t l true s = .next (updLane l (fun x => { x with
      reseed := 2
      set := { x.set with
        table := (laneSetOf s m).table, old := (laneSetOf s m).old, next := (laneSetOf s m).next } })
      (atT t s)) := by
  have hall : (setTables (laneSetOf s m)).all (heldOk (atT t s)) = true := List.all_eq_true.2 hheld
  simp [execReseedTablePhaseDone, hr, hm, hall]

/-! ### Events that an evaluation also finds (R125, R133 to R135, R166) -/

theorem execPathSetTimeout_of_due {t i : Nat} {s : State} (he : s.ile.evald = true)
    (hst : (s.ile.dyn.paths.getD i pathFree).st = .requested)
    (hn : (s.ile.dyn.paths.getD i pathFree).setN ≠ s.ile.n) (hreq : reqPresent s i = true)
    (hdue : (s.ile.dyn.paths.getD i pathFree).setStart + (pathAt (curTable s) i).setTimeoutS * sec ≤ s.ile.cn) :
    execPathSetTimeout t i s = .next (occurU Code.ileSetTimeout Src.voter i (eachDyn (fun y => { y with
      paths := updAt y.paths i fun x => { x with st := .free, timeout := true } }) (atT t s))) := by
  refine congrArg Host.Outcome.next (if_pos ?_)
  simp only [Bool.and_eq_true, and_assoc]
  exact ⟨he, decide_eq_true hst, decide_eq_true hn, hreq, decide_eq_true hdue⟩

theorem execReleaseDelayElapsed_of_due {t i : Nat} {s : State} (he : s.ile.evald = true)
    (hst : (s.ile.dyn.paths.getD i pathFree).st = .releasing)
    (hn : (s.ile.dyn.paths.getD i pathFree).relN ≠ s.ile.n)
    (hdue : (s.ile.dyn.paths.getD i pathFree).relStart
      + releaseNs (pathAt (curTable s) i) (s.ile.dyn.paths.getD i pathFree) ≤ s.ile.cn)
    (hdst : posOf s.ile.dyn.elems (pathAt (curTable s) i).dst = .a ∨
      (s.ile.dyn.paths.getD i pathFree).emerg = true)
    (hcl : posOf s.ile.dyn.elems (pathAt (curTable s) i).closer = .a) (hreq : reqPresent s i = false) :
    execReleaseDelayElapsed t i s = .next (eachDyn (fun y => { y with
      paths := updAt y.paths i fun x => { x with st := .free, emerg := false, adopted := false } }) (atT t s)) := by
  have hfree : (decide (posOf s.ile.dyn.elems (pathAt (curTable s) i).dst = .a)
      || (s.ile.dyn.paths.getD i pathFree).emerg) = true :=
    Bool.or_eq_true_iff.2 (hdst.imp_left decide_eq_true)
  refine congrArg Host.Outcome.next (if_pos ?_)
  simp only [Bool.and_eq_true, and_assoc]
  exact ⟨he, decide_eq_true hst, decide_eq_true hn, decide_eq_true hdue, hfree, decide_eq_true hcl, congrArg not hreq⟩

theorem execIleDetectFault_of_due {t i : Nat} {s : State} (he : s.ile.evald = true) (hi : i < s.ile.dyn.elems.length)
    (hf : (s.ile.dyn.elems.getD i elemNone).fault = false) (hc : (s.ile.dyn.elems.getD i elemNone).combo ≠ 0)
    (hdue : (s.ile.dyn.elems.getD i elemNone).combo = 2 ∨
      (s.ile.dyn.elems.getD i elemNone).since + (elemAt (curTable s) i).travel ≤ s.ile.cn) :
    execIleDetectFault t i s = .next (occurU Code.ileDetectFault Src.voter i (eachDyn (fun y => { y with
      elems := updAt y.elems i fun x => { x with fault := true } }) (atT t s))) := by
  refine congrArg Host.Outcome.next (if_pos ?_)
  simp only [Bool.and_eq_true, and_assoc]
  exact ⟨he, decide_eq_true hi, congrArg not hf, decide_eq_true hc, decide_eq_true hdue⟩

theorem execColdHoldEnd_of_due {t h : Nat} {s : State} (hh : s.ile.hold = some h) (hdue : h ≤ max s.gt t) :
    execColdHoldEnd t s = .next { atT t s with ile := { s.ile with hold := none } } := by
  simp [execColdHoldEnd, hh, hdue]

/-! ### Boundary elements (R170) -/

theorem execIleBndTimeout_of_stale {t pair : Nat} {b : BndS} {s : State} (hb : bndOf s pair = some b)
    (hv : b.invalid = false) (hnew : bndNewest s.ile.cn s.cyc.par.bndTimeout b = none) :
    execIleBndTimeout t pair s = .next (occurU Code.ileBndTimeout Src.boundary pair { atT t s with
      ile := { s.ile with
        bnd := s.ile.bnd.map fun x => if x.pair = pair then { x with invalid := true } else x } }) := by
  have hb' : bndOf (atT t s) pair = some b := hb
  simp [execIleBndTimeout, hb', hv, hnew]

/-- Settles O21: each clause is its command's effect where the conditions of its rule hold. -/
theorem interlockingCommandsComplete : Obligations.InterlockingCommandsComplete := by
  refine ⟨?present, ?deadline, ?vote, ?noVote, ?reseed, ?setTimeout, ?release, ?detect, ?hold, ?boundary⟩
  case present =>
    exact fun _ _ _ _ he hl hr hp ht => execLanePresent_of_inTime he hl hr hp (inTime_iff.2 ht)
  case deadline =>
    exact fun _ _ hdue => execPresentationDeadline_of_evald (not_inTime_iff.2 hdue)
  case vote =>
    intro t sweep s htable hn hdue hrun hw he
    have hvotes : ¬ (s.ile.table = none || s.ile.withdrawnNow || !s.ile.evald) = true := by simp [htable, hw, he]
    exact (execVoterUpdate_of_due sweep hn hdue hrun).trans (congrArg Host.Outcome.next (if_neg hvotes))
  case noVote =>
    intro t sweep s hn hdue hrun hno
    have hkeeps : (s.ile.table = none || s.ile.withdrawnNow || !s.ile.evald) = true := by
      simpa [or_assoc] using hno
    exact (execVoterUpdate_of_due sweep hn hdue hrun).trans (congrArg Host.Outcome.next (if_pos hkeeps))
  case reseed => exact fun _ _ _ _ => execReseedTablePhaseDone_of_held
  case setTimeout => exact fun _ _ _ => execPathSetTimeout_of_due
  case release => exact fun _ _ _ => execReleaseDelayElapsed_of_due
  case detect => exact fun _ _ _ => execIleDetectFault_of_due
  case hold => exact fun _ _ _ => execColdHoldEnd_of_due
  case boundary => exact fun _ _ _ _ => execIleBndTimeout_of_stale

end Sys2Proof.Machine

/-! PROOFS. The commands of the stack ring, of global time and of Clover complete: a ring packet that counts goes on and
reaches the module's logic (R238, R261), and each other command has its effect under the conditions of its rule. -/

namespace Sys2Proof.Machine

-- One proof at a time: proofs that wait for one another in parallel each hold a stack against the memory limit.
set_option Elab.async false

/-! ### Ring packets (R237, R238, R261) -/

/-- A ring packet that counts goes on, and then reaches the module's logic. -/
theorem onRing_of_good {ptype t : Nat} {h : PktHdr} {pay : List Nat} {ok : Bool} {s : State} (f : State → State)
    (hg : ringGood ptype h s = true) (hok : ok = true) :
    onRing ptype h pay ok f (atT t s) = f (onward ptype h pay (atT t s)) := by
  simp only [ringGood, Bool.and_eq_true, and_assoc] at hg
  obtain ⟨hport, hpkt, hup, horigin, hdest⟩ := hg
  have hrx : ¬ (!rxUp (atT t s) h.port) = true := by
    have hup' : rxUp (atT t s) h.port = true := hup
    simp [hup']
  have hform : ¬ (!(decide (h.port < 3) && pktOk h ptype && ok)) = true := by simp [hport, hpkt, hok]
  exact (if_neg hrx).trans ((if_neg hform).trans (if_pos (Bool.and_eq_true_iff.2 ⟨horigin, hdest⟩)))

theorem execBeacon_of_good {t : Nat} {h : PktHdr} {data : List Byte} {s : State} (hg : ringGood 0x10 h s = true)
    (hd : data = h.pay) (hlen : data.length = 16) (hpair : field data 0 1 < 8) (hrole : field data 1 1 < 5)
    (hflags : field data 2 1 < 16) (hz : zeros data 3 5 = true) :
    execBeacon t h data s = .next (beaconMaster (field data 0 1) ((field data 2 1).testBit 3)
      (beaconPut ⟨field data 0 1, (onward 0x10 h (payBytes data) (atT t s)).gt,
        (field data 2 1).testBit 0, (field data 2 1).testBit 1, (field data 2 1).testBit 2⟩
        (onward 0x10 h (payBytes data) (atT t s)))) := by
  refine congrArg Host.Outcome.next (onRing_of_good _ hg ?_)
  simp only [Bool.and_eq_true, and_assoc]
  exact ⟨decide_eq_true hd, decide_eq_true hlen, decide_eq_true hpair, decide_eq_true hrole, decide_eq_true hflags, hz⟩

theorem execTime_of_good {t : Nat} {h : PktHdr} {data : List Byte} {s : State} (hg : ringGood 0x11 h s = true)
    (hd : data = h.pay) (hlen : data.length = 8) :
    execTime t h data s = .next (timeTake h.origin (field data 0 8 + Tab.getD s.plv.hop h.port 0)
      (onward 0x11 h (payBytes (le 8 (field data 0 8 + Tab.getD s.plv.hop h.port 0))) (atT t s))) :=
  congrArg Host.Outcome.next
    (onRing_of_good _ hg (Bool.and_eq_true_iff.2 ⟨decide_eq_true hd, decide_eq_true hlen⟩))

theorem execDelay_of_good {t : Nat} {h : PktHdr} {data : List Byte} {s : State} (hg : ringGood 0x14 h s = true)
    (hd : data = h.pay) (hlen : data.length = 28) (hkind : field data 0 4 = 1 ∨ field data 0 4 = 2) :
    execDelay t h data s = .next (delayTake h data (onward 0x14 h (payBytes data) (atT t s))) := by
  refine congrArg Host.Outcome.next (onRing_of_good _ hg ?_)
  simp only [Bool.and_eq_true, Bool.or_eq_true, and_assoc]
  exact ⟨decide_eq_true hd, decide_eq_true hlen, hkind.imp decide_eq_true decide_eq_true⟩

/-! ### Beacons and the master (R262 to R264) -/

theorem execStmEvaluation_of_change {t : Nat} {s : State} (hd : driving s = true)
    (hne : stmOf (atT t s) ≠ s.tim.stmPair) :
    execStmEvaluation t s = .next (occur Code.stmChange pairSrc 0 (stmRate { atT t s with tim := { s.tim with
      stmPair := stmOf (atT t s)
      stm := stmOf (atT t s) = some (pairNum s)
      stmSince := if stmOf (atT t s) = some (pairNum s) ∧ s.tim.stm = false then max s.gt t else s.tim.stmSince
      hold := s.tim.hold && !decide (stmOf (atT t s) = some (pairNum s)) } })) := by
  have hsince : (decide (stmOf (atT t s) = some (pairNum s)) && !s.tim.stm) = true ↔
      stmOf (atT t s) = some (pairNum s) ∧ s.tim.stm = false := by simp
  refine congrArg Host.Outcome.next ((if_pos hd).trans ((if_neg hne).trans ?_))
  simp only [← hsince]
  rfl

theorem execRingLost_of_silent {t pair : Nat} {b : BeaconS} {s : State} (hb : b ∈ newestEach s.plv.beacons)
    (hp : b.pair = pair) (hdue : b.at_ + 10 * ms ≤ max s.gt t) (hnew : pair ∉ s.plv.ringLost) :
    execRingLost t pair s = .next (occurU Code.ringLost pairSrc pair { atT t s with plv := { s.plv with
      ringLost := s.plv.ringLost ++ [pair], sigCycle := Tab.erase s.plv.sigCycle pair } }) := by
  have hsilent : ((newestEach s.plv.beacons).any fun b =>
      b.pair = pair && decide (b.at_ + 10 * ms ≤ max s.gt t)) = true :=
    List.any_eq_true.2 ⟨b, hb, Bool.and_eq_true_iff.2 ⟨decide_eq_true hp, decide_eq_true hdue⟩⟩
  exact congrArg Host.Outcome.next (if_pos (Bool.and_eq_true_iff.2 ⟨hsilent, decide_eq_true hnew⟩))

theorem execSignalsForget_of_due {t pair : Nat} {c : Nat × Nat} {s : State}
    (hc : Tab.find? s.plv.sigCycle pair = some c) (hdue : c.2 + sec ≤ max s.gt t) :
    execSignalsForget t pair s =
      .next { atT t s with plv := { s.plv with sigCycle := Tab.erase s.plv.sigCycle pair } } := by
  have hc' : Tab.find? (atT t s).plv.sigCycle pair = some c := hc
  have hdue' : c.2 + sec ≤ (atT t s).gt := hdue
  simp only [execSignalsForget, hc', if_pos hdue']
  rfl

/-! ### Global time (R213, R226, R479) -/

theorem execStationHold_of_silent {t l : Nat} {s : State} (hm : isStm s = false)
    (hrole : s.mod.tup.role = .solo ∨ s.mod.tup.role = .active) (hrun : s.mod.tup.run ≠ .boot)
    (hl : s.tim.lastTime = some l) (hdue : l + 10 * ms ≤ max s.gt t) :
    execStationHold t s = .next { atT t s with tim := { s.tim with hold := true, within := none } } := by
  refine congrArg Host.Outcome.next (if_pos ?_)
  simp only [Bool.and_eq_true, Bool.or_eq_true, and_assoc]
  exact ⟨congrArg not hm, hrole.imp decide_eq_true decide_eq_true, decide_eq_true hrun, by simp [hl, hdue]⟩

theorem execMgtTod_of_valid {t : Nat} {frame p : List Byte} {s : State} (hp : mgtPayload s 0x12 8 frame = some p)
    (hen : todEn s = true) :
    execMgtTod t frame s = .next { atT t s with tim := { s.tim with
      tod := some (ofLe p, max s.gt t), todAt := some (max s.gt t) } } := by
  simp only [execMgtTod, mgtPayload_atT, hp]
  exact congrArg Host.Outcome.next (if_pos hen)

theorem execPpsEdge_of_stm {t v at_ : Nat} {s : State} (hv : s.tim.tod = some (v, at_)) (hin : max s.gt t < at_ + sec)
    (hm : isStm s = true) :
    execPpsEdge t s = .next (stationError ((v : Int) - (max s.gt t : Nat)) (!srcGood s true)
      { atT t s with tim := { s.tim with tod := none, valid := true } }) := by
  have hv' : (atT t s).tim.tod = some (v, at_) := hv
  simp only [execPpsEdge, hv']
  exact congrArg Host.Outcome.next ((if_pos hin).trans (if_pos hm))

theorem execTodPpsTimeout_of_due {t v at_ : Nat} {s : State} (hv : s.tim.tod = some (v, at_))
    (hdue : at_ + sec ≤ max s.gt t) :
    execTodPpsTimeout t s = .next { atT t s with tim := { s.tim with tod := none } } := by
  have hv' : (atT t s).tim.tod = some (v, at_) := hv
  simp only [execTodPpsTimeout, hv']
  exact congrArg Host.Outcome.next (if_pos hdue)

/-! ### Clover (R231) -/

theorem execCloverLatch_of_due {t : Nat} {s : State} (hst : s.tim.clv.st = 1 ∨ s.tim.clv.st = 2)
    (hdue : s.tim.clv.at_ ≤ max s.gt t) :
    ∃ u, execCloverLatch t s = .next u ∧ u.tim.clv.st = 2 ∧ u.tim.clv.latched = s.tim.clv.latched ++
      (((atT t s).clvPre.getD (cloverCounters (atT t s))).filter fun k => notLatched s.tim.clv k
        && !(k.2.1 < 1024 && latchBarred (atT t s) k.1)).map fun k =>
          (k.1, k.2.1, k.2.2, max s.tim.clv.at_ (max s.gt t)) :=
  ⟨_, congrArg Host.Outcome.next (if_pos ⟨hst, hdue⟩), rfl, rfl⟩

/-- Settles O23: each clause is its command's effect where the conditions of its rule hold. -/
theorem ringAndTimeCommandsComplete : Obligations.RingAndTimeCommandsComplete := by
  refine ⟨?beaconSend, ?beacon, ?master, ?timeSend, ?time, ?delay, ?hold, ?ringLost, ?signals, ?forget, ?boundary,
    ?tod, ?pps, ?todTimeout, ?latch, ?deadline⟩
  case beaconSend => exact fun _ _ hd => congrArg Host.Outcome.next (if_pos hd)
  case beacon => exact fun _ _ _ _ => execBeacon_of_good
  case master => exact fun _ _ => execStmEvaluation_of_change
  case timeSend =>
    exact fun _ _ hm hlater =>
      congrArg Host.Outcome.next (if_pos (Bool.and_eq_true_iff.2 ⟨hm, decide_eq_true hlater⟩))
  case time => exact fun _ _ _ _ => execTime_of_good
  case delay => exact fun _ _ _ _ => execDelay_of_good
  case hold => exact fun _ _ _ => execStationHold_of_silent
  case ringLost => exact fun _ _ _ _ => execRingLost_of_silent
  case signals =>
    exact fun _ _ _ _ hg hd hok =>
      congrArg Host.Outcome.next (onRing_of_good _ hg (Bool.and_eq_true_iff.2 ⟨decide_eq_true hd, hok⟩))
  case forget => exact fun _ _ _ _ => execSignalsForget_of_due
  case boundary => exact fun _ _ _ _ hg hd => congrArg Host.Outcome.next (onRing_of_good _ hg (decide_eq_true hd))
  case tod => exact fun _ _ _ _ => execMgtTod_of_valid
  case pps => exact fun _ _ _ _ hv hin hm => ⟨_, execPpsEdge_of_stm hv hin hm, rfl⟩
  case todTimeout => exact fun _ _ _ _ => execTodPpsTimeout_of_due
  case latch => exact fun _ _ => execCloverLatch_of_due
  case deadline => exact fun _ _ hst hdue => congrArg Host.Outcome.next (if_pos ⟨hst, hdue⟩)

end Sys2Proof.Machine

/-! PROOFS. The voter's safety claim (Table 6.5, R157): no step of an update after the vote grants a permissive, and the
vote grants only what two different lanes presented alike. -/

namespace Sys2Proof.Machine

-- One proof at a time: proofs that wait for one another in parallel each hold a stack against the memory limit.
set_option Elab.async false

/-! ### What leaves the engine's part of the state alone -/

@[simp] theorem occur_ile (code src : Nat) (val : Int) (s : State) : (occur code src val s).ile = s.ile :=
  occur_recording code src val s .ile (by decide)

@[simp] theorem occurU_ile (code src val : Nat) (s : State) : (occurU code src val s).ile = s.ile := occur_ile _ _ _ _

@[simp] theorem occur2_ile (code src a b : Nat) (s : State) : (occur2 code src a b s).ile = s.ile := occur_ile _ _ _ _

@[simp] theorem bucketAdd_ile (u : UnitId) (amt : Nat) (s : State) : (bucketAdd u amt s).ile = s.ile :=
  bucketAdd_only (L := [.faultStore, .faults]) partsWithin onlyChanges_refl .ile (by decide)

@[simp] theorem retireRecord_ile (u : UnitId) (code : Nat) (s : State) : (retireRecord u code s).ile = s.ile :=
  retireRecord_only (L := [.faultStore] ++ recording) partsWithin onlyChanges_refl .ile (by decide)

@[simp] theorem gateClose_ile (blk : Nat) (s : State) : (gateClose blk s).ile = s.ile :=
  gateClose_only (L := [.clocks]) partsWithin onlyChanges_refl .ile (by decide)

@[simp] theorem sliceStop_ile (s : State) : (sliceStop s).ile = s.ile :=
  sliceStop_only (L := [.selfTest, .clocks, .heat]) partsWithin onlyChanges_refl .ile (by decide)

@[simp] theorem setIleState_ile (i : IleState) (s : State) : (setIleState i s).ile = s.ile :=
  setIleState_only (L := [.tuple, .events, .slots]) partsWithin onlyChanges_refl .ile (by decide)

@[simp] theorem noteRefusal_ile (req : Nat) (r : Reason) (s : State) : (noteRefusal req r s).ile = s.ile :=
  noteRefusal_only (L := [.refusal] ++ recording) partsWithin onlyChanges_refl .ile (by decide)

@[simp] theorem statusPoints_ile (wd : Bool) (s : State) : (statusPoints wd s).ile = s.ile :=
  statusPoints_only (L := [.cycle]) partsWithin onlyChanges_refl .ile (by decide)

@[simp] theorem tioRefreshNow_ile (published : Bool) (s : State) : (tioRefreshNow published s).ile = s.ile :=
  tioRefreshNow_only (L := [.tripIo]) partsWithin onlyChanges_refl .ile (by decide)

@[simp] theorem sendBoundary_ile (s : State) : (sendBoundary s).ile = s.ile :=
  sendBoundary_only (L := [.pair, .out]) partsWithin onlyChanges_refl .ile (by decide)

@[simp] theorem sendP0_ile (ptype : Nat) (pay : List Nat) (s : State) : (sendP0 ptype pay s).ile = s.ile :=
  sendP0_only (L := [.pair, .out]) partsWithin onlyChanges_refl .ile (by decide)

/-! ### What keeps the granted permissives -/

theorem foldl_granted {α : Type} {g : State → α → State} (h : ∀ s x, (g s x).ile.granted = s.ile.granted)
    (xs : List α) (s : State) : (xs.foldl g s).ile.granted = s.ile.granted := by
  induction xs generalizing s with
  | nil => rfl
  | cons x _ ih => exact (ih (g s x)).trans (h s x)

@[simp] theorem updLane_granted (l : Lane) (f : LaneS → LaneS) (s : State) :
    (updLane l f s).ile.granted = s.ile.granted := rfl

@[simp] theorem retireLane_granted (l : Lane) (code : Nat) (s : State) :
    (retireLane l code s).ile.granted = s.ile.granted := by
  unfold retireLane
  dsimp only
  split
  next => rfl
  next => split <;> simp

@[simp] theorem laneAgain_granted (l : Lane) (s : State) : (laneAgain l s).ile.granted = s.ile.granted := rfl

@[simp] theorem laneSliceStop_granted (s : State) : (laneSliceStop s).ile.granted = s.ile.granted := by
  unfold laneSliceStop
  split
  next =>
    split
    next => rw [foldl_granted fun s l => laneAgain_granted l s, sliceStop_ile]
    next => simp
  next => rfl

@[simp] theorem reseedLane_granted (l : Lane) (s : State) : (reseedLane l s).ile.granted = s.ile.granted := by
  simp [reseedLane]

@[simp] theorem laneDisagree_granted (l : Lane) (kind : Nat) (s : State) :
    (laneDisagree l kind s).ile.granted = s.ile.granted := by
  unfold laneDisagree
  dsimp only
  split
  next => rfl
  next =>
    split
    next => simp
    next => split <;> simp

@[simp] theorem mirrorVoted_granted (good : List Bool × Nat) (ps : List (Lane × List Bool × Nat)) (s : State) :
    (mirrorVoted good ps s).ile.granted = s.ile.granted := by
  unfold mirrorVoted
  split <;> rfl

@[simp] theorem trialResult_granted (good : List Bool × Nat) (s : State) (l : Lane) :
    (trialResult good s l).ile.granted = s.ile.granted := by
  unfold trialResult
  dsimp only
  split
  next => rfl
  next =>
    split
    next => split <;> simp
    next => rfl

@[simp] theorem stateCopy_granted (s : State) (l : Lane) : (stateCopy s l).ile.granted = s.ile.granted := by
  unfold stateCopy
  split
  next => split <;> rfl
  next => rfl

@[simp] theorem laneBack_granted (s : State) (r : Lane × Bool) : (laneBack s r).ile.granted = s.ile.granted := by
  unfold laneBack
  split
  next => rfl
  next => simp

@[simp] theorem admitRefused_granted (s : State) : (admitRefused s).ile.granted = s.ile.granted := by
  simp [admitRefused, foldl_granted laneBack_granted]

@[simp] theorem voteAdmit_granted (votes : Nat) (s : State) : (voteAdmit votes s).ile.granted = s.ile.granted := by
  unfold voteAdmit
  dsimp only
  split
  next => simp
  next =>
    split
    next => simp
    next => split <;> simp

@[simp] theorem writeEvents_granted (s : State) : (writeEvents s).ile.granted = s.ile.granted := by
  unfold writeEvents
  refine (foldl_granted (fun s e => ?_) _ _).trans rfl
  exact congrArg IleS.granted (occurU_ile e.1 Src.voter e.2 s)

@[simp] theorem opsFinish_granted (s : State) : (opsFinish s).ile.granted = s.ile.granted := by
  unfold opsFinish
  refine (foldl_granted (fun s o => ?_) _ _).trans rfl
  have hcode := congrArg IleS.granted (occur2_ile Code.ileOperator Src.voter o.1.cmd (opCode o.2) s)
  exact hcode

@[simp] theorem carriedTell_granted (s : State) : (carriedTell s).ile.granted = s.ile.granted := by
  unfold carriedTell
  dsimp only
  split <;> simp

@[simp] theorem sweepTake_granted (s : State) : (sweepTake s).ile.granted = s.ile.granted := rfl

/-- What follows the vote in an update drives and reports the granted permissives, and changes none. -/
theorem updateTail_granted (s : State) : (updateTail s).ile.granted = s.ile.granted := by
  unfold updateTail
  extract_lets wd s1 s2 s3 ile3 s4 s5 s6 ile6
  have h1 : s1.ile.granted = s.ile.granted := by
    unfold s1
    split <;> rfl
  have h2 : s2.ile.granted = s1.ile.granted := (opsFinish_granted _).trans (writeEvents_granted s1)
  have h3 : s3.ile.granted = s2.ile.granted := congrArg IleS.granted (statusPoints_ile wd s2)
  have h4 : s4.ile.granted = s3.ile.granted := rfl
  have h5 : s5.ile.granted = s4.ile.granted :=
    congrArg IleS.granted ((sendBoundary_ile _).trans (tioRefreshNow_ile false s4))
  have h6 : s6.ile.granted = s5.ile.granted := by
    unfold s6
    split
    next => rw [sendP0_ile]
    next => rfl
  calc (sweepTake (carriedTell { s6 with ile := { s6.ile with regs := ileRegsNow s6 } })).ile.granted
      = s6.ile.granted := (sweepTake_granted _).trans (carriedTell_granted _)
    _ = s.ile.granted := by rw [h6, h5, h4, h3, h2, h1]

/-! ### What only takes permissives away (R158, R161, R167) -/

theorem ileWithdraw_granted (s : State) : (ileWithdraw s).ile.granted = s.ile.granted.map fun _ => false := by
  unfold ileWithdraw
  dsimp only
  split <;> simp

theorem ileWithdraw_grants_none (s : State) (i : Nat) : (ileWithdraw s).ile.granted.getD i false = false := by
  rw [ileWithdraw_granted]
  exact List.getD_map _ false fun _ => false

/-- A permissive that is granted in `b` was granted in `a`. -/
def grantsNoMore (a b : State) : Prop :=
  ∀ i, b.ile.granted.getD i false = true → a.ile.granted.getD i false = true

theorem grantsNoMore_of_granted {a b : State} (h : b.ile.granted = a.ile.granted) : grantsNoMore a b := by
  intro i hi
  rwa [h] at hi

theorem grantsNoMore_ileWithdraw {a s : State} : grantsNoMore a (ileWithdraw s) := by
  intro i hi
  rw [ileWithdraw_grants_none] at hi
  exact absurd hi Bool.false_ne_true

theorem foldl_grantsNoMore {α : Type} {g : State → α → State} (h : ∀ s x, grantsNoMore s (g s x)) (xs : List α)
    (s : State) : grantsNoMore s (xs.foldl g s) := by
  induction xs generalizing s with
  | nil => exact fun _ hi => hi
  | cons x _ ih => exact fun i hi => h s x i (ih (g s x) i hi)

theorem sweepBuild_grantsNoMore (faults : List (Lane × Bool)) (s : State) (l : Lane) :
    grantsNoMore s (sweepBuild faults s l) := by
  unfold sweepBuild
  split
  next => exact grantsNoMore_of_granted rfl
  next =>
    split
    next => exact grantsNoMore_of_granted (laneDisagree_granted l 5 s)
    next => exact grantsNoMore_ileWithdraw

theorem sweepTables_grantsNoMore (faults : List (Lane × Bool)) (s : State) :
    grantsNoMore s (sweepTables faults s) := by
  unfold sweepTables
  dsimp only
  split
  next => exact grantsNoMore_of_granted (foldl_granted (fun s l => laneDisagree_granted l 5 s) _ s)
  next =>
    split
    next => exact grantsNoMore_of_granted rfl
    next => exact grantsNoMore_ileWithdraw
  next => exact grantsNoMore_of_granted rfl

theorem sweepJudge_grantsNoMore (faults : List (Lane × Bool)) (s : State) : grantsNoMore s (sweepJudge faults s) :=
  fun i hi => sweepTables_grantsNoMore faults s i
    (foldl_grantsNoMore (sweepBuild_grantsNoMore faults) lanes3 (sweepTables faults s) i hi)

/-! ### The vote (Table 6.5) -/

theorem presented_nodup (s : State) : ((presented s).map (·.1)).Nodup := by
  have hlanes : (votable s).Nodup := List.Nodup.filter _ (by decide)
  rw [presented, List.map_filterMap]
  refine hlanes.filterMap ?_
  simp only [Option.mem_def, Option.map_map, Option.map_eq_some_iff]
  rintro l m _ ⟨_, -, rfl⟩ ⟨_, -, h⟩
  exact h.symm

/-- What the vote grants, two different lanes presented. -/
theorem vote_agreed {ps : List (Lane × List Bool × Nat)} {good : List Bool × Nat} (hn : (ps.map (·.1)).Nodup)
    (h : (vote ps).1 = some good) : ∃ x ∈ ps, ∃ y ∈ ps, x.1 ≠ y.1 ∧ x.2 = y.2 ∧ x.2 = good := by
  unfold vote at h
  dsimp only at h
  split at h
  next x y z =>
    simp only [List.map_cons, List.map_nil, List.nodup_cons, List.mem_cons, List.not_mem_nil, or_false, not_or] at hn
    obtain ⟨⟨hxy, hxz⟩, hyz, -⟩ := hn
    by_cases hz : x.2 = y.2
    · exact ⟨x, by simp, y, by simp, hxy, hz, by by_cases hall : y.2 = z.2 <;> simpa [hz, hall] using h⟩
    by_cases hy : x.2 = z.2
    · exact ⟨x, by simp, z, by simp, hxz, hy, by simpa [hz, ← hy] using h⟩
    by_cases hx : y.2 = z.2
    · exact ⟨y, by simp, z, by simp, hyz, hx, by simpa [hz, hy, hx] using h⟩
    exact absurd h (by simp [hz, hy, hx])
  next x y =>
    have hxy : x.1 ≠ y.1 := by simpa using hn
    split_ifs at h with heq
    exact ⟨x, by simp, y, by simp, hxy, heq, Option.some.inj h⟩
  next => exact absurd h (by simp)

theorem voteNone_grants_none (s : State) (i : Nat) : (voteNone s).ile.granted.getD i false = false := by
  unfold voteNone
  split <;> exact ileWithdraw_grants_none _ i

/-- A permissive that the vote of an update leaves granted is of the vector that was voted, on agreed sources. -/
theorem voted_of_granted {faults : List (Lane × Bool)} {s : State} {i : Nat} :
    (voteStep faults s).ile.granted.getD i false = true →
      s.ile.noAgree = false ∧ ∃ good, (vote (presented s)).1 = some good ∧ good.1.getD i false = true := by
  unfold voteStep
  extract_lets ps v s0
  split
  next =>
    intro hi
    rw [voteNone_grants_none] at hi
    exact absurd hi Bool.false_ne_true
  next good hgood =>
    extract_lets s1 s2 s3 s4
    intro hi
    have h1 : s1.ile.granted = good.1 := mirrorVoted_granted good ps _
    have h2 : s2.ile.granted = s1.ile.granted := by
      unfold s2
      split
      next => exact laneDisagree_granted _ _ _
      next => rfl
    have h3 : s3.ile.granted = s2.ile.granted := by
      unfold s3
      rw [foldl_granted stateCopy_granted, foldl_granted (trialResult_granted good)]
    have h4 : s4.ile.granted.getD i false = true := by
      rw [voteAdmit_granted] at hi
      split at hi
      next => exact grantsNoMore_ileWithdraw i hi
      next => exact hi
    have hjudge : grantsNoMore s3 s4 := sweepJudge_grantsNoMore faults s3
    have hvoted := hjudge i h4
    rw [h3, h2, h1] at hvoted
    split_ifs at hgood with hno
    rw [Bool.or_eq_true, not_or, Bool.not_eq_true] at hno
    exact ⟨hno.1, good, hgood, hvoted⟩

/-- Settles O41: what an update leaves granted was voted, and what is voted two different lanes presented. -/
theorem permissivesNeedTwoEqualLanes : Obligations.PermissivesNeedTwoEqualLanes := by
  intro t sweep s u htable hn hdue hrun hw he hu i hi
  have hvotes : ¬ (s.ile.table = none || s.ile.withdrawnNow || !s.ile.evald) = true := by simp [htable, hw, he]
  have hu' : Host.Outcome.next u = .next (updateTail (voteStep sweep (atT t s))) :=
    hu.symm.trans ((execVoterUpdate_of_due sweep hn hdue hrun).trans (congrArg Host.Outcome.next (if_neg hvotes)))
  obtain rfl := Host.Outcome.next.inj hu'
  rw [updateTail_granted] at hi
  obtain ⟨hagree, good, hgood, hi⟩ := voted_of_granted hi
  obtain ⟨x, hx, y, hy, hne, heq, rfl⟩ := vote_agreed (presented_nodup s) hgood
  exact ⟨hagree, x, hx, y, hy, hne, heq, hi⟩

end Sys2Proof.Machine

/-! PROOFS. The tick of D11 (R210, R211): what one tick adds to GT and its fraction, and within what bounds. -/

namespace Sys2Proof.Machine

theorem clampI_bounds {lo hi : Int} (h : lo ≤ hi) (v : Int) : lo ≤ clampI lo hi v ∧ clampI lo hi v ≤ hi :=
  ⟨le_max_left _ _, max_le h (min_le_left _ _)⟩

theorem clampI_of_within {lo hi v : Int} (hlo : lo ≤ v) (hhi : v ≤ hi) : clampI lo hi v = v := by
  rw [clampI, min_eq_right hhi, max_eq_right hlo]

theorem step_of_empty {s : State} (h : s.pending = []) : step s = .next (gtTick s) := by
  rw [step, h]

/-- GT with its fraction, in units of 2^-32 ns (R210). -/
def gtUnits (s : State) : Nat := s.gt * 2 ^ 32 + s.gtFrac

/-- The increment of one tick, held within the bounds of R211. -/
def tickInc (t : TimS) : Int :=
  clampI (3 * ns32) (5 * ns32) (4 * ns32 + 4 * ns32 * t.rate / 1000000000000 + slewShare t)

theorem tickInc_bounds (t : TimS) : 3 * ns32 ≤ tickInc t ∧ tickInc t ≤ 5 * ns32 := clampI_bounds (by decide) _

/-- Without a rate and a slew a tick is 4 ns, which the bounds of R211 let through. -/
theorem tickInc_of_free_running {t : TimS} (hrate : t.rate = 0) (hslew : t.slewTicks = 0) : tickInc t = 4 * ns32 := by
  have hshare : slewShare t = 0 := if_pos hslew
  rw [tickInc, hrate, hshare]
  exact clampI_of_within (by decide) (by decide)

/-- The carry of the fraction into GT loses nothing: whole and rest of the sum by 2^32, which is not negative. -/
theorem gtUnits_gtTick (s : State) : (gtUnits (gtTick s) : Int) = gtUnits s + tickInc s.tim := by
  have hgt : (gtTick s).gt = s.gt + (((s.gtFrac : Int) + tickInc s.tim) / ns32).toNat := rfl
  have hfrac : (gtTick s).gtFrac = (((s.gtFrac : Int) + tickInc s.tim) % ns32).toNat := rfl
  have hlow := (tickInc_bounds s.tim).1
  rw [gtUnits, gtUnits, hgt, hfrac]
  unfold ns32 at *
  omega

/-- Settles O2: an empty queue's step is the tick, whose increment is bounded, and 4 ns without rate and slew. -/
theorem emptyQueueIsOneTick : Obligations.EmptyQueueIsOneTick := by
  intro s hempty
  have hsum : (gtUnits (gtTick s) : Int) = gtUnits s + tickInc s.tim := gtUnits_gtTick s
  obtain ⟨hlow, hhigh⟩ := tickInc_bounds s.tim
  unfold gtUnits at hsum
  unfold ns32 at hlow hhigh
  refine ⟨gtTick s, step_of_empty hempty, gtTick_only (List.Subset.refl _) onlyChanges_refl, ?_, ?_, ?_⟩
  · omega
  · omega
  · intro hrate hslew
    have hinc : tickInc s.tim = 4 * ns32 := tickInc_of_free_running hrate hslew
    unfold ns32 at hinc
    omega

end Sys2Proof.Machine

/-! PROOFS. A packet that R238 does not let in is discarded and counted on its port, whatever command brings it. -/

namespace Sys2Proof.Machine

-- One proof at a time: proofs that wait for one another in parallel each hold a stack against the memory limit.
set_option Elab.async false

/-- What a packet that is not let in leaves (R238): a port that carries packets has counted it. -/
def afterDiscard (t p : Nat) (s : State) : State := if portUp s p then discardPkt p (atT t s) else atT t s

/-- The count is raised, the window of R239 holds the new instant, and a READMIT's second starts anew (Table 17.5). -/
theorem discardPkt_atT (p t : Nat) (s : State) :
    discardPkt p (atT t s) = updPort p (fun y => { y with
      discards := satInc 0xFFFF y.discards
      recent := (y.recent.filter fun i => decide (max s.gt t < i + 1000000)) ++ [max s.gt t]
      readmit := y.readmit.map fun _ => max s.gt t }) (atT t s) := rfl

/-- P0 lets in only what came on it in good form from an authenticated partner, AUTH from any partner. -/
theorem onP0_of_bad {ptype t : Nat} {h : PktHdr} {s : State} (ok : Bool) (f : State → State)
    (hbad : ¬(h.port = 0 ∧ pktOk h ptype = true ∧ (ptype = 0x0E ∨ s.plv.authOk = true))) :
    onP0 ptype h ok f (atT t s) = afterDiscard t h.port s := by
  have hgood : (h.port = 0 && pktOk h ptype && ok && (ptype = 0x0E || (atT t s).plv.authOk)) = false := by
    simp only [Bool.eq_false_iff, ne_eq, Bool.and_eq_true, Bool.or_eq_true, decide_eq_true_eq, atT_plv]
    exact fun ⟨⟨⟨hport, hpkt⟩, _⟩, hpartner⟩ => hbad ⟨hport, hpkt, hpartner⟩
  rw [onP0, hgood, rxUp_atT, rxUp, afterDiscard]
  cases portUp s h.port <;> rfl

/-- The ring lets in only what came on P0, P1 or P2 in good form. -/
theorem onRing_of_bad {ptype t : Nat} {h : PktHdr} {s : State} (pay : List Nat) (ok : Bool) (f : State → State)
    (hbad : ¬(h.port < 3 ∧ pktOk h ptype = true)) :
    onRing ptype h pay ok f (atT t s) = afterDiscard t h.port s := by
  have hgood : (decide (h.port < 3) && pktOk h ptype && ok) = false := by
    simp only [Bool.eq_false_iff, ne_eq, Bool.and_eq_true, decide_eq_true_eq]
    exact fun ⟨hform, _⟩ => hbad hform
  rw [onRing, hgood, rxUp_atT, rxUp, afterDiscard]
  cases portUp s h.port <;> rfl

/-- The command is a P0-only packet of this type: all it does at t comes through the acceptance of P0. -/
def comesByP0 (t ptype : Nat) (h : PktHdr) (i : Instr) (s : State) : Prop :=
  ∃ ok f, exec i s = .next (onP0 ptype h ok f (atT t s))

/-- The command is a ring packet of this type: all it does at t comes through the acceptance of the ring. -/
def comesByRing (t ptype : Nat) (h : PktHdr) (i : Instr) (s : State) : Prop :=
  ∃ pay ok f, exec i s = .next (onRing ptype h pay ok f (atT t s))

theorem exec_of_bad_p0 {t ptype : Nat} {h : PktHdr} {i : Instr} {s : State} (hcomes : comesByP0 t ptype h i s)
    (hbad : ¬(h.port = 0 ∧ pktOk h ptype = true ∧ (ptype = 0x0E ∨ s.plv.authOk = true))) :
    exec i s = .next (afterDiscard t h.port s) := by
  obtain ⟨ok, f, hexec⟩ := hcomes
  rw [hexec, onP0_of_bad ok f hbad]

theorem exec_of_bad_ring {t ptype : Nat} {h : PktHdr} {i : Instr} {s : State} (hcomes : comesByRing t ptype h i s)
    (hbad : ¬(h.port < 3 ∧ pktOk h ptype = true)) : exec i s = .next (afterDiscard t h.port s) := by
  obtain ⟨pay, ok, f, hexec⟩ := hcomes
  rw [hexec, onRing_of_bad pay ok f hbad]

/-- Settles O46: each command comes through the acceptance of P0 or of the ring, which discards what is not let in. -/
theorem badPacketsAreDiscarded : Obligations.BadPacketsAreDiscarded := by
  intro t n k h d m l es fs sm ic cause r rd hdr am x s hx
  rw [← discardPkt_atT, ← afterDiscard]
  obtain ⟨hmem, hbad⟩ | ⟨rfl, hbad⟩ | ⟨hmem, hbad⟩ := hx
  · have hcomes : comesByP0 t x.2 h x.1 s ∧ x.2 ≠ 0x0E := by
      simp only [List.mem_cons, List.not_mem_nil, or_false] at hmem
      obtain rfl | rfl | rfl | rfl | rfl | rfl | rfl | rfl | rfl | rfl | rfl | rfl | rfl | rfl | rfl | rfl | rfl :=
        hmem
      all_goals exact ⟨⟨_, _, rfl⟩, by simp⟩
    obtain ⟨hp0, hnotAuth⟩ := hcomes
    exact exec_of_bad_p0 hp0 fun ⟨hport, hpkt, hpartner⟩ => hbad ⟨hport, hpkt, hpartner.resolve_left hnotAuth⟩
  · exact exec_of_bad_p0 ⟨_, _, rfl⟩ fun ⟨hport, hpkt, _⟩ => hbad ⟨hport, hpkt⟩
  · have hring : comesByRing t x.2 h x.1 s := by
      simp only [List.mem_cons, List.not_mem_nil, or_false] at hmem
      obtain rfl | rfl | rfl | rfl | rfl := hmem
      all_goals exact ⟨_, _, _, rfl⟩
    exact exec_of_bad_ring hring hbad

end Sys2Proof.Machine

/-! PROOFS. What the outcome of R277's test leaves as it is, and the test as a list of conditions (R277, R20). -/

namespace Sys2Proof.Machine

-- One proof at a time: proofs that wait for one another in parallel each hold a stack against the memory limit.
set_option Elab.async false

/-! ### What the decision of the outputs leaves as it is -/

theorem tqOf_tioDecide_on {q : Nat} (hq : q < 12) (s : State) : (tqOf (tioDecide s) q).on = tqEnergised s q := by
  simp only [tqOf, tioDecide, List.getD_eq_getElem?_getD, List.getElem?_map, List.getElem?_range hq]
  cases tioDriving s <;> rfl

/-- The decision sets what follows from an output's state: its latches and its command stay. -/
theorem tqOf_tioDecide_latches {q : Nat} (hq : q < 12) (s : State) :
    (tqOf (tioDecide s) q).faults = (tqOf s q).faults ∧ (tqOf (tioDecide s) q).il = (tqOf s q).il ∧
      (tqOf (tioDecide s) q).cmd = (tqOf s q).cmd := by
  simp only [tqOf, tioDecide, List.getD_eq_getElem?_getD, List.getElem?_map, List.getElem?_range hq]
  cases tioDriving s <;> exact ⟨rfl, rfl, rfl⟩

/-- The decision changes no group but for what an overload has counted. -/
theorem fsOf_tioDecide_supply (s : State) (g : Nat) :
    (fsOf (tioDecide s) g).level = (fsOf s g).level ∧ (fsOf (tioDecide s) g).rising = (fsOf s g).rising := by
  simp only [fsOf, tioDecide]
  cases tioDriving s
  case true => exact ⟨rfl, rfl⟩
  case false =>
    simp only [Bool.false_eq_true, if_false, List.getD_eq_getElem?_getD, List.getElem?_map]
    cases s.tio.fs[g]? <;> exact ⟨rfl, rfl⟩

@[simp] theorem isRetired_tioDecide (s : State) (u : UnitId) : isRetired (tioDecide s) u = isRetired s u := rfl

@[simp] theorem tioDriving_tioDecide (s : State) : tioDriving (tioDecide s) = tioDriving s := rfl

@[simp] theorem tiLevel_tioDecide (s : State) (i : Nat) : tiLevel (tioDecide s) i = tiLevel s i :=
  if_congr Iff.rfl (fsOf_tioDecide_supply s _).1 rfl

@[simp] theorem tiBadFault_tioDecide (s : State) (i : Nat) : tiBadFault (tioDecide s) i = tiBadFault s i := by
  rw [tiBadFault, tiLevel_tioDecide]
  rfl

@[simp] theorem tiQual_tioDecide (s : State) (i : Nat) : tiQual (tioDecide s) i = tiQual s i := by
  rw [tiQual, tiBadFault_tioDecide, tiLevel_tioDecide]
  rfl

@[simp] theorem tiVal_tioDecide (s : State) (i : Nat) : tiVal (tioDecide s) i = tiVal s i := by
  rw [tiVal, tiBadFault_tioDecide]
  rfl

@[simp] theorem pairDemand_tioDecide (s : State) (j : Nat) : pairDemand (tioDecide s) j = pairDemand s j := by
  rw [pairDemand, tiVal_tioDecide, tiVal_tioDecide, tiQual_tioDecide, tiQual_tioDecide]
  rfl

@[simp] theorem tqDemand_tioDecide (s : State) (q : Nat) : tqDemand (tioDecide s) q = tqDemand s q := by
  simp only [tqDemand, pairDemand_tioDecide, tiVal_tioDecide, tiQual_tioDecide]
  rfl

/-- The test of R277 stands as it was after the outputs have taken its outcome. -/
theorem tqEnergised_tioDecide {q : Nat} (hq : q < 12) (s : State) :
    tqEnergised (tioDecide s) q = tqEnergised s q := by
  obtain ⟨hfaults, hil, hcmd⟩ := tqOf_tioDecide_latches hq s
  obtain ⟨hlevel, hrising⟩ := fsOf_tioDecide_supply s (tqGroup q)
  simp only [tqEnergised, hfaults, hil, hcmd, hlevel, hrising, tqDemand_tioDecide]
  rfl

/-! ### The test of R277 -/

/-- The conditions of R277 and R20 for output q, one by one. -/
theorem tqEnergised_iff {q : Nat} {s : State} : tqEnergised s q = true ↔
    isRetired s (.tq q) = false ∧ tqMode s.tio.section_ q ≠ 0 ∧ tioDriving s = true ∧
    ¬((fsOf s (tqGroup q)).level = 3 ∨ (fsOf s (tqGroup q)).rising = true) ∧
    (s.tio.silent = false ∨ (tqMode s.tio.section_ q = 1 ∧ tqHold s.tio.section_ q = true)) ∧
    (tqOf s q).faults = [] ∧
    (tqMode s.tio.section_ q = 2 → s.tio.ccvOk = true ∧ tqDemand s q = false ∧ (tqOf s q).il = false) ∧
    s.tio.perms.getD q none ≠ some false ∧ (tqOf s q).cmd = true := by
  rw [tqEnergised]
  cases s.tio.perms.getD q none with
  | none => simp [imp_iff_not_or, and_assoc]
  | some granted => cases granted <;> simp [imp_iff_not_or, and_assoc]

/-- Settles O42: a refresh decides the outputs, and the test of R277 reads nothing that the decision sets. -/
theorem tripOutputsFollowTheTest : Obligations.TripOutputsFollowTheTest := by
  intro t q s hq
  refine ⟨tioRefreshNow false (atT t s), rfl, ?_⟩
  rw [tioRefreshNow, tqOf_tioDecide_on hq, ← tqEnergised_tioDecide hq]
  exact tqEnergised_iff

end Sys2Proof.Machine

/-! PROOFS. The commands of the trip inputs and outputs complete: each under the conditions of its rule (R271 to R291). -/

namespace Sys2Proof.Machine

-- One proof at a time: proofs that wait for one another in parallel each hold a stack against the memory limit.
set_option Elab.async false

/-! ### The sample window (R271, R290) -/

-- A window is taken without a change to the parameters, to the clocks or to who drives.

theorem tioLoaded_windowTaken (e : Nat) (w : Option Nat) (s : State) :
    tioLoaded (tiKeep e { s with tio := { s.tio with win := w } }) = tioLoaded s := by
  rw [tiKeep]
  split <;> rfl

theorem fircOnly_windowTaken (e : Nat) (w : Option Nat) (s : State) :
    fircOnly (tiKeep e { s with tio := { s.tio with win := w } }) = fircOnly s := by
  rw [tiKeep]
  split <;> rfl

theorem tioDriving_windowTaken (e : Nat) (w : Option Nat) (s : State) :
    tioDriving (tiKeep e { s with tio := { s.tio with win := w } }) = tioDriving s := by
  rw [tiKeep]
  split <;> rfl

theorem execTioSampleWindow_of_new {t : Nat} {s : State} (m : TioMeas) (hin : max s.gt t % (500 * us) ≤ 20 * us)
    (hnew : s.tio.win ≠ some (max s.gt t / (500 * us))) :
    execTioSampleWindow t m s = .next (sampleWindow m (atT t s)) :=
  congrArg Host.Outcome.next (if_pos (Bool.and_eq_true_iff.2 ⟨decide_eq_true hin, decide_eq_true hnew⟩))

/-- Whatever a window finds, it ends with the registers as they then stand. -/
theorem sampleWindow_regs (m : TioMeas) (s : State) :
    (sampleWindow m s).tio.regs = tioRegsNow (sampleWindow m s) := by
  rw [sampleWindow]
  dsimp only
  split <;> rfl

/-! ### Refreshes and inputs -/

theorem execTioLinkSilent_of_due {t : Nat} {s : State} (hl : tioLoaded s = true) (hheard : s.tio.silent = false)
    (hdue : s.tio.lastRefresh + field s.tio.section_ 14 2 * ms ≤ max s.gt t) :
    execTioLinkSilent t s = .next (tioDecide (latchAll (List.range 12)
      (occur Code.tioLinkSilent Src.tio 0 { atT t s with tio := { s.tio with silent := true } }))) := by
  have hguard : (tioLoaded (atT t s) && !(atT t s).tio.silent
      && decide ((atT t s).tio.lastRefresh + field (atT t s).tio.section_ 14 2 * ms ≤ (atT t s).gt)) = true := by
    simp [hl, hheard, hdue]
  exact congrArg Host.Outcome.next (if_pos hguard)

theorem execPairDisc_of_due {t pair d : Nat} {s : State} (hpair : tiPair s.tio.section_ pair ≠ 0)
    (hd : (tiOf s (2 * pair)).disc = false) (hsince : (tiOf s (2 * pair)).discSince = some d)
    (hdue : d + (tiDisc s.tio.section_ pair * ms + 1) ≤ max s.gt t) :
    execPairDisc t pair s = .next (tioDecide (latchDemand ((List.range 12).filter fun q => tqDemand s q)
      (tioFault (2 * pair) 3 (updTi (2 * pair) (fun c => { c with disc := true }) (atT t s))))) := by
  have hheld : held (tiOf s (2 * pair)).discSince (tiDisc s.tio.section_ pair * ms + 1) (max s.gt t) = true :=
    held_of_since hsince hdue
  have hguard : (tiPair (atT t s).tio.section_ pair ≠ 0 && !(tiOf (atT t s) (2 * pair)).disc
      && held (tiOf (atT t s) (2 * pair)).discSince (tiDisc (atT t s).tio.section_ pair * ms + 1) (atT t s).gt) =
        true := by
    simp [hpair, hd, hheld]
  exact congrArg Host.Outcome.next (if_pos hguard)

theorem execSinkCheck_of_pass {t i : Nat} {s : State} (hdrv : tioDriving s = true)
    (hmode : tiMode s.tio.section_ i ≠ 0) (hr : isRetired s (.ti i) = false) (hi : i < 24) :
    execSinkCheck t i true s = .next (updTi i (fun c => { c with sinkFault := none }) (atT t s)) := by
  have hguard : ¬ (!tioDriving (atT t s) || decide (tiMode (atT t s).tio.section_ i = 0)
      || isRetired (atT t s) (.ti i) || decide (24 ≤ i)) = true := by simp [hdrv, hmode, hr, hi]
  exact congrArg Host.Outcome.next ((if_neg hguard).trans (if_pos rfl))

/-! ### Readback and overcurrent (R278) -/

theorem not_latched_of_ne {l : List (Nat × Nat)} {code : Nat} (h : ∀ f ∈ l, f.1 ≠ code) :
    (l.any fun f => decide (f.1 = code)) = false :=
  List.any_eq_false.2 fun f hf => by simp [h f hf]

theorem execTioReadback_of_due {t q b : Nat} {s : State} (hdrv : tioDriving s = true)
    (hb : (tqOf s q).breach = some b) (hdue : b + 2 * ms ≤ max s.gt t) (hnew : ∀ f ∈ (tqOf s q).faults, f.1 ≠ 12) :
    execTioReadback t q s = .next (tqChannelFault q 12 (atT t s)) := by
  have hguard : (tioDriving (atT t s) && held (tqOf (atT t s) q).breach (2 * ms) (atT t s).gt
      && !((tqOf (atT t s) q).faults.any fun f => decide (f.1 = 12))) = true := by
    simp only [tioDriving_atT, tqOf_atT, atT_gt, hdrv, held_of_since hb hdue, not_latched_of_ne hnew]
    rfl
  exact congrArg Host.Outcome.next (if_pos hguard)

/-- A short needs no time, an overcurrent its 5 ms. -/
theorem execOvercurrent_of_due {t q : Nat} {short : Bool} {s : State} (hdrv : tioDriving s = true)
    (hdue : (short || held (tqOf s q).ovr (5 * ms + 1) (max s.gt t)) = true) :
    execOvercurrent t q short s = .next (tioDecide (tqFieldFault q 6 (atT t s))) :=
  congrArg Host.Outcome.next (if_pos (Bool.and_eq_true_iff.2 ⟨hdrv, hdue⟩))

theorem execGroupOverload_of_due {t g o : Nat} {s : State} (hdrv : tioDriving s = true)
    (ho : (fsOf s g).ovr = some o) (hdue : o + 5 * ms ≤ max s.gt t) (hout : overloads s g ≠ []) :
    execGroupOverload t g s = .next (tioDecide (tioFault (0x60 + g) 7
      ((overloads s g).foldl (fun s q => tqLatch q 7 s) (atT t s)))) := by
  have hguard : (tioDriving (atT t s) && held (fsOf (atT t s) g).ovr (5 * ms) (atT t s).gt
      && !(overloads (atT t s) g).isEmpty) = true := by
    have hheld : held (fsOf s g).ovr (5 * ms) (max s.gt t) = true := held_of_since ho hdue
    simp [hdrv, hheld, hout]
  exact congrArg Host.Outcome.next (if_pos hguard)

/-! ### Dark tests and shorts (R279, R280) -/

theorem execDarkTestStart_of_due {t q : Nat} {s : State} (hon : (tqOf s q).on = true)
    (hrun : darkRuns (atT t s) q = false) (hlevel : (fsOf s (tqGroup q)).level ≤ 1)
    (hquiet : tioQuiet (atT t s) = false) (hfirst : s.tio.lastDark = none) (hdue : darkDue (atT t s) q = true) :
    execDarkTestStart t q s = .next (updTq q (fun c => { c with
      dark := some (!c.nextLow, max s.gt t, c.current.toNat)
      lastHigh := if c.nextLow then c.lastHigh else some (max s.gt t)
      lastLow := if c.nextLow then some (max s.gt t) else c.lastLow
      nextLow := !c.nextLow })
      { atT t s with tio := { s.tio with lastDark := some (max s.gt t) } }) := by
  have hguard : ((tqOf (atT t s) q).on && !darkRuns (atT t s) q
      && decide ((fsOf (atT t s) (tqGroup q)).level ≤ 1) && !tioQuiet (atT t s)
      && (decide ((atT t s).tio.lastDark = none) || held (atT t s).tio.lastDark ms (atT t s).gt)
      && darkDue (atT t s) q) = true := by
    simp [hon, hrun, hlevel, hquiet, hfirst, hdue]
  exact congrArg Host.Outcome.next (if_pos hguard)

/-- A test of the low switch with no current read through it: what the high switch passes decides between a pass and
a short across it. -/
theorem execDarkTestEnd_of_lowPass {t q a p : Nat} {m : DarkMeas} {s : State}
    (hd : (tqOf s q).dark = some (false, a, p)) (hrun : darkRuns (atT t s) q = true) (hlo : m.loCur < 2000)
    (hhi : m.hiCur < 2000) :
    execDarkTestEnd t q m s = .next (tioDecide (updTq q (fun c => { c with dark := none }) (atT t s))) := by
  have hd' : (tqOf (atT t s) q).dark = some (false, a, p) := hd
  simp only [execDarkTestEnd, hd', hrun]
  simp [Nat.not_le.2 hlo, Nat.not_le.2 hhi]

theorem execDarkTestEnd_of_lowFail {t q a p : Nat} {m : DarkMeas} {s : State}
    (hd : (tqOf s q).dark = some (false, a, p)) (hrun : darkRuns (atT t s) q = true) (hlo : 2000 ≤ m.loCur) :
    execDarkTestEnd t q m s =
      .next (tioDecide (tqChannelFault q 11 (updTq q (fun c => { c with dark := none }) (atT t s)))) := by
  have hd' : (tqOf (atT t s) q).dark = some (false, a, p) := hd
  simp only [execDarkTestEnd, hd', hrun]
  simp [hlo]

theorem execShortToSupply_of_due {t q h : Nat} {s : State} (hdrv : tioDriving s = true)
    (hup : (tqOf s q).heldUp = some h) (hdue : h + field s.tio.section_ 10 2 * sec ≤ max s.gt t)
    (hr : isRetired s (.tq q) = false) (hnew : ∀ f ∈ (tqOf s q).faults, f.1 ≠ 8) :
    execShortToSupply t q s = .next (retireTq q 9 (tioFault (0x40 + q) 9 (atT t s))) := by
  have hguard : (tioDriving (atT t s)
      && held (tqOf (atT t s) q).heldUp (field (atT t s).tio.section_ 10 2 * sec) (atT t s).gt
      && !isRetired (atT t s) (.tq q) && !((tqOf (atT t s) q).faults.any fun f => decide (f.1 = 8))) = true := by
    simp only [tioDriving_atT, tqOf_atT, atT_gt, atT_tio, isRetired_atT, hdrv, hr, held_of_since hup hdue,
      not_latched_of_ne hnew]
    rfl
  exact congrArg Host.Outcome.next (if_pos hguard)

/-! ### Field supplies and the end of the overlap (R282, R291) -/

theorem execTioSupplyDown_of_lower {t g l : Nat} {s : State}
    (hl : ([3, 2, 1].find? fun l => held ((fsOf s g).below.getD (l - 1) none) ms (max s.gt t)) = some l)
    (hlower : (fsOf s g).level < l) : execTioSupplyDown t g s = .next (fsTake g l (atT t s)) := by
  simp only [execTioSupplyDown, fsOf_atT, atT_gt, hl]
  exact congrArg Host.Outcome.next (if_pos hlower)

theorem execTioSupplyUp_of_higher {t g l : Nat} {s : State}
    (hl : ([0, 1, 2].find? fun l => held ((fsOf s g).above.getD l none) (50 * ms) (max s.gt t)) = some l)
    (hhigher : l < (fsOf s g).level) : execTioSupplyUp t g s = .next (fsTake g l (atT t s)) := by
  simp only [execTioSupplyUp, fsOf_atT, atT_gt, hl]
  exact congrArg Host.Outcome.next (if_pos hhigher)

theorem execTioOverlapEnd_of_due {t e : Nat} {s : State} (ho : s.tio.overlap = some e) (hdue : e ≤ max s.gt t) :
    execTioOverlapEnd t s = .next (ejectFinish (tioDecide { atT t s with tio := { s.tio with
      overlap := none, drive := tioDriver s } })) := by
  simp only [execTioOverlapEnd, atT_tio, ho]
  exact congrArg Host.Outcome.next (if_pos hdue)

/-- Settles O25: each clause is its command's effect where the conditions of its rule hold. -/
theorem tripIoCommandsComplete : Obligations.TripIoCommandsComplete := by
  refine ⟨?sample, ?refresh, ?silent, ?disc, ?sink, ?readback, ?short, ?overcurrent, ?overload, ?darkStart, ?darkPass,
    ?darkFail, ?toSupply, ?measure, ?down, ?up, ?overlapEnd⟩
  case sample =>
    intro t m s hl hf hin hnew
    refine ⟨_, execTioSampleWindow_of_new m hin hnew, sampleWindow_regs m _, fun hmon => ?_⟩
    -- The fields that a window reads are brought to s before the stamp's own are.
    simp only [sampleWindow, tioLoaded_windowTaken, fircOnly_windowTaken, tioDriving_windowTaken, tioLoaded_atT,
      fircOnly_atT, tioDriving_atT, hl, hf, hmon, Bool.not_true, Bool.or_self, Bool.false_or, Bool.false_eq_true,
      if_false]
    simp only [atT_gt, atT_tio]
  case refresh => exact fun _ _ => rfl
  case silent => exact fun _ _ => execTioLinkSilent_of_due
  case disc => exact fun _ _ _ _ => execPairDisc_of_due
  case sink => exact fun _ _ _ => execSinkCheck_of_pass
  case readback => exact fun _ _ _ _ => execTioReadback_of_due
  case short => exact fun _ _ _ hdrv => execOvercurrent_of_due hdrv rfl
  case overcurrent => exact fun _ _ _ _ hdrv ho hdue => execOvercurrent_of_due hdrv (held_of_since ho hdue)
  case overload => exact fun _ _ _ _ => execGroupOverload_of_due
  case darkStart => exact fun _ _ _ => execDarkTestStart_of_due
  case darkPass => exact fun _ _ _ _ _ _ => execDarkTestEnd_of_lowPass
  case darkFail => exact fun _ _ _ _ _ _ => execDarkTestEnd_of_lowFail
  case toSupply => exact fun _ _ _ _ => execShortToSupply_of_due
  case measure => exact fun _ _ _ _ => rfl
  case down => exact fun _ _ _ _ => execTioSupplyDown_of_lower
  case up => exact fun _ _ _ _ => execTioSupplyUp_of_higher
  case overlapEnd => exact fun _ _ _ => execTioOverlapEnd_of_due

end Sys2Proof.Machine

/-! PROOFS. The commands of the analog loops complete: each under the conditions of its rule (R296 to R310). -/

namespace Sys2Proof.Machine

-- One proof at a time: proofs that wait for one another in parallel each hold a stack against the memory limit.
set_option Elab.async false

/-! ### Conversions and refreshes (R296, R302) -/

theorem execAlpConversion_of_due {t x : Nat} {na raw mv : Int} {nh : Bool} {s : State}
    (hmode : (alPar s x).mode ≠ .off) (hx : x < 4) (hfirc : fircOnly s = false)
    (hdue : (alCh s x).lastConv + alConvTime (alCh s x).clk ≤ max s.gt t) :
    execAlpConversion t x na raw mv nh s = .next (alRegsTake (alDeliver x mv (alSettle x (alJudge x
      (alLimiter (alPar s x) nh na)
      (alMeasure x na raw mv (alSettle x (alKeep x (feTest x (atT t s))))))))) := by
  have hguard : ¬ ((alPar (atT t s) x).mode = .off || 4 ≤ x || fircOnly (atT t s)
      || (atT t s).gt < (alCh (atT t s) x).lastConv + alConvTime (alCh (atT t s) x).clk) = true := by
    simp [hmode, hx, hfirc, Nat.not_lt.2 hdue, -lt_sup_iff]
  exact congrArg Host.Outcome.next (if_neg hguard)

theorem execAlpLogicSilent_of_due {t x : Nat} {s : State} (hmode : (alPar s x).mode ≠ .off)
    (hdue : (alCh s x).lastRefresh + (alPar s x).timeout ≤ max s.gt t) :
    execAlpLogicSilent t x s = .next (alSettle x (updAl x (fun c => { c with silent := true }) (atT t s))) :=
  congrArg Host.Outcome.next (if_pos (Bool.and_eq_true_iff.2 ⟨decide_eq_true hmode, decide_eq_true hdue⟩))

/-! ### Channel faults (R300, R301) -/

/-- The shape of the three timed conditions: a mode, a time held, and no fault or event of it yet. -/
theorem guard_of_due {b latched : Bool} {o : Option Nat} {w d now : Nat} (hb : b = true) (ho : o = some w)
    (hdue : w + d ≤ now) (hnew : latched = false) : (b && held o d now && !latched) = true := by
  rw [hb, held_of_since ho hdue, hnew]
  rfl

theorem execAlpReadback_of_due {t x r : Nat} {s : State} (hmode : alDrives (alPar s x).mode = true)
    (hr : (alCh s x).readback = some r) (hdue : r + 100 * ms ≤ max s.gt t) (hnew : alHas (alCh s x) 1 = false) :
    execAlpReadback t x s = .next (alFault x 1 (atT t s)) :=
  congrArg Host.Outcome.next (if_pos (guard_of_due hmode hr hdue hnew))

theorem execOverrange_of_due {t x r : Nat} {s : State} (hmode : (alPar s x).mode = .input)
    (hr : (alCh s x).readback = some r) (hdue : r + 100 * ms ≤ max s.gt t) (hnew : alHas (alCh s x) 3 = false) :
    execOverrange t x s = .next (alFault x 3 (atT t s)) :=
  congrArg Host.Outcome.next (if_pos (guard_of_due (decide_eq_true hmode) hr hdue hnew))

theorem execFeSilent_of_sinkDue {t x : Nat} {s : State} (hmode : (alPar s x).mode = .sink)
    (hen : (alCh s x).en = true) (hdue : (alCh s x).lastConv + 32 * ms ≤ max s.gt t)
    (hnew : alHas (alCh s x) 5 = false) :
    execFeSilent t x s =
      .next (alFault x 5 (updAl x (fun c => { c with clk := 0, fit := none, convs := [] }) (atT t s))) := by
  have hguard :
      ((alCh s x).en && decide ((alCh s x).lastConv + 32 * ms ≤ max s.gt t) && !alHas (alCh s x) 5) = true := by
    simp [hen, hdue, hnew]
  simp only [execFeSilent, alPar_atT, alCh_atT, atT_gt, hmode]
  exact congrArg Host.Outcome.next (if_pos hguard)

theorem execFeSilent_of_sourceDue {t x : Nat} {s : State} (hmode : (alPar s x).mode = .source)
    (hdue : (alCh s x).lastConv + ms ≤ max s.gt t) (hnew : alHas (alCh s x) 4 = false) (hfirc : fircOnly s = false) :
    execFeSilent t x s = .next (alFault x 4 (atT t s)) := by
  have hguard : (decide ((alCh s x).lastConv + ms ≤ max s.gt t) && !alHas (alCh s x) 4 && !fircOnly s) = true := by
    simp [hdue, hnew, hfirc]
  simp only [execFeSilent, alPar_atT, alCh_atT, fircOnly_atT, atT_gt, hmode]
  exact congrArg Host.Outcome.next (if_pos hguard)

/-- The reference check of an operating front end ends its fault or raises it. -/
theorem execFeCheck_of_on {t x : Nat} (ok : Bool) {s : State} (hmode : (alPar s x).mode ≠ .off)
    (hfirc : fircOnly s = false) :
    execFeCheck t x ok s = .next (if ok then alClear x 6 (atT t s) else alFault x 6 (atT t s)) := by
  have hguard : ¬ ((alPar (atT t s) x).mode = .off || fircOnly (atT t s)) = true := by
    simp [hmode, hfirc]
  exact congrArg Host.Outcome.next (if_neg hguard)

theorem execAlCompliance_of_due {t x k : Nat} {s : State} (hk : (alCh s x).compl = some k)
    (hdue : k + 2 * sec ≤ max s.gt t) (hnew : (alCh s x).complNoted = false) :
    execAlCompliance t x s = .next (occur Code.alCompliance (Src.al x) 0
      (updAl x (fun c => { c with complNoted := true }) (atT t s))) :=
  congrArg Host.Outcome.next (if_pos (guard_of_due (b := true) rfl hk hdue hnew))

/-! ### The clock of a SINK front end and the ramp of a handover (R304, R310) -/

theorem execAlpClockStepUp_of_due {t x f : Nat} {s : State} (hmode : (alPar s x).mode = .sink)
    (hf : (alCh s x).fit = some f) (hdue : f + 50 * ms ≤ max s.gt t) (hclk : (alCh s x).clk < 5) :
    execAlpClockStepUp t x s = .next (updAl x (fun c => { c with
      clk := c.clk + 1
      fit := if c.clk + 1 < 5 ∧ (alDraw (c.clk + 2) : Int) ≤ alAvail (max s.gt t) c.convs then some (max s.gt t)
        else none }) (atT t s)) := by
  have hguard : ((alPar (atT t s) x).mode = .sink && held (alCh (atT t s) x).fit (50 * ms) (atT t s).gt
      && decide ((alCh (atT t s) x).clk < 5)) = true :=
    Bool.and_eq_true_iff.2
      ⟨Bool.and_eq_true_iff.2 ⟨decide_eq_true hmode, held_of_since hf hdue⟩, decide_eq_true hclk⟩
  exact congrArg Host.Outcome.next (if_pos hguard)

theorem execAlpRampEnd_of_due {t t0 : Nat} {up : Bool} {s : State} (hramp : s.alp.ramp = some (up, t0))
    (hdue : t0 + 2 * ms ≤ max s.gt t) :
    execAlpRampEnd t s =
      .next (ejectFinish (alSettleAll { atT t s with alp := { s.alp with ramp := none } })) := by
  simp only [execAlpRampEnd, atT_alp, hramp]
  exact congrArg Host.Outcome.next (if_pos hdue)

/-! ### HART (R306, R307) -/

theorem execHartResponse_of_identified {t x a k : Nat} {r : HartReply} {s : State}
    (hjob : (alCh s x).job = some (.identify, a, k)) (hok : r.commErr = false) :
    execHartResponse t x r s = .next (hartEnd x false (updAl x (fun c => { c with known := true }) (atT t s))) := by
  simp only [execHartResponse, alCh_atT, hjob, hok]
  rfl

theorem execHartTimeout_of_due {t x a k : Nat} {j : HartJob} {s : State} (hjob : (alCh s x).job = some (j, a, k))
    (hdue : a + 500 * ms ≤ max s.gt t) : execHartTimeout t x s = .next (hartFailed x (atT t s)) := by
  simp only [execHartTimeout, alCh_atT, hjob]
  exact congrArg Host.Outcome.next (if_pos hdue)

/-- The answer is of the request's format, with the two status bytes 0 before its data (R307, log entry 14). -/
theorem execHartRequest_of_answer {t x cmd : Nat} {r : HartReq} {d : List Byte} {s : State}
    (hmode : (alPar s x).mode = .sink) (hen : (alCh s x).en = true) (hx : x < 4) (hmine : hartMine r = true)
    (hclk : 2 ≤ (alCh s x).clk) (hd : hartAnswer s x cmd = some d) :
    execHartRequest t x cmd r s = .next { atT t s with
      alp := { s.alp with transactions := satInc 0xFFFF s.alp.transactions }
      free := s.free + 1
      out := s.out ++ [.hart x r.long cmd ([0, 0] ++ d)] } := by
  have hheard : ¬ ((alPar (atT t s) x).mode ≠ .sink || !(alCh (atT t s) x).en || 4 ≤ x || !hartMine r) = true := by
    simp [hmode, hen, hmine, hx]
  have hfast : ¬ (alCh (atT t s) x).clk < 2 := by rwa [alCh_atT, Nat.not_lt]
  simp only [execHartRequest, if_neg hheard, if_neg hfast, hartAnswer_atT, hd]
  rfl

/-- Settles O26: each clause is its command's effect where the conditions of its rule hold. -/
theorem analogLoopCommandsComplete : Obligations.AnalogLoopCommandsComplete := by
  refine ⟨?conversion, ?refresh, ?logicSilent, ?readback, ?overrange, ?sinkSilent, ?sourceSilent, ?checkPass,
    ?checkFail, ?compliance, ?stepUp, ?rampEnd, ?response, ?timeout, ?request⟩
  case conversion => exact fun _ _ _ _ _ _ _ => execAlpConversion_of_due
  case refresh => exact fun _ _ _ => rfl
  case logicSilent => exact fun _ _ _ => execAlpLogicSilent_of_due
  case readback => exact fun _ _ _ _ => execAlpReadback_of_due
  case overrange => exact fun _ _ _ _ => execOverrange_of_due
  case sinkSilent => exact fun _ _ _ => execFeSilent_of_sinkDue
  case sourceSilent => exact fun _ _ _ => execFeSilent_of_sourceDue
  case checkPass =>
    exact fun _ _ _ hmode hfirc =>
      (execFeCheck_of_on true hmode hfirc).trans (congrArg Host.Outcome.next (if_pos rfl))
  case checkFail =>
    exact fun _ _ _ hmode hfirc =>
      (execFeCheck_of_on false hmode hfirc).trans (congrArg Host.Outcome.next (if_neg Bool.false_ne_true))
  case compliance => exact fun _ _ _ _ => execAlCompliance_of_due
  case stepUp => exact fun _ _ _ _ => execAlpClockStepUp_of_due
  case rampEnd => exact fun _ _ _ _ => execAlpRampEnd_of_due
  case response => exact fun _ _ _ _ _ _ => execHartResponse_of_identified
  case timeout => exact fun _ _ _ _ _ _ => execHartTimeout_of_due
  case request => exact fun _ _ _ _ _ _ => execHartRequest_of_answer

end Sys2Proof.Machine

/-! PROOFS. The queue, what every command leaves of it, and the frames of the interlocking, pair, ring, power, boot,
input, output, clock and fault commands, from the frame of every command (`exec_only`). -/

namespace Sys2Proof.Machine

-- One proof at a time: proofs that wait for one another in parallel each hold a stack against the memory limit.
set_option Elab.async false

/-- Settles O1: the step takes the front command off the queue, which restores the state it was put before. -/
theorem stepRunsFrontCommand : Obligations.StepRunsFrontCommand := by
  intro c s
  change exec c { s with pending := s.pending } = exec c s
  rfl

/-- Every arm of `exec` is a meaning that answers `.next`: no command of the table is left without one. -/
theorem exec_next (c : Instr) (s : State) : ∃ u, exec c s = .next u := by
  cases c <;> exact ⟨_, rfl⟩

/-- Settles O3: the next state that each command answers. -/
theorem everyCommandGoesOn : Obligations.EveryCommandGoesOn := by
  intro c s
  obtain ⟨u, hu⟩ := exec_next c s
  rw [hu]
  rfl

/-- Safety lists the queue for no command. -/
theorem queue_notMem_mayChange (c : Instr) : Part.queue ∉ mayChange c := by
  cases c <;> exact of_decide_eq_false rfl

/-- Settles O7: the queue is a part, and no command's list holds it. -/
theorem commandsLeaveTheQueue : Obligations.CommandsLeaveTheQueue :=
  fun c _ _ h => exec_only h .queue (queue_notMem_mayChange c)

/-- Settles O57: each command of the three families by its frame. -/
theorem interlockingPairAndRingCommandsChangeOnlyTheirParts :
    Obligations.InterlockingPairAndRingCommandsChangeOnlyTheirParts :=
  fun _ _ _ _ h => exec_only h

/-- Settles O58: each command of the two families by its frame. -/
theorem powerAndBootCommandsChangeOnlyTheirParts : Obligations.PowerAndBootCommandsChangeOnlyTheirParts :=
  fun _ _ _ _ h => exec_only h

/-- Settles O59: each command of the three families by its frame. -/
theorem inputOutputCommandsChangeOnlyTheirParts : Obligations.InputOutputCommandsChangeOnlyTheirParts :=
  fun _ _ _ _ h => exec_only h

/-- Settles O60: each command of the two families by its frame. -/
theorem clockAndFaultCommandsChangeOnlyTheirParts : Obligations.ClockAndFaultCommandsChangeOnlyTheirParts :=
  fun _ _ _ _ h => exec_only h

end Sys2Proof.Machine

/-! PROOFS. The grant of a command (Table 13.8, R343 to R350): when it passes. -/

namespace Sys2Proof.Machine

/-- A check that answers a status where its condition fails. -/
theorem check_eq_none_iff {c : Prop} [Decidable c] {st : Status} {x : Option Status} :
    (if c then some st else x) = none ↔ ¬c ∧ x = none := by
  split <;> simp [*]

/-- Table 13.8 from check 2 on: a grant passes exactly when each check lets it through. -/
theorem grantCheck_eq_none_iff {s : State} {hold free actionOk : Bool} {role : Option Nat} {tgt : List Byte → Bool}
    {g : Grant} :
    grantCheck s hold free role actionOk tgt g = none ↔
      (g.magic = 0x544E5247 ∧ g.format = 1 ∧ g.reservedZero = true ∧ g.flags = b2n hold) ∧
      ∃ k, Tab.find? s.nva.keys g.keySlot = some k ∧ g.serial = s.mod.serial ∧ actionOk = true ∧
        (∃ r, role = some r ∧ k.roles.testBit r = true) ∧ expiryOk s hold free g = true ∧ tgt g.target = true ∧
        grantSigned g k = true ∧ nonceHeld s g.nonce = false ∧ nonceCount s < 4096 := by
  unfold grantCheck
  rw [check_eq_none_iff]
  refine and_congr (by simp [and_assoc]) ?_
  cases hk : Tab.find? s.nva.keys g.keySlot with
  | none => simp
  | some k =>
    simp only [check_eq_none_iff]
    cases role <;> simp

/-- Check 7 for a single-use grant, as R347 and R469 read it. -/
theorem expiryOk_single_iff {s : State} {free : Bool} {g : Grant} :
    expiryOk s false free g = true ↔ s.fwu.speedwell = true ∨ (s.gt < g.expiry ∧
      (s.tim.valid = true → g.expiry ≤ s.gt + 3600 * 1000000000) ∧ (s.tim.valid = false → free = true)) := by
  cases hvalid : s.tim.valid <;> simp [expiryOk, hvalid, sec]

/-- Check 9: no grant that holds the NONCE is still before its EXPIRY (R345). -/
theorem nonceHeld_eq_false_iff {s : State} {n : Nat} :
    nonceHeld s n = false ↔ ∀ p ∈ s.nva.nonces, s.gt < p.2 → p.1 ≠ n := by
  simp only [nonceHeld, List.any_eq_false, Bool.and_eq_true, decide_eq_true_eq, not_and]
  exact forall₂_congr fun _ _ => imp_not_comm

/-- Settles O33: the checks of Table 13.8, each in the words of its rule. -/
theorem grantPassesEveryCheck : Obligations.GrantPassesEveryCheck := by
  intro s free role action tgt g
  rw [grantCheck_eq_none_iff, expiryOk_single_iff, nonceHeld_eq_false_iff]
  constructor
  · rintro ⟨⟨hmagic, hformat, hzero, hflags⟩, k, hkey, hserial, haction, ⟨r, hr, hrole⟩, hexpiry, htgt, hsigned, hfresh,
      hroom⟩
    cases hr
    exact ⟨hmagic, hformat, hzero, hflags, ⟨k, hkey, hrole, hsigned⟩, hserial, of_decide_eq_true haction, hexpiry,
      htgt, hfresh, hroom⟩
  · rintro ⟨hmagic, hformat, hzero, hflags, ⟨k, hkey, hrole, hsigned⟩, hserial, haction, hexpiry, htgt, hfresh, hroom⟩
    exact ⟨⟨hmagic, hformat, hzero, hflags⟩, k, hkey, hserial, decide_eq_true haction, ⟨role, rfl, hrole⟩, hexpiry,
      htgt, hsigned, hfresh, hroom⟩

end Sys2Proof.Machine

/-! PROOFS. What every command keeps within bounds (R345, R408, R453) and of memory (R35): one relation between a
state and those that follow it, which the frames carry past every operation that touches none of it. -/

namespace Sys2Proof.Machine

-- One proof at a time: proofs that wait for one another in parallel each hold a stack against the memory limit.
set_option Elab.async false

/-! ### Bounds kept since an earlier state -/

/-- Since `z` the bucket levels have stayed within 63 (R408), SEC_FLOOR within its 64 fuses (R453) and the nonces held
within 4,096 (R345), each if it was so; and what is listed of memory is as it was or dropped (R35). -/
structure BoundsKept (z s : State) : Prop where
  levels : (∀ b ∈ z.nva.buckets, b.2 ≤ 63) → ∀ b ∈ s.nva.buckets, b.2 ≤ 63
  floor : z.nva.secFloor ≤ 64 → s.nva.secFloor ≤ 64
  nonces : z.nva.nonces.length ≤ 4096 → s.nva.nonces.length ≤ 4096
  memory : s.mem = z.mem ∨ s.mem = [] ∨ (z.bst.compatRun = true ∧ s.mem = z.mem.filter fun x => !codeUnder z x.1)

/-- Every part but those whose bounds are kept. -/
abbrev besidesBounds : List Part := allBut [.faultStore, .images, .nonces, .memory]

variable {z s : State}

theorem BoundsKept.refl : BoundsKept z z := ⟨id, id, id, .inl rfl⟩

/-- The bounds see nothing but four fields. -/
theorem BoundsKept.congr {a b : State} (h : BoundsKept z a) (hlevels : b.nva.buckets = a.nva.buckets)
    (hfloor : b.nva.secFloor = a.nva.secFloor) (hnonces : b.nva.nonces = a.nva.nonces) (hmem : b.mem = a.mem) :
    BoundsKept z b := by
  obtain ⟨levels, floor, nonces, memory⟩ := h
  exact ⟨hlevels ▸ levels, hfloor ▸ floor, hnonces ▸ nonces, hmem ▸ memory⟩

/-- An operation that changes none of the bounded parts, by its frame. -/
theorem BoundsKept.only {a b : State} (h : BoundsKept z a) (k : onlyChanges besidesBounds a b) : BoundsKept z b := by
  obtain ⟨hbuckets, -⟩ := k .faultStore (by decide)
  obtain ⟨-, -, -, -, hfloor, -⟩ := k .images (by decide)
  exact h.congr hbuckets hfloor (k .nonces (by decide)) (k .memory (by decide))

/-- A record update of other fields. -/
theorem BoundsKept.update {a b : State} (h : BoundsKept z a) (hlevels : b.nva.buckets = a.nva.buckets := by rfl)
    (hfloor : b.nva.secFloor = a.nva.secFloor := by rfl) (hnonces : b.nva.nonces = a.nva.nonces := by rfl)
    (hmem : b.mem = a.mem := by rfl) : BoundsKept z b :=
  h.congr hlevels hfloor hnonces hmem

theorem ite_bounded {c : Prop} [Decidable c] {a b : State} (ha : BoundsKept z a) (hb : BoundsKept z b) :
    BoundsKept z (if c then a else b) := by
  split
  · exact ha
  · exact hb

theorem foldl_bounded {α : Type} {g : State → α → State} {xs : List α} (h : BoundsKept z s)
    (hg : ∀ a x, BoundsKept z a → BoundsKept z (g a x)) : BoundsKept z (xs.foldl g s) := by
  induction xs generalizing s with
  | nil => exact h
  | cons x _ ih => exact ih (hg s x h)

/-! ### The fault store (R408, R412) -/

theorem satAdd_le (m a b : Nat) : satAdd m a b ≤ m := Nat.min_le_left _ _

theorem bucketSet_levels {u : UnitId} {v : Nat} {l : List (UnitId × Nat)} (hv : v ≤ 63) (hl : ∀ b ∈ l, b.2 ≤ 63) :
    ∀ b ∈ bucketSet u v l, b.2 ≤ 63 := by
  have hrest : ∀ b ∈ l.filter (·.1 ≠ u), b.2 ≤ 63 := fun b hb => hl b (List.mem_of_mem_filter hb)
  unfold bucketSet
  dsimp only
  split
  · exact hrest
  · intro b hb
    rcases List.mem_append.1 hb with hb | hb
    · exact hrest b hb
    · rw [List.mem_singleton.1 hb]
      exact hv

/-- Other buckets, whose levels lie within bounds where the old ones do. -/
theorem BoundsKept.setBuckets {a b : State} (h : BoundsKept z a)
    (hlevels : (∀ x ∈ a.nva.buckets, x.2 ≤ 63) → ∀ x ∈ b.nva.buckets, x.2 ≤ 63)
    (hfloor : b.nva.secFloor = a.nva.secFloor := by rfl) (hnonces : b.nva.nonces = a.nva.nonces := by rfl)
    (hmem : b.mem = a.mem := by rfl) : BoundsKept z b := by
  obtain ⟨levels, floor, nonces, memory⟩ := h
  exact ⟨fun hz => hlevels (levels hz), hfloor ▸ floor, hnonces ▸ nonces, hmem ▸ memory⟩

theorem bucketAdd_bounded {u : UnitId} {amt : Nat} (h : BoundsKept z s) : BoundsKept z (bucketAdd u amt s) :=
  ite_bounded h.update (h.setBuckets (bucketSet_levels (satAdd_le _ _ _)))

theorem retireRecord_bounded {u : UnitId} {code : Nat} (h : BoundsKept z s) : BoundsKept z (retireRecord u code s) :=
  ite_bounded h (BoundsKept.only (h.update (b := { s with nva := { s.nva with
    retired := s.nva.retired ++ [⟨u, code, s.gt, bucket s u⟩] } })) (occur_only partsWithin onlyChanges_refl))

theorem readmitRecord_bounded {u : UnitId} (h : BoundsKept z s) : BoundsKept z (readmitRecord u s) :=
  BoundsKept.only (h.setBuckets (b := { s with nva := { s.nva with
    retired := s.nva.retired.filter (·.unit ≠ u), buckets := bucketSet u 0 s.nva.buckets } })
    (bucketSet_levels (Nat.zero_le _))) (occur_only partsWithin onlyChanges_refl)

/-! ### Units: channels, ports, lanes, cells, engines -/

theorem retireAl_bounded {x code : Nat} (h : BoundsKept z s) : BoundsKept z (retireAl x code s) :=
  ite_bounded h ((retireRecord_bounded h).only (alSettle_only partsWithin onlyChanges_refl))

theorem alFault_bounded {x code : Nat} (h : BoundsKept z s) : BoundsKept z (alFault x code s) := by
  have hnoted (f : AlChS → AlChS) (v : AlpS) :
      BoundsKept z (occurU Code.alpFault (Src.al x) code { updAl x f s with alp := v }) :=
    (h.update (b := { updAl x f s with alp := v })).only (occurU_only partsWithin onlyChanges_refl)
  unfold alFault
  refine BoundsKept.only (ite_bounded ?_ (hnoted _ _)) (alSettle_only partsWithin onlyChanges_refl)
  exact ite_bounded (retireAl_bounded (bucketAdd_bounded (hnoted _ _))) (bucketAdd_bounded (hnoted _ _))

theorem alJudge_bounded {x : Nat} {noHeadroom : Bool} (h : BoundsKept z s) : BoundsKept z (alJudge x noHeadroom s) := by
  have hclear (a : State) (k : Nat) (ha : BoundsKept z a) : BoundsKept z (alClear x k a) :=
    ha.only (alClear_only partsWithin onlyChanges_refl)
  have hread (off : Bool) (k : Nat) (f : AlChS → AlChS) :
      BoundsKept z (if off then updAl x f s else alClear x k (updAl x f s)) :=
    ite_bounded h.update (hclear _ _ h.update)
  exact ite_bounded (ite_bounded (hread _ _ _) (alFault_bounded (hread _ _ _))) (hclear _ _ (hread _ _ _))

theorem retireCan_bounded {x code : Nat} (h : BoundsKept z s) : BoundsKept z (retireCan x code s) :=
  ite_bounded h ((retireRecord_bounded h).only
    (canGate_only partsWithin (canFlush_only partsWithin (updCan_only partsWithin onlyChanges_refl))))

theorem canFault_bounded {x code : Nat} (h : BoundsKept z s) : BoundsKept z (canFault x code s) := by
  have hnoted (v : CanS) : BoundsKept z (occurU Code.canFault (Src.can x) code { s with can := v }) :=
    (h.update (b := { s with can := v })).only (occurU_only partsWithin onlyChanges_refl)
  exact ite_bounded (ite_bounded (retireCan_bounded (bucketAdd_bounded (hnoted _))) (bucketAdd_bounded (hnoted _)))
    (hnoted _)

theorem retireTq_bounded {q code : Nat} (h : BoundsKept z s) : BoundsKept z (retireTq q code s) :=
  (retireRecord_bounded h).only (tioDecide_only partsWithin onlyChanges_refl)

/-- A trip channel whose bucket is full is retired, and the outputs are decided again. -/
theorem tripFill_bounded {u : UnitId} {code : Nat} {c : Prop} [Decidable c] (h : BoundsKept z s) :
    BoundsKept z (tioDecide (if c then retireRecord u code s else s)) :=
  (ite_bounded (retireRecord_bounded h) h).only (tioDecide_only partsWithin onlyChanges_refl)

theorem tqChannelFault_bounded {q code : Nat} (h : BoundsKept z s) : BoundsKept z (tqChannelFault q code s) := by
  have hnoted : BoundsKept z (tioFault (0x40 + q) code (tqLatch q code s)) :=
    h.only (tioFault_only partsWithin (tqLatch_only partsWithin onlyChanges_refl))
  exact ite_bounded h (ite_bounded hnoted (tripFill_bounded (bucketAdd_bounded hnoted)))

theorem retireOxn_bounded {c : Chan} {code : Nat} (h : BoundsKept z s) : BoundsKept z (retireOxn c code s) := by
  have hout : BoundsKept z (occur Code.oxnChRetired (Src.oxn (ownNode s) (chanNum c)) 0
      (retireRecord (.oxn c) code s)) :=
    (retireRecord_bounded h).only (occur_only partsWithin onlyChanges_refl)
  refine ite_bounded h (ite_bounded (ite_bounded hout ?_) (ite_bounded hout.update (ite_bounded hout.update hout.update)))
  exact hout.only (setNet_only partsWithin (oxn_only (by decide) onlyChanges_refl))

theorem faultCycle_bounded {c : Chan} (h : BoundsKept z s) : BoundsKept z (faultCycle c s) := by
  have hfill (f : ChanS → ChanS) : BoundsKept z (bucketAdd (.oxn c) 8 (updChan c f s)) :=
    bucketAdd_bounded (h.only (updChan_only partsWithin onlyChanges_refl))
  exact ite_bounded h (ite_bounded (retireOxn_bounded (hfill _)) (hfill _))

theorem judgeChan_bounded {lost : Bool} {c : Chan} (h : BoundsKept z s) : BoundsKept z (judgeChan lost c s) := by
  have hheard (f : ChanS → ChanS) : BoundsKept z (updChan c f s) :=
    h.only (updChan_only partsWithin onlyChanges_refl)
  have hjudged (b : Bool) (f : ChanS → ChanS) :
      BoundsKept z (if b then faultCycle c (updChan c f s) else updChan c f s) :=
    ite_bounded (faultCycle_bounded (hheard f)) (hheard f)
  exact ite_bounded (hheard _) (ite_bounded (retireOxn_bounded (hjudged _ _)) (hjudged _ _))

theorem planDecide_bounded (h : BoundsKept z s) : BoundsKept z (planDecide s) := by
  have hboth (v : OxnS) : BoundsKept z (occur Code.oxnPlanConflict (oxnSrc s) 0 (faultCycle .b (faultCycle .a
      { s with oxn := v }))) :=
    (faultCycle_bounded (faultCycle_bounded h.update)).only (occur_only partsWithin onlyChanges_refl)
  refine ite_bounded h (ite_bounded (hboth _) (ite_bounded h ?_))
  split
  · exact h.update
  · split
    · exact h.update
    · exact h

theorem observeChan_bounded {c : Chan} (h : BoundsKept z s) : BoundsKept z (observeChan c s) := by
  have hend : BoundsKept z (observeEnd c s) := h.only (observeEnd_only partsWithin onlyChanges_refl)
  have hset (f : ChanS → ChanS) : BoundsKept z (updChan c f s) :=
    h.only (updChan_only partsWithin onlyChanges_refl)
  unfold observeChan
  split
  · exact h
  · refine ite_bounded (hset _) (ite_bounded (ite_bounded ?refused hend) ?full)
    case refused => exact hend.only (noteRefusal_only partsWithin onlyChanges_refl)
    case full => exact (readmitRecord_bounded (hset _)).only (fullAgain_only partsWithin onlyChanges_refl)

theorem oxnIdle_bounded {a b : Bool} (h : BoundsKept z s) : BoundsKept z (oxnIdle a b s) := by
  have hdecided : BoundsKept z (planDecide (clockStep (judgeChans a b s))) :=
    planDecide_bounded ((judgeChan_bounded (judgeChan_bounded h)).only (clockStep_only partsWithin onlyChanges_refl))
  have hseen : BoundsKept z (observeChan .b (observeChan .a (schedAdopt (planDecide (clockStep
      (judgeChans a b s)))))) :=
    observeChan_bounded (observeChan_bounded (hdecided.only (schedAdopt_only partsWithin onlyChanges_refl)))
  exact hseen.only (oxn_only (by decide) (syncCounts_only partsWithin (oxn_only (by decide) onlyChanges_refl)))

theorem retireLane_bounded {l : Lane} {code : Nat} (h : BoundsKept z s) : BoundsKept z (retireLane l code s) := by
  have hout (f : LaneS → LaneS) : BoundsKept z (gateClose (laneBlk l) (updLane l f
      (occur Code.ileLaneRetired (Src.lane l) 0 (retireRecord (.lane l) code s)))) :=
    (retireRecord_bounded h).only (gateClose_only partsWithin (updLane_only partsWithin
      (occur_only partsWithin onlyChanges_refl)))
  exact ite_bounded h (ite_bounded (hout _) (hout _).update)

theorem laneDisagree_bounded {l : Lane} {kind : Nat} (h : BoundsKept z s) : BoundsKept z (laneDisagree l kind s) := by
  have hnoted (f : LaneS → LaneS) (v : IleS) : BoundsKept z (occur2 Code.ileLaneDisagree (Src.lane l) (laneIx l + 1)
      kind (bucketAdd (.lane l) 8 (updLane l f { s with ile := v }))) :=
    (bucketAdd_bounded h.update).only (occur2_only partsWithin onlyChanges_refl)
  refine ite_bounded h (ite_bounded (retireLane_bounded (hnoted _ _)) (ite_bounded ?_ (hnoted _ _)))
  exact (hnoted _ _).only (reseedLane_only partsWithin onlyChanges_refl)

theorem markOdd_bounded {l : Lane} (h : BoundsKept z s) : BoundsKept z (markOdd s l) :=
  laneDisagree_bounded h.update

/-- An evaluation fills a lane's bucket only where its reading is odd; what comes before is the engine's own. -/
theorem runEval_bounded {i : SnapIn} {devs : List LaneDev} (h : BoundsKept z s) : BoundsKept z (runEval i devs s) := by
  refine BoundsKept.only (foldl_bounded (h.only (ile_only (by decide) ?_)) fun _ _ ha => markOdd_bounded ha)
    (mirrorLead_only partsWithin onlyChanges_refl)
  exact foldl_only (foldl_only (holdStart_only partsWithin onlyChanges_refl) fun _ _ k => updSet_only partsWithin k)
    fun _ _ k => updSet_only partsWithin k

theorem runShadow_bounded {m : SnapMsg} {devs : List LaneDev} (h : BoundsKept z s) :
    BoundsKept z (runShadow m devs s) := by
  unfold runShadow
  split
  · exact ite_bounded (runEval_bounded h) h
  · exact h

theorem ileStart_bounded {devs : List LaneDev} (h : BoundsKept z s) : BoundsKept z (ileStart devs s) := by
  have hbegun : BoundsKept z (bndTakeAll (carriedTell (tableDue (takeAdopt (takeIle (opsComplete (ileBegin
      (answerAsked s)))))))) :=
    h.only (bndTakeAll_only partsWithin (carriedTell_only partsWithin (tableDue_only partsWithin
      (takeAdopt_only partsWithin (takeIle_only partsWithin (opsComplete_only partsWithin (ileBegin_only partsWithin
        (answerAsked_only partsWithin onlyChanges_refl))))))))
  refine ite_bounded ?waits (ite_bounded ?shadow (ite_bounded ?sends (runEval_bounded hbegun)))
  case waits => exact hbegun.only (awaitSeed_only partsWithin (opsWithdrawn_only partsWithin onlyChanges_refl))
  case sends => exact (runEval_bounded hbegun).only (sendSnap_only partsWithin onlyChanges_refl)
  case shadow =>
    split
    · exact runShadow_bounded hbegun
    · exact hbegun

theorem markLate_bounded {l : Lane} (h : BoundsKept z s) : BoundsKept z (markLate s l) :=
  ite_bounded (laneDisagree_bounded h.update) h

theorem trialResult_bounded {good : List Bool × Nat} {l : Lane} (h : BoundsKept z s) :
    BoundsKept z (trialResult good s l) := by
  refine ite_bounded h ?_
  split
  · refine ite_bounded ?_ (laneDisagree_bounded h)
    exact h.only (occurU_only partsWithin (updLane_only partsWithin onlyChanges_refl))
  · exact h

theorem ileWithdraw_bounded (h : BoundsKept z s) : BoundsKept z (ileWithdraw s) :=
  h.only (ileWithdraw_only partsWithin onlyChanges_refl)

theorem sweepBuild_bounded {faults : List (Lane × Bool)} {l : Lane} (h : BoundsKept z s) :
    BoundsKept z (sweepBuild faults s l) :=
  ite_bounded h (ite_bounded (laneDisagree_bounded h) (ileWithdraw_bounded (laneDisagree_bounded h)))

theorem sweepTables_bounded {faults : List (Lane × Bool)} (h : BoundsKept z s) :
    BoundsKept z (sweepTables faults s) := by
  unfold sweepTables
  dsimp only
  split
  · exact foldl_bounded h fun _ _ ha => laneDisagree_bounded ha
  · exact ite_bounded h (ileWithdraw_bounded h)
  · exact h

theorem sweepJudge_bounded {faults : List (Lane × Bool)} (h : BoundsKept z s) : BoundsKept z (sweepJudge faults s) :=
  foldl_bounded (sweepTables_bounded h) fun _ _ ha => sweepBuild_bounded ha

theorem laneBack_bounded {r : Lane × Bool} (h : BoundsKept z s) : BoundsKept z (laneBack s r) :=
  ite_bounded h (BoundsKept.only (BoundsKept.update h) (gateClose_only partsWithin onlyChanges_refl))

theorem voteAdmit_bounded {votes : Nat} (h : BoundsKept z s) : BoundsKept z (voteAdmit votes s) := by
  have hback : BoundsKept z (s.ile.readmits.foldl laneBack s) := foldl_bounded h fun _ _ ha => laneBack_bounded ha
  refine ite_bounded ?refused (ite_bounded ?readmit (ite_bounded ?full h))
  case refused => exact (hback.only (noteRefusal_only partsWithin onlyChanges_refl)).update
  case readmit => exact h.only (occur_only partsWithin (ile_only (by decide) onlyChanges_refl))
  case full => exact h.only (setIleState_only partsWithin (ile_only (by decide) onlyChanges_refl))

/-- Fewer than two lanes left withdraw the interlocking. -/
theorem withdrawIf_bounded {c : Prop} [Decidable c] (h : BoundsKept z s) :
    BoundsKept z (if c then ileWithdraw s else s) :=
  ite_bounded (ileWithdraw_bounded h) h

theorem voteStep_bounded {faults : List (Lane × Bool)} (h : BoundsKept z s) : BoundsKept z (voteStep faults s) := by
  unfold voteStep
  dsimp only
  split
  · exact h.only (voteNone_only partsWithin (ile_only (by decide) onlyChanges_refl))
  · refine voteAdmit_bounded (withdrawIf_bounded (sweepJudge_bounded (foldl_bounded (foldl_bounded ?odd
      fun _ _ ha => trialResult_bounded ha) fun _ _ ha => ha.only (stateCopy_only partsWithin onlyChanges_refl))))
    have hmirrored (good : List Bool × Nat) (ps : List (Lane × List Bool × Nat)) (v : IleS) :
        BoundsKept z (mirrorVoted good ps { s with ile := v }) :=
      h.only (mirrorVoted_only partsWithin (ile_only (by decide) onlyChanges_refl))
    split
    · exact laneDisagree_bounded (hmirrored _ _ _).update
    · exact hmirrored _ _ _

theorem retireModule_bounded {cause : RetireCause} (h : BoundsKept z s) : BoundsKept z (retireModule cause s) :=
  h.only (retireModule_only partsWithin onlyChanges_refl)

theorem rollback_bounded {c : Nat} (h : BoundsKept z s) : BoundsKept z (rollback c s) :=
  h.only (rollback_only partsWithin onlyChanges_refl)

theorem retireCell_bounded {c code : Nat} (h : BoundsKept z s) : BoundsKept z (retireCell c code s) := by
  have hout : BoundsKept z (gateClose c (hlFlags (occur Code.cellRetired (Src.cell c) 0
      (retireRecord (.cell c) code s)))) :=
    (retireRecord_bounded h).only (gateClose_only partsWithin (hlFlags_only partsWithin
      (occur_only partsWithin onlyChanges_refl)))
  exact ite_bounded h (ite_bounded (retireModule_bounded hout.update) hout.update)

theorem retireCellNow_bounded {c code : Nat} (h : BoundsKept z s) : BoundsKept z (retireCellNow c code s) :=
  ite_bounded (rollback_bounded (retireCell_bounded h)) (retireCell_bounded h)

theorem retirePlv_bounded {p code : Nat} (h : BoundsKept z s) : BoundsKept z (retirePlv p code s) :=
  retireRecord_bounded (h.only (updPort_only partsWithin onlyChanges_refl))

theorem plvFault_bounded {p : Nat} (h : BoundsKept z s) : BoundsKept z (plvFault p s) :=
  ite_bounded (retirePlv_bounded (bucketAdd_bounded h)) (bucketAdd_bounded h)

theorem retireEngine_bounded {e code : Nat} (h : BoundsKept z s) : BoundsKept z (retireEngine e code s) := by
  have hout : BoundsKept z (engineStops e (retireRecord (.engine e) code s)) :=
    (retireRecord_bounded h).only (engineStops_only partsWithin onlyChanges_refl)
  exact ite_bounded (retireModule_bounded hout) hout

theorem engineFault_bounded {e : Nat} (h : BoundsKept z s) : BoundsKept z (engineFault e s) :=
  ite_bounded h (ite_bounded (retireEngine_bounded (bucketAdd_bounded h)) (bucketAdd_bounded h))

/-- Retirement of a unit, by its class (Table 17.3). -/
theorem retireUnit_bounded {u : UnitId} {code : Nat} (h : BoundsKept z s) : BoundsKept z (retireUnit u code s) := by
  have hrec : BoundsKept z (retireRecord u code s) := retireRecord_bounded h
  refine ite_bounded h ?_
  cases u with
  | cell n => exact retireCellNow_bounded h
  | lane l => exact retireLane_bounded h
  | plv p => exact retirePlv_bounded h
  | tq q => exact retireTq_bounded h
  | ti i => exact hrec.only (tioDecide_only partsWithin onlyChanges_refl)
  | al x => exact retireAl_bounded h
  | can x => exact retireCan_bounded h
  | engine e => exact retireEngine_bounded h
  | oxn c => exact hrec.only (occur_only partsWithin onlyChanges_refl)
  | _ => exact hrec

theorem unitFault_bounded {u : UnitId} {code : Nat} (h : BoundsKept z s) : BoundsKept z (unitFault u code s) :=
  ite_bounded (retireUnit_bounded (bucketAdd_bounded h)) (bucketAdd_bounded h)

/-- A row that is replaced by a spare starts with an empty bucket (R411). -/
theorem rowFault_bounded {mem row amt : Nat} (h : BoundsKept z s) : BoundsKept z (rowFault mem row amt s) := by
  have hfill : BoundsKept z (noteFault Src.flt 8 (bucketAdd (.row mem row) amt s)) :=
    (bucketAdd_bounded h).only (noteFault_only partsWithin onlyChanges_refl)
  refine ite_bounded hfill (ite_bounded ?spare (ite_bounded ?out hfill.update))
  case spare =>
    exact BoundsKept.only (hfill.setBuckets (bucketSet_levels (Nat.zero_le _)))
      (occur_only partsWithin onlyChanges_refl)
  case out => exact BoundsKept.only (BoundsKept.update hfill) (occur_only partsWithin onlyChanges_refl)

theorem rowFaults_bounded {mem amt : Nat} {rows : List Nat} (h : BoundsKept z s) :
    BoundsKept z (rows.foldl (fun s r => rowFault mem r amt s) s) :=
  foldl_bounded h fun _ _ ha => rowFault_bounded ha

/-! ### The return of units (R413) -/

theorem tioReturn_bounded {u : UnitId} (h : BoundsKept z s) : BoundsKept z (tioReturn u s) := by
  have hrec : BoundsKept z (readmitRecord u s) := readmitRecord_bounded h
  cases u with
  | ti i => exact hrec.only (updTi_only partsWithin onlyChanges_refl)
  | tp p => exact hrec.only (updTp_only partsWithin onlyChanges_refl)
  | tq q => exact hrec.only (latchAll_only partsWithin (updTq_only partsWithin onlyChanges_refl))
  | _ => exact hrec

theorem alReturn_bounded {x : Nat} (h : BoundsKept z s) : BoundsKept z (alReturn x s) :=
  (readmitRecord_bounded h).only (updAl_only partsWithin onlyChanges_refl)

theorem unitReturn_bounded {u : UnitId} (h : BoundsKept z s) : BoundsKept z (unitReturn u s) := by
  have hrec : BoundsKept z (readmitRecord u s) := readmitRecord_bounded h
  unfold unitReturn
  split
  case h_1 => exact ite_bounded (h.only (observeStart_only partsWithin onlyChanges_refl)) h
  case h_2 =>
    exact ite_bounded (hrec.only (gateOpen_only partsWithin (hlFlags_only partsWithin onlyChanges_refl))) h
  case h_3 => exact ite_bounded (hrec.only (canGate_only partsWithin onlyChanges_refl)) h
  case h_7 => exact ite_bounded hrec h
  all_goals exact ite_bounded (tioReturn_bounded h) h

theorem unitNow_bounded {u : UnitId} (h : BoundsKept z s) : BoundsKept z (unitNow u s) := by
  unfold unitNow
  split
  · exact alReturn_bounded h
  · exact h.only (updCan_only partsWithin onlyChanges_refl)
  · exact h.only (updPort_only partsWithin onlyChanges_refl)
  · exact tioReturn_bounded h

theorem readmitPassed_bounded {u : UnitId} {p : PendCmd} (h : BoundsKept z s) :
    BoundsKept z (readmitPassed u p s) := by
  refine ite_bounded ?_ (h.only (pushPend_only partsWithin onlyChanges_refl))
  exact (unitReturn_bounded h).only (answerOk_only partsWithin onlyChanges_refl)

theorem lanesPassed_bounded {mask : Nat} (h : BoundsKept z s) : BoundsKept z (lanesPassed mask s) :=
  foldl_bounded h fun _ _ ha => ite_bounded (readmitRecord_bounded ha) ha

theorem bistWait_bounded {u : UnitId} {ok : Bool} {p : PendCmd} (h : BoundsKept z s) :
    BoundsKept z (bistWait u ok s p) := by
  have hpush (q : PendCmd) : BoundsKept z (pushPend q s) := h.only (pushPend_only partsWithin onlyChanges_refl)
  have hrefuse (rs : Reason) (a : State) (ha : BoundsKept z a) : BoundsKept z (answerRefuse p rs a) :=
    ha.only (answerRefuse_only partsWithin onlyChanges_refl)
  have hlanes (ls : List Lane) (mask : Nat) : BoundsKept z (lanesReturn ls mask (lanesPassed mask s)) :=
    (lanesPassed_bounded h).only (lanesReturn_only partsWithin onlyChanges_refl)
  unfold bistWait
  split
  · refine ite_bounded (hpush _) (ite_bounded ?unit (ite_bounded (hpush _)
      (ite_bounded (hrefuse _ _ h) (ite_bounded ?back (hrefuse _ _ (hlanes _ _))))))
    case unit => exact ite_bounded (ite_bounded (readmitPassed_bounded h) (hpush _)) (hrefuse _ _ h)
    case back => exact (hlanes _ _).only (answerOk_only partsWithin onlyChanges_refl)
  · exact hpush _

theorem bistDone_bounded {u : UnitId} {ok : Bool} (h : BoundsKept z s) : BoundsKept z (bistDone u ok s) :=
  foldl_bounded h.update fun _ _ ha => bistWait_bounded ha

/-! ### Resets and the firmware's images (R462) -/

/-- A reset of the module leaves what MRAM and NAND keep, and memory is lost. -/
theorem moduleReset_bounded (h : BoundsKept z s) : BoundsKept z (moduleReset s) := by
  obtain ⟨levels, floor, nonces, -⟩ := h.only (setUnlock_only (mask := 0) (expiry := 0) partsWithin onlyChanges_refl)
  exact ⟨levels, floor, nonces, .inr (.inl rfl)⟩

theorem updSlot_bounded {b : Nat} {f : ImgSlot → ImgSlot} (h : BoundsKept z s) : BoundsKept z (updSlot b f s) :=
  ite_bounded h.update h.update

theorem ptrPut_bounded {f : PtrRec → PtrRec} (h : BoundsKept z s) : BoundsKept z (ptrPut f s) :=
  ite_bounded h.update h.update

theorem BoundsKept.setFloor {a b : State} (h : BoundsKept z a) (hfloor : b.nva.secFloor ≤ 64)
    (hlevels : b.nva.buckets = a.nva.buckets := by rfl) (hnonces : b.nva.nonces = a.nva.nonces := by rfl)
    (hmem : b.mem = a.mem := by rfl) : BoundsKept z b := by
  obtain ⟨levels, -, nonces, memory⟩ := h
  exact ⟨hlevels ▸ levels, fun _ => hfloor, hnonces ▸ nonces, hmem ▸ memory⟩

/-- SEC_FLOOR rises to the image's SEC_VERSION, and to 64 at most (R453, R462). -/
theorem fwConfirm_bounded (h : BoundsKept z s) : BoundsKept z (fwConfirm s) := by
  unfold fwConfirm
  dsimp only
  generalize hconfirmed : occur Code.fwConfirmed _ _ _ = a
  have ha : BoundsKept z a := by
    rw [← hconfirmed]
    refine BoundsKept.only (BoundsKept.update (BoundsKept.only (ptrPut_bounded ?_)
      (setFw_only partsWithin onlyChanges_refl))) (occur_only partsWithin onlyChanges_refl)
    exact h.update
  split
  · exact ite_bounded (BoundsKept.only (ha.setFloor (Nat.min_le_left _ _)) (occur_only partsWithin onlyChanges_refl)) ha
  · exact ha

theorem trialBoundary_bounded (h : BoundsKept z s) : BoundsKept z (trialBoundary s) :=
  ite_bounded (ite_bounded h (moduleReset_bounded h)) (ite_bounded (fwConfirm_bounded h) h)

theorem chunkStore_bounded {off total len : Nat} {hdr : Option ImageHdr} (h : BoundsKept z s) :
    BoundsKept z (chunkStore off total len hdr s) := by
  have hslot (c : Prop) [Decidable c] (b : Nat) (f g : ImgSlot → ImgSlot) : BoundsKept z (updSlot b g
      (if c then occur Code.fwChunkRestart Src.fw 0 (updSlot b f s) else s)) :=
    updSlot_bounded (ite_bounded ((updSlot_bounded h).only (occur_only partsWithin onlyChanges_refl)) h)
  refine ite_bounded ?_ (hslot _ _ _ _).update
  exact BoundsKept.only (hslot _ _ _ _).update (bgWant_only partsWithin onlyChanges_refl)

end Sys2Proof.Machine

/-! PROOFS. The program cycle boundary, the pair, the boot, the self-test and the host's operations keep the bounds. -/

namespace Sys2Proof.Machine

-- One proof at a time: proofs that wait for one another in parallel each hold a stack against the memory limit.
set_option Elab.async false

variable {z s : State}

/-! ### The program cycle boundary -/

theorem answerRefuse_bounded {p : PendCmd} {rs : Reason} (h : BoundsKept z s) : BoundsKept z (answerRefuse p rs s) :=
  h.only (answerRefuse_only partsWithin onlyChanges_refl)

theorem answerOk_bounded {p : PendCmd} {result : Nat} (h : BoundsKept z s) : BoundsKept z (answerOk p result s) :=
  h.only (answerOk_only partsWithin onlyChanges_refl)

theorem pushPend_bounded {p : PendCmd} (h : BoundsKept z s) : BoundsKept z (pushPend p s) := h.update

/-- FW_ACK confirms the image that runs and asks for no rise of SEC_FLOOR (Table 2.4). -/
theorem fwAckEff_bounded {p : PendCmd} (h : BoundsKept z s) : BoundsKept z (fwAckEff p s) := by
  have hack : BoundsKept z (setFw .confirmed (ptrConfirm s)) :=
    BoundsKept.only (ptrPut_bounded h) (setFw_only partsWithin onlyChanges_refl)
  exact ite_bounded (answerOk_bounded hack) (ite_bounded (answerRefuse_bounded h)
    (ite_bounded (answerRefuse_bounded h) (answerOk_bounded hack)))

theorem unitEff_bounded {u : UnitId} {p : PendCmd} (h : BoundsKept z s) : BoundsKept z (unitEff u p s) := by
  refine ite_bounded (answerRefuse_bounded h) (answerOk_bounded (unitReturn_bounded ?_))
  split
  · exact ite_bounded h (h.only (relayNow_only partsWithin onlyChanges_refl))
  · exact h

theorem restEff_bounded {p : PendCmd} (h : BoundsKept z s) : BoundsKept z (restEff p s) := by
  unfold restEff
  split
  · exact h.only (bstEff_only partsWithin onlyChanges_refl)
  · exact fwAckEff_bounded h
  · exact h.only (ccvEff_only partsWithin onlyChanges_refl)
  · exact h.only (keyEff_only partsWithin onlyChanges_refl)
  · exact unitEff_bounded h
  · exact h

theorem takeClass_bounded {f : Pend → Bool} {eff : PendCmd → State → State} (h : BoundsKept z s)
    (heff : ∀ p a, BoundsKept z a → BoundsKept z (eff p a)) : BoundsKept z (takeClass f eff s) :=
  foldl_bounded h.update fun a p => heff p a

theorem boundaryLate_bounded {old : List Point} (h : BoundsKept z s) : BoundsKept z (boundaryLate old s) := by
  have hrest : BoundsKept z (takeClass isRest restEff (boundaryForce old s)) :=
    takeClass_bounded (h.only (boundaryForce_only partsWithin onlyChanges_refl)) fun _ _ => restEff_bounded
  exact trialBoundary_bounded (hrest.only (takeRecord_only partsWithin (unlockCheck_only partsWithin
    (cloverBoundary_only partsWithin (boundaryTier_only partsWithin onlyChanges_refl)))))

theorem boundaryTail_bounded (h : BoundsKept z s) : BoundsKept z (boundaryTail s) := by
  have hchange : BoundsKept z (boundaryChange (boundaryRun s)) :=
    h.only (boundaryChange_only partsWithin (boundaryRun_only partsWithin onlyChanges_refl))
  exact ite_bounded hchange (boundaryLate_bounded hchange)

/-- The boundary's tail, where the step before it leaves the module driving. -/
theorem boundaryTailIf_bounded {c : Prop} [Decidable c] (h : BoundsKept z s) :
    BoundsKept z (if c then s else boundaryTail s) :=
  ite_bounded h (boundaryTail_bounded h)

theorem programBoundary_bounded (h : BoundsKept z s) : BoundsKept z (programBoundary s) := by
  have heject (v : HlS) (w : CycS) : BoundsKept z (ejectStep { s with hl := v, cyc := w }) :=
    (h.update (b := { s with hl := v, cyc := w })).only (ejectStep_only partsWithin onlyChanges_refl)
  unfold programBoundary
  dsimp only
  exact boundaryTailIf_bounded (ite_bounded (heject _ _)
    ((heject _ _).only (boundaryRole_only partsWithin onlyChanges_refl)))

/-- New limits of a generation retire what lies above them (R408), class by class. -/
theorem retLower_bounded (h : BoundsKept z s) : BoundsKept z (retLower s) :=
  foldl_bounded (foldl_bounded (foldl_bounded (foldl_bounded (foldl_bounded h
    fun _ _ ha => ite_bounded (retireCell_bounded ha) ha)
    fun _ _ ha => ite_bounded (retireLane_bounded ha) ha)
    fun _ _ ha => ite_bounded (retirePlv_bounded ha) ha)
    fun _ _ ha => ite_bounded (retireAl_bounded ha) ha)
    fun _ _ ha => ite_bounded (retireCan_bounded ha) ha

theorem retireDue_bounded {f : State → State} (h : BoundsKept z s)
    (hf : ∀ a, BoundsKept z a → BoundsKept z (f a)) : BoundsKept z (retireDue f s) := by
  have hdone (c : CycS) (g : ChgS) : BoundsKept z (f { s with cyc := c, chg := g }) := hf _ h.update
  have hback (ready : Bool) (c : CycS) (g : ChgS) : BoundsKept z (jobBack ready s (f { s with cyc := c, chg := g })) :=
    (hdone c g).only (jobBack_only partsWithin onlyChanges_refl)
  refine ite_bounded (foldl_bounded (hback _ _ _) fun _ _ ha => ha.only (retiredEff_only partsWithin onlyChanges_refl)) ?_
  exact (hdone _ _).only (jobBack_only partsWithin (cyc_only (by decide) onlyChanges_refl))

theorem migrationEnd_bounded {start cause : Nat} {revert : Bool} (h : BoundsKept z s) :
    BoundsKept z (migrationEnd start revert cause s) := by
  have hexchanged : BoundsKept z (if revert then revertTake cause s else switchTake s) :=
    ite_bounded (h.only (revertTake_only partsWithin onlyChanges_refl))
      (h.only (switchTake_only partsWithin onlyChanges_refl))
  have hlower (a : State) (ha : BoundsKept z a) : BoundsKept z (retireDue retLower (revertAnswer a)) :=
    retireDue_bounded (ha.only (revertAnswer_only partsWithin onlyChanges_refl)) fun _ => retLower_bounded
  unfold migrationEnd
  refine ite_bounded ?failed (ite_bounded (hlower _ hexchanged.update) (boundaryLate_bounded ?later))
  case failed => exact retireDue_bounded hexchanged.update fun _ => retireModule_bounded
  case later => exact (hlower _ hexchanged.update).only (regens_only partsWithin onlyChanges_refl)

theorem releaseAll_bounded (h : BoundsKept z s) : BoundsKept z (releaseAll s) := by
  have hreleased (v : CycS) (lost : List PendCmd) : BoundsKept z (lost.foldl (fun s p => answerRefuse p .guard s)
      (releaseNow { s with cyc := v })) :=
    foldl_bounded (h.only (releaseNow_only partsWithin (cyc_only (by decide) onlyChanges_refl)))
      fun _ _ => answerRefuse_bounded
  exact ite_bounded ((hreleased _ _).only (leaveReset_only partsWithin onlyChanges_refl))
    (boundaryLate_bounded (hreleased _ _))

/-! ### The pair -/

theorem relayTake_bounded {body : Pend} {boundary : Nat} (h : BoundsKept z s) :
    BoundsKept z (relayTake body boundary s) :=
  ite_bounded (boundaryTail_bounded (pushPend_bounded h)) (pushPend_bounded h)

theorem relayTo_bounded {body : Pend} {boundary : Nat} (h : BoundsKept z s) : BoundsKept z (relayTo body boundary s) :=
  ite_bounded (relayTake_bounded h) (ite_bounded (h.only (relayDrop_only partsWithin onlyChanges_refl))
    (pushPend_bounded h))

/-- A relayed command of a shadow. -/
theorem relayToIf_bounded {c : Prop} [Decidable c] {body : Pend} {boundary : Nat} (h : BoundsKept z s) :
    BoundsKept z (if c then relayTo body boundary s else s) :=
  ite_bounded (relayTo_bounded h) h

theorem relayApply_bounded {r : Relay} {b : Nat} (h : BoundsKept z s) : BoundsKept z (relayApply r b s) := by
  cases r with
  | stateReq => exact ite_bounded h.update (h.only (giveState_only partsWithin onlyChanges_refl))
  | stagedIs => exact h.update
  | stage => exact ite_bounded (h.only (stageHere_only partsWithin onlyChanges_refl)) h
  | genSelect => exact ite_bounded (h.only (stageHere_only partsWithin onlyChanges_refl)) h
  | staged =>
    unfold relayApply
    dsimp only
    split
    · exact ite_bounded (relayTake_bounded h) h
    · exact h
  | abandon => exact h.update
  | ileOp => exact ite_bounded h.update h
  | snapArm => exact ite_bounded (h.only (cloverArm_only partsWithin onlyChanges_refl)) h
  | carriedIs => exact h.update
  | again => exact ite_bounded (h.only (resyncAgain_only partsWithin onlyChanges_refl)) h
  | _ => exact relayToIf_bounded h

theorem onP0_bounded {ptype : Nat} {p : PktHdr} {ok : Bool} {f : State → State} (h : BoundsKept z s)
    (hf : ∀ a, BoundsKept z a → BoundsKept z (f a)) : BoundsKept z (onP0 ptype p ok f s) :=
  ite_bounded h (ite_bounded (h.only (discardPkt_only partsWithin onlyChanges_refl)) (hf s h))

theorem ptrFall_bounded {cause : FbCause} (h : BoundsKept z s) : BoundsKept z (ptrFall cause s) := ptrPut_bounded h

theorem adoptDecide_bounded (h : BoundsKept z s) : BoundsKept z (adoptDecide s) := by
  have hgo (k n : Nat) : BoundsKept z (bgWant k (stepGo n s)) :=
    h.only (bgWant_only partsWithin (stepGo_only partsWithin onlyChanges_refl))
  refine ite_bounded (hgo _ _) (ite_bounded (ite_bounded (hgo _ _) ?mismatch) (ite_bounded ?failed (hgo _ _)))
  case mismatch => exact moduleReset_bounded (ptrFall_bounded (h.only (occur_only partsWithin onlyChanges_refl)))
  case failed => exact h.only (occur_only partsWithin (stepGo_only partsWithin onlyChanges_refl))

theorem adoptBoot_bounded (h : BoundsKept z s) : BoundsKept z (adoptBoot s) :=
  moduleReset_bounded (ptrPut_bounded (updSlot_bounded h))

theorem targetStep_bounded (h : BoundsKept z s) : BoundsKept z (targetStep s) := by
  have hgo (n : Nat) : BoundsKept z (stepGo n s) := h.only (stepGo_only partsWithin onlyChanges_refl)
  unfold targetStep
  split
  · exact ite_bounded (adoptDecide_bounded h) h
  · exact ite_bounded (adoptBoot_bounded h) h
  · exact ite_bounded ((hgo 4).only (bgWant_only partsWithin onlyChanges_refl)) h
  · exact ite_bounded h.update h
  · exact ite_bounded (hgo 6) h
  · exact ite_bounded ((hgo 7).only (bgUnwant_only partsWithin onlyChanges_refl)) h
  · exact ite_bounded (h.only (stepGo_only partsWithin (cyc_only (by decide) onlyChanges_refl))) h
  · exact h

/-! ### Boot and power -/

theorem powerStop_bounded (h : BoundsKept z s) : BoundsKept z (powerStop s) := (moduleReset_bounded h).update

theorem formatBack_bounded (h : BoundsKept z s) : BoundsKept z (formatBack s) := ite_bounded h h.update

theorem noteVerify_bounded {b : Nat} (h : BoundsKept z s) : BoundsKept z (noteVerify b s) :=
  h.only (noteVerify_only partsWithin onlyChanges_refl)

theorem runSlot_bounded {b : Nat} {st : FwState} {cause : FbCause} (h : BoundsKept z s) :
    BoundsKept z (runSlot b st cause s) :=
  h.only (runSlot_only partsWithin onlyChanges_refl)

theorem speedwellStart_bounded (h : BoundsKept z s) : BoundsKept z (speedwellStart s) :=
  h.only (speedwellStart_only partsWithin onlyChanges_refl)

theorem chooseConf_bounded (h : BoundsKept z s) : BoundsKept z (chooseConf s) := by
  have hback : BoundsKept z (if (ptrNow s).fallback then formatBack s else s) := ite_bounded (formatBack_bounded h) h
  exact ite_bounded (runSlot_bounded hback) (ite_bounded (runSlot_bounded (noteVerify_bounded hback))
    (speedwellStart_bounded (noteVerify_bounded (noteVerify_bounded hback))))

theorem chooseTry_bounded (h : BoundsKept z s) : BoundsKept z (chooseTry s) := by
  unfold chooseTry
  dsimp only
  split
  · exact ite_bounded (runSlot_bounded (ptrPut_bounded h))
      (chooseConf_bounded (ptrFall_bounded (noteVerify_bounded (ptrPut_bounded h))))
  · exact chooseConf_bounded h

theorem chooseSlot_bounded (h : BoundsKept z s) : BoundsKept z (chooseSlot s) :=
  ite_bounded (speedwellStart_bounded h) (ite_bounded (chooseTry_bounded (ptrFall_bounded h)) (chooseTry_bounded h))

theorem formatConvert_bounded (h : BoundsKept z s) : BoundsKept z (formatConvert s) := by
  unfold formatConvert
  split
  · exact h
  · exact ite_bounded h.update (ite_bounded (BoundsKept.only h.update (occur2_only partsWithin onlyChanges_refl)) h)

theorem bootFail_bounded (h : BoundsKept z s) : BoundsKept z (bootFail s) :=
  ite_bounded (moduleReset_bounded (ptrFall_bounded h)) (retireModule_bounded h.update)

/-- FW_RECOVERED is written once, and its path is forgotten (R469). -/
theorem recoveredCode_bounded (h : BoundsKept z s) : BoundsKept z (if s.nva.recovered = 0 then s else
    occurU Code.fwRecovered Src.fw s.nva.recovered { s with nva := { s.nva with recovered := 0 } }) :=
  ite_bounded h (BoundsKept.only h.update (occurU_only partsWithin onlyChanges_refl))

theorem bootCodes_bounded (h : BoundsKept z s) : BoundsKept z (bootCodes s) := by
  have hboot (v : Nat) : BoundsKept z (occurU Code.fwBoot Src.fw v s) :=
    h.only (occurU_only partsWithin onlyChanges_refl)
  have htrial {c : Prop} [Decidable c] (a : State) (ha : BoundsKept z a) :
      BoundsKept z (if c then occur Code.fwTrial Src.fw 0 a else a) :=
    ite_bounded (ha.only (occur_only partsWithin onlyChanges_refl)) ha
  have hfallback {c : Prop} [Decidable c] (v : Nat) (a : State) (ha : BoundsKept z a) :
      BoundsKept z (if c then occurU Code.fwFallback Src.fw v a else a) :=
    ite_bounded (ha.only (occurU_only partsWithin onlyChanges_refl)) ha
  exact recoveredCode_bounded (hfallback _ _ (htrial _ (hboot _)))

theorem bootEnd_bounded (h : BoundsKept z s) : BoundsKept z (bootEnd s) := by
  have harmed (v : BstS) : BoundsKept z (armGates s.chg.cur.gates { s with bst := v }) :=
    h.only (armGates_only partsWithin (bst_only (by decide) onlyChanges_refl))
  unfold bootEnd
  refine ite_bounded (bootFail_bounded (harmed _)) ?_
  dsimp only
  generalize hcoded : bootCodes _ = a
  have ha : BoundsKept z a := hcoded ▸ bootCodes_bounded (harmed _)
  split
  · exact BoundsKept.only ha.update (takeRecord_only partsWithin (bootRetired_only partsWithin onlyChanges_refl))
  · exact BoundsKept.only ha.update (bootSettle_only partsWithin onlyChanges_refl)

theorem bootStepAct_bounded {k : Nat} {b : BootIn} (h : BoundsKept z s) : BoundsKept z (bootStepAct k b s) := by
  unfold bootStepAct
  dsimp only
  split
  · exact chooseSlot_bounded h.update
  · exact h.only (unitGates_only partsWithin (fwu_only (by decide) onlyChanges_refl))
  · exact (formatConvert_bounded h.update).only (loadStore_only partsWithin onlyChanges_refl)
  · exact bootEnd_bounded h.update
  · exact h.update

end Sys2Proof.Machine

/-! PROOFS. The self-test, clock losses, denied accesses and the host's operations keep the bounds. -/

namespace Sys2Proof.Machine

-- One proof at a time: proofs that wait for one another in parallel each hold a stack against the memory limit.
set_option Elab.async false

variable {z s : State}

/-! ### Self-test, clocks and denied accesses -/

theorem marchFail_bounded {mem : Nat} {rows : List Nat} (h : BoundsKept z s) : BoundsKept z (marchFail mem rows s) :=
  ite_bounded (retireModule_bounded (rowFaults_bounded h)) (rowFaults_bounded h)

theorem engineTestFail_bounded {e : Nat} (h : BoundsKept z s) : BoundsKept z (engineTestFail e s) :=
  ite_bounded (retireEngine_bounded h) h.update

/-- A failed test of engines reaches those that the tested source number names. -/
theorem engineTests_bounded {us : List UnitId} (h : BoundsKept z s) : BoundsKept z (us.foldl (fun s u => match u with
    | .engine e => engineTestFail e s
    | _ => s) s) := by
  refine foldl_bounded h fun a u ha => ?_
  cases u with
  | engine e => exact engineTestFail_bounded ha
  | _ => exact ha

theorem retireUnits_bounded {us : List UnitId} {code : Nat} (h : BoundsKept z s) :
    BoundsKept z (us.foldl (fun s u => retireUnit u code s) s) :=
  foldl_bounded h fun _ _ ha => retireUnit_bounded ha

theorem testFail_bounded {kind src : Nat} {rows : List Nat} (h : BoundsKept z s) :
    BoundsKept z (testFail kind src rows s) := by
  have hocc (v : BstS) : BoundsKept z (occur Code.bstFail src 0 { s with bst := v }) :=
    h.only (occur_only partsWithin (bst_only (by decide) onlyChanges_refl))
  unfold testFail
  dsimp only
  split
  case h_1 => exact retireModule_bounded (hocc _)
  case h_5 => exact engineTests_bounded (hocc _)
  case h_6 => exact retireUnits_bounded (hocc _)
  all_goals exact marchFail_bounded (hocc _)

theorem testPass_bounded {kind src : Nat} {rows : List Nat} (h : BoundsKept z s) :
    BoundsKept z (testPass kind src rows s) := by
  unfold testPass
  split
  · exact rowFaults_bounded h
  · refine foldl_bounded h fun a u ha => ?_
    cases u with
    | engine e => exact ite_bounded ha.update ha
    | _ => exact ha
  · exact h

theorem awaitedStep_bounded {u : UnitId} {left : Nat} {r : SliceRes} (h : BoundsKept z s) :
    BoundsKept z (awaitedStep u left r s) := by
  refine ite_bounded (testFail_bounded h.update) (ite_bounded (bistDone_bounded ?failed)
    (ite_bounded (bistDone_bounded (testPass_bounded h.update)) h.update))
  case failed => exact h.only (occur_only partsWithin (bst_only (by decide) onlyChanges_refl))

/-- In COMPAT mode the end of a memory slice drops what lies under the march (R35). -/
theorem compatEnd_bounded {k u : Nat} (h : BoundsKept z s) (hmem : s.mem = z.mem)
    (hrun : s.bst.compatRun = z.bst.compatRun) (hcode : ∀ a, codeUnder s a = codeUnder z a) :
    BoundsKept z (compatEnd k u s) := by
  refine ite_bounded (foldl_bounded h fun _ _ ha => ha.only (laneRejoin_only partsWithin onlyChanges_refl)) ?_
  split
  next hcompat =>
    obtain ⟨levels, floor, nonces, -⟩ := h
    refine ⟨levels, floor, nonces, .inr (.inr ⟨hrun ▸ hcompat.1, ?_⟩)⟩
    simp only [hmem, hcode]
  next => exact h

theorem pllAct_bounded {n : Nat} (h : BoundsKept z s) : BoundsKept z (pllAct n s) := by
  unfold pllAct
  split
  case h_1 => exact h.only (pll0Fail_only partsWithin onlyChanges_refl)
  case h_5 => exact (retireLane_bounded h).only (gateClose_only partsWithin onlyChanges_refl)
  all_goals exact retireModule_bounded h

theorem refLost_bounded (h : BoundsKept z s) : BoundsKept z (refLost s) :=
  h.only (refLost_only partsWithin onlyChanges_refl)

theorem pllFails_bounded {n : Nat} (h : BoundsKept z s) : BoundsKept z (pllFails n s) := by
  have hocc (v : ClkS) : BoundsKept z (occur Code.clkPllFault Src.clocks 0 { s with clk := v }) :=
    h.only (occur_only partsWithin (clk_only (by decide) onlyChanges_refl))
  have hreq (doms : List Nat) (v : ClkS) : BoundsKept z (doms.foldl (switchReq .firc) (if n = 6 then
      refLost (occur Code.clkPllFault Src.clocks 0 { s with clk := v })
      else occur Code.clkPllFault Src.clocks 0 { s with clk := v })) :=
    foldl_bounded (ite_bounded (refLost_bounded (hocc v)) (hocc v))
      fun _ _ ha => ha.only (switchReq_only partsWithin onlyChanges_refl)
  exact ite_bounded (pllAct_bounded (hreq _ _)) (hreq _ _)

theorem forceSwitch_bounded {w : Switch} (h : BoundsKept z s) : BoundsKept z (forceSwitch w s) := by
  have hforced (v : ClkS) : BoundsKept z (occur Code.clkForced Src.clocks 0
      (domainReset w.dom (switched w.dom .firc { s with clk := v }))) :=
    h.only (occur_only partsWithin (domainReset_only partsWithin (switched_only partsWithin
      (clk_only (by decide) onlyChanges_refl))))
  unfold forceSwitch
  dsimp only
  split
  · exact pllAct_bounded (hforced _)
  · exact hforced _

theorem deniedEff_bounded {a : Access} (h : BoundsKept z s) : BoundsKept z (deniedEff a s) := by
  have hcell (c : Nat) : BoundsKept z (cellDenied c s) :=
    ite_bounded (rollback_bounded (unitFault_bounded h)) (unitFault_bounded h)
  have hunit (m : Nat) : BoundsKept z (unitDenied m s) := by
    unfold unitDenied
    split
    · exact unitFault_bounded h
    · exact h.only (noteFault_only partsWithin onlyChanges_refl)
  exact ite_bounded (ite_bounded h (ite_bounded (hcell _) (ite_bounded
    (h.only (programFault_only partsWithin onlyChanges_refl)) (unitFault_bounded h)))) (hunit _)

/-! ### Boot tests -/

theorem bootTest_bounded {r : Bool × State} {f : Nat × Nat} (h : BoundsKept z r.2) : BoundsKept z (bootTest r f).2 := by
  have hocc (src : Nat) (v : BstS) (w : FwuS) :
      BoundsKept z (occur Code.bstFail src 0 { r.2 with bst := v, fwu := w }) :=
    BoundsKept.only h.update (occur_only partsWithin onlyChanges_refl)
  unfold bootTest
  dsimp only
  split
  · exact h
  · split
    case h_1 => exact rowFault_bounded (hocc _ _ _)
    case h_2 => exact rowFault_bounded (hocc _ _ _)
    case h_3 => exact rowFault_bounded (hocc _ _ _)
    case h_4 =>
      split
      · exact hocc _ _ _
      · exact engineTests_bounded (hocc _ _ _)
    case h_9 => exact hocc _ _ _
    all_goals exact retireUnits_bounded (hocc _ _ _)

theorem bootTests_bounded {fs : List (Nat × Nat)} {r : Bool × State} (h : BoundsKept z r.2) :
    BoundsKept z (fs.foldl bootTest r).2 := by
  induction fs generalizing r with
  | nil => exact h
  | cons f _ ih => exact ih (bootTest_bounded h)

/-! ### Acceptance and grants (R345) -/

/-- A grant that passes check 10 leaves room for its NONCE: those that have reached their EXPIRY are dropped. -/
theorem nonceKeep_bounded {g : Grant} (h : BoundsKept z s) (hroom : nonceCount s < 4096) :
    BoundsKept z (nonceKeep g s) := by
  obtain ⟨levels, floor, -, memory⟩ := h
  refine ⟨levels, floor, fun _ => ?_, memory⟩
  change ((s.nva.nonces.filter fun p => decide (s.gt < p.2)) ++ [(g.nonce, g.expiry)]).length ≤ 4096
  rw [List.length_append]
  exact hroom

theorem nonceCount_of_grantCheck {hold free actionOk : Bool} {role : Option Nat} {tgt : List Byte → Bool} {g : Grant}
    (h : grantCheck s hold free role actionOk tgt g = none) : nonceCount s < 4096 := by
  obtain ⟨-, k, -, -, -, -, -, -, -, -, hroom⟩ := grantCheck_eq_none_iff.1 h
  exact hroom

section
variable {c : Call} {op : Nat}

theorem fail_bounded {st : Status} (h : BoundsKept z s) : BoundsKept z (fail c op st s) :=
  h.only (fail_only partsWithin onlyChanges_refl)

theorem refuse_bounded {req : Nat} {rs : Reason} (h : BoundsKept z s) : BoundsKept z (refuse c op req rs s) :=
  h.only (refuse_only partsWithin onlyChanges_refl)

theorem done_bounded {result : Nat} (h : BoundsKept z s) : BoundsKept z (done c op result s) :=
  h.only (done_only partsWithin onlyChanges_refl)

theorem await_bounded {req : Nat} {body : Pend} (h : BoundsKept z s) : BoundsKept z (await c op req body s) :=
  h.only (await_only partsWithin onlyChanges_refl)

theorem grantFail_bounded {st : Status} {slot : Nat} (h : BoundsKept z s) : BoundsKept z (grantFail c op st slot s) :=
  h.only (grantFail_only partsWithin onlyChanges_refl)

theorem ranged_bounded {ok : Bool} {f : State → State} (h : BoundsKept z s)
    (hf : ∀ a, BoundsKept z a → BoundsKept z (f a)) : BoundsKept z (ranged ok c op f s) :=
  ite_bounded (hf s h) (fail_bounded h)

theorem notBusy_bounded {req : Nat} {f : State → State} (h : BoundsKept z s)
    (hf : ∀ a, BoundsKept z a → BoundsKept z (f a)) : BoundsKept z (notBusy c op req f s) :=
  ite_bounded (refuse_bounded h) (hf s h)

theorem opening_bounded {req on : Nat} {needs bufOk : Bool} {f : State → State} (h : BoundsKept z s)
    (hf : ∀ a, BoundsKept z a → BoundsKept z (f a)) : BoundsKept z (opening c op req on needs bufOk f s) :=
  ite_bounded (fail_bounded h) (ite_bounded (fail_bounded h) (ite_bounded (ite_bounded (hf s h) (fail_bounded h))
    (ite_bounded (hf s h) (ite_bounded (fail_bounded h) (refuse_bounded h)))))

theorem serve_bounded {f : Call → State → State} (h : BoundsKept z s)
    (hf : ∀ c a, BoundsKept z a → BoundsKept z (f c a)) : BoundsKept z (serve c f s) :=
  ite_bounded (hf _ _ (h.only (fetchOne_only partsWithin onlyChanges_refl))) h

theorem serveTurn_bounded {f : Call → State → State} (h : BoundsKept z s)
    (hf : ∀ c a, BoundsKept z a → BoundsKept z (f c a)) : BoundsKept z (serveTurn c f s) :=
  ite_bounded (serve_bounded h hf) h

/-- Only a single-use grant that passes its checks adds its NONCE. -/
theorem withGrantOr_bounded {onFail : State → State} {role : Nat} {free : Bool} {tgt : List Byte → Bool}
    {f : Grant → State → State} (h : BoundsKept z s) (hfail : ∀ a, BoundsKept z a → BoundsKept z (onFail a))
    (hf : ∀ g a, BoundsKept z a → BoundsKept z (f g a)) :
    BoundsKept z (withGrantOr onFail c op role free tgt f s) := by
  unfold withGrantOr
  split
  · exact hfail _ (grantFail_bounded h)
  · exact fail_bounded h
  · split
    next => exact hfail _ (grantFail_bounded h)
    next hpass => exact hf _ _ (nonceKeep_bounded h (nonceCount_of_grantCheck hpass))
  · split
    · exact hfail _ (grantFail_bounded h)
    · split
      · exact hfail _ (grantFail_bounded h)
      · exact hf _ _ h

theorem withGrant_bounded {role : Nat} {free : Bool} {tgt : List Byte → Bool} {f : Grant → State → State}
    (h : BoundsKept z s) (hf : ∀ g a, BoundsKept z a → BoundsKept z (f g a)) :
    BoundsKept z (withGrant c op role free tgt f s) :=
  withGrantOr_bounded h (fun _ ha => ha) hf

theorem withFwGrant_bounded {tgt : List Byte → Bool} {f : State → State} (h : BoundsKept z s)
    (hf : ∀ a, BoundsKept z a → BoundsKept z (f a)) : BoundsKept z (withFwGrant c op tgt f s) :=
  ite_bounded (hf s h) (withGrant_bounded h fun _ => hf)

end

/-! ### The opcodes with a grant -/

section
variable {c : Call}

theorem stageGrant_bounded {op role : Nat} {free : Bool} {tgt : List Byte → Bool} {f : State → State}
    (h : BoundsKept z s) (hf : ∀ a, BoundsKept z a → BoundsKept z (f a)) :
    BoundsKept z (withGrantOr stageRefused c op role free tgt (fun _ => stageEnter op c f) s) := by
  have hrefused (a : State) (ha : BoundsKept z a) : BoundsKept z (stageRefused a) :=
    ha.only (stageRefused_only partsWithin onlyChanges_refl)
  refine withGrantOr_bounded h hrefused fun _ a ha => ?_
  unfold stageEnter
  split
  · exact hrefused _ (refuse_bounded ha)
  · exact ite_bounded (hrefused _ (fail_bounded ha)) (hf a ha)

theorem opStage_bounded {box : Container} (h : BoundsKept z s) : BoundsKept z (opStage box c s) :=
  opening_bounded h fun _ ha => stageGrant_bounded ha
    fun _ hb => hb.only (stageBegin_only partsWithin onlyChanges_refl)

theorem opGenSelect_bounded {gen : Nat} (h : BoundsKept z s) : BoundsKept z (opGenSelect gen c s) := by
  refine opening_bounded h fun _ ha => stageGrant_bounded ha fun a ha => ?_
  split
  · exact ha.only (stageBegin_only partsWithin onlyChanges_refl)
  · exact fail_bounded ha

theorem changeCmd_bounded {op req role : Nat} {body : Pend} {tgt : List Byte → Bool} (h : BoundsKept z s) :
    BoundsKept z (changeCmd op req role body tgt c s) :=
  opening_bounded h fun _ ha => withGrant_bounded ha fun _ _ hb => notBusy_bounded hb fun _ => await_bounded

theorem opCcvConfirm_bounded {ccv gen : Nat} (h : BoundsKept z s) : BoundsKept z (opCcvConfirm ccv gen c s) :=
  opening_bounded h fun _ ha => withGrant_bounded ha fun _ _ hb => ite_bounded (fail_bounded hb) (await_bounded hb)

theorem modeCmd_bounded {req arg src : Nat} {f : State → State} (h : BoundsKept z s)
    (hf : ∀ a, BoundsKept z a → BoundsKept z (f a)) : BoundsKept z (modeCmd req arg src c f s) :=
  opening_bounded h fun _ ha => withGrant_bounded ha fun _ _ hb => notBusy_bounded hb hf

theorem modeDone_bounded (h : BoundsKept z s) : BoundsKept z (modeDone c s) := done_bounded h

theorem opRun_bounded {req : Nat} {body : Pend} (h : BoundsKept z s) : BoundsKept z (opRun req body c s) :=
  modeCmd_bounded h fun _ => await_bounded

theorem opRetire_bounded (h : BoundsKept z s) : BoundsKept z (opRetire c s) :=
  modeCmd_bounded h fun _ ha => modeDone_bounded (retireModule_bounded ha)

theorem opBstMode_bounded {arg : Nat} (h : BoundsKept z s) : BoundsKept z (opBstMode arg c s) :=
  ranged_bounded h fun _ ha => modeCmd_bounded ha fun _ hb =>
    ite_bounded (modeDone_bounded (hb.only (setBst_only partsWithin onlyChanges_refl))) (await_bounded hb)

theorem opFwAck_bounded (h : BoundsKept z s) : BoundsKept z (opFwAck c s) := modeCmd_bounded h fun _ => await_bounded

theorem readmitModule_bounded {testOk : Bool} (h : BoundsKept z s) : BoundsKept z (readmitModule c testOk s) := by
  have hback (us : List UnitId) (v : NvA) (hv : BoundsKept z { s with nva := v }) :
      BoundsKept z (us.foldl (fun s u => if isRetired s u then readmitRecord u s else s) { s with nva := v }) :=
    foldl_bounded hv fun _ _ ha => ite_bounded (readmitRecord_bounded ha) ha
  refine ite_bounded (modeDone_bounded h) (ite_bounded (refuse_bounded h) (moduleReset_bounded ?_))
  exact (hback _ _ h.update).only (postCompletion_only partsWithin (done_only partsWithin
    (occur_only partsWithin onlyChanges_refl)))

theorem readmitUnit_bounded {u : UnitId} {testOk : Bool} (h : BoundsKept z s) :
    BoundsKept z (readmitUnit u testOk c s) := by
  have htests (us : List UnitId) : BoundsKept z (awaitTests us 0 c s) :=
    h.only (awaitTests_only partsWithin onlyChanges_refl)
  have hnow : BoundsKept z (if testOk then modeDone c (unitNow u s) else refuse c 0x10 6 .guard s) :=
    ite_bounded (modeDone_bounded (unitNow_bounded h)) (refuse_bounded h)
  cases u with
  | cell n => exact htests _
  | engine e => exact htests _
  | oxn ch =>
    exact ite_bounded (modeDone_bounded (h.only (observeStart_only partsWithin onlyChanges_refl))) (await_bounded h)
  | plv p => exact await_bounded (unitNow_bounded h)
  | ti i => exact htests _
  | tp i => exact htests _
  | tq i => exact ite_bounded (htests _) (refuse_bounded h)
  | _ => exact hnow

theorem readmitEff_bounded {arg src : Nat} {testOk : Bool} (h : BoundsKept z s) :
    BoundsKept z (readmitEff arg src testOk c s) := by
  refine ite_bounded (readmitModule_bounded h) (ite_bounded
    (h.only (readmitLanes_only partsWithin onlyChanges_refl)) ?_)
  split
  · exact ite_bounded (refuse_bounded h) (modeDone_bounded h)
  · split
    · exact readmitUnit_bounded h
    · exact ite_bounded (fail_bounded h) (modeDone_bounded h)

theorem opReadmit_bounded {arg src : Nat} {testOk : Bool} (h : BoundsKept z s) :
    BoundsKept z (opReadmit arg src testOk c s) :=
  ranged_bounded h fun _ ha => modeCmd_bounded ha fun _ => readmitEff_bounded

theorem opPointWrite_bounded {count : Nat} {recs : List PointRec} (h : BoundsKept z s) :
    BoundsKept z (opPointWrite count recs c s) :=
  ranged_bounded h fun _ ha => opening_bounded ha fun _ hb => withGrant_bounded hb fun _ _ hd =>
    ite_bounded (fail_bounded hd) (ite_bounded (fail_bounded hd) (done_bounded
      (foldl_bounded hd fun _ _ he => he.only (hostArrive_only partsWithin onlyChanges_refl))))

theorem opForceSet_bounded {addr ty : Nat} {v : DWord} (h : BoundsKept z s) :
    BoundsKept z (opForceSet addr ty v c s) :=
  opening_bounded h fun _ ha => withGrant_bounded ha fun _ _ hb => notBusy_bounded hb fun _ => await_bounded

theorem opForceClear_bounded {addr : Nat} (h : BoundsKept z s) : BoundsKept z (opForceClear addr c s) :=
  opening_bounded h fun _ ha => withGrant_bounded ha fun _ _ hb => notBusy_bounded hb fun _ => await_bounded

theorem opRecClear_bounded {cf cl store from_ to_ : Nat} (h : BoundsKept z s) :
    BoundsKept z (opRecClear cf cl store from_ to_ c s) :=
  ranged_bounded h fun _ ha => opening_bounded ha fun _ hb => withGrant_bounded hb fun _ _ hd =>
    hd.only (recClearEff_only partsWithin onlyChanges_refl)

theorem opIleOperator_bounded {cmd : Nat} {b : OpBody} (h : BoundsKept z s) :
    BoundsKept z (opIleOperator cmd b c s) :=
  ranged_bounded h fun _ ha => opening_bounded ha fun _ hb => withGrant_bounded hb fun _ _ hd =>
    hd.only (relay_only partsWithin (ile_only (by decide) onlyChanges_refl))

theorem opTimeSet_bounded {gt : Nat} (h : BoundsKept z s) : BoundsKept z (opTimeSet gt c s) :=
  opening_bounded h fun _ ha => ite_bounded
    (withGrant_bounded ha fun _ _ hb => hb.only (timeSetTake_only partsWithin onlyChanges_refl)) (refuse_bounded ha)

theorem opHartPass_bounded {ch cmd len : Nat} {data : List Byte} (h : BoundsKept z s) :
    BoundsKept z (opHartPass ch cmd len data c s) :=
  ranged_bounded h fun _ ha => opening_bounded ha fun _ hb => withGrant_bounded hb fun _ _ hd =>
    hd.only (hartPassTake_only partsWithin onlyChanges_refl)

theorem opDebugUnlock_bounded {mask : Nat} (h : BoundsKept z s) : BoundsKept z (opDebugUnlock mask c s) :=
  ranged_bounded h fun _ ha => opening_bounded ha fun _ hb => withGrant_bounded hb fun _ _ hd =>
    ite_bounded (refuse_bounded hd) (done_bounded (hd.only (setUnlock_only partsWithin onlyChanges_refl)))

theorem opKeyProvision_bounded {k : KeyRec} (h : BoundsKept z s) : BoundsKept z (opKeyProvision k c s) := by
  have htake (a : State) (ha : BoundsKept z a) : BoundsKept z (keyProvisionTake k c a) :=
    ha.only (keyProvisionTake_only partsWithin onlyChanges_refl)
  exact opening_bounded h fun _ ha => ite_bounded (htake _ ha) (withGrant_bounded ha fun _ => htake)

theorem opGrantHold_bounded {slot : Nat} {g : Grant} (h : BoundsKept z s) : BoundsKept z (opGrantHold slot g c s) := by
  refine ranged_bounded h fun _ ha => opening_bounded ha fun a hb => ?_
  split
  next => exact grantFail_bounded hb
  next hpass => exact done_bounded (BoundsKept.update (nonceKeep_bounded hb (nonceCount_of_grantCheck hpass)))

/-! ### Firmware -/

theorem chunkTake_bounded {off total : Nat} {data : List Byte} {hdr : Option ImageHdr} (h : BoundsKept z s) :
    BoundsKept z (chunkTake off total data hdr c s) :=
  ite_bounded (refuse_bounded h) (done_bounded (chunkStore_bounded h))

theorem opFwChunk_bounded {off total : Nat} {data : List Byte} {hdr : Option ImageHdr} (h : BoundsKept z s) :
    BoundsKept z (opFwChunk off total data hdr c s) :=
  ranged_bounded h fun _ ha => opening_bounded ha fun _ hb => withFwGrant_bounded hb fun _ => chunkTake_bounded

theorem speedwellInstall_bounded {path : Nat} (h : BoundsKept z s) : BoundsKept z (speedwellInstall path s) := by
  refine BoundsKept.only (ptrPut_bounded ?_) (fwu_only (by decide) onlyChanges_refl)
  exact h.update

theorem activateTake_bounded (h : BoundsKept z s) : BoundsKept z (activateTake c s) :=
  BoundsKept.only (ptrPut_bounded h) (leaveReset_only partsWithin (postCompletion_only partsWithin
    (done_only partsWithin onlyChanges_refl)))

theorem activateApp_bounded (h : BoundsKept z s) : BoundsKept z (activateApp c s) := by
  refine ite_bounded (fail_bounded h) (withGrant_bounded h fun _ a ha => ?_)
  split
  · exact refuse_bounded ha
  · exact activateTake_bounded ha

theorem activateSpeedwell_bounded (h : BoundsKept z s) : BoundsKept z (activateSpeedwell c s) := by
  refine ite_bounded (fail_bounded h) (withFwGrant_bounded h fun a ha => ?_)
  split
  · exact fail_bounded ha
  · exact speedwellInstall_bounded (ha.only (postCompletion_only partsWithin (done_only partsWithin onlyChanges_refl)))

theorem opFwActivate_bounded (h : BoundsKept z s) : BoundsKept z (opFwActivate c s) :=
  opening_bounded h fun _ ha => ite_bounded (activateSpeedwell_bounded ha) (activateApp_bounded ha)

end

/-! ### Fetched descriptors -/

section
variable {c : Call} {a : List Byte}

theorem runMode_bounded (h : BoundsKept z s) : BoundsKept z (runMode a c s) := by
  unfold runMode
  split
  case h_5 => exact opRetire_bounded h
  case h_6 => exact opReadmit_bounded h
  case h_7 => exact opBstMode_bounded h
  case h_8 => exact opFwAck_bounded h
  all_goals exact opRun_bounded h

theorem lostBuf_bounded {op req on : Nat} {needs : Bool} (h : BoundsKept z s) :
    BoundsKept z (lostBuf op req on needs c s) :=
  opening_bounded h fun _ => fail_bounded

theorem runInput_bounded {op : Nat} {buf : HostBuf} (h : BoundsKept z s) : BoundsKept z (runInput op a buf c s) := by
  unfold runInput
  split
  case h_1 => exact opPointWrite_bounded h
  case h_3 => exact opStage_bounded h
  case h_5 => exact opFwChunk_bounded h
  case h_7 => exact opHartPass_bounded h
  case h_8 => exact opHartPass_bounded h
  case h_10 => exact opKeyProvision_bounded h
  case h_12 => exact opGrantHold_bounded h
  all_goals exact lostBuf_bounded h

theorem runOp_bounded {op : Nat} {buf : HostBuf} (h : BoundsKept z s) : BoundsKept z (runOp op a buf c s) := by
  unfold runOp
  split
  · exact h.only (opNop_only partsWithin onlyChanges_refl)
  · exact h.only (opPointRead_only partsWithin onlyChanges_refl)
  · exact opForceSet_bounded h
  · exact opForceClear_bounded h
  · exact h.only (opForceList_only partsWithin onlyChanges_refl)
  · exact runMode_bounded h
  · exact changeCmd_bounded h
  · exact changeCmd_bounded h
  · exact changeCmd_bounded h
  · exact changeCmd_bounded h
  · exact opGenSelect_bounded h
  · exact opCcvConfirm_bounded h
  · exact opFwActivate_bounded h
  · exact h.only (opFwStatus_only partsWithin onlyChanges_refl)
  · exact h.only (opRecRead_only partsWithin onlyChanges_refl)
  · exact opRecClear_bounded h
  · exact h.only (opSnapArm_only partsWithin onlyChanges_refl)
  · exact h.only (opSnapRead_only partsWithin onlyChanges_refl)
  · exact opIleOperator_bounded h
  · exact h.only (opIleRead_only partsWithin onlyChanges_refl)
  · exact opTimeSet_bounded h
  · exact h.only (opCycleStatus_only partsWithin onlyChanges_refl)
  · exact h.only (opChangeStatus_only partsWithin onlyChanges_refl)
  · exact opDebugUnlock_bounded h
  · exact h.only (opGrantDrop_only partsWithin onlyChanges_refl)
  · exact h.only (opIdentity_only partsWithin onlyChanges_refl)
  · exact h.only (opLRead_only partsWithin onlyChanges_refl)
  · exact h.only (opLStatus_only partsWithin onlyChanges_refl)
  · exact runInput_bounded h

theorem runDesc_bounded {d : List Byte} {buf : HostBuf} {grant : Option Grant} (h : BoundsKept z s) :
    BoundsKept z (runDesc d buf grant c s) :=
  ite_bounded (h.only (opLegacyWrite_only partsWithin onlyChanges_refl)) (ite_bounded (fail_bounded h)
    (ite_bounded (h.only (opBadOpcode_only partsWithin onlyChanges_refl)) (ite_bounded (fail_bounded h)
      (runOp_bounded h))))

end

/-! ### The service line (R469) -/

section
variable {f : List Byte}

theorem svcAck_bounded {st : Status} (h : BoundsKept z s) : BoundsKept z (svcAck f st s) :=
  h.only (svcAck_only partsWithin onlyChanges_refl)

/-- The grant of a session adds its NONCE with its first frame only. -/
theorem svcGranted_bounded {op : Nat} {tgt : List Byte → Bool} {k : State → State} (h : BoundsKept z s)
    (hk : ∀ a, BoundsKept z a → BoundsKept z (k a)) : BoundsKept z (svcGranted f op tgt k s) := by
  have hrefuse (st : Status) (slot : Nat) : BoundsKept z (svcRefuse f st slot s) :=
    h.only (svcRefuse_only partsWithin onlyChanges_refl)
  refine ite_bounded (hk s h) ?_
  split
  · exact hrefuse _ _
  next g _ =>
    split
    · exact hrefuse _ _
    next hpass =>
      refine hk _ (BoundsKept.update (a := if s.fwu.speedUsed then s else nonceKeep g s) ?_)
      split
      next => exact h
      next hfirst =>
        rw [svcCheck, if_neg hfirst] at hpass
        exact nonceKeep_bounded h (nonceCount_of_grantCheck hpass)

theorem svcChunk_bounded {hdr : Option ImageHdr} (h : BoundsKept z s) : BoundsKept z (svcChunk f hdr s) :=
  ite_bounded (svcAck_bounded h) (ite_bounded (svcAck_bounded h) (svcGranted_bounded h
    fun _ ha => svcAck_bounded (chunkStore_bounded ha)))

theorem svcActivate_bounded (h : BoundsKept z s) : BoundsKept z (svcActivate f s) := by
  refine ite_bounded (svcAck_bounded h) (svcGranted_bounded h fun a ha => ?_)
  split
  · exact svcAck_bounded ha
  · exact speedwellInstall_bounded (svcAck_bounded ha)

theorem svcSpeedwell_bounded {g : State → State} (h : BoundsKept z s) (hg : BoundsKept z (g s)) :
    BoundsKept z (svcSpeedwell f g s) :=
  ite_bounded hg (svcAck_bounded h)

end

end Sys2Proof.Machine

/-! PROOFS. Every command and the tick keep the bounds: soundness (R345, R453), bucket levels (R408), and what writes
memory (R35, R363). -/

namespace Sys2Proof.Machine

-- One proof at a time: proofs that wait for one another in parallel each hold a stack against the memory limit.
set_option Elab.async false

/-! ### The commands -/

section
variable {t : Nat} {s u v : State}

theorem bounded_of_next (h : (.next v : Host.Outcome State Fault Refusal) = .next u) (hv : BoundsKept s v) :
    BoundsKept s u :=
  Host.Outcome.next.inj h ▸ hv

theorem atT_bounded : BoundsKept s (atT t s) := BoundsKept.refl.update

/-- A changing command of the host, by its operation. -/
theorem bounded_of_serveTurn {c : Call} {f : Call → State → State}
    (h : (.next (serveTurn c f (atT t s)) : Host.Outcome State Fault Refusal) = .next u)
    (hf : ∀ c a, BoundsKept s a → BoundsKept s (f c a)) : BoundsKept s u :=
  bounded_of_next h (serveTurn_bounded atT_bounded hf)

/-- A command whose list of parts leaves out the bounded ones. -/
theorem bounded_of_unlisted {c : Instr} (h : exec c s = .next u)
    (hc : decide (mayChange c ⊆ besidesBounds) = true) : BoundsKept s u :=
  BoundsKept.refl.only (onlyChanges_mono (exec_only h) (of_decide_eq_true hc))

theorem execDescriptorFetch_bounded {n : Nat} {d : List Byte} {b : HostBuf} {g : Option Grant} {held : Bool}
    (h : execDescriptorFetch t n d b g held s = .next u) : BoundsKept s u :=
  bounded_of_next h (ite_bounded atT_bounded (ite_bounded BoundsKept.refl.update
    (serve_bounded atT_bounded fun _ _ => runDesc_bounded)))

theorem execLockstepMismatch_bounded {m : CellMiss} (h : execLockstepMismatch t m s = .next u) : BoundsKept s u := by
  have hroll (v : CycS) : BoundsKept s (rollback m.cell (bucketAdd (.cell m.cell) 8 { atT t s with cyc := v })) :=
    rollback_bounded (bucketAdd_bounded BoundsKept.refl.update)
  exact bounded_of_next h (ite_bounded (ite_bounded (retireCell_bounded (hroll _)) (hroll _)) atT_bounded)

theorem execProgramCycleBoundary_bounded (h : execProgramCycleBoundary t s = .next u) : BoundsKept s u :=
  bounded_of_next h (ite_bounded ((programBoundary_bounded atT_bounded).only
    (agreeReady_only partsWithin onlyChanges_refl)) atT_bounded)

theorem execMigrationDone_bounded (h : execMigrationDone t s = .next u) : BoundsKept s u := by
  refine bounded_of_next h ?_
  split
  · exact ite_bounded ((migrationEnd_bounded atT_bounded).only (agreeReady_only partsWithin onlyChanges_refl))
      atT_bounded
  · exact atT_bounded

theorem execOxugerCycleStart_bounded {n : Nat} {devs : List LaneDev} (h : execOxugerCycleStart t n devs s = .next u) :
    BoundsKept s u :=
  bounded_of_next h (ite_bounded ((ileStart_bounded (atT_bounded.only (oxnStart_only partsWithin onlyChanges_refl))).only
    (idleCycle_only partsWithin onlyChanges_refl)) atT_bounded)

theorem execOxnIdlePhase_bounded {a b : Bool} (h : execOxnIdlePhase t a b s = .next u) : BoundsKept s u :=
  bounded_of_next h (ite_bounded (oxnIdle_bounded (atT_bounded.only (pairIdle_only partsWithin onlyChanges_refl)))
    atT_bounded)

theorem execPresentationDeadline_bounded (h : execPresentationDeadline t s = .next u) : BoundsKept s u := by
  refine bounded_of_next h (ite_bounded (ite_bounded ?late (ite_bounded ?asked atT_bounded)) atT_bounded)
  case late => exact foldl_bounded atT_bounded fun _ _ => markLate_bounded
  case asked => exact atT_bounded.only (askState_only partsWithin (ile_only (by decide) onlyChanges_refl))

theorem execVoterUpdate_bounded {sweep : List (Lane × Bool)} (h : execVoterUpdate t sweep s = .next u) :
    BoundsKept s u := by
  have htail (a : State) (ha : BoundsKept s a) : BoundsKept s (updateTail a) :=
    ha.only (updateTail_only partsWithin onlyChanges_refl)
  exact bounded_of_next h (ite_bounded atT_bounded (ite_bounded (htail _ atT_bounded)
    (htail _ (voteStep_bounded atT_bounded))))

theorem execIleSnap_bounded {p : PktHdr} {cycle : Nat} {m : SnapSent} (h : execIleSnap t p cycle m s = .next u) :
    BoundsKept s u :=
  bounded_of_next h (onP0_bounded atT_bounded fun _ ha => ite_bounded ha (ite_bounded (runShadow_bounded ha) ha.update))

theorem execForceTable_bounded {p : PktHdr} {version boundary : Nat} {forces : List Force}
    (h : execForceTable t p version boundary forces s = .next u) : BoundsKept s u :=
  bounded_of_next h (onP0_bounded atT_bounded fun _ ha => ite_bounded (relayTake_bounded ha)
    (ite_bounded (ha.only (forcesTake_only partsWithin onlyChanges_refl)) ha))

theorem execImage_bounded {p : PktHdr} {offset total : Nat} {data : List Byte} {hdr : Option ImageHdr}
    (h : execImage t p offset total data hdr s = .next u) : BoundsKept s u :=
  bounded_of_next h (onP0_bounded atT_bounded fun _ ha => ite_bounded (chunkStore_bounded ha) ha)

theorem execResyncStepDone_bounded {ok : Bool} (h : execResyncStepDone t ok s = .next u) : BoundsKept s u :=
  bounded_of_next h (ite_bounded atT_bounded (ite_bounded (targetStep_bounded atT_bounded)
    (ite_bounded (atT_bounded.only (sourceStep_only partsWithin onlyChanges_refl)) atT_bounded)))

theorem execHandoverRelease_bounded (h : execHandoverRelease t s = .next u) : BoundsKept s u := by
  have hrefused (rs : Reason) : BoundsKept s (boundaryTail (handoverRefused rs (atT t s))) :=
    boundaryTail_bounded (atT_bounded.only (handoverRefused_only partsWithin onlyChanges_refl))
  exact bounded_of_next h (ite_bounded atT_bounded (ite_bounded (hrefused _) (ite_bounded (hrefused _)
    (ite_bounded atT_bounded (releaseAll_bounded atT_bounded)))))

theorem execPlvLaneFail_bounded {port lane : Nat} (h : execPlvLaneFail t port lane s = .next u) : BoundsKept s u :=
  bounded_of_next h (ite_bounded atT_bounded (plvFault_bounded
    (atT_bounded.only (updPort_only partsWithin onlyChanges_refl))))

theorem execPlvDiscardLimit_bounded {port : Nat} (h : execPlvDiscardLimit t port s = .next u) : BoundsKept s u :=
  bounded_of_next h (ite_bounded (plvFault_bounded (atT_bounded.only (updPort_only partsWithin onlyChanges_refl)))
    atT_bounded)

theorem execPlvReadmitSecond_bounded {port : Nat} (h : execPlvReadmitSecond t port s = .next u) : BoundsKept s u := by
  refine bounded_of_next h ?_
  split
  · exact ite_bounded (bistDone_bounded (readmitRecord_bounded
      (atT_bounded.only (updPort_only partsWithin onlyChanges_refl)))) atT_bounded
  · exact atT_bounded

/-! ### The commands of power and contacts -/

theorem execPresSenseOpen_bounded (h : execPresSenseOpen t s = .next u) : BoundsKept s u := by
  have hrecorded (v : ConS) : BoundsKept s (pfRecords (bgHalt (retireModule .ejector { atT t s with con := v }))) :=
    BoundsKept.only (retireModule_bounded BoundsKept.refl.update)
      (pfRecords_only partsWithin (bgHalt_only partsWithin onlyChanges_refl))
  exact bounded_of_next h (ite_bounded BoundsKept.refl.update (ite_bounded
    ((hrecorded _).only (hl_only (by decide) onlyChanges_refl)) (powerStop_bounded (hrecorded _))))

theorem execPresSenseClose_bounded (h : execPresSenseClose t s = .next u) : BoundsKept s u :=
  have hoff : BoundsKept s (if s.con.inReset then atT t s else powerStop (atT t s)) :=
    ite_bounded atT_bounded (powerStop_bounded atT_bounded)
  bounded_of_next h (ite_bounded atT_bounded (hoff.only (con_only (by decide) onlyChanges_refl)))

theorem execPfw_bounded (h : execPfw t s = .next u) : BoundsKept s u := by
  have hrecorded (v : HlS) : BoundsKept s (pfRecords (bgHalt { atT t s with hl := v })) :=
    atT_bounded.only (pfRecords_only partsWithin (bgHalt_only partsWithin (hl_only (by decide) onlyChanges_refl)))
  exact bounded_of_next h (ite_bounded atT_bounded (ite_bounded (hrecorded _) (powerStop_bounded (hrecorded _))))

theorem execPfwStop_bounded (h : execPfwStop t s = .next u) : BoundsKept s u := by
  refine bounded_of_next h ?_
  split
  · exact ite_bounded (powerStop_bounded atT_bounded) atT_bounded
  · exact atT_bounded

/-! ### The commands of trip I/O, analog loops and CAN -/

theorem execSinkCheck_bounded {i : Nat} {ok : Bool} (h : execSinkCheck t i ok s = .next u) : BoundsKept s u := by
  have hfill (f : TiS → TiS) : BoundsKept s (bucketAdd (.ti i) 8 (tioFault i 5 (updTi i f (atT t s)))) :=
    bucketAdd_bounded (atT_bounded.only (tioFault_only partsWithin (updTi_only partsWithin onlyChanges_refl)))
  exact bounded_of_next h (ite_bounded atT_bounded (ite_bounded
    (atT_bounded.only (updTi_only partsWithin onlyChanges_refl)) (ite_bounded atT_bounded (tripFill_bounded (hfill _)))))

theorem execTioReadback_bounded {q : Nat} (h : execTioReadback t q s = .next u) : BoundsKept s u :=
  bounded_of_next h (ite_bounded (tqChannelFault_bounded atT_bounded) atT_bounded)

/-- The faults that two outputs show on one another (R282). -/
theorem crossFault_bounded {q r : Nat} (h : BoundsKept s v) :
    BoundsKept s (tqFieldFault r 8 (tqFieldFault q 8 v)) :=
  h.only (tqFieldFault_only partsWithin (tqFieldFault_only partsWithin onlyChanges_refl))

theorem execDarkTestEnd_bounded {q : Nat} {m : DarkMeas} (h : execDarkTestEnd t q m s = .next u) : BoundsKept s u := by
  refine bounded_of_next h ?_
  split
  · exact atT_bounded
  next high _ prior _ =>
    have hset (a : State) (f : TqS → TqS) (ha : BoundsKept s a) : BoundsKept s (updTq q f a) :=
      ha.only (updTq_only partsWithin onlyChanges_refl)
    have hfalls (f : TqS → TqS) (rs : List Nat) : BoundsKept s (if high then rs.foldl (fun s r =>
        tqFieldFault r 8 (tqFieldFault q 8 s)) (updTq q f (atT t s)) else updTq q f (atT t s)) :=
      ite_bounded (foldl_bounded (hset _ f atT_bounded) fun _ _ => crossFault_bounded) (hset _ f atT_bounded)
    refine ite_bounded (hset _ _ atT_bounded) (BoundsKept.only ?_ (tioDecide_only partsWithin onlyChanges_refl))
    refine ite_bounded (ite_bounded (tqChannelFault_bounded (hfalls _ _)) (ite_bounded ?_ (hset _ _ (hfalls _ _))))
      (ite_bounded (tqChannelFault_bounded (hfalls _ _)) (ite_bounded (retireRecord_bounded
        ((hfalls _ _).only (tioFault_only partsWithin onlyChanges_refl))) (hfalls _ _)))
    split
    · exact crossFault_bounded (hfalls _ _)
    · exact hset _ _ (hfalls _ _)

theorem execShortToSupply_bounded {q : Nat} (h : execShortToSupply t q s = .next u) : BoundsKept s u :=
  bounded_of_next h (ite_bounded (retireTq_bounded (atT_bounded.only (tioFault_only partsWithin onlyChanges_refl)))
    atT_bounded)

theorem execAlpConversion_bounded {x : Nat} {na raw mv : Int} {noHeadroom : Bool}
    (h : execAlpConversion t x na raw mv noHeadroom s = .next u) : BoundsKept s u := by
  have hjudged (b : Bool) : BoundsKept s (alJudge x b (alMeasure x na raw mv (alSettle x (alKeep x
      (feTest x (atT t s)))))) :=
    alJudge_bounded (atT_bounded.only (alMeasure_only partsWithin (alSettle_only partsWithin (alKeep_only partsWithin
      (feTest_only partsWithin onlyChanges_refl)))))
  exact bounded_of_next h (ite_bounded atT_bounded ((hjudged _).only (alRegsTake_only partsWithin
    (alDeliver_only partsWithin (alSettle_only partsWithin onlyChanges_refl)))))

theorem execFeSilent_bounded {x : Nat} (h : execFeSilent t x s = .next u) : BoundsKept s u := by
  refine bounded_of_next h ?_
  split
  · exact atT_bounded
  · exact ite_bounded (alFault_bounded (atT_bounded.only (updAl_only partsWithin onlyChanges_refl))) atT_bounded
  · exact ite_bounded (alFault_bounded atT_bounded) atT_bounded

theorem execFeCheck_bounded {x : Nat} {ok : Bool} (h : execFeCheck t x ok s = .next u) : BoundsKept s u :=
  bounded_of_next h (ite_bounded atT_bounded (ite_bounded (atT_bounded.only (alClear_only partsWithin onlyChanges_refl))
    (alFault_bounded atT_bounded)))

/-- A fault of a CAN port after its counters have been set. -/
theorem portFault_bounded {x code : Nat} {f : CanPortS → CanPortS} : BoundsKept s (canFault x code (updCan x f (atT t s))) :=
  canFault_bounded (atT_bounded.only (updCan_only partsWithin onlyChanges_refl))

theorem execLoopbackRetry_bounded {x : Nat} {ok : Bool} (h : execLoopbackRetry t x ok s = .next u) :
    BoundsKept s u := by
  refine bounded_of_next h ?_
  split
  · exact atT_bounded
  · exact ite_bounded (ite_bounded (atT_bounded.only (updCan_only partsWithin onlyChanges_refl)) portFault_bounded)
      atT_bounded

theorem execCanRecessiveBits_bounded {x : Nat} (h : execCanRecessiveBits t x s = .next u) : BoundsKept s u :=
  bounded_of_next h (ite_bounded ((readmitRecord_bounded atT_bounded).only (canGate_only partsWithin
    (updCan_only partsWithin onlyChanges_refl))) atT_bounded)

/-! ### The commands of clocks, faults and self-test -/

theorem execPllLockLoss_bounded {n : Nat} (h : execPllLockLoss t n s = .next u) : BoundsKept s u :=
  bounded_of_next h (ite_bounded atT_bounded (ite_bounded (pllFails_bounded BoundsKept.refl.update)
    (refLost_bounded BoundsKept.refl.update)))

theorem execClkForced_bounded {dom : Nat} (h : execClkForced t dom s = .next u) : BoundsKept s u := by
  refine bounded_of_next h ?_
  split
  · exact atT_bounded
  · exact forceSwitch_bounded atT_bounded

theorem execFltL0_bounded {target master : Nat} (h : execFltL0 t target master s = .next u) : BoundsKept s u := by
  have hocc (v : FltS) : BoundsKept s (occur Code.fltL0 target 0 (noteFault target 0 { atT t s with flt := v })) :=
    atT_bounded.only (occur_only partsWithin (noteFault_only partsWithin (flt_only (by decide) onlyChanges_refl)))
  refine bounded_of_next h (BoundsKept.only ?_ (masterFails_only partsWithin onlyChanges_refl))
  split
  · exact engineFault_bounded (hocc _)
  · exact ite_bounded (retireModule_bounded (hocc _)) (hocc _)

theorem execEngineWatchdogExpiry_bounded {engine : Nat} {digestOk : Bool}
    (h : execEngineWatchdogExpiry t engine digestOk s = .next u) : BoundsKept s u := by
  have hrestart (v : FltS) : BoundsKept s (engineFault engine (engineStops engine
      (noteFault (unitSrc (atT t s) (.engine engine)) 4 { atT t s with flt := v }))) :=
    engineFault_bounded (atT_bounded.only (engineStops_only partsWithin (noteFault_only partsWithin
      (flt_only (by decide) onlyChanges_refl))))
  exact bounded_of_next h (ite_bounded atT_bounded (ite_bounded (hrestart _).update
    (retireModule_bounded (hrestart _).update)))

theorem execFltL5_bounded (h : execFltL5 t s = .next u) : BoundsKept s u := by
  refine bounded_of_next h (ite_bounded atT_bounded (BoundsKept.only (moduleReset_bounded ?_)
    (flt_only (by decide) onlyChanges_refl)))
  exact BoundsKept.refl.update

/-- A tick of the drain lowers levels (R408). -/
theorem execDrainTick_bounded (h : execDrainTick t s = .next u) : BoundsKept s u := by
  refine bounded_of_next h (ite_bounded (BoundsKept.setBuckets BoundsKept.refl fun hs b hb => ?_) atT_bounded)
  obtain ⟨x, hx, rfl⟩ := List.mem_map.1 (List.mem_of_mem_filter hb)
  have hlevel := hs x hx
  dsimp only
  split <;> omega

theorem execEccUncorrectable_bounded {mem : Nat} {x : BadWord} (h : execEccUncorrectable t mem x s = .next u) :
    BoundsKept s u := by
  have hrow : BoundsKept s (rowFault mem x.row 32 (poisonWord (wordAddr mem x.row x.word) (atT t s))) :=
    rowFault_bounded (atT_bounded.only (poisonWord_only partsWithin onlyChanges_refl))
  exact bounded_of_next h (ite_bounded (ite_bounded (rollback_bounded hrow) hrow) atT_bounded)

/-- The end of a slice drops memory only in COMPAT mode; what the slice found follows. -/
theorem sliceCompat_bounded {k n : Nat} {v : BstS} (hrun : v.compatRun = s.bst.compatRun)
    (hrunning : v.running = s.bst.running) (hdone : v.done = s.bst.done) :
    BoundsKept s (sliceEnd (compatEnd k n { atT t s with bst := v })) := by
  have hcode (a : Nat) : codeUnder { atT t s with bst := v } a = codeUnder s a := by
    simp [codeUnder, marched, hrunning, hdone]
  have hcompat : BoundsKept s (compatEnd k n { atT t s with bst := v }) :=
    compatEnd_bounded BoundsKept.refl.update rfl hrun hcode
  exact hcompat.only (sliceEnd_only partsWithin onlyChanges_refl)

theorem execBstSliceDone_bounded {r : SliceRes} (h : execBstSliceDone t r s = .next u) : BoundsKept s u := by
  have hend (v : Nat) : BoundsKept s (sliceEnd (compatEnd r.kind r.unit
      { atT t s with bst := { s.bst with slices := v } })) :=
    sliceCompat_bounded rfl rfl rfl
  have hround (v : Nat) : BoundsKept s (roundStep r.kind (sliceEnd (compatEnd r.kind r.unit
      { atT t s with bst := { s.bst with slices := v } }))) :=
    (hend v).only (roundStep_only partsWithin onlyChanges_refl)
  refine bounded_of_next h (ite_bounded atT_bounded ?_)
  dsimp only
  split
  · exact ite_bounded (awaitedStep_bounded (hend _)) (hend _)
  · exact ite_bounded (testPass_bounded (hround _)) (testFail_bounded (hround _))

theorem execBstTimeout_bounded (h : execBstTimeout t s = .next u) : BoundsKept s u := by
  have hocc (k w n : Nat) : BoundsKept s (occur Code.bstTimeout w 0 (sliceEnd (compatEnd k w
      { atT t s with bst := { s.bst with timeouts := n } }))) :=
    have hslice : BoundsKept s (sliceEnd (compatEnd k w { atT t s with bst := { s.bst with timeouts := n } })) :=
      sliceCompat_bounded rfl rfl rfl
    hslice.only (occur_only partsWithin onlyChanges_refl)
  refine bounded_of_next h ?_
  split
  · refine ite_bounded atT_bounded (foldl_bounded (hocc _ _ _) fun x n hx => ite_bounded hx ?_)
    cases n with
    | engine e => exact engineFault_bounded hx
    | _ => exact unitFault_bounded hx
  · exact atT_bounded

theorem execGateProgramFault_bounded {a : Access} (h : execGateProgramFault t a s = .next u) : BoundsKept s u := by
  refine bounded_of_next h ?_
  split
  · exact atT_bounded
  · refine ite_bounded ?_ atT_bounded
    split
    · exact deniedEff_bounded (atT_bounded.only (violate_only partsWithin onlyChanges_refl))
    · exact atT_bounded

/-! ### The commands of boot and firmware -/

theorem execBootStepDone_bounded {b : BootIn} (h : execBootStepDone t b s = .next u) : BoundsKept s u := by
  have htests (fs : List (Nat × Nat)) (k : Nat) : BoundsKept s (fs.foldl bootTest (false, bootKinds k fs (atT t s))).2 :=
    bootTests_bounded (atT_bounded.only (bootKinds_only partsWithin onlyChanges_refl))
  refine bounded_of_next h (ite_bounded atT_bounded (ite_bounded (bootFail_bounded atT_bounded) ?_))
  have hr := htests (b.fails ++ if ((atT t s).fwu.bootStep = 3 && !b.keyDigestOk) = true then [(11, Src.sv)] else [])
    (atT t s).fwu.bootStep
  revert hr
  dsimp only
  generalize List.foldl bootTest _ _ = r
  intro hr
  have hjudged (c : Option RetireCause) : BoundsKept s { r.2 with nva := { r.2.nva with modRetired := c } } := hr.update
  exact ite_bounded (bootFail_bounded hr.update) (ite_bounded (hjudged _) (bootStepAct_bounded (hjudged _)))

theorem execImageHashDone_bounded {digest : Nat} (h : execImageHashDone t digest s = .next u) : BoundsKept s u := by
  have hhashed (b : Nat) (f : ImgSlot → ImgSlot) (v : FwuS) : BoundsKept s (updSlot b f { atT t s with fwu := v }) :=
    updSlot_bounded BoundsKept.refl.update
  exact bounded_of_next h (ite_bounded (ite_bounded (hhashed _ _ _)
    ((hhashed _ _ _).only (bgUnwant_only partsWithin onlyChanges_refl))) atT_bounded)

theorem execServiceChunk_bounded {f : List Byte} {hdr : Option ImageHdr} (h : execServiceChunk t f hdr s = .next u) :
    BoundsKept s u :=
  bounded_of_next h (ite_bounded (svcSpeedwell_bounded atT_bounded (svcChunk_bounded atT_bounded)) atT_bounded)

theorem execServiceActivate_bounded {f : List Byte} (h : execServiceActivate t f s = .next u) : BoundsKept s u :=
  bounded_of_next h (ite_bounded (svcSpeedwell_bounded atT_bounded (svcActivate_bounded atT_bounded)) atT_bounded)

/-- Every command but a debug access. -/
theorem exec_bounded {c : Instr} (h : exec c s = .next u) (hd : ∀ t a, c ≠ .debugAccess t a) : BoundsKept s u := by
  cases c with
  | debugAccess t a => exact absurd rfl (hd t a)
  | descriptorFetch _ _ _ _ _ held => exact execDescriptorFetch_bounded (held := held) h
  | pointWrite => exact bounded_of_serveTurn h fun _ _ => opPointWrite_bounded
  | forceSet => exact bounded_of_serveTurn h fun _ _ => opForceSet_bounded
  | forceClear => exact bounded_of_serveTurn h fun _ _ => opForceClear_bounded
  | fwChunk => exact bounded_of_serveTurn h fun _ _ => opFwChunk_bounded
  | fwActivate => exact bounded_of_serveTurn h fun _ _ => opFwActivate_bounded
  | recClear => exact bounded_of_serveTurn h fun _ _ => opRecClear_bounded
  | block => exact bounded_of_serveTurn h fun _ _ => opIleOperator_bounded
  | unblock => exact bounded_of_serveTurn h fun _ _ => opIleOperator_bounded
  | emergRelease => exact bounded_of_serveTurn h fun _ _ => opIleOperator_bounded
  | timeSet => exact bounded_of_serveTurn h fun _ _ => opTimeSet_bounded
  | hartPass => exact bounded_of_serveTurn h fun _ _ => opHartPass_bounded
  | debugUnlock => exact bounded_of_serveTurn h fun _ _ => opDebugUnlock_bounded
  | keyProvision => exact bounded_of_serveTurn h fun _ _ => opKeyProvision_bounded
  | grantHold => exact bounded_of_serveTurn h fun _ _ => opGrantHold_bounded
  | start => exact bounded_of_serveTurn h fun _ _ => opRun_bounded
  | hold => exact bounded_of_serveTurn h fun _ _ => opRun_bounded
  | stop => exact bounded_of_serveTurn h fun _ _ => opRun_bounded
  | handover => exact bounded_of_serveTurn h fun _ _ => opRun_bounded
  | retire => exact bounded_of_serveTurn h fun _ _ => opRetire_bounded
  | readmit => exact bounded_of_serveTurn h fun _ _ => opReadmit_bounded
  | bstMode => exact bounded_of_serveTurn h fun _ _ => opBstMode_bounded
  | fwAck => exact bounded_of_serveTurn h fun _ _ => opFwAck_bounded
  | stage => exact bounded_of_serveTurn h fun _ _ => opStage_bounded
  | switch => exact bounded_of_serveTurn h fun _ _ => changeCmd_bounded
  | confirm => exact bounded_of_serveTurn h fun _ _ => changeCmd_bounded
  | revert => exact bounded_of_serveTurn h fun _ _ => changeCmd_bounded
  | discard => exact bounded_of_serveTurn h fun _ _ => changeCmd_bounded
  | genSelect => exact bounded_of_serveTurn h fun _ _ => opGenSelect_bounded
  | ccvConfirm => exact bounded_of_serveTurn h fun _ _ => opCcvConfirm_bounded
  | lockstepMismatch => exact execLockstepMismatch_bounded h
  | programCycleBoundary => exact execProgramCycleBoundary_bounded h
  | migrationDone => exact execMigrationDone_bounded h
  | oxugerCycleStart => exact execOxugerCycleStart_bounded h
  | oxnIdlePhase => exact execOxnIdlePhase_bounded h
  | presentationDeadline => exact execPresentationDeadline_bounded h
  | voterUpdate => exact execVoterUpdate_bounded h
  | forceTable => exact execForceTable_bounded h
  | ileSnap => exact execIleSnap_bounded h
  | relayedCommand => exact bounded_of_next h (onP0_bounded atT_bounded fun _ => relayApply_bounded)
  | image => exact execImage_bounded h
  | resyncStepDone => exact execResyncStepDone_bounded h
  | handoverRelease => exact execHandoverRelease_bounded h
  | plvLaneFail _ _ lane => exact execPlvLaneFail_bounded (lane := lane) h
  | plvDiscardLimit => exact execPlvDiscardLimit_bounded h
  | plvReadmitSecond => exact execPlvReadmitSecond_bounded h
  | presSenseOpen => exact execPresSenseOpen_bounded h
  | presSenseClose => exact execPresSenseClose_bounded h
  | pfw => exact execPfw_bounded h
  | pfwStop => exact execPfwStop_bounded h
  | sinkCheck => exact execSinkCheck_bounded h
  | tioReadback => exact execTioReadback_bounded h
  | darkTestEnd => exact execDarkTestEnd_bounded h
  | shortToSupply => exact execShortToSupply_bounded h
  | alpConversion => exact execAlpConversion_bounded h
  | alpReadback => exact bounded_of_next h (ite_bounded (alFault_bounded atT_bounded) atT_bounded)
  | overrange => exact bounded_of_next h (ite_bounded (alFault_bounded atT_bounded) atT_bounded)
  | feSilent => exact execFeSilent_bounded h
  | feCheck => exact execFeCheck_bounded h
  | canBusOff => exact bounded_of_next h (ite_bounded atT_bounded portFault_bounded)
  | canErrorPassive => exact bounded_of_next h (ite_bounded portFault_bounded atT_bounded)
  | stuckDominant => exact bounded_of_next h (ite_bounded portFault_bounded atT_bounded)
  | txdTimeout => exact bounded_of_next h (ite_bounded portFault_bounded atT_bounded)
  | loopbackRetry => exact execLoopbackRetry_bounded h
  | canRecessiveBits => exact execCanRecessiveBits_bounded h
  | pllLockLoss => exact execPllLockLoss_bounded h
  | clkForced => exact execClkForced_bounded h
  | fltL0 => exact execFltL0_bounded h
  | engineWatchdogExpiry => exact execEngineWatchdogExpiry_bounded h
  | fltL5 => exact execFltL5_bounded h
  | drainTick => exact execDrainTick_bounded h
  | persistenceExpiry => exact bounded_of_next h (ite_bounded (retireUnit_bounded atT_bounded) atT_bounded)
  | eccCorrected => exact bounded_of_next h (ite_bounded (rowFault_bounded atT_bounded) atT_bounded)
  | eccUncorrectable => exact execEccUncorrectable_bounded h
  | nandProgramFail => exact bounded_of_next h BoundsKept.refl.update
  | bstSliceDone => exact execBstSliceDone_bounded h
  | bstTimeout => exact execBstTimeout_bounded h
  | bootStepDone => exact execBootStepDone_bounded h
  | bootOverrun => exact bounded_of_next h (ite_bounded (bootFail_bounded atT_bounded) atT_bounded)
  | imageHashDone => exact execImageHashDone_bounded h
  | fwActivateReset => exact bounded_of_next h (ite_bounded (moduleReset_bounded atT_bounded) atT_bounded)
  | fwTrialWindowEnd => exact bounded_of_next h (ite_bounded (ptrFall_bounded BoundsKept.refl.update) atT_bounded)
  | serviceChunk => exact execServiceChunk_bounded h
  | serviceActivate => exact execServiceActivate_bounded h
  | gateProgramFault => exact execGateProgramFault_bounded h
  | _ => exact bounded_of_unlisted h rfl

end

end Sys2Proof.Machine

/-! PROOFS. What every step keeps: the bucket levels, the soundness of the state, and the memory behind the gates. -/

namespace Sys2Proof.Machine

-- One proof at a time: proofs that wait for one another in parallel each hold a stack against the memory limit.
set_option Elab.async false

section
variable {s u : State}

/-! ### The canonical memory -/

/-- A list rises from each cell to the next exactly when every cell lies below all that follow it. -/
theorem rising_iff_pairwise {m : List Host.Cell} : rising m = true ↔ m.Pairwise fun x y => x.1 < y.1 := by
  induction m with
  | nil => simp [rising]
  | cons x r ih =>
    rw [rising_cons, List.pairwise_cons, ih]
    refine and_congr_left fun hr => ⟨fun hx y hy => ?_, fun hx y hy => hx y (List.mem_of_mem_head? hy)⟩
    cases r with
    | nil => cases hy
    | cons z q =>
      have hz : x.1 < z.1 := hx z rfl
      cases hy with
      | head => exact hz
      | tail _ hq => exact hz.trans ((List.pairwise_cons.1 hr).1 y hq)

theorem filter_wf {m : List Host.Cell} {p : Host.Cell → Bool} (h : Memory.wf m = true) :
    Memory.wf (m.filter p) = true :=
  rising_iff_pairwise.2 ((rising_iff_pairwise.1 h).filter p)

/-- What follows within the bounds keeps a canonical memory canonical. -/
theorem BoundsKept.wf (h : BoundsKept s u) (hs : Memory.wf s.mem = true) : Memory.wf u.mem = true := by
  obtain hkept | hdropped | ⟨-, hcompat⟩ := h.memory
  · rwa [hkept]
  · rw [hdropped]
    rfl
  · rw [hcompat]
    exact filter_wf hs

/-! ### A debug access -/

theorem busPoke_wf {w : Nat × Byte} (h : Memory.wf s.mem = true) : Memory.wf (busPoke s w).mem = true := by
  rw [busPoke]
  split
  · exact h
  · split
    · exact h
    · exact memSet_wf h

theorem busPokes_wf {ws : List (Nat × Byte)} (h : Memory.wf s.mem = true) :
    Memory.wf (ws.foldl busPoke s).mem = true := by
  induction ws generalizing s with
  | nil => exact h
  | cons _ _ ih => exact ih (busPoke_wf h)

theorem busWrite_wf {a : Nat} {data : List Byte} (h : Memory.wf s.mem = true) :
    Memory.wf (busWrite a data s).mem = true := by
  rw [busWrite]
  split
  · exact memWrite_wf h
  · exact busPokes_wf h

theorem gateDecide_mem {a : Access} : (gateDecide a s).2.mem = s.mem :=
  gateDecide_only (L := allBut [.memory]) partsWithin onlyChanges_refl .memory (by decide)

theorem debugEff_wf {a : Access} (h : Memory.wf s.mem = true) : Memory.wf (debugEff a s).mem = true := by
  have hdecided : Memory.wf (gateDecide (asDebug a) s).2.mem = true := by rwa [gateDecide_mem]
  rw [debugEff]
  split
  · exact hdecided
  · split
    · exact busWrite_wf hdecided
    · exact hdecided

theorem execDebugAccess_wf {t : Nat} {a : Access} (h : execDebugAccess t a s = .next u)
    (hs : Memory.wf s.mem = true) : Memory.wf u.mem = true := by
  cases h
  split
  · exact debugEff_wf hs
  · exact hs

/-! ### Every command -/

/-- Settles O8: of the bounds that every other command keeps, the one on memory. -/
theorem onlyDebugWritesMemory : Obligations.OnlyDebugWritesMemory := by
  unfold Obligations.OnlyDebugWritesMemory
  intro c s u h hd
  exact (exec_bounded h hd).memory

/-- Every command keeps the levels, SEC_FLOOR and the nonces within their bounds, and the memory canonical: a debug
access touches none of the first three, the others keep the bounds. -/
theorem exec_keeps {c : Instr} (h : exec c s = .next u) :
    ((∀ b ∈ s.nva.buckets, b.2 ≤ 63) → ∀ b ∈ u.nva.buckets, b.2 ≤ 63) ∧
    (s.nva.secFloor ≤ 64 → u.nva.secFloor ≤ 64) ∧
    (s.nva.nonces.length ≤ 4096 → u.nva.nonces.length ≤ 4096) ∧
    (Memory.wf s.mem = true → Memory.wf u.mem = true) := by
  by_cases hd : ∃ t a, c = .debugAccess t a
  · obtain ⟨t, a, rfl⟩ := hd
    have hframe : onlyChanges (allBut [.faultStore, .images, .nonces]) s u := onlyChanges_mono (exec_only h) (partsWithin rfl)
    obtain ⟨hbuckets, -⟩ := hframe .faultStore (by decide)
    obtain ⟨-, -, -, -, hfloor, -⟩ := hframe .images (by decide)
    have hnonces : u.nva.nonces = s.nva.nonces := hframe .nonces (by decide)
    rw [hbuckets, hfloor, hnonces]
    exact ⟨id, id, id, execDebugAccess_wf h⟩
  · have hkept := exec_bounded h fun t a hc => hd ⟨t, a, hc⟩
    exact ⟨hkept.levels, hkept.floor, hkept.nonces, hkept.wf⟩

/-! ### Every step -/

/-- Settles O4. -/
theorem soundAtReset : Obligations.SoundAtReset := by
  unfold Obligations.SoundAtReset
  rfl

/-- A state is sound exactly when its three bounds hold. -/
theorem sound_iff : s.sound = true ↔
    Memory.wf s.mem = true ∧ s.nva.secFloor ≤ 64 ∧ s.nva.nonces.length ≤ 4096 := by
  simp [State.sound, and_assoc]

/-- Settles O5: a tick touches none of the three, and every command keeps each. -/
theorem everyStepKeepsSound : Obligations.EveryStepKeepsSound := by
  unfold Obligations.EveryStepKeepsSound
  intro s u hs h
  obtain ⟨hmem, hfloor, hnonces⟩ := sound_iff.1 hs
  refine sound_iff.2 ?_
  cases hp : s.pending with
  | nil =>
    rw [step_of_empty hp] at h
    cases h
    exact ⟨hmem, hfloor, hnonces⟩
  | cons c r =>
    rw [step, hp] at h
    obtain ⟨-, hfloor', hnonces', hmem'⟩ := exec_keeps h
    exact ⟨hmem' hmem, hfloor' hfloor, hnonces' hnonces⟩

/-- Settles O50: a tick touches no bucket, and every command keeps their levels. -/
theorem bucketLevelsStayWithin63 : Obligations.BucketLevelsStayWithin63 := by
  unfold Obligations.BucketLevelsStayWithin63
  intro s u hs h
  cases hp : s.pending with
  | nil =>
    rw [step_of_empty hp] at h
    cases h
    exact hs
  | cons c r =>
    rw [step, hp] at h
    obtain ⟨hlevels, -⟩ := exec_keeps h
    exact hlevels hs

end

end Sys2Proof.Machine

/-! PROOFS. The CAN ports (chapter 12): what each command does, and where a received frame goes. -/

namespace Sys2Proof.Machine

-- One proof at a time: proofs that wait for one another in parallel each hold a stack against the memory limit.
set_option Elab.async false

section
variable {t x : Nat} {s : State}

/-! ### Reception (R318) -/

/-- A port after a frame heard without error (R318, R325). -/
def canHeard (f : CanFrame) (p : CanPortS) : CanPortS :=
  { p with
    stuck := false
    recv := f.errs
    err := if p.err = 1 ∧ p.tec < 128 ∧ f.errs < 128 then 0 else p.err }

/-- A frame that the port takes: its counters follow, and the frame goes to its object. -/
theorem execCanFrameReceived_of_taken {f : CanFrame} (hen : (canPar s x).en = true)
    (hkept : isRetired s (.can x) = false) (hawake : (canPort s x).sleep = false) (hdata : f.rtr = false)
    (hfd : f.fdf = false ∨ (canPar s x).fd = true) (herr : (canPort s x).err ≠ 2) (hx : x < 4)
    (hsource : fircOnly s = false) :
    exec (.canFrameReceived t x f) s = .next (canTake x f (updCan x (canHeard f) (atT t s))) := by
  have hmode : (f.fdf && !(canPar s x).fd) = false := by
    obtain h | h := hfd <;> simp [h]
  simp [exec, execCanFrameReceived, hen, hkept, hawake, hdata, hmode, herr, hsource, Nat.not_le.2 hx]
  rfl

/-- The identifier test of an object (R318), as CAN_FRAME_RECEIVED makes it. -/
def canHit (f : CanFrame) (o : RxObj) : Bool := decide (f.id &&& o.mask = o.id &&& o.mask) && f.ide = o.ide

theorem canHit_iff {f : CanFrame} {o : RxObj} :
    canHit f o = true ↔ f.id &&& o.mask = o.id &&& o.mask ∧ f.ide = o.ide := by
  simp [canHit]

/-- A search through a list with its indices finds what a search through the list finds. -/
theorem find?_zip_snd {α β : Type} {p : β → Bool} {is : List α} {os : List β} (h : os.length ≤ is.length) :
    ((is.zip os).find? fun q => p q.2).map Prod.snd = os.find? p := by
  conv_rhs => rw [← List.map_snd_zip h, List.find?_map]
  rfl

/-- A list with its indices, entry by entry. -/
theorem zip_range_eq_map {α : Type} (d : α) (l : List α) :
    (List.range l.length).zip l = (List.range l.length).map fun i => (i, l.getD i d) := by
  refine List.ext_getElem (by simp) fun i hi _ => ?_
  have hl : i < l.length := by simpa using hi
  simp [hl]

/-- A frame that no object takes is counted. -/
theorem canTake_of_miss {f : CanFrame} (h : ∀ o ∈ (canPar s x).rx, canHit f o = false) :
    canTake x f s = updCan x (fun p => { p with unmatched := satInc 0xFFFF p.unmatched }) s := by
  have hfind : ((List.range (canPar s x).rx.length).zip (canPar s x).rx).find? (fun o => canHit f o.2) = none :=
    List.find?_eq_none.2 fun q hq => by simp [h q.2 (List.of_mem_zip hq).2]
  unfold canHit at hfind
  simp [canTake, hfind]

/-- Values that arrive in turn, all now. -/
theorem delivers_inbox {v : Nat → DWord} {qs : List (Nat × Nat)} :
    (qs.foldl (fun s q => deliver q.2 (v q.1) none qGood s) s).cyc.inbox =
      s.cyc.inbox ++ qs.map fun q => ⟨q.2, s.gt, v q.1, none, qGood, false⟩ := by
  induction qs generalizing s with
  | nil => simp
  | cons q _ ih =>
    rw [List.foldl_cons, ih]
    simp [deliver]

/-- A frame that an object takes arrives at the points of the first that does (R318). -/
theorem canTake_inbox_of_hit {f : CanFrame} {o : RxObj} (h : (canPar s x).rx.find? (canHit f) = some o) :
    (canTake x f s).cyc.inbox = s.cyc.inbox ++ (List.range o.points.length).map fun i =>
      ⟨o.points.getD i 0, s.gt, BitVec.ofNat 64 (field f.data (8 * i) 8), none, qGood, false⟩ := by
  rw [← find?_zip_snd (is := List.range (canPar s x).rx.length) (by simp)] at h
  obtain ⟨q, hfind, rfl⟩ := Option.map_eq_some_iff.1 h
  unfold canHit at hfind
  unfold canTake
  simp only [hfind]
  rw [zip_range_eq_map 0]
  refine Eq.trans (delivers_inbox (v := fun i => BitVec.ofNat 64 (field f.data (8 * i) 8))) ?_
  rw [List.map_map]
  rfl

theorem updAt_length {α : Type} (f : α → α) {l : List α} {i : Nat} : (updAt l i f).length = l.length := by
  induction l generalizing i with
  | nil => rfl
  | cons y ys ih =>
    cases i with
    | zero => rfl
    | succ i => simp [updAt, ih]

/-- One port after its change. -/
theorem canPort_updCan {f : CanPortS → CanPortS} (h : x < s.can.ports.length) :
    canPort (updCan x f s) x = f (canPort s x) :=
  updAt_getD f canPortReset h

@[simp] theorem canPar_updCan {y : Nat} {f : CanPortS → CanPortS} : canPar (updCan y f s) x = canPar s x := rfl

/-- Settles O44: the objects before the first that matches take no frame, and one that none takes is counted. -/
theorem canFrameGoesToItsFirstObject : Obligations.CanFrameGoesToItsFirstObject := by
  unfold Obligations.CanFrameGoesToItsFirstObject
  intro t x f s hen hkept hawake hdata hfd herr hx hsource
  have hmode : f.fdf = false ∨ (canPar s x).fd = true := (Bool.eq_false_or_eq_true f.fdf).symm.imp_right hfd
  have hexec := execCanFrameReceived_of_taken (t := t) hen hkept hawake hdata hmode herr hx hsource
  refine ⟨fun pre post o hobjs hpre hid hide => ⟨_, hexec, ?_⟩, fun hmiss => ⟨_, hexec, ?_⟩⟩
  · refine (canTake_inbox_of_hit (o := o) ?_).trans rfl
    refine List.find?_eq_some_iff_append.2 ⟨canHit_iff.2 ⟨hid, hide⟩, pre, post, hobjs, fun r hr => ?_⟩
    simpa [canHit, or_iff_not_imp_left] using hpre r hr
  · have hnone : ∀ r ∈ (canPar s x).rx, canHit f r = false := fun r hr =>
      Bool.eq_false_iff.2 fun h => hmiss r hr (canHit_iff.1 h)
    rw [canTake_of_miss (s := updCan x (canHeard f) (atT t s)) hnone]
    refine ⟨rfl, fun hports => ?_⟩
    have hheard : canPort (updCan x (canHeard f) (atT t s)) x = canHeard f (canPort s x) := canPort_updCan hports
    rw [canPort_updCan (by simpa [updCan, updAt_length] using hports), hheard]
    rfl

/-! ### Transmission (R315, R320, R321) -/

/-- Settles O45: a port of such a module neither takes part in its bus nor holds a frame that has begun. -/
theorem restrictedPortsSendNothing : Obligations.RestrictedPortsSendNothing := by
  unfold Obligations.RestrictedPortsSendNothing
  intro t x s hpart hhead
  have hdriver : canDriver s = false := by
    refine Bool.eq_false_iff.2 fun h => hpart ?_
    simpa [canDriver, or_assoc, and_assoc] using h
  have hlive : canLive s x = false := by simp [canLive, hdriver]
  have hbegun : canBegun s x = false := by
    cases hfifo : (canPort s x).fifo with
    | nil => simp [canBegun, hfifo]
    | cons e _ => simpa [canBegun, hfifo] using hhead e (by simp [hfifo])
  simp [exec, execCanArbitrationStart, hlive, hbegun]

theorem execCanArbitrationStart_of_live (hidle : (canPort s x).sending = false)
    (hawake : (canPort s x).sleep = false) (herr : (canPort s x).err ≠ 2) (hlive : canLive s x = true) :
    exec (.canArbitrationStart t x) s = .next (canBegin x (canPort s x).fifo (atT t s)) := by
  have hfree : (canPort s x).held = none := by
    simp only [canLive, Bool.and_eq_true, decide_eq_true_eq] at hlive
    obtain ⟨-, hfree⟩ := hlive
    exact hfree
  simp [exec, execCanArbitrationStart, hidle, hawake, herr, hlive, hfree]

theorem canBegin_of_stale {e : CanEntry} {r : List CanEntry} (h : canStale s x e = true) :
    canBegin x (e :: r) s = canBegin x r (canDrop x 2 s) := by
  rw [canBegin, if_pos h]

theorem canBegin_of_fresh {e : CanEntry} {r : List CanEntry} (h : canStale s x e = false) :
    canBegin x (e :: r) s =
      updCan x (fun p => { p with fifo := { e with begun := true } :: r, sending := true }) s := by
  rw [canBegin, if_neg (by simp [h])]

theorem execCanTxComplete_of_sent {tec rec' : Nat} {e : CanEntry} {r : List CanEntry}
    (hfifo : (canPort s x).fifo = e :: r) (hsending : (canPort s x).sending = true)
    (hawake : (canPort s x).sleepAfter = false) :
    exec (.canTxComplete t x tec rec') s =
      .next (emit (.can x e.id e.ide e.fdf e.brs ((canPort s x).err = 1) e.data) (updCan x (fun p => { p with
        fifo := r
        sending := false
        sent := satInc 0xFFFF p.sent
        tec := tec
        recv := rec'
        err := if p.err = 1 ∧ tec < 128 ∧ rec' < 128 then 0 else p.err }) (atT t s))) := by
  simp [exec, execCanTxComplete, hfifo, hsending, hawake]
  rfl

/-! ### Faults and return (R325, R413) -/

theorem execCanBusOff_of_live {tec rec' : Nat} {ok : Bool} (hlive : canLive s x = true) (htec : 255 < tec) :
    exec (.canBusOff t x ⟨ok, tec, rec'⟩) s =
      .next (canFault x (if ok then 1 else 4) (updCan x (fun p => { p with
        err := 2, sending := false, tec := tec, recv := rec', held := if ok then none else some (max s.gt t) })
        (atT t s))) := by
  simp [exec, execCanBusOff, hlive, Nat.not_le.2 htec]

theorem execCanErrorPassive_of_live {tec rec' : Nat} (hlive : canLive s x = true) (herr : (canPort s x).err = 0)
    (hcount : 128 ≤ tec ∨ 128 ≤ rec') :
    exec (.canErrorPassive t ⟨x, tec, rec'⟩) s = .next (canFault x 2 (updCan x (fun p => { p with
      err := 1, tec := tec, recv := rec' }) (atT t s))) := by
  simp [exec, execCanErrorPassive, hlive, herr, hcount]

theorem execStuckDominant_of_quiet (hen : (canPar s x).en = true) (hkept : isRetired s (.can x) = false)
    (hidle : (canPort s x).sending = false) (hsource : fircOnly s = false) :
    exec (.stuckDominant t x) s = .next (canFault x 3 (updCan x (fun p => { p with stuck := true }) (atT t s))) := by
  simp [exec, execStuckDominant, hen, hkept, hidle, hsource]

theorem execTxdTimeout_of_live (hlive : canLive s x = true) :
    exec (.txdTimeout t x) s = .next (canFault x 5 (updCan x (fun p => { p with
      held := some (max s.gt t), sending := false }) (atT t s))) := by
  simp [exec, execTxdTimeout, hlive]

theorem execLoopbackRetry_of_due {h : Nat} (hheld : (canPort s x).held = some h) (hdue : h + sec ≤ max s.gt t) :
    exec (.loopbackRetry t x true) s = .next (updCan x (fun p => { p with held := none }) (atT t s)) := by
  simp only [exec, execLoopbackRetry, canPort_atT, hheld, atT_gt, if_pos hdue, if_true]

theorem execCanWake_of_asleep {f : Option CanFrame} (hkept : isRetired s (.can x) = false)
    (hasleep : (canPort s x).sleep = true) (hsource : fircOnly s = false) :
    exec (.canWake t x f) s = .next (canWakeNow x f (atT t s)) := by
  simp [exec, execCanWake, hkept, hasleep, hsource]

theorem execCanRecessiveBits_of_readmit (hreadmit : (canPort s x).readmit = true)
    (hretired : isRetired s (.can x) = true) :
    exec (.canRecessiveBits t x) s = .next (canGate (updCan x (fun p => { p with
      readmit := false, held := none, err := 0, tec := 0, recv := 0, sleep := false, sleepAfter := false
      wakeAfter := none }) (readmitRecord (.can x) (atT t s)))) := by
  simp [exec, execCanRecessiveBits, hreadmit, hretired]

/-- Settles O27: each clause is its command's effect where the conditions of its rule hold. -/
theorem canCommandsComplete : Obligations.CanCommandsComplete := by
  unfold Obligations.CanCommandsComplete
  refine ⟨?received, ?begun, ?stale, ?lost, ?sent, ?busOff, ?loopback, ?recovered, ?passive, ?stuck, ?timeout, ?retry,
    ?wake, ?readmit⟩
  case received => exact fun _ _ _ _ => execCanFrameReceived_of_taken
  case begun =>
    intro t x e r s hfifo hidle hawake herr hlive hfresh
    rw [execCanArbitrationStart_of_live hidle hawake herr hlive, hfifo, canBegin_of_fresh hfresh]
  case stale =>
    intro t x e r s hfifo hidle hawake herr hlive hstale
    rw [execCanArbitrationStart_of_live hidle hawake herr hlive, hfifo, canBegin_of_stale hstale]
  case lost => exact fun _ _ _ => rfl
  case sent => exact fun _ _ _ _ _ _ _ => execCanTxComplete_of_sent
  case busOff => exact fun _ _ _ _ _ => execCanBusOff_of_live
  case loopback => exact fun _ _ _ _ _ => execCanBusOff_of_live
  case recovered =>
    intro t x s herr
    simp [exec, execCanBusOffRecovered, herr]
  case passive => exact fun _ _ _ _ _ => execCanErrorPassive_of_live
  case stuck => exact fun _ _ _ => execStuckDominant_of_quiet
  case timeout => exact fun _ _ _ => execTxdTimeout_of_live
  case retry => exact fun _ _ _ _ => execLoopbackRetry_of_due
  case wake => exact fun _ _ _ _ => execCanWake_of_asleep
  case readmit => exact fun _ _ _ => execCanRecessiveBits_of_readmit

end

end Sys2Proof.Machine

/-! PROOFS. The commands that change a driving module: what refuses them (R51, R339) and what a grant that fails does
(R343, R350). -/

namespace Sys2Proof.Machine

-- One proof at a time: proofs that wait for one another in parallel each hold a stack against the memory limit.
set_option Elab.async false

section
variable {c : Call} {t on op req role : Nat} {free bufOk : Bool} {tgt : List Byte → Bool} {s : State}

/-! ### Acceptance (R339, R51) -/

/-- A command whose format holds comes to its acceptance. -/
theorem opening_of_format {f : State → State} (halign : bufAligned c = true) (hauth : authOk true c.auth = true)
    (hbuf : bufOk = true) :
    opening (stamped c t s) op req on true bufOk f (taken c t s) =
      acceptOn (stamped c t s) op req on f (taken c t s) := by
  have halign' : bufAligned (stamped c t s) = true := halign
  have hauth' : authOk true (stamped c t s).auth = true := hauth
  simp [opening, halign', hauth', hbuf]

theorem acceptOn_of_role {f : State → State} (hspeed : s.fwu.speedwell = false)
    (hletter : on.testBit (letterOf s) = false) (hrun : s.mod.tup.run ≠ .boot) :
    acceptOn c op req on f s = refuse c op req .role s := by
  simp [acceptOn, hspeed, hletter, hrun]

theorem acceptOn_of_boot {f : State → State} (hspeed : s.fwu.speedwell = false)
    (hletter : on.testBit (letterOf s) = false) (hrun : s.mod.tup.run = .boot) :
    acceptOn c op req on f s = fail c op .notReady s := by
  simp [acceptOn, hspeed, hletter, hrun]

/-- Outside BOOT three roles do not drive. -/
theorem accD_of_idle_role (hrun : s.mod.tup.run ≠ .boot)
    (hrole : s.mod.tup.role = .standby ∨ s.mod.tup.role = .syncing ∨ s.mod.tup.role = .retired) :
    accD.testBit (letterOf s) = false := by
  rcases hrole with h | h | h <;> rw [letterOf, if_neg hrun, h] <;> rfl

theorem accD_of_boot (hrun : s.mod.tup.run = .boot) : accD.testBit (letterOf s) = false := by
  rw [letterOf, if_pos hrun]
  rfl

/-- Every command of the list comes to the acceptance of driving modules with its own checks behind it. -/
theorem exec_of_ordered {n ty : Nat} {v : DWord} {x : Ordered} (hx : x ∈ ordered t c n ty v s)
    (hfetch : fetchable s c.ring = true) (hfirst : firstInLine s c.ring = true) :
    ∃ f : State → State, exec x.1 s = .next (opening (stamped c t s) x.2.1 x.2.2.1 accD true (noBuf c)
      (withGrant (stamped c t s) x.2.1 x.2.2.2.1 false x.2.2.2.2 fun _ => f) (taken c t s)) := by
  simp only [ordered, List.mem_cons, List.not_mem_nil, or_false] at hx
  rcases hx with rfl | rfl | rfl | rfl | rfl | rfl | rfl | rfl | rfl | rfl | rfl <;>
    exact ⟨_, congrArg Host.Outcome.next (serveTurn_of_first _ hfirst hfetch)⟩

/-- Settles O31: none of the modules named is one of the driving ones that accept the command. -/
theorem commandsNeedADrivingModule : Obligations.CommandsNeedADrivingModule := by
  unfold Obligations.CommandsNeedADrivingModule
  intro t c n ty v s x hx hfetch hfirst halign hbuf hauth hspeed
  obtain ⟨f, hexec⟩ := exec_of_ordered hx hfetch hfirst
  rw [hexec, opening_of_format halign hauth hbuf]
  exact ⟨fun hrun hrole => congrArg _ (acceptOn_of_role (s := taken c t s) hspeed (accD_of_idle_role hrun hrole) hrun),
    fun hrun => congrArg _ (acceptOn_of_boot (s := taken c t s) hspeed (accD_of_boot hrun) hrun)⟩

/-! ### Grants that fail (R343, R350) -/

theorem withGrant_of_failed {f : Grant → State → State} {g : Grant} {st : Status} (hauth : c.auth = .grant g)
    (hcheck : grantCheck s false free (some role) (g.action = op) tgt g = some st) :
    withGrant c op role free tgt f s = grantFail c op st g.keySlot s := by
  simp only [withGrant, withGrantOr, hauth, hcheck]
  rfl

theorem withGrant_of_missing {f : Grant → State → State} (hauth : c.auth = .none) :
    withGrant c op role free tgt f s = grantFail c op .grantMissing 0 s := by
  simp only [withGrant, withGrantOr, hauth]
  rfl

/-- Settles O32: an accepted command comes to its grant, and nothing follows a grant that fails. -/
theorem failedGrantsEndTheCommand : Obligations.FailedGrantsEndTheCommand := by
  unfold Obligations.FailedGrantsEndTheCommand
  intro t c n ty v s x st slot hx haccepts hfirst hbuf hgrant
  obtain ⟨f, hexec⟩ := exec_of_ordered hx (accepts_iff.1 haccepts).1 hfirst
  rw [hexec]
  refine congrArg _ ?_
  obtain ⟨g, hauth, rfl, hcheck⟩ | ⟨hauth, rfl, rfl⟩ := hgrant
  · rw [opening_of_accepts _ haccepts (by rw [hauth]; rfl) hbuf]
    exact withGrant_of_failed (c := stamped c t s) hauth hcheck
  · rw [opening_of_accepts _ haccepts (by rw [hauth]; rfl) hbuf]
    exact withGrant_of_missing (c := stamped c t s) hauth

end

end Sys2Proof.Machine

/-! PROOFS. The clock commands (chapter 15): what each does where the conditions of its rule hold. -/

namespace Sys2Proof.Machine

-- One proof at a time: proofs that wait for one another in parallel each hold a stack against the memory limit.
set_option Elab.async false

section
variable {t : Nat} {s : State}

/-! ### Sources (R372, R373) -/

theorem settleOver_of {xb : Bool} {d : Nat} (hon : s.clk.on = true) (hst : (srcOf s xb).st ≠ 2)
    (hbarred : (srcOf s xb).barred = false) (hchecking : (srcOf s xb).checking = false)
    (hdelay : settleNs s xb = some d) (hpassed : (srcOf s xb).since + d ≤ s.gt) : settleOver s xb = true := by
  simp [settleOver, hon, hst, hbarred, hchecking, hdelay, hpassed]

theorem execSourceSettled_of_over {xb : Bool} (h : settleOver (atT t s) xb = true) :
    exec (.sourceSettled t xb) s =
      .next (setSrc xb { srcOf s xb with st := 1, since := max s.gt t, checking := true } (atT t s)) := by
  simp [exec, execSourceSettled, h]

theorem execSourceEdgeLoss_of_good {xb : Bool} (h : srcGood s xb = true) :
    exec (.sourceEdgeLoss t xb) s = .next (srcLost xb false (atT t s)) := by
  simp [exec, execSourceEdgeLoss, h]

/-! ### PLLs (R376, R382) -/

/-- A PLL other than PLL0 locks. -/
theorem pllLocks_of_ne_zero {n : Nat} (hpos : 0 < n) (hn : n < 7) (href : (pllOf s n).ref ≠ 0)
    (hfault : (pllOf s n).fault = false) :
    pllLocks n s = netWake ((pllTakes { s with clk := { s.clk with
        plls := updAt s.clk.plls n fun p => { p with lock := true } } } n).foldl (fun s d => switchReq (muxHome s d) s d)
      { s with clk := { s.clk with plls := updAt s.clk.plls n fun p => { p with lock := true } } }) := by
  simp [pllLocks, href, hfault, Nat.not_le.2 hn, Nat.ne_of_gt hpos]

/-- PLL0 locks outside T3: its VCO is the tier's, and D0 comes back to it from PLL1. -/
theorem pllLocks_zero (href : (pllOf s 0).ref ≠ 0) (hfault : (pllOf s 0).fault = false)
    (htier : s.mod.tup.tier ≠ .t3) :
    ∃ v w, v = { s with clk := { s.clk with
        plls := updAt s.clk.plls 0 fun p => { p with lock := true }, vco := tierNum s.mod.tup.tier } } ∧
      w = (pllTakes v 0).foldl (fun s d => switchReq (muxHome s d) s d) v ∧
      pllLocks 0 s = netWake (if muxNow w 0 = .pll1 then switchReq .source w 0 else w) :=
  ⟨_, _, rfl, rfl, by simp [pllLocks, href, hfault, htier]⟩

theorem execPllLockLoss_of_firc {n : Nat} (hn : n < 7) (hlock : (pllOf s n).lock = true)
    (hfault : (pllOf s n).fault = false) (href : (pllOf s n).ref = 3) :
    exec (.pllLockLoss t n) s = .next (pllFails n { atT t s with clk := { s.clk with
      plls := updAt s.clk.plls n fun p => { p with lock := false } } }) := by
  simp [exec, execPllLockLoss, pllRefGood, hlock, hfault, href, Nat.not_le.2 hn]

/-! ### Switches (R380, R381) -/

theorem switchDone_of_running {dom : Nat} {w : Switch} (hpending : s.clk.switching.find? (·.dom = dom) = some w)
    (hfrom : muxRuns s dom (muxNow s dom) = true) (hto : muxRuns s dom w.dst = true) :
    switchDone dom s = switched dom w.dst { s with clk := { s.clk with switching := s.clk.switching.erase w } } := by
  simp [switchDone, hpending, hfrom, hto]

theorem switchDone_of_stopped {dom : Nat} {w : Switch} (hpending : s.clk.switching.find? (·.dom = dom) = some w)
    (hstopped : muxRuns s dom (muxNow s dom) = false ∨ muxRuns s dom w.dst = false) : switchDone dom s = s := by
  have hclock : ¬(muxRuns s dom (muxNow s dom) && muxRuns s dom w.dst) = true := by
    obtain h | h := hstopped <;> simp [h]
  simp only [switchDone, hpending, if_neg hclock]

theorem execClkForced_of_overdue {dom : Nat} {w : Switch}
    (h : (s.clk.switching.find? fun w => w.dom = dom && decide (w.at_ + 61 * us ≤ max s.gt t)) = some w) :
    exec (.clkForced t dom) s = .next (forceSwitch w (atT t s)) := by
  have hfind : ((atT t s).clk.switching.find? fun w => w.dom = dom && decide (w.at_ + 61 * us ≤ (atT t s).gt)) = some w :=
    h
  simp only [exec, execClkForced, hfind]

/-! ### Gates (R384, R385) -/

theorem execQuiesceAck_of_waiting {blk at_ : Nat} (hmem : (blk, at_) ∈ s.clk.quiesce)
    (hfree : gateWaits s blk = false) (hopen : s.clk.gated.testBit blk = false) :
    exec (.quiesceAck t blk) s = .next { atT t s with clk := { s.clk with
      quiesce := s.clk.quiesce.filter (·.1 ≠ blk), gated := s.clk.gated + 2 ^ blk } } := by
  have hany : s.clk.quiesce.any (·.1 = blk) = true := List.any_eq_true.2 ⟨_, hmem, by simp⟩
  simp [exec, execQuiesceAck, hany, hfree, hopen]

theorem execClkQuiesceTimeout_of_late {blk at_ : Nat} (hmem : (blk, at_) ∈ s.clk.quiesce)
    (hlate : at_ + 50 * us ≤ max s.gt t) (hfree : gateWaits s blk = false)
    (hopen : s.clk.gated.testBit blk = false) :
    exec (.clkQuiesceTimeout t blk) s = .next (occur Code.clkQuiesceTimeout Src.clocks 0 (noteFault Src.clocks 1
      { atT t s with
        clk := { s.clk with
          quiesce := s.clk.quiesce.filter (·.1 ≠ blk)
          gated := s.clk.gated + 2 ^ blk
          held := s.clk.held.filter (· ≠ blk) ++ [blk]
          quTimeouts := satInc 0xFFFF s.clk.quTimeouts
          quLast := blk }
        flt := { s.flt with l1 := satInc 0xFFFF s.flt.l1 } })) := by
  have hany : ((atT t s).clk.quiesce.any fun q => q.1 = blk && decide (q.2 + 50 * us ≤ (atT t s).gt)) = true :=
    List.any_eq_true.2 ⟨_, hmem, by simp [hlate]⟩
  have hgate : (atT t s).clk.gated.testBit blk = false := hopen
  simp only [exec, execClkQuiesceTimeout, hany, gateWaits_atT, hfree, hgate, Bool.not_false, Bool.and_self, if_true,
    Bool.false_eq_true, if_false]
  rfl

theorem execGateResetRelease_of_open {blk : Nat} (hopen : s.clk.gated.testBit blk = false) :
    exec (.gateResetRelease t blk) s =
      .next { atT t s with clk := { s.clk with held := s.clk.held.filter (· ≠ blk) } } := by
  simp [exec, execGateResetRelease, hopen]

/-- Settles O28: each clause is its command's effect where the conditions of its rule hold. -/
theorem clockCommandsComplete : Obligations.ClockCommandsComplete := by
  unfold Obligations.ClockCommandsComplete
  refine ⟨?xaSettled, ?xbSettled, ?window, ?edges, ?locked, ?locked0, ?lost, ?done, ?waits, ?forced, ?ack, ?timeout,
    ?release⟩
  case xaSettled =>
    exact fun t d s hon hst hbarred hchecking hdelay hpassed =>
      execSourceSettled_of_over (settleOver_of hon hst hbarred hchecking hdelay hpassed)
  case xbSettled =>
    exact fun t d s hon hst hbarred hchecking hdelay hpassed =>
      execSourceSettled_of_over (settleOver_of hon hst hbarred hchecking hdelay hpassed)
  case window =>
    intro t a b r s hst
    have hgood : ((atT t s).clk.xa.checking || decide ((atT t s).clk.xa.st = 2)) = true := by simp [hst]
    exact ⟨_, rfl, if_pos hgood, by simp [hst]⟩
  case edges => exact fun _ _ _ => execSourceEdgeLoss_of_good
  case locked =>
    exact fun t n s hpos hn href hfault =>
      ⟨_, _, congrArg Host.Outcome.next (pllLocks_of_ne_zero (s := atT t s) hpos hn href hfault), rfl, rfl⟩
  case locked0 =>
    intro t s href hfault htier
    obtain ⟨v, w, hv, hw, hlocks⟩ := pllLocks_zero (s := atT t s) href hfault htier
    exact ⟨_, v, w, congrArg Host.Outcome.next hlocks, hv, hw, rfl⟩
  case lost => exact fun _ _ _ => execPllLockLoss_of_firc
  case done =>
    exact fun t dom w s hpending hfrom hto => congrArg (fun v => Host.Outcome.next (agreeReady v))
      (switchDone_of_running (s := atT t s) hpending hfrom hto)
  case waits =>
    exact fun t dom w s hpending hstopped => congrArg (fun v => Host.Outcome.next (agreeReady v))
      (switchDone_of_stopped (s := atT t s) hpending hstopped)
  case forced => exact fun _ _ _ _ => execClkForced_of_overdue
  case ack => exact fun _ _ _ _ => execQuiesceAck_of_waiting
  case timeout => exact fun _ _ _ _ => execClkQuiesceTimeout_of_late
  case release => exact fun _ _ _ => execGateResetRelease_of_open

end

end Sys2Proof.Machine

/-! PROOFS. The commands of faults, self-test and recorder (chapters 17 to 19): what each does where the conditions of its
rule hold. -/

namespace Sys2Proof.Machine

-- One proof at a time: proofs that wait for one another in parallel each hold a stack against the memory limit.
set_option Elab.async false

section
variable {t : Nat} {s : State}

/-! ### Watchdogs (R404 to R407) -/

/-- An error response that reaches neither a cell nor the storage engine. -/
theorem masterFails_four : masterFails 4 s = s := rfl

theorem execFltL0_of_first {target : Nat} (hengine : engineOfSrc target = none)
    (hfirst : Tab.find? s.flt.l0Last target = none) :
    exec (.fltL0 t target 4) s = .next (occur Code.fltL0 target 0 (noteFault target 0 { atT t s with
      flt := { s.flt with l0 := satInc 0xFFFF s.flt.l0, l0Last := Tab.set s.flt.l0Last target (max s.gt t) } })) := by
  simp [exec, execFltL0, hengine, hfirst, masterFails_four]

theorem execEngineWatchdogExpiry_of_due {engine : Nat} (hpos : 0 < engine) (hle : engine ≤ 6)
    (hkept : isRetired s (.engine engine) = false) (hdue : engineServed engine s + engineLimit engine s ≤ max s.gt t) :
    ∃ u v, exec (.engineWatchdogExpiry t engine true) s = .next u ∧
      v = engineFault engine (engineStops engine (noteFault (unitSrc s (.engine engine)) 4 { atT t s with
        flt := { s.flt with
          l4 := satInc 0xFFFF s.flt.l4
          lastEngine := engine
          restarted := Tab.set s.flt.restarted engine (max s.gt t) } })) ∧
      u = { v with flt := { v.flt with lastLevel := 4 } } := by
  have hgo : ¬(engine = 0 ∨ 6 < engine ∨ isRetired (atT t s) (.engine engine) = true ∨
      (atT t s).gt < engineServed engine (atT t s) + engineLimit engine (atT t s)) := by
    rintro (h | h | h | h)
    · omega
    · omega
    · exact Bool.false_ne_true (hkept.symm.trans h)
    · exact absurd h (Nat.not_lt.2 hdue)
  exact ⟨_, _, congrArg Host.Outcome.next (if_neg hgo), rfl, rfl⟩

theorem setUnlock_modRetired {mask expiry : Nat} : (setUnlock mask expiry s).nva.modRetired = s.nva.modRetired :=
  setUnlock_only (L := allBut [.modRetired]) partsWithin onlyChanges_refl .modRetired (by decide)

theorem execFltL5_of_due (hrun : s.con.inReset = false) (hdue : s.flt.l5Served + 476 * ms ≤ max s.gt t) :
    ∃ u, exec (.fltL5 t) s = .next u ∧ u.flt.hwSafe = true ∧ u.flt.l5 = satInc 0xFFFF s.flt.l5 ∧
      u.flt.lastLevel = 5 ∧ u.nva.modRetired = some .fault ∧ u.con.inReset = true ∧ u.mod.tup = tupleReset := by
  have hgo : ¬((atT t s).con.inReset || decide ((atT t s).gt < (atT t s).flt.l5Served + 476 * ms)) = true := by
    rw [Bool.or_eq_true, decide_eq_true_eq]
    exact not_or.2 ⟨by simp [hrun], Nat.not_lt.2 hdue⟩
  exact ⟨_, congrArg Host.Outcome.next (if_neg hgo), rfl, rfl, rfl, setUnlock_modRetired, rfl, rfl⟩

/-! ### Buckets and memory rows (R408, R410, R411) -/

theorem execDrainTick_of_instant (hinstant : max s.gt t % (125 * ms) = 0) (hnew : s.flt.lastDrain ≠ max s.gt t) :
    exec (.drainTick t) s = .next { atT t s with
      flt := { s.flt with lastDrain := max s.gt t }
      nva := { s.nva with buckets := (s.nva.buckets.map fun b =>
        (b.1, if isRetired s b.1 then b.2 else b.2 - 1)).filter fun b => b.2 ≠ 0 } } :=
  congrArg Host.Outcome.next (if_pos ⟨hinstant, hnew⟩)

theorem execEccUncorrectable_of_other {mem row word : Nat} (hmem : mem < 3) :
    exec (.eccUncorrectable t mem ⟨row, word, 4⟩) s =
      .next (rowFault mem row 32 (poisonWord (wordAddr mem row word) (atT t s))) := by
  simp [exec, execEccUncorrectable, hmem]

/-! ### Self-test (R418, R421, R423) -/

theorem execBstSliceDone_of_passed {r : SliceRes} (hrunning : s.bst.running = some (r.kind, r.unit))
    (hpass : r.pass = true)
    (hawaited : (sliceEnd (compatEnd r.kind r.unit { atT t s with bst := { s.bst with
      slices := satInc 0xFFFF s.bst.slices } })).bst.awaited = []) :
    exec (.bstSliceDone t r) s = .next (testPass r.kind r.unit r.rows (roundStep r.kind
      (sliceEnd (compatEnd r.kind r.unit { atT t s with bst := { s.bst with
        slices := satInc 0xFFFF s.bst.slices } })))) := by
  have hgo : ¬(atT t s).bst.running ≠ some (r.kind, r.unit) := not_not.2 hrunning
  refine congrArg Host.Outcome.next ((if_neg hgo).trans ?_)
  simp only [atT_bst, hawaited, hpass, if_true]

theorem execBstTimeout_of_late {k u : Nat} (hrunning : s.bst.running = some (k, u))
    (hlate : s.bst.startedAt + 2 * sliceNs k < max s.gt t) :
    ∃ v, v = occur Code.bstTimeout u 0 (sliceEnd (compatEnd k u { atT t s with bst := { s.bst with
        timeouts := satInc 0xFF s.bst.timeouts } })) ∧
      exec (.bstTimeout t) s = .next ((testedUnits v u).foldl (fun s x => if isRetired s x then s else match x with
          | .engine e => engineFault e s
          | _ => unitFault x k s) v) := by
  have hgo : ¬(atT t s).gt ≤ (atT t s).bst.startedAt + 2 * sliceNs k := Nat.not_le.2 hlate
  refine ⟨_, rfl, ?_⟩
  simp only [exec, execBstTimeout, atT_bst, hrunning]
  exact congrArg Host.Outcome.next (if_neg hgo)

theorem execBstRoundLate_of_late (harmed : s.bst.armed = true) (hlate : s.bst.late = false)
    (hdue : s.bst.roundStart + roundLimit s ≤ max s.gt t) :
    exec (.bstRoundLate t) s = .next (occur Code.bstRoundLate Src.teasel 0 { atT t s with
      bst := { s.bst with late := true } }) := by
  have hgo : ((atT t s).bst.armed && !(atT t s).bst.late &&
      decide ((atT t s).bst.roundStart + roundLimit (atT t s) ≤ (atT t s).gt)) = true := by
    rw [Bool.and_eq_true, Bool.and_eq_true]
    exact ⟨⟨harmed, by simp [hlate]⟩, decide_eq_true hdue⟩
  exact congrArg Host.Outcome.next (if_pos hgo)

/-! ### The recorder (R436, R441) -/

theorem execSorrelSeal_of_ended {epoch : Nat} {r : Rec} (hhour : epoch % epochLen 1 = 0)
    (hended : epoch + epochLen 1 + 2 * sec ≤ max s.gt t) (hmem : r ∈ s.nva.recCur) (hepoch : r.epoch = epoch)
    (hopen : r.isSealed = false) :
    exec (.sorrelSeal t epoch) s = .next (bgWant 5 { atT t s with nva := { s.nva with
      recCur := s.nva.recCur.map fun r => if r.epoch = epoch && !r.isSealed then { r with isSealed := true } else r
      rollWait := s.nva.rollWait ++ [(1, epoch)] } }) := by
  have hmine : (s.nva.recCur.any fun r => r.epoch = epoch && !r.isSealed) = true :=
    List.any_eq_true.2 ⟨r, hmem, by simp [hepoch, hopen]⟩
  exact congrArg Host.Outcome.next ((if_pos ⟨hhour, hended⟩).trans (if_pos hmine))

/-- Settles O29: each clause is its command's effect where the conditions of its rule hold. -/
theorem faultAndTestCommandsComplete : Obligations.FaultAndTestCommandsComplete := by
  unfold Obligations.FaultAndTestCommandsComplete
  refine ⟨?l0, ?watchdog, ?service, ?l5, ?drain, ?persistence, ?corrected, ?uncorrectable, ?nand, ?slice, ?timeout,
    ?late, ?rate, ?ended⟩
  case l0 => exact fun _ _ _ => execFltL0_of_first
  case watchdog => exact fun _ _ _ => execEngineWatchdogExpiry_of_due
  case service =>
    intro t s hrun
    simp [exec, execL5Service, hrun]
  case l5 => exact fun _ _ => execFltL5_of_due
  case drain => exact fun _ _ => execDrainTick_of_instant
  case persistence => exact fun _ _ _ _ hlong => congrArg Host.Outcome.next (if_pos hlong)
  case corrected => exact fun _ _ _ _ hmem => congrArg Host.Outcome.next (if_pos hmem)
  case uncorrectable => exact fun _ _ _ _ _ => execEccUncorrectable_of_other
  case nand =>
    intro t blk s hnew
    simp [exec, execNandProgramFail, hnew]
  case slice => exact fun _ _ _ => execBstSliceDone_of_passed
  case timeout =>
    intro t k u s hrunning hlate
    obtain ⟨v, hv, hexec⟩ := execBstTimeout_of_late hrunning hlate
    exact ⟨v, _, hexec, hv, rfl⟩
  case late => exact fun _ _ => execBstRoundLate_of_late
  case rate => exact fun _ _ _ hdue => congrArg Host.Outcome.next (if_pos hdue)
  case ended => exact fun _ _ _ _ => execSorrelSeal_of_ended

end

end Sys2Proof.Machine

/-! PROOFS. A fault of a Plovlink port (R239, R408), and when a code is written (R436). -/

namespace Sys2Proof.Machine

-- One proof at a time: proofs that wait for one another in parallel each hold a stack against the memory limit.
set_option Elab.async false

section
variable {t p : Nat} {s : State}

/-! ### A port's bucket (R239, R408) -/

theorem retirePlv_isRetired {code : Nat} : isRetired (retirePlv p code s) (.plv p) = true :=
  retireRecord_isRetired _ _ _

theorem retirePlv_bucket {code : Nat} {u : UnitId} : bucket (retirePlv p code s) u = bucket s u :=
  retireRecord_bucket _ _ _ _

/-- A fault of a port in service fills its bucket and retires it exactly when the level reaches RET_AT_PLV. -/
theorem plvFault_of_kept (h : isRetired s (.plv p) = false) :
    bucket (plvFault p s) (.plv p) = min 63 (bucket s (.plv p) + 8) ∧
    (isRetired (plvFault p s) (.plv p) = true ↔ s.cyc.par.retAtPlv ≤ min 63 (bucket s (.plv p) + 8)) := by
  have hlevel := bucketAdd_bucket 8 h
  have hkept : isRetired (bucketAdd (.plv p) 8 s) (.plv p) = false := (bucketAdd_isRetired _ _ _ _).trans h
  have hcyc : (bucketAdd (.plv p) 8 s).cyc = s.cyc := bucketAdd_within _ _ _ .cycle (by decide)
  simp only [plvFault, hkept, hlevel, hcyc]
  by_cases hreach : s.cyc.par.retAtPlv ≤ min 63 (bucket s (.plv p) + 8)
  · rw [if_pos (by simpa using hreach), retirePlv_bucket]
    exact ⟨hlevel, iff_of_true retirePlv_isRetired hreach⟩
  · rw [if_neg (by simpa using hreach)]
    exact ⟨hlevel, iff_of_false (by simp [hkept]) hreach⟩

/-- A retired port keeps its level, and no record follows. -/
theorem plvFault_of_retired (h : isRetired s (.plv p) = true) :
    (plvFault p s).nva.buckets = s.nva.buckets ∧ (plvFault p s).nva.retired = s.nva.retired := by
  have hnoted : bucketAdd (.plv p) 8 s = noteFault (unitSrc s (.plv p)) 7 s := if_pos h
  have hstays : isRetired (bucketAdd (.plv p) 8 s) (.plv p) = true := (bucketAdd_isRetired _ _ _ _).trans h
  have hnone : plvFault p s = bucketAdd (.plv p) 8 s := if_neg (by simp [hstays])
  rw [hnone, hnoted]
  exact ⟨rfl, rfl⟩

theorem execPlvLaneFail_of_up {lane : Nat} (h : (portOf s p).lanes ≠ 0) :
    exec (.plvLaneFail t p lane) s = .next (plvFault p (updPort p (fun x => { x with lanes := 0 }) (atT t s))) :=
  congrArg Host.Outcome.next (if_neg h)

/-- Settles O51: the lost lane itself touches neither bucket nor record, and the fault of the port follows. -/
theorem portFaultsFillTheBucket : Obligations.PortFaultsFillTheBucket := by
  unfold Obligations.PortFaultsFillTheBucket
  intro t p lane s hup
  refine ⟨_, execPlvLaneFail_of_up hup, fun hkept => ?_, fun hretired => ?_⟩
  · exact plvFault_of_kept (s := updPort p (fun x => { x with lanes := 0 }) (atT t s)) hkept
  · obtain ⟨hbuckets, hrecords⟩ :=
      plvFault_of_retired (s := updPort p (fun x => { x with lanes := 0 }) (atT t s)) hretired
    refine ⟨?_, hrecords⟩
    rw [bucket, hbuckets]
    rfl

/-! ### Accumulators and the current store (R435, R438) -/

theorem recInsert_length (r : Rec) (l : List Rec) : (recInsert r l).length = l.length + 1 := by
  induction l with
  | nil => rfl
  | cons x xs ih =>
    rw [recInsert]
    split
    · rfl
    · simp [ih]

/-- A merge makes at most one record. -/
theorem recMerge_length_le (store seq : Nat) (b : Rec) (l : List Rec) :
    (recMerge store b seq l).length ≤ l.length + 1 := by
  rw [recMerge]
  split
  · simp
  · rw [recInsert_length]

/-- Accumulators that fit into what is free of the store leave it unfilled. -/
theorem writeAccs_unfilled {seq : Nat} {l : List Rec} {st : List Rec × List (Nat × Nat × Nat) × Bool}
    (hfit : st.1.length + l.length ≤ curMax) (hst : st.2.2 = false) : (l.foldl (writeAcc seq) st).2.2 = false := by
  induction l generalizing st with
  | nil => exact hst
  | cons a as ih =>
    have hroom : ¬curMax ≤ st.1.length := by
      rw [List.length_cons] at hfit
      omega
    refine ih ?_ ?_
    · have hone : (writeAcc seq st a).1.length ≤ st.1.length + 1 := recMerge_length_le _ _ _ _
      rw [List.length_cons] at hfit
      omega
    · simp [writeAcc, hroom, hst]

theorem recIs_code {code src epoch : Nat} {r : Rec} (h : recIs code src epoch r = true) : r.code = code := by
  simp only [recIs, Bool.and_eq_true, decide_eq_true_eq] at h
  obtain ⟨⟨⟨hcode, -⟩, -⟩, -⟩ := h
  exact hcode

@[simp] theorem mergeRec_code (a b : Rec) : (mergeRec a b).code = a.code := by
  unfold mergeRec
  split
  · rfl
  · split <;> rfl

/-- A list whose entries of one key take an occurrence holds its code. -/
theorem exists_code_of_merged {r : Rec} {src epoch : Nat} {l : List Rec}
    (h : l.any (recIs r.code src epoch) = true) :
    ∃ a ∈ l.map fun a => if recIs r.code src epoch a then mergeRec a r else a, a.code = r.code := by
  obtain ⟨a, ha, hkey⟩ := List.any_eq_true.1 h
  exact ⟨_, List.mem_map_of_mem ha, by rw [if_pos hkey, mergeRec_code, recIs_code hkey]⟩

/-- After an occurrence its code has an accumulator. -/
theorem exists_code_accumulate (r : Rec) (l : List Rec) : ∃ a ∈ accumulate r l, a.code = r.code := by
  unfold accumulate
  split_ifs with hkey hroom hover
  · exact exists_code_of_merged hkey
  · exact ⟨r, by simp, rfl⟩
  · exact exists_code_of_merged hover
  · exact ⟨{ r with source := overSrc, ovr := true }, by simp, rfl⟩

theorem accumulate_length_le (r : Rec) (l : List Rec) : (accumulate r l).length ≤ l.length + 1 := by
  unfold accumulate
  split_ifs <;> simp

/-! ### A write of a code (R436) -/

theorem recEvents_only_events {keys : List (Nat × Nat × Nat)} : onlyChanges [.events] s (keys.foldl recEvent s) :=
  foldl_only onlyChanges_refl fun _ _ h => recEvent_only partsWithin h

/-- What a write leaves of the recorder: one more write, no accumulator of its code, and the time of this write. -/
theorem flushCode_of_accumulated {code : Nat} (h : ∃ a ∈ s.evr.accs, a.code = code) :
    (flushCode code s).nva.recSeq = s.nva.recSeq + 1 ∧
    (flushCode code s).evr.accs = s.evr.accs.filter (·.code ≠ code) ∧
    (flushCode code s).evr.lastWrite = Tab.set s.evr.lastWrite code s.gt ∧
    (flushCode code s).evr.mramFull = (s.evr.mramFull || ((s.evr.accs.filter (·.code = code)).foldl
      (writeAcc (s.nva.recSeq + 1)) (s.nva.recCur, [], false)).2.2) := by
  obtain ⟨a, ha, hcode⟩ := h
  have hsome : ¬(s.evr.accs.filter (·.code = code)).isEmpty = true := by
    rw [List.isEmpty_iff]
    exact List.ne_nil_of_mem (List.mem_filter.2 ⟨ha, by simp [hcode]⟩)
  simp only [flushCode, if_neg hsome]
  generalize hs1 : State.mk .. = s1
  have hevents := recEvents_only_events (s := s1) (keys := ((s.evr.accs.filter (·.code = code)).foldl
    (writeAcc (s.nva.recSeq + 1)) (s.nva.recCur, [], false)).2.1)
  obtain ⟨-, -, -, -, hseq, -⟩ := hevents .records (by decide)
  have hevr : _ = s1.evr := hevents .recorder (by decide)
  rw [hseq, hevr, ← hs1]
  exact ⟨rfl, rfl, rfl, rfl⟩

/-- A table just set at a key holds what was set. -/
theorem find?_tabSet {α : Type} (m : Tab α) (k : Nat) (v : α) : Tab.find? (Tab.set m k v) k = some v := by
  induction m with
  | nil => simp [Tab.set, Tab.find?]
  | cons x r ih =>
    rw [Tab.set]
    split_ifs with hlt heq
    · simp [Tab.find?]
    · simp [Tab.find?]
    · rw [Tab.find?, if_neg (Ne.symm heq), ih]

/-! ### An occurrence (R430, R436) -/

/-- The state in which an occurrence has been accumulated and its code marked. -/
def accumulated (code src : Nat) (val : Int) (s : State) : State :=
  { s with
    evr := { s.evr with
      accs := accumulate (occRec 1 code src s.gt val (if codeDue code s then 0 else 1)) s.evr.accs
      suppressed := if codeDue code s then s.evr.suppressed else satInc 0xFFFFFFFF s.evr.suppressed }
    nva := { s.nva with marks := if code ∈ s.nva.marks then s.nva.marks else s.nva.marks ++ [code] } }

variable {code src : Nat} {val : Int}

theorem occurCore_of_due (h : codeDue code s = true) :
    occurCore code src val s = flushCode code (accumulated code src val s) := if_pos h

theorem occurCore_of_early (h : codeDue code s = false) :
    occurCore code src val s = accumulated code src val s := if_neg (Bool.eq_false_iff.1 h)

/-- While the store does not fill, an occurrence writes no EVR_MRAM_FULL. -/
theorem occur_of_unfilled (h : (occurCore code src val s).evr.mramFull = s.evr.mramFull) :
    occur code src val s = occurCore code src val s := by
  refine if_neg ?_
  rw [h]
  simp

theorem codeDue_iff (hengine : isRetired s (.engine 6) = false) :
    codeDue code s = true ↔ ∀ w, Tab.find? s.evr.lastWrite code = some w → w + sec ≤ s.gt := by
  cases hfind : Tab.find? s.evr.lastWrite code <;> simp [codeDue, hengine, hfind]

/-- The store has room for the accumulators of the code, or was full before. -/
theorem flushCode_accumulated_mramFull
    (hroom : s.evr.mramFull = true ∨ s.nva.recCur.length + s.evr.accs.length < curMax) :
    (flushCode code (accumulated code src val s)).evr.mramFull = s.evr.mramFull := by
  obtain ⟨-, -, -, hfull⟩ := flushCode_of_accumulated (s := accumulated code src val s) (code := code)
    (exists_code_accumulate _ _)
  rw [hfull]
  obtain hwas | hfit := hroom
  · have hwas' : (accumulated code src val s).evr.mramFull = true := hwas
    rw [hwas', hwas, Bool.true_or]
  · rw [writeAccs_unfilled ?_ rfl, Bool.or_false]
    · rfl
    · have hmine := List.length_filter_le (fun a : Rec => decide (a.code = code)) (accumulated code src val s).evr.accs
      have haccs : (accumulated code src val s).evr.accs.length ≤ s.evr.accs.length + 1 := accumulate_length_le _ _
      change s.nva.recCur.length + _ ≤ _
      omega

/-- Settles O53: an early occurrence only accumulates, a due one is followed by the write of its code. -/
theorem codesAreWrittenOncePerSecond : Obligations.CodesAreWrittenOncePerSecond := by
  unfold Obligations.CodesAreWrittenOncePerSecond
  intro code src val s hengine hroom
  refine ⟨fun w hw hearly => ?_, fun hdue => ?_⟩
  · have hnot : codeDue code s = false := Bool.eq_false_iff.2 fun h =>
      absurd ((codeDue_iff hengine).1 h w hw) (Nat.not_le.2 hearly)
    have hcore := occurCore_of_early (src := src) (val := val) hnot
    rw [occur_of_unfilled (by rw [hcore]; rfl), hcore]
    exact ⟨rfl, rfl, if_neg (Bool.eq_false_iff.1 hnot)⟩
  · have hcore := occurCore_of_due (src := src) (val := val) ((codeDue_iff hengine).2 hdue)
    rw [occur_of_unfilled (by rw [hcore, flushCode_accumulated_mramFull hroom]), hcore]
    obtain ⟨hseq, haccs, hlast, -⟩ := flushCode_of_accumulated (s := accumulated code src val s) (code := code)
      (exists_code_accumulate _ _)
    rw [hseq, haccs, hlast]
    exact ⟨rfl, fun a ha => by simpa using (List.mem_filter.1 ha).2, find?_tabSet _ _ _⟩

end

end Sys2Proof.Machine

/-! PROOFS. Clear records in a roll-up (R441 to R443): no merge, write or pruning touches them. -/

namespace Sys2Proof.Machine

-- One proof at a time: proofs that wait for one another in parallel each hold a stack against the memory limit.
set_option Elab.async false

section
variable {s : State} {r : Rec}

/-! ### The stores keep a clear record -/

theorem mem_recInsert {x : Rec} {l : List Rec} : r ∈ recInsert x l ↔ r = x ∨ r ∈ l := by
  induction l with
  | nil => simp [recInsert]
  | cons y ys ih =>
    rw [recInsert]
    split
    · simp
    · simp [ih, or_left_comm]

/-- No key names a clear record. -/
theorem recIs_of_clear {code src epoch : Nat} (h : r.clear = true) : recIs code src epoch r = false := by
  simp [recIs, h]

theorem mem_recMerge_of_clear {store seq : Nat} {b : Rec} {l : List Rec} (hclear : r.clear = true) (h : r ∈ l) :
    r ∈ recMerge store b seq l := by
  rw [recMerge]
  split
  · exact List.mem_map.2 ⟨r, h, by simp [recIs_of_clear hclear]⟩
  · exact mem_recInsert.2 (.inr h)

theorem mem_rollInto_of_clear {store : Nat} {x : Rec} {l : List Rec} (hclear : r.clear = true) (h : r = x ∨ r ∈ l) :
    r ∈ rollInto store l x := by
  rw [rollInto]
  split
  next => exact mem_recInsert.2 h
  next hx =>
    obtain rfl | hl := h
    · exact absurd hclear hx
    · exact mem_recMerge_of_clear hclear hl

/-- What enters a store record by record keeps the clear records of both. -/
theorem mem_foldl_of_clear {f : List Rec → Rec → List Rec} {xs l : List Rec}
    (hf : ∀ {x : Rec} {l : List Rec}, r = x ∨ r ∈ l → r ∈ f l x) (h : r ∈ xs ∨ r ∈ l) : r ∈ xs.foldl f l := by
  induction xs generalizing l with
  | nil => simpa using h
  | cons x xs ih =>
    refine ih ?_
    rw [List.mem_cons, or_assoc, or_left_comm] at h
    exact h.imp_right hf

theorem mem_dropOldest_of_clear {n : Nat} {l : List Rec} (hclear : r.clear = true) (h : r ∈ l) :
    r ∈ dropOldest n l := by
  induction l generalizing n with
  | nil => cases h
  | cons x xs ih =>
    cases n with
    | zero => exact h
    | succ n =>
      rw [dropOldest]
      split
      next => exact List.mem_cons.2 ((List.mem_cons.1 h).imp_right fun hx => ih hx)
      next hx =>
        obtain rfl | hx' := List.mem_cons.1 h
        · exact absurd hclear hx
        · exact ih hx'

/-! ### What an occurrence leaves of the archive -/

/-- The archive of two states is the same. -/
def sameArchive (a b : State) : Prop :=
  b.nva.recHour = a.nva.recHour ∧ b.nva.recDay = a.nva.recDay ∧ b.nva.recMon = a.nva.recMon

theorem sameArchive_trans {a b c : State} (h : sameArchive a b) (k : sameArchive b c) : sameArchive a c :=
  ⟨k.1.trans h.1, k.2.1.trans h.2.1, k.2.2.trans h.2.2⟩

theorem sameArchive_of_only {L : List Part} {a b : State} (h : onlyChanges L a b) (hL : Part.records ∉ L) :
    sameArchive a b := by
  obtain ⟨-, hhour, hday, hmon, -⟩ := h .records hL
  exact ⟨hhour, hday, hmon⟩

/-- A write goes to the current store. -/
theorem flushCode_sameArchive (code : Nat) (s : State) : sameArchive s (flushCode code s) := by
  unfold flushCode
  dsimp only
  split
  · exact ⟨rfl, rfl, rfl⟩
  · generalize hs1 : State.mk .. = s1
    have hwritten : sameArchive s s1 := by
      rw [← hs1]
      exact ⟨rfl, rfl, rfl⟩
    exact sameArchive_trans hwritten (sameArchive_of_only (recEvents_only_events (s := s1)) (by decide))

theorem occurCore_sameArchive (code src : Nat) (val : Int) (s : State) :
    sameArchive s (occurCore code src val s) := by
  cases hdue : codeDue code s with
  | false =>
    rw [occurCore_of_early hdue]
    exact ⟨rfl, rfl, rfl⟩
  | true =>
    rw [occurCore_of_due hdue]
    exact sameArchive_trans ⟨rfl, rfl, rfl⟩ (flushCode_sameArchive code (accumulated code src val s))

theorem occur_sameArchive (code src : Nat) (val : Int) (s : State) : sameArchive s (occur code src val s) := by
  unfold occur
  dsimp only
  split
  · exact sameArchive_trans (occurCore_sameArchive _ _ _ _) (occurCore_sameArchive _ _ _ _)
  · exact occurCore_sameArchive _ _ _ _

theorem recordBad_sameArchive (code : Nat) (s : State) : sameArchive s (recordBad code s) :=
  occur_sameArchive Code.evrRecordBad Src.sorrel (sgn32 code) { s with
    evr := { s.evr with bad := satInc 0xFFFF s.evr.bad } }

theorem recordBads_sameArchive (ps : List (Rec × Nat)) (s : State) :
    sameArchive s (ps.foldl (fun s p => recordBad p.1.code s) s) := by
  induction ps generalizing s with
  | nil => exact ⟨rfl, rfl, rfl⟩
  | cons p ps ih => exact sameArchive_trans (recordBad_sameArchive p.1.code s) (ih (recordBad p.1.code s))

/-! ### The roll-up (R441) -/

/-- A record stands in the three stores of the archive. -/
def archived (r : Rec) (s : State) : Prop := r ∈ s.nva.recHour ∧ r ∈ s.nva.recDay ∧ r ∈ s.nva.recMon

theorem archived_of_same {a b : State} (h : sameArchive a b) (k : archived r a) : archived r b := by
  obtain ⟨hhour, hday, hmon⟩ := h
  rwa [archived, hhour, hday, hmon]

/-- The days' roll-up copies the clear records of the day into the month. -/
theorem rollDays_archived (hclear : r.clear = true) (hhour : r ∈ s.nva.recHour) (hday : r ∈ s.nva.recDay) :
    archived r (rollDays s) := by
  refine ⟨hhour, List.mem_map.2 ⟨r, hday, by simp [hclear]⟩, List.mem_map.2 ⟨r, ?_, by simp [hclear]⟩⟩
  refine mem_foldl_of_clear (mem_rollInto_of_clear hclear) ?_
  by_cases hmon : r ∈ s.nva.recMon
  · exact .inr hmon
  · refine .inl (List.mem_append_right _ (List.mem_filter.2 ⟨hday, ?_⟩))
    simpa [hclear] using fun x hx (hxr : x = r) => hmon (hxr ▸ hx)

/-- Pruning drops no clear record (R443). -/
theorem prune_archived (hclear : r.clear = true) (h : archived r s) : archived r (prune s) := by
  obtain ⟨hhour, hday, hmon⟩ := h
  unfold prune
  dsimp only
  generalize archiveCount _ - archiveMax = excess
  generalize hs1 : State.mk .. = s1
  have hpruned : archived r s1 := by
    rw [← hs1]
    exact ⟨mem_dropOldest_of_clear hclear (List.mem_filter.2 ⟨hhour, by simp [hclear]⟩),
      mem_dropOldest_of_clear hclear (List.mem_filter.2 ⟨hday, by simp [hclear]⟩), hmon⟩
  split
  · exact archived_of_same (occur_sameArchive _ _ _ _) hpruned
  · exact hpruned

/-- A record of a list, none of whose places is among the bad ones, is among the good. -/
theorem mem_good {bad : List Nat} {l : List Rec} (h : r ∈ l) (hbad : ∀ i ∈ bad, l[i]? ≠ some r) :
    r ∈ ((l.zip (List.range l.length)).filter fun p => !(p.2 ∈ bad)).map (·.1) := by
  obtain ⟨i, hi, hr⟩ := List.mem_iff_getElem.1 h
  have hgood : i ∉ bad := fun hb => hbad i hb (by rw [List.getElem?_eq_getElem hi, hr])
  refine List.mem_map.2 ⟨(r, i), List.mem_filter.2 ⟨?_, by simpa using hgood⟩, rfl⟩
  refine List.mem_iff_getElem.2 ⟨i, by simpa using hi, ?_⟩
  simp [hr]

theorem rollUnit_archived {bad : List Nat} {k e : Nat} {rest : List (Nat × Nat)}
    (hwait : s.nva.rollWait = (k, e) :: rest) (hmem : r ∈ s.nva.recCur) (hepoch : r.epoch = e)
    (hclear : r.clear = true) (hbad : ∀ i ∈ bad, (s.nva.recCur.filter (·.epoch = e))[i]? ≠ some r) :
    archived r (rollUnit bad s) := by
  have hgood := mem_good (List.mem_filter.2 ⟨hmem, decide_eq_true hepoch⟩) hbad
  simp only [rollUnit, hwait]
  refine prune_archived hclear ?_
  generalize hs1 : State.mk .. = s1
  have hstored : r ∈ s1.nva.recHour ∧ r ∈ s1.nva.recDay := by
    rw [← hs1]
    exact ⟨mem_foldl_of_clear mem_recInsert.2 (.inl hgood), mem_foldl_of_clear (mem_rollInto_of_clear hclear) (.inl hgood)⟩
  obtain ⟨hhour, hday, -⟩ := recordBads_sameArchive (((s.nva.recCur.filter (·.epoch = e)).zip
    (List.range (s.nva.recCur.filter (·.epoch = e)).length)).filter (·.2 ∈ bad)) s1
  exact rollDays_archived hclear (hhour ▸ hstored.1) (hday ▸ hstored.2)

theorem bgWant_sameArchive (kind : Nat) (s : State) : sameArchive s (bgWant kind s) := by
  unfold bgWant
  split <;> exact ⟨rfl, rfl, rfl⟩

/-- Settles O54: the roll-up of the record's epoch archives it, and the next unit's request touches no store. -/
theorem clearRecordsAreCopiedUnchanged : Obligations.ClearRecordsAreCopiedUnchanged := by
  unfold Obligations.ClearRecordsAreCopiedUnchanged
  intro t bad k e rest r s u hrun hwait hmem hepoch hclear hbad h
  have hgo : ¬(5 ∉ (atT t s).hl.bgRun ∨ 5 = 4) := by simpa using hrun
  have hrolled : archived r (rollUnit bad { atT t s with hl := { s.hl with bgRun := s.hl.bgRun.filter (· ≠ 5) } }) :=
    rollUnit_archived hwait hmem hepoch hclear hbad
  simp only [exec, execBackgroundUnitDone, if_neg hgo] at h
  injection h with h
  subst h
  split
  · exact hrolled
  · exact archived_of_same (bgWant_sameArchive 5 _) hrolled

end

end Sys2Proof.Machine

/-! PROOFS. The service line (R470, R487), the boot and firmware commands (chapter 20), and accesses at the gates
(chapter 14): what each does where the conditions of its rule hold. -/

namespace Sys2Proof.Machine

-- One proof at a time: proofs that wait for one another in parallel each hold a stack against the memory limit.
set_option Elab.async false

section
variable {t : Nat} {s : State} {f : List Byte}

/-! ### Service frames (R470, R487) -/

theorem svcTake_of_valid {ty : Nat} {g : State → State} (hok : svcOk f = true) (hty : field f 2 1 = ty)
    (hrun : s.con.inReset = false) : svcTake ty f g (atT t s) = g (atT t s) := by
  simp [svcTake, hok, hty, hrun]

theorem svcTake_of_invalid {ty : Nat} {g : State → State} (hok : svcOk f = false) : svcTake ty f g s = s := by
  simp [svcTake, hok]

theorem svcSpeedwell_of_speedwell {g : State → State} (h : s.fwu.speedwell = true) : svcSpeedwell f g s = g s :=
  if_pos h

theorem svcSpeedwell_of_application {g : State → State} (h : s.fwu.speedwell = false) :
    svcSpeedwell f g s = svcAck f .notReady s := if_neg (Bool.eq_false_iff.1 h)

theorem svcGranted_of_no_key {op : Nat} {tgt : List Byte → Bool} {k : State → State}
    (h : noFirmwareKey s = true) : svcGranted f op tgt k s = k s := if_pos h

/-- Settles O48: an invalid frame is not taken, and what is taken outside Speedwell is answered NOT_READY. -/
theorem serviceFramesOutsideSpeedwell : Obligations.ServiceFramesOutsideSpeedwell := by
  unfold Obligations.ServiceFramesOutsideSpeedwell
  intro t f g hdr s
  refine ⟨fun hok c hc => ?_, fun hok hrun hspeed x hx hty => ?_⟩
  · simp only [List.mem_cons, List.not_mem_nil, or_false] at hc
    rcases hc with rfl | rfl | rfl | rfl | rfl <;> exact congrArg Host.Outcome.next (svcTake_of_invalid hok)
  · simp only [List.mem_cons, List.not_mem_nil, or_false] at hx
    rcases hx with rfl | rfl | rfl <;>
      exact congrArg Host.Outcome.next ((svcTake_of_valid hok hty hrun).trans (svcSpeedwell_of_application hspeed))

theorem svcChunk_of_no_key {hdr : Option ImageHdr} (hlen : field f 4 2 ≠ 0) (hword : field f 4 2 % 4 = 0)
    (hkey : noFirmwareKey s = true) (hargs : chunkArgsOk (field f 6 4) s.fwu.speedTotal (field f 4 2) = true) :
    svcChunk f hdr s = svcAck f .ok (chunkStore (field f 6 4) s.fwu.speedTotal (field f 4 2) hdr s) := by
  simp [svcChunk, hlen, hword, hargs, svcGranted_of_no_key hkey, svcStore]

theorem svcActivate_of_no_key (hkey : noFirmwareKey s = true) (himage : s.nva.slotA.complete = true)
    (hverified : speedwellStatus s = none) : svcActivate f s = speedwellInstall 2 (svcAck f .ok s) := by
  simp [svcActivate, himage, svcGranted_of_no_key hkey, hverified]

/-! ### Boot and firmware (R456, R461, R463) -/

/-- What a reset left is written as the module starts: the marks (R440), and the reset by L5 (R407). -/
def startRecords (s : State) : State :=
  let s2 := gateOpen 8 (writeUnflushed s)
  if s2.flt.hwSafe then occur Code.fltL5 Src.sv 0 s2 else s2

theorem startRecords_only : onlyChanges [.records, .events, .recorder, .clocks] s (startRecords s) :=
  have hopened : onlyChanges [.records, .events, .recorder, .clocks] s (gateOpen 8 (writeUnflushed s)) :=
    gateOpen_only partsWithin (writeUnflushed_only partsWithin onlyChanges_refl)
  ite_only (fun _ => occur_only partsWithin hopened) fun _ => hopened

theorem gateOpen_on {blk : Nat} : (gateOpen blk s).clk.on = s.clk.on := by
  unfold gateOpen
  dsimp only
  split <;> rfl

theorem startRecords_on : (startRecords s).clk.on = s.clk.on := by
  have hmarks : (writeUnflushed s).clk = s.clk :=
    writeUnflushed_only (L := allBut [.clocks]) partsWithin onlyChanges_refl .clocks (by decide)
  have hopened : (gateOpen 8 (writeUnflushed s)).clk.on = s.clk.on := by rw [gateOpen_on, hmarks]
  have hcode (v : State) : (occur Code.fltL5 Src.sv 0 v).clk = v.clk := occur_recording _ _ _ _ .clocks (by decide)
  unfold startRecords
  dsimp only
  split
  · rw [hcode, hopened]
  · exact hopened

/-- A module out of power-on reset, before its records (R453, R490). -/
def released (p : PorIn) (s : State) : State :=
  { s with
    mod := { s.mod with slot := p.slot % 16, stmElig := p.stmElig, variantX := p.variantX, serial := p.serial }
    con := { s.con with
      sense := true, powered := true, inReset := false, recover := p.recover, identity := false, porAt := s.gt }
    clk := { s.clk with on := true, xa := { s.clk.xa with st := 1, since := s.gt } }
    nva := { s.nva with
      xaSettle := if p.hdrOk then p.xaSettle else s.nva.xaSettle, boots := satInc 0xFFFFFFFF s.nva.boots }
    flt := { s.flt with l5Served := s.gt }
    fwu := { s.fwu with bootStep := 1, bootStart := s.gt, hdrOk := p.hdrOk && p.hdrSigOk, bstOk := true } }

theorem execPowerOnResetRelease_of_reset {p : PorIn} (h : s.con.inReset = true) :
    ∃ u, exec (.powerOnResetRelease t p) s = .next u ∧ u.con.inReset = false ∧ u.mod.slot = p.slot % 16 ∧
      u.mod.serial = p.serial ∧ u.nva.boots = satInc 0xFFFFFFFF s.nva.boots ∧ u.fwu.bootStep = 1 ∧
      u.fwu.bootStart = max s.gt t ∧ u.clk.on = true := by
  have hgo : ¬(!(atT t s).con.inReset) = true := by simp [h]
  refine ⟨startRecords (released p (atT t s)), congrArg Host.Outcome.next (if_neg hgo), ?_⟩
  have hframe := startRecords_only (s := released p (atT t s))
  have hcon := hframe .contacts (by decide)
  have hfwu := hframe .firmware (by decide)
  obtain ⟨-, hserial, hslot, -⟩ := hframe .modRest (by decide)
  obtain ⟨hboots, -⟩ := hframe .boots (by decide)
  rw [startRecords_on]
  exact ⟨congrArg ConS.inReset hcon, hslot, hserial, hboots, congrArg FwuS.bootStep hfwu,
    congrArg FwuS.bootStart hfwu, rfl⟩

/-- A step of the boot without a failed test. -/
theorem execBootStepDone_of_passed {b : BootIn} (hboot : booting s = true) (hlate : bootLate (atT t s) = false)
    (hfails : b.fails = []) (hkeys : b.keyDigestOk = true) (hrole : s.mod.tup.role ≠ .retired) :
    exec (.bootStepDone t b) s =
      .next (bootStepAct s.fwu.bootStep b (bootKinds s.fwu.bootStep [] (atT t s))) := by
  have hboot' : booting (atT t s) = true := hboot
  have hrole' : (bootKinds s.fwu.bootStep [] (atT t s)).mod.tup.role ≠ .retired := hrole
  have hcause : (if s.mod.tup.fw = .trial then s.nva.modRetired
      else (bootKinds s.fwu.bootStep [] (atT t s)).nva.modRetired) =
        (bootKinds s.fwu.bootStep [] (atT t s)).nva.modRetired := ite_self _
  simp [exec, execBootStepDone, hboot', hlate, hfails, hkeys, hrole', hcause]

/-! ### Accesses at the gates (R362 to R368) -/

/-- An allowed access leaves the gates as they are. -/
theorem gateDecide_snd_of_allowed {a : Access} (h : (gateDecide a s).1 = true) : (gateDecide a s).2 = s := by
  unfold gateDecide at h ⊢
  cases hat : gateAt a.addr with
  | none => rfl
  | some n =>
    simp only [hat] at h ⊢
    split_ifs at h ⊢ with harmed
    · rfl
    · cases hcheck : gateCheck s n a with
      | none => rfl
      | some k =>
        rw [hcheck] at h
        exact absurd h Bool.false_ne_true

theorem gateDecide_fst_atT {a : Access} : (gateDecide a (atT t s)).1 = (gateDecide a s).1 := by
  cases hat : gateAt a.addr with
  | none => simp [gateDecide, hat]
  | some n => cases hcheck : gateCheck s n a <;> simp [gateDecide, hat, hcheck, apply_ite Prod.fst]

/-- What an allowed access of the debug master finds at the gates. -/
theorem gateDecide_atT_of_allowed {a : Access} (h : (gateDecide a s).1 = true) :
    gateDecide a (atT t s) = (true, atT t s) := by
  have hallowed : (gateDecide a (atT t s)).1 = true := gateDecide_fst_atT.trans h
  exact Prod.ext hallowed (gateDecide_snd_of_allowed hallowed)

theorem execDebugAccess_of_write {a : Access} (hok : accessOk a = true) (hwrite : a.kind = 1)
    (hallowed : (gateDecide (asDebug a) s).1 = true) :
    exec (.debugAccess t a) s = .next (emit (.debug false []) (busWrite a.addr a.data { atT t s with
      flt := { s.flt with poison := s.flt.poison.filter fun w => !touches a w } })) := by
  simp [exec, execDebugAccess, debugEff, hok, hwrite, gateDecide_atT_of_allowed hallowed]

theorem busWrite_beside {a : Nat} {data : List Byte} (h : besideImages a data.length = true) :
    busWrite a data s = { s with mem := memWrite s.mem a data } := if_pos h

theorem execDebugAccess_of_read {a : Access} (hok : accessOk a = true) (hread : a.kind ≠ 1)
    (hallowed : (gateDecide (asDebug a) s).1 = true) (hsound : ∀ w ∈ s.flt.poison, touches a w = false) :
    exec (.debugAccess t a) s = .next { atT t s with
      free := s.free + a.len
      out := s.out ++ [.debug false (busRead s a.addr a.len)] } := by
  have hclean : s.flt.poison.any (touches a) = false := by simpa using hsound
  have hbus : busRead (atT t s) a.addr a.len = busRead s a.addr a.len := rfl
  simp [exec, execDebugAccess, debugEff, hok, hread, gateDecide_atT_of_allowed hallowed, hclean, hbus, emit]

theorem execGateProgramFault_of_denied {n : Nat} {a b : Access} {k : Nat × Nat × Nat × Bool} (hb : b = asIssued a)
    (hat : gateAt b.addr = some n) (hok : accessOk b = true) (hmaster : b.master < 17)
    (harmed : (gateOf s n).armed = true) (hin : isolated s b = false) (hopen : targetShut s n = false)
    (hcheck : gateCheck s n b = some k) :
    exec (.gateProgramFault t a) s = .next (deniedEff b (violate n b k (atT t s))) := by
  subst hb
  simp [exec, execGateProgramFault, hat, hok, hmaster, harmed, hin, hopen, hcheck]

/-- Settles O30: each clause is its command's effect where the conditions of its rule hold. -/
theorem bootServiceAndGateCommandsComplete : Obligations.BootServiceAndGateCommandsComplete := by
  unfold Obligations.BootServiceAndGateCommandsComplete
  refine ⟨?release, ?step, ?overrun, ?hash, ?reset, ?window, ?hello, ?grant, ?chunk, ?activate, ?status, ?expiry,
    ?access, ?write, ?read, ?denied⟩
  case release => exact fun _ _ _ => execPowerOnResetRelease_of_reset
  case step =>
    exact fun t b s hboot hlate hfails hkeys hrole =>
      ⟨_, _, execBootStepDone_of_passed hboot hlate hfails hkeys hrole, rfl, rfl⟩
  case overrun =>
    intro t s hboot hlate
    have hgo : (booting (atT t s) && bootLate (atT t s)) = true := by
      rw [Bool.and_eq_true]
      exact ⟨hboot, hlate⟩
    exact congrArg Host.Outcome.next (if_pos hgo)
  case hash =>
    intro t digest s hhashing hjob
    have hidle : ¬(updSlot (altSlot (atT t s)) (fun x => { x with complete := true, digest := digest })
        { atT t s with fwu := { s.fwu with hashing := false } }).chg.job.isSome = true := by
      simp [hjob]
    exact congrArg Host.Outcome.next ((if_pos hhashing).trans (if_neg hidle))
  case reset => exact fun _ _ hreset => congrArg Host.Outcome.next (if_pos hreset)
  case window =>
    intro t s htrial hend hdue hopen
    have hgo : (decide ((atT t s).mod.tup.fw = .trial) && decide ((atT t s).fwu.trialEnd ≠ 0) &&
        decide ((atT t s).fwu.trialEnd ≤ (atT t s).gt) && !(atT t s).fwu.windowFall) = true := by
      simp only [Bool.and_eq_true, decide_eq_true_eq]
      exact ⟨⟨⟨htrial, hend⟩, hdue⟩, by simp [hopen]⟩
    exact congrArg Host.Outcome.next (if_pos hgo)
  case hello =>
    exact fun t f s hok hty hrun => congrArg Host.Outcome.next (svcTake_of_valid hok hty hrun)
  case grant =>
    exact fun t f g s hok hty hrun hspeed hlen => congrArg Host.Outcome.next ((svcTake_of_valid hok hty hrun).trans
      ((svcSpeedwell_of_speedwell (s := atT t s) hspeed).trans (if_neg (not_not.2 hlen))))
  case chunk =>
    exact fun t f hdr s hok hty hrun hspeed hlen hword hkey hargs =>
      congrArg Host.Outcome.next ((svcTake_of_valid hok hty hrun).trans
        ((svcSpeedwell_of_speedwell (s := atT t s) hspeed).trans
          (svcChunk_of_no_key (s := atT t s) hlen hword hkey hargs)))
  case activate =>
    exact fun t f s hok hty hrun hspeed hkey himage hverified =>
      congrArg Host.Outcome.next ((svcTake_of_valid hok hty hrun).trans
        ((svcSpeedwell_of_speedwell (s := atT t s) hspeed).trans
          (svcActivate_of_no_key (s := atT t s) hkey himage hverified)))
  case status =>
    exact fun t f s hok hty hrun => congrArg Host.Outcome.next (svcTake_of_valid hok hty hrun)
  case expiry =>
    intro t s hmask hdue
    have hunlock : setUnlock 0 0 (atT t s) = occurU Code.gateUnlock (Src.gate 0) 0
        { atT t s with gate := { s.gate with mask := 0, expiry := 0 } } := if_neg fun h => hmask h.2
    exact congrArg Host.Outcome.next ((if_pos ⟨hmask, hdue⟩).trans hunlock)
  case access => exact fun _ _ _ => execDebugAccess_of_write
  case write =>
    intro t a s hok hwrite hallowed hbeside
    rw [execDebugAccess_of_write hok hwrite hallowed, busWrite_beside hbeside]
    rfl
  case read => exact fun _ _ _ => execDebugAccess_of_read
  case denied => exact fun _ _ _ _ _ _ => execGateProgramFault_of_denied

end

end Sys2Proof.Machine

/-! PROOFS. The register map after reset (Table 22.1). -/

namespace Sys2Proof.Machine

-- One proof at a time: proofs that wait for one another in parallel each hold a stack against the memory limit.
set_option Elab.async false

/-! ### The offsets of the map -/

/-- The 32-bit words of a block's 4 KiB up to its last register (Table 22.1). -/
def registerWords : Nat → Nat
  | 0 => 274
  | 1 => 16
  | 2 => 11
  | 3 => 14
  | 4 => 192
  | 5 => 13
  | 6 => 11
  | 7 => 13
  | 8 => 12
  | 9 => 18
  | 10 => 17
  | 11 => 7
  | 12 => 8
  | 13 => 11
  | 14 => 12
  | 15 => 12
  | _ => 0

theorem lt_of_registerIn {blk o : Nat} (h : registerIn blk o = true) : o < 4 * registerWords blk := by
  unfold registerIn at h
  split at h <;> simp only [decide_eq_true_eq, Bool.false_eq_true, registerWords] at h ⊢ <;> omega

/-- What holds where no register stands and throughout each block's words holds of every aligned offset of BAR0. -/
theorem forall_offsets {P : Nat → Prop} (hgap : ∀ off, registerAt off = false → P off)
    (hwords : ∀ blk < 16, ∀ i < registerWords blk, P (4096 * blk + 4 * i)) :
    ∀ off, off < 0x10000 → off % 4 = 0 → P off := by
  intro off hoff halign
  cases hreg : registerAt off with
  | false => exact hgap off hreg
  | true =>
    obtain ⟨-, hin⟩ := (Bool.and_eq_true _ _).mp hreg
    have hlast := lt_of_registerIn hin
    have hword := hwords (off / 4096) (by omega) (off % 4096 / 4) (by omega)
    rwa [show 4096 * (off / 4096) + 4 * (off % 4096 / 4) = off by omega] at hword

/-- An offset without a register is in no list of registers. -/
theorem notMem_of_gap {off : Nat} {l : List Nat} (hl : l.all registerAt = true) (h : registerAt off = false) :
    off ∉ l := fun hmem => Bool.false_ne_true (h.symm.trans (List.all_eq_true.1 hl off hmem))

/-- A table of registers has no entry for it either. -/
theorem getD_of_gap {off d : Nat} {m : Tab Nat} (hm : m.all (fun p => registerAt p.1) = true)
    (h : registerAt off = false) : Tab.getD m off d = d := by
  induction m with
  | nil => rfl
  | cons p r ih =>
    obtain ⟨k, v⟩ := p
    rw [List.all_cons, Bool.and_eq_true] at hm
    have hne : k ≠ off := fun heq => Bool.false_ne_true (h.symm.trans (heq ▸ hm.1))
    rw [Tab.getD, if_neg hne, ih hm.2]

/-- Settles O10: an offset without a register reads 0, and each block's words are read one by one. -/
theorem resetValuesOfRegisters : Obligations.ResetValuesOfRegisters := by
  unfold Obligations.ResetValuesOfRegisters
  refine forall_offsets (fun off hgap => ?_) fun blk hblk => ?_
  · rw [readReg_of_no_register _ hgap, if_neg (notMem_of_gap rfl hgap), if_neg (notMem_of_gap rfl hgap),
      if_neg (notMem_of_gap rfl hgap), if_neg (notMem_of_gap rfl hgap), getD_of_gap rfl hgap]
    rfl
  · interval_cases blk <;> decide +kernel

end Sys2Proof.Machine
